-- ==== Sys2Proof/Word.lean ====
section
/-!
DEFINITION. The word types of the Cualm 9600: a word is 32 bits (00_scope.md, Notation), a byte 8.
-/

namespace Sys2Proof

/-- A word: 32 bits. -/
abbrev Word := BitVec 32

/-- A byte: the unit of the global address map (00_scope.md, Notation). -/
abbrev Byte := BitVec 8

end Sys2Proof
end

