-- ==== Sys2Proof/Payload.lean ====
section
/-!
DEFINITION. The operand types of the commands: who makes an access, which 64-bit counter a read names, and what the
outside world hands the device (frames, packets, bus outcomes).
-/

namespace Sys2Proof

/-- An engine: Newts 0 to 255, then the Skink pairs SK0 (256) and SK1 (257). -/
abbrev Eng := Fin 258

/-- A requester of R41: each Newt, each Skink pair, each DMA channel, the debug port, and a Swimlink port (R323) on which
a request has arrived with the effective ring of R429. -/
inductive Req where
  | newt (n : Fin 256)
  | skink (p : Fin 2)
  | dma (ch : Fin 64)
  | debug
  | swl (port : Fin 8) (ring : Fin 4)
  deriving DecidableEq, Repr

/-- The 64-bit counters read as two words under a shadow (R40, R318, R321, and the register tables that say so).
`slice n` is the chained pair whose low word is SL_CNT of slice n and whose high word is that of slice n + 1. -/
inductive Counter64 where
  | tb
  | cap (c : Fin 32)
  | slice (n : Fin 63)
  | cgLast (g : Fin 32)
  | rstTb
  | wakeTb
  deriving DecidableEq, Repr

/-- What a window comparator compares, in µV: the voltage of its ball against AGND, the reference of its group in use, and how far its
operating point and its hysteresis lie from their nominal values (R88, R89, R541). -/
structure WmInput where
  vin : Int
  vref : Nat
  off : Int
  hyst : Int
  deriving DecidableEq, Repr

/-- The memories that R467 initialises to zero: the memories of a clutch, a bank of system SRAM. -/
inductive Mem where
  | clutch (c : Fin 16)
  | sram (k : Fin 8)
  deriving DecidableEq, Repr

/-- The monitored rails and banks (R530, R531). -/
inductive Rail where
  | vcore | vaon | vsram | vlink | vpll | vlinkio | vana | vnvm
  | vio (b : Fin 6)
  deriving DecidableEq, Repr

/-- What a memory word has come to hold: no error, one wrong bit, or two. -/
inductive Upset where
  | clean | single | double
  deriving DecidableEq, Repr

/-- Where the word that the scrubber reads lies: in the memory at its address, in the staged copy of a parameter page, in a
Skink pair's caches. -/
inductive ScrubAt where
  | map
  | staged
  | icache (p : Fin 2)
  | dcache (p : Fin 2)
  | ctx (p : Fin 2)
  deriving DecidableEq, Repr

/-- A serial interface with data FIFOs. -/
inductive SerialIf where
  | i2c (i : Fin 12)
  | spi (i : Fin 8)
  | uart (i : Fin 8)
  deriving DecidableEq, Repr

/-- Signal balls by the function that they carry (R463, R529); output o of PWM ball A of slice n is 2n, of B 2n + 1. -/
inductive Ball where
  | pwm (o : Nat)
  | frTx (p : Nat) | frRx (p : Nat)
  | xspiCs (x c : Nat) | xspiSck (x : Nat) | xspiData (x : Nat)
  | serial (f : SerialIf) | can (c : Nat)
  | gpio (i : Nat)
  | tripin (i : Nat) | tripout (j : Nat)
  | sdd (k : Nat) | sdc (c : Nat)
  | faultn | rstoutn | ownern | resetn | safen | mode | devaddr
  | jtag | test
  | ain (i : Nat) | vref (g : Nat)
  | refclk | xtal | tbsync
  | swl (l : Nat) | ethernet (m : Nat)
  deriving DecidableEq, Repr

/-- What the device does at a ball: it drives a level, pulls it weakly, leaves it high-impedance, keeps a lane in electrical idle, or
sends what the function of the ball brings. -/
inductive Drive where
  | low | high | pullUp | pullDown | z | idle | signal
  deriving DecidableEq, Repr

/-- The error counters of a CAN FD controller as bus errors and frames have left them (ISO 11898-1), and whether there has been a
protocol error. -/
structure CanErr where
  tec : BitVec 8
  rx : BitVec 8
  err : Bool
  deriving DecidableEq, Repr

/-- How an I2C controller transaction ends. -/
inductive I2cEnd where
  | done (data : List Byte)
  | nak
  | arbLost
  deriving DecidableEq, Repr

/-- A frame as it reaches FRppRX (R389 to R391): the bytes between SOF and EOF, whether every character was a valid data
code-group and EOF ended it, and the TB value at which its SOF arrived. -/
structure FrFrame where
  bytes : List Byte
  good : Bool
  sof : BitVec 64
  deriving DecidableEq, Repr

/-- A packet as it reaches a Swimlink port (R422): its bytes, from the header to the trailer. -/
structure SwlPkt where
  bytes : List Byte
  deriving DecidableEq, Repr

/-- What an IDENT packet says (R421). -/
structure SwlIdent where
  dev : BitVec 3
  port : BitVec 3
  depth : BitVec 3
  tandem : BitVec 8
  deriving DecidableEq, Repr

/-- What a heartbeat says (R438, R442): the sender, whether it owns, its mode, its count, and the handoff fields T, accepted, go. -/
structure SwlHb where
  dev : BitVec 3
  own : Bool
  mode : BitVec 4
  count : BitVec 16
  handT : Option (BitVec 64)
  accepted : Bool
  go : Bool
  deriving DecidableEq, Repr

/-- What a commit message says (R338): the group, T, the CRC, ta and the overflow bit of its sender. -/
structure SwlCmt where
  g : Fin 32
  t : BitVec 64
  crc : Word
  ta : BitVec 64
  ovf : Bool
  deriving DecidableEq, Repr

/-- A message whose payload bytes the spec does not lay out, and what a target did with a forwarded record (R430: 0 stored, 1 rejected,
2 full under backpressure, 3 fault). -/
inductive SwlMsg where
  | ident (m : SwlIdent)
  | hb (m : SwlHb)
  | cmt (m : SwlCmt)
  | result (r : BitVec 2)
  deriving DecidableEq, Repr

/-- A block (R416, R417): its sync header and the 64 bits after it, unscrambled, byte 0 in bits 7 to 0. -/
structure SwlBlk where
  sync : BitVec 2
  body : BitVec 64
  deriving DecidableEq, Repr

/-- Which case of R419 takes a port DOWN: a lane without block lock, silence, a packet sent 4 times. -/
inductive SwlFail where
  | lock
  | silence
  | resends
  deriving DecidableEq, Repr

/-- A TSYNC exchange (R434): as its requester, with the stamps t1 to t4; as the neighbour that answers, with the stamp of its reply. A
stamp is TB[40:0] and 7 fine bits. -/
inductive SwlTsync where
  | ask (seq : BitVec 7) (t1 t2 t3 t4 : BitVec 48)
  | answer (seq : BitVec 7) (stamp : BitVec 48)
  deriving DecidableEq, Repr

end Sys2Proof
end

