-- ==== Sys2Proof/Syntax.lean ====
section
/-!
DEFINITION. The commands of the Cualm 9600: one constructor per row of the table of operations and events, in its order,
with the row's operands. What the outside world settles (a raw code, a level, a frame) is an operand; what the device
itself holds is not.
-/

namespace Sys2Proof

/-- The commands. -/
inductive Instr where
  /-- A write of a valid freq_code stops the clutch clock and starts a relock of its generator (R22). -/
  | clutchClkWrite (q : Req) (c : Fin 16) (w : Word)
  /-- The clutch generator finishes relocking and the clock restarts at the new frequency (R22). -/
  | clutchRelockDone (c : Fin 16)
  /-- A transfer at the head of a handshake FIFO reaches its destination island (R17). -/
  | handshakeFifoDelivery (src : Fin 26) (dst : Fin 26)
  /-- An access to a dark, unreleased or reset island, or to an unlisted address, completes with an error response (R21). -/
  | accessErrorResponse (q : Req) (write : Bool) (a : Word) (v : Word)
  /-- The timebase PLL locks, TB resumes 1 ns counting, and tb_lossy and the cause bit are set (R37). -/
  | pllLock
  /-- A read of the low word of a 64-bit counter latches the high word into the requester's shadow (R40). -/
  | lowWordRead (q : Req) (c : Counter64)
  /-- After POR and the SYS release the session counter in NVM is incremented and session_valid is set (R493). -/
  | sessionIncrement
  /-- A timebase marker fires when TB crosses its power-of-two boundary (R47). -/
  | tbmarkFire (m : Fin 14)
  /-- A device joins the shared timebase after 16 TSYNC exchanges (R435). -/
  | timebaseJoin (masterTb : BitVec 64) (parentIn : Bool)
  /-- A change of a reference source clears the READY bits of the group's converters (R53). -/
  | refCfgWrite (q : Req) (w : Word)
  /-- The reference settles and the READY bits of its eight converters set again (R53). -/
  | vrefSettled (g : Fin 4)
  /-- A sampling group takes a trigger at its trigger tick, latches its settings and assigns a sequence number (R56). -/
  | sgTriggerTick (g : Fin 16)
  /-- At the trigger tick plus the delay, all enabled members of the group sample (R57). -/
  | samplingInstant (g : Fin 16)
  /-- A converter completes, corrects its raw code and delivers the result word to mailbox, FIFO, feed and limit checks (R66). -/
  | conversionDone (k : Fin 32) (raw : BitVec 16)
  /-- A direct-feed write leaves the analog island and is written into the bound Newt's operand-store word (R70). -/
  | feedWrite (sd : Bool) (k : Fin 32)
  /-- The 1 us busy interval after leaving low-power mode ends and the converter converts at full rate again (R55). -/
  | lpBusyEnd (k : Fin 32)
  /-- A read of CONV_FIFO pops the oldest result, or returns 0 and sets fifo_unf when empty (R76). -/
  | convFifoPop (q : Req) (k : Fin 32)
  /-- A sigma-delta data filter completes a result into SD_DATA and fires its producer and feed (R83). -/
  | sdDataResult (k : Fin 32) (bits : List Bool)
  /-- A sigma-delta fast-filter level SDFkH or SDFkL changes (R84). -/
  | sdFastLevelChange (k : Fin 32) (bits : List Bool)
  /-- An input unchanged for 64 modulator clocks sets stuck (R85). -/
  | sdStuck (k : Fin 32) (bits : List Bool)
  /-- A window comparator output changes after the input crosses its operating or release point (R95). -/
  | wmOutputChange (nn : Fin 96) (low : Bool) (x : WmInput)
  /-- A threshold write is applied directly or staged, and the DAC settles to the new code (R91). -/
  | wmThrWrite (q : Req) (nn : Fin 96) (w : Word)
  /-- One microsecond after a comparator is enabled its output starts to follow the input (R92). -/
  | wmEnableSettled (nn : Fin 96) (low : Bool) (x : WmInput)
  /-- A window open for max_len ns closes and forced is set (R100). -/
  | bwMaxLenExpiry (w : Fin 32)
  /-- A producer firing or gate edge reaches a consumer input, which activates its consumer, merges or overruns (R106). -/
  | fabricActivation (i : Fin 3072)
  /-- A write of sw_trig presents a software edge at a consumer input (R110). -/
  | swTrig (q : Req) (i : Fin 3072) (w : Word)
  /-- Loads A or E from the operand (R210). -/
  | ld (e : Eng)
  /-- Stores A or E to the destination (R210). -/
  | st (e : Eng)
  /-- Adds the operand to A and sets the flags (R193). -/
  | add (e : Eng)
  /-- Subtracts the operand from A and sets the flags (R193). -/
  | sub (e : Eng)
  /-- Sets the flags from A minus the operand without changing A (R193). -/
  | cmp (e : Eng)
  /-- Bitwise AND into A (R193). -/
  | and_ (e : Eng)
  /-- Bitwise OR into A (R193). -/
  | or_ (e : Eng)
  /-- Bitwise XOR into A (R193). -/
  | xor (e : Eng)
  /-- Shifts A left by the count (R194). -/
  | shl (e : Eng)
  /-- Shifts A right with zero fill (R194). -/
  | shr (e : Eng)
  /-- Shifts A right with sign fill (R194). -/
  | asr (e : Eng)
  /-- Signed 64-bit product into E:A (R193). -/
  | mul (e : Eng)
  /-- Unsigned 64-bit product into E:A (R193). -/
  | mulu (e : Eng)
  /-- Q31 multiply-accumulate of op and W into A with one rounding and saturation (R198). -/
  | mac (e : Eng)
  /-- Q31 multiply-subtract of op and W from A with one rounding and saturation (R198). -/
  | macs (e : Eng)
  /-- Signed division: quotient in A, remainder in E (R196). -/
  | div (e : Eng)
  /-- Unsigned division: quotient in A, remainder in E (R196). -/
  | divu (e : Eng)
  /-- Signed division: remainder in A, quotient in E (R196). -/
  | rem (e : Eng)
  /-- Replaces A with its absolute value (R193). -/
  | abs (e : Eng)
  /-- Replaces A with its negation (R193). -/
  | neg (e : Eng)
  /-- Saturates A to a signed or unsigned width (R195). -/
  | sat (e : Eng)
  /-- Clamps A between E and the operand (R193). -/
  | clamp (e : Eng)
  /-- Binary32 addition into A (R200). -/
  | fadd (e : Eng)
  /-- Binary32 subtraction into A (R200). -/
  | fsub (e : Eng)
  /-- Binary32 multiplication into A (R200). -/
  | fmul (e : Eng)
  /-- Fused binary32 multiply-add of op and W into A (R200). -/
  | fmac (e : Eng)
  /-- Binary32 division into A (R200). -/
  | fdiv (e : Eng)
  /-- Binary32 square root of the operand into A (R200). -/
  | fsqrt (e : Eng)
  /-- IEEE minimum of A and the operand (R202). -/
  | fmin (e : Eng)
  /-- IEEE maximum of A and the operand (R202). -/
  | fmax (e : Eng)
  /-- Compares A with the operand and sets the flags (R203). -/
  | fcmp (e : Eng)
  /-- Converts int32 in A to binary32 (R204). -/
  | fcvtI2f (e : Eng)
  /-- Converts uint32 in A to binary32 (R204). -/
  | fcvtU2f (e : Eng)
  /-- Converts binary32 in A to int32 under rm (R204). -/
  | fcvtF2i (e : Eng)
  /-- Converts binary32 in A to uint32 under rm (R204). -/
  | fcvtF2u (e : Eng)
  /-- Far word load into A that sets a reservation on its granule (R221). -/
  | ldrsv (e : Eng)
  /-- Conditional far store that succeeds only for the oldest valid reservation and sets z (R222). -/
  | stcnd (e : Eng)
  /-- A reservation ends 2 us after the target recorded it (R223). -/
  | reservationExpiry (e : Eng)
  /-- Loads X from the operand (R210). -/
  | ldx (e : Eng)
  /-- Loads Y from the operand (R210). -/
  | ldy (e : Eng)
  /-- Stores X to the operand (R210). -/
  | stx (e : Eng)
  /-- Stores Y to the operand (R210). -/
  | sty (e : Eng)
  /-- Adds the operand to X (R210). -/
  | addx (e : Eng)
  /-- Adds the operand to Y (R210). -/
  | addy (e : Eng)
  /-- Writes XMOD from the operand field (R182). -/
  | modx (e : Eng)
  /-- Writes YMOD from the operand field (R182). -/
  | mody (e : Eng)
  /-- Copies one word from source to destination (R211). -/
  | mov (e : Eng)
  /-- Copies a run of words, interruptible between words and resumable (R212). -/
  | bmov (e : Eng)
  /-- Unconditional branch (R216). -/
  | br (e : Eng)
  /-- Branch when z is 1 (R216). -/
  | bz (e : Eng)
  /-- Branch when z is 0 (R216). -/
  | bnz (e : Eng)
  /-- Branch when n is 1 (R216). -/
  | bn (e : Eng)
  /-- Branch when n and z are 0 (R216). -/
  | bp (e : Eng)
  /-- Branch when c is 1 (R216). -/
  | bc (e : Eng)
  /-- Branch when v is 1 (R216). -/
  | bv (e : Eng)
  /-- Pushes a CALL entry onto the call stack and branches (R218). -/
  | call (e : Eng)
  /-- Pops a CALL entry of the current ring and returns, or raises the gate fault (R218). -/
  | ret (e : Eng)
  /-- Arms a zero-overhead loop set with start, end and count (R220). -/
  | loop (e : Eng)
  /-- Completes at once on a selected event flag or puts the engine to sleep (R229). -/
  | waitev (e : Eng)
  /-- A selected activation wakes a sleeping WAITEV, which writes A and clears the flags (R229). -/
  | waitevWake (e : Eng)
  /-- Fires the engine's own fabric producer (R231). -/
  | sigev (e : Eng)
  /-- Appends four near words as one record to a queue (R225). -/
  | qput (e : Eng)
  /-- Removes the oldest record of a queue into four near words (R225). -/
  | qget (e : Eng)
  /-- Copies the oldest record of a queue without removing it (R225). -/
  | qpeek (e : Eng)
  /-- Returns the number of records in a queue in A (R225). -/
  | qcount (e : Eng)
  /-- The queue manager's response to a queue instruction returns to the waiting engine (R226). -/
  | queueResponse (e : Eng)
  /-- Posts an arm request for a commit group behind earlier far writes (R233). -/
  | commit (e : Eng)
  /-- Presents a software edge at a snapshot unit's consumer input (R234). -/
  | snap (e : Eng)
  /-- Waits until the far-store buffer is empty and all far writes are acknowledged (R157). -/
  | fence (e : Eng)
  /-- The last outstanding far write is acknowledged and the fence completes (R157). -/
  | fenceComplete (e : Eng)
  /-- Waits for earlier bank stores and refetches from the next address (R151). -/
  | isync (e : Eng)
  /-- Calls through a gate descriptor into its target ring (R236). -/
  | gate (e : Eng)
  /-- Returns from a gate to the caller's ring (R237). -/
  | gret (e : Eng)
  /-- Restores the newest context and continues at its PC (R238). -/
  | eret (e : Eng)
  /-- Reads TB into A and E (R38). -/
  | tbrd (e : Eng)
  /-- Sets or clears constant-time mode (R240). -/
  | ctmode (e : Eng)
  /-- Raises vector 14 precisely (R239). -/
  | trap (e : Eng)
  /-- Halts the engine when breakpoint halting is armed, otherwise acts as TRAP (R239). -/
  | bkpt (e : Eng)
  /-- At a bundle boundary the highest takeable LIC input is entered (R263). -/
  | interruptEntry (e : Eng)
  /-- A pending vector 13, 10 or 17 is taken at the next bundle boundary (R249). -/
  | asyncExceptionEntry (e : Eng)
  /-- The moderation interval of an input ends and it becomes takeable again (R264). -/
  | moderationExpiry (e : Eng) (i : Fin 64)
  /-- A write to LIC_SWP sets or clears software pending bits (R265). -/
  | licSwpWrite (q : Req) (e : Eng) (hiWord : Bool) (w : Word)
  /-- A write to ROUTE_CFG moves a router source to another LIC input in one AON cycle (R268). -/
  | routeCfgWrite (q : Req) (src : Fin 512) (w : Word)
  /-- A router source level change reaches the LIC of its engine (R269). -/
  | routerSourceChange (src : Fin 512)
  /-- The response to a far load returns and the stalled engine continues (R25). -/
  | farLoadResponse (e : Eng)
  /-- A far-store buffer entry is written into the target island's FIFO (R154). -/
  | farStoreDrain (e : Eng)
  /-- An error response to a buffered store records FAR_STAT and makes vector 10 pending (R156). -/
  | impreciseStoreFault (e : Eng)
  /-- A write of key 0xA5 reloads the Newt watchdog, any other key sets bad_key (R158). -/
  | wdtKick (q : Req) (n : Fin 256) (w : Word)
  /-- The Newt watchdog reaches 0 and takes vector 13 or halts the Newt (R159). -/
  | wdtExpiry (n : Fin 256)
  /-- run changing to 1 starts the Newt at vector 0 (R161). -/
  | newtRunStart (q : Req) (n : Fin 256) (w : Word)
  /-- run changing to 0 halts the Newt after the bundle in E (R162). -/
  | newtRunStop (q : Req) (n : Fin 256) (w : Word)
  /-- CACHE_OP invalidates a line or a whole Skink cache (R165). -/
  | cacheInvalidate (p : Fin 2) (w : Word)
  /-- CACHE_OP cleans a line or the whole D-cache (R165). -/
  | cacheClean (p : Fin 2) (w : Word)
  /-- CACHE_OP cleans and invalidates a line or a whole cache (R165). -/
  | cacheCleanInvalidate (p : Fin 2) (w : Word)
  /-- A Skink cache miss completes its line fill (R167). -/
  | cacheLineFill (p : Fin 2)
  /-- A write reaches a slice, is captured at a tick edge and governs from the next tick (R278). -/
  | sliceWriteCapture (n : Fin 64)
  /-- A counting slice reaches count 0, fires its zero event and loads ZERO shadows (R276). -/
  | sliceZero (n : Fin 64)
  /-- A slice reaches its period count and fires its period event (R276). -/
  | slicePeriod (n : Fin 64)
  /-- A compare register's action tick arrives, its event fires and its action places an edge (R283). -/
  | compareMatch (n : Fin 64) (c : Fin 4)
  /-- An edge-list entry's action tick arrives and acts on its output (R287). -/
  | edgeListEntry (n : Fin 64) (outB : Bool) (j : Fin 8)
  /-- A write of sw_sync synchronises the slice counter from PHS (R280). -/
  | swSync (q : Req) (n : Fin 64) (w : Word)
  /-- An activation of the slice synchronisation input sets the counter position (R280). -/
  | sliceSync (n : Fin 64)
  /-- A write of sw_start starts an armed ONESHOT slice (R282). -/
  | swStart (q : Req) (n : Fin 64) (w : Word)
  /-- An activation of the slice start input starts an armed ONESHOT slice or sets sovr (R282). -/
  | sliceStart (n : Fin 64)
  /-- run coming to govern as 1 starts a slice as if synchronised (R281). -/
  | sliceRunStart (n : Fin 64)
  /-- A slice whose run is 0 stops at the end of its present period and takes its idle levels (R281). -/
  | sliceStop (n : Fin 64)
  /-- The fine-delay tables are recalibrated every 1 ms (R298). -/
  | fineDelayRecal
  /-- A zone input becoming 1 sets the trip state and overrides the outputs it names (R304). -/
  | tripStateSet (z : Fin 32)
  /-- A write of 1 to tripped clears the trip state when the zone input is 0 (R305). -/
  | trippedWrite (q : Req) (z : Fin 32) (w : Word)
  /-- A TRIPIN ball's deglitched level changes and its producer fires (R311). -/
  | tripinChange (i : Fin 32) (high : Bool) (since : Nat)
  /-- SAFEn going low sets hold, takes every ball safe and enters SAFEHOLD (R314). -/
  | safenLow
  /-- A ring-0 release clears hold when allowed, otherwise sets rel_refused (R314). -/
  | safeRelease (q : Req) (w : Word) (safenHigh : Bool)
  /-- A ring-0 trip_clr leaves TRIPPED for SAFEHOLD when no escalating zone is tripped (R316). -/
  | tripClr (q : Req) (w : Word)
  /-- A capture channel activation writes the TB value into its register (R317). -/
  | capture (c : Fin 32)
  /-- A read of CAP_LO marks the capture read and latches its high word (R318). -/
  | capLoRead (q : Req) (c : Fin 32)
  /-- A write of arm to CG_ARM posts an arm request (R329). -/
  | cgArm (q : Req) (g : Fin 32) (w : Word)
  /-- A write of cancel disarms the group and discards its staged state when in time (R331). -/
  | cgCancel (q : Req) (g : Fin 32) (w : Word)
  /-- An arm request reaches the commit controller and arms the group or sets dbl_arm (R329). -/
  | armRequestArrival (g : Fin 32)
  /-- A write to staged state stores into the staged copy under its commit group (R325). -/
  | stagedWrite (q : Req) (a : Word) (w : Word)
  /-- A write to CC_RSEL sets the group that a requester's staged writes carry (R324). -/
  | ccRselWrite (q : Req) (r : Fin 331) (w : Word)
  /-- A read of CC_SRD_DATA returns the staged or active value of the selected word (R326). -/
  | ccSrdRead (q : Req)
  /-- At the commit tick every staged word and dirty page of the group becomes active (R332). -/
  | commitApply (g : Fin 32)
  /-- The refill of a flipped page's staged copy completes (R328). -/
  | pageRefreshDone (c : Fin 16) (p : Fin 64)
  /-- A commit message from a participant arrives and is compared for T and CRC (R339). -/
  | sharedCommitMessage (l : Fin 8) (p : SwlPkt) (m : SwlCmt)
  /-- A participant's message still missing at T + 10,000 refuses the commit with absent (R340). -/
  | sharedCommitAbsent (g : Fin 32)
  /-- A snapshot unit activation takes all source words in one tick (R341). -/
  | snapshot (u : Fin 8)
  /-- The snapshot page is written and acknowledged and done sets (R343). -/
  | snapshotComplete (u : Fin 8)
  /-- A write of word 0 to 2 to a queue port fills the requester's put buffer (R361). -/
  | portPutWord (q : Req) (d : Fin 16384) (j : Fin 3) (w : Word)
  /-- A write of word 3 appends the put buffer as one record or sets port_err (R362). -/
  | portPutAppend (q : Req) (d : Fin 16384) (w : Word)
  /-- A read of offset 0x10 removes the oldest record into the get buffer (R363). -/
  | portGet (q : Req) (d : Fin 16384)
  /-- A read of offset 0x20 copies the oldest record into the get buffer (R363). -/
  | portPeek (q : Req) (d : Fin 16384)
  /-- A read of offset 0x24 returns the queue's count (R361). -/
  | portCount (q : Req) (d : Fin 16384)
  /-- A port put held 10 us on a full backpressure queue ends with an error (R364). -/
  | portPutTimeout (q : Req)
  /-- A descriptor write setting en checks the descriptor and enables the queue (R354). -/
  | queueEnable (q : Req) (d : Fin 16384) (w : Word)
  /-- A descriptor write clearing en disables the queue and ends waiting puts with a fault (R354). -/
  | queueDisable (q : Req) (d : Fin 16384) (w : Word)
  /-- The queue manager finishes clearing the descriptors and sets ready (R359). -/
  | qmInitDone
  /-- A write of start makes a channel busy and fetches its first TD (R365). -/
  | dmaStart (q : Req) (ch : Fin 64) (w : Word)
  /-- A write of abort stops a busy channel, which completes with status 0x04 (R379). -/
  | dmaAbort (q : Req) (ch : Fin 64) (w : Word)
  /-- A transfer descriptor fetch completes and is checked for a bad TD (R367). -/
  | dmaTdFetch (ch : Fin 64)
  /-- At a burst boundary the arbiter grants the highest-priority ready channel (R370). -/
  | dmaBurstGrant
  /-- A source word returns and its write is issued, or an error stops the channel (R370). -/
  | dmaReadResponse (ch : Fin 64)
  /-- A channel completes a TD and sends its completion record (R374). -/
  | dmaCompletion (ch : Fin 64)
  /-- A write error arriving after the record was sent sets late_err (R376). -/
  | dmaLateError (ch : Fin 64)
  /-- A Fieldring receiver gains lock after 16 valid IDLE sets (R388). -/
  | frLockGained (p : Fin 48)
  /-- A Fieldring receiver loses lock and the port enters BROKEN (R388). -/
  | frLockLost (p : Fin 48)
  /-- A FAULT set arrives, the port enters BROKEN and records fault_node (R408). -/
  | frFaultReceived (p : Fin 48) (node : BitVec 7)
  /-- A write of enum starts an enumeration of the ring (R407). -/
  | frEnum (q : Req) (p : Fin 48) (w : Word)
  /-- The ENUM frame returns, nodes and Dr are recorded and the port enters RUN or CHECK (R403). -/
  | frEnumReturn (p : Fin 48) (hop : BitVec 7) (dr : BitVec 20)
  /-- An ENUM not returned after 100 us sets enum_to and returns to SYNC (R403). -/
  | frEnumTimeout (p : Fin 48)
  /-- A write of kick sets a node's pending bit (R401). -/
  | frKick (q : Req) (p : Fin 48) (w : Word)
  /-- When the line allows, the port takes a command record and sends its request frame (R401). -/
  | frCommandStart (p : Fin 48)
  /-- A frame reaching FRppRX is judged against the oldest outstanding request and a record is put (R394). -/
  | frFrameReceived (p : Fin 48) (f : FrFrame)
  /-- A request with no answer by its limit times out and is retried or completed (R395). -/
  | frTimeout (p : Fin 48)
  /-- A poll schedule cycle begins (R409). -/
  | frCycleStart (p : Fin 48)
  /-- A schedule entry falls due and its poll is sent or skipped (R410). -/
  | frPollDue (p : Fin 48) (i : Fin 256)
  /-- An activation of the poll trigger sends every triggered schedule entry (R412). -/
  | frPollTrigger (p : Fin 48)
  /-- An enabled port leaves DOWN for TRAIN after 10 us (R418). -/
  | swlTrainStart (l : Fin 8)
  /-- A lane gains block lock and, with both locked, the port aligns (R418). -/
  | swlBlockLock (l : Fin 8) (lane : Fin 2) (skew : Option Nat)
  /-- A lost lock, silence or unacknowledged packet takes the port DOWN and sets link_fail (R419). -/
  | swlLinkFail (l : Fin 8) (f : SwlFail)
  /-- An IDENT packet is checked and the port enters UP or sets dup_addr or id_err (R421). -/
  | swlIdent (l : Fin 8) (p : SwlPkt) (m : SwlIdent)
  /-- A remote read request arrives and is served or forwarded (R427). -/
  | swlRdreq (l : Fin 8) (p : SwlPkt)
  /-- A remote write request arrives and is performed or forwarded (R427). -/
  | swlWrreq (l : Fin 8) (p : SwlPkt)
  /-- A read response arrives and completes its request (R427). -/
  | swlRdrsp (l : Fin 8) (p : SwlPkt)
  /-- A write acknowledgement arrives and acknowledges its write (R427). -/
  | swlWrack (l : Fin 8) (p : SwlPkt) (r : BitVec 2)
  /-- An error response arrives and ends its request with an error (R424). -/
  | swlErrrsp (l : Fin 8) (p : SwlPkt)
  /-- A forwarded queue record arrives and is put into the target queue (R430). -/
  | swlQrec (l : Fin 8) (p : SwlPkt)
  /-- A heartbeat packet arrives from a device (R438). -/
  | swlHb (l : Fin 8) (p : SwlPkt) (m : SwlHb)
  /-- A remote reset packet arrives and starts a SYS reset when allowed (R441). -/
  | swlRrst (l : Fin 8) (p : SwlPkt)
  /-- A credit block acknowledges packets, returns credits or requests a resend (R423). -/
  | swlCrd (l : Fin 8) (b : SwlBlk)
  /-- An event block arrives and schedules its imports or sets ev_lost (R432). -/
  | swlEvtBlock (l : Fin 8) (a b : SwlBlk) (joined : Bool)
  /-- An import producer fires 40 ns after the export stamp (R431). -/
  | swlImportFire (l : Fin 8) (ev : Fin 64)
  /-- A remote request without response after 20 us ends with an error (R428). -/
  | swlRequestTimeout
  /-- Every 65,536 ns a TSYNC request and reply measure and correct the offset (R434). -/
  | tsyncExchange (l : Fin 8) (x : SwlTsync)
  /-- Every 2,000 ns a heartbeat is sent on every UP port (R438). -/
  | hbSend
  /-- No heartbeat from the partner for 6,600 ns marks it lost and may take ownership (R438). -/
  | partnerLost
  /-- Holdover of 10 ms without rejoin clears joined (R436). -/
  | holdoverExpiry
  /-- Loss of TBSYNC_IN switches the PLL to REFCLK and sets tbsync_lost (R436). -/
  | tbsyncLost
  /-- Master heartbeats lost on every port make the lowest backup device master (R436). -/
  | masterLost
  /-- A sensed OWNERn level held for 1 us takes or gives up ownership (R440). -/
  | ownerSense (level : Bool)
  /-- With no owner for 4,000 ns the priority device takes ownership (R440). -/
  | noOwnerTimeout
  /-- A ring-0 claim sets own at once (R440). -/
  | swlClaim (q : Req) (w : Word)
  /-- A ring-0 yield clears own at once (R440). -/
  | swlYield (q : Req) (w : Word)
  /-- A ring-0 handoff starts a planned handover at time T (R442). -/
  | swlHandoff (q : Req) (w : Word)
  /-- At tick T the owner releases and the partner takes ownership, or hand_fail sets (R442). -/
  | handoffTick
  /-- A ring-0 write of key 0x5A to SWL_RRST sends a remote reset (R441). -/
  | swlRrstSend (q : Req) (w : Word)
  /-- A forwarding queue's record is sent as QREC and removed or kept by the target's result (R430). -/
  | qfwdSend (k : Fin 64)
  /-- A record kept for a full backpressure target is resent every 1 us (R430). -/
  | qfwdResend (k : Fin 64)
  /-- The MAC takes a tx record, sends the frame, stamps it and puts a txdone record (R445). -/
  | macTxFrame (m : Fin 2) (sfd : BitVec 64) (fine : BitVec 7)
  /-- The MAC receives a frame into an rxfree buffer, stamps it and puts an rx record (R445). -/
  | macRxFrame (m : Fin 2) (frame : List Byte) (fcsOk : Bool) (sfd : BitVec 64) (fine : BitVec 7)
  /-- A write of go runs one xSPI command on the named chip select (R449). -/
  | xspiCommand (q : Req) (x : Fin 2) (w : Word)
  /-- An xSPI command ends, busy clears and done sets (R449). -/
  | xspiCommandDone (x : Fin 2) (data : List Byte)
  /-- A write of go starts a controller transaction with START (R452). -/
  | i2cGo (q : Req) (i : Fin 12) (w : Word)
  /-- A controller transaction ends, with done, nak or arb_lost (R452). -/
  | i2cTransactionDone (i : Fin 12) (o : I2cEnd)
  /-- The SMBus clock-low timeout expires and the bus is released (R452). -/
  | i2cTimeout (i : Fin 12)
  /-- In target mode one of the controller's addresses is received (R452). -/
  | i2cAddressed (i : Fin 12) (addr : BitVec 7) (read : Bool) (data : List Byte) (taken : BitVec 8)
  /-- A write of an I2C, SPI or UART data register pushes the transmit FIFO or sets tx_ovf (R453). -/
  | dataPush (q : Req) (f : SerialIf) (w : Word)
  /-- A read of an I2C, SPI or UART data register pops the receive FIFO or sets rx_unf (R453). -/
  | dataPop (q : Req) (f : SerialIf)
  /-- An SPI word finishes shifting in both directions (R453). -/
  | spiWordDone (i : Fin 8) (w : Word)
  /-- A write of cs_end releases CSn after the word in progress (R453). -/
  | csEnd (q : Req) (i : Fin 8) (w : Word)
  /-- A UART character is received with its framing and parity status (R453). -/
  | uartRxChar (i : Fin 8) (ch : BitVec 9) (fe : Bool) (pe : Bool)
  /-- A UART character finishes transmitting (R453). -/
  | uartTxChar (i : Fin 8)
  /-- A CAN FD frame is received, stamped and placed in the receive buffer (R454). -/
  | canRxFrame (c : Fin 8) (f : List Word) (sof : BitVec 64) (e : CanErr)
  /-- A requested transmit buffer's frame is sent and stamped (R454). -/
  | canTxFrame (c : Fin 8) (b : Fin 32) (sof : BitVec 64) (e : CanErr)
  /-- Setting a TXREQ bit requests a transmit buffer or refuses an invalid one (R458). -/
  | canTxreq (q : Req) (c : Fin 8) (w : Word)
  /-- Setting a TXABORT bit aborts a pending transmit request (R454). -/
  | canTxabort (q : Req) (c : Fin 8) (w : Word)
  /-- A write of pop removes the oldest received frame (R454). -/
  | canRxpop (q : Req) (c : Fin 8) (w : Word)
  /-- A write of recover starts bus-off recovery (R454). -/
  | canRecover (q : Req) (c : Fin 8) (w : Word)
  /-- The controller goes bus-off and sets bus_off_seen (R454). -/
  | canBusOff (c : Fin 8)
  /-- A GPIO ball level changes and fires its producer on selected edges (R457). -/
  | gpioInputChange (i : Fin 32) (level : Bool)
  /-- An activation of a GPIO output action clears, sets or toggles the output (R457). -/
  | gpioOutputAction (i : Fin 32)
  /-- JTAG BYPASS instruction (R443). -/
  | bypass
  /-- JTAG IDCODE instruction returns 0x1960_0B5D (R455). -/
  | idcode
  /-- JTAG SAMPLE/PRELOAD instruction (R443). -/
  | samplePreload (bits : List Bool)
  /-- JTAG EXTEST instruction, bypass while debug is locked (R455). -/
  | extest
  /-- JTAG HIGHZ instruction, bypass while debug is locked (R455). -/
  | highz
  /-- Debug halts a set of engines and enters HALT when allowed (R456). -/
  | debugHalt (set : List Eng)
  /-- Debug resume leaves HALT for the mode determined by R474 (R474). -/
  | debugResume
  /-- A cross-trigger activation halts the named engines or marks the trace (R456). -/
  | crossTrigger (d : Fin 8)
  /-- A monitored rail below its power-on threshold starts a POR (R459). -/
  | powerOn (r : Rail) (ns : Nat) (dead : Bool)
  /-- VCORE or VAON below its brown-out threshold starts a POR and turns on the power-loss clamp (R531). -/
  | brownOut (vaon : Bool) (ns : Nat)
  /-- Tj above 135 C starts a SYS reset (R459). -/
  | thermalShutdown
  /-- A low pulse on RESETn starts a SYS reset with cause external (R461). -/
  | resetnLow (ns : Nat) (goesOn : Bool)
  /-- 100 ns without a REFCLK edge starts a SYS reset (R459). -/
  | refclkLoss (xtal : Bool)
  /-- A ring-0 write of key 0x96 to SW_RST starts a SYS reset (R459). -/
  | swRst (q : Req) (w : Word)
  /-- An unlocked debug request starts a SYS reset (R459). -/
  | debugReset
  /-- A POR or SYS reset ends 16 AON cycles after its last cause and the release order starts (R460). -/
  | resetEnd (strap : BitVec 2) (devaddr : BitVec 3) (vio : BitVec 6) (refclk xtal : Bool)
  /-- The factory trim load is verified and applied all at once (R466). -/
  | trimLoadDone
  /-- The user calibration load is verified and applied all at once (R466). -/
  | calLoadDone
  /-- The system, timebase and link PLLs lock, allowing the SYS release (R465). -/
  | pllLockedAll
  /-- A release step frees the next island 16 AON cycles after the previous one (R464). -/
  | islandRelease
  /-- A memory finishes its initialisation to zero (R467). -/
  | memoryInitDone (m : Mem)
  /-- A function becomes released, initialised and calibrated and its READY bit sets (R469). -/
  | blockReady (w : Fin 64) (b : Fin 32)
  /-- A write of go to ISL_RST starts the idle request of an island reset (R471). -/
  | islRst (q : Req) (w : Word)
  /-- The island becomes idle or the idle timeout forces it, and the reset phase begins (R471). -/
  | islIdleDone (i : Fin 26)
  /-- A write of go to BLK_RST resets one block at once (R472). -/
  | blkRst (q : Req) (w : Word)
  /-- A ring-0 MODE_REQ for LULL slows the clutches and converters (R478). -/
  | modeReqLull (q : Req) (w : Word)
  /-- A ring-0 MODE_REQ for WATCH sets hold and stops most clocks (R479). -/
  | modeReqWatch (q : Req) (w : Word)
  /-- A ring-0 MODE_REQ for RUN leaves LULL or WATCH (R474). -/
  | modeReqRun (q : Req) (w : Word)
  /-- A ring-0 MODE_REQ for FROST is accepted or refused and begins FROST entry (R480). -/
  | modeReqFrost (q : Req) (w : Word)
  /-- A ring-0 MODE_REQ for TRIPPED enters TRIPPED (R476). -/
  | modeReqTripped (q : Req) (w : Word)
  /-- FROST entry completes and everything outside the AON island is powered down (R480). -/
  | frostEntryComplete
  /-- A wake input activation in FROST starts the wake and the release order (R481). -/
  | wake (w : Fin 16)
  /-- A write of sk1_run starts SK1 at the boot ROM entry (R468). -/
  | sk1Run (q : Req) (w : Word)
  /-- The temperature sensor updates tj every 10 us and may set warn or enter TRIPPED (R549). -/
  | thermReading (tj : Int)
  /-- At the SK0 release the boot ROM checks, copies and verifies an image and starts it (R497). -/
  | boot
  /-- A write of key 0xC3 with go starts an NVM word write pulse or sets cmd_err (R492). -/
  | nvmWriteCmd (q : Req) (w : Word)
  /-- An NVM write pulse ends, busy clears and done sets (R491). -/
  | nvmPulseDone
  /-- A write of key 0x3C with go programs 1 bits into the OTP security area or sets prog_err (R495). -/
  | otpProgram (q : Req) (w : Word)
  /-- OTP programming ends and busy clears (R495). -/
  | otpProgramDone
  /-- The boot ROM unlock service verifies a token and writes scope into unlock (R500). -/
  | debugUnlock (a : Word) (uart : List Byte)
  /-- A ring-0 write of relock locks debug again (R501). -/
  | relock (q : Req) (w : Word)
  /-- The scrubber reads an SRAM word and corrects or records any error (R504). -/
  | scrubVisit (at_ : ScrubAt) (a : Word) (upset : Upset)
  /-- The scrubber reads an NVM word and records a correctable word in ECC_NVM_FIX (R507). -/
  | nvmScrubVisit (a : Word) (upset : Upset)
  /-- A lockstep mismatch or pair fault fails over to the other Skink pair or resets (R510). -/
  | pairFailure (p : Fin 2) (cause : Fin 4)
  /-- A write of switch makes the other running pair primary (R512). -/
  | lockstepSwitch (q : Req) (w : Word)
  /-- A write of key 0x5C by the primary pair's ring 0 reloads the system watchdog (R513). -/
  | sysWdtKick (q : Req) (w : Word)
  /-- The system watchdog reaches 0 and sets pre_expiry or starts a SYS reset (R513). -/
  | sysWdtExpiry
  /-- A reported Newt failure halts the Newt and starts a regrow onto a spare or sets no_spare (R516). -/
  | newtFailure (n : Fin 256) (cause : Fin 8)
  /-- A write of op 0b01 to REGROW_CMD reports a Newt failure with cause 0x5 (R515). -/
  | regrowReportFailure (q : Req) (c : Fin 16) (w : Word)
  /-- The failed Newt's far-store buffer drains, or is discarded after 1 us (R516). -/
  | regrowDrainDone (c : Fin 16)
  /-- The copy to the spare ends and the rebinding commit is armed (R517). -/
  | regrowCopyDone (c : Fin 16)
  /-- A write of op 0b10 to REGROW_CMD starts the logic self-test of a halted Newt (R520). -/
  | selfTest (q : Req) (c : Fin 16) (w : Word)
  /-- The self-test ends with st_pass or a Newt failure with cause 0x4 (R520). -/
  | selfTestDone (c : Fin 16) (pass : Bool)
  /-- A write to a register without behaviour of its own stores its fields under their access codes (R7). -/
  | registerWrite (q : Req) (a : Word) (w : Word)
  /-- A Swimlink lane loses block lock within 100 ns after valid sync headers stop. The port then discards its exports, ends the requests that wait on it with error responses, and drops the packets it holds for forwarding (R419). -/
  | blockLockLost (l : Fin 8) (lane : Fin 2)
  /-- A monitored rail rises above its rising threshold, which ends its power-on or brown-out cause and releases the PWM power-loss clamp once VCORE and VAON are both good (R531). -/
  | railGood (r : Rail) (brown : Bool)
  /-- REFCLK edges return and end the REFCLK-loss reset cause (R459). -/
  | refclkReturn (xtal : Bool)
  /-- Tj falls below 120 °C and ends the thermal-shutdown reset cause (R459). -/
  | thermalShutdownRelease
  /-- A write of en in FR_CFGp either moves the port from OFF to SYNC, or puts it in OFF after completing every outstanding request with status 0x05 (R407). -/
  | frCfgEnWrite (q : Req) (p : Fin 48) (w : Word)
  /-- A write of en = 0 to SWL_CFGl takes the port to DOWN from any state, and a write of en = 1 in DOWN starts the 10 µs wait before TRAIN (R418). -/
  | swlCfgEnWrite (q : Req) (l : Fin 8) (w : Word)
  /-- The JTAG CLAMP instruction, which selects the bypass register while debug is locked (R455). -/
  | jtagClamp
  /-- An Ethernet MAC link comes up or goes down, and link in MAC_STAT follows (R443). -/
  | ethernetLinkChange (m : Fin 2) (up : Bool)
  /-- A CAN FD controller finishes the ISO 11898-1 bus-off recovery that a write of recover started, and bus_off clears (R454). -/
  | busOffRecoveryDone (c : Fin 8)
  /-- A STOP condition is seen on an I²C bus, which sets stop_seen and ends a target-mode transfer (R452). -/
  | i2cStopSeen (i : Fin 12) (data : List Byte) (taken : BitVec 8)
  deriving DecidableEq, Repr

end Sys2Proof
end

