-- ==== Sys2Proof/Machine/Crypto.lean ====
section
/-!
DEFINITION. SHA-384 and the verification of ECDSA P-384 signatures, as FIPS 180-4 and FIPS 186-5 define them (R494, R496, R500).
Their constants come from those standards.
-/

namespace Sys2Proof.Machine

/-! ### SHA-384 -/

/-- The first `n` primes, found among the numbers below 512. -/
def firstPrimes (n : Nat) : List Nat :=
  ((List.range 512).filter (fun p => decide (2 ≤ p) && (List.range p).all (fun d => decide (d < 2) || p % d != 0))).take n

/-- The largest `r` below 2^(bits) with `r^k ≤ v`, bit by bit from the top. -/
def rootBits (k v : Nat) : Nat → Nat → Nat
  | 0, r => r
  | b + 1, r => rootBits k v b (if (r + 2 ^ b) ^ k ≤ v then r + 2 ^ b else r)

/-- The first 64 bits of the fractional part of the k-th root of `p`. -/
def rootFrac (k p : Nat) : Nat := rootBits k (p * 2 ^ (64 * k)) 70 0 % 2 ^ 64

/-- The round constants of SHA-512, and the initial hash value of SHA-384. -/
def shaK : List Nat := (firstPrimes 80).map (rootFrac 3)
def sha384H : List Nat := ((firstPrimes 16).drop 8).map (rootFrac 2)

/-- A 64-bit word turned right by `n`. -/
def rotr (x n : Nat) : Nat := x / 2 ^ n + x % 2 ^ n * 2 ^ (64 - n)

def shaS0 (x : Nat) : Nat := (rotr x 1 ^^^ rotr x 8) ^^^ (x / 2 ^ 7)
def shaS1 (x : Nat) : Nat := (rotr x 19 ^^^ rotr x 61) ^^^ (x / 2 ^ 6)
def shaB0 (x : Nat) : Nat := (rotr x 28 ^^^ rotr x 34) ^^^ rotr x 39
def shaB1 (x : Nat) : Nat := (rotr x 14 ^^^ rotr x 18) ^^^ rotr x 41

/-- The message schedule, latest word first: `n` words more. -/
def shaSchedule : Nat → List Nat → List Nat
  | 0, l => l
  | n + 1, l =>
    shaSchedule n ((shaS1 (l.getD 1 0) + l.getD 6 0 + shaS0 (l.getD 14 0) + l.getD 15 0) % 2 ^ 64 :: l)

/-- One round, on the working variables a to h. -/
def shaRound (v : List Nat) (kw : Nat × Nat) : List Nat :=
  match v with
  | [a, b, c, d, e, f, g, h] =>
    let ch := (e &&& f) ^^^ ((2 ^ 64 - 1 - e) &&& g)
    let maj := ((a &&& b) ^^^ (a &&& c)) ^^^ (b &&& c)
    let t1 := h + shaB1 e + ch + kw.1 + kw.2
    [(t1 + shaB0 a + maj) % 2 ^ 64, a, b, c, (d + t1) % 2 ^ 64, e, f, g]
  | _ => v

/-- The number that bytes spell, most significant first. -/
def natOfBytes (bs : List Byte) : Nat := bs.foldl (fun n b => n * 256 + b.toNat) 0

/-- One block of 128 bytes. -/
def shaBlock (h : List Nat) (blk : List Byte) : List Nat :=
  let ws := (List.range 16).map (fun i => natOfBytes ((blk.drop (8 * i)).take 8))
  let w := (shaSchedule 64 ws.reverse).reverse
  List.zipWith (fun x y => (x + y) % 2 ^ 64) h ((shaK.zip w).foldl shaRound h)

/-- The blocks of a padded message, `n` of them. -/
def shaBlocks : Nat → List Nat → List Byte → List Nat
  | 0, h, _ => h
  | n + 1, h, bs => shaBlocks n (shaBlock h (bs.take 128)) (bs.drop 128)

/-- `n` bytes of a number, most significant first. -/
def bytesOfNat (n v : Nat) : List Byte := (List.range n).reverse.map (fun i => BitVec.ofNat 8 (v / 2 ^ (8 * i)))

/-- SHA-384 of a byte string: 48 bytes. -/
def sha384 (m : List Byte) : List Byte :=
  let z := (239 - m.length % 128) % 128
  let p := m ++ [0x80#8] ++ List.replicate z 0 ++ bytesOfNat 16 (8 * m.length)
  ((shaBlocks (p.length / 128) sha384H p).flatMap (bytesOfNat 8)).take 48

/-! ### ECDSA over P-384 -/

def p384P : Nat := 2 ^ 384 - 2 ^ 128 - 2 ^ 96 + 2 ^ 32 - 1
def p384N : Nat := 0xFFFFFFFFFFFFFFFFFFFFFFFFFFFFFFFFFFFFFFFFFFFFFFFFC7634D81F4372DDF581A0DB248B0A77AECEC196ACCC52973
def p384B : Nat := 0xB3312FA7E23EE7E4988E056BE3F82D19181D9C6EFE8141120314088F5013875AC656398D8A2ED19D2A85C8EDD3EC2AEF
def p384Gx : Nat := 0xAA87CA22BE8B05378EB1C71EF320AD746E1D3B628BA79B9859F741E082542A385502F25DBF55296C3A545E3872760AB7
def p384Gy : Nat := 0x3617DE4A96262C6F5D9E98BF9292DC29F8F41DBD289A147CE9DA3113B5F0B8C00A60B1CE1D7E819D7A431D7C90EA0E5F

/-- `x ^ e` modulo `m`, for an exponent of `n` bits, from its top bit down. -/
def powMod (m x e : Nat) : Nat → Nat → Nat
  | 0, r => r
  | n + 1, r => powMod m x e n (let q := r * r % m
                                if e / 2 ^ n % 2 = 1 then q * x % m else q)

/-- The inverse modulo a prime. -/
def invMod (m x : Nat) : Nat := powMod m (x % m) (m - 2) 384 1

/-- A point of the curve; none is the point at infinity. -/
abbrev Point := Option (Nat × Nat)

/-- Is (x, y) a point of the curve? -/
def onCurve (x y : Nat) : Bool :=
  decide (x < p384P) && decide (y < p384P) && y * y % p384P == (x * x * x + (p384P - 3) * x + p384B) % p384P

/-- The sum of two points. -/
def addPoint : Point → Point → Point
  | none, q => q
  | p, none => p
  | some (x1, y1), some (x2, y2) =>
    let m := p384P
    if x1 = x2 ∧ (y1 + y2) % m = 0 then none
    else
      let l := if x1 = x2 then (3 * x1 * x1 + (m - 3)) * invMod m (2 * y1) % m
        else (y2 + (m - y1)) * invMod m (x2 + (m - x1)) % m
      let x3 := (l * l + (m - x1) + (m - x2)) % m
      some (x3, (l * (x1 + (m - x3)) + (m - y1)) % m)

/-- `k` times a point, for a `k` of `n` bits. -/
def mulPoint (k : Nat) (p : Point) : Nat → Point → Point
  | 0, r => r
  | n + 1, r => mulPoint k p n (let d := addPoint r r
                                if k / 2 ^ n % 2 = 1 then addPoint d p else d)

/-- Does the signature (r, s) of a message verify under the key (x, y)? -/
def ecdsaVerify (x y r s : Nat) (msg : List Byte) : Bool :=
  let n := p384N
  if !onCurve x y || r == 0 || s == 0 || decide (n ≤ r) || decide (n ≤ s) then false
  else
    let w := invMod n s
    let z := natOfBytes (sha384 msg)
    let u := mulPoint (z * w % n) (some (p384Gx, p384Gy)) 384 none
    let v := mulPoint (r * w % n) (some (x, y)) 384 none
    match addPoint u v with
    | some (a, _) => a % n == r
    | none => false

end Sys2Proof.Machine
end

