-- ==== Sys2Proof/Machine/Bundle.lean ====
section
/-!
DEFINITION. Syllables and bundles of the engines (07_bundle_encoding.md): what the words at the PC decode to, and the vector
that a reserved encoding raises.
-/

namespace Sys2Proof.Machine

/-- The bits `hi` to `lo` of a syllable. -/
def bits (w : Word) (hi lo : Nat) : Nat := w.toNat / 2 ^ lo % 2 ^ (hi + 1 - lo)

/-- A number of `n` bits in two's complement. -/
def sgn (n v : Nat) : Int := if v < 2 ^ (n - 1) then (v : Int) else (v : Int) - (2 ^ n : Nat)

/-- Operand forms (R125, R177): `y` names Y in place of X. -/
inductive Form where
  | near (w : Nat)
  | idx (y : Bool) (d : Int)
  | post (y : Bool) (d : Int)
  | modulo (y : Bool)
  | far (y : Bool) (d : Int)
  | imm (v : Word)
  deriving DecidableEq, Repr

/-- A-slot operations (R180). -/
inductive AOp where
  | ld | st | add | sub | and_ | or_ | xor_ | shl | shr | asr | mul | mulu | mac | macs | div | divu | rem | abs | neg | sat
  | clamp | cmp | fadd | fsub | fmul | fmac | fdiv | fsqrt | fmin | fmax | fcmp | i2f | u2f | f2i | f2u | ldrsv | stcnd
  deriving DecidableEq, Repr

/-- An A syllable: `e` names the register E; `size` is the width of a far access in bytes. -/
structure ASlot where
  op : AOp
  form : Form
  e : Bool
  size : Nat
  deriving DecidableEq, Repr

/-- X-slot operations (R181). -/
inductive XOp where
  | ld | st | add | mod
  deriving DecidableEq, Repr

/-- An X syllable: `y` says that it is the one for Y; MODX and MODY carry their operand field as an immediate. -/
structure XSlot where
  op : XOp
  y : Bool
  form : Form
  deriving DecidableEq, Repr

/-- T-slot operations (R183, R184). -/
inductive TSlot where
  | mov (dst src : Form)
  | bmov (dstFar srcFar : Bool) (count : Nat)
  deriving DecidableEq, Repr

/-- Branch conditions (R216). -/
inductive Cond where
  | always | z | nz | n | p | c | v
  deriving DecidableEq, Repr

/-- Where a branch or call goes (R186). -/
inductive Tgt where
  | rel (d : Int)
  | abs (a : Nat)
  deriving DecidableEq, Repr

/-- The queue operations (R225). -/
inductive QOp where
  | put | get | peek | count
  deriving DecidableEq, Repr

/-- C syllables (R185, R187). -/
inductive COp where
  | br (k : Cond) (t : Tgt)
  | call (t : Tgt)
  | ret
  | loop (set fromStore : Bool) (v end_ : Nat)
  | waitev (mask : Nat)
  | sigev
  | queue (k : QOp) (y : Bool) (q : Nat)
  | commit (g : Nat)
  | snap (u : Nat)
  | fence
  | isync
  | gate (n : Nat)
  | gret
  | eret
  | tbrd
  | ctmode (b : Bool)
  | trap (code : Nat)
  | bkpt (code : Nat)
  deriving DecidableEq, Repr

/-- A bundle that decodes: its slots, and its length in words. -/
structure Bundle where
  a : Option ASlot := none
  x : Option XSlot := none
  t : Option TSlot := none
  c : Option COp := none
  len : Nat := 1
  deriving DecidableEq, Repr

/-- What one syllable is: illegal (R172), a breach of the bundle rules (R171), or itself. -/
inductive Syl where
  | ill
  | bad
  | pfx
  | a (s : ASlot)
  | x (s : XSlot)
  | t (s : TSlot)
  | c (s : COp)
  deriving DecidableEq, Repr

/-- A decoded part: illegal syllable, illegal bundle, or the part. -/
inductive Dec (α : Type) where
  | ill
  | bad
  | ok (v : α)

/-- Go on with a decoded part. -/
def Dec.syl {α : Type} (d : Dec α) (f : α → Syl) : Syl := match d with
  | .ill => .ill
  | .bad => .bad
  | .ok v => f v

/-- Accept a part only under a condition on its syllable. -/
def Dec.need {α : Type} (c : Bool) (d : Dec α) : Dec α := if c then d else .ill

/-- The operand form of an A or X syllable (R177, R179): its mode, field, prefix value, and whether the opcode is a
floating-point one. -/
def form16 (mode field : Nat) (pfx : Option Nat) (float : Bool) : Dec Form :=
  let near (f : Form) : Dec Form := if pfx.isSome then .bad else .ok f
  match mode with
  | 0 => near (.near field)
  | 1 => near (.idx false (sgn 16 field))
  | 2 => near (.idx true (sgn 16 field))
  | 3 => near (.post false (sgn 16 field))
  | 4 => near (.post true (sgn 16 field))
  | 5 => if field % 2 ^ 15 = 0 then near (.modulo (field != 0)) else .ill
  | 6 =>
    let y := decide (2 ^ 15 ≤ field)
    match pfx with
    | none => .ok (.far y (sgn 15 (field % 2 ^ 15)))
    | some p => if field % 2 ^ 15 < 256 then .ok (.far y (sgn 32 (p * 256 + field % 256))) else .ill
  | _ =>
    match pfx with
    | none => .ok (.imm (if float then BitVec.ofNat 32 (field * 2 ^ 16) else BitVec.ofInt 32 (sgn 16 field)))
    | some p => if field < 256 then .ok (.imm (BitVec.ofNat 32 (p * 256 + field))) else .ill

/-- The A-slot opcodes that take an operand (R180). -/
def aOps : List (Nat × AOp) :=
  [(0x00, .ld), (0x01, .st), (0x02, .add), (0x03, .sub), (0x04, .and_), (0x05, .or_), (0x06, .xor_), (0x07, .shl),
   (0x08, .shr), (0x09, .asr), (0x0A, .mul), (0x0B, .mulu), (0x0C, .mac), (0x0D, .macs), (0x0E, .div), (0x0F, .divu)] ++
  [(0x10, .rem), (0x13, .sat), (0x14, .clamp), (0x15, .cmp), (0x20, .fadd), (0x21, .fsub), (0x22, .fmul), (0x23, .fmac),
   (0x24, .fdiv), (0x25, .fsqrt), (0x26, .fmin), (0x27, .fmax), (0x28, .fcmp), (0x30, .ldrsv), (0x31, .stcnd)]

/-- The opcodes that take none: ABS, NEG, and FCVT by its kind in the operand field. -/
def aBare (op field : Nat) : Option AOp :=
  if op = 0x11 ∧ field = 0 then some .abs
  else if op = 0x12 ∧ field = 0 then some .neg
  else if op = 0x29 then (if field = 0 then some .i2f else if field = 1 then some .u2f else if field = 2 then some .f2i
    else if field = 3 then some .f2u else none)
  else none

/-- Is the mode one that the opcode's row allows? -/
def AOp.allows (o : AOp) (mode : Nat) : Bool := match o with
  | .st => mode != 7
  | .sat => mode == 7
  | .ldrsv | .stcnd => mode == 6
  | _ => true

/-- Is the immediate one that the opcode takes (R195)? -/
def AOp.takes (o : AOp) (f : Form) : Bool := match o, f with
  | .sat, .imm v => decide (v.toNat / 512 = 0) && v.toNat / 64 % 4 == 0 && decide (1 ≤ v.toNat % 64) && decide (v.toNat % 64 ≤ 32)
  | _, _ => true

/-- The width of a far access by its size code (R176). -/
def farSize (code : Nat) : Nat := if code = 0 then 4 else if code = 1 then 2 else 1

/-- An A syllable (R176, R180). -/
def sylA (pfx : Option Nat) (w : Word) : Syl :=
  let op := bits w 27 22
  let mode := bits w 21 19
  let reg := bits w 18 18
  let size := bits w 17 16
  let field := bits w 15 0
  if op = 0x11 ∨ op = 0x12 ∨ op = 0x29 then
    match aBare op field with
    | some o => if mode = 0 ∧ reg = 0 ∧ size = 0 then
        (if pfx.isSome then .bad else .a { op := o, form := .imm 0, e := false, size := 4 }) else .ill
    | none => .ill
  else match aOps.find? (fun x => x.1 == op) with
    | none => .ill
    | some (_, o) =>
      let mem := o == .ld || o == .st
      let d := form16 mode field pfx (decide (0x20 ≤ op) && decide (op < 0x30))
      (Dec.need (o.allows mode && (reg == 0 || mem) && (size == 0 || (mem && mode == 6 && size != 3))) d).syl (fun f =>
        if o.takes f then .a { op := o, form := f, e := reg == 1, size := farSize size } else .ill)

/-- An X syllable (R181, R182). -/
def sylX (pfx : Option Nat) (w : Word) : Syl :=
  let op := bits w 27 24
  let mode := bits w 21 19
  let field := bits w 15 0
  let y := op % 2 == 1
  if bits w 23 22 ≠ 0 ∨ bits w 18 16 ≠ 0 ∨ 8 ≤ op then .ill
  else if op / 2 = 3 then
    if mode ≠ 7 ∨ field / 2 ^ 12 % 8 ≠ 0 ∨ field / 256 % 16 = 0 ∨ 12 < field / 256 % 16 then .ill
    else if pfx.isSome then .bad
    else .x { op := .mod, y := y, form := .imm (BitVec.ofNat 32 field) }
  else if mode = 3 ∨ mode = 4 ∨ mode = 5 ∨ (op / 2 = 1 ∧ mode = 7) then .ill
  else (form16 mode field pfx false).syl (fun f =>
    .x { op := if op / 2 = 0 then .ld else if op / 2 = 1 then .st else .add, y := y, form := f })

/-- A 9-bit field of `MOV` under its mode, with the 12-bit part of its prefix (R183). -/
def form9 (mode field : Nat) (q : Option Nat) : Dec Form :=
  let v := (q.getD 0) * 512 + field
  let d := if q.isSome then sgn 21 v else sgn 9 field
  match mode with
  | 0 => .ok (.near (v % 2 ^ 16))
  | 1 => .ok (.idx false d)
  | 2 => .ok (.idx true d)
  | 3 => .ok (.post false d)
  | 4 => .ok (.post true d)
  | 5 => if field % 256 ≠ 0 then .ill else if q.getD 0 ≠ 0 then .bad else .ok (.modulo (field != 0))
  | 6 =>
    let b := decide (256 ≤ field)
    .ok (.far b (match q with
      | none => sgn 8 (field % 256)
      | some k => sgn 20 (k * 256 + field % 256)))
  | _ => .ok (.imm (BitVec.ofInt 32 d))

/-- A T syllable (R183, R184). A PFX, even of value 0, before a MOV whose operands are both modulo is an illegal bundle: its form has no
extendable field (R171; DESIGN CHOICE, log 46: R183 asks only for value 0). -/
def sylT (pfx : Option Nat) (w : Word) : Syl :=
  let op := bits w 27 25
  let sm := bits w 24 22
  let dm := bits w 21 19
  let sf := bits w 18 10
  let df := bits w 9 1
  if bits w 0 0 ≠ 0 ∨ 2 ≤ op then .ill
  else if op = 1 then
    if (sm ≠ 0 ∧ sm ≠ 6) ∨ (dm ≠ 0 ∧ dm ≠ 6) ∨ df ≠ 0 then .ill
    else match pfx with
      | none => .t (.bmov (dm == 6) (sm == 6) sf)
      | some p => if p % 2 ^ 12 ≠ 0 then .bad else .t (.bmov (dm == 6) (sm == 6) (p / 2 ^ 12 * 512 + sf))
  else if dm = 7 then .ill
  else match form9 sm sf (pfx.map (· / 2 ^ 12)), form9 dm df (pfx.map (· % 2 ^ 12)) with
    | .ill, _ => .ill
    | _, .ill => .ill
    | .ok s, .ok d => if pfx.isSome && sm == 5 && dm == 5 then .bad else .t (.mov d s)
    | _, _ => .bad

/-- The target of a branch or call (R186). -/
def target (field : Nat) (pfx : Option Nat) : Dec Tgt := match pfx with
  | none => .ok (.rel (sgn 22 field))
  | some p => if field < 256 ∧ field % 4 = 0 then .ok (.abs (p * 256 + field)) else .ill

def conds : List Cond := [.always, .z, .nz, .n, .p, .c, .v]

/-- The LOOP syllable (R187). -/
def sylLoop (pfx : Option Nat) (f : Nat) : Syl :=
  let set := f / 2 ^ 21 == 1
  let src := f / 2 ^ 20 % 2 == 1
  let v := f / 256 % 4096
  if f % 256 = 0 then .ill
  else match pfx with
    | none => .c (.loop set src v (f % 256))
    | some p => if src || decide (2 ^ 20 ≤ p) then .bad else .c (.loop set src (p * 4096 + v) (f % 256))

/-- C syllables without an extendable field: the opcode and its operand field. -/
def sylPlain (newt : Bool) (op f : Nat) : Option COp :=
  let none_ (k : COp) : Option COp := if f = 0 then some k else none
  let below (n : Nat) (k : COp) : Option COp := if f < n then some k else none
  let q (k : QOp) : Option COp := if f % 2 ^ 21 < 16384 then some (.queue k (decide (2 ^ 21 ≤ f)) (f % 2 ^ 14)) else none
  match op with
  | 0x08 => none_ .ret
  | 0x0A => if f = 0 then none else below (if newt then 256 else 65536) (.waitev f)
  | 0x0B => none_ .sigev
  | 0x0C => q .put
  | 0x0D => q .get
  | 0x0E => q .peek
  | 0x0F => q .count
  | 0x10 => below 32 (.commit f)
  | 0x11 => below 8 (.snap f)
  | 0x12 => none_ .fence
  | 0x13 => none_ .isync
  | 0x14 => below 256 (.gate f)
  | 0x15 => none_ .gret
  | 0x16 => none_ .eret
  | 0x17 => none_ .tbrd
  | 0x18 => below 2 (.ctmode (f == 1))
  | 0x19 => below 256 (.trap f)
  | 0x1A => below 256 (.bkpt f)
  | _ => none

/-- A C syllable (R185 to R187). -/
def sylC (newt : Bool) (pfx : Option Nat) (w : Word) : Syl :=
  let op := bits w 27 22
  let f := bits w 21 0
  if op < 7 then (target f pfx).syl (fun t => .c (.br (conds.getD op .always) t))
  else if op = 7 then (target f pfx).syl (fun t => .c (.call t))
  else if op = 9 then sylLoop pfx f
  else match sylPlain newt op f with
    | some k => if pfx.isSome then .bad else .c k
    | none => .ill

/-- One syllable, with the value of the prefix before it, if there is one (R170, R172, R175). -/
def syllable (newt : Bool) (pfx : Option Nat) (w : Word) : Syl :=
  match bits w 30 28 with
  | 0 => sylA pfx w
  | 1 => sylX pfx w
  | 2 => sylT pfx w
  | 3 => sylC newt pfx w
  | 4 => if bits w 27 24 ≠ 0 then .ill else if pfx.isSome then .bad else .pfx
  | _ => .ill

/-- The syllables of a bundle in memory order, each under the prefix before it. -/
def syllables (newt : Bool) : Option Nat → List Word → List Syl
  | _, [] => []
  | p, w :: ws => syllable newt p w :: syllables newt (if bits w 30 28 = 4 then some (bits w 23 0) else none) ws

/-- Does the word carry the stop bit (R169)? -/
def stops (w : Word) : Bool := w.getLsbD 31

/-- The words of the bundle that starts a list: up to the first stop bit, six at most. -/
def takeBundle (ws : List Word) : List Word :=
  let six := ws.take 6
  let n := (six.takeWhile (fun w => !stops w)).length
  six.take (n + 1)

/-- The bundle that words spell, or the vector they raise: 1 for an illegal syllable, else 2 for an illegal bundle
(R171 to R173). -/
def decodeBundle (newt : Bool) (ws : List Word) : Except Nat Bundle :=
  let ss := syllables newt none ws
  let as := ss.filterMap (fun s => match s with
    | .a k => some k
    | _ => none)
  let xs := ss.filterMap (fun s => match s with
    | .x k => some k
    | _ => none)
  let ts := ss.filterMap (fun s => match s with
    | .t k => some k
    | _ => none)
  let cs := ss.filterMap (fun s => match s with
    | .c k => some k
    | _ => none)
  if ss.contains .ill then .error 1
  else if ss.contains .bad || ss.getLast? == some .pfx || decide (2 < ss.count .pfx) || decide (1 < as.length) ||
      decide (1 < xs.length) || decide (1 < ts.length) || decide (1 < cs.length) || !(ws.getLast?.map stops).getD false then
    .error 2
  else .ok { a := as.head?, x := xs.head?, t := ts.head?, c := cs.head?, len := ws.length }

end Sys2Proof.Machine
end

