-- ==== Sys2Proof/Config.lean ====
section
/-!
DEFINITION. What the spec leaves open: free values. Each is a constant without a body, so that nothing can be proved of its
value; a claim holds whatever it is. The assumption log names each of them.
-/

namespace Sys2Proof.Config

/-- What the factory and the board maker have put into byte `a` of the boot ROM, the OTP or the NVM. -/
opaque factoryByte : Nat → Byte

/-- A word that the spec leaves undefined; the argument is the number of free values taken before it. -/
opaque freeWord : Nat → Word

/-- A choice that the spec leaves open, such as which of two outcomes an event has. -/
opaque freeChoice : Nat → Nat

/-- The byte that the memory on XSPI port `x` holds at address `a`, as the `n`-th read of the model finds it. -/
opaque xspiByte : Nat → Nat → Nat → Byte

/-- Word `i` of the `n`-th nonce that the entropy source gives (R500). -/
opaque nonceWord : Nat → Nat → Word

/-- The payload bytes of a message on Swimlink, whose layout the spec does not give. -/
opaque msgBytes : SwlMsg → List Byte

/-- The scrambler of lane `i` of Swimlink port `l` before the blocks that the port hands over in tick `t`: how many IDLE blocks went before
is not fixed (R416). -/
opaque scrambler : (l i t : Nat) → BitVec 58

/-- The delay of the link of port `l` as its devices have measured it, in ns; 32 at most count (R431). -/
opaque linkDelay : (l : Nat) → Nat

/-- Does the first of those blocks go on lane 1? -/
opaque laneOne : (l t : Nat) → Bool

/-- The boundary-scan cell of a ball (R455): the spec gives no order of cells. -/
opaque boundaryCell : Ball → Nat

/-- The speed that the partner of MAC `m` has agreed on under SGMII (R443): 0 for 1,000, 1 for 100, 2 for 10 Mb/s, modulo 3. -/
opaque sgmii : (m : Nat) → Nat

end Sys2Proof.Config
end

