-- ==== Sys2Proof/Machine/SMap.lean ====
section
/-!
DEFINITION. Sparse data by key: a list of (key, value) pairs with keys strictly rising and no entry equal to what an
unlisted key reads as. Equal contents are then equal lists.
-/

namespace Sys2Proof.Machine

/-- A sparse map from a key (an address, an index) to a value. -/
abbrev SMap (α : Type) := List (Nat × α)

/-- What the map holds at key `k`; an unlisted key reads as `d`. -/
def sget {α : Type} (d : α) : SMap α → Nat → α
  | [], _ => d
  | (k', v) :: m, k => if k = k' then v else sget d m k

/-- Insert a pair before the first larger key. -/
def sins {α : Type} (k : Nat) (v : α) : SMap α → SMap α
  | [] => [(k, v)]
  | (k', v') :: m => if k < k' then (k, v) :: (k', v') :: m else (k', v') :: sins k v m

/-- Drop every entry of key `k`. -/
def sdel {α : Type} (k : Nat) (m : SMap α) : SMap α := m.filter (fun p => p.1 != k)

/-- Store `v` at key `k`; storing what an unlisted key reads as removes the entry. -/
def sput {α : Type} [DecidableEq α] (d : α) (k : Nat) (v : α) (m : SMap α) : SMap α :=
  if v = d then sdel k m else sins k v (sdel k m)

/-- The canonical form: keys strictly rising, no entry equal to the unlisted value of its key. -/
def swf {α : Type} [DecidableEq α] (d : Nat → α) : SMap α → Bool
  | [] => true
  | [(k, v)] => decide (v ≠ d k)
  | (k, v) :: (k', v') :: m => decide (v ≠ d k) && decide (k < k') && swf d ((k', v') :: m)

end Sys2Proof.Machine
end

