-- ==== Sys2Proof/Machine/RegDefs.lean ====
section
/-!
DEFINITION. How the spec's register tables are written down: access codes (R7), fields, registers.
-/

namespace Sys2Proof.Machine

/-- The access codes of R7. -/
inductive Acc where
  | rw | ro | wo | w1c | w1s | rws
  deriving DecidableEq, Repr

/-- One field of a register table: bits hi to lo, its access code, its reset value, the classes that return it to
that value (bit mask: 1 POR, 2 SYS, 4 ISL, 8 BLK, 16 FROST, 32 FROST without retention; R13), the ranges of its legal
codes (R11; empty: every code is legal), and whether only even codes are legal. -/
structure Fld where
  hi : Nat
  lo : Nat
  acc : Acc
  rst : Nat
  cls : Nat
  codes : List (Nat × Nat)
  even : Bool
  deriving DecidableEq, Repr

/-- One register table: the address of its first register, the (stride, count) of each index, its fields.
Bits that no field covers are reserved (R10). -/
structure RegRow where
  base : Nat
  dims : List (Nat × Nat)
  flds : List Fld
  deriving DecidableEq, Repr

/-- Base of an engine's control block: Newt n = 16·c + k at the control offset of R27; a Skink (engines 256 and 257)
reaches its own by near words only (R123, R168), so the model gives it addresses above the 32-bit map. -/
def engBase (e : Nat) : Nat :=
  if e < 256 then 0x2000F000 + e / 16 * 0x200000 + e % 16 * 0x10000 else 0x100000000 + (e - 256) * 0x1000

/-- Number of bits of a field. -/
def Fld.width (f : Fld) : Nat := f.hi + 1 - f.lo

/-- The field's mask in the register's word. -/
def Fld.mask (f : Fld) : Nat := (2 ^ f.width - 1) * 2 ^ f.lo

/-- Is the code legal for the field (R11)? -/
def Fld.legal (f : Fld) (v : Nat) : Bool :=
  (f.codes.isEmpty || f.codes.any (fun c => decide (c.1 ≤ v) && decide (v ≤ c.2))) && (!f.even || v % 2 == 0)

/-- Read a field out of a word. -/
def getBits (w : Word) (f : Fld) : Nat := w.toNat / 2 ^ f.lo % 2 ^ f.width

/-- The word with the field replaced by `v` (cut to the field's width). -/
def putBits (w : Word) (f : Fld) (v : Nat) : Word :=
  BitVec.ofNat 32 (w.toNat - getBits w f * 2 ^ f.lo + v % 2 ^ f.width * 2 ^ f.lo)

/-- The reset word of a row: every field at its reset value. -/
def RegRow.resetWord (r : RegRow) : Word := r.flds.foldl (fun w f => putBits w f f.rst) 0

/-- Does an offset from the base fall on one of the registers the dimensions span (largest stride first)? -/
def dimsHit : List (Nat × Nat) → Nat → Bool
  | [], o => o == 0
  | (st, n) :: ds, o => if st = 0 then false else
      let i := min (o / st) (n - 1)
      decide (0 < n) && dimsHit ds (o - i * st)

/-- Does the row list the register at address `a`? -/
def RegRow.hit (r : RegRow) (a : Nat) : Bool := decide (r.base ≤ a) && dimsHit r.dims (a - r.base)

end Sys2Proof.Machine
end

