-- ==== Sys2Proof/Machine/RegsClutch.lean ====
section
/-!
DEFINITION. The registers of the block Clutch: their addresses, their fields (bits, access code, reset value, the classes
that return it to reset, legal codes), and the table of them, from the register tables of the spec.
-/

namespace Sys2Proof.Machine

/-- Address of CLUTCH_CLK (01_architecture.md). -/
def aCLUTCH_CLK (i : Nat) : Nat := 0x201F0000 + i * 0x200000
/-- Address of EVF (05_event_fabric.md). -/
def aEVF (e : Nat) : Nat := engBase e + 0x100
/-- Address of ENG_S (06_newt_engine.md). -/
def aENG_S (e : Nat) : Nat := engBase e + 0x8
/-- Address of ENG_CTRL (06_newt_engine.md). -/
def aENG_CTRL (e : Nat) : Nat := engBase e + 0x0
/-- Address of ENG_STATUS (06_newt_engine.md). -/
def aENG_STATUS (e : Nat) : Nat := engBase e + 0x4
/-- Address of VBR (06_newt_engine.md). -/
def aVBR (e : Nat) : Nat := engBase e + 0xC
/-- Address of GTB (06_newt_engine.md). -/
def aGTB (e : Nat) : Nat := engBase e + 0x10
/-- Address of ENG_PROT (06_newt_engine.md). -/
def aENG_PROT (e : Nat) : Nat := engBase e + 0x14
/-- Address of XMOD (06_newt_engine.md). -/
def aXMOD (e : Nat) : Nat := engBase e + 0x18
/-- Address of YMOD (06_newt_engine.md). -/
def aYMOD (e : Nat) : Nat := engBase e + 0x1C
/-- Address of LS0 (06_newt_engine.md). -/
def aLS0 (e : Nat) : Nat := engBase e + 0x20
/-- Address of LE0 (06_newt_engine.md). -/
def aLE0 (e : Nat) : Nat := engBase e + 0x24
/-- Address of LS1 (06_newt_engine.md). -/
def aLS1 (e : Nat) : Nat := engBase e + 0x28
/-- Address of LE1 (06_newt_engine.md). -/
def aLE1 (e : Nat) : Nat := engBase e + 0x2C
/-- Address of LC0 (06_newt_engine.md). -/
def aLC0 (e : Nat) : Nat := engBase e + 0x30
/-- Address of LC1 (06_newt_engine.md). -/
def aLC1 (e : Nat) : Nat := engBase e + 0x34
/-- Address of FAR_ADDR (06_newt_engine.md). -/
def aFAR_ADDR (e : Nat) : Nat := engBase e + 0x40
/-- Address of FAR_DATA (06_newt_engine.md). -/
def aFAR_DATA (e : Nat) : Nat := engBase e + 0x44
/-- Address of FAR_STAT (06_newt_engine.md). -/
def aFAR_STAT (e : Nat) : Nat := engBase e + 0x48
/-- Address of WDT_CTRL (06_newt_engine.md). -/
def aWDT_CTRL (e : Nat) : Nat := engBase e + 0x50
/-- Address of WDT_KICK (06_newt_engine.md). -/
def aWDT_KICK (e : Nat) : Nat := engBase e + 0x54
/-- Address of WDT_STATUS (06_newt_engine.md). -/
def aWDT_STATUS (e : Nat) : Nat := engBase e + 0x58
/-- Address of ECC_CNT (06_newt_engine.md). -/
def aECC_CNT (e : Nat) : Nat := engBase e + 0x60
/-- Address of LIC_PEND0 (10_privilege_interrupts.md). -/
def aLIC_PEND0 (e : Nat) : Nat := engBase e + 0x300
/-- Address of LIC_SWP0 (10_privilege_interrupts.md). -/
def aLIC_SWP0 (e : Nat) : Nat := engBase e + 0x308
/-- Address of LIC_TAKEN (10_privilege_interrupts.md). -/
def aLIC_TAKEN (e : Nat) : Nat := engBase e + 0x310
/-- Address of EXC_INFO (10_privilege_interrupts.md). -/
def aEXC_INFO (e : Nat) : Nat := engBase e + 0x314
/-- Address of EXC_ADDR (10_privilege_interrupts.md). -/
def aEXC_ADDR (e : Nat) : Nat := engBase e + 0x318
/-- Address of RPF_INFO (10_privilege_interrupts.md). -/
def aRPF_INFO (e : Nat) : Nat := engBase e + 0x31C
/-- Address of SPILL_PTR (10_privilege_interrupts.md). -/
def aSPILL_PTR (e : Nat) : Nat := engBase e + 0x320
/-- Address of SPILL_LIM (10_privilege_interrupts.md). -/
def aSPILL_LIM (e : Nat) : Nat := engBase e + 0x324
/-- Address of LIC_STATUS (10_privilege_interrupts.md). -/
def aLIC_STATUS (e : Nat) : Nat := engBase e + 0x328
/-- Address of LIC_CFG (10_privilege_interrupts.md). -/
def aLIC_CFG (e i : Nat) : Nat := engBase e + 0x200 + i * 0x4
/-- Address of CTX (06_newt_engine.md). -/
def aCTX (e i j : Nat) : Nat := engBase e + 0x400 + i * 0x40 + j * 0x4
/-- Address of NEWT_PAGES (13_coherence_progress.md). -/
def aNEWT_PAGES (i j : Nat) : Nat := 0x201F0100 + i * 0x200000 + j * 0x4
/-- Address of PG_CFG (13_coherence_progress.md). -/
def aPG_CFG (i j : Nat) : Nat := 0x201F0200 + i * 0x200000 + j * 0x4
/-- Address of REGROW_CFG (20_availability.md). -/
def aREGROW_CFG (i : Nat) : Nat := 0x201F0300 + i * 0x200000
/-- Address of REGROW_IMG (20_availability.md). -/
def aREGROW_IMG (i : Nat) : Nat := 0x201F0304 + i * 0x200000
/-- Address of REGROW_CMD (20_availability.md). -/
def aREGROW_CMD (i : Nat) : Nat := 0x201F0308 + i * 0x200000
/-- Address of REGROW_STATUS (20_availability.md). -/
def aREGROW_STATUS (i : Nat) : Nat := 0x201F030C + i * 0x200000
/-- Address of REGROW_FAILED (20_availability.md). -/
def aREGROW_FAILED (i : Nat) : Nat := 0x201F0310 + i * 0x200000
def CLUTCH_CLK.relocking : Fld := ⟨8, 8, .ro, 0, 7, [], false⟩
def CLUTCH_CLK.freq_code : Fld := ⟨5, 0, .rw, 16, 7, [(0, 40)], false⟩
def EVF.evf : Fld := ⟨7, 0, .w1c, 0, 47, [], false⟩
def ENG_S.resume : Fld := ⟨31, 31, .ro, 0, 47, [], false⟩
def ENG_S.ct : Fld := ⟨30, 30, .ro, 0, 47, [], false⟩
def ENG_S.ring : Fld := ⟨29, 28, .ro, 0, 47, [], false⟩
def ENG_S.iel : Fld := ⟨27, 24, .rw, 8, 47, [(0, 8)], false⟩
def ENG_S.rm : Fld := ⟨21, 20, .rw, 0, 47, [], false⟩
def ENG_S.te_iv : Fld := ⟨19, 19, .rw, 0, 47, [], false⟩
def ENG_S.te_dz : Fld := ⟨18, 18, .rw, 0, 47, [], false⟩
def ENG_S.te_of : Fld := ⟨17, 17, .rw, 0, 47, [], false⟩
def ENG_S.te_uf : Fld := ⟨16, 16, .rw, 0, 47, [], false⟩
def ENG_S.te_ix : Fld := ⟨15, 15, .rw, 0, 47, [], false⟩
def ENG_S.iv : Fld := ⟨14, 14, .rw, 0, 47, [], false⟩
def ENG_S.dz : Fld := ⟨13, 13, .rw, 0, 47, [], false⟩
def ENG_S.of : Fld := ⟨12, 12, .rw, 0, 47, [], false⟩
def ENG_S.uf : Fld := ⟨11, 11, .rw, 0, 47, [], false⟩
def ENG_S.ix : Fld := ⟨10, 10, .rw, 0, 47, [], false⟩
def ENG_S.v : Fld := ⟨3, 3, .rw, 0, 47, [], false⟩
def ENG_S.c : Fld := ⟨2, 2, .rw, 0, 47, [], false⟩
def ENG_S.n : Fld := ⟨1, 1, .rw, 0, 47, [], false⟩
def ENG_S.z : Fld := ⟨0, 0, .rw, 0, 47, [], false⟩
def ENG_CTRL.run : Fld := ⟨31, 31, .rw, 0, 15, [], false⟩
def ENG_CTRL.bank_sel : Fld := ⟨30, 30, .rws, 0, 47, [], false⟩
def ENG_CTRL.sh_half : Fld := ⟨29, 29, .rw, 0, 47, [], false⟩
def ENG_STATUS.halted : Fld := ⟨31, 31, .ro, 1, 15, [], false⟩
def ENG_STATUS.waiting : Fld := ⟨30, 30, .ro, 0, 47, [], false⟩
def ENG_STATUS.active_bank : Fld := ⟨29, 29, .ro, 0, 47, [], false⟩
def ENG_STATUS.swap_pending : Fld := ⟨28, 28, .ro, 0, 47, [], false⟩
def ENG_STATUS.ctx_used : Fld := ⟨27, 25, .ro, 0, 47, [], false⟩
def ENG_STATUS.pc : Fld := ⟨15, 0, .ro, 0, 47, [], false⟩
def VBR.vbase : Fld := ⟨13, 8, .rw, 0, 47, [], false⟩
def GTB.gbase : Fld := ⟨13, 11, .rw, 0, 47, [], false⟩
def ENG_PROT.prot_hi : Fld := ⟨28, 16, .rw, 0, 47, [(0, 4096)], false⟩
def ENG_PROT.prot_lo : Fld := ⟨11, 0, .rw, 0, 47, [], false⟩
def XMOD.en : Fld := ⟨31, 31, .rw, 0, 47, [], false⟩
def XMOD.len : Fld := ⟨27, 24, .rw, 1, 47, [(1, 12)], false⟩
def XMOD.st : Fld := ⟨7, 0, .rw, 1, 47, [], false⟩
def YMOD.en : Fld := ⟨31, 31, .rw, 0, 47, [], false⟩
def YMOD.len : Fld := ⟨27, 24, .rw, 1, 47, [(1, 12)], false⟩
def YMOD.st : Fld := ⟨7, 0, .rw, 1, 47, [], false⟩
def LS0.ls0 : Fld := ⟨31, 0, .rw, 0, 47, [], false⟩
def LE0.le0 : Fld := ⟨31, 0, .rw, 0, 47, [], false⟩
def LS1.ls1 : Fld := ⟨31, 0, .rw, 0, 47, [], false⟩
def LE1.le1 : Fld := ⟨31, 0, .rw, 0, 47, [], false⟩
def LC0.lc0 : Fld := ⟨31, 0, .rw, 0, 47, [], false⟩
def LC1.lc1 : Fld := ⟨31, 0, .rw, 0, 47, [], false⟩
def FAR_ADDR.addr : Fld := ⟨31, 0, .ro, 0, 47, [], false⟩
def FAR_DATA.data : Fld := ⟨31, 0, .ro, 0, 47, [], false⟩
def FAR_STAT.valid : Fld := ⟨31, 31, .w1c, 0, 47, [], false⟩
def FAR_STAT.size : Fld := ⟨29, 28, .ro, 0, 47, [], false⟩
def FAR_STAT.cause : Fld := ⟨27, 26, .ro, 0, 47, [], false⟩
def FAR_STAT.ring : Fld := ⟨25, 24, .ro, 0, 47, [], false⟩
def FAR_STAT.ovf_count : Fld := ⟨15, 0, .ro, 0, 47, [], false⟩
def WDT_CTRL.en : Fld := ⟨31, 31, .rw, 0, 47, [], false⟩
def WDT_CTRL.lock : Fld := ⟨30, 30, .w1s, 0, 47, [], false⟩
def WDT_CTRL.timeout : Fld := ⟨15, 0, .rw, 1000, 47, [(1, 65535)], false⟩
def WDT_KICK.key : Fld := ⟨7, 0, .wo, 0, 0, [], false⟩
def WDT_STATUS.first_expiry : Fld := ⟨31, 31, .w1c, 0, 47, [], false⟩
def WDT_STATUS.bad_key : Fld := ⟨30, 30, .w1c, 0, 47, [], false⟩
def WDT_STATUS.remaining : Fld := ⟨15, 0, .ro, 1000, 47, [], false⟩
def ECC_CNT.ue_cnt : Fld := ⟨31, 16, .rw, 0, 47, [], false⟩
def ECC_CNT.ce_cnt : Fld := ⟨15, 0, .rw, 0, 47, [], false⟩
def LIC_PEND0.pend : Fld := ⟨31, 0, .ro, 0, 15, [], false⟩
def LIC_SWP0.swp : Fld := ⟨31, 0, .rw, 0, 15, [], false⟩
def LIC_TAKEN.valid : Fld := ⟨31, 31, .ro, 0, 15, [], false⟩
def LIC_TAKEN.prio : Fld := ⟨10, 8, .ro, 0, 15, [], false⟩
def LIC_TAKEN.input : Fld := ⟨5, 0, .ro, 0, 15, [], false⟩
def EXC_INFO.valid : Fld := ⟨31, 31, .w1c, 0, 47, [], false⟩
def EXC_INFO.async : Fld := ⟨30, 30, .ro, 0, 47, [], false⟩
def EXC_INFO.from_ring : Fld := ⟨29, 28, .ro, 0, 47, [], false⟩
def EXC_INFO.slot_valid : Fld := ⟨27, 27, .ro, 0, 47, [], false⟩
def EXC_INFO.slot : Fld := ⟨26, 25, .ro, 0, 47, [], false⟩
def EXC_INFO.vector : Fld := ⟨5, 0, .ro, 0, 47, [], false⟩
def EXC_ADDR.addr : Fld := ⟨31, 0, .ro, 0, 47, [], false⟩
def RPF_INFO.valid : Fld := ⟨31, 31, .w1c, 0, 47, [], false⟩
def RPF_INFO.no_context : Fld := ⟨30, 30, .ro, 0, 47, [], false⟩
def RPF_INFO.attempted_ring : Fld := ⟨29, 28, .ro, 0, 47, [], false⟩
def RPF_INFO.orig_ring : Fld := ⟨27, 26, .ro, 0, 47, [], false⟩
def RPF_INFO.eret_ring : Fld := ⟨25, 24, .ro, 0, 47, [], false⟩
def SPILL_PTR.ptr : Fld := ⟨12, 0, .rw, 0, 47, [(0, 4096)], false⟩
def SPILL_LIM.lim : Fld := ⟨12, 0, .rw, 0, 47, [(0, 4096)], false⟩
def LIC_STATUS.entry_fail : Fld := ⟨31, 31, .ro, 0, 15, [], false⟩
def LIC_STATUS.fail_vector : Fld := ⟨29, 24, .ro, 0, 15, [], false⟩
def LIC_STATUS.spill_depth : Fld := ⟨20, 16, .ro, 0, 47, [], false⟩
def LIC_STATUS.spill_fault : Fld := ⟨8, 8, .w1c, 0, 47, [], false⟩
def LIC_STATUS.lost_vector : Fld := ⟨5, 0, .ro, 0, 47, [], false⟩
def LIC_CFG.en : Fld := ⟨31, 31, .rw, 0, 15, [], false⟩
def LIC_CFG.prio : Fld := ⟨30, 28, .rw, 0, 15, [], false⟩
def LIC_CFG.evf_en : Fld := ⟨23, 23, .rw, 0, 15, [], false⟩
def LIC_CFG.evf_idx : Fld := ⟨19, 16, .rw, 0, 15, [(0, 7)], false⟩
def LIC_CFG.mod_ns : Fld := ⟨15, 0, .rw, 0, 15, [], false⟩
def CTX.w : Fld := ⟨31, 0, .rw, 0, 47, [], false⟩
def CTX.orig_ring : Fld := ⟨1, 0, .rw, 0, 47, [], false⟩
def NEWT_PAGES.en0 : Fld := ⟨7, 7, .rws, 0, 7, [], false⟩
def NEWT_PAGES.en1 : Fld := ⟨15, 15, .rws, 0, 7, [], false⟩
def NEWT_PAGES.en2 : Fld := ⟨23, 23, .rws, 0, 7, [], false⟩
def NEWT_PAGES.en3 : Fld := ⟨31, 31, .rws, 0, 7, [], false⟩
def NEWT_PAGES.page0 : Fld := ⟨5, 0, .rws, 0, 7, [], false⟩
def NEWT_PAGES.page1 : Fld := ⟨13, 8, .rws, 0, 7, [], false⟩
def NEWT_PAGES.page2 : Fld := ⟨21, 16, .rws, 0, 7, [], false⟩
def NEWT_PAGES.page3 : Fld := ⟨29, 24, .rws, 0, 7, [], false⟩
def PG_CFG.dirty : Fld := ⟨31, 31, .ro, 0, 39, [], false⟩
def PG_CFG.refresh : Fld := ⟨30, 30, .rw, 1, 7, [], false⟩
def PG_CFG.cg : Fld := ⟨4, 0, .rw, 0, 7, [], false⟩
def REGROW_CFG.en : Fld := ⟨31, 31, .rw, 0, 7, [], false⟩
def REGROW_CFG.img_src : Fld := ⟨30, 30, .rw, 0, 7, [], false⟩
def REGROW_CFG.ns_trip : Fld := ⟨29, 29, .rw, 0, 7, [], false⟩
def REGROW_CFG.cg : Fld := ⟨28, 24, .rw, 0, 7, [], false⟩
def REGROW_CFG.slice_en : Fld := ⟨22, 22, .rw, 0, 7, [], false⟩
def REGROW_CFG.slice : Fld := ⟨21, 16, .rw, 0, 7, [], false⟩
def REGROW_CFG.spare : Fld := ⟨15, 0, .rw, 0, 7, [], false⟩
def REGROW_IMG.addr : Fld := ⟨31, 15, .rw, 0, 7, [], false⟩
def REGROW_CMD.go : Fld := ⟨31, 31, .wo, 0, 0, [], false⟩
def REGROW_CMD.op : Fld := ⟨25, 24, .wo, 0, 0, [], false⟩
def REGROW_CMD.newt : Fld := ⟨3, 0, .wo, 0, 0, [], false⟩
def REGROW_STATUS.busy : Fld := ⟨31, 31, .ro, 0, 23, [], false⟩
def REGROW_STATUS.no_spare : Fld := ⟨30, 30, .w1c, 0, 7, [], false⟩
def REGROW_STATUS.rg_fail : Fld := ⟨29, 29, .w1c, 0, 7, [], false⟩
def REGROW_STATUS.done : Fld := ⟨28, 28, .w1c, 0, 7, [], false⟩
def REGROW_STATUS.st_pass : Fld := ⟨27, 27, .w1c, 0, 7, [], false⟩
def REGROW_STATUS.bad_cmd : Fld := ⟨26, 26, .w1c, 0, 7, [], false⟩
def REGROW_STATUS.cause : Fld := ⟨19, 16, .ro, 0, 7, [], false⟩
def REGROW_STATUS.failed_k : Fld := ⟨7, 4, .ro, 0, 7, [], false⟩
def REGROW_STATUS.spare_k : Fld := ⟨3, 0, .ro, 0, 7, [], false⟩
def REGROW_FAILED.failed : Fld := ⟨15, 0, .w1c, 0, 39, [], false⟩
/-- The fields of CLUTCH_CLK. -/
def fCLUTCH_CLK : List Fld := [ CLUTCH_CLK.relocking, CLUTCH_CLK.freq_code]
/-- The fields of EVF. -/
def fEVF : List Fld := [ EVF.evf]
/-- The fields of ENG_S. -/
def fENG_S : List Fld := [ ENG_S.resume, ENG_S.ct, ENG_S.ring, ENG_S.iel, ENG_S.rm, ENG_S.te_iv, ENG_S.te_dz, ENG_S.te_of, ENG_S.te_uf, ENG_S.te_ix, ENG_S.iv, ENG_S.dz, ENG_S.of, ENG_S.uf, ENG_S.ix, ENG_S.v, ENG_S.c, ENG_S.n, ENG_S.z]
/-- The fields of ENG_CTRL. -/
def fENG_CTRL : List Fld := [ ENG_CTRL.run, ENG_CTRL.bank_sel, ENG_CTRL.sh_half]
/-- The fields of ENG_STATUS. -/
def fENG_STATUS : List Fld := [ ENG_STATUS.halted, ENG_STATUS.waiting, ENG_STATUS.active_bank, ENG_STATUS.swap_pending, ENG_STATUS.ctx_used, ENG_STATUS.pc]
/-- The fields of VBR. -/
def fVBR : List Fld := [ VBR.vbase]
/-- The fields of GTB. -/
def fGTB : List Fld := [ GTB.gbase]
/-- The fields of ENG_PROT. -/
def fENG_PROT : List Fld := [ ENG_PROT.prot_hi, ENG_PROT.prot_lo]
/-- The fields of XMOD. -/
def fXMOD : List Fld := [ XMOD.en, XMOD.len, XMOD.st]
/-- The fields of YMOD. -/
def fYMOD : List Fld := [ YMOD.en, YMOD.len, YMOD.st]
/-- The fields of LS0. -/
def fLS0 : List Fld := [ LS0.ls0]
/-- The fields of LE0. -/
def fLE0 : List Fld := [ LE0.le0]
/-- The fields of LS1. -/
def fLS1 : List Fld := [ LS1.ls1]
/-- The fields of LE1. -/
def fLE1 : List Fld := [ LE1.le1]
/-- The fields of LC0. -/
def fLC0 : List Fld := [ LC0.lc0]
/-- The fields of LC1. -/
def fLC1 : List Fld := [ LC1.lc1]
/-- The fields of FAR_ADDR. -/
def fFAR_ADDR : List Fld := [ FAR_ADDR.addr]
/-- The fields of FAR_DATA. -/
def fFAR_DATA : List Fld := [ FAR_DATA.data]
/-- The fields of FAR_STAT. -/
def fFAR_STAT : List Fld := [ FAR_STAT.valid, FAR_STAT.size, FAR_STAT.cause, FAR_STAT.ring, FAR_STAT.ovf_count]
/-- The fields of WDT_CTRL. -/
def fWDT_CTRL : List Fld := [ WDT_CTRL.en, WDT_CTRL.lock, WDT_CTRL.timeout]
/-- The fields of WDT_KICK. -/
def fWDT_KICK : List Fld := [ WDT_KICK.key]
/-- The fields of WDT_STATUS. -/
def fWDT_STATUS : List Fld := [ WDT_STATUS.first_expiry, WDT_STATUS.bad_key, WDT_STATUS.remaining]
/-- The fields of ECC_CNT. -/
def fECC_CNT : List Fld := [ ECC_CNT.ue_cnt, ECC_CNT.ce_cnt]
/-- The fields of LIC_PEND0. -/
def fLIC_PEND0 : List Fld := [ LIC_PEND0.pend]
/-- The fields of LIC_SWP0. -/
def fLIC_SWP0 : List Fld := [ LIC_SWP0.swp]
/-- The fields of LIC_TAKEN. -/
def fLIC_TAKEN : List Fld := [ LIC_TAKEN.valid, LIC_TAKEN.prio, LIC_TAKEN.input]
/-- The fields of EXC_INFO. -/
def fEXC_INFO : List Fld := [ EXC_INFO.valid, EXC_INFO.async, EXC_INFO.from_ring, EXC_INFO.slot_valid, EXC_INFO.slot, EXC_INFO.vector]
/-- The fields of EXC_ADDR. -/
def fEXC_ADDR : List Fld := [ EXC_ADDR.addr]
/-- The fields of RPF_INFO. -/
def fRPF_INFO : List Fld := [ RPF_INFO.valid, RPF_INFO.no_context, RPF_INFO.attempted_ring, RPF_INFO.orig_ring, RPF_INFO.eret_ring]
/-- The fields of SPILL_PTR. -/
def fSPILL_PTR : List Fld := [ SPILL_PTR.ptr]
/-- The fields of SPILL_LIM. -/
def fSPILL_LIM : List Fld := [ SPILL_LIM.lim]
/-- The fields of LIC_STATUS. -/
def fLIC_STATUS : List Fld := [ LIC_STATUS.entry_fail, LIC_STATUS.fail_vector, LIC_STATUS.spill_depth, LIC_STATUS.spill_fault, LIC_STATUS.lost_vector]
/-- The fields of LIC_CFG. -/
def fLIC_CFG : List Fld := [ LIC_CFG.en, LIC_CFG.prio, LIC_CFG.evf_en, LIC_CFG.evf_idx, LIC_CFG.mod_ns]
/-- The fields of words 0 to 10 of CTX. -/
def fCTX : List Fld := [ CTX.w]
/-- The fields of word 11 of CTX. -/
def fCTX_RING : List Fld := [ CTX.orig_ring]
/-- The fields of NEWT_PAGES. -/
def fNEWT_PAGES : List Fld := [ NEWT_PAGES.en0, NEWT_PAGES.en1, NEWT_PAGES.en2, NEWT_PAGES.en3, NEWT_PAGES.page0, NEWT_PAGES.page1, NEWT_PAGES.page2, NEWT_PAGES.page3]
/-- The fields of PG_CFG. -/
def fPG_CFG : List Fld := [ PG_CFG.dirty, PG_CFG.refresh, PG_CFG.cg]
/-- The fields of REGROW_CFG. -/
def fREGROW_CFG : List Fld := [ REGROW_CFG.en, REGROW_CFG.img_src, REGROW_CFG.ns_trip, REGROW_CFG.cg, REGROW_CFG.slice_en, REGROW_CFG.slice, REGROW_CFG.spare]
/-- The fields of REGROW_IMG. -/
def fREGROW_IMG : List Fld := [ REGROW_IMG.addr]
/-- The fields of REGROW_CMD. -/
def fREGROW_CMD : List Fld := [ REGROW_CMD.go, REGROW_CMD.op, REGROW_CMD.newt]
/-- The fields of REGROW_STATUS. -/
def fREGROW_STATUS : List Fld := [ REGROW_STATUS.busy, REGROW_STATUS.no_spare, REGROW_STATUS.rg_fail, REGROW_STATUS.done, REGROW_STATUS.st_pass, REGROW_STATUS.bad_cmd, REGROW_STATUS.cause, REGROW_STATUS.failed_k, REGROW_STATUS.spare_k]
/-- The fields of REGROW_FAILED. -/
def fREGROW_FAILED : List Fld := [ REGROW_FAILED.failed]
def rowsClutch0 : List RegRow := [
  ⟨0x201F0000, [(0x200000, 16)], fCLUTCH_CLK⟩,
  ⟨0x2000F100, [(0x200000, 16), (0x10000, 16)], fEVF⟩,
  ⟨0x2000F008, [(0x200000, 16), (0x10000, 16)], fENG_S⟩,
  ⟨0x2000F000, [(0x200000, 16), (0x10000, 16)], fENG_CTRL⟩,
  ⟨0x2000F004, [(0x200000, 16), (0x10000, 16)], fENG_STATUS⟩,
  ⟨0x2000F00C, [(0x200000, 16), (0x10000, 16)], fVBR⟩,
  ⟨0x2000F010, [(0x200000, 16), (0x10000, 16)], fGTB⟩,
  ⟨0x2000F014, [(0x200000, 16), (0x10000, 16)], fENG_PROT⟩,
  ⟨0x2000F018, [(0x200000, 16), (0x10000, 16)], fXMOD⟩,
  ⟨0x2000F01C, [(0x200000, 16), (0x10000, 16)], fYMOD⟩,
  ⟨0x2000F020, [(0x200000, 16), (0x10000, 16)], fLS0⟩,
  ⟨0x2000F024, [(0x200000, 16), (0x10000, 16)], fLE0⟩]
def rowsClutch1 : List RegRow := [
  ⟨0x2000F028, [(0x200000, 16), (0x10000, 16)], fLS1⟩,
  ⟨0x2000F02C, [(0x200000, 16), (0x10000, 16)], fLE1⟩,
  ⟨0x2000F030, [(0x200000, 16), (0x10000, 16)], fLC0⟩,
  ⟨0x2000F034, [(0x200000, 16), (0x10000, 16)], fLC1⟩,
  ⟨0x2000F040, [(0x200000, 16), (0x10000, 16)], fFAR_ADDR⟩,
  ⟨0x2000F044, [(0x200000, 16), (0x10000, 16)], fFAR_DATA⟩,
  ⟨0x2000F048, [(0x200000, 16), (0x10000, 16)], fFAR_STAT⟩,
  ⟨0x2000F050, [(0x200000, 16), (0x10000, 16)], fWDT_CTRL⟩,
  ⟨0x2000F054, [(0x200000, 16), (0x10000, 16)], fWDT_KICK⟩,
  ⟨0x2000F058, [(0x200000, 16), (0x10000, 16)], fWDT_STATUS⟩,
  ⟨0x2000F060, [(0x200000, 16), (0x10000, 16)], fECC_CNT⟩,
  ⟨0x2000F300, [(0x200000, 16), (0x10000, 16)], fLIC_PEND0⟩]
def rowsClutch2 : List RegRow := [
  ⟨0x2000F308, [(0x200000, 16), (0x10000, 16)], fLIC_SWP0⟩,
  ⟨0x2000F310, [(0x200000, 16), (0x10000, 16)], fLIC_TAKEN⟩,
  ⟨0x2000F314, [(0x200000, 16), (0x10000, 16)], fEXC_INFO⟩,
  ⟨0x2000F318, [(0x200000, 16), (0x10000, 16)], fEXC_ADDR⟩,
  ⟨0x2000F31C, [(0x200000, 16), (0x10000, 16)], fRPF_INFO⟩,
  ⟨0x2000F320, [(0x200000, 16), (0x10000, 16)], fSPILL_PTR⟩,
  ⟨0x2000F324, [(0x200000, 16), (0x10000, 16)], fSPILL_LIM⟩,
  ⟨0x2000F328, [(0x200000, 16), (0x10000, 16)], fLIC_STATUS⟩,
  ⟨0x2000F200, [(0x200000, 16), (0x10000, 16), (0x4, 32)], fLIC_CFG⟩,
  ⟨0x2000F400, [(0x200000, 16), (0x10000, 16), (0x40, 4), (0x4, 11)], fCTX⟩,
  ⟨0x2000F42C, [(0x200000, 16), (0x10000, 16), (0x40, 4)], fCTX_RING⟩,
  ⟨0x2000F430, [(0x200000, 16), (0x10000, 16), (0x40, 4), (0x4, 4)], []⟩,
  ⟨0x201F0100, [(0x200000, 16), (0x4, 16)], fNEWT_PAGES⟩,
  ⟨0x201F0200, [(0x200000, 16), (0x4, 64)], fPG_CFG⟩]
def rowsClutch3 : List RegRow := [
  ⟨0x201F0300, [(0x200000, 16)], fREGROW_CFG⟩,
  ⟨0x201F0304, [(0x200000, 16)], fREGROW_IMG⟩,
  ⟨0x201F0308, [(0x200000, 16)], fREGROW_CMD⟩,
  ⟨0x201F030C, [(0x200000, 16)], fREGROW_STATUS⟩,
  ⟨0x201F0310, [(0x200000, 16)], fREGROW_FAILED⟩]
/-- The registers of this block, in the order of the spec's tables. -/
def rowsClutch : List RegRow := rowsClutch0 ++ rowsClutch1 ++ rowsClutch2 ++ rowsClutch3

end Sys2Proof.Machine
end

