-- ==== Sys2Proof/Machine/RegsCommit.lean ====
section
/-!
DEFINITION. The registers of the block Commit: their addresses, their fields (bits, access code, reset value, the classes
that return it to reset, legal codes), and the table of them, from the register tables of the spec.
-/

namespace Sys2Proof.Machine

/-- Address of CG_CFG (13_coherence_progress.md). -/
def aCG_CFG (i : Nat) : Nat := 0x40600000 + i * 0x20
/-- Address of CG_TIME_LO (13_coherence_progress.md). -/
def aCG_TIME_LO (i : Nat) : Nat := 0x40600004 + i * 0x20
/-- Address of CG_TIME_HI (13_coherence_progress.md). -/
def aCG_TIME_HI (i : Nat) : Nat := 0x40600008 + i * 0x20
/-- Address of CG_ARM (13_coherence_progress.md). -/
def aCG_ARM (i : Nat) : Nat := 0x4060000C + i * 0x20
/-- Address of CG_STATUS (13_coherence_progress.md). -/
def aCG_STATUS (i : Nat) : Nat := 0x40600010 + i * 0x20
/-- Address of CG_LAST_LO (13_coherence_progress.md). -/
def aCG_LAST_LO (i : Nat) : Nat := 0x40600014 + i * 0x20
/-- Address of CG_LAST_HI (13_coherence_progress.md). -/
def aCG_LAST_HI (i : Nat) : Nat := 0x40600018 + i * 0x20
/-- Address of CC_RSEL (13_coherence_progress.md). -/
def aCC_RSEL (i : Nat) : Nat := 0x40600800 + i * 0x4
/-- Address of CC_SRD_ADDR (13_coherence_progress.md). -/
def aCC_SRD_ADDR : Nat := 0x40601000
/-- Address of CC_SRD_DATA (13_coherence_progress.md). -/
def aCC_SRD_DATA : Nat := 0x40601004
/-- Address of CC_SRD_INFO (13_coherence_progress.md). -/
def aCC_SRD_INFO : Nat := 0x40601008
/-- Address of CC_TANDEM (13_coherence_progress.md). -/
def aCC_TANDEM : Nat := 0x40601010
/-- Address of CC_IRQ (13_coherence_progress.md). -/
def aCC_IRQ : Nat := 0x40601014
/-- Address of CC_FAULT (13_coherence_progress.md). -/
def aCC_FAULT : Nat := 0x40601018
/-- Address of SNAP_CFG (13_coherence_progress.md). -/
def aSNAP_CFG (i : Nat) : Nat := 0x40602000 + i * 0x20
/-- Address of SNAP_DST (13_coherence_progress.md). -/
def aSNAP_DST (i : Nat) : Nat := 0x40602004 + i * 0x20
/-- Address of SNAP_STATUS (13_coherence_progress.md). -/
def aSNAP_STATUS (i : Nat) : Nat := 0x40602008 + i * 0x20
/-- Address of SNAP_SRC (13_coherence_progress.md). -/
def aSNAP_SRC (i j : Nat) : Nat := 0x40604000 + i * 0x400 + j * 0x4
def CG_CFG.shared : Fld := ⟨31, 31, .rw, 0, 23, [], false⟩
def CG_CFG.trig : Fld := ⟨30, 28, .rw, 0, 23, [(0, 3)], false⟩
def CG_CFG.slice : Fld := ⟨5, 0, .rw, 0, 23, [], false⟩
def CG_TIME_LO.t_lo : Fld := ⟨31, 0, .rw, 0, 23, [], false⟩
def CG_TIME_HI.t_hi : Fld := ⟨31, 0, .rw, 0, 23, [], false⟩
def CG_ARM.cancel : Fld := ⟨1, 1, .wo, 0, 0, [], false⟩
def CG_ARM.arm : Fld := ⟨0, 0, .wo, 0, 0, [], false⟩
def CG_STATUS.armed : Fld := ⟨31, 31, .ro, 0, 23, [], false⟩
def CG_STATUS.staged_cnt : Fld := ⟨28, 16, .ro, 0, 23, [], false⟩
def CG_STATUS.wr_ignored : Fld := ⟨9, 9, .w1c, 0, 23, [], false⟩
def CG_STATUS.idle_trig : Fld := ⟨8, 8, .w1c, 0, 23, [], false⟩
def CG_STATUS.dbl_arm : Fld := ⟨7, 7, .w1c, 0, 23, [], false⟩
def CG_STATUS.reset_hit : Fld := ⟨6, 6, .w1c, 0, 23, [], false⟩
def CG_STATUS.conflict : Fld := ⟨5, 5, .w1c, 0, 23, [], false⟩
def CG_STATUS.overflow : Fld := ⟨4, 4, .w1c, 0, 23, [], false⟩
def CG_STATUS.absent : Fld := ⟨3, 3, .w1c, 0, 23, [], false⟩
def CG_STATUS.mismatch : Fld := ⟨2, 2, .w1c, 0, 23, [], false⟩
def CG_STATUS.late : Fld := ⟨1, 1, .w1c, 0, 23, [], false⟩
def CG_STATUS.refused : Fld := ⟨0, 0, .w1c, 0, 23, [], false⟩
def CG_LAST_LO.tc_lo : Fld := ⟨31, 0, .ro, 0, 23, [], false⟩
def CG_LAST_HI.tc_hi : Fld := ⟨31, 0, .ro, 0, 23, [], false⟩
def CC_RSEL.cg : Fld := ⟨4, 0, .rw, 0, 23, [], false⟩
def CC_SRD_ADDR.addr : Fld := ⟨31, 2, .rw, 0, 23, [], false⟩
def CC_SRD_DATA.data : Fld := ⟨31, 0, .ro, 0, 0, [], false⟩
def CC_SRD_INFO.staged : Fld := ⟨31, 31, .ro, 0, 23, [], false⟩
def CC_SRD_INFO.cg : Fld := ⟨4, 0, .ro, 0, 23, [], false⟩
def CC_TANDEM.part : Fld := ⟨7, 0, .rw, 0, 23, [], false⟩
def CC_IRQ.en : Fld := ⟨31, 0, .rw, 0, 23, [], false⟩
def CC_FAULT.valid : Fld := ⟨31, 31, .w1c, 0, 23, [], false⟩
def CC_FAULT.cg : Fld := ⟨20, 16, .ro, 0, 23, [], false⟩
def CC_FAULT.req : Fld := ⟨8, 0, .ro, 0, 23, [], false⟩
def SNAP_CFG.en : Fld := ⟨31, 31, .rw, 0, 23, [], false⟩
def SNAP_CFG.irq_en : Fld := ⟨30, 30, .rw, 0, 23, [], false⟩
def SNAP_CFG.n : Fld := ⟨8, 0, .rw, 1, 23, [(1, 256)], false⟩
def SNAP_DST.dst : Fld := ⟨31, 3, .rw, 0, 23, [], false⟩
def SNAP_STATUS.busy : Fld := ⟨31, 31, .ro, 0, 23, [], false⟩
def SNAP_STATUS.err : Fld := ⟨2, 2, .w1c, 0, 23, [], false⟩
def SNAP_STATUS.src_err : Fld := ⟨1, 1, .w1c, 0, 23, [], false⟩
def SNAP_STATUS.done : Fld := ⟨0, 0, .w1c, 0, 23, [], false⟩
def SNAP_SRC.code : Fld := ⟨11, 0, .rw, 288, 23, [(0, 79), (128, 289)], false⟩
/-- The fields of CG_CFG. -/
def fCG_CFG : List Fld := [ CG_CFG.shared, CG_CFG.trig, CG_CFG.slice]
/-- The fields of CG_TIME_LO. -/
def fCG_TIME_LO : List Fld := [ CG_TIME_LO.t_lo]
/-- The fields of CG_TIME_HI. -/
def fCG_TIME_HI : List Fld := [ CG_TIME_HI.t_hi]
/-- The fields of CG_ARM. -/
def fCG_ARM : List Fld := [ CG_ARM.cancel, CG_ARM.arm]
/-- The fields of CG_STATUS. -/
def fCG_STATUS : List Fld := [ CG_STATUS.armed, CG_STATUS.staged_cnt, CG_STATUS.wr_ignored, CG_STATUS.idle_trig, CG_STATUS.dbl_arm, CG_STATUS.reset_hit, CG_STATUS.conflict, CG_STATUS.overflow, CG_STATUS.absent, CG_STATUS.mismatch, CG_STATUS.late, CG_STATUS.refused]
/-- The fields of CG_LAST_LO. -/
def fCG_LAST_LO : List Fld := [ CG_LAST_LO.tc_lo]
/-- The fields of CG_LAST_HI. -/
def fCG_LAST_HI : List Fld := [ CG_LAST_HI.tc_hi]
/-- The fields of CC_RSEL. -/
def fCC_RSEL : List Fld := [ CC_RSEL.cg]
/-- The fields of CC_SRD_ADDR. -/
def fCC_SRD_ADDR : List Fld := [ CC_SRD_ADDR.addr]
/-- The fields of CC_SRD_DATA. -/
def fCC_SRD_DATA : List Fld := [ CC_SRD_DATA.data]
/-- The fields of CC_SRD_INFO. -/
def fCC_SRD_INFO : List Fld := [ CC_SRD_INFO.staged, CC_SRD_INFO.cg]
/-- The fields of CC_TANDEM. -/
def fCC_TANDEM : List Fld := [ CC_TANDEM.part]
/-- The fields of CC_IRQ. -/
def fCC_IRQ : List Fld := [ CC_IRQ.en]
/-- The fields of CC_FAULT. -/
def fCC_FAULT : List Fld := [ CC_FAULT.valid, CC_FAULT.cg, CC_FAULT.req]
/-- The fields of SNAP_CFG. -/
def fSNAP_CFG : List Fld := [ SNAP_CFG.en, SNAP_CFG.irq_en, SNAP_CFG.n]
/-- The fields of SNAP_DST. -/
def fSNAP_DST : List Fld := [ SNAP_DST.dst]
/-- The fields of SNAP_STATUS. -/
def fSNAP_STATUS : List Fld := [ SNAP_STATUS.busy, SNAP_STATUS.err, SNAP_STATUS.src_err, SNAP_STATUS.done]
/-- The fields of SNAP_SRC. -/
def fSNAP_SRC : List Fld := [ SNAP_SRC.code]
def rowsCommit0 : List RegRow := [
  ⟨0x40600000, [(0x20, 32)], fCG_CFG⟩,
  ⟨0x40600004, [(0x20, 32)], fCG_TIME_LO⟩,
  ⟨0x40600008, [(0x20, 32)], fCG_TIME_HI⟩,
  ⟨0x4060000C, [(0x20, 32)], fCG_ARM⟩,
  ⟨0x40600010, [(0x20, 32)], fCG_STATUS⟩,
  ⟨0x40600014, [(0x20, 32)], fCG_LAST_LO⟩,
  ⟨0x40600018, [(0x20, 32)], fCG_LAST_HI⟩,
  ⟨0x40600800, [(0x4, 331)], fCC_RSEL⟩,
  ⟨0x40601000, [], fCC_SRD_ADDR⟩,
  ⟨0x40601004, [], fCC_SRD_DATA⟩,
  ⟨0x40601008, [], fCC_SRD_INFO⟩,
  ⟨0x40601010, [], fCC_TANDEM⟩]
def rowsCommit1 : List RegRow := [
  ⟨0x40601014, [], fCC_IRQ⟩,
  ⟨0x40601018, [], fCC_FAULT⟩,
  ⟨0x40602000, [(0x20, 8)], fSNAP_CFG⟩,
  ⟨0x40602004, [(0x20, 8)], fSNAP_DST⟩,
  ⟨0x40602008, [(0x20, 8)], fSNAP_STATUS⟩,
  ⟨0x40604000, [(0x400, 8), (0x4, 256)], fSNAP_SRC⟩]
/-- The registers of this block, in the order of the spec's tables. -/
def rowsCommit : List RegRow := rowsCommit0 ++ rowsCommit1

end Sys2Proof.Machine
end

