-- ==== Sys2Proof/Machine/RegsConv.lean ====
section
/-!
DEFINITION. The registers of the block Conv: their addresses, their fields (bits, access code, reset value, the classes
that return it to reset, legal codes), and the table of them, from the register tables of the spec.
-/

namespace Sys2Proof.Machine

/-- Address of CONV_CTRL (03_conversion.md). -/
def aCONV_CTRL (i : Nat) : Nat := 0x40300000 + i * 0x400
/-- Address of CONV_SG (03_conversion.md). -/
def aCONV_SG (i : Nat) : Nat := 0x40300004 + i * 0x400
/-- Address of CONV_BIND (03_conversion.md). -/
def aCONV_BIND (i : Nat) : Nat := 0x40300008 + i * 0x400
/-- Address of CONV_MBOX (03_conversion.md). -/
def aCONV_MBOX (i : Nat) : Nat := 0x4030000C + i * 0x400
/-- Address of CONV_FIFO (03_conversion.md). -/
def aCONV_FIFO (i : Nat) : Nat := 0x40300010 + i * 0x400
/-- Address of CONV_STATUS (03_conversion.md). -/
def aCONV_STATUS (i : Nat) : Nat := 0x40300014 + i * 0x400
/-- Address of CONV_LIMIT (03_conversion.md). -/
def aCONV_LIMIT (i : Nat) : Nat := 0x40300018 + i * 0x400
/-- Address of CONV_LIMCFG (03_conversion.md). -/
def aCONV_LIMCFG (i : Nat) : Nat := 0x4030001C + i * 0x400
/-- Address of CONV_OF (03_conversion.md). -/
def aCONV_OF (i : Nat) : Nat := 0x40300020 + i * 0x400
/-- Address of CONV_GF (03_conversion.md). -/
def aCONV_GF (i : Nat) : Nat := 0x40300024 + i * 0x400
/-- Address of CONV_OU (03_conversion.md). -/
def aCONV_OU (i : Nat) : Nat := 0x40300028 + i * 0x400
/-- Address of CONV_GU (03_conversion.md). -/
def aCONV_GU (i : Nat) : Nat := 0x4030002C + i * 0x400
/-- Address of SG_CTRL (03_conversion.md). -/
def aSG_CTRL (i : Nat) : Nat := 0x40330000 + i * 0x20
/-- Address of SG_DELAY (03_conversion.md). -/
def aSG_DELAY (i : Nat) : Nat := 0x40330004 + i * 0x20
/-- Address of SG_SEQ (03_conversion.md). -/
def aSG_SEQ (i : Nat) : Nat := 0x40330008 + i * 0x20
/-- Address of SG_STATUS (03_conversion.md). -/
def aSG_STATUS (i : Nat) : Nat := 0x4033000C + i * 0x20
/-- Address of SG_STAMP (03_conversion.md). -/
def aSG_STAMP (i : Nat) : Nat := 0x40330010 + i * 0x20
/-- Address of REF_CFG (03_conversion.md). -/
def aREF_CFG : Nat := 0x40330200
/-- Address of SD_CTRL (03_conversion.md). -/
def aSD_CTRL (i : Nat) : Nat := 0x40340000 + i * 0x40
/-- Address of SD_FAST (03_conversion.md). -/
def aSD_FAST (i : Nat) : Nat := 0x40340004 + i * 0x40
/-- Address of SD_BIND (03_conversion.md). -/
def aSD_BIND (i : Nat) : Nat := 0x40340008 + i * 0x40
/-- Address of SD_DATA (03_conversion.md). -/
def aSD_DATA (i : Nat) : Nat := 0x4034000C + i * 0x40
/-- Address of SD_STATUS (03_conversion.md). -/
def aSD_STATUS (i : Nat) : Nat := 0x40340010 + i * 0x40
/-- Address of SDC_CFG (03_conversion.md). -/
def aSDC_CFG (i : Nat) : Nat := 0x40340800 + i * 0x4
/-- Address of WM_CFG (04_window_monitors.md). -/
def aWM_CFG (i : Nat) : Nat := 0x40380000 + i * 0x10
/-- Address of WM_THR (04_window_monitors.md). -/
def aWM_THR (i : Nat) : Nat := 0x40380004 + i * 0x10
/-- Address of WM_TRIM (04_window_monitors.md). -/
def aWM_TRIM (i : Nat) : Nat := 0x40380008 + i * 0x10
/-- Address of WM_STATUS (04_window_monitors.md). -/
def aWM_STATUS (i : Nat) : Nat := 0x4038000C + i * 0x10
/-- Address of WM_BIND (04_window_monitors.md). -/
def aWM_BIND (i : Nat) : Nat := 0x40380600 + i * 0x4
/-- Address of BW_CFG (04_window_monitors.md). -/
def aBW_CFG (i : Nat) : Nat := 0x40380800 + i * 0x8
/-- Address of BW_STATUS (04_window_monitors.md). -/
def aBW_STATUS (i : Nat) : Nat := 0x40380804 + i * 0x8
def CONV_CTRL.en : Fld := ⟨31, 31, .rw, 0, 31, [], false⟩
def CONV_CTRL.lp : Fld := ⟨30, 30, .rw, 0, 31, [], false⟩
def CONV_CTRL.mux : Fld := ⟨18, 16, .rws, 0, 31, [(0, 3)], false⟩
def CONV_CTRL.done_mode : Fld := ⟨9, 8, .rw, 0, 31, [(0, 2)], false⟩
def CONV_CTRL.fifo_wm : Fld := ⟨5, 0, .rw, 16, 31, [(1, 32)], false⟩
def CONV_SG.member : Fld := ⟨31, 31, .rws, 0, 31, [], false⟩
def CONV_SG.group : Fld := ⟨3, 0, .rws, 0, 31, [], false⟩
def CONV_BIND.feed_en : Fld := ⟨31, 31, .rws, 0, 31, [], false⟩
def CONV_BIND.clutch : Fld := ⟨23, 20, .rws, 0, 31, [], false⟩
def CONV_BIND.newt : Fld := ⟨19, 16, .rws, 0, 31, [], false⟩
def CONV_BIND.word : Fld := ⟨11, 0, .rws, 0, 31, [], false⟩
def CONV_MBOX.result : Fld := ⟨31, 0, .ro, 0, 31, [], false⟩
def CONV_FIFO.result : Fld := ⟨31, 0, .ro, 0, 31, [], false⟩
def CONV_STATUS.ready : Fld := ⟨31, 31, .ro, 0, 31, [], false⟩
def CONV_STATUS.busy : Fld := ⟨30, 30, .ro, 0, 31, [], false⟩
def CONV_STATUS.fifo_level : Fld := ⟨21, 16, .ro, 0, 31, [], false⟩
def CONV_STATUS.lim_lo : Fld := ⟨6, 6, .w1c, 0, 31, [], false⟩
def CONV_STATUS.lim_hi : Fld := ⟨5, 5, .w1c, 0, 31, [], false⟩
def CONV_STATUS.feed_err : Fld := ⟨4, 4, .w1c, 0, 31, [], false⟩
def CONV_STATUS.feed_ovr : Fld := ⟨3, 3, .w1c, 0, 31, [], false⟩
def CONV_STATUS.fifo_unf : Fld := ⟨2, 2, .w1c, 0, 31, [], false⟩
def CONV_STATUS.fifo_ovf : Fld := ⟨1, 1, .w1c, 0, 31, [], false⟩
def CONV_STATUS.range : Fld := ⟨0, 0, .w1c, 0, 31, [], false⟩
def CONV_LIMIT.lim_hi_val : Fld := ⟨31, 16, .rw, 65535, 31, [], false⟩
def CONV_LIMIT.lim_lo_val : Fld := ⟨15, 0, .rw, 0, 31, [], false⟩
def CONV_LIMCFG.lim_en : Fld := ⟨31, 31, .rw, 0, 31, [], false⟩
def CONV_LIMCFG.lim_irq : Fld := ⟨30, 30, .rw, 0, 31, [], false⟩
def CONV_LIMCFG.lim_cnt : Fld := ⟨3, 0, .rw, 0, 31, [], false⟩
def CONV_OF.of : Fld := ⟨19, 0, .ro, 0, 19, [], false⟩
def CONV_GF.gf : Fld := ⟨17, 0, .ro, 0, 19, [], false⟩
def CONV_OU.ou : Fld := ⟨19, 0, .rws, 0, 19, [], false⟩
def CONV_GU.gu : Fld := ⟨17, 0, .rws, 0, 19, [], false⟩
def SG_CTRL.en : Fld := ⟨31, 31, .rws, 0, 23, [], false⟩
def SG_DELAY.delay : Fld := ⟨15, 0, .rws, 0, 23, [], false⟩
def SG_SEQ.next_seq : Fld := ⟨7, 0, .rws, 0, 23, [], false⟩
def SG_STATUS.last_seq : Fld := ⟨15, 8, .ro, 0, 23, [], false⟩
def SG_STATUS.busy : Fld := ⟨1, 1, .ro, 0, 23, [], false⟩
def SG_STATUS.ovr : Fld := ⟨0, 0, .w1c, 0, 23, [], false⟩
def SG_STAMP.tb_sample : Fld := ⟨31, 0, .ro, 0, 23, [], false⟩
def REF_CFG.int_en : Fld := ⟨3, 0, .rw, 15, 3, [], false⟩
def SD_CTRL.en : Fld := ⟨31, 31, .rw, 0, 31, [], false⟩
def SD_CTRL.clk_sel : Fld := ⟨30, 28, .rws, 0, 31, [], false⟩
def SD_CTRL.skew : Fld := ⟨27, 23, .rws, 0, 31, [], false⟩
def SD_CTRL.trig_mode : Fld := ⟨22, 22, .rws, 0, 31, [], false⟩
def SD_CTRL.group : Fld := ⟨21, 18, .rws, 0, 31, [], false⟩
def SD_CTRL.shift : Fld := ⟨12, 9, .rws, 0, 31, [], false⟩
def SD_CTRL.osr : Fld := ⟨8, 0, .rws, 64, 31, [(16, 256)], false⟩
def SD_FAST.fast_en : Fld := ⟨31, 31, .rw, 0, 31, [], false⟩
def SD_FAST.fosr : Fld := ⟨29, 24, .rws, 16, 31, [(8, 32)], false⟩
def SD_FAST.fast_hi : Fld := ⟨21, 11, .rws, 2047, 31, [], false⟩
def SD_FAST.fast_lo : Fld := ⟨10, 0, .rws, 0, 31, [], false⟩
def SD_BIND.feed_en : Fld := ⟨31, 31, .rws, 0, 31, [], false⟩
def SD_BIND.clutch : Fld := ⟨23, 20, .rws, 0, 31, [], false⟩
def SD_BIND.newt : Fld := ⟨19, 16, .rws, 0, 31, [], false⟩
def SD_BIND.word : Fld := ⟨11, 0, .rws, 0, 31, [], false⟩
def SD_DATA.data : Fld := ⟨31, 0, .ro, 0, 31, [], false⟩
def SD_STATUS.ready : Fld := ⟨31, 31, .ro, 0, 31, [], false⟩
def SD_STATUS.fast_l : Fld := ⟨6, 6, .ro, 0, 31, [], false⟩
def SD_STATUS.fast_h : Fld := ⟨5, 5, .ro, 0, 31, [], false⟩
def SD_STATUS.feed_err : Fld := ⟨4, 4, .w1c, 0, 31, [], false⟩
def SD_STATUS.feed_ovr : Fld := ⟨3, 3, .w1c, 0, 31, [], false⟩
def SD_STATUS.stuck : Fld := ⟨2, 2, .w1c, 0, 31, [], false⟩
def SDC_CFG.en : Fld := ⟨31, 31, .rw, 0, 23, [], false⟩
def SDC_CFG.div : Fld := ⟨7, 0, .rw, 50, 23, [(25, 200)], false⟩
def WM_CFG.en_h : Fld := ⟨31, 31, .rw, 0, 7, [], false⟩
def WM_CFG.en_l : Fld := ⟨30, 30, .rw, 0, 7, [], false⟩
def WM_CFG.ld_imm : Fld := ⟨29, 29, .rw, 0, 7, [], false⟩
def WM_CFG.bw_h : Fld := ⟨28, 24, .rws, 0, 7, [], false⟩
def WM_CFG.bwen_h : Fld := ⟨23, 23, .rws, 0, 7, [], false⟩
def WM_CFG.bw_l : Fld := ⟨22, 18, .rws, 0, 7, [], false⟩
def WM_CFG.bwen_l : Fld := ⟨17, 17, .rws, 0, 7, [], false⟩
def WM_CFG.hyst_h : Fld := ⟨7, 6, .rws, 0, 7, [], false⟩
def WM_CFG.hyst_l : Fld := ⟨5, 4, .rws, 0, 7, [], false⟩
def WM_CFG.edge_h : Fld := ⟨3, 2, .rws, 0, 7, [], false⟩
def WM_CFG.edge_l : Fld := ⟨1, 0, .rws, 0, 7, [], false⟩
def WM_THR.thr_h : Fld := ⟨27, 16, .rws, 4095, 7, [], false⟩
def WM_THR.thr_l : Fld := ⟨11, 0, .rws, 0, 7, [], false⟩
def WM_TRIM.tf_h : Fld := ⟨31, 24, .ro, 0, 3, [], false⟩
def WM_TRIM.tf_l : Fld := ⟨23, 16, .ro, 0, 3, [], false⟩
def WM_TRIM.tu_h : Fld := ⟨15, 8, .rws, 0, 3, [], false⟩
def WM_TRIM.tu_l : Fld := ⟨7, 0, .rws, 0, 3, [], false⟩
def WM_STATUS.ready : Fld := ⟨31, 31, .ro, 0, 7, [], false⟩
def WM_STATUS.sat_h : Fld := ⟨3, 3, .w1c, 0, 7, [], false⟩
def WM_STATUS.sat_l : Fld := ⟨2, 2, .w1c, 0, 7, [], false⟩
def WM_STATUS.live_h : Fld := ⟨1, 1, .ro, 0, 7, [], false⟩
def WM_STATUS.live_l : Fld := ⟨0, 0, .ro, 0, 7, [], false⟩
def WM_BIND.bind_en : Fld := ⟨31, 31, .rw, 0, 7, [], false⟩
def WM_BIND.cg : Fld := ⟨12, 8, .rw, 0, 7, [], false⟩
def WM_BIND.clutch : Fld := ⟨7, 4, .rw, 0, 7, [], false⟩
def WM_BIND.newt : Fld := ⟨3, 0, .rw, 0, 7, [], false⟩
def BW_CFG.en : Fld := ⟨31, 31, .rw, 0, 7, [], false⟩
def BW_CFG.slice : Fld := ⟨29, 24, .rws, 0, 7, [], false⟩
def BW_CFG.open_cmp : Fld := ⟨21, 20, .rws, 0, 7, [], false⟩
def BW_CFG.close_cmp : Fld := ⟨17, 16, .rws, 1, 7, [], false⟩
def BW_CFG.max_len : Fld := ⟨15, 0, .rws, 0, 7, [], false⟩
def BW_STATUS.forced : Fld := ⟨1, 1, .w1c, 0, 7, [], false⟩
def BW_STATUS.open_ : Fld := ⟨0, 0, .ro, 0, 23, [], false⟩
/-- The fields of CONV_CTRL. -/
def fCONV_CTRL : List Fld := [ CONV_CTRL.en, CONV_CTRL.lp, CONV_CTRL.mux, CONV_CTRL.done_mode, CONV_CTRL.fifo_wm]
/-- The fields of CONV_SG. -/
def fCONV_SG : List Fld := [ CONV_SG.member, CONV_SG.group]
/-- The fields of CONV_BIND. -/
def fCONV_BIND : List Fld := [ CONV_BIND.feed_en, CONV_BIND.clutch, CONV_BIND.newt, CONV_BIND.word]
/-- The fields of CONV_MBOX. -/
def fCONV_MBOX : List Fld := [ CONV_MBOX.result]
/-- The fields of CONV_FIFO. -/
def fCONV_FIFO : List Fld := [ CONV_FIFO.result]
/-- The fields of CONV_STATUS. -/
def fCONV_STATUS : List Fld := [ CONV_STATUS.ready, CONV_STATUS.busy, CONV_STATUS.fifo_level, CONV_STATUS.lim_lo, CONV_STATUS.lim_hi, CONV_STATUS.feed_err, CONV_STATUS.feed_ovr, CONV_STATUS.fifo_unf, CONV_STATUS.fifo_ovf, CONV_STATUS.range]
/-- The fields of CONV_LIMIT. -/
def fCONV_LIMIT : List Fld := [ CONV_LIMIT.lim_hi_val, CONV_LIMIT.lim_lo_val]
/-- The fields of CONV_LIMCFG. -/
def fCONV_LIMCFG : List Fld := [ CONV_LIMCFG.lim_en, CONV_LIMCFG.lim_irq, CONV_LIMCFG.lim_cnt]
/-- The fields of CONV_OF. -/
def fCONV_OF : List Fld := [ CONV_OF.of]
/-- The fields of CONV_GF. -/
def fCONV_GF : List Fld := [ CONV_GF.gf]
/-- The fields of CONV_OU. -/
def fCONV_OU : List Fld := [ CONV_OU.ou]
/-- The fields of CONV_GU. -/
def fCONV_GU : List Fld := [ CONV_GU.gu]
/-- The fields of SG_CTRL. -/
def fSG_CTRL : List Fld := [ SG_CTRL.en]
/-- The fields of SG_DELAY. -/
def fSG_DELAY : List Fld := [ SG_DELAY.delay]
/-- The fields of SG_SEQ. -/
def fSG_SEQ : List Fld := [ SG_SEQ.next_seq]
/-- The fields of SG_STATUS. -/
def fSG_STATUS : List Fld := [ SG_STATUS.last_seq, SG_STATUS.busy, SG_STATUS.ovr]
/-- The fields of SG_STAMP. -/
def fSG_STAMP : List Fld := [ SG_STAMP.tb_sample]
/-- The fields of REF_CFG. -/
def fREF_CFG : List Fld := [ REF_CFG.int_en]
/-- The fields of SD_CTRL. -/
def fSD_CTRL : List Fld := [ SD_CTRL.en, SD_CTRL.clk_sel, SD_CTRL.skew, SD_CTRL.trig_mode, SD_CTRL.group, SD_CTRL.shift, SD_CTRL.osr]
/-- The fields of SD_FAST. -/
def fSD_FAST : List Fld := [ SD_FAST.fast_en, SD_FAST.fosr, SD_FAST.fast_hi, SD_FAST.fast_lo]
/-- The fields of SD_BIND. -/
def fSD_BIND : List Fld := [ SD_BIND.feed_en, SD_BIND.clutch, SD_BIND.newt, SD_BIND.word]
/-- The fields of SD_DATA. -/
def fSD_DATA : List Fld := [ SD_DATA.data]
/-- The fields of SD_STATUS. -/
def fSD_STATUS : List Fld := [ SD_STATUS.ready, SD_STATUS.fast_l, SD_STATUS.fast_h, SD_STATUS.feed_err, SD_STATUS.feed_ovr, SD_STATUS.stuck]
/-- The fields of SDC_CFG. -/
def fSDC_CFG : List Fld := [ SDC_CFG.en, SDC_CFG.div]
/-- The fields of WM_CFG. -/
def fWM_CFG : List Fld := [ WM_CFG.en_h, WM_CFG.en_l, WM_CFG.ld_imm, WM_CFG.bw_h, WM_CFG.bwen_h, WM_CFG.bw_l, WM_CFG.bwen_l, WM_CFG.hyst_h, WM_CFG.hyst_l, WM_CFG.edge_h, WM_CFG.edge_l]
/-- The fields of WM_THR. -/
def fWM_THR : List Fld := [ WM_THR.thr_h, WM_THR.thr_l]
/-- The fields of WM_TRIM. -/
def fWM_TRIM : List Fld := [ WM_TRIM.tf_h, WM_TRIM.tf_l, WM_TRIM.tu_h, WM_TRIM.tu_l]
/-- The fields of WM_STATUS. -/
def fWM_STATUS : List Fld := [ WM_STATUS.ready, WM_STATUS.sat_h, WM_STATUS.sat_l, WM_STATUS.live_h, WM_STATUS.live_l]
/-- The fields of WM_BIND. -/
def fWM_BIND : List Fld := [ WM_BIND.bind_en, WM_BIND.cg, WM_BIND.clutch, WM_BIND.newt]
/-- The fields of BW_CFG. -/
def fBW_CFG : List Fld := [ BW_CFG.en, BW_CFG.slice, BW_CFG.open_cmp, BW_CFG.close_cmp, BW_CFG.max_len]
/-- The fields of BW_STATUS. -/
def fBW_STATUS : List Fld := [ BW_STATUS.forced, BW_STATUS.open_]
def rowsConv0 : List RegRow := [
  ⟨0x40300000, [(0x400, 32)], fCONV_CTRL⟩,
  ⟨0x40300004, [(0x400, 32)], fCONV_SG⟩,
  ⟨0x40300008, [(0x400, 32)], fCONV_BIND⟩,
  ⟨0x4030000C, [(0x400, 32)], fCONV_MBOX⟩,
  ⟨0x40300010, [(0x400, 32)], fCONV_FIFO⟩,
  ⟨0x40300014, [(0x400, 32)], fCONV_STATUS⟩,
  ⟨0x40300018, [(0x400, 32)], fCONV_LIMIT⟩,
  ⟨0x4030001C, [(0x400, 32)], fCONV_LIMCFG⟩,
  ⟨0x40300020, [(0x400, 32)], fCONV_OF⟩,
  ⟨0x40300024, [(0x400, 32)], fCONV_GF⟩,
  ⟨0x40300028, [(0x400, 32)], fCONV_OU⟩,
  ⟨0x4030002C, [(0x400, 32)], fCONV_GU⟩]
def rowsConv1 : List RegRow := [
  ⟨0x40330000, [(0x20, 16)], fSG_CTRL⟩,
  ⟨0x40330004, [(0x20, 16)], fSG_DELAY⟩,
  ⟨0x40330008, [(0x20, 16)], fSG_SEQ⟩,
  ⟨0x4033000C, [(0x20, 16)], fSG_STATUS⟩,
  ⟨0x40330010, [(0x20, 16)], fSG_STAMP⟩,
  ⟨0x40330200, [], fREF_CFG⟩,
  ⟨0x40340000, [(0x40, 32)], fSD_CTRL⟩,
  ⟨0x40340004, [(0x40, 32)], fSD_FAST⟩,
  ⟨0x40340008, [(0x40, 32)], fSD_BIND⟩,
  ⟨0x4034000C, [(0x40, 32)], fSD_DATA⟩,
  ⟨0x40340010, [(0x40, 32)], fSD_STATUS⟩,
  ⟨0x40340800, [(0x4, 8)], fSDC_CFG⟩]
def rowsConv2 : List RegRow := [
  ⟨0x40380000, [(0x10, 96)], fWM_CFG⟩,
  ⟨0x40380004, [(0x10, 96)], fWM_THR⟩,
  ⟨0x40380008, [(0x10, 96)], fWM_TRIM⟩,
  ⟨0x4038000C, [(0x10, 96)], fWM_STATUS⟩,
  ⟨0x40380600, [(0x4, 96)], fWM_BIND⟩,
  ⟨0x40380800, [(0x8, 32)], fBW_CFG⟩,
  ⟨0x40380804, [(0x8, 32)], fBW_STATUS⟩]
/-- The registers of this block, in the order of the spec's tables. -/
def rowsConv : List RegRow := rowsConv0 ++ rowsConv1 ++ rowsConv2

end Sys2Proof.Machine
end

