-- ==== Sys2Proof/Machine/RegsDma.lean ====
section
/-!
DEFINITION. The registers of the block Dma: their addresses, their fields (bits, access code, reset value, the classes
that return it to reset, legal codes), and the table of them, from the register tables of the spec.
-/

namespace Sys2Proof.Machine

/-- Address of DMA_CFG (14_queues_dma.md). -/
def aDMA_CFG (i : Nat) : Nat := 0x40700000 + i * 0x40
/-- Address of DMA_TD (14_queues_dma.md). -/
def aDMA_TD (i : Nat) : Nat := 0x40700004 + i * 0x40
/-- Address of DMA_CTRL (14_queues_dma.md). -/
def aDMA_CTRL (i : Nat) : Nat := 0x40700008 + i * 0x40
/-- Address of DMA_STAT (14_queues_dma.md). -/
def aDMA_STAT (i : Nat) : Nat := 0x4070000C + i * 0x40
/-- Address of DMA_CUR (14_queues_dma.md). -/
def aDMA_CUR (i : Nat) : Nat := 0x40700010 + i * 0x40
/-- Address of DMA_REM (14_queues_dma.md). -/
def aDMA_REM (i : Nat) : Nat := 0x40700014 + i * 0x40
/-- Address of DMA_ERRADDR (14_queues_dma.md). -/
def aDMA_ERRADDR (i : Nat) : Nat := 0x40700018 + i * 0x40
def DMA_CFG.en : Fld := ⟨31, 31, .rw, 0, 23, [], false⟩
def DMA_CFG.prio : Fld := ⟨30, 28, .rw, 0, 23, [], false⟩
def DMA_CFG.req_mode : Fld := ⟨27, 27, .rw, 0, 23, [], false⟩
def DMA_CFG.ring : Fld := ⟨26, 25, .rw, 1, 23, [], false⟩
def DMA_CFG.burst : Fld := ⟨22, 16, .rw, 16, 23, [(1, 64)], false⟩
def DMA_CFG.irq_mask : Fld := ⟨3, 0, .rw, 0, 23, [], false⟩
def DMA_TD.td : Fld := ⟨31, 5, .rw, 0, 23, [], false⟩
def DMA_CTRL.abort : Fld := ⟨1, 1, .wo, 0, 0, [], false⟩
def DMA_CTRL.start : Fld := ⟨0, 0, .wo, 0, 0, [], false⟩
def DMA_STAT.busy : Fld := ⟨31, 31, .ro, 0, 23, [], false⟩
def DMA_STAT.waitq : Fld := ⟨30, 30, .ro, 0, 23, [], false⟩
def DMA_STAT.seq : Fld := ⟨23, 16, .ro, 0, 23, [], false⟩
def DMA_STAT.last_status : Fld := ⟨15, 8, .ro, 0, 23, [], false⟩
def DMA_STAT.req_idle : Fld := ⟨5, 5, .w1c, 0, 23, [], false⟩
def DMA_STAT.start_ign : Fld := ⟨4, 4, .w1c, 0, 23, [], false⟩
def DMA_STAT.rec_lost : Fld := ⟨3, 3, .w1c, 0, 23, [], false⟩
def DMA_STAT.late_err : Fld := ⟨2, 2, .w1c, 0, 23, [], false⟩
def DMA_STAT.err : Fld := ⟨1, 1, .w1c, 0, 23, [], false⟩
def DMA_STAT.done : Fld := ⟨0, 0, .w1c, 0, 23, [], false⟩
def DMA_CUR.td : Fld := ⟨31, 5, .ro, 0, 23, [], false⟩
def DMA_REM.rem : Fld := ⟨19, 0, .ro, 0, 23, [], false⟩
def DMA_ERRADDR.addr : Fld := ⟨31, 0, .ro, 0, 23, [], false⟩
/-- The fields of DMA_CFG. -/
def fDMA_CFG : List Fld := [ DMA_CFG.en, DMA_CFG.prio, DMA_CFG.req_mode, DMA_CFG.ring, DMA_CFG.burst, DMA_CFG.irq_mask]
/-- The fields of DMA_TD. -/
def fDMA_TD : List Fld := [ DMA_TD.td]
/-- The fields of DMA_CTRL. -/
def fDMA_CTRL : List Fld := [ DMA_CTRL.abort, DMA_CTRL.start]
/-- The fields of DMA_STAT. -/
def fDMA_STAT : List Fld := [ DMA_STAT.busy, DMA_STAT.waitq, DMA_STAT.seq, DMA_STAT.last_status, DMA_STAT.req_idle, DMA_STAT.start_ign, DMA_STAT.rec_lost, DMA_STAT.late_err, DMA_STAT.err, DMA_STAT.done]
/-- The fields of DMA_CUR. -/
def fDMA_CUR : List Fld := [ DMA_CUR.td]
/-- The fields of DMA_REM. -/
def fDMA_REM : List Fld := [ DMA_REM.rem]
/-- The fields of DMA_ERRADDR. -/
def fDMA_ERRADDR : List Fld := [ DMA_ERRADDR.addr]
def rowsDma0 : List RegRow := [
  ⟨0x40700000, [(0x40, 64)], fDMA_CFG⟩,
  ⟨0x40700004, [(0x40, 64)], fDMA_TD⟩,
  ⟨0x40700008, [(0x40, 64)], fDMA_CTRL⟩,
  ⟨0x4070000C, [(0x40, 64)], fDMA_STAT⟩,
  ⟨0x40700010, [(0x40, 64)], fDMA_CUR⟩,
  ⟨0x40700014, [(0x40, 64)], fDMA_REM⟩,
  ⟨0x40700018, [(0x40, 64)], fDMA_ERRADDR⟩]
/-- The registers of this block, in the order of the spec's tables. -/
def rowsDma : List RegRow := rowsDma0

end Sys2Proof.Machine
end

