-- ==== Sys2Proof/Machine/RegsFabric.lean ====
section
/-!
DEFINITION. The registers of the block Fabric: their addresses, their fields (bits, access code, reset value, the classes
that return it to reset, legal codes), and the table of them, from the register tables of the spec.
-/

namespace Sys2Proof.Machine

/-- Address of FAB_SEL (05_event_fabric.md). -/
def aFAB_SEL (i : Nat) : Nat := 0x40400000 + i * 0x8
/-- Address of FAB_CTL (05_event_fabric.md). -/
def aFAB_CTL (i : Nat) : Nat := 0x40400004 + i * 0x8
/-- Address of FAB_GFLAG (05_event_fabric.md). -/
def aFAB_GFLAG : Nat := 0x40408000
/-- Address of FAB_ERR (05_event_fabric.md). -/
def aFAB_ERR : Nat := 0x40408004
/-- Address of FAB_RTEVF0 (05_event_fabric.md). -/
def aFAB_RTEVF0 : Nat := 0x40408010
/-- Address of FAB_RTEVF1 (05_event_fabric.md). -/
def aFAB_RTEVF1 : Nat := 0x40408014
def FAB_SEL.ovr_rep : Fld := ⟨28, 28, .rw, 0, 7, [], false⟩
def FAB_SEL.gate_pol : Fld := ⟨27, 27, .rws, 0, 7, [], false⟩
def FAB_SEL.gate_en : Fld := ⟨26, 26, .rws, 0, 7, [], false⟩
def FAB_SEL.gate_sel : Fld := ⟨25, 16, .rws, 0, 7, [(0, 544)], false⟩
def FAB_SEL.prod_sel : Fld := ⟨10, 0, .rws, 2046, 7, [], false⟩
def FAB_CTL.act_cnt : Fld := ⟨23, 16, .ro, 0, 7, [], false⟩
def FAB_CTL.busy : Fld := ⟨10, 10, .ro, 0, 7, [], false⟩
def FAB_CTL.ovr : Fld := ⟨9, 9, .w1c, 0, 7, [], false⟩
def FAB_CTL.merge : Fld := ⟨8, 8, .w1c, 0, 7, [], false⟩
def FAB_CTL.sw_trig : Fld := ⟨0, 0, .wo, 0, 0, [], false⟩
def FAB_GFLAG.flag : Fld := ⟨31, 0, .rws, 0, 7, [], false⟩
def FAB_ERR.valid : Fld := ⟨31, 31, .w1c, 0, 7, [], false⟩
def FAB_ERR.irq_en : Fld := ⟨30, 30, .rw, 0, 7, [], false⟩
def FAB_ERR.count : Fld := ⟨27, 16, .ro, 0, 7, [], false⟩
def FAB_ERR.first : Fld := ⟨11, 0, .ro, 0, 7, [], false⟩
def FAB_RTEVF0.evf_lo : Fld := ⟨31, 0, .w1c, 0, 7, [], false⟩
def FAB_RTEVF1.evf_hi : Fld := ⟨31, 0, .w1c, 0, 7, [], false⟩
/-- The fields of FAB_SEL. -/
def fFAB_SEL : List Fld := [ FAB_SEL.ovr_rep, FAB_SEL.gate_pol, FAB_SEL.gate_en, FAB_SEL.gate_sel, FAB_SEL.prod_sel]
/-- The fields of FAB_CTL. -/
def fFAB_CTL : List Fld := [ FAB_CTL.act_cnt, FAB_CTL.busy, FAB_CTL.ovr, FAB_CTL.merge, FAB_CTL.sw_trig]
/-- The fields of FAB_GFLAG. -/
def fFAB_GFLAG : List Fld := [ FAB_GFLAG.flag]
/-- The fields of FAB_ERR. -/
def fFAB_ERR : List Fld := [ FAB_ERR.valid, FAB_ERR.irq_en, FAB_ERR.count, FAB_ERR.first]
/-- The fields of FAB_RTEVF0. -/
def fFAB_RTEVF0 : List Fld := [ FAB_RTEVF0.evf_lo]
/-- The fields of FAB_RTEVF1. -/
def fFAB_RTEVF1 : List Fld := [ FAB_RTEVF1.evf_hi]
def rowsFabric0 : List RegRow := [
  ⟨0x40400000, [(0x8, 3072)], fFAB_SEL⟩,
  ⟨0x40400004, [(0x8, 3072)], fFAB_CTL⟩,
  ⟨0x40408000, [], fFAB_GFLAG⟩,
  ⟨0x40408004, [], fFAB_ERR⟩,
  ⟨0x40408010, [], fFAB_RTEVF0⟩,
  ⟨0x40408014, [], fFAB_RTEVF1⟩]
/-- The registers of this block, in the order of the spec's tables. -/
def rowsFabric : List RegRow := rowsFabric0

end Sys2Proof.Machine
end

