-- ==== Sys2Proof/Machine/RegsFieldring.lean ====
section
/-!
DEFINITION. The registers of the block Fieldring: their addresses, their fields (bits, access code, reset value, the classes
that return it to reset, legal codes), and the table of them, from the register tables of the spec.
-/

namespace Sys2Proof.Machine

/-- Address of FR_CFG (15_fieldring.md). -/
def aFR_CFG (i : Nat) : Nat := 0x40800000 + i * 0x40
/-- Address of FR_STATUS (15_fieldring.md). -/
def aFR_STATUS (i : Nat) : Nat := 0x40800004 + i * 0x40
/-- Address of FR_CTRL (15_fieldring.md). -/
def aFR_CTRL (i : Nat) : Nat := 0x40800008 + i * 0x40
/-- Address of FR_RING (15_fieldring.md). -/
def aFR_RING (i : Nat) : Nat := 0x4080000C + i * 0x40
/-- Address of FR_ERRCNT (15_fieldring.md). -/
def aFR_ERRCNT (i : Nat) : Nat := 0x40800010 + i * 0x40
/-- Address of FR_SCHED (15_fieldring.md). -/
def aFR_SCHED (i : Nat) : Nat := 0x40800014 + i * 0x40
/-- Address of FR_ANCHOR_LO (15_fieldring.md). -/
def aFR_ANCHOR_LO (i : Nat) : Nat := 0x40800018 + i * 0x40
/-- Address of FR_ANCHOR_HI (15_fieldring.md). -/
def aFR_ANCHOR_HI (i : Nat) : Nat := 0x4080001C + i * 0x40
/-- Address of FR_PEND (15_fieldring.md). -/
def aFR_PEND (i j : Nat) : Nat := 0x40800020 + i * 0x40 + j * 0x4
/-- Address of PT_MAP (15_fieldring.md). -/
def aPT_MAP (i : Nat) : Nat := 0x40808000 + i * 0x8
/-- Address of PT_RX (15_fieldring.md). -/
def aPT_RX (i : Nat) : Nat := 0x40808004 + i * 0x8
/-- Address of FR_SE0 (15_fieldring.md). -/
def aFR_SE0 (i j : Nat) : Nat := 0x40810000 + i * 0x1000 + j * 0x10
/-- Address of FR_SE1 (15_fieldring.md). -/
def aFR_SE1 (i j : Nat) : Nat := 0x40810004 + i * 0x1000 + j * 0x10
/-- Address of FR_SE2 (15_fieldring.md). -/
def aFR_SE2 (i j : Nat) : Nat := 0x40810008 + i * 0x1000 + j * 0x10
/-- Address of FR_SE3 (15_fieldring.md). -/
def aFR_SE3 (i j : Nat) : Nat := 0x4081000C + i * 0x1000 + j * 0x10
def FR_CFG.en : Fld := ⟨31, 31, .rw, 0, 31, [], false⟩
def FR_CFG.auto_enum : Fld := ⟨30, 30, .rw, 1, 31, [], false⟩
def FR_CFG.rate : Fld := ⟨29, 28, .rw, 0, 31, [], false⟩
def FR_CFG.expect : Fld := ⟨22, 16, .rw, 0, 31, [(0, 126)], false⟩
def FR_CFG.irq_mask : Fld := ⟨15, 8, .rw, 0, 31, [], false⟩
def FR_CFG.ev_sel : Fld := ⟨3, 0, .rw, 0, 31, [], false⟩
def FR_STATUS.state : Fld := ⟨31, 29, .ro, 0, 31, [], false⟩
def FR_STATUS.nodes : Fld := ⟨22, 16, .ro, 0, 31, [], false⟩
def FR_STATUS.fault_node : Fld := ⟨14, 8, .ro, 0, 31, [], false⟩
def FR_STATUS.cnt_err : Fld := ⟨7, 7, .w1c, 0, 31, [], false⟩
def FR_STATUS.enum_to : Fld := ⟨6, 6, .w1c, 0, 31, [], false⟩
def FR_STATUS.fault_seen : Fld := ⟨5, 5, .w1c, 0, 31, [], false⟩
def FR_STATUS.lock_lost : Fld := ⟨4, 4, .w1c, 0, 31, [], false⟩
def FR_STATUS.sched_err : Fld := ⟨3, 3, .w1c, 0, 31, [], false⟩
def FR_STATUS.q_err : Fld := ⟨2, 2, .w1c, 0, 31, [], false⟩
def FR_STATUS.rec_lost : Fld := ⟨1, 1, .w1c, 0, 31, [], false⟩
def FR_CTRL.enum : Fld := ⟨8, 8, .wo, 0, 0, [], false⟩
def FR_CTRL.kick : Fld := ⟨7, 7, .wo, 0, 0, [], false⟩
def FR_CTRL.node : Fld := ⟨6, 0, .wo, 0, 0, [], false⟩
def FR_RING.dr : Fld := ⟨19, 0, .ro, 0, 31, [], false⟩
def FR_ERRCNT.code_err : Fld := ⟨31, 24, .rw, 0, 31, [], false⟩
def FR_ERRCNT.crc_err : Fld := ⟨23, 16, .rw, 0, 31, [], false⟩
def FR_ERRCNT.stray : Fld := ⟨15, 8, .rw, 0, 31, [], false⟩
def FR_ERRCNT.timeouts : Fld := ⟨7, 0, .rw, 0, 31, [], false⟩
def FR_SCHED.en : Fld := ⟨31, 31, .rws, 0, 31, [], false⟩
def FR_SCHED.cycle_ns : Fld := ⟨27, 0, .rws, 10000, 31, [(10000, 268435455)], false⟩
def FR_ANCHOR_LO.a_lo : Fld := ⟨31, 0, .rws, 0, 31, [], false⟩
def FR_ANCHOR_HI.a_hi : Fld := ⟨31, 0, .rws, 0, 31, [], false⟩
def FR_PEND.pend : Fld := ⟨31, 0, .ro, 0, 31, [], false⟩
def PT_MAP.en : Fld := ⟨31, 31, .rw, 0, 23, [], false⟩
def PT_MAP.port : Fld := ⟨29, 24, .rw, 0, 23, [(0, 47)], false⟩
def PT_MAP.node : Fld := ⟨22, 16, .rw, 0, 23, [(1, 126)], false⟩
def PT_MAP.alm_seen : Fld := ⟨15, 15, .ro, 0, 23, [], false⟩
def PT_MAP.max_retry : Fld := ⟨10, 8, .rw, 2, 23, [], false⟩
def PT_MAP.t_ans : Fld := ⟨3, 0, .rw, 15, 23, [], false⟩
def PT_RX.rxbuf : Fld := ⟨31, 8, .rw, 0, 23, [], false⟩
def FR_SE0.en : Fld := ⟨31, 31, .rws, 0, 31, [], false⟩
def FR_SE0.trig : Fld := ⟨30, 30, .rws, 0, 31, [], false⟩
def FR_SE0.node : Fld := ⟨22, 16, .rws, 0, 31, [], false⟩
def FR_SE0.rmax : Fld := ⟨14, 8, .rws, 0, 31, [], false⟩
def FR_SE0.len_out : Fld := ⟨3, 0, .rws, 0, 31, [(0, 8)], false⟩
def FR_SE1.offset : Fld := ⟨23, 0, .rws, 0, 31, [], false⟩
def FR_SE2.div : Fld := ⟨10, 8, .rws, 0, 31, [], false⟩
def FR_SE2.phase : Fld := ⟨6, 0, .rws, 0, 31, [], false⟩
def FR_SE3.src : Fld := ⟨31, 3, .rws, 0, 31, [], false⟩
/-- The fields of FR_CFG. -/
def fFR_CFG : List Fld := [ FR_CFG.en, FR_CFG.auto_enum, FR_CFG.rate, FR_CFG.expect, FR_CFG.irq_mask, FR_CFG.ev_sel]
/-- The fields of FR_STATUS. -/
def fFR_STATUS : List Fld := [ FR_STATUS.state, FR_STATUS.nodes, FR_STATUS.fault_node, FR_STATUS.cnt_err, FR_STATUS.enum_to, FR_STATUS.fault_seen, FR_STATUS.lock_lost, FR_STATUS.sched_err, FR_STATUS.q_err, FR_STATUS.rec_lost]
/-- The fields of FR_CTRL. -/
def fFR_CTRL : List Fld := [ FR_CTRL.enum, FR_CTRL.kick, FR_CTRL.node]
/-- The fields of FR_RING. -/
def fFR_RING : List Fld := [ FR_RING.dr]
/-- The fields of FR_ERRCNT. -/
def fFR_ERRCNT : List Fld := [ FR_ERRCNT.code_err, FR_ERRCNT.crc_err, FR_ERRCNT.stray, FR_ERRCNT.timeouts]
/-- The fields of FR_SCHED. -/
def fFR_SCHED : List Fld := [ FR_SCHED.en, FR_SCHED.cycle_ns]
/-- The fields of FR_ANCHOR_LO. -/
def fFR_ANCHOR_LO : List Fld := [ FR_ANCHOR_LO.a_lo]
/-- The fields of FR_ANCHOR_HI. -/
def fFR_ANCHOR_HI : List Fld := [ FR_ANCHOR_HI.a_hi]
/-- The fields of FR_PEND. -/
def fFR_PEND : List Fld := [ FR_PEND.pend]
/-- The fields of PT_MAP. -/
def fPT_MAP : List Fld := [ PT_MAP.en, PT_MAP.port, PT_MAP.node, PT_MAP.alm_seen, PT_MAP.max_retry, PT_MAP.t_ans]
/-- The fields of PT_RX. -/
def fPT_RX : List Fld := [ PT_RX.rxbuf]
/-- The fields of FR_SE0. -/
def fFR_SE0 : List Fld := [ FR_SE0.en, FR_SE0.trig, FR_SE0.node, FR_SE0.rmax, FR_SE0.len_out]
/-- The fields of FR_SE1. -/
def fFR_SE1 : List Fld := [ FR_SE1.offset]
/-- The fields of FR_SE2. -/
def fFR_SE2 : List Fld := [ FR_SE2.div, FR_SE2.phase]
/-- The fields of FR_SE3. -/
def fFR_SE3 : List Fld := [ FR_SE3.src]
def rowsFieldring0 : List RegRow := [
  ⟨0x40800000, [(0x40, 48)], fFR_CFG⟩,
  ⟨0x40800004, [(0x40, 48)], fFR_STATUS⟩,
  ⟨0x40800008, [(0x40, 48)], fFR_CTRL⟩,
  ⟨0x4080000C, [(0x40, 48)], fFR_RING⟩,
  ⟨0x40800010, [(0x40, 48)], fFR_ERRCNT⟩,
  ⟨0x40800014, [(0x40, 48)], fFR_SCHED⟩,
  ⟨0x40800018, [(0x40, 48)], fFR_ANCHOR_LO⟩,
  ⟨0x4080001C, [(0x40, 48)], fFR_ANCHOR_HI⟩,
  ⟨0x40800020, [(0x40, 48), (0x4, 4)], fFR_PEND⟩,
  ⟨0x40808000, [(0x8, 4096)], fPT_MAP⟩,
  ⟨0x40808004, [(0x8, 4096)], fPT_RX⟩,
  ⟨0x40810000, [(0x1000, 48), (0x10, 256)], fFR_SE0⟩]
def rowsFieldring1 : List RegRow := [
  ⟨0x40810004, [(0x1000, 48), (0x10, 256)], fFR_SE1⟩,
  ⟨0x40810008, [(0x1000, 48), (0x10, 256)], fFR_SE2⟩,
  ⟨0x4081000C, [(0x1000, 48), (0x10, 256)], fFR_SE3⟩]
/-- The registers of this block, in the order of the spec's tables. -/
def rowsFieldring : List RegRow := rowsFieldring0 ++ rowsFieldring1

end Sys2Proof.Machine
end

