-- ==== Sys2Proof/Machine/RegsPwm.lean ====
section
/-!
DEFINITION. The registers of the block Pwm: their addresses, their fields (bits, access code, reset value, the classes
that return it to reset, legal codes), and the table of them, from the register tables of the spec.
-/

namespace Sys2Proof.Machine

/-- Address of SL_CTRL (11_pwm_slices.md). -/
def aSL_CTRL (i : Nat) : Nat := 0x40100000 + i * 0x400
/-- Address of SL_LOAD (11_pwm_slices.md). -/
def aSL_LOAD (i : Nat) : Nat := 0x40100004 + i * 0x400
/-- Address of SL_CNT (11_pwm_slices.md). -/
def aSL_CNT (i : Nat) : Nat := 0x40100008 + i * 0x400
/-- Address of SL_STATUS (11_pwm_slices.md). -/
def aSL_STATUS (i : Nat) : Nat := 0x4010000C + i * 0x400
/-- Address of SL_IRQ (11_pwm_slices.md). -/
def aSL_IRQ (i : Nat) : Nat := 0x40100010 + i * 0x400
/-- Address of SL_BIND (11_pwm_slices.md). -/
def aSL_BIND (i : Nat) : Nat := 0x40100014 + i * 0x400
/-- Address of SL_STG (11_pwm_slices.md). -/
def aSL_STG (i : Nat) : Nat := 0x40100018 + i * 0x400
/-- Address of CMPA (11_pwm_slices.md). -/
def aCMPA (i : Nat) : Nat := 0x40100020 + i * 0x400
/-- Address of CMPB (11_pwm_slices.md). -/
def aCMPB (i : Nat) : Nat := 0x40100024 + i * 0x400
/-- Address of CMPC (11_pwm_slices.md). -/
def aCMPC (i : Nat) : Nat := 0x40100028 + i * 0x400
/-- Address of CMPD (11_pwm_slices.md). -/
def aCMPD (i : Nat) : Nat := 0x4010002C + i * 0x400
/-- Address of PER (11_pwm_slices.md). -/
def aPER (i : Nat) : Nat := 0x40100030 + i * 0x400
/-- Address of PHS (11_pwm_slices.md). -/
def aPHS (i : Nat) : Nat := 0x40100034 + i * 0x400
/-- Address of SL_AQA (11_pwm_slices.md). -/
def aSL_AQA (i : Nat) : Nat := 0x40100040 + i * 0x400
/-- Address of SL_AQB (11_pwm_slices.md). -/
def aSL_AQB (i : Nat) : Nat := 0x40100044 + i * 0x400
/-- Address of SL_DTR (11_pwm_slices.md). -/
def aSL_DTR (i : Nat) : Nat := 0x40100048 + i * 0x400
/-- Address of SL_DTF (11_pwm_slices.md). -/
def aSL_DTF (i : Nat) : Nat := 0x4010004C + i * 0x400
/-- Address of SL_OUT (11_pwm_slices.md). -/
def aSL_OUT (i : Nat) : Nat := 0x40100050 + i * 0x400
/-- Address of ELA (11_pwm_slices.md). -/
def aELA (i j : Nat) : Nat := 0x40100080 + i * 0x400 + j * 0x4
/-- Address of ELB (11_pwm_slices.md). -/
def aELB (i j : Nat) : Nat := 0x401000A0 + i * 0x400 + j * 0x4
def SL_CTRL.run : Fld := ⟨31, 31, .rws, 0, 31, [], false⟩
def SL_CTRL.mode : Fld := ⟨30, 28, .rws, 0, 15, [(0, 3)], false⟩
def SL_CTRL.chain : Fld := ⟨27, 27, .rws, 0, 15, [], false⟩
def SL_CTRL.sync_dir : Fld := ⟨26, 26, .rws, 0, 15, [], false⟩
def SL_CTRL.sw_start : Fld := ⟨1, 1, .wo, 0, 0, [], false⟩
def SL_CTRL.sw_sync : Fld := ⟨0, 0, .wo, 0, 0, [], false⟩
def SL_LOAD.ld_el : Fld := ⟨20, 18, .rws, 1, 15, [(0, 4)], false⟩
def SL_LOAD.ld_phs : Fld := ⟨17, 15, .rws, 1, 15, [(0, 4)], false⟩
def SL_LOAD.ld_per : Fld := ⟨14, 12, .rws, 1, 15, [(0, 4)], false⟩
def SL_LOAD.ld_d : Fld := ⟨11, 9, .rws, 1, 15, [(0, 4)], false⟩
def SL_LOAD.ld_c : Fld := ⟨8, 6, .rws, 1, 15, [(0, 4)], false⟩
def SL_LOAD.ld_b : Fld := ⟨5, 3, .rws, 1, 15, [(0, 4)], false⟩
def SL_LOAD.ld_a : Fld := ⟨2, 0, .rws, 1, 15, [(0, 4)], false⟩
def SL_CNT.count : Fld := ⟨31, 0, .ro, 0, 31, [], false⟩
def SL_STATUS.ready : Fld := ⟨31, 31, .ro, 0, 31, [], false⟩
def SL_STATUS.counting : Fld := ⟨30, 30, .ro, 0, 31, [], false⟩
def SL_STATUS.down : Fld := ⟨29, 29, .ro, 0, 31, [], false⟩
def SL_STATUS.shed : Fld := ⟨28, 28, .ro, 0, 31, [], false⟩
def SL_STATUS.pend : Fld := ⟨22, 16, .ro, 0, 31, [], false⟩
def SL_STATUS.stg_err : Fld := ⟨9, 9, .w1c, 0, 31, [], false⟩
def SL_STATUS.bad_per : Fld := ⟨8, 8, .w1c, 0, 31, [], false⟩
def SL_STATUS.sovr : Fld := ⟨7, 7, .w1c, 0, 31, [], false⟩
def SL_STATUS.el_f : Fld := ⟨6, 6, .w1c, 0, 31, [], false⟩
def SL_STATUS.cmpd_f : Fld := ⟨5, 5, .w1c, 0, 31, [], false⟩
def SL_STATUS.cmpc_f : Fld := ⟨4, 4, .w1c, 0, 31, [], false⟩
def SL_STATUS.cmpb_f : Fld := ⟨3, 3, .w1c, 0, 31, [], false⟩
def SL_STATUS.cmpa_f : Fld := ⟨2, 2, .w1c, 0, 31, [], false⟩
def SL_STATUS.per_f : Fld := ⟨1, 1, .w1c, 0, 31, [], false⟩
def SL_STATUS.zero_f : Fld := ⟨0, 0, .w1c, 0, 31, [], false⟩
def SL_IRQ.mask : Fld := ⟨9, 0, .rw, 0, 15, [], false⟩
def SL_BIND.bind_en : Fld := ⟨31, 31, .rw, 0, 15, [], false⟩
def SL_BIND.cg : Fld := ⟨12, 8, .rw, 0, 15, [], false⟩
def SL_BIND.clutch : Fld := ⟨7, 4, .rw, 0, 15, [], false⟩
def SL_BIND.newt : Fld := ⟨3, 0, .rw, 0, 15, [], false⟩
def SL_STG.member : Fld := ⟨31, 31, .rws, 0, 15, [], false⟩
def SL_STG.grp : Fld := ⟨27, 24, .rws, 0, 15, [], false⟩
def SL_STG.idx : Fld := ⟨5, 0, .rws, 0, 15, [], false⟩
def CMPA.cmp : Fld := ⟨31, 0, .rw, 0, 15, [], false⟩
def CMPB.cmp : Fld := ⟨31, 0, .rw, 0, 15, [], false⟩
def CMPC.cmp : Fld := ⟨31, 0, .rw, 0, 15, [], false⟩
def CMPD.cmp : Fld := ⟨31, 0, .rw, 0, 15, [], false⟩
def PER.per : Fld := ⟨31, 0, .rw, 128000, 15, [(8192, 4294967295)], false⟩
def PHS.phs : Fld := ⟨31, 0, .rw, 0, 15, [], false⟩
def SL_AQA.cdd : Fld := ⟨19, 18, .rws, 0, 15, [], false⟩
def SL_AQA.cdu : Fld := ⟨17, 16, .rws, 0, 15, [], false⟩
def SL_AQA.ccd : Fld := ⟨15, 14, .rws, 0, 15, [], false⟩
def SL_AQA.ccu : Fld := ⟨13, 12, .rws, 0, 15, [], false⟩
def SL_AQA.cbd : Fld := ⟨11, 10, .rws, 0, 15, [], false⟩
def SL_AQA.cbu : Fld := ⟨9, 8, .rws, 0, 15, [], false⟩
def SL_AQA.cad : Fld := ⟨7, 6, .rws, 0, 15, [], false⟩
def SL_AQA.cau : Fld := ⟨5, 4, .rws, 0, 15, [], false⟩
def SL_AQA.per : Fld := ⟨3, 2, .rws, 0, 15, [], false⟩
def SL_AQA.zero : Fld := ⟨1, 0, .rws, 0, 15, [], false⟩
def SL_AQB.cdd : Fld := ⟨19, 18, .rws, 0, 15, [], false⟩
def SL_AQB.cdu : Fld := ⟨17, 16, .rws, 0, 15, [], false⟩
def SL_AQB.ccd : Fld := ⟨15, 14, .rws, 0, 15, [], false⟩
def SL_AQB.ccu : Fld := ⟨13, 12, .rws, 0, 15, [], false⟩
def SL_AQB.cbd : Fld := ⟨11, 10, .rws, 0, 15, [], false⟩
def SL_AQB.cbu : Fld := ⟨9, 8, .rws, 0, 15, [], false⟩
def SL_AQB.cad : Fld := ⟨7, 6, .rws, 0, 15, [], false⟩
def SL_AQB.cau : Fld := ⟨5, 4, .rws, 0, 15, [], false⟩
def SL_AQB.per : Fld := ⟨3, 2, .rws, 0, 15, [], false⟩
def SL_AQB.zero : Fld := ⟨1, 0, .rws, 0, 15, [], false⟩
def SL_DTR.ns : Fld := ⟨16, 7, .rws, 0, 15, [], false⟩
def SL_DTR.fine : Fld := ⟨6, 0, .rws, 0, 15, [], false⟩
def SL_DTF.ns : Fld := ⟨16, 7, .rws, 0, 15, [], false⟩
def SL_DTF.fine : Fld := ⟨6, 0, .rws, 0, 15, [], false⟩
def SL_OUT.dt_mode : Fld := ⟨5, 4, .rws, 0, 15, [(0, 1)], false⟩
def SL_OUT.inv_b : Fld := ⟨3, 3, .rws, 0, 15, [], false⟩
def SL_OUT.inv_a : Fld := ⟨2, 2, .rws, 0, 15, [], false⟩
def SL_OUT.idle_b : Fld := ⟨1, 1, .rws, 0, 15, [], false⟩
def SL_OUT.idle_a : Fld := ⟨0, 0, .rws, 0, 15, [], false⟩
def ELA.action : Fld := ⟨31, 30, .rw, 0, 15, [], false⟩
def ELA.ev : Fld := ⟨29, 29, .rw, 0, 15, [], false⟩
def ELA.ns : Fld := ⟨24, 7, .rw, 0, 15, [], false⟩
def ELA.fine : Fld := ⟨6, 0, .rw, 0, 15, [], false⟩
def ELB.action : Fld := ⟨31, 30, .rw, 0, 15, [], false⟩
def ELB.ev : Fld := ⟨29, 29, .rw, 0, 15, [], false⟩
def ELB.ns : Fld := ⟨24, 7, .rw, 0, 15, [], false⟩
def ELB.fine : Fld := ⟨6, 0, .rw, 0, 15, [], false⟩
/-- The fields of SL_CTRL. -/
def fSL_CTRL : List Fld := [ SL_CTRL.run, SL_CTRL.mode, SL_CTRL.chain, SL_CTRL.sync_dir, SL_CTRL.sw_start, SL_CTRL.sw_sync]
/-- The fields of SL_CTRL of an even slice, in which chain is reserved. -/
def fSL_CTRL_EVEN : List Fld := [ SL_CTRL.run, SL_CTRL.mode, SL_CTRL.sync_dir, SL_CTRL.sw_start, SL_CTRL.sw_sync]
/-- The fields of SL_LOAD. -/
def fSL_LOAD : List Fld := [ SL_LOAD.ld_el, SL_LOAD.ld_phs, SL_LOAD.ld_per, SL_LOAD.ld_d, SL_LOAD.ld_c, SL_LOAD.ld_b, SL_LOAD.ld_a]
/-- The fields of SL_CNT. -/
def fSL_CNT : List Fld := [ SL_CNT.count]
/-- The fields of SL_STATUS. -/
def fSL_STATUS : List Fld := [ SL_STATUS.ready, SL_STATUS.counting, SL_STATUS.down, SL_STATUS.shed, SL_STATUS.pend, SL_STATUS.stg_err, SL_STATUS.bad_per, SL_STATUS.sovr, SL_STATUS.el_f, SL_STATUS.cmpd_f, SL_STATUS.cmpc_f, SL_STATUS.cmpb_f, SL_STATUS.cmpa_f, SL_STATUS.per_f, SL_STATUS.zero_f]
/-- The fields of SL_IRQ. -/
def fSL_IRQ : List Fld := [ SL_IRQ.mask]
/-- The fields of SL_BIND. -/
def fSL_BIND : List Fld := [ SL_BIND.bind_en, SL_BIND.cg, SL_BIND.clutch, SL_BIND.newt]
/-- The fields of SL_STG. -/
def fSL_STG : List Fld := [ SL_STG.member, SL_STG.grp, SL_STG.idx]
/-- The fields of CMPA. -/
def fCMPA : List Fld := [ CMPA.cmp]
/-- The fields of CMPB. -/
def fCMPB : List Fld := [ CMPB.cmp]
/-- The fields of CMPC. -/
def fCMPC : List Fld := [ CMPC.cmp]
/-- The fields of CMPD. -/
def fCMPD : List Fld := [ CMPD.cmp]
/-- The fields of PER. -/
def fPER : List Fld := [ PER.per]
/-- The fields of PHS. -/
def fPHS : List Fld := [ PHS.phs]
/-- The fields of SL_AQA. -/
def fSL_AQA : List Fld := [ SL_AQA.cdd, SL_AQA.cdu, SL_AQA.ccd, SL_AQA.ccu, SL_AQA.cbd, SL_AQA.cbu, SL_AQA.cad, SL_AQA.cau, SL_AQA.per, SL_AQA.zero]
/-- The fields of SL_AQB. -/
def fSL_AQB : List Fld := [ SL_AQB.cdd, SL_AQB.cdu, SL_AQB.ccd, SL_AQB.ccu, SL_AQB.cbd, SL_AQB.cbu, SL_AQB.cad, SL_AQB.cau, SL_AQB.per, SL_AQB.zero]
/-- The fields of SL_DTR. -/
def fSL_DTR : List Fld := [ SL_DTR.ns, SL_DTR.fine]
/-- The fields of SL_DTF. -/
def fSL_DTF : List Fld := [ SL_DTF.ns, SL_DTF.fine]
/-- The fields of SL_OUT. -/
def fSL_OUT : List Fld := [ SL_OUT.dt_mode, SL_OUT.inv_b, SL_OUT.inv_a, SL_OUT.idle_b, SL_OUT.idle_a]
/-- The fields of ELA. -/
def fELA : List Fld := [ ELA.action, ELA.ev, ELA.ns, ELA.fine]
/-- The fields of ELB. -/
def fELB : List Fld := [ ELB.action, ELB.ev, ELB.ns, ELB.fine]
def rowsPwm0 : List RegRow := [
  ⟨0x40100000, [(0x800, 32)], fSL_CTRL_EVEN⟩,
  ⟨0x40100400, [(0x800, 32)], fSL_CTRL⟩,
  ⟨0x40100004, [(0x400, 64)], fSL_LOAD⟩,
  ⟨0x40100008, [(0x400, 64)], fSL_CNT⟩,
  ⟨0x4010000C, [(0x400, 64)], fSL_STATUS⟩,
  ⟨0x40100010, [(0x400, 64)], fSL_IRQ⟩,
  ⟨0x40100014, [(0x400, 64)], fSL_BIND⟩,
  ⟨0x40100018, [(0x400, 64)], fSL_STG⟩,
  ⟨0x40100020, [(0x400, 64)], fCMPA⟩,
  ⟨0x40100024, [(0x400, 64)], fCMPB⟩,
  ⟨0x40100028, [(0x400, 64)], fCMPC⟩,
  ⟨0x4010002C, [(0x400, 64)], fCMPD⟩,
  ⟨0x40100030, [(0x400, 64)], fPER⟩]
def rowsPwm1 : List RegRow := [
  ⟨0x40100034, [(0x400, 64)], fPHS⟩,
  ⟨0x40100040, [(0x400, 64)], fSL_AQA⟩,
  ⟨0x40100044, [(0x400, 64)], fSL_AQB⟩,
  ⟨0x40100048, [(0x400, 64)], fSL_DTR⟩,
  ⟨0x4010004C, [(0x400, 64)], fSL_DTF⟩,
  ⟨0x40100050, [(0x400, 64)], fSL_OUT⟩,
  ⟨0x40100080, [(0x400, 64), (0x4, 8)], fELA⟩,
  ⟨0x401000A0, [(0x400, 64), (0x4, 8)], fELB⟩]
/-- The registers of this block, in the order of the spec's tables. -/
def rowsPwm : List RegRow := rowsPwm0 ++ rowsPwm1

end Sys2Proof.Machine
end

