-- ==== Sys2Proof/Machine/RegsQueue.lean ====
section
/-!
DEFINITION. The registers of the block Queue: their addresses, their fields (bits, access code, reset value, the classes
that return it to reset, legal codes), and the table of them, from the register tables of the spec.
-/

namespace Sys2Proof.Machine

/-- Address of QD_BASE (14_queues_dma.md). -/
def aQD_BASE (i : Nat) : Nat := 0x50000000 + i * 0x10
/-- Address of QD_PTR (14_queues_dma.md). -/
def aQD_PTR (i : Nat) : Nat := 0x50000004 + i * 0x10
/-- Address of QD_CNT (14_queues_dma.md). -/
def aQD_CNT (i : Nat) : Nat := 0x50000008 + i * 0x10
/-- Address of QD_CFG (14_queues_dma.md). -/
def aQD_CFG (i : Nat) : Nat := 0x5000000C + i * 0x10
/-- Address of QM_STATUS (14_queues_dma.md). -/
def aQM_STATUS : Nat := 0x51100000
/-- Address of QW_LINE (14_queues_dma.md). -/
def aQW_LINE (i : Nat) : Nat := 0x51100100 + i * 0x4
def QD_BASE.base : Fld := ⟨31, 4, .rw, 0, 23, [], false⟩
def QD_PTR.head : Fld := ⟨31, 16, .rw, 0, 23, [], false⟩
def QD_PTR.tail : Fld := ⟨15, 0, .rw, 0, 23, [], false⟩
def QD_CNT.drops : Fld := ⟨31, 20, .rw, 0, 23, [], false⟩
def QD_CNT.count : Fld := ⟨16, 0, .rw, 0, 23, [], false⟩
def QD_CFG.en : Fld := ⟨31, 31, .rw, 0, 23, [], false⟩
def QD_CFG.policy : Fld := ⟨30, 29, .rw, 0, 23, [(0, 2)], false⟩
def QD_CFG.ring : Fld := ⟨28, 27, .rw, 0, 23, [], false⟩
def QD_CFG.lsz : Fld := ⟨26, 22, .rw, 0, 23, [(2, 16)], false⟩
def QD_CFG.line : Fld := ⟨21, 16, .rw, 0, 23, [], false⟩
def QD_CFG.wm : Fld := ⟨15, 0, .rw, 0, 23, [], false⟩
def QM_STATUS.ready : Fld := ⟨31, 31, .ro, 0, 23, [], false⟩
def QW_LINE.n_high : Fld := ⟨30, 16, .ro, 0, 23, [], false⟩
def QW_LINE.last_q : Fld := ⟨13, 0, .ro, 0, 23, [], false⟩
/-- The fields of QD_BASE. -/
def fQD_BASE : List Fld := [ QD_BASE.base]
/-- The fields of QD_PTR. -/
def fQD_PTR : List Fld := [ QD_PTR.head, QD_PTR.tail]
/-- The fields of QD_CNT. -/
def fQD_CNT : List Fld := [ QD_CNT.drops, QD_CNT.count]
/-- The fields of QD_CFG. -/
def fQD_CFG : List Fld := [ QD_CFG.en, QD_CFG.policy, QD_CFG.ring, QD_CFG.lsz, QD_CFG.line, QD_CFG.wm]
/-- The fields of QM_STATUS. -/
def fQM_STATUS : List Fld := [ QM_STATUS.ready]
/-- The fields of QW_LINE. -/
def fQW_LINE : List Fld := [ QW_LINE.n_high, QW_LINE.last_q]
def rowsQueue0 : List RegRow := [
  ⟨0x50000000, [(0x10, 16384)], fQD_BASE⟩,
  ⟨0x50000004, [(0x10, 16384)], fQD_PTR⟩,
  ⟨0x50000008, [(0x10, 16384)], fQD_CNT⟩,
  ⟨0x5000000C, [(0x10, 16384)], fQD_CFG⟩,
  ⟨0x51100000, [], fQM_STATUS⟩,
  ⟨0x51100100, [(0x4, 64)], fQW_LINE⟩]
/-- The registers of this block, in the order of the spec's tables. -/
def rowsQueue : List RegRow := rowsQueue0

end Sys2Proof.Machine
end

