-- ==== Sys2Proof/Machine/RegsRouter.lean ====
section
/-!
DEFINITION. The registers of the block Router: their addresses, their fields (bits, access code, reset value, the classes
that return it to reset, legal codes), and the table of them, from the register tables of the spec.
-/

namespace Sys2Proof.Machine

/-- Address of ROUTE_CFG (10_privilege_interrupts.md). -/
def aROUTE_CFG (i : Nat) : Nat := 0x40500000 + i * 0x4
/-- Address of ROUTE_LVL (10_privilege_interrupts.md). -/
def aROUTE_LVL (i : Nat) : Nat := 0x40500800 + i * 0x4
def ROUTE_CFG.en : Fld := ⟨31, 31, .rw, 0, 7, [], false⟩
def ROUTE_CFG.engine : Fld := ⟨24, 16, .rw, 0, 7, [(0, 257)], false⟩
def ROUTE_CFG.input : Fld := ⟨5, 0, .rw, 0, 7, [], false⟩
def ROUTE_LVL.level : Fld := ⟨31, 0, .ro, 0, 7, [], false⟩
/-- The fields of ROUTE_CFG. -/
def fROUTE_CFG : List Fld := [ ROUTE_CFG.en, ROUTE_CFG.engine, ROUTE_CFG.input]
/-- The fields of ROUTE_LVL. -/
def fROUTE_LVL : List Fld := [ ROUTE_LVL.level]
def rowsRouter0 : List RegRow := [
  ⟨0x40500000, [(0x4, 512)], fROUTE_CFG⟩,
  ⟨0x40500800, [(0x4, 16)], fROUTE_LVL⟩]
/-- The registers of this block, in the order of the spec's tables. -/
def rowsRouter : List RegRow := rowsRouter0

end Sys2Proof.Machine
end

