-- ==== Sys2Proof/Machine/RegsSkink.lean ====
section
/-!
DEFINITION. The registers of the block Skink: their addresses, their fields (bits, access code, reset value, the classes
that return it to reset, legal codes), and the table of them, from the register tables of the spec.
-/

namespace Sys2Proof.Machine

/-- Address of SK_NBR (06_newt_engine.md). -/
def aSK_NBR (e : Nat) : Nat := engBase e + 0x70
/-- Address of SK_CACHE_OP (06_newt_engine.md). -/
def aSK_CACHE_OP (e : Nat) : Nat := engBase e + 0x74
/-- Address of SK_CACHE_ADDR (06_newt_engine.md). -/
def aSK_CACHE_ADDR (e : Nat) : Nat := engBase e + 0x78
/-- Address of MPU_BASE (06_newt_engine.md). -/
def aMPU_BASE (e i : Nat) : Nat := engBase e + 0x80 + i * 0x8
/-- Address of MPU_ATTR (06_newt_engine.md). -/
def aMPU_ATTR (e i : Nat) : Nat := engBase e + 0x84 + i * 0x8
def SK_EVF.evf : Fld := ⟨15, 0, .w1c, 0, 23, [], false⟩
def SK_ENG_S.resume : Fld := ⟨31, 31, .ro, 0, 23, [], false⟩
def SK_ENG_S.ct : Fld := ⟨30, 30, .ro, 0, 23, [], false⟩
def SK_ENG_S.ring : Fld := ⟨29, 28, .ro, 0, 23, [], false⟩
def SK_ENG_S.iel : Fld := ⟨27, 24, .rw, 8, 23, [(0, 8)], false⟩
def SK_ENG_S.rm : Fld := ⟨21, 20, .rw, 0, 23, [], false⟩
def SK_ENG_S.te_iv : Fld := ⟨19, 19, .rw, 0, 23, [], false⟩
def SK_ENG_S.te_dz : Fld := ⟨18, 18, .rw, 0, 23, [], false⟩
def SK_ENG_S.te_of : Fld := ⟨17, 17, .rw, 0, 23, [], false⟩
def SK_ENG_S.te_uf : Fld := ⟨16, 16, .rw, 0, 23, [], false⟩
def SK_ENG_S.te_ix : Fld := ⟨15, 15, .rw, 0, 23, [], false⟩
def SK_ENG_S.iv : Fld := ⟨14, 14, .rw, 0, 23, [], false⟩
def SK_ENG_S.dz : Fld := ⟨13, 13, .rw, 0, 23, [], false⟩
def SK_ENG_S.of : Fld := ⟨12, 12, .rw, 0, 23, [], false⟩
def SK_ENG_S.uf : Fld := ⟨11, 11, .rw, 0, 23, [], false⟩
def SK_ENG_S.ix : Fld := ⟨10, 10, .rw, 0, 23, [], false⟩
def SK_ENG_S.v : Fld := ⟨3, 3, .rw, 0, 23, [], false⟩
def SK_ENG_S.c : Fld := ⟨2, 2, .rw, 0, 23, [], false⟩
def SK_ENG_S.n : Fld := ⟨1, 1, .rw, 0, 23, [], false⟩
def SK_ENG_S.z : Fld := ⟨0, 0, .rw, 0, 23, [], false⟩
def SK_ENG_STATUS.halted : Fld := ⟨31, 31, .ro, 1, 7, [], false⟩
def SK_ENG_STATUS.waiting : Fld := ⟨30, 30, .ro, 0, 23, [], false⟩
def SK_ENG_STATUS.active_bank : Fld := ⟨29, 29, .ro, 0, 23, [], false⟩
def SK_ENG_STATUS.swap_pending : Fld := ⟨28, 28, .ro, 0, 23, [], false⟩
def SK_ENG_STATUS.ctx_used : Fld := ⟨27, 25, .ro, 0, 23, [], false⟩
def SK_ENG_STATUS.pc : Fld := ⟨15, 0, .ro, 0, 23, [], false⟩
def SK_VBR.vbase : Fld := ⟨31, 8, .rw, 0, 23, [], false⟩
def SK_GTB.gbase : Fld := ⟨31, 11, .rw, 0, 23, [], false⟩
def SK_XMOD.en : Fld := ⟨31, 31, .rw, 0, 23, [], false⟩
def SK_XMOD.len : Fld := ⟨27, 24, .rw, 1, 23, [(1, 12)], false⟩
def SK_XMOD.st : Fld := ⟨7, 0, .rw, 1, 23, [], false⟩
def SK_YMOD.en : Fld := ⟨31, 31, .rw, 0, 23, [], false⟩
def SK_YMOD.len : Fld := ⟨27, 24, .rw, 1, 23, [(1, 12)], false⟩
def SK_YMOD.st : Fld := ⟨7, 0, .rw, 1, 23, [], false⟩
def SK_LS0.ls0 : Fld := ⟨31, 0, .rw, 0, 23, [], false⟩
def SK_LE0.le0 : Fld := ⟨31, 0, .rw, 0, 23, [], false⟩
def SK_LS1.ls1 : Fld := ⟨31, 0, .rw, 0, 23, [], false⟩
def SK_LE1.le1 : Fld := ⟨31, 0, .rw, 0, 23, [], false⟩
def SK_LC0.lc0 : Fld := ⟨31, 0, .rw, 0, 23, [], false⟩
def SK_LC1.lc1 : Fld := ⟨31, 0, .rw, 0, 23, [], false⟩
def SK_FAR_ADDR.addr : Fld := ⟨31, 0, .ro, 0, 23, [], false⟩
def SK_FAR_DATA.data : Fld := ⟨31, 0, .ro, 0, 23, [], false⟩
def SK_FAR_STAT.valid : Fld := ⟨31, 31, .w1c, 0, 23, [], false⟩
def SK_FAR_STAT.size : Fld := ⟨29, 28, .ro, 0, 23, [], false⟩
def SK_FAR_STAT.cause : Fld := ⟨27, 26, .ro, 0, 23, [], false⟩
def SK_FAR_STAT.ring : Fld := ⟨25, 24, .ro, 0, 23, [], false⟩
def SK_FAR_STAT.ovf_count : Fld := ⟨15, 0, .ro, 0, 23, [], false⟩
def SK_ECC_CNT.ue_cnt : Fld := ⟨31, 16, .rw, 0, 23, [], false⟩
def SK_ECC_CNT.ce_cnt : Fld := ⟨15, 0, .rw, 0, 23, [], false⟩
def SK_LIC_PEND0.pend : Fld := ⟨31, 0, .ro, 0, 7, [], false⟩
def SK_LIC_PEND1.pend : Fld := ⟨31, 0, .ro, 0, 7, [], false⟩
def SK_LIC_SWP0.swp : Fld := ⟨31, 0, .rw, 0, 7, [], false⟩
def SK_LIC_SWP1.swp : Fld := ⟨31, 0, .rw, 0, 7, [], false⟩
def SK_LIC_TAKEN.valid : Fld := ⟨31, 31, .ro, 0, 7, [], false⟩
def SK_LIC_TAKEN.prio : Fld := ⟨10, 8, .ro, 0, 7, [], false⟩
def SK_LIC_TAKEN.input : Fld := ⟨5, 0, .ro, 0, 7, [], false⟩
def SK_EXC_INFO.valid : Fld := ⟨31, 31, .w1c, 0, 23, [], false⟩
def SK_EXC_INFO.async : Fld := ⟨30, 30, .ro, 0, 23, [], false⟩
def SK_EXC_INFO.from_ring : Fld := ⟨29, 28, .ro, 0, 23, [], false⟩
def SK_EXC_INFO.slot_valid : Fld := ⟨27, 27, .ro, 0, 23, [], false⟩
def SK_EXC_INFO.slot : Fld := ⟨26, 25, .ro, 0, 23, [], false⟩
def SK_EXC_INFO.vector : Fld := ⟨5, 0, .ro, 0, 23, [], false⟩
def SK_EXC_ADDR.addr : Fld := ⟨31, 0, .ro, 0, 23, [], false⟩
def SK_RPF_INFO.valid : Fld := ⟨31, 31, .w1c, 0, 23, [], false⟩
def SK_RPF_INFO.no_context : Fld := ⟨30, 30, .ro, 0, 23, [], false⟩
def SK_RPF_INFO.attempted_ring : Fld := ⟨29, 28, .ro, 0, 23, [], false⟩
def SK_RPF_INFO.orig_ring : Fld := ⟨27, 26, .ro, 0, 23, [], false⟩
def SK_RPF_INFO.eret_ring : Fld := ⟨25, 24, .ro, 0, 23, [], false⟩
def SK_SPILL_PTR.ptr : Fld := ⟨31, 6, .rw, 0, 23, [], false⟩
def SK_SPILL_LIM.lim : Fld := ⟨31, 6, .rw, 0, 23, [], false⟩
def SK_LIC_STATUS.entry_fail : Fld := ⟨31, 31, .ro, 0, 7, [], false⟩
def SK_LIC_STATUS.fail_vector : Fld := ⟨29, 24, .ro, 0, 7, [], false⟩
def SK_LIC_STATUS.spill_depth : Fld := ⟨20, 16, .ro, 0, 23, [], false⟩
def SK_LIC_STATUS.spill_fault : Fld := ⟨8, 8, .w1c, 0, 23, [], false⟩
def SK_LIC_STATUS.lost_vector : Fld := ⟨5, 0, .ro, 0, 23, [], false⟩
def SK_NBR.nbase : Fld := ⟨31, 12, .rw, 65536, 23, [], false⟩
def SK_CACHE_OP.cache : Fld := ⟨9, 8, .wo, 0, 0, [], false⟩
def SK_CACHE_OP.op : Fld := ⟨5, 4, .wo, 0, 0, [], false⟩
def SK_CACHE_OP.all : Fld := ⟨0, 0, .wo, 0, 0, [], false⟩
def SK_CACHE_ADDR.line : Fld := ⟨31, 6, .rw, 0, 23, [], false⟩
def SK_LIC_CFG.en : Fld := ⟨31, 31, .rw, 0, 7, [], false⟩
def SK_LIC_CFG.prio : Fld := ⟨30, 28, .rw, 0, 7, [], false⟩
def SK_LIC_CFG.evf_en : Fld := ⟨23, 23, .rw, 0, 7, [], false⟩
def SK_LIC_CFG.evf_idx : Fld := ⟨19, 16, .rw, 0, 7, [], false⟩
def SK_LIC_CFG.mod_ns : Fld := ⟨15, 0, .rw, 0, 7, [], false⟩
def SK_CTX.w : Fld := ⟨31, 0, .rw, 0, 23, [], false⟩
def SK_CTX.orig_ring : Fld := ⟨1, 0, .rw, 0, 23, [], false⟩
def MPU_BASE.base : Fld := ⟨31, 5, .rw, 0, 23, [], false⟩
def MPU_ATTR.en : Fld := ⟨31, 31, .rw, 0, 23, [], false⟩
/-- The region's size is 2^size bytes; the table lists the codes 5 to 31 and calls 0 to 4 neither reserved nor legal: they are stored, and
give regions of 1 to 16 bytes (DESIGN CHOICE, log 52). -/
def MPU_ATTR.size : Fld := ⟨28, 24, .rw, 5, 23, [], false⟩
def MPU_ATTR.wb : Fld := ⟨17, 17, .rw, 0, 23, [], false⟩
def MPU_ATTR.cacheable : Fld := ⟨16, 16, .rw, 0, 23, [], false⟩
def MPU_ATTR.perm : Fld := ⟨11, 0, .rw, 0, 23, [], false⟩
/-- The fields of SK_EVF. -/
def fSK_EVF : List Fld := [ SK_EVF.evf]
/-- The fields of SK_ENG_S. -/
def fSK_ENG_S : List Fld := [ SK_ENG_S.resume, SK_ENG_S.ct, SK_ENG_S.ring, SK_ENG_S.iel, SK_ENG_S.rm, SK_ENG_S.te_iv, SK_ENG_S.te_dz, SK_ENG_S.te_of, SK_ENG_S.te_uf, SK_ENG_S.te_ix, SK_ENG_S.iv, SK_ENG_S.dz, SK_ENG_S.of, SK_ENG_S.uf, SK_ENG_S.ix, SK_ENG_S.v, SK_ENG_S.c, SK_ENG_S.n, SK_ENG_S.z]
/-- The fields of SK_ENG_STATUS. -/
def fSK_ENG_STATUS : List Fld := [ SK_ENG_STATUS.halted, SK_ENG_STATUS.waiting, SK_ENG_STATUS.active_bank, SK_ENG_STATUS.swap_pending, SK_ENG_STATUS.ctx_used, SK_ENG_STATUS.pc]
/-- The fields of SK_VBR. -/
def fSK_VBR : List Fld := [ SK_VBR.vbase]
/-- The fields of SK_GTB. -/
def fSK_GTB : List Fld := [ SK_GTB.gbase]
/-- The fields of SK_XMOD. -/
def fSK_XMOD : List Fld := [ SK_XMOD.en, SK_XMOD.len, SK_XMOD.st]
/-- The fields of SK_YMOD. -/
def fSK_YMOD : List Fld := [ SK_YMOD.en, SK_YMOD.len, SK_YMOD.st]
/-- The fields of SK_LS0. -/
def fSK_LS0 : List Fld := [ SK_LS0.ls0]
/-- The fields of SK_LE0. -/
def fSK_LE0 : List Fld := [ SK_LE0.le0]
/-- The fields of SK_LS1. -/
def fSK_LS1 : List Fld := [ SK_LS1.ls1]
/-- The fields of SK_LE1. -/
def fSK_LE1 : List Fld := [ SK_LE1.le1]
/-- The fields of SK_LC0. -/
def fSK_LC0 : List Fld := [ SK_LC0.lc0]
/-- The fields of SK_LC1. -/
def fSK_LC1 : List Fld := [ SK_LC1.lc1]
/-- The fields of SK_FAR_ADDR. -/
def fSK_FAR_ADDR : List Fld := [ SK_FAR_ADDR.addr]
/-- The fields of SK_FAR_DATA. -/
def fSK_FAR_DATA : List Fld := [ SK_FAR_DATA.data]
/-- The fields of SK_FAR_STAT. -/
def fSK_FAR_STAT : List Fld := [ SK_FAR_STAT.valid, SK_FAR_STAT.size, SK_FAR_STAT.cause, SK_FAR_STAT.ring, SK_FAR_STAT.ovf_count]
/-- The fields of SK_ECC_CNT. -/
def fSK_ECC_CNT : List Fld := [ SK_ECC_CNT.ue_cnt, SK_ECC_CNT.ce_cnt]
/-- The fields of SK_LIC_PEND0. -/
def fSK_LIC_PEND0 : List Fld := [ SK_LIC_PEND0.pend]
/-- The fields of SK_LIC_PEND1. -/
def fSK_LIC_PEND1 : List Fld := [ SK_LIC_PEND1.pend]
/-- The fields of SK_LIC_SWP0. -/
def fSK_LIC_SWP0 : List Fld := [ SK_LIC_SWP0.swp]
/-- The fields of SK_LIC_SWP1. -/
def fSK_LIC_SWP1 : List Fld := [ SK_LIC_SWP1.swp]
/-- The fields of SK_LIC_TAKEN. -/
def fSK_LIC_TAKEN : List Fld := [ SK_LIC_TAKEN.valid, SK_LIC_TAKEN.prio, SK_LIC_TAKEN.input]
/-- The fields of SK_EXC_INFO. -/
def fSK_EXC_INFO : List Fld := [ SK_EXC_INFO.valid, SK_EXC_INFO.async, SK_EXC_INFO.from_ring, SK_EXC_INFO.slot_valid, SK_EXC_INFO.slot, SK_EXC_INFO.vector]
/-- The fields of SK_EXC_ADDR. -/
def fSK_EXC_ADDR : List Fld := [ SK_EXC_ADDR.addr]
/-- The fields of SK_RPF_INFO. -/
def fSK_RPF_INFO : List Fld := [ SK_RPF_INFO.valid, SK_RPF_INFO.no_context, SK_RPF_INFO.attempted_ring, SK_RPF_INFO.orig_ring, SK_RPF_INFO.eret_ring]
/-- The fields of SK_SPILL_PTR. -/
def fSK_SPILL_PTR : List Fld := [ SK_SPILL_PTR.ptr]
/-- The fields of SK_SPILL_LIM. -/
def fSK_SPILL_LIM : List Fld := [ SK_SPILL_LIM.lim]
/-- The fields of SK_LIC_STATUS. -/
def fSK_LIC_STATUS : List Fld := [ SK_LIC_STATUS.entry_fail, SK_LIC_STATUS.fail_vector, SK_LIC_STATUS.spill_depth, SK_LIC_STATUS.spill_fault, SK_LIC_STATUS.lost_vector]
/-- The fields of SK_NBR. -/
def fSK_NBR : List Fld := [ SK_NBR.nbase]
/-- The fields of SK_CACHE_OP. -/
def fSK_CACHE_OP : List Fld := [ SK_CACHE_OP.cache, SK_CACHE_OP.op, SK_CACHE_OP.all]
/-- The fields of SK_CACHE_ADDR. -/
def fSK_CACHE_ADDR : List Fld := [ SK_CACHE_ADDR.line]
/-- The fields of SK_LIC_CFG. -/
def fSK_LIC_CFG : List Fld := [ SK_LIC_CFG.en, SK_LIC_CFG.prio, SK_LIC_CFG.evf_en, SK_LIC_CFG.evf_idx, SK_LIC_CFG.mod_ns]
/-- The fields of words 0 to 10 of SK_CTX. -/
def fSK_CTX : List Fld := [ SK_CTX.w]
/-- The fields of word 11 of SK_CTX. -/
def fSK_CTX_RING : List Fld := [ SK_CTX.orig_ring]
/-- The fields of MPU_BASE. -/
def fMPU_BASE : List Fld := [ MPU_BASE.base]
/-- The fields of MPU_ATTR. -/
def fMPU_ATTR : List Fld := [ MPU_ATTR.en, MPU_ATTR.size, MPU_ATTR.wb, MPU_ATTR.cacheable, MPU_ATTR.perm]
def rowsSkink0 : List RegRow := [
  ⟨0x100000100, [(0x1000, 2)], fSK_EVF⟩,
  ⟨0x100000008, [(0x1000, 2)], fSK_ENG_S⟩,
  ⟨0x100000004, [(0x1000, 2)], fSK_ENG_STATUS⟩,
  ⟨0x10000000C, [(0x1000, 2)], fSK_VBR⟩,
  ⟨0x100000010, [(0x1000, 2)], fSK_GTB⟩,
  ⟨0x100000018, [(0x1000, 2)], fSK_XMOD⟩,
  ⟨0x10000001C, [(0x1000, 2)], fSK_YMOD⟩,
  ⟨0x100000020, [(0x1000, 2)], fSK_LS0⟩,
  ⟨0x100000024, [(0x1000, 2)], fSK_LE0⟩,
  ⟨0x100000028, [(0x1000, 2)], fSK_LS1⟩,
  ⟨0x10000002C, [(0x1000, 2)], fSK_LE1⟩,
  ⟨0x100000030, [(0x1000, 2)], fSK_LC0⟩]
def rowsSkink1 : List RegRow := [
  ⟨0x100000034, [(0x1000, 2)], fSK_LC1⟩,
  ⟨0x100000040, [(0x1000, 2)], fSK_FAR_ADDR⟩,
  ⟨0x100000044, [(0x1000, 2)], fSK_FAR_DATA⟩,
  ⟨0x100000048, [(0x1000, 2)], fSK_FAR_STAT⟩,
  ⟨0x100000060, [(0x1000, 2)], fSK_ECC_CNT⟩,
  ⟨0x100000300, [(0x1000, 2)], fSK_LIC_PEND0⟩,
  ⟨0x100000304, [(0x1000, 2)], fSK_LIC_PEND1⟩,
  ⟨0x100000308, [(0x1000, 2)], fSK_LIC_SWP0⟩,
  ⟨0x10000030C, [(0x1000, 2)], fSK_LIC_SWP1⟩,
  ⟨0x100000310, [(0x1000, 2)], fSK_LIC_TAKEN⟩,
  ⟨0x100000314, [(0x1000, 2)], fSK_EXC_INFO⟩,
  ⟨0x100000318, [(0x1000, 2)], fSK_EXC_ADDR⟩]
def rowsSkink2 : List RegRow := [
  ⟨0x10000031C, [(0x1000, 2)], fSK_RPF_INFO⟩,
  ⟨0x100000320, [(0x1000, 2)], fSK_SPILL_PTR⟩,
  ⟨0x100000324, [(0x1000, 2)], fSK_SPILL_LIM⟩,
  ⟨0x100000328, [(0x1000, 2)], fSK_LIC_STATUS⟩,
  ⟨0x100000070, [(0x1000, 2)], fSK_NBR⟩,
  ⟨0x100000074, [(0x1000, 2)], fSK_CACHE_OP⟩,
  ⟨0x100000078, [(0x1000, 2)], fSK_CACHE_ADDR⟩,
  ⟨0x100000200, [(0x1000, 2), (0x4, 64)], fSK_LIC_CFG⟩,
  ⟨0x100000400, [(0x1000, 2), (0x40, 4), (0x4, 11)], fSK_CTX⟩,
  ⟨0x10000042C, [(0x1000, 2), (0x40, 4)], fSK_CTX_RING⟩,
  ⟨0x100000430, [(0x1000, 2), (0x40, 4), (0x4, 4)], []⟩,
  ⟨0x100000080, [(0x1000, 2), (0x8, 16)], fMPU_BASE⟩,
  ⟨0x100000084, [(0x1000, 2), (0x8, 16)], fMPU_ATTR⟩]
/-- The registers of this block, in the order of the spec's tables. -/
def rowsSkink : List RegRow := rowsSkink0 ++ rowsSkink1 ++ rowsSkink2

end Sys2Proof.Machine
end

