-- ==== Sys2Proof/Machine/RegsStd.lean ====
section
/-!
DEFINITION. The registers of the block Std: their addresses, their fields (bits, access code, reset value, the classes
that return it to reset, legal codes), and the table of them, from the register tables of the spec.
-/

namespace Sys2Proof.Machine

/-- Address of MAC_CFG (17_standard_interfaces.md). -/
def aMAC_CFG (i : Nat) : Nat := 0x40A00000 + i * 0x1000
/-- Address of MAC_QCFG (17_standard_interfaces.md). -/
def aMAC_QCFG (i : Nat) : Nat := 0x40A00004 + i * 0x1000
/-- Address of MAC_STAT (17_standard_interfaces.md). -/
def aMAC_STAT (i : Nat) : Nat := 0x40A00008 + i * 0x1000
/-- Address of PTP_OFS_LO (17_standard_interfaces.md). -/
def aPTP_OFS_LO : Nat := 0x40A02000
/-- Address of PTP_OFS_HI (17_standard_interfaces.md). -/
def aPTP_OFS_HI : Nat := 0x40A02004
/-- Address of XSPI_CFG (17_standard_interfaces.md). -/
def aXSPI_CFG (i : Nat) : Nat := 0x40A10000 + i * 0x1000
/-- Address of XSPI_CCTL (17_standard_interfaces.md). -/
def aXSPI_CCTL (i : Nat) : Nat := 0x40A10100 + i * 0x1000
/-- Address of XSPI_CADDR (17_standard_interfaces.md). -/
def aXSPI_CADDR (i : Nat) : Nat := 0x40A10104 + i * 0x1000
/-- Address of XSPI_CSTAT (17_standard_interfaces.md). -/
def aXSPI_CSTAT (i : Nat) : Nat := 0x40A10108 + i * 0x1000
/-- Address of XSPI_BUF (17_standard_interfaces.md). -/
def aXSPI_BUF (i j : Nat) : Nat := 0x40A10200 + i * 0x1000 + j * 0x4
/-- Address of GPIO_CFG (17_standard_interfaces.md). -/
def aGPIO_CFG (i : Nat) : Nat := 0x40A60000 + i * 0x4
/-- Address of I2C_CFG (17_standard_interfaces.md). -/
def aI2C_CFG (i : Nat) : Nat := 0x40A20000 + i * 0x100
/-- Address of I2C_CMD (17_standard_interfaces.md). -/
def aI2C_CMD (i : Nat) : Nat := 0x40A20004 + i * 0x100
/-- Address of I2C_DATA (17_standard_interfaces.md). -/
def aI2C_DATA (i : Nat) : Nat := 0x40A20008 + i * 0x100
/-- Address of I2C_STAT (17_standard_interfaces.md). -/
def aI2C_STAT (i : Nat) : Nat := 0x40A2000C + i * 0x100
/-- Address of I2C_FIFO (17_standard_interfaces.md). -/
def aI2C_FIFO (i : Nat) : Nat := 0x40A20010 + i * 0x100
/-- Address of I2C_IRQ (17_standard_interfaces.md). -/
def aI2C_IRQ (i : Nat) : Nat := 0x40A20014 + i * 0x100
/-- Address of SPI_CFG (17_standard_interfaces.md). -/
def aSPI_CFG (i : Nat) : Nat := 0x40A30000 + i * 0x100
/-- Address of SPI_CTRL (17_standard_interfaces.md). -/
def aSPI_CTRL (i : Nat) : Nat := 0x40A30004 + i * 0x100
/-- Address of SPI_DATA (17_standard_interfaces.md). -/
def aSPI_DATA (i : Nat) : Nat := 0x40A30008 + i * 0x100
/-- Address of SPI_STAT (17_standard_interfaces.md). -/
def aSPI_STAT (i : Nat) : Nat := 0x40A3000C + i * 0x100
/-- Address of SPI_FIFO (17_standard_interfaces.md). -/
def aSPI_FIFO (i : Nat) : Nat := 0x40A30010 + i * 0x100
/-- Address of SPI_IRQ (17_standard_interfaces.md). -/
def aSPI_IRQ (i : Nat) : Nat := 0x40A30014 + i * 0x100
/-- Address of UART_CFG (17_standard_interfaces.md). -/
def aUART_CFG (i : Nat) : Nat := 0x40A40000 + i * 0x100
/-- Address of UART_BAUD (17_standard_interfaces.md). -/
def aUART_BAUD (i : Nat) : Nat := 0x40A40004 + i * 0x100
/-- Address of UART_DATA (17_standard_interfaces.md). -/
def aUART_DATA (i : Nat) : Nat := 0x40A40008 + i * 0x100
/-- Address of UART_STAT (17_standard_interfaces.md). -/
def aUART_STAT (i : Nat) : Nat := 0x40A4000C + i * 0x100
/-- Address of UART_FIFO (17_standard_interfaces.md). -/
def aUART_FIFO (i : Nat) : Nat := 0x40A40010 + i * 0x100
/-- Address of UART_IRQ (17_standard_interfaces.md). -/
def aUART_IRQ (i : Nat) : Nat := 0x40A40014 + i * 0x100
/-- Address of CAN_CFG (17_standard_interfaces.md). -/
def aCAN_CFG (i : Nat) : Nat := 0x40A50000 + i * 0x1000
/-- Address of CAN_NBT (17_standard_interfaces.md). -/
def aCAN_NBT (i : Nat) : Nat := 0x40A50004 + i * 0x1000
/-- Address of CAN_DBT (17_standard_interfaces.md). -/
def aCAN_DBT (i : Nat) : Nat := 0x40A50008 + i * 0x1000
/-- Address of CAN_TDC (17_standard_interfaces.md). -/
def aCAN_TDC (i : Nat) : Nat := 0x40A5000C + i * 0x1000
/-- Address of CAN_STAT (17_standard_interfaces.md). -/
def aCAN_STAT (i : Nat) : Nat := 0x40A50010 + i * 0x1000
/-- Address of CAN_CTRL (17_standard_interfaces.md). -/
def aCAN_CTRL (i : Nat) : Nat := 0x40A50014 + i * 0x1000
/-- Address of CAN_TXREQ (17_standard_interfaces.md). -/
def aCAN_TXREQ (i : Nat) : Nat := 0x40A50018 + i * 0x1000
/-- Address of CAN_TXABORT (17_standard_interfaces.md). -/
def aCAN_TXABORT (i : Nat) : Nat := 0x40A5001C + i * 0x1000
/-- Address of CAN_RXLVL (17_standard_interfaces.md). -/
def aCAN_RXLVL (i : Nat) : Nat := 0x40A50020 + i * 0x1000
/-- Address of CAN_IRQ (17_standard_interfaces.md). -/
def aCAN_IRQ (i : Nat) : Nat := 0x40A50024 + i * 0x1000
/-- Address of CAN_RXPOP (17_standard_interfaces.md). -/
def aCAN_RXPOP (i : Nat) : Nat := 0x40A50028 + i * 0x1000
/-- Address of CAN_RXF (17_standard_interfaces.md). -/
def aCAN_RXF (i j : Nat) : Nat := 0x40A50100 + i * 0x1000 + j * 0x4
/-- Address of CAN_TXB (17_standard_interfaces.md). -/
def aCAN_TXB (i j k : Nat) : Nat := 0x40A50400 + i * 0x1000 + j * 0x50 + k * 0x4
/-- Address of DBG_CFG (17_standard_interfaces.md). -/
def aDBG_CFG : Nat := 0x40A70000
/-- Address of DBG_BKPT (17_standard_interfaces.md). -/
def aDBG_BKPT (i : Nat) : Nat := 0x40A70040 + i * 0x4
/-- Address of DBG_BKPT8 (17_standard_interfaces.md). -/
def aDBG_BKPT8 : Nat := 0x40A70060
/-- Address of DBG_XTR (17_standard_interfaces.md). -/
def aDBG_XTR (i j : Nat) : Nat := 0x40A70100 + i * 0x40 + j * 0x4
/-- Address of DBG_XTR8 (17_standard_interfaces.md). -/
def aDBG_XTR8 (i : Nat) : Nat := 0x40A70120 + i * 0x40
def MAC_CFG.en : Fld := ⟨31, 31, .rw, 0, 31, [], false⟩
def MAC_CFG.phy : Fld := ⟨30, 28, .rw, 0, 31, [(0, 3)], false⟩
def MAC_CFG.vlan_strip : Fld := ⟨27, 27, .rw, 0, 31, [], false⟩
def MAC_CFG.maxlen : Fld := ⟨13, 0, .rw, 1518, 31, [(64, 9216)], false⟩
def MAC_QCFG.tx : Fld := ⟨29, 16, .rw, 0, 31, [], true⟩
def MAC_QCFG.rx : Fld := ⟨13, 0, .rw, 0, 31, [], true⟩
def MAC_STAT.link : Fld := ⟨31, 31, .ro, 0, 31, [], false⟩
def MAC_STAT.drop_cnt : Fld := ⟨23, 0, .rw, 0, 31, [], false⟩
def PTP_OFS_LO.ofs : Fld := ⟨31, 0, .rws, 0, 23, [], false⟩
def PTP_OFS_HI.ofs : Fld := ⟨31, 0, .rws, 0, 23, [], false⟩
def XSPI_CFG.en : Fld := ⟨31, 31, .rw, 0, 31, [], false⟩
def XSPI_CFG.proto : Fld := ⟨29, 28, .rw, 0, 31, [(0, 2)], false⟩
def XSPI_CFG.dummy : Fld := ⟨20, 16, .rw, 0, 31, [], false⟩
def XSPI_CFG.rd_op : Fld := ⟨15, 8, .rw, 19, 31, [], false⟩
def XSPI_CFG.div : Fld := ⟨7, 0, .rw, 40, 31, [(5, 255)], false⟩
def XSPI_CCTL.go : Fld := ⟨31, 31, .wo, 0, 0, [], false⟩
def XSPI_CCTL.dir : Fld := ⟨30, 30, .rw, 0, 31, [], false⟩
def XSPI_CCTL.cs : Fld := ⟨29, 29, .rw, 0, 31, [], false⟩
def XSPI_CCTL.alen : Fld := ⟨28, 27, .rw, 0, 31, [(0, 2)], false⟩
def XSPI_CCTL.dummy : Fld := ⟨26, 22, .rw, 0, 31, [], false⟩
def XSPI_CCTL.nbytes : Fld := ⟨16, 8, .rw, 0, 31, [(0, 256)], false⟩
def XSPI_CCTL.op : Fld := ⟨7, 0, .rw, 0, 31, [], false⟩
def XSPI_CADDR.addr : Fld := ⟨31, 0, .rw, 0, 31, [], false⟩
def XSPI_CSTAT.busy : Fld := ⟨31, 31, .ro, 0, 31, [], false⟩
def XSPI_CSTAT.irq_en : Fld := ⟨30, 30, .rw, 0, 31, [], false⟩
def XSPI_CSTAT.err : Fld := ⟨1, 1, .w1c, 0, 31, [], false⟩
def XSPI_CSTAT.done : Fld := ⟨0, 0, .w1c, 0, 31, [], false⟩
def XSPI_BUF.data : Fld := ⟨31, 0, .rw, 0, 31, [], false⟩
def GPIO_CFG.oe : Fld := ⟨31, 31, .rw, 0, 7, [], false⟩
def GPIO_CFG.out : Fld := ⟨30, 30, .rw, 0, 7, [], false⟩
def GPIO_CFG.in_ : Fld := ⟨29, 29, .ro, 0, 7, [], false⟩
def GPIO_CFG.action : Fld := ⟨5, 4, .rw, 0, 7, [], false⟩
def GPIO_CFG.edge : Fld := ⟨1, 0, .rw, 0, 7, [], false⟩
def I2C_CFG.en : Fld := ⟨31, 31, .rw, 0, 31, [], false⟩
def I2C_CFG.target : Fld := ⟨30, 30, .rw, 0, 31, [], false⟩
def I2C_CFG.smbus : Fld := ⟨29, 29, .rw, 0, 31, [], false⟩
def I2C_CFG.pec_en : Fld := ⟨28, 28, .rw, 0, 31, [], false⟩
def I2C_CFG.speed : Fld := ⟨27, 26, .rw, 0, 31, [(0, 2)], false⟩
def I2C_CFG.addr1_en : Fld := ⟨23, 23, .rw, 0, 31, [], false⟩
def I2C_CFG.addr0 : Fld := ⟨22, 16, .rw, 0, 31, [], false⟩
def I2C_CFG.addr1 : Fld := ⟨14, 8, .rw, 0, 31, [], false⟩
def I2C_CFG.ev_tx : Fld := ⟨0, 0, .rw, 0, 31, [], false⟩
def I2C_CMD.go : Fld := ⟨31, 31, .wo, 0, 0, [], false⟩
def I2C_CMD.dir : Fld := ⟨30, 30, .rw, 0, 31, [], false⟩
def I2C_CMD.stop : Fld := ⟨29, 29, .rw, 1, 31, [], false⟩
def I2C_CMD.addr : Fld := ⟨22, 16, .rw, 0, 31, [], false⟩
def I2C_CMD.nbytes : Fld := ⟨7, 0, .rw, 1, 31, [(1, 255)], false⟩
def I2C_DATA.data : Fld := ⟨7, 0, .rw, 0, 31, [], false⟩
def I2C_STAT.busy : Fld := ⟨31, 31, .ro, 0, 31, [], false⟩
def I2C_STAT.bus_busy : Fld := ⟨30, 30, .ro, 0, 31, [], false⟩
def I2C_STAT.tx_level : Fld := ⟨29, 24, .ro, 0, 31, [], false⟩
def I2C_STAT.rx_level : Fld := ⟨21, 16, .ro, 0, 31, [], false⟩
def I2C_STAT.pec_err : Fld := ⟨8, 8, .w1c, 0, 31, [], false⟩
def I2C_STAT.timeout : Fld := ⟨7, 7, .w1c, 0, 31, [], false⟩
def I2C_STAT.nak : Fld := ⟨6, 6, .w1c, 0, 31, [], false⟩
def I2C_STAT.arb_lost : Fld := ⟨5, 5, .w1c, 0, 31, [], false⟩
def I2C_STAT.tx_ovf : Fld := ⟨4, 4, .w1c, 0, 31, [], false⟩
def I2C_STAT.rx_unf : Fld := ⟨3, 3, .w1c, 0, 31, [], false⟩
def I2C_STAT.addressed : Fld := ⟨2, 2, .w1c, 0, 31, [], false⟩
def I2C_STAT.stop_seen : Fld := ⟨1, 1, .w1c, 0, 31, [], false⟩
def I2C_STAT.done : Fld := ⟨0, 0, .w1c, 0, 31, [], false⟩
def I2C_FIFO.tx_wm : Fld := ⟨20, 16, .rw, 8, 31, [(1, 31)], false⟩
def I2C_FIFO.rx_wm : Fld := ⟨4, 0, .rw, 8, 31, [(1, 31)], false⟩
def I2C_IRQ.mask : Fld := ⟨8, 0, .rw, 0, 31, [], false⟩
def SPI_CFG.en : Fld := ⟨31, 31, .rw, 0, 31, [], false⟩
def SPI_CFG.target : Fld := ⟨30, 30, .rw, 0, 31, [], false⟩
def SPI_CFG.mode : Fld := ⟨29, 28, .rw, 0, 31, [], false⟩
def SPI_CFG.lsb_first : Fld := ⟨27, 27, .rw, 0, 31, [], false⟩
def SPI_CFG.wlen : Fld := ⟨20, 16, .rw, 7, 31, [(3, 31)], false⟩
def SPI_CFG.div : Fld := ⟨7, 0, .rw, 20, 31, [(10, 255)], false⟩
def SPI_CTRL.cs_hold : Fld := ⟨1, 1, .rw, 0, 31, [], false⟩
def SPI_CTRL.cs_end : Fld := ⟨0, 0, .wo, 0, 0, [], false⟩
def SPI_DATA.data : Fld := ⟨31, 0, .rw, 0, 31, [], false⟩
def SPI_STAT.busy : Fld := ⟨31, 31, .ro, 0, 31, [], false⟩
def SPI_STAT.tx_level : Fld := ⟨29, 24, .ro, 0, 31, [], false⟩
def SPI_STAT.rx_level : Fld := ⟨21, 16, .ro, 0, 31, [], false⟩
def SPI_STAT.tx_unf : Fld := ⟨4, 4, .w1c, 0, 31, [], false⟩
def SPI_STAT.rx_ovf : Fld := ⟨3, 3, .w1c, 0, 31, [], false⟩
def SPI_STAT.tx_ovf : Fld := ⟨2, 2, .w1c, 0, 31, [], false⟩
def SPI_STAT.rx_unf : Fld := ⟨1, 1, .w1c, 0, 31, [], false⟩
def SPI_STAT.done : Fld := ⟨0, 0, .w1c, 0, 31, [], false⟩
def SPI_FIFO.tx_wm : Fld := ⟨20, 16, .rw, 8, 31, [(1, 31)], false⟩
def SPI_FIFO.rx_wm : Fld := ⟨4, 0, .rw, 8, 31, [(1, 31)], false⟩
def SPI_IRQ.mask : Fld := ⟨4, 0, .rw, 0, 31, [], false⟩
def UART_CFG.en : Fld := ⟨31, 31, .rw, 0, 31, [], false⟩
def UART_CFG.parity : Fld := ⟨30, 29, .rw, 0, 31, [(0, 2)], false⟩
def UART_CFG.stop2 : Fld := ⟨28, 28, .rw, 0, 31, [], false⟩
def UART_CFG.dbits : Fld := ⟨27, 24, .rw, 8, 31, [(5, 9)], false⟩
def UART_BAUD.div : Fld := ⟨27, 0, .rw, 444444, 31, [(4096, 268435455)], false⟩
def UART_DATA.fe : Fld := ⟨11, 11, .ro, 0, 31, [], false⟩
def UART_DATA.pe : Fld := ⟨10, 10, .ro, 0, 31, [], false⟩
def UART_DATA.data : Fld := ⟨8, 0, .rw, 0, 31, [], false⟩
def UART_STAT.tx_busy : Fld := ⟨31, 31, .ro, 0, 31, [], false⟩
def UART_STAT.tx_level : Fld := ⟨29, 24, .ro, 0, 31, [], false⟩
def UART_STAT.rx_level : Fld := ⟨21, 16, .ro, 0, 31, [], false⟩
def UART_STAT.rx_ovf : Fld := ⟨4, 4, .w1c, 0, 31, [], false⟩
def UART_STAT.fe : Fld := ⟨3, 3, .w1c, 0, 31, [], false⟩
def UART_STAT.pe : Fld := ⟨2, 2, .w1c, 0, 31, [], false⟩
def UART_STAT.tx_ovf : Fld := ⟨1, 1, .w1c, 0, 31, [], false⟩
def UART_STAT.rx_unf : Fld := ⟨0, 0, .w1c, 0, 31, [], false⟩
def UART_FIFO.tx_wm : Fld := ⟨20, 16, .rw, 8, 31, [(1, 31)], false⟩
def UART_FIFO.rx_wm : Fld := ⟨4, 0, .rw, 8, 31, [(1, 31)], false⟩
def UART_IRQ.mask : Fld := ⟨4, 0, .rw, 0, 31, [], false⟩
def CAN_CFG.en : Fld := ⟨31, 31, .rw, 0, 31, [], false⟩
def CAN_CFG.fd_en : Fld := ⟨30, 30, .rw, 0, 31, [], false⟩
def CAN_CFG.brs_en : Fld := ⟨29, 29, .rw, 0, 31, [], false⟩
def CAN_CFG.tdc_en : Fld := ⟨28, 28, .rw, 0, 31, [], false⟩
def CAN_CFG.silent : Fld := ⟨27, 27, .rw, 0, 31, [], false⟩
def CAN_NBT.nbrp : Fld := ⟨31, 24, .rw, 0, 31, [], false⟩
def CAN_NBT.ntseg1 : Fld := ⟨23, 16, .rw, 126, 31, [], false⟩
def CAN_NBT.ntseg2 : Fld := ⟨14, 8, .rw, 31, 31, [], false⟩
def CAN_NBT.nsjw : Fld := ⟨6, 0, .rw, 31, 31, [], false⟩
def CAN_DBT.dbrp : Fld := ⟨28, 24, .rw, 0, 31, [], false⟩
def CAN_DBT.dtseg1 : Fld := ⟨20, 16, .rw, 6, 31, [], false⟩
def CAN_DBT.dtseg2 : Fld := ⟨11, 8, .rw, 1, 31, [], false⟩
def CAN_DBT.dsjw : Fld := ⟨3, 0, .rw, 1, 31, [], false⟩
def CAN_TDC.tdco : Fld := ⟨6, 0, .rw, 0, 31, [], false⟩
def CAN_STAT.bus_off : Fld := ⟨31, 31, .ro, 0, 31, [], false⟩
def CAN_STAT.err_passive : Fld := ⟨30, 30, .ro, 0, 31, [], false⟩
def CAN_STAT.err_warn : Fld := ⟨29, 29, .ro, 0, 31, [], false⟩
def CAN_STAT.tec : Fld := ⟨23, 16, .ro, 0, 31, [], false⟩
def CAN_STAT.rec : Fld := ⟨15, 8, .ro, 0, 31, [], false⟩
def CAN_STAT.rx_lost : Fld := ⟨4, 4, .w1c, 0, 31, [], false⟩
def CAN_STAT.tx_done : Fld := ⟨3, 3, .w1c, 0, 31, [], false⟩
def CAN_STAT.bus_off_seen : Fld := ⟨2, 2, .w1c, 0, 31, [], false⟩
def CAN_STAT.err : Fld := ⟨1, 1, .w1c, 0, 31, [], false⟩
def CAN_STAT.rx : Fld := ⟨0, 0, .w1c, 0, 31, [], false⟩
def CAN_CTRL.recover : Fld := ⟨31, 31, .wo, 0, 0, [], false⟩
def CAN_TXREQ.req : Fld := ⟨31, 0, .w1s, 0, 31, [], false⟩
def CAN_TXABORT.abort : Fld := ⟨31, 0, .w1s, 0, 31, [], false⟩
def CAN_RXLVL.wm : Fld := ⟨22, 16, .rw, 1, 31, [(1, 64)], false⟩
def CAN_RXLVL.level : Fld := ⟨6, 0, .ro, 0, 31, [], false⟩
def CAN_IRQ.mask : Fld := ⟨4, 0, .rw, 0, 31, [], false⟩
def CAN_RXPOP.pop : Fld := ⟨0, 0, .wo, 0, 0, [], false⟩
def CAN_RXF.word : Fld := ⟨31, 0, .ro, 0, 31, [], false⟩
def CAN_TXB.word : Fld := ⟨31, 0, .rw, 0, 31, [], false⟩
def DBG_CFG.pwm_run : Fld := ⟨31, 31, .rw, 0, 3, [], false⟩
def DBG_BKPT.arm : Fld := ⟨31, 0, .rw, 0, 3, [], false⟩
def DBG_BKPT8.arm : Fld := ⟨1, 0, .rw, 0, 3, [], false⟩
def DBG_XTR.newts : Fld := ⟨31, 0, .rw, 0, 3, [], false⟩
def DBG_XTR8.halt : Fld := ⟨31, 31, .rw, 0, 3, [], false⟩
def DBG_XTR8.skinks : Fld := ⟨1, 0, .rw, 0, 3, [], false⟩
/-- The fields of MAC_CFG. -/
def fMAC_CFG : List Fld := [ MAC_CFG.en, MAC_CFG.phy, MAC_CFG.vlan_strip, MAC_CFG.maxlen]
/-- The fields of MAC_QCFG. -/
def fMAC_QCFG : List Fld := [ MAC_QCFG.tx, MAC_QCFG.rx]
/-- The fields of MAC_STAT. -/
def fMAC_STAT : List Fld := [ MAC_STAT.link, MAC_STAT.drop_cnt]
/-- The fields of PTP_OFS_LO. -/
def fPTP_OFS_LO : List Fld := [ PTP_OFS_LO.ofs]
/-- The fields of PTP_OFS_HI. -/
def fPTP_OFS_HI : List Fld := [ PTP_OFS_HI.ofs]
/-- The fields of XSPI_CFG of controller x (XSPI0 is enabled at reset). -/
def fXSPI_CFG (x : Nat) : List Fld := [ { XSPI_CFG.en with rst := if x = 0 then 1 else 0 }, XSPI_CFG.proto, XSPI_CFG.dummy, XSPI_CFG.rd_op, XSPI_CFG.div]
/-- The fields of XSPI_CCTL. -/
def fXSPI_CCTL : List Fld := [ XSPI_CCTL.go, XSPI_CCTL.dir, XSPI_CCTL.cs, XSPI_CCTL.alen, XSPI_CCTL.dummy, XSPI_CCTL.nbytes, XSPI_CCTL.op]
/-- The fields of XSPI_CADDR. -/
def fXSPI_CADDR : List Fld := [ XSPI_CADDR.addr]
/-- The fields of XSPI_CSTAT. -/
def fXSPI_CSTAT : List Fld := [ XSPI_CSTAT.busy, XSPI_CSTAT.irq_en, XSPI_CSTAT.err, XSPI_CSTAT.done]
/-- The fields of XSPI_BUF. -/
def fXSPI_BUF : List Fld := [ XSPI_BUF.data]
/-- The fields of GPIO_CFG. -/
def fGPIO_CFG : List Fld := [ GPIO_CFG.oe, GPIO_CFG.out, GPIO_CFG.in_, GPIO_CFG.action, GPIO_CFG.edge]
/-- The fields of I2C_CFG. -/
def fI2C_CFG : List Fld := [ I2C_CFG.en, I2C_CFG.target, I2C_CFG.smbus, I2C_CFG.pec_en, I2C_CFG.speed, I2C_CFG.addr1_en, I2C_CFG.addr0, I2C_CFG.addr1, I2C_CFG.ev_tx]
/-- The fields of I2C_CMD. -/
def fI2C_CMD : List Fld := [ I2C_CMD.go, I2C_CMD.dir, I2C_CMD.stop, I2C_CMD.addr, I2C_CMD.nbytes]
/-- The fields of I2C_DATA. -/
def fI2C_DATA : List Fld := [ I2C_DATA.data]
/-- The fields of I2C_STAT. -/
def fI2C_STAT : List Fld := [ I2C_STAT.busy, I2C_STAT.bus_busy, I2C_STAT.tx_level, I2C_STAT.rx_level, I2C_STAT.pec_err, I2C_STAT.timeout, I2C_STAT.nak, I2C_STAT.arb_lost, I2C_STAT.tx_ovf, I2C_STAT.rx_unf, I2C_STAT.addressed, I2C_STAT.stop_seen, I2C_STAT.done]
/-- The fields of I2C_FIFO. -/
def fI2C_FIFO : List Fld := [ I2C_FIFO.tx_wm, I2C_FIFO.rx_wm]
/-- The fields of I2C_IRQ. -/
def fI2C_IRQ : List Fld := [ I2C_IRQ.mask]
/-- The fields of SPI_CFG. -/
def fSPI_CFG : List Fld := [ SPI_CFG.en, SPI_CFG.target, SPI_CFG.mode, SPI_CFG.lsb_first, SPI_CFG.wlen, SPI_CFG.div]
/-- The fields of SPI_CTRL. -/
def fSPI_CTRL : List Fld := [ SPI_CTRL.cs_hold, SPI_CTRL.cs_end]
/-- The fields of SPI_DATA. -/
def fSPI_DATA : List Fld := [ SPI_DATA.data]
/-- The fields of SPI_STAT. -/
def fSPI_STAT : List Fld := [ SPI_STAT.busy, SPI_STAT.tx_level, SPI_STAT.rx_level, SPI_STAT.tx_unf, SPI_STAT.rx_ovf, SPI_STAT.tx_ovf, SPI_STAT.rx_unf, SPI_STAT.done]
/-- The fields of SPI_FIFO. -/
def fSPI_FIFO : List Fld := [ SPI_FIFO.tx_wm, SPI_FIFO.rx_wm]
/-- The fields of SPI_IRQ. -/
def fSPI_IRQ : List Fld := [ SPI_IRQ.mask]
/-- The fields of UART_CFG. -/
def fUART_CFG : List Fld := [ UART_CFG.en, UART_CFG.parity, UART_CFG.stop2, UART_CFG.dbits]
/-- The fields of UART_BAUD. -/
def fUART_BAUD : List Fld := [ UART_BAUD.div]
/-- The fields of UART_DATA. -/
def fUART_DATA : List Fld := [ UART_DATA.fe, UART_DATA.pe, UART_DATA.data]
/-- The fields of UART_STAT. -/
def fUART_STAT : List Fld := [ UART_STAT.tx_busy, UART_STAT.tx_level, UART_STAT.rx_level, UART_STAT.rx_ovf, UART_STAT.fe, UART_STAT.pe, UART_STAT.tx_ovf, UART_STAT.rx_unf]
/-- The fields of UART_FIFO. -/
def fUART_FIFO : List Fld := [ UART_FIFO.tx_wm, UART_FIFO.rx_wm]
/-- The fields of UART_IRQ. -/
def fUART_IRQ : List Fld := [ UART_IRQ.mask]
/-- The fields of CAN_CFG. -/
def fCAN_CFG : List Fld := [ CAN_CFG.en, CAN_CFG.fd_en, CAN_CFG.brs_en, CAN_CFG.tdc_en, CAN_CFG.silent]
/-- The fields of CAN_NBT. -/
def fCAN_NBT : List Fld := [ CAN_NBT.nbrp, CAN_NBT.ntseg1, CAN_NBT.ntseg2, CAN_NBT.nsjw]
/-- The fields of CAN_DBT. -/
def fCAN_DBT : List Fld := [ CAN_DBT.dbrp, CAN_DBT.dtseg1, CAN_DBT.dtseg2, CAN_DBT.dsjw]
/-- The fields of CAN_TDC. -/
def fCAN_TDC : List Fld := [ CAN_TDC.tdco]
/-- The fields of CAN_STAT. -/
def fCAN_STAT : List Fld := [ CAN_STAT.bus_off, CAN_STAT.err_passive, CAN_STAT.err_warn, CAN_STAT.tec, CAN_STAT.rec, CAN_STAT.rx_lost, CAN_STAT.tx_done, CAN_STAT.bus_off_seen, CAN_STAT.err, CAN_STAT.rx]
/-- The fields of CAN_CTRL. -/
def fCAN_CTRL : List Fld := [ CAN_CTRL.recover]
/-- The fields of CAN_TXREQ. -/
def fCAN_TXREQ : List Fld := [ CAN_TXREQ.req]
/-- The fields of CAN_TXABORT. -/
def fCAN_TXABORT : List Fld := [ CAN_TXABORT.abort]
/-- The fields of CAN_RXLVL. -/
def fCAN_RXLVL : List Fld := [ CAN_RXLVL.wm, CAN_RXLVL.level]
/-- The fields of CAN_IRQ. -/
def fCAN_IRQ : List Fld := [ CAN_IRQ.mask]
/-- The fields of CAN_RXPOP. -/
def fCAN_RXPOP : List Fld := [ CAN_RXPOP.pop]
/-- The fields of CAN_RXF. -/
def fCAN_RXF : List Fld := [ CAN_RXF.word]
/-- The fields of CAN_TXB. -/
def fCAN_TXB : List Fld := [ CAN_TXB.word]
/-- The fields of DBG_CFG. -/
def fDBG_CFG : List Fld := [ DBG_CFG.pwm_run]
/-- The fields of DBG_BKPT. -/
def fDBG_BKPT : List Fld := [ DBG_BKPT.arm]
/-- The fields of DBG_BKPT8. -/
def fDBG_BKPT8 : List Fld := [ DBG_BKPT8.arm]
/-- The fields of DBG_XTR. -/
def fDBG_XTR : List Fld := [ DBG_XTR.newts]
/-- The fields of DBG_XTR8. -/
def fDBG_XTR8 : List Fld := [ DBG_XTR8.halt, DBG_XTR8.skinks]
def rowsStd0 : List RegRow := [
  ⟨0x40A00000, [(0x1000, 2)], fMAC_CFG⟩,
  ⟨0x40A00004, [(0x1000, 2)], fMAC_QCFG⟩,
  ⟨0x40A00008, [(0x1000, 2)], fMAC_STAT⟩,
  ⟨0x40A02000, [], fPTP_OFS_LO⟩,
  ⟨0x40A02004, [], fPTP_OFS_HI⟩,
  ⟨0x40A10000, [], fXSPI_CFG 0⟩,
  ⟨0x40A11000, [], fXSPI_CFG 1⟩,
  ⟨0x40A10100, [(0x1000, 2)], fXSPI_CCTL⟩,
  ⟨0x40A10104, [(0x1000, 2)], fXSPI_CADDR⟩,
  ⟨0x40A10108, [(0x1000, 2)], fXSPI_CSTAT⟩,
  ⟨0x40A10200, [(0x1000, 2), (0x4, 64)], fXSPI_BUF⟩,
  ⟨0x40A60000, [(0x4, 32)], fGPIO_CFG⟩]
def rowsStd1 : List RegRow := [
  ⟨0x40A20000, [(0x100, 12)], fI2C_CFG⟩,
  ⟨0x40A20004, [(0x100, 12)], fI2C_CMD⟩,
  ⟨0x40A20008, [(0x100, 12)], fI2C_DATA⟩,
  ⟨0x40A2000C, [(0x100, 12)], fI2C_STAT⟩,
  ⟨0x40A20010, [(0x100, 12)], fI2C_FIFO⟩,
  ⟨0x40A20014, [(0x100, 12)], fI2C_IRQ⟩,
  ⟨0x40A30000, [(0x100, 8)], fSPI_CFG⟩,
  ⟨0x40A30004, [(0x100, 8)], fSPI_CTRL⟩,
  ⟨0x40A30008, [(0x100, 8)], fSPI_DATA⟩,
  ⟨0x40A3000C, [(0x100, 8)], fSPI_STAT⟩,
  ⟨0x40A30010, [(0x100, 8)], fSPI_FIFO⟩,
  ⟨0x40A30014, [(0x100, 8)], fSPI_IRQ⟩]
def rowsStd2 : List RegRow := [
  ⟨0x40A40000, [(0x100, 8)], fUART_CFG⟩,
  ⟨0x40A40004, [(0x100, 8)], fUART_BAUD⟩,
  ⟨0x40A40008, [(0x100, 8)], fUART_DATA⟩,
  ⟨0x40A4000C, [(0x100, 8)], fUART_STAT⟩,
  ⟨0x40A40010, [(0x100, 8)], fUART_FIFO⟩,
  ⟨0x40A40014, [(0x100, 8)], fUART_IRQ⟩,
  ⟨0x40A50000, [(0x1000, 8)], fCAN_CFG⟩,
  ⟨0x40A50004, [(0x1000, 8)], fCAN_NBT⟩,
  ⟨0x40A50008, [(0x1000, 8)], fCAN_DBT⟩,
  ⟨0x40A5000C, [(0x1000, 8)], fCAN_TDC⟩,
  ⟨0x40A50010, [(0x1000, 8)], fCAN_STAT⟩,
  ⟨0x40A50014, [(0x1000, 8)], fCAN_CTRL⟩]
def rowsStd3 : List RegRow := [
  ⟨0x40A50018, [(0x1000, 8)], fCAN_TXREQ⟩,
  ⟨0x40A5001C, [(0x1000, 8)], fCAN_TXABORT⟩,
  ⟨0x40A50020, [(0x1000, 8)], fCAN_RXLVL⟩,
  ⟨0x40A50024, [(0x1000, 8)], fCAN_IRQ⟩,
  ⟨0x40A50028, [(0x1000, 8)], fCAN_RXPOP⟩,
  ⟨0x40A50100, [(0x1000, 8), (0x4, 20)], fCAN_RXF⟩,
  ⟨0x40A50400, [(0x1000, 8), (0x50, 32), (0x4, 20)], fCAN_TXB⟩,
  ⟨0x40A70000, [], fDBG_CFG⟩,
  ⟨0x40A70040, [(0x4, 8)], fDBG_BKPT⟩,
  ⟨0x40A70060, [], fDBG_BKPT8⟩,
  ⟨0x40A70100, [(0x40, 8), (0x4, 8)], fDBG_XTR⟩,
  ⟨0x40A70120, [(0x40, 8)], fDBG_XTR8⟩]
/-- The registers of this block, in the order of the spec's tables. -/
def rowsStd : List RegRow := rowsStd0 ++ rowsStd1 ++ rowsStd2 ++ rowsStd3

end Sys2Proof.Machine
end

