-- ==== Sys2Proof/Machine/RegsSwimlink.lean ====
section
/-!
DEFINITION. The registers of the block Swimlink: their addresses, their fields (bits, access code, reset value, the classes
that return it to reset, legal codes), and the table of them, from the register tables of the spec.
-/

namespace Sys2Proof.Machine

/-- Address of SWL_DEV (16_swimlink.md). -/
def aSWL_DEV : Nat := 0x40900000
/-- Address of SWL_TM (16_swimlink.md). -/
def aSWL_TM : Nat := 0x40900004
/-- Address of SWL_TMSTAT (16_swimlink.md). -/
def aSWL_TMSTAT : Nat := 0x40900008
/-- Address of SWL_PAIR (16_swimlink.md). -/
def aSWL_PAIR : Nat := 0x40900070
/-- Address of SWL_OWN (16_swimlink.md). -/
def aSWL_OWN : Nat := 0x40900074
/-- Address of SWL_HAND_LO (16_swimlink.md). -/
def aSWL_HAND_LO : Nat := 0x40900078
/-- Address of SWL_HAND_HI (16_swimlink.md). -/
def aSWL_HAND_HI : Nat := 0x4090007C
/-- Address of SWL_RRST (16_swimlink.md). -/
def aSWL_RRST : Nat := 0x40900080
/-- Address of SWL_ROUTE (16_swimlink.md). -/
def aSWL_ROUTE (i : Nat) : Nat := 0x40900040 + i * 0x4
/-- Address of SWL_CFG (16_swimlink.md). -/
def aSWL_CFG (i : Nat) : Nat := 0x40900100 + i * 0x40
/-- Address of SWL_STATUS (16_swimlink.md). -/
def aSWL_STATUS (i : Nat) : Nat := 0x40900104 + i * 0x40
/-- Address of SWL_ERRCNT (16_swimlink.md). -/
def aSWL_ERRCNT (i : Nat) : Nat := 0x40900108 + i * 0x40
/-- Address of SWL_QFWD (16_swimlink.md). -/
def aSWL_QFWD (i : Nat) : Nat := 0x40901000 + i * 0x4
def SWL_DEV.rrst_en : Fld := ⟨31, 31, .rw, 0, 23, [], false⟩
def SWL_DEV.in_ring : Fld := ⟨29, 28, .rw, 2, 23, [], false⟩
def SWL_DEV.depth : Fld := ⟨22, 20, .rw, 0, 23, [], false⟩
def SWL_DEV.tandem_id : Fld := ⟨15, 8, .rw, 0, 23, [], false⟩
def SWL_DEV.devaddr : Fld := ⟨2, 0, .ro, 0, 1, [], false⟩
def SWL_TM.tm_en : Fld := ⟨31, 31, .rw, 0, 23, [], false⟩
def SWL_TM.tbsync_en : Fld := ⟨30, 30, .rw, 0, 23, [], false⟩
def SWL_TM.backup_tm : Fld := ⟨29, 29, .rw, 0, 23, [], false⟩
def SWL_TM.master : Fld := ⟨18, 16, .rw, 0, 23, [], false⟩
def SWL_TM.alt_port : Fld := ⟨10, 8, .rw, 0, 23, [], false⟩
def SWL_TM.parent_port : Fld := ⟨2, 0, .rw, 0, 23, [], false⟩
def SWL_TMSTAT.joined : Fld := ⟨31, 31, .ro, 0, 23, [], false⟩
def SWL_TMSTAT.holdover : Fld := ⟨30, 30, .ro, 0, 23, [], false⟩
def SWL_TMSTAT.tbsync_lost : Fld := ⟨29, 29, .w1c, 0, 23, [], false⟩
def SWL_TMSTAT.offset : Fld := ⟨15, 0, .ro, 0, 23, [], false⟩
def SWL_PAIR.takeover : Fld := ⟨31, 31, .rw, 0, 23, [], false⟩
def SWL_PAIR.sense_en : Fld := ⟨30, 30, .rw, 0, 23, [], false⟩
def SWL_PAIR.sense_gpio : Fld := ⟨20, 16, .rw, 0, 23, [], false⟩
def SWL_PAIR.prio : Fld := ⟨10, 8, .rw, 0, 23, [], false⟩
def SWL_PAIR.partner : Fld := ⟨2, 0, .rw, 0, 23, [], false⟩
def SWL_OWN.own : Fld := ⟨31, 31, .ro, 0, 23, [], false⟩
def SWL_OWN.lost : Fld := ⟨7, 7, .ro, 0, 23, [], false⟩
def SWL_OWN.hand_fail : Fld := ⟨6, 6, .w1c, 0, 23, [], false⟩
def SWL_OWN.displaced : Fld := ⟨5, 5, .w1c, 0, 23, [], false⟩
def SWL_OWN.partner_lost : Fld := ⟨4, 4, .w1c, 0, 23, [], false⟩
def SWL_OWN.handoff : Fld := ⟨2, 2, .wo, 0, 0, [], false⟩
def SWL_OWN.yield : Fld := ⟨1, 1, .wo, 0, 0, [], false⟩
def SWL_OWN.claim : Fld := ⟨0, 0, .wo, 0, 0, [], false⟩
def SWL_HAND_LO.t : Fld := ⟨31, 0, .rw, 0, 23, [], false⟩
def SWL_HAND_HI.t : Fld := ⟨31, 0, .rw, 0, 23, [], false⟩
def SWL_RRST.key : Fld := ⟨15, 8, .wo, 0, 0, [], false⟩
def SWL_RRST.target : Fld := ⟨2, 0, .wo, 0, 0, [], false⟩
def SWL_ROUTE.en : Fld := ⟨31, 31, .rw, 0, 23, [], false⟩
def SWL_ROUTE.port : Fld := ⟨2, 0, .rw, 0, 23, [], false⟩
def SWL_CFG.en : Fld := ⟨31, 31, .rw, 0, 31, [], false⟩
def SWL_CFG.asym : Fld := ⟨23, 16, .rw, 0, 31, [], false⟩
def SWL_CFG.irq_mask : Fld := ⟨7, 0, .rw, 0, 31, [], false⟩
def SWL_STATUS.state : Fld := ⟨31, 29, .ro, 0, 31, [], false⟩
def SWL_STATUS.peer_dev : Fld := ⟨26, 24, .ro, 0, 31, [], false⟩
def SWL_STATUS.peer_port : Fld := ⟨22, 20, .ro, 0, 31, [], false⟩
def SWL_STATUS.peer_depth : Fld := ⟨18, 16, .ro, 0, 31, [], false⟩
def SWL_STATUS.fwd_err : Fld := ⟨6, 6, .w1c, 0, 31, [], false⟩
def SWL_STATUS.fwd_drop : Fld := ⟨5, 5, .w1c, 0, 31, [], false⟩
def SWL_STATUS.ev_lost : Fld := ⟨4, 4, .w1c, 0, 31, [], false⟩
def SWL_STATUS.route_err : Fld := ⟨3, 3, .w1c, 0, 31, [], false⟩
def SWL_STATUS.id_err : Fld := ⟨2, 2, .w1c, 0, 31, [], false⟩
def SWL_STATUS.dup_addr : Fld := ⟨1, 1, .w1c, 0, 31, [], false⟩
def SWL_STATUS.link_fail : Fld := ⟨0, 0, .w1c, 0, 31, [], false⟩
def SWL_ERRCNT.resends : Fld := ⟨31, 16, .rw, 0, 31, [], false⟩
def SWL_ERRCNT.crc_err : Fld := ⟨15, 8, .rw, 0, 31, [], false⟩
def SWL_ERRCNT.bad_blk : Fld := ⟨7, 0, .rw, 0, 31, [], false⟩
def SWL_QFWD.en : Fld := ⟨31, 31, .rw, 0, 23, [], false⟩
def SWL_QFWD.d : Fld := ⟨30, 28, .rw, 0, 23, [], false⟩
def SWL_QFWD.rq : Fld := ⟨27, 14, .rw, 0, 23, [], false⟩
def SWL_QFWD.lq : Fld := ⟨13, 0, .rw, 0, 23, [], false⟩
/-- The fields of SWL_DEV. -/
def fSWL_DEV : List Fld := [ SWL_DEV.rrst_en, SWL_DEV.in_ring, SWL_DEV.depth, SWL_DEV.tandem_id, SWL_DEV.devaddr]
/-- The fields of SWL_TM. -/
def fSWL_TM : List Fld := [ SWL_TM.tm_en, SWL_TM.tbsync_en, SWL_TM.backup_tm, SWL_TM.master, SWL_TM.alt_port, SWL_TM.parent_port]
/-- The fields of SWL_TMSTAT. -/
def fSWL_TMSTAT : List Fld := [ SWL_TMSTAT.joined, SWL_TMSTAT.holdover, SWL_TMSTAT.tbsync_lost, SWL_TMSTAT.offset]
/-- The fields of SWL_PAIR. -/
def fSWL_PAIR : List Fld := [ SWL_PAIR.takeover, SWL_PAIR.sense_en, SWL_PAIR.sense_gpio, SWL_PAIR.prio, SWL_PAIR.partner]
/-- The fields of SWL_OWN. -/
def fSWL_OWN : List Fld := [ SWL_OWN.own, SWL_OWN.lost, SWL_OWN.hand_fail, SWL_OWN.displaced, SWL_OWN.partner_lost, SWL_OWN.handoff, SWL_OWN.yield, SWL_OWN.claim]
/-- The fields of SWL_HAND_LO. -/
def fSWL_HAND_LO : List Fld := [ SWL_HAND_LO.t]
/-- The fields of SWL_HAND_HI. -/
def fSWL_HAND_HI : List Fld := [ SWL_HAND_HI.t]
/-- The fields of SWL_RRST. -/
def fSWL_RRST : List Fld := [ SWL_RRST.key, SWL_RRST.target]
/-- The fields of SWL_ROUTE. -/
def fSWL_ROUTE : List Fld := [ SWL_ROUTE.en, SWL_ROUTE.port]
/-- The fields of SWL_CFG. -/
def fSWL_CFG : List Fld := [ SWL_CFG.en, SWL_CFG.asym, SWL_CFG.irq_mask]
/-- The fields of SWL_STATUS. -/
def fSWL_STATUS : List Fld := [ SWL_STATUS.state, SWL_STATUS.peer_dev, SWL_STATUS.peer_port, SWL_STATUS.peer_depth, SWL_STATUS.fwd_err, SWL_STATUS.fwd_drop, SWL_STATUS.ev_lost, SWL_STATUS.route_err, SWL_STATUS.id_err, SWL_STATUS.dup_addr, SWL_STATUS.link_fail]
/-- The fields of SWL_ERRCNT. -/
def fSWL_ERRCNT : List Fld := [ SWL_ERRCNT.resends, SWL_ERRCNT.crc_err, SWL_ERRCNT.bad_blk]
/-- The fields of SWL_QFWD. -/
def fSWL_QFWD : List Fld := [ SWL_QFWD.en, SWL_QFWD.d, SWL_QFWD.rq, SWL_QFWD.lq]
def rowsSwimlink0 : List RegRow := [
  ⟨0x40900000, [], fSWL_DEV⟩,
  ⟨0x40900004, [], fSWL_TM⟩,
  ⟨0x40900008, [], fSWL_TMSTAT⟩,
  ⟨0x40900070, [], fSWL_PAIR⟩,
  ⟨0x40900074, [], fSWL_OWN⟩,
  ⟨0x40900078, [], fSWL_HAND_LO⟩,
  ⟨0x4090007C, [], fSWL_HAND_HI⟩,
  ⟨0x40900080, [], fSWL_RRST⟩,
  ⟨0x40900040, [(0x4, 8)], fSWL_ROUTE⟩,
  ⟨0x40900100, [(0x40, 8)], fSWL_CFG⟩,
  ⟨0x40900104, [(0x40, 8)], fSWL_STATUS⟩,
  ⟨0x40900108, [(0x40, 8)], fSWL_ERRCNT⟩]
def rowsSwimlink1 : List RegRow := [
  ⟨0x40901000, [(0x4, 64)], fSWL_QFWD⟩]
/-- The registers of this block, in the order of the spec's tables. -/
def rowsSwimlink : List RegRow := rowsSwimlink0 ++ rowsSwimlink1

end Sys2Proof.Machine
end

