-- ==== Sys2Proof/Machine/RegsSysCtl.lean ====
section
/-!
DEFINITION. The registers of the block SysCtl: their addresses, their fields (bits, access code, reset value, the classes
that return it to reset, legal codes), and the table of them, from the register tables of the spec.
-/

namespace Sys2Proof.Machine

/-- Address of RSTCAUSE (18_reset_modes.md). -/
def aRSTCAUSE : Nat := 0x40F00000
/-- Address of RST_TB_LO (18_reset_modes.md). -/
def aRST_TB_LO : Nat := 0x40F00004
/-- Address of RST_TB_HI (18_reset_modes.md). -/
def aRST_TB_HI : Nat := 0x40F00008
/-- Address of SW_RST (18_reset_modes.md). -/
def aSW_RST : Nat := 0x40F0000C
/-- Address of RST_CFG (18_reset_modes.md). -/
def aRST_CFG : Nat := 0x40F00010
/-- Address of SK_RUN (18_reset_modes.md). -/
def aSK_RUN : Nat := 0x40F00014
/-- Address of ISL_RST (18_reset_modes.md). -/
def aISL_RST : Nat := 0x40F00020
/-- Address of BLK_RST (18_reset_modes.md). -/
def aBLK_RST : Nat := 0x40F00024
/-- Address of RST_STATUS (18_reset_modes.md). -/
def aRST_STATUS : Nat := 0x40F00028
/-- Address of MODE (18_reset_modes.md). -/
def aMODE : Nat := 0x40F00040
/-- Address of MODE_REQ (18_reset_modes.md). -/
def aMODE_REQ : Nat := 0x40F00044
/-- Address of THERM (18_reset_modes.md). -/
def aTHERM : Nat := 0x40F00048
/-- Address of LOAD_STATUS (18_reset_modes.md). -/
def aLOAD_STATUS : Nat := 0x40F00050
/-- Address of RET_CFG (18_reset_modes.md). -/
def aRET_CFG : Nat := 0x40F00060
/-- Address of WAKE_CFG (18_reset_modes.md). -/
def aWAKE_CFG : Nat := 0x40F00064
/-- Address of WAKE_STATUS (18_reset_modes.md). -/
def aWAKE_STATUS : Nat := 0x40F00068
/-- Address of WAKE_TB_LO (18_reset_modes.md). -/
def aWAKE_TB_LO : Nat := 0x40F0006C
/-- Address of WAKE_TB_HI (18_reset_modes.md). -/
def aWAKE_TB_HI : Nat := 0x40F00070
/-- Address of TRIM_INFO (19_calibration_security.md). -/
def aTRIM_INFO : Nat := 0x40F00200
/-- Address of CAL_INFO (19_calibration_security.md). -/
def aCAL_INFO : Nat := 0x40F00204
/-- Address of BOOT_STATUS (19_calibration_security.md). -/
def aBOOT_STATUS : Nat := 0x40F00208
/-- Address of BOOT_VER (19_calibration_security.md). -/
def aBOOT_VER : Nat := 0x40F0020C
/-- Address of DBG_CTRL (19_calibration_security.md). -/
def aDBG_CTRL : Nat := 0x40F00210
/-- Address of OTP_PADDR (19_calibration_security.md). -/
def aOTP_PADDR : Nat := 0x40F00300
/-- Address of OTP_PDATA (19_calibration_security.md). -/
def aOTP_PDATA : Nat := 0x40F00304
/-- Address of OTP_PCMD (19_calibration_security.md). -/
def aOTP_PCMD : Nat := 0x40F00308
/-- Address of NVM_WADDR (19_calibration_security.md). -/
def aNVM_WADDR : Nat := 0x40F00800
/-- Address of NVM_WDATA (19_calibration_security.md). -/
def aNVM_WDATA : Nat := 0x40F00804
/-- Address of NVM_CMD (19_calibration_security.md). -/
def aNVM_CMD : Nat := 0x40F00808
/-- Address of NVM_STATUS (19_calibration_security.md). -/
def aNVM_STATUS : Nat := 0x40F0080C
/-- Address of NVM_PROT (19_calibration_security.md). -/
def aNVM_PROT : Nat := 0x40F00810
/-- Address of ECC_DEV (20_availability.md). -/
def aECC_DEV : Nat := 0x40F00400
/-- Address of ECC_UE_INFO (20_availability.md). -/
def aECC_UE_INFO : Nat := 0x40F00404
/-- Address of ECC_UE_ADDR (20_availability.md). -/
def aECC_UE_ADDR : Nat := 0x40F00408
/-- Address of ECC_CFG (20_availability.md). -/
def aECC_CFG : Nat := 0x40F0040C
/-- Address of ECC_NVM_FIX (20_availability.md). -/
def aECC_NVM_FIX : Nat := 0x40F00410
/-- Address of LOCKSTEP (20_availability.md). -/
def aLOCKSTEP : Nat := 0x40F00420
/-- Address of FAULT_CFG (20_availability.md). -/
def aFAULT_CFG : Nat := 0x40F00424
/-- Address of SYS_WDT_CTRL (20_availability.md). -/
def aSYS_WDT_CTRL : Nat := 0x40F00430
/-- Address of SYS_WDT_KICK (20_availability.md). -/
def aSYS_WDT_KICK : Nat := 0x40F00434
/-- Address of SYS_WDT_STATUS (20_availability.md). -/
def aSYS_WDT_STATUS : Nat := 0x40F00438
/-- Address of READY (18_reset_modes.md). -/
def aREADY (i : Nat) : Nat := 0x40F00100 + i * 0x4
/-- Address of DBG_NONCE (19_calibration_security.md). -/
def aDBG_NONCE (i : Nat) : Nat := 0x40F00240 + i * 0x4
def RSTCAUSE.nvm_wait : Fld := ⟨16, 16, .ro, 0, 1, [], false⟩
def RSTCAUSE.sys_cnt : Fld := ⟨15, 8, .ro, 0, 1, [], false⟩
def RSTCAUSE.cause : Fld := ⟨3, 0, .ro, 1, 1, [], false⟩
def RST_TB_LO.tb_lo : Fld := ⟨31, 0, .ro, 0, 1, [], false⟩
def RST_TB_HI.tb_hi : Fld := ⟨31, 0, .ro, 0, 1, [], false⟩
def SW_RST.key : Fld := ⟨15, 8, .wo, 0, 0, [], false⟩
def RST_CFG.rstout_sw : Fld := ⟨31, 31, .rw, 0, 3, [], false⟩
def RST_CFG.rstout_ext : Fld := ⟨15, 0, .rw, 0, 1, [], false⟩
def SK_RUN.sk1_run : Fld := ⟨0, 0, .rw, 0, 19, [], false⟩
def ISL_RST.go : Fld := ⟨31, 31, .wo, 0, 0, [], false⟩
def ISL_RST.island : Fld := ⟨28, 24, .rw, 0, 3, [(0, 9), (16, 31)], false⟩
def ISL_RST.timeout : Fld := ⟨15, 0, .rw, 1000, 3, [(1, 65535)], false⟩
def BLK_RST.go : Fld := ⟨31, 31, .wo, 0, 0, [], false⟩
def BLK_RST.kind : Fld := ⟨26, 24, .rw, 0, 3, [], false⟩
def BLK_RST.index : Fld := ⟨11, 0, .rw, 0, 3, [], false⟩
def RST_STATUS.isl_busy : Fld := ⟨31, 31, .ro, 0, 3, [], false⟩
def RST_STATUS.idle_timeout : Fld := ⟨8, 8, .w1c, 0, 3, [], false⟩
def RST_STATUS.blk_busy : Fld := ⟨7, 7, .w1c, 0, 3, [], false⟩
def RST_STATUS.bad_req : Fld := ⟨6, 6, .w1c, 0, 3, [], false⟩
def RST_STATUS.last_island : Fld := ⟨4, 0, .ro, 0, 3, [], false⟩
def MODE.strap : Fld := ⟨29, 28, .ro, 0, 3, [], false⟩
def MODE.trip_cause : Fld := ⟨27, 26, .ro, 0, 3, [], false⟩
def MODE.irq_ready : Fld := ⟨25, 25, .rw, 0, 3, [], false⟩
def MODE.irq_mode : Fld := ⟨24, 24, .rw, 0, 3, [], false⟩
def MODE.req_cause : Fld := ⟨22, 20, .ro, 0, 3, [], false⟩
def MODE.relocking : Fld := ⟨19, 19, .ro, 0, 3, [], false⟩
def MODE.req_refused : Fld := ⟨18, 18, .w1c, 0, 3, [], false⟩
def MODE.ready_chg : Fld := ⟨17, 17, .w1c, 0, 3, [], false⟩
def MODE.mode_chg : Fld := ⟨16, 16, .w1c, 0, 3, [], false⟩
def MODE.degraded : Fld := ⟨8, 8, .w1c, 0, 3, [], false⟩
def MODE.mode : Fld := ⟨3, 0, .ro, 2, 3, [], false⟩
def MODE_REQ.watch_keep : Fld := ⟨31, 16, .rw, 0, 3, [], false⟩
def MODE_REQ.target : Fld := ⟨3, 0, .wo, 0, 0, [], false⟩
def THERM.trip_en : Fld := ⟨31, 31, .rw, 0, 3, [], false⟩
def THERM.warn : Fld := ⟨30, 30, .w1c, 0, 3, [], false⟩
def THERM.warn_c : Fld := ⟨23, 16, .rw, 189, 3, [], false⟩
def THERM.tj : Fld := ⟨15, 8, .ro, 0, 3, [], false⟩
def LOAD_STATUS.trim_done : Fld := ⟨31, 31, .ro, 0, 3, [], false⟩
def LOAD_STATUS.cal_done : Fld := ⟨30, 30, .ro, 0, 3, [], false⟩
def LOAD_STATUS.trim_conflict : Fld := ⟨29, 29, .ro, 0, 3, [], false⟩
def LOAD_STATUS.cal_conflict : Fld := ⟨28, 28, .ro, 0, 3, [], false⟩
def LOAD_STATUS.restarts : Fld := ⟨7, 0, .ro, 0, 1, [], false⟩
def RET_CFG.sram_ret : Fld := ⟨23, 16, .rw, 0, 3, [], false⟩
def RET_CFG.clu_ret : Fld := ⟨15, 0, .rw, 0, 3, [], false⟩
def WAKE_CFG.en : Fld := ⟨15, 0, .rw, 0, 3, [], false⟩
def WAKE_STATUS.woke : Fld := ⟨31, 31, .w1c, 0, 3, [], false⟩
def WAKE_STATUS.in_entry : Fld := ⟨8, 8, .w1c, 0, 3, [], false⟩
def WAKE_STATUS.input : Fld := ⟨3, 0, .ro, 0, 3, [], false⟩
def WAKE_TB_LO.tb_lo : Fld := ⟨31, 0, .ro, 0, 3, [], false⟩
def WAKE_TB_HI.tb_hi : Fld := ⟨31, 0, .ro, 0, 3, [], false⟩
def TRIM_INFO.single : Fld := ⟨31, 31, .ro, 0, 3, [], false⟩
def TRIM_INFO.missing : Fld := ⟨30, 30, .ro, 0, 3, [], false⟩
def TRIM_INFO.first_kind : Fld := ⟨23, 16, .ro, 0, 3, [], false⟩
def TRIM_INFO.first_index : Fld := ⟨15, 8, .ro, 0, 3, [], false⟩
def TRIM_INFO.n_bad : Fld := ⟨7, 0, .ro, 0, 3, [], false⟩
def CAL_INFO.n_default : Fld := ⟨31, 24, .ro, 0, 3, [], false⟩
def CAL_INFO.n_single : Fld := ⟨23, 16, .ro, 0, 3, [], false⟩
def CAL_INFO.n_conflict : Fld := ⟨15, 8, .ro, 0, 3, [], false⟩
def CAL_INFO.first_conflict : Fld := ⟨6, 0, .ro, 0, 3, [], false⟩
def BOOT_STATUS.ok : Fld := ⟨31, 31, .rw, 0, 3, [], false⟩
def BOOT_STATUS.rom_done : Fld := ⟨30, 30, .rw, 0, 3, [], false⟩
def BOOT_STATUS.src : Fld := ⟨29, 29, .rw, 0, 3, [], false⟩
def BOOT_STATUS.slot : Fld := ⟨28, 28, .rw, 0, 3, [], false⟩
def BOOT_STATUS.fail : Fld := ⟨27, 24, .rw, 0, 3, [], false⟩
def BOOT_STATUS.attempts : Fld := ⟨7, 0, .rw, 0, 3, [], false⟩
def BOOT_VER.version : Fld := ⟨31, 0, .rw, 0, 3, [], false⟩
def DBG_CTRL.locked : Fld := ⟨31, 31, .ro, 0, 3, [], false⟩
def DBG_CTRL.locked_out : Fld := ⟨30, 30, .ro, 0, 1, [], false⟩
def DBG_CTRL.provisioned : Fld := ⟨29, 29, .ro, 0, 0, [], false⟩
def DBG_CTRL.fails : Fld := ⟨11, 8, .ro, 0, 1, [], false⟩
def DBG_CTRL.relock : Fld := ⟨4, 4, .wo, 0, 0, [], false⟩
def DBG_CTRL.unlock : Fld := ⟨1, 0, .rw, 0, 3, [], false⟩
def OTP_PADDR.word : Fld := ⟨11, 2, .rw, 0, 3, [], false⟩
def OTP_PDATA.set_ : Fld := ⟨31, 0, .rw, 0, 3, [], false⟩
def OTP_PCMD.busy : Fld := ⟨31, 31, .ro, 0, 3, [], false⟩
def OTP_PCMD.prog_err : Fld := ⟨30, 30, .w1c, 0, 3, [], false⟩
def OTP_PCMD.key : Fld := ⟨15, 8, .wo, 0, 0, [], false⟩
def OTP_PCMD.go : Fld := ⟨0, 0, .wo, 0, 0, [], false⟩
def NVM_WADDR.word : Fld := ⟨19, 2, .rw, 0, 23, [], false⟩
def NVM_WDATA.data : Fld := ⟨31, 0, .rw, 0, 23, [], false⟩
def NVM_CMD.key : Fld := ⟨15, 8, .wo, 0, 0, [], false⟩
def NVM_CMD.go : Fld := ⟨0, 0, .wo, 0, 0, [], false⟩
def NVM_STATUS.busy : Fld := ⟨31, 31, .ro, 0, 23, [], false⟩
def NVM_STATUS.irq_en : Fld := ⟨30, 30, .rw, 0, 23, [], false⟩
def NVM_STATUS.sess_bad : Fld := ⟨3, 3, .ro, 0, 1, [], false⟩
def NVM_STATUS.cmd_err : Fld := ⟨1, 1, .w1c, 0, 23, [], false⟩
def NVM_STATUS.done : Fld := ⟨0, 0, .w1c, 0, 23, [], false⟩
def NVM_PROT.lock_img1 : Fld := ⟨1, 1, .w1s, 0, 3, [], false⟩
def NVM_PROT.lock_img0 : Fld := ⟨0, 0, .w1s, 0, 3, [], false⟩
def ECC_DEV.ue_total : Fld := ⟨31, 16, .rw, 0, 3, [], false⟩
def ECC_DEV.ce_total : Fld := ⟨15, 0, .rw, 0, 3, [], false⟩
def ECC_UE_INFO.valid : Fld := ⟨31, 31, .w1c, 0, 3, [], false⟩
def ECC_UE_INFO.by_scrub : Fld := ⟨30, 30, .ro, 0, 3, [], false⟩
def ECC_UE_INFO.mem : Fld := ⟨27, 24, .ro, 0, 3, [], false⟩
def ECC_UE_INFO.later_cnt : Fld := ⟨15, 0, .ro, 0, 3, [], false⟩
def ECC_UE_ADDR.addr : Fld := ⟨31, 0, .ro, 0, 3, [], false⟩
def ECC_CFG.scrub_en : Fld := ⟨31, 31, .rw, 1, 3, [], false⟩
def ECC_CFG.irq_ue : Fld := ⟨30, 30, .rw, 0, 3, [], false⟩
def ECC_CFG.irq_ce : Fld := ⟨29, 29, .rw, 0, 3, [], false⟩
def ECC_CFG.ce_thr : Fld := ⟨15, 0, .rw, 65535, 3, [], false⟩
def ECC_NVM_FIX.valid : Fld := ⟨31, 31, .w1c, 0, 3, [], false⟩
def ECC_NVM_FIX.word : Fld := ⟨19, 2, .ro, 0, 3, [], false⟩
def LOCKSTEP.sk0_failed : Fld := ⟨31, 31, .ro, 0, 3, [], false⟩
def LOCKSTEP.sk1_failed : Fld := ⟨30, 30, .ro, 0, 3, [], false⟩
def LOCKSTEP.primary : Fld := ⟨29, 29, .ro, 0, 3, [], false⟩
def LOCKSTEP.fo : Fld := ⟨28, 28, .w1c, 0, 3, [], false⟩
def LOCKSTEP.fo_input : Fld := ⟨21, 16, .rw, 0, 3, [], false⟩
def LOCKSTEP.cause : Fld := ⟨9, 8, .ro, 0, 3, [], false⟩
def LOCKSTEP.switch : Fld := ⟨0, 0, .wo, 0, 0, [], false⟩
def FAULT_CFG.sw_assert : Fld := ⟨8, 8, .rw, 0, 3, [], false⟩
def FAULT_CFG.mask : Fld := ⟨5, 0, .rw, 15, 3, [], false⟩
def SYS_WDT_CTRL.en : Fld := ⟨31, 31, .w1s, 0, 3, [], false⟩
def SYS_WDT_CTRL.trip_en : Fld := ⟨30, 30, .rw, 0, 3, [], false⟩
def SYS_WDT_CTRL.timeout : Fld := ⟨19, 0, .rw, 1000000, 3, [(1, 1048575)], false⟩
def SYS_WDT_KICK.key : Fld := ⟨7, 0, .wo, 0, 0, [], false⟩
def SYS_WDT_STATUS.pre_expiry : Fld := ⟨31, 31, .w1c, 0, 3, [], false⟩
def SYS_WDT_STATUS.bad_kick : Fld := ⟨30, 30, .w1c, 0, 3, [], false⟩
def SYS_WDT_STATUS.remaining : Fld := ⟨19, 0, .ro, 1000000, 3, [], false⟩
def READY.ready : Fld := ⟨31, 0, .ro, 0, 31, [], false⟩
def DBG_NONCE.nonce : Fld := ⟨31, 0, .ro, 0, 1, [], false⟩
/-- The fields of RSTCAUSE. -/
def fRSTCAUSE : List Fld := [ RSTCAUSE.nvm_wait, RSTCAUSE.sys_cnt, RSTCAUSE.cause]
/-- The fields of RST_TB_LO. -/
def fRST_TB_LO : List Fld := [ RST_TB_LO.tb_lo]
/-- The fields of RST_TB_HI. -/
def fRST_TB_HI : List Fld := [ RST_TB_HI.tb_hi]
/-- The fields of SW_RST. -/
def fSW_RST : List Fld := [ SW_RST.key]
/-- The fields of RST_CFG. -/
def fRST_CFG : List Fld := [ RST_CFG.rstout_sw, RST_CFG.rstout_ext]
/-- The fields of SK_RUN. -/
def fSK_RUN : List Fld := [ SK_RUN.sk1_run]
/-- The fields of ISL_RST. -/
def fISL_RST : List Fld := [ ISL_RST.go, ISL_RST.island, ISL_RST.timeout]
/-- The fields of BLK_RST. -/
def fBLK_RST : List Fld := [ BLK_RST.go, BLK_RST.kind, BLK_RST.index]
/-- The fields of RST_STATUS. -/
def fRST_STATUS : List Fld := [ RST_STATUS.isl_busy, RST_STATUS.idle_timeout, RST_STATUS.blk_busy, RST_STATUS.bad_req, RST_STATUS.last_island]
/-- The fields of MODE. -/
def fMODE : List Fld := [ MODE.strap, MODE.trip_cause, MODE.irq_ready, MODE.irq_mode, MODE.req_cause, MODE.relocking, MODE.req_refused, MODE.ready_chg, MODE.mode_chg, MODE.degraded, MODE.mode]
/-- The fields of MODE_REQ. -/
def fMODE_REQ : List Fld := [ MODE_REQ.watch_keep, MODE_REQ.target]
/-- The fields of THERM. -/
def fTHERM : List Fld := [ THERM.trip_en, THERM.warn, THERM.warn_c, THERM.tj]
/-- The fields of LOAD_STATUS. -/
def fLOAD_STATUS : List Fld := [ LOAD_STATUS.trim_done, LOAD_STATUS.cal_done, LOAD_STATUS.trim_conflict, LOAD_STATUS.cal_conflict, LOAD_STATUS.restarts]
/-- The fields of RET_CFG. -/
def fRET_CFG : List Fld := [ RET_CFG.sram_ret, RET_CFG.clu_ret]
/-- The fields of WAKE_CFG. -/
def fWAKE_CFG : List Fld := [ WAKE_CFG.en]
/-- The fields of WAKE_STATUS. -/
def fWAKE_STATUS : List Fld := [ WAKE_STATUS.woke, WAKE_STATUS.in_entry, WAKE_STATUS.input]
/-- The fields of WAKE_TB_LO. -/
def fWAKE_TB_LO : List Fld := [ WAKE_TB_LO.tb_lo]
/-- The fields of WAKE_TB_HI. -/
def fWAKE_TB_HI : List Fld := [ WAKE_TB_HI.tb_hi]
/-- The fields of TRIM_INFO. -/
def fTRIM_INFO : List Fld := [ TRIM_INFO.single, TRIM_INFO.missing, TRIM_INFO.first_kind, TRIM_INFO.first_index, TRIM_INFO.n_bad]
/-- The fields of CAL_INFO. -/
def fCAL_INFO : List Fld := [ CAL_INFO.n_default, CAL_INFO.n_single, CAL_INFO.n_conflict, CAL_INFO.first_conflict]
/-- The fields of BOOT_STATUS. -/
def fBOOT_STATUS : List Fld := [ BOOT_STATUS.ok, BOOT_STATUS.rom_done, BOOT_STATUS.src, BOOT_STATUS.slot, BOOT_STATUS.fail, BOOT_STATUS.attempts]
/-- The fields of BOOT_VER. -/
def fBOOT_VER : List Fld := [ BOOT_VER.version]
/-- The fields of DBG_CTRL. -/
def fDBG_CTRL : List Fld := [ DBG_CTRL.locked, DBG_CTRL.locked_out, DBG_CTRL.provisioned, DBG_CTRL.fails, DBG_CTRL.relock, DBG_CTRL.unlock]
/-- The fields of OTP_PADDR. -/
def fOTP_PADDR : List Fld := [ OTP_PADDR.word]
/-- The fields of OTP_PDATA. -/
def fOTP_PDATA : List Fld := [ OTP_PDATA.set_]
/-- The fields of OTP_PCMD. -/
def fOTP_PCMD : List Fld := [ OTP_PCMD.busy, OTP_PCMD.prog_err, OTP_PCMD.key, OTP_PCMD.go]
/-- The fields of NVM_WADDR. -/
def fNVM_WADDR : List Fld := [ NVM_WADDR.word]
/-- The fields of NVM_WDATA. -/
def fNVM_WDATA : List Fld := [ NVM_WDATA.data]
/-- The fields of NVM_CMD. -/
def fNVM_CMD : List Fld := [ NVM_CMD.key, NVM_CMD.go]
/-- The fields of NVM_STATUS. -/
def fNVM_STATUS : List Fld := [ NVM_STATUS.busy, NVM_STATUS.irq_en, NVM_STATUS.sess_bad, NVM_STATUS.cmd_err, NVM_STATUS.done]
/-- The fields of NVM_PROT. -/
def fNVM_PROT : List Fld := [ NVM_PROT.lock_img1, NVM_PROT.lock_img0]
/-- The fields of ECC_DEV. -/
def fECC_DEV : List Fld := [ ECC_DEV.ue_total, ECC_DEV.ce_total]
/-- The fields of ECC_UE_INFO. -/
def fECC_UE_INFO : List Fld := [ ECC_UE_INFO.valid, ECC_UE_INFO.by_scrub, ECC_UE_INFO.mem, ECC_UE_INFO.later_cnt]
/-- The fields of ECC_UE_ADDR. -/
def fECC_UE_ADDR : List Fld := [ ECC_UE_ADDR.addr]
/-- The fields of ECC_CFG. -/
def fECC_CFG : List Fld := [ ECC_CFG.scrub_en, ECC_CFG.irq_ue, ECC_CFG.irq_ce, ECC_CFG.ce_thr]
/-- The fields of ECC_NVM_FIX. -/
def fECC_NVM_FIX : List Fld := [ ECC_NVM_FIX.valid, ECC_NVM_FIX.word]
/-- The fields of LOCKSTEP. -/
def fLOCKSTEP : List Fld := [ LOCKSTEP.sk0_failed, LOCKSTEP.sk1_failed, LOCKSTEP.primary, LOCKSTEP.fo, LOCKSTEP.fo_input, LOCKSTEP.cause, LOCKSTEP.switch]
/-- The fields of FAULT_CFG. -/
def fFAULT_CFG : List Fld := [ FAULT_CFG.sw_assert, FAULT_CFG.mask]
/-- The fields of SYS_WDT_CTRL. -/
def fSYS_WDT_CTRL : List Fld := [ SYS_WDT_CTRL.en, SYS_WDT_CTRL.trip_en, SYS_WDT_CTRL.timeout]
/-- The fields of SYS_WDT_KICK. -/
def fSYS_WDT_KICK : List Fld := [ SYS_WDT_KICK.key]
/-- The fields of SYS_WDT_STATUS. -/
def fSYS_WDT_STATUS : List Fld := [ SYS_WDT_STATUS.pre_expiry, SYS_WDT_STATUS.bad_kick, SYS_WDT_STATUS.remaining]
/-- The fields of READY. -/
def fREADY : List Fld := [ READY.ready]
/-- The fields of DBG_NONCE. -/
def fDBG_NONCE : List Fld := [ DBG_NONCE.nonce]
def rowsSysCtl0 : List RegRow := [
  ⟨0x40F00000, [], fRSTCAUSE⟩,
  ⟨0x40F00004, [], fRST_TB_LO⟩,
  ⟨0x40F00008, [], fRST_TB_HI⟩,
  ⟨0x40F0000C, [], fSW_RST⟩,
  ⟨0x40F00010, [], fRST_CFG⟩,
  ⟨0x40F00014, [], fSK_RUN⟩,
  ⟨0x40F00020, [], fISL_RST⟩,
  ⟨0x40F00024, [], fBLK_RST⟩,
  ⟨0x40F00028, [], fRST_STATUS⟩,
  ⟨0x40F00040, [], fMODE⟩,
  ⟨0x40F00044, [], fMODE_REQ⟩,
  ⟨0x40F00048, [], fTHERM⟩]
def rowsSysCtl1 : List RegRow := [
  ⟨0x40F00050, [], fLOAD_STATUS⟩,
  ⟨0x40F00060, [], fRET_CFG⟩,
  ⟨0x40F00064, [], fWAKE_CFG⟩,
  ⟨0x40F00068, [], fWAKE_STATUS⟩,
  ⟨0x40F0006C, [], fWAKE_TB_LO⟩,
  ⟨0x40F00070, [], fWAKE_TB_HI⟩,
  ⟨0x40F00200, [], fTRIM_INFO⟩,
  ⟨0x40F00204, [], fCAL_INFO⟩,
  ⟨0x40F00208, [], fBOOT_STATUS⟩,
  ⟨0x40F0020C, [], fBOOT_VER⟩,
  ⟨0x40F00210, [], fDBG_CTRL⟩,
  ⟨0x40F00300, [], fOTP_PADDR⟩]
def rowsSysCtl2 : List RegRow := [
  ⟨0x40F00304, [], fOTP_PDATA⟩,
  ⟨0x40F00308, [], fOTP_PCMD⟩,
  ⟨0x40F00800, [], fNVM_WADDR⟩,
  ⟨0x40F00804, [], fNVM_WDATA⟩,
  ⟨0x40F00808, [], fNVM_CMD⟩,
  ⟨0x40F0080C, [], fNVM_STATUS⟩,
  ⟨0x40F00810, [], fNVM_PROT⟩,
  ⟨0x40F00400, [], fECC_DEV⟩,
  ⟨0x40F00404, [], fECC_UE_INFO⟩,
  ⟨0x40F00408, [], fECC_UE_ADDR⟩,
  ⟨0x40F0040C, [], fECC_CFG⟩,
  ⟨0x40F00410, [], fECC_NVM_FIX⟩]
def rowsSysCtl3 : List RegRow := [
  ⟨0x40F00420, [], fLOCKSTEP⟩,
  ⟨0x40F00424, [], fFAULT_CFG⟩,
  ⟨0x40F00430, [], fSYS_WDT_CTRL⟩,
  ⟨0x40F00434, [], fSYS_WDT_KICK⟩,
  ⟨0x40F00438, [], fSYS_WDT_STATUS⟩,
  ⟨0x40F00100, [(0x4, 64)], fREADY⟩,
  ⟨0x40F00240, [(0x4, 12)], fDBG_NONCE⟩]
/-- The registers of this block, in the order of the spec's tables. -/
def rowsSysCtl : List RegRow := rowsSysCtl0 ++ rowsSysCtl1 ++ rowsSysCtl2 ++ rowsSysCtl3

end Sys2Proof.Machine
end

