-- ==== Sys2Proof/Machine/RegsTimebase.lean ====
section
/-!
DEFINITION. The registers of the block Timebase: their addresses, their fields (bits, access code, reset value, the classes
that return it to reset, legal codes), and the table of them, from the register tables of the spec.
-/

namespace Sys2Proof.Machine

/-- Address of TB_LO (02_timebase.md). -/
def aTB_LO : Nat := 0x40000000
/-- Address of TB_HI (02_timebase.md). -/
def aTB_HI : Nat := 0x40000004
/-- Address of TB_STATUS (02_timebase.md). -/
def aTB_STATUS : Nat := 0x40000008
/-- Address of TB_STEP (02_timebase.md). -/
def aTB_STEP : Nat := 0x4000000C
/-- Address of SESSION (02_timebase.md). -/
def aSESSION : Nat := 0x40000010
/-- Address of TBMARK_CFG (02_timebase.md). -/
def aTBMARK_CFG (i : Nat) : Nat := 0x40000040 + i * 0x4
/-- Address of STG_CFG (11_pwm_slices.md). -/
def aSTG_CFG (i : Nat) : Nat := 0x40000400 + i * 0x10
/-- Address of STG_PER (11_pwm_slices.md). -/
def aSTG_PER (i : Nat) : Nat := 0x40000404 + i * 0x10
/-- Address of STG_EPOCH (11_pwm_slices.md). -/
def aSTG_EPOCH (i : Nat) : Nat := 0x40000408 + i * 0x10
def TB_LO.tb_lo : Fld := ⟨31, 0, .ro, 0, 1, [], false⟩
def TB_HI.tb_hi : Fld := ⟨31, 0, .ro, 0, 19, [], false⟩
def TB_STATUS.session_full : Fld := ⟨9, 9, .ro, 0, 1, [], false⟩
def TB_STATUS.session_valid : Fld := ⟨8, 8, .ro, 0, 1, [], false⟩
def TB_STATUS.tb_ahead : Fld := ⟨7, 7, .ro, 0, 3, [], false⟩
def TB_STATUS.stepped : Fld := ⟨6, 6, .w1c, 0, 1, [], false⟩
def TB_STATUS.pll_locked : Fld := ⟨5, 5, .ro, 0, 19, [], false⟩
def TB_STATUS.cause_sys : Fld := ⟨4, 4, .w1c, 0, 1, [], false⟩
def TB_STATUS.cause_refclk : Fld := ⟨3, 3, .w1c, 0, 1, [], false⟩
def TB_STATUS.cause_frost : Fld := ⟨2, 2, .w1c, 0, 1, [], false⟩
def TB_STATUS.cause_startup : Fld := ⟨1, 1, .w1c, 0, 1, [], false⟩
def TB_STATUS.tb_lossy : Fld := ⟨0, 0, .w1c, 0, 1, [], false⟩
def TB_STEP.step_ns : Fld := ⟨31, 0, .ro, 0, 1, [], false⟩
def SESSION.session : Fld := ⟨31, 0, .ro, 0, 0, [], false⟩
def TBMARK_CFG.en : Fld := ⟨31, 31, .rws, 0, 3, [], false⟩
def TBMARK_CFG.k : Fld := ⟨5, 0, .rws, 20, 3, [(6, 40)], false⟩
def STG_CFG.en : Fld := ⟨31, 31, .rws, 0, 7, [], false⟩
def STG_CFG.shared : Fld := ⟨30, 30, .rw, 0, 7, [], false⟩
def STG_CFG.n : Fld := ⟨6, 0, .rws, 1, 7, [(1, 64)], false⟩
def STG_PER.per : Fld := ⟨31, 0, .rws, 128000, 7, [(8192, 4294967295)], false⟩
def STG_EPOCH.ns : Fld := ⟨31, 7, .ro, 0, 7, [], false⟩
def STG_EPOCH.fine : Fld := ⟨6, 0, .ro, 0, 7, [], false⟩
/-- The fields of TB_LO. -/
def fTB_LO : List Fld := [ TB_LO.tb_lo]
/-- The fields of TB_HI. -/
def fTB_HI : List Fld := [ TB_HI.tb_hi]
/-- The fields of TB_STATUS. -/
def fTB_STATUS : List Fld := [ TB_STATUS.session_full, TB_STATUS.session_valid, TB_STATUS.tb_ahead, TB_STATUS.stepped, TB_STATUS.pll_locked, TB_STATUS.cause_sys, TB_STATUS.cause_refclk, TB_STATUS.cause_frost, TB_STATUS.cause_startup, TB_STATUS.tb_lossy]
/-- The fields of TB_STEP. -/
def fTB_STEP : List Fld := [ TB_STEP.step_ns]
/-- The fields of SESSION. -/
def fSESSION : List Fld := [ SESSION.session]
/-- The fields of TBMARK_CFG. -/
def fTBMARK_CFG : List Fld := [ TBMARK_CFG.en, TBMARK_CFG.k]
/-- The fields of STG_CFG. -/
def fSTG_CFG : List Fld := [ STG_CFG.en, STG_CFG.shared, STG_CFG.n]
/-- The fields of STG_PER. -/
def fSTG_PER : List Fld := [ STG_PER.per]
/-- The fields of STG_EPOCH. -/
def fSTG_EPOCH : List Fld := [ STG_EPOCH.ns, STG_EPOCH.fine]
def rowsTimebase0 : List RegRow := [
  ⟨0x40000000, [], fTB_LO⟩,
  ⟨0x40000004, [], fTB_HI⟩,
  ⟨0x40000008, [], fTB_STATUS⟩,
  ⟨0x4000000C, [], fTB_STEP⟩,
  ⟨0x40000010, [], fSESSION⟩,
  ⟨0x40000040, [(0x4, 14)], fTBMARK_CFG⟩,
  ⟨0x40000400, [(0x10, 16)], fSTG_CFG⟩,
  ⟨0x40000404, [(0x10, 16)], fSTG_PER⟩,
  ⟨0x40000408, [(0x10, 16)], fSTG_EPOCH⟩]
/-- The registers of this block, in the order of the spec's tables. -/
def rowsTimebase : List RegRow := rowsTimebase0

end Sys2Proof.Machine
end

