-- ==== Sys2Proof/Machine/RegsTrip.lean ====
section
/-!
DEFINITION. The registers of the block Trip: their addresses, their fields (bits, access code, reset value, the classes
that return it to reset, legal codes), and the table of them, from the register tables of the spec.
-/

namespace Sys2Proof.Machine

/-- Address of TZ_CFG (12_trips_capture.md). -/
def aTZ_CFG (i : Nat) : Nat := 0x40200000 + i * 0x80
/-- Address of TZ_STATUS (12_trips_capture.md). -/
def aTZ_STATUS (i : Nat) : Nat := 0x40200004 + i * 0x80
/-- Address of TZ_SRC (12_trips_capture.md). -/
def aTZ_SRC (i j : Nat) : Nat := 0x40200020 + i * 0x80 + j * 0x4
/-- Address of TZ_ACT (12_trips_capture.md). -/
def aTZ_ACT (i j : Nat) : Nat := 0x40200040 + i * 0x80 + j * 0x4
/-- Address of TRIPIN_CFG (12_trips_capture.md). -/
def aTRIPIN_CFG (i : Nat) : Nat := 0x40201000 + i * 0x4
/-- Address of TRIPOUT_MASK (12_trips_capture.md). -/
def aTRIPOUT_MASK (i : Nat) : Nat := 0x40201100 + i * 0x4
/-- Address of TRIPOUT_CTRL (12_trips_capture.md). -/
def aTRIPOUT_CTRL : Nat := 0x40201120
/-- Address of SAFE_CFG (12_trips_capture.md). -/
def aSAFE_CFG (i : Nat) : Nat := 0x40201200 + i * 0x4
/-- Address of SAFE_CTRL (12_trips_capture.md). -/
def aSAFE_CTRL : Nat := 0x40201240
/-- Address of CAP_CFG (12_trips_capture.md). -/
def aCAP_CFG (i : Nat) : Nat := 0x40202000 + i * 0x10
/-- Address of CAP_LO (12_trips_capture.md). -/
def aCAP_LO (i : Nat) : Nat := 0x40202004 + i * 0x10
/-- Address of CAP_HI (12_trips_capture.md). -/
def aCAP_HI (i : Nat) : Nat := 0x40202008 + i * 0x10
/-- Address of CAP_STATUS (12_trips_capture.md). -/
def aCAP_STATUS (i : Nat) : Nat := 0x4020200C + i * 0x10
def TZ_CFG.en : Fld := ⟨31, 31, .rws, 0, 7, [], false⟩
def TZ_CFG.mode : Fld := ⟨30, 29, .rws, 1, 7, [(0, 2)], false⟩
def TZ_CFG.escalate : Fld := ⟨28, 28, .rws, 0, 7, [], false⟩
def TZ_CFG.irq_en : Fld := ⟨27, 27, .rw, 0, 7, [], false⟩
def TZ_CFG.ref_slice : Fld := ⟨21, 16, .rws, 0, 7, [], false⟩
def TZ_CFG.hold_n : Fld := ⟨7, 0, .rws, 1, 7, [(1, 255)], false⟩
def TZ_STATUS.tripped : Fld := ⟨31, 31, .w1c, 0, 23, [], false⟩
def TZ_STATUS.input : Fld := ⟨30, 30, .ro, 0, 23, [], false⟩
def TZ_STATUS.hold_left : Fld := ⟨23, 16, .ro, 0, 23, [], false⟩
def TZ_STATUS.src_hit : Fld := ⟨15, 8, .w1c, 0, 23, [], false⟩
def TZ_STATUS.flag : Fld := ⟨0, 0, .w1c, 0, 23, [], false⟩
def TZ_SRC.en : Fld := ⟨31, 31, .rws, 0, 7, [], false⟩
def TZ_SRC.bw_en : Fld := ⟨23, 23, .rws, 0, 7, [], false⟩
def TZ_SRC.bw : Fld := ⟨20, 16, .rws, 0, 7, [], false⟩
def TZ_SRC.src : Fld := ⟨8, 0, .rws, 0, 7, [(0, 319)], false⟩
def TZ_ACT.act : Fld := ⟨31, 0, .rws, 0, 7, [], false⟩
def TRIPIN_CFG.pol : Fld := ⟨31, 31, .rws, 0, 7, [], false⟩
def TRIPIN_CFG.lvl : Fld := ⟨8, 8, .ro, 0, 7, [], false⟩
def TRIPIN_CFG.dg : Fld := ⟨1, 0, .rws, 0, 7, [], false⟩
def TRIPOUT_MASK.zones : Fld := ⟨31, 0, .rws, 0, 7, [], false⟩
def TRIPOUT_CTRL.lvl : Fld := ⟨15, 8, .ro, 255, 7, [], false⟩
def TRIPOUT_CTRL.sw_assert : Fld := ⟨7, 0, .rw, 0, 7, [], false⟩
def SAFE_CFG.safe0 : Fld := ⟨1, 0, .rw, 0, 7, [(0, 2)], false⟩
def SAFE_CFG.safe1 : Fld := ⟨3, 2, .rw, 0, 7, [(0, 2)], false⟩
def SAFE_CFG.safe2 : Fld := ⟨5, 4, .rw, 0, 7, [(0, 2)], false⟩
def SAFE_CFG.safe3 : Fld := ⟨7, 6, .rw, 0, 7, [(0, 2)], false⟩
def SAFE_CFG.safe4 : Fld := ⟨9, 8, .rw, 0, 7, [(0, 2)], false⟩
def SAFE_CFG.safe5 : Fld := ⟨11, 10, .rw, 0, 7, [(0, 2)], false⟩
def SAFE_CFG.safe6 : Fld := ⟨13, 12, .rw, 0, 7, [(0, 2)], false⟩
def SAFE_CFG.safe7 : Fld := ⟨15, 14, .rw, 0, 7, [(0, 2)], false⟩
def SAFE_CFG.safe8 : Fld := ⟨17, 16, .rw, 0, 7, [(0, 2)], false⟩
def SAFE_CFG.safe9 : Fld := ⟨19, 18, .rw, 0, 7, [(0, 2)], false⟩
def SAFE_CFG.safe10 : Fld := ⟨21, 20, .rw, 0, 7, [(0, 2)], false⟩
def SAFE_CFG.safe11 : Fld := ⟨23, 22, .rw, 0, 7, [(0, 2)], false⟩
def SAFE_CFG.safe12 : Fld := ⟨25, 24, .rw, 0, 7, [(0, 2)], false⟩
def SAFE_CFG.safe13 : Fld := ⟨27, 26, .rw, 0, 7, [(0, 2)], false⟩
def SAFE_CFG.safe14 : Fld := ⟨29, 28, .rw, 0, 7, [(0, 2)], false⟩
def SAFE_CFG.safe15 : Fld := ⟨31, 30, .rw, 0, 7, [(0, 2)], false⟩
def SAFE_CTRL.hold : Fld := ⟨31, 31, .ro, 1, 7, [], false⟩
def SAFE_CTRL.dev_tripped : Fld := ⟨30, 30, .ro, 0, 3, [], false⟩
def SAFE_CTRL.safen : Fld := ⟨29, 29, .ro, 0, 7, [], false⟩
def SAFE_CTRL.safen_seen : Fld := ⟨28, 28, .w1c, 0, 7, [], false⟩
def SAFE_CTRL.rel_refused : Fld := ⟨27, 27, .w1c, 0, 7, [], false⟩
def SAFE_CTRL.esc_zone : Fld := ⟨20, 16, .ro, 0, 3, [], false⟩
def SAFE_CTRL.trip_clr : Fld := ⟨1, 1, .wo, 0, 0, [], false⟩
def SAFE_CTRL.release : Fld := ⟨0, 0, .wo, 0, 0, [], false⟩
def CAP_CFG.en : Fld := ⟨31, 31, .rw, 0, 7, [], false⟩
def CAP_CFG.irq_en : Fld := ⟨30, 30, .rw, 0, 7, [], false⟩
def CAP_LO.tb_lo : Fld := ⟨31, 0, .ro, 0, 23, [], false⟩
def CAP_HI.tb_hi : Fld := ⟨31, 0, .ro, 0, 23, [], false⟩
def CAP_STATUS.unread : Fld := ⟨31, 31, .ro, 0, 23, [], false⟩
def CAP_STATUS.cnt : Fld := ⟨23, 16, .ro, 0, 23, [], false⟩
def CAP_STATUS.ovr : Fld := ⟨0, 0, .w1c, 0, 23, [], false⟩
/-- The fields of TZ_CFG. -/
def fTZ_CFG : List Fld := [ TZ_CFG.en, TZ_CFG.mode, TZ_CFG.escalate, TZ_CFG.irq_en, TZ_CFG.ref_slice, TZ_CFG.hold_n]
/-- The fields of TZ_STATUS. -/
def fTZ_STATUS : List Fld := [ TZ_STATUS.tripped, TZ_STATUS.input, TZ_STATUS.hold_left, TZ_STATUS.src_hit, TZ_STATUS.flag]
/-- The fields of TZ_SRC. -/
def fTZ_SRC : List Fld := [ TZ_SRC.en, TZ_SRC.bw_en, TZ_SRC.bw, TZ_SRC.src]
/-- The fields of TZ_ACT. -/
def fTZ_ACT : List Fld := [ TZ_ACT.act]
/-- The fields of TRIPIN_CFG. -/
def fTRIPIN_CFG : List Fld := [ TRIPIN_CFG.pol, TRIPIN_CFG.lvl, TRIPIN_CFG.dg]
/-- The fields of TRIPOUT_MASK. -/
def fTRIPOUT_MASK : List Fld := [ TRIPOUT_MASK.zones]
/-- The fields of TRIPOUT_CTRL. -/
def fTRIPOUT_CTRL : List Fld := [ TRIPOUT_CTRL.lvl, TRIPOUT_CTRL.sw_assert]
/-- The fields of SAFE_CFG. -/
def fSAFE_CFG : List Fld := [ SAFE_CFG.safe0, SAFE_CFG.safe1, SAFE_CFG.safe2, SAFE_CFG.safe3, SAFE_CFG.safe4, SAFE_CFG.safe5, SAFE_CFG.safe6, SAFE_CFG.safe7, SAFE_CFG.safe8, SAFE_CFG.safe9, SAFE_CFG.safe10, SAFE_CFG.safe11, SAFE_CFG.safe12, SAFE_CFG.safe13, SAFE_CFG.safe14, SAFE_CFG.safe15]
/-- The fields of SAFE_CTRL. -/
def fSAFE_CTRL : List Fld := [ SAFE_CTRL.hold, SAFE_CTRL.dev_tripped, SAFE_CTRL.safen, SAFE_CTRL.safen_seen, SAFE_CTRL.rel_refused, SAFE_CTRL.esc_zone, SAFE_CTRL.trip_clr, SAFE_CTRL.release]
/-- The fields of CAP_CFG. -/
def fCAP_CFG : List Fld := [ CAP_CFG.en, CAP_CFG.irq_en]
/-- The fields of CAP_LO. -/
def fCAP_LO : List Fld := [ CAP_LO.tb_lo]
/-- The fields of CAP_HI. -/
def fCAP_HI : List Fld := [ CAP_HI.tb_hi]
/-- The fields of CAP_STATUS. -/
def fCAP_STATUS : List Fld := [ CAP_STATUS.unread, CAP_STATUS.cnt, CAP_STATUS.ovr]
def rowsTrip0 : List RegRow := [
  ⟨0x40200000, [(0x80, 32)], fTZ_CFG⟩,
  ⟨0x40200004, [(0x80, 32)], fTZ_STATUS⟩,
  ⟨0x40200020, [(0x80, 32), (0x4, 8)], fTZ_SRC⟩,
  ⟨0x40200040, [(0x80, 32), (0x4, 8)], fTZ_ACT⟩,
  ⟨0x40201000, [(0x4, 32)], fTRIPIN_CFG⟩,
  ⟨0x40201100, [(0x4, 8)], fTRIPOUT_MASK⟩,
  ⟨0x40201120, [], fTRIPOUT_CTRL⟩,
  ⟨0x40201200, [(0x4, 8)], fSAFE_CFG⟩,
  ⟨0x40201240, [], fSAFE_CTRL⟩,
  ⟨0x40202000, [(0x10, 32)], fCAP_CFG⟩,
  ⟨0x40202004, [(0x10, 32)], fCAP_LO⟩,
  ⟨0x40202008, [(0x10, 32)], fCAP_HI⟩]
def rowsTrip1 : List RegRow := [
  ⟨0x4020200C, [(0x10, 32)], fCAP_STATUS⟩]
/-- The registers of this block, in the order of the spec's tables. -/
def rowsTrip : List RegRow := rowsTrip0 ++ rowsTrip1

end Sys2Proof.Machine
end

