-- ==== Sys2Proof/Machine/RegTable.lean ====
section
/-!
DEFINITION. The whole register table, and what a register holds at reset.
-/

namespace Sys2Proof.Machine

/-- Every register row that can hold address `a`, by block (R26). -/
def rowsAt (a : Nat) : List RegRow :=
  if a < 0x22000000 then rowsClutch
  else if a < 0x40100000 then rowsTimebase
  else if a < 0x40200000 then rowsPwm
  else if a < 0x40300000 then rowsTrip
  else if a < 0x40400000 then rowsConv
  else if a < 0x40500000 then rowsFabric
  else if a < 0x40600000 then rowsRouter
  else if a < 0x40700000 then rowsCommit
  else if a < 0x40800000 then rowsDma
  else if a < 0x40900000 then rowsFieldring
  else if a < 0x40A00000 then rowsSwimlink
  else if a < 0x40B00000 then rowsStd
  else if a < 0x50000000 then rowsSysCtl
  else if a < 0x100000000 then rowsQueue
  else rowsSkink

/-- The row that lists the register at address `a`, if any does (R12). -/
def regRow (a : Nat) : Option RegRow := (rowsAt a).find? (fun r => r.hit a)

/-- What the register at address `a` holds at reset: its fields' reset values; 0 where no table lists `a`. -/
def resetWord (a : Nat) : Word :=
  match regRow a with
  | some r => r.resetWord
  | none => 0

end Sys2Proof.Machine
end

