-- ==== Sys2Proof/Machine/State.lean ====
section
/-!
DEFINITION. The state of the Cualm 9600, as plain data. Every address-mapped register is one word of `regs`, keyed by
its byte address; what the spec gives the machine beside its registers is in the structures below, chapter by chapter.
-/

namespace Sys2Proof.Machine

/-- No command stops the machine with a fault: an access the spec refuses gets the error response the spec gives it
(R12, R21, R554), which is a next state. Nobody raises this; an empty type is safe. -/
inductive Fault where
  deriving DecidableEq, Repr

/-- Why a command is refused. -/
inductive Refusal where
  /-- The command has no meaning in this model yet. Raised by `exec` alone; safe: nothing follows from it. -/
  | notModelled (mnemonic : String)
  deriving DecidableEq, Repr

/-- The response of the last access of a requester: an error (R12, R21, R554) or the value read. -/
structure Resp where
  err : Bool := false
  val : Word := 0
  deriving DecidableEq, Repr

/-! ### Timebase (chapter 02) -/

/-- Which intervals of R35 the AON oscillator is counting and whose cause bits are still to be set (R37), the TB value
up to which each marker's boundaries have been taken (R47), and the forward steps so far, each with the last TB value before it and
the value it reached (R48). -/
structure TimeSt where
  startup : Bool := true
  frost : Bool := false
  refclk : Bool := false
  sys : Bool := false
  markSeen : SMap Nat := []
  steps : List (Nat × Nat) := []
  deriving DecidableEq, Repr

/-! ### Conversion (chapter 03) -/

/-- What a converter holds of one conversion, latched at its trigger tick (R59). -/
structure Convn where
  seq : Nat
  mux : Nat
  lp : Bool
  ou : Nat
  gu : Nat
  feedEn : Bool
  eng : Nat
  word : Nat
  group : Nat
  sample : Nat
  deriving DecidableEq, Repr

/-- A direct-feed write that has not left the analog island yet (R73): the bound Newt, the operand-store word, the
result, the tick at which it can leave, and the sampling group of the trigger that gave it (R59, R71). -/
structure Feed where
  eng : Nat
  word : Nat
  val : Word
  ready : Nat
  group : Nat := 0
  deriving DecidableEq, Repr

/-- The last push into a converter's FIFO (R77): its tick, the word, and what the FIFO and fifo_ovf held before it. -/
structure Push where
  tick : Nat
  word : Word
  before : List Word
  ovf : Bool
  deriving DecidableEq, Repr

/-- A converter: FIFO of results (R75), runs beyond each limit (R78), pending feed write, the conversion under way,
whether it converts in low-power mode, the end of the 1 µs busy interval of R55, and its last push (R77). -/
structure Conv where
  fifo : List Word := []
  runHi : Nat := 0
  runLo : Nat := 0
  feed : Option Feed := none
  cur : Option Convn := none
  lpMode : Bool := false
  lpBusy : Option Nat := none
  push : Option Push := none
  deriving DecidableEq, Repr

/-- A trigger taken by a sampling group (R56 to R64): its tick, its sampling instant, its number, the members that take
a sample (with what each latched), whether the instant has passed, and the members whose result is still to come. -/
structure Trig where
  tick : Nat
  sample : Nat
  seq : Nat
  members : List (Nat × Convn)
  sampled : Bool
  waiting : List Nat
  deriving DecidableEq, Repr

/-- A sampling group: its last trigger, and the tick its busy interval ends (R61). -/
structure Group where
  trig : Option Trig := none
  busyUntil : Nat := 0
  deriving DecidableEq, Repr

/-- A sigma-delta input (R81 to R85): its pending feed write; the tick from which it takes the rising edges of its clock; the bits
it has sampled since its filters restarted, newest first, 766 at most; how many of them its data filter has; the modulator
clocks since that filter's last restart or result; is its first result since a restart still to come; does it owe the result of a
group sampling instant; the sampling instants whose restart its bits have not reached yet; the last bit it sampled and for how many
clocks, up to 64, that bit has stayed the same (R85). -/
structure Sdm where
  feed : Option Feed := none
  next : Nat := 0
  bits : List Bool := []
  n : Nat := 0
  cnt : Nat := 0
  first : Bool := true
  owed : Bool := false
  insts : List Nat := []
  lastBit : Option Bool := none
  same : Nat := 0
  deriving DecidableEq, Repr

structure ConvSt where
  conv : SMap Conv := []
  group : SMap Group := []
  sdm : SMap Sdm := []
  /-- The tick from which each clock SDCm runs with its present divider (R80). -/
  sdc : SMap Nat := []
  deriving DecidableEq, Repr

/-! ### Window monitors (chapter 04) -/

/-- A comparator (index 2·nn for WMnnH, 2·nn + 1 for WMnnL): its output level, the end of its 1 µs enable settling
(R92), while a blanking window hides it from its event stage the level it had when the window opened (R100), the tick of
its last change, and that tick again if its event stage has fired for the pulse that the change began (R94). -/
structure Comp where
  level : Bool := false
  settle : Option Nat := none
  opening : Option Bool := none
  since : Nat := 0
  fired : Option Nat := none
  deriving DecidableEq, Repr

/-- A blanking window: the tick it opened, while it is open, and the bounds of the interval it was open in before
(R98; a zone in another timing island sees it 2 ticks later, R99). -/
structure Window where
  openTick : Option Nat := none
  lastOpen : Nat := 0
  lastClose : Nat := 0
  /-- The tick of the last close compare event, and the tick an expiry set forced (R100). -/
  closeEv : Option Nat := none
  forcedAt : Option Nat := none
  deriving DecidableEq, Repr

structure MonSt where
  comp : SMap Comp := []
  win : SMap Window := []
  deriving DecidableEq, Repr

/-! ### Event fabric (chapter 05) -/

/-- An edge on its way to a consumer input: its source tick, its producer (2046 for a software edge, 2047 for a rising gate
level), and for a gate level the gate bits of FAB_SEL that it was formed under (R107, R110, R116). -/
structure Edge where
  input : Nat
  tick : Nat
  producer : Nat
  gate : Nat := 0
  deriving DecidableEq, Repr

/-- An activation its consumer has still to take: the input, the tick it is taken at (R115), its source tick, and the tick its edge
arrived in. -/
structure Act where
  input : Nat
  take : Nat
  src : Nat
  arr : Nat
  deriving DecidableEq, Repr

/-- The fabric: edges in flight, activations awaiting their consumer, the arrival tick of each input's last activation
(R111). -/
structure FabSt where
  edges : List Edge := []
  acts : List Act := []
  last : SMap (Option Nat) := []
  /-- Inputs whose consumer keeps them busy until it says otherwise (R106). -/
  held : List Nat := []
  /-- The tick of the last change of each GPIO ball that its producer fired for (R94, R457), and the GPIO output actions of the present
  AON cycle: ball and tick. -/
  gpioFired : SMap (Option Nat) := []
  gpioActs : List (Nat × Nat) := []
  /-- The firings of the last ticks, producer and tick, whose pulses can still reach an input (R114, R116). -/
  recent : List (Nat × Nat) := []
  deriving DecidableEq, Repr

/-! ### Engines (chapters 06 to 10) -/

/-- A call-stack entry (R217). -/
structure CallEntry where
  ret : Nat
  retRing : Nat
  owner : Nat
  gate : Bool
  deriving DecidableEq, Repr

/-- What an entry of a far-store buffer or of a handshake FIFO carries: a store to a byte address, a store through a bound window,
which names its commit group's register, an arm request for a commit group (R154, R233), a cache line that is written back (R167), what is left of a
frame that is spilled (R254); or, in a FIFO alone (R16), the feed write
of a converter or sigma-delta input for a trigger of a sampling group (R73), what the bundle in E of an engine asks of its target, a
DMA write (of a TD under ackwait, or not) or the DMA read of an index, an access that a command makes, a request that came on
Swimlink from a device under a tag, or a read that its requester has given up. -/
inductive StoreKind where
  | far | near (grpAt : Nat) | arm (g : Nat) | feed (sd : Bool) (k group : Nat)
  | line (ws : List Word) | frame (ws : List Word) | op | dma (wait : Bool) | dmaRead (i : Nat) | cmd (write : Bool) | remote (write : Bool) (src tag : Nat) | stale
  deriving DecidableEq, Repr

/-- An entry of a far-store buffer (R154): size 0 word, 1 halfword, 2 byte; the ring that issued it; is it a ROM-issued write
(R498)? -/
structure Store where
  kind : StoreKind
  addr : Nat
  data : Word
  size : Nat
  ring : Nat
  rom : Bool := false
  deriving DecidableEq, Repr

/-- An error response to a buffered store that its engine has still to record (R156). -/
structure StoreErr where
  addr : Nat
  data : Word
  size : Nat
  ring : Nat
  cause : Nat
  deriving DecidableEq, Repr

/-- The sticky flags that an operation raises (R205). -/
structure Raised where
  iv : Bool := false
  dz : Bool := false
  of : Bool := false
  uf : Bool := false
  ix : Bool := false
  deriving DecidableEq, Repr

/-- What EXC_INFO and EXC_ADDR are to record: the slot that faulted, and its address, where it has one. -/
structure Exc where
  slot : Option Nat := none
  addr : Option Nat := none
  raised : Option Raised := none
  deriving DecidableEq, Repr

/-- What a bundle in E waits for (R139, R241). `queue` carries the queue manager's answer, once there is one: a queue
fault, or the carry and the four words of the record. An engine may also wait for the words of a bundle that is not cached (`code`),
for the entry word of a vector that it enters: the vector, its iel and record, and the LIC input, if it is one; or for that of vector 15
in place of another (R255). -/
inductive Wait where
  | none
  | load
  | fill (icache : Bool) (line : Nat)
  | code
  | entry (v : Nat) (iel : Option Nat) (x : Exc) (lic : Option Nat)
  | spill (lost : Nat)
  | queue (ans : Option (Bool × Bool × List Word))
  | sleep
  | fence
  deriving DecidableEq, Repr

/-- The answer to what a bundle in E asked of a target in another island: nothing is asked, it is on its way, the words that came
back, or an error response at an address, of an uncorrectable word or not. -/
inductive Reply where
  | none
  | due
  | words (ws : List Word)
  | err (a : Nat) (ue : Bool)
  deriving DecidableEq, Repr

/-- A line of a Skink cache (R165): its address, its 16 words, whether it is dirty, and its way of the four of its set. -/
structure Line where
  addr : Nat
  words : List Word
  dirty : Bool
  way : Nat := 0
  deriving DecidableEq, Repr

/-- An engine: what it holds beside its control registers (R123, R217). `cur` holds the words of the bundle in E once it waits
or moves a block, `got` the words that its loads have returned, `seen` the near words that it read before it began to wait (R133, R137), `reply` the answer to what it asked of another island,
`resumePc` says that its block move is under way, and where its branch goes if it took one, `first` the vector of a handler whose first bundle has not completed (R253), `moder` the tick of the last entry of each LIC input's vector (R264), `acks` the
far writes not yet acknowledged (R157), of which `bankAcks` are to the engine's own banks (R151). Like the registers of R123, `pc` has no
reset value in the spec; 0 is a DESIGN CHOICE (log 2). -/
structure Engine where
  a : Word := 0
  e : Word := 0
  x : Word := 0
  y : Word := 0
  pc : Nat := 0
  ts : Word := 0
  td : Word := 0
  tc : Word := 0
  stack : List CallEntry := []
  rsv : Option Nat := none
  buf : List Store := []
  acks : Nat := 0
  bankAcks : Nat := 0
  errs : List StoreErr := []
  wait : Wait := .none
  cur : List Word := []
  got : List Word := []
  seen : List (Nat × Word) := []
  resumePc : Option (Option Nat) := none
  reply : Reply := .none
  first : Option Nat := none
  moder : SMap (Option Nat) := []
  /-- Pending asynchronous exceptions: vectors 13, 10 and 17 (R249). -/
  pend : List Nat := []
  /-- Is the engine halted by debug (R456)? -/
  dbg : Bool := false
  /-- Does the engine halt at its next bundle boundary (R162, R159, R516)? -/
  halting : Bool := false
  icache : List Line := []
  dcache : List Line := []
  /-- The recency bits of each set of the I-cache and of the D-cache (R165). -/
  ilru : SMap Nat := []
  dlru : SMap Nat := []
  /-- The operation on a cache that has still to write lines back, by the word written to CACHE_OP (R165). -/
  cop : Option Word := none
  /-- The words that are here of a line which comes through a Swimlink window (R167). -/
  part : List Word := []
  /-- The LIC inputs whose entry words, read since the last bundle, name a ring below the present one (R262). -/
  skip : List Nat := []
  deriving DecidableEq, Repr

/-- A reservation that a target holds (R224): its engine, its granule, its place in the order of arrival, and the tick
it was recorded in. -/
structure Rsv where
  eng : Nat
  granule : Nat
  ord : Nat
  tick : Nat
  deriving DecidableEq, Repr

/-- An engine that is senior on a granule (R349). -/
structure Senior where
  eng : Nat
  granule : Nat
  ord : Nat
  until_ : Nat
  deriving DecidableEq, Repr

/-- Reservations at their targets, the senior engines, and the number of the next arrival (R224, R349). -/
structure RsvSt where
  held : List Rsv := []
  senior : List Senior := []
  next : Nat := 0
  deriving DecidableEq, Repr

/-- A transfer in a handshake FIFO (R16): the store or read, the number of its requester (R323), and the commit group it carries. -/
structure Xfer where
  eng : Nat
  st : Store
  cg : Nat
  deriving DecidableEq, Repr

/-! ### PWM slices (chapter 11) -/

/-- An action taken on a source output (R285): output B?, its action tick, its place on the fine grid, its rank, its
code (1 clear, 2 set, 3 toggle), and the dead-time setting of its tick (R288). Code 4 is no action: the dead-time stage is turned off
from its tick on, and passes both outputs. -/
structure ActRec where
  outB : Bool
  tick : Int
  time : Int
  prio : Nat
  code : Nat
  dt : Nat
  red : Nat
  fed : Nat
  deriving DecidableEq, Repr

/-- One output past the dead-time stage: the level its decided edges left, and the edges (fine step, level) still to be
decided (R286). -/
structure Out where
  lvl : Bool := false
  pend : List (Int × Bool) := []
  deriving DecidableEq, Repr

/-- The action-qualifier outputs and the outputs of the dead-time stage of a slice. -/
structure Wave where
  srcA : Bool := false
  srcB : Bool := false
  outA : Out := {}
  outB : Out := {}
  deriving DecidableEq, Repr

/-- Who waits on a full backpressure queue (R356): an engine's QPUT, a DMA channel with a completion record, or a write to the
queue's port that arrived in a tick. -/
inductive Waiter where
  | eng (e : Nat)
  | dma (ch : Nat)
  | write (x : Xfer) (tick : Nat)
  deriving DecidableEq, Repr

/-- A write that has reached a slice and awaits its capture (R278): the tick it arrived in, the byte address, the
word, and the transfer that brought it and that its end is answered to. -/
structure SWrite where
  arrive : Nat
  addr : Nat
  val : Word
  xfer : Xfer
  deriving DecidableEq, Repr

/-- A PWM slice. `s` is the start S of the present period in fine steps (R277), `p` and `fp` the whole and fine part of
its period, `noFine` says that a new PER came to govern in it (R291), `downFrom` holds the tick and count from which a
down sweep counts when R291 moved it. `zeroPend` and `perPend` say that the zero or the period event of the present
period is still to fire; `acted` lists the actions of the present period already taken or skipped (0 to 3 CMPA to CMPD
up, 4 to 7 down, 8 to 15 ELA, 16 to 23 ELB); `passed` lists the passed ones with the tick they act in (R290).
The outputs are `wave` with the actions `acts` of the last ticks still to be taken into it (R285, R286). -/
structure Slice where
  counting : Bool := false
  armed : Bool := false
  started : Bool := false
  s : Int := 0
  p : Nat := 1000
  fp : Nat := 0
  noFine : Bool := false
  downFrom : Option (Int × Nat) := none
  zeroPend : Bool := false
  perPend : Bool := false
  acted : List Nat := []
  passed : List (Nat × Int) := []
  startAt : Option Int := none
  runPend : Option Nat := none
  blkLow : Bool := false
  shadow : SMap (Option Word) := []
  wave : Wave := {}
  acts : List ActRec := []
  hi : Word := 0
  /-- The tick of the last edge-list event (at most one per tick, R287). -/
  elTick : Option Int := none
  /-- The tick in which each flag of SL_STATUS last set, by bit (R8). -/
  flagTick : SMap (Option Int) := []
  writes : List SWrite := []
  deriving DecidableEq, Repr

structure PwmSt where
  slice : SMap Slice := []
  /-- The epoch E of each stagger group, in fine steps (R293, R294). -/
  epoch : SMap Nat := []
  /-- The last recalibration of the fine-delay tables (R298). -/
  recal : Nat := 0
  /-- Writes to STG_CFG and STG_PER that await their capture (R275, R278, R295). -/
  stg : List SWrite := []
  deriving DecidableEq, Repr

/-! ### Trip zones and capture (chapter 12) -/

/-- A trip zone: for each output, the action that last came to override it, and the tick in which it did, from which the override
holds for 2 ns (R307, R310). -/
structure Zone where
  acts : SMap (Option (Nat × Nat)) := []
  deriving DecidableEq, Repr

/-- What a capture channel held before a capture: the tick of that capture, the captured value, ovr (R319). -/
structure CapOld where
  tick : Nat
  lo : Word
  hi : Word
  ovr : Bool
  deriving DecidableEq, Repr

structure TripSt where
  zone : SMap Zone := []
  /-- Zero ticks of slices in other timing islands on their way to zones: the zone, and the tick it sees them in (R19, R304). -/
  zeros : List (Nat × Nat) := []
  /-- Fabric events that were lost to a slot because they arrived while it was blanked: the zone, the slot, the tick of arrival (R303). -/
  lost : List (Nat × Nat × Nat) := []
  /-- The tick from which an accepted release of the hold latch frees the balls (R314). -/
  relTick : Nat := 0
  /-- What each capture channel held before its last capture (R319). -/
  caps : SMap (Option CapOld) := []
  /-- Is the SAFEn ball low? -/
  safenLow : Bool := false
  deriving DecidableEq, Repr

/-! ### Commits and snapshots (chapter 13) -/

/-- A staged register word: the group it is staged in, the value of its staged fields (R325), and whether it belongs to
a shared commit whose staging has closed (R337). -/
structure Staged where
  grp : Nat
  val : Word
  closed : Bool := false
  deriving DecidableEq, Repr

/-- A commit message of a participant of a shared commit (R338). -/
structure CcMsg where
  dev : Nat
  t : Nat
  crc : Word
  ta : Nat
  ovf : Bool
  deriving DecidableEq, Repr

/-- An armed commit group: the tick of its arm request, its configuration at that tick, its target time and commit tick
once they are known, and for a shared group what was staged at ta and the messages held (R329 to R340). -/
structure Armed where
  ta : Nat
  shared : Bool
  trig : Nat
  slice : Nat
  target : Option Nat
  tc : Option Nat
  words : List (Nat × Word)
  pages : List Nat
  crc : Word
  ovf : Bool
  msgs : List CcMsg
  deriving DecidableEq, Repr

/-- A snapshot whose page is not written yet: its tick and its page's words (R343). -/
structure Snap where
  ts : Nat
  words : List Word
  deriving DecidableEq, Repr

structure CommitSt where
  staged : SMap (Option Staged) := []
  armed : SMap (Option Armed) := []
  /-- Arm requests under way to the controller. -/
  armReqs : List Nat := []
  /-- The commit group in force at each requester's island port (R324). -/
  port : SMap Nat := []
  /-- The groups whose next commit is refused for an overflow (R335). -/
  ovf : List Nat := []
  /-- Page words written after the staging of a shared group that flips their page had closed (R337). -/
  late : SMap (Option Word) := []
  /-- Staged words and pages whose clutch was relocking at their commit tick (R334). -/
  relockWords : List (Nat × Word) := []
  relockPages : List Nat := []
  /-- Pages whose staged copy is being refilled, with the words written since the flip (R328); keyed 64·c + p. -/
  refill : SMap (Option (List Nat)) := []
  snap : SMap (Option Snap) := []
  snapCnt : SMap Nat := []
  /-- Commit messages sent to the other participants (R338), oldest first: the group and the message. -/
  sent : List (Nat × CcMsg) := []
  /-- Messages that arrived before their group was armed here. -/
  early : List (Nat × CcMsg) := []
  deriving DecidableEq, Repr

/-! ### Queues and DMA (chapter 14) -/

/-- A put that waits. -/
structure QWait where
  queue : Nat
  who : Waiter
  words : List Word
  deriving DecidableEq, Repr

/-- The put buffer, get buffer and result word of a requester (R361), and through which queues' ports which of its put words have been
written since its last write of word 0 (R362). -/
structure PortBuf where
  put : List Word := [0, 0, 0]
  by_ : List (Nat × Nat) := []
  get_ : List Word := [0, 0, 0]
  res : Word := 0
  deriving DecidableEq, Repr

structure QmSt where
  waits : List QWait := []
  bufs : SMap PortBuf := []
  deriving DecidableEq, Repr

/-- What a DMA channel does (R365 to R380): nothing, fetch the TD it names, move words, or complete with a status. -/
inductive DmaPhase where
  | idle | fetch | run | finish (status : Nat) | waitq (status : Nat)
  deriving DecidableEq, Repr

/-- What the target of a DMA read in another island answered. -/
inductive DmaAns where
  | word (w : Word)
  | err
  | ue
  deriving DecidableEq, Repr

/-- A DMA channel: its phase, the words of its TD, how many indices have been granted, the first of the last burst, how many of their reads
have left the mover and how many have been taken, the answers of other islands by index, the words written; under ackwait the writes not yet acknowledged and the failing addresses (R375); the failing addresses of writes still
to be reported late (R376). -/
structure Dma where
  phase : DmaPhase := .idle
  td : List Word := []
  issued : Nat := 0
  burst : Nat := 0
  sent : Nat := 0
  answers : List (Nat × DmaAns) := []
  answered : Nat := 0
  written : Nat := 0
  werr : List Nat := []
  late : List Nat := []
  acks : Nat := 0
  deriving DecidableEq, Repr

structure DmaSt where
  ch : SMap Dma := []
  /-- The channel that the mover served last (R370). -/
  last : Nat := 63
  deriving DecidableEq, Repr

/-! ### Fieldring (chapter 15) -/

/-- A request that a port has sent and whose answer is still to be judged, or that awaits its retry (R393 to R405). `te` is
when the last bit of its EOF leaves. -/
structure FrReq where
  partner : Nat
  node : Nat
  cls : Nat
  seq : Nat
  tries : Nat
  rmax : Nat
  ctl : Bool
  payload : List Byte
  tag : Nat
  late : Bool
  te : Nat
  deriving DecidableEq, Repr

/-- A stretch of what a Fieldring port sends: from a character boundary on, at a running disparity, a frame with the bytes between its
SOF and EOF, if it has any, then IDLE sets (R383, R386, R389). -/
structure FrTx where
  from_ : Nat
  rd : Bool
  bytes : List Byte
  deriving DecidableEq, Repr

/-- A Fieldring port: lock, outstanding requests oldest first, requests that await a retry, when its line is free (R393),
the node it served last, the last poll of each node, an enumeration that waits or has left, and its schedule: from which
tick its cycles run, the present cycle, the entries already polled in it, those of earlier cycles that still wait for the line, with
their due times; the entries of an activation that are still to be sent, with
their due time (R412); and what it sends, the latest stretch last. -/
structure FrPort where
  lock : Bool := false
  outs : List FrReq := []
  retry : List FrReq := []
  free : Nat := 0
  lastNode : Nat := 0
  polled : SMap (Option Nat) := []
  enumWait : Bool := false
  enumLeft : Option Nat := none
  since : Nat := 0
  cycle : Option Nat := none
  done : List Nat := []
  behind : List (Nat × Nat) := []
  busyUntil : Nat := 0
  trig : List (Nat × Nat) := []
  sent : List FrTx := []
  deriving DecidableEq, Repr

structure FrSt where
  port : SMap FrPort := []
  /-- The next seq of each partner: keyed 2·partner for class 0, 2·partner + 1 for class 2 (R405). -/
  seq : SMap Nat := []
  deriving DecidableEq, Repr

/-! ### Swimlink (chapter 16) -/

/-- A packet (R422): type, and the fields of its header; `data` is its payload. -/
structure Pkt where
  type : Nat
  down : Bool
  dst : Nat
  src : Nat
  ring : Nat
  size : Nat
  tag : Nat
  addr : Nat
  data : List Byte
  deriving DecidableEq, Repr

/-- What a remote request of this device is made for: an access that has crossed into LNK, or a forwarded record. -/
inductive SwlWho where
  | access (x : Xfer)
  | qfwd (k : Nat)
  deriving DecidableEq, Repr

/-- A remote request without its response: its tag, its port, and when its packet left (none: it waits for a credit). -/
structure SwlOut where
  tag : Nat
  port : Nat
  left : Option Nat
  who : SwlWho
  deriving DecidableEq, Repr

/-- A Swimlink port: block lock of its lanes, the tick it became DOWN with en = 1, the sequence of the next packet to send, the replay
buffer (sequence, packet, times sent), credits (R423), packets that wait for credits, imports to fire (event, tick). -/
structure SwlPort where
  lock0 : Bool := false
  lock1 : Bool := false
  downAt : Nat := 0
  txSeq : Nat := 0
  replay : List (Nat × Pkt × Nat) := []
  reqCr : Nat := 32
  rspCr : Nat := 32
  waiting : List Pkt := []
  /-- The sequence of the next packet to arrive, and whether a nak has asked for it since the last that arrived in order (R423). -/
  rxSeq : Nat := 0
  nakDue : Bool := false
  /-- The blocks that the port handed to its lanes in tick `outAt`, in order (R416). -/
  out : List SwlBlk := []
  outAt : Nat := 0
  /-- The tick of the last valid block that a command brought (R419). -/
  blockAt : Nat := 0
  imports : List (Nat × Nat) := []
  /-- The tick since which a lane has had no block lock (R419). -/
  unlockAt : Option Nat := none
  deriving DecidableEq, Repr

/-- A planned handoff (R442): T, whether the partner has echoed it, when go was first sent or received. -/
structure Hand where
  t : Nat
  owner : Bool
  echoed : Bool := false
  goAt : Option Nat := none
  deriving DecidableEq, Repr

structure SwlSt where
  /-- The events of the latest block that each port sent or is to send: port, event, stamp (R119, R431). -/
  exportsSent : List (Nat × Nat × Nat) := []
  port : SMap SwlPort := []
  outs : List SwlOut := []
  nextTag : Nat := 0
  /-- Heartbeats: when the last was sent, their count, the tick of the last one from each device, and what the partner's
  last one said: own. -/
  hbSent : Nat := 0
  hbCount : Nat := 0
  hbFrom : SMap (Option Nat) := []
  partnerOwn : Bool := false
  /-- The heartbeats sent, latest only. -/
  hbOut : Option SwlHb := none
  hand : Option Hand := none
  /-- The offsets that the TSYNC exchanges towards joining have measured, in fine steps, newest first (R435), when the last exchange was,
  since when the device is in holdover, and the port it takes as parent instead of parent_port. -/
  offs : List Int := []
  exchAt : Nat := 0
  holdAt : Option Nat := none
  parent : Option Nat := none
  /-- The device taken as time master after a loss (R436), and the tick since which the present one is the master. -/
  master : Option Nat := none
  masterAt : Nat := 0
  /-- Is TBSYNC_IN lost? -/
  syncLost : Bool := false
  /-- The tick of the last change of the sensed OWNERn (R440), and of the setting that names the partner. -/
  pairAt : Nat := 0
  senseAt : Nat := 0
  /-- Since when no device of the pair has own = 1, as far as this device sees. -/
  noOwnAt : Option Nat := none
  /-- Records of forwarding entries: the tick in which one was sent whose result is still to come (true), or from which one that is kept
  is to be sent again (false) (R430). -/
  fwd : SMap (Option (Nat × Bool)) := []
  deriving DecidableEq, Repr

/-! ### Standard interfaces (chapter 17) -/

/-- A serial interface (R453): its FIFOs, the word being shifted (SPI, UART); for I2C the running transaction's command,
the bytes of a write still to send, the bytes of a read that wait for room, its PEC so far (R452), whether the bus is kept
for a repeated START, and, as a target, the direction of the transfer (true: this device sends); for SPI whether CSn is
asserted and whether it is released after the word in progress. -/
structure Serial where
  tx : List Word := []
  rx : List Word := []
  shift : Option Word := none
  cmd : Word := 0
  left : Nat := 0
  inb : Option (List Byte) := none
  crc : Byte := 0
  kept : Bool := false
  sends : Bool := false
  cs : Bool := false
  csEnd : Bool := false
  deriving DecidableEq, Repr

/-- A CAN FD controller: its receive buffer (R454, R458), and whether bus-off recovery has been started. -/
structure Can where
  rx : List (List Word) := []
  recover : Bool := false
  deriving DecidableEq, Repr

/-- The JTAG instructions of R443 and R455. -/
inductive JInst where
  | bypass | idcode | sample | extest | clamp | highz
  deriving DecidableEq, Repr

/-- The test access port: the instruction in force, and the boundary cells' update latches. -/
structure Jtag where
  inst : JInst := .idcode
  latch : List Bool := []
  deriving DecidableEq, Repr

/-- An xSPI command that runs (R449), as its go found it: XSPI_CCTL, the address, the protocol, the bytes of a command that writes; does it
wait for reads of the window that came before it (R450)? -/
structure Xspi where
  cmd : Word
  addr : Word
  proto : Nat
  data : List Byte
  after : Bool
  deriving DecidableEq, Repr

structure StdSt where
  /-- Keyed by I2C i, 12 + SPI s, 20 + UART u. -/
  serial : SMap Serial := []
  can : SMap Can := []
  jtag : Jtag := {}
  /-- The frame each MAC sent last, from its destination address to its FCS (R447), and the tick until which a PAUSE keeps it from sending
  (R443). -/
  sent : SMap (List Byte) := []
  pause : SMap Nat := []
  /-- The commits of PTP_OFS so far, latest first: the address of the word, the tick, what it held before (R447). -/
  ptp : List (Nat × Nat × Word) := []
  xspi : SMap (Option Xspi) := []
  /-- The reads of a window that found a command running, by port and island they came from (R450). -/
  xwait : List (Nat × Nat) := []
  /-- The marks in the trace: cross-trigger input and tick (R456). -/
  marks : List (Nat × Nat) := []
  deriving DecidableEq, Repr

/-! ### Non-volatile memory (chapter 19) -/

/-- A word write pulse in progress (R491, R492): the byte address, the word, and its start. -/
structure Pulse where
  addr : Nat
  data : Word
  start : Nat
  deriving DecidableEq, Repr

/-- Whether debug is locked (R499 to R501): as the last POR or SYS reset left it, unlocked with a scope, or locked again. -/
inductive Lock where
  | atReset
  | unlocked (scope : Nat)
  | again
  deriving DecidableEq, Repr

/-- NVM, OTP and security: the pulse in progress, the OTP programming in progress, whether the session counter has had its
increment since the last POR, and the number that the increment writes into its copies (R493), the debug lock, whether provisioned was programmed since the last reset, and how many
nonces have been drawn (R501). -/
structure NvmSt where
  pulse : Option Pulse := none
  otp : Option (Nat × Word) := none
  sessDone : Bool := false
  sess : Option Word := none
  lock : Lock := .atReset
  provLate : Bool := false
  nonces : Nat := 0
  deriving DecidableEq, Repr

/-! ### Availability (chapter 20) -/

/-- Where a regrow stands (R516): draining the failed Newt's far-store buffer, copying, or waiting for its commit. -/
inductive RgPhase where
  | drain | copy | commit
  deriving DecidableEq, Repr

/-- A regrow (R516 to R519): the failed Newt and its spare, both numbered in the clutch, its phase, its start, and whether
the failed Newt had run = 1, the bank that the spare takes, the commit group it waits for. -/
structure Regrow where
  k : Nat
  spare : Nat
  phase : RgPhase
  start : Nat
  ran : Bool
  bank : Bool := false
  grp : Nat := 0
  deriving DecidableEq, Repr

/-- A failure that waits for its regrow (R516, R519): the Newt, numbered in its clutch, the cause, the tick of the report and run as it
was then. -/
structure Failed where
  k : Nat
  cause : Nat
  tick : Nat
  ran : Bool
  deriving DecidableEq, Repr

/-- The regrow of a clutch, the failures that wait for it, and the Newt under self-test. -/
structure RgClu where
  cur : Option Regrow := none
  waiting : List Failed := []
  test : Option Nat := none
  deriving DecidableEq, Repr

/-- Regrows by clutch; the producer number that a spare's SIGEV fires instead of its own (R518); whether Tj has been above
warn_c and not yet 5 degrees below it. -/
structure AvailSt where
  clu : SMap RgClu := []
  sigev : SMap (Option Nat) := []
  hot : Bool := false
  deriving DecidableEq, Repr

/-! ### Reset and modes (chapter 18) -/

/-- The mode without the distinctions that R473 derives from it. -/
inductive Mode where
  | reset | bringup | safehold | run | lull | watch | frost | halt | tripped
  deriving DecidableEq, Repr

/-- An ISL reset in progress (R471): the island's code, whether it is past its idle wait, and the tick of its present
phase's start. -/
structure IslRst where
  isl : Nat
  held : Bool
  start : Nat
  deriving DecidableEq, Repr

/-- A BLK reset in progress (R472): kind, index, and the tick it ends. -/
structure BlkRst where
  kind : Nat
  index : Nat
  ends : Nat
  deriving DecidableEq, Repr

/-- Reset and release. `active` says that a POR or SYS reset is in progress, `por` which; `causes` lists the active
causes by code, `best` is the highest-ranked code of this reset (R460), `quiet` the tick since which no cause is active.
`step` counts the steps of R464 that have ended (1 AON, 2 trim load, 3 calibration load, 4 SYS, 5 to 8 TIM, 9 ANA,
10 LNK, 11 SUP0, 12 SUP1, 13 to 28 CLU) and `stepTick` is when the last one did. `wake` says that the release is a wake
from FROST (R481); `entry` is the tick FROST was accepted while its entry runs (R480). -/
structure RstSt where
  active : Bool := false
  por : Bool := true
  causes : List Nat := []
  best : Nat := 16
  quiet : Nat := 0
  step : Nat := 1
  stepTick : Nat := 0
  /-- Is the crystal the reference that the end of the last POR chose, not REFCLK, and has it no edges (R465, R538)? -/
  crystal : Bool := false
  refLost : Bool := false
  wake : Bool := false
  entry : Option Nat := none
  wakePend : Option (Nat × Nat) := none
  isl : Option IslRst := none
  blk : List BlkRst := []
  beforeHalt : Mode := .safehold
  haltTrip : Option Nat := none
  haltHold : Bool := false
  /-- The tick of the SYS release, from which RSTOUTn is timed (R463). -/
  sysTick : Nat := 0
  /-- Is VCORE, or VAON, below its brown-out threshold (R533)? -/
  vcoreLow : Bool := false
  vaonLow : Bool := false
  /-- The rails below their power-on thresholds (R530), and the VIO banks of them that are unpowered (R533, R534). -/
  powLow : List Rail := []
  dead : List (Fin 6) := []
  /-- The VIO banks that the end of the last POR found at 3.3 V, not 1.8 V: bit b for VIOb (R529); of those that may be at either, none
  in `State.reset`, where the spec names no board (DESIGN CHOICE, log 34). -/
  vio : BitVec 6 := 0x10
  /-- The memories being initialised (R467): clutch c as c, bank k of system SRAM as 16 + k. -/
  init : List Nat := []
  /-- The tick of the last mode request that was accepted (R477), the mode in which FROST was requested, and whether the entry to FROST has
  still to stop what it stops within 1 µs (R480). -/
  reqTick : Option Nat := none
  beforeFrost : Mode := .safehold
  stopDue : Bool := false
  /-- Is WATCH being left: do its clocks come back (R479)? -/
  leaving : Bool := false
  /-- watch_keep as WATCH was entered. -/
  kept : Nat := 0
  /-- The levels that outputs keep through FROST: bit j TRIPOUTj asserted, bit 8 FAULTn asserted (R312, R508). -/
  outKept : Nat := 0
  deriving DecidableEq, Repr

/-- What has happened in one tick: the tick, the W1C bits that hardware has set in it, the W1S bits that a write has set in it, as
address and mask (R8), the READY words whose producer has fired in it (R105), and the operand-store words that a feed has written in
it (R72). -/
structure Cycle where
  tick : Nat := 0
  hw : List (Nat × Nat) := []
  sw : List (Nat × Nat) := []
  rdy : List Nat := []
  fed : List Nat := []
  deriving DecidableEq, Repr

structure State where
  /-- The commands that are waiting, first in, first out. -/
  pending : List Instr := []
  /-- TB: the count of nanoseconds since the end of the last POR (R33). -/
  tb : Nat := 0
  /-- Every address-mapped register, keyed by byte address; an unlisted one holds its reset word. -/
  regs : SMap Word := []
  /-- Every byte of the device's memories; an unlisted one reads `initByte`. -/
  mem : SMap Byte := []
  /-- The last response each requester got. -/
  resp : SMap Resp := []
  /-- The shadow of the high word of each 64-bit counter, per requester (R41). -/
  shadows : SMap Word := []
  mode : Mode := .bringup
  time : TimeSt := {}
  cv : ConvSt := {}
  mon : MonSt := {}
  fab : FabSt := {}
  engs : SMap Engine := []
  rsv : RsvSt := {}
  /-- The handshake FIFOs, keyed 26·source + destination (R16, R17). -/
  fifos : SMap (List Xfer) := []
  /-- Router sources whose level the LICs sense as 1 (R269). -/
  routed : List Nat := []
  /-- Words that hold an uncorrectable error (R503), by byte address. -/
  ue : List Nat := []
  /-- Words that hold a correctable error (R24, R503), by byte address. -/
  ce : List Nat := []
  /-- The ring and the commit group that the access under way carries, where they are not the requester's present ones
  (R28, R324). -/
  carried : Option Xfer := none
  /-- The number of free values taken so far: the model's own field, not the spec's. -/
  fresh : Nat := 0
  pwm : PwmSt := {}
  trip : TripSt := {}
  cc : CommitSt := {}
  qm : QmSt := {}
  dma : DmaSt := {}
  fr : FrSt := {}
  swl : SwlSt := {}
  std : StdSt := {}
  nvm : NvmSt := {}
  av : AvailSt := {}
  rst : RstSt := {}
  /-- The functions whose trim record conflicts, by READY bit (32·word + bit), until the next POR or SYS reset (R466). -/
  trimConflicts : List Nat := []
  /-- What has happened in the present tick (R8, R72, R105). -/
  cyc : Cycle := {}
  /-- The factory trims applied (R484), keyed 256·kind + index. -/
  trims : SMap (List Word) := []
  deriving DecidableEq, Repr

/-- The machine right after reset: a POR has just ended, step 1 of the release order is done (R464), every register holds its
reset value, and READY word 22 shows the AON island released (R470). -/
def State.reset : State := { regs := [(0x40F00158, 1)], nvm := { nonces := 1 }, rst := { best := 1 } }

end Sys2Proof.Machine
end

