-- ==== Sys2Proof/Machine/Flags.lean ====
section
/-!
DEFINITION. Integer and fixed-point results and their flags (R193 to R199).
-/

namespace Sys2Proof.Machine

/-- What an A-slot operation gives: the registers and condition flags it writes (none: it leaves them), and the sticky flags
it raises. -/
structure ARes where
  a : Option Word := none
  e : Option Word := none
  z : Option Bool := none
  n : Option Bool := none
  c : Option Bool := none
  v : Option Bool := none
  raised : Raised := {}
  deriving DecidableEq, Repr

/-- A result in A, with z and n from it. -/
def aRes (r : Word) : ARes := { a := some r, z := some (r == 0), n := some r.msb }

/-- Does an exact value fall outside the signed 32-bit range? -/
def offRange (i : Int) : Bool := decide (i < -2147483648) || decide (2147483647 < i)

/-- The signed value of 32 bits nearest to `i`. -/
def sat32 (i : Int) : Word := BitVec.ofInt 32 (max (-2147483648) (min 2147483647 i))

def addRes (a b : Word) : ARes :=
  { aRes (a + b) with c := some (decide (2 ^ 32 ≤ a.toNat + b.toNat)), v := some (offRange (a.toInt + b.toInt)) }

def subRes (a b : Word) : ARes :=
  { aRes (a - b) with c := some (decide (a.toNat < b.toNat)), v := some (offRange (a.toInt - b.toInt)) }

/-- CMP: the flags of SUB, A unchanged. -/
def cmpRes (a b : Word) : ARes := { subRes a b with a := none }

/-- The shift counts of R194. -/
def shCount (b : Word) : Nat := b.toNat % 64

def shlRes (a b : Word) : ARes :=
  let s := shCount b
  { aRes (a <<< s) with c := if s = 0 then none else some (decide (s ≤ 32) && a.getLsbD (32 - s)) }

def shrRes (a b : Word) : ARes :=
  let s := shCount b
  { aRes (a >>> s) with c := if s = 0 then none else if s < 32 then some (a.getLsbD (s - 1)) else some (s == 32 && a.msb) }

def asrRes (a b : Word) : ARes :=
  let s := shCount b
  { aRes (a.sshiftRight s) with c := if s = 0 then none else some (if s < 32 then a.getLsbD (s - 1) else a.msb) }

/-- A 64-bit product in E:A. -/
def mulWords (p : Int) : Word × Word := (BitVec.ofInt 32 p, BitVec.ofInt 32 (p / 2 ^ 32))

def mulRes (a b : Word) : ARes :=
  let (lo, hi) := mulWords (a.toInt * b.toInt)
  { a := some lo, e := some hi, z := some (lo == 0 && hi == 0), n := some hi.msb,
    v := some (hi != (if lo.msb then BitVec.allOnes 32 else 0)) }

def muluRes (a b : Word) : ARes :=
  let (lo, hi) := mulWords (a.toNat * b.toNat)
  { a := some lo, e := some hi, z := some (lo == 0 && hi == 0), n := some hi.msb, v := some (hi != 0) }

/-- The nearest integer to s / 2^31, ties away from zero. -/
def roundAway (s : Int) : Int :=
  let m := ((s.natAbs + 2 ^ 30) / 2 ^ 31 : Nat)
  if s < 0 then -(m : Int) else m

/-- MAC (sub = false) and MACS (R198, R199). -/
def macRes (sub : Bool) (a b w : Word) : ARes :=
  let p := b.toInt * w.toInt
  let r := roundAway (if sub then a.toInt * 2 ^ 31 - p else a.toInt * 2 ^ 31 + p)
  { aRes (sat32 r) with v := some (offRange r) }

/-- Signed quotient and remainder with the edge cases of R197. -/
def divSigned (a b : Word) : Word × Word :=
  if b = 0 then (if a = 0 then 0 else if a.msb then 0x80000000 else 0x7FFFFFFF, a)
  else (BitVec.ofInt 32 (a.toInt.tdiv b.toInt), BitVec.ofInt 32 (a.toInt.tmod b.toInt))

/-- The flags of a division: A's z and n, v, and dz for a divisor of 0. -/
def divRes (first second : Word) (v dz : Bool) : ARes :=
  { aRes first with e := some second, v := some v, raised := { dz := dz } }

def divOvf (a b : Word) : Bool := a == 0x80000000 && b == 0xFFFFFFFF

def sdivRes (a b : Word) : ARes := divRes (divSigned a b).1 (divSigned a b).2 (divOvf a b) (b == 0)
def remRes (a b : Word) : ARes := divRes (divSigned a b).2 (divSigned a b).1 (divOvf a b) (b == 0)

def udivRes (a b : Word) : ARes :=
  if b = 0 then divRes (if a = 0 then 0 else BitVec.allOnes 32) a false true else divRes (a / b) (a % b) false false

def negRes (a : Word) : ARes := { aRes (0 - a) with v := some (a == 0x80000000) }
def absRes (a : Word) : ARes := { aRes (if a.msb then 0 - a else a) with v := some (a == 0x80000000) }

/-- SAT (R195). -/
def satRes (a imm : Word) : ARes :=
  let w := imm.toNat % 64
  let hi : Int := if imm.getLsbD 8 then (2 ^ w : Nat) - 1 else (2 ^ (w - 1) : Nat) - 1
  let lo : Int := if imm.getLsbD 8 then 0 else -((2 ^ (w - 1) : Nat) : Int)
  let r := BitVec.ofInt 32 (max lo (min hi a.toInt))
  { aRes r with v := some (r != a) }

/-- CLAMP: E is the lower bound, the operand the upper. -/
def clampRes (a e b : Word) : ARes :=
  let r := BitVec.ofInt 32 (min (max a.toInt e.toInt) b.toInt)
  { aRes r with c := some (decide (a.toInt < e.toInt)), v := some (r != a) }

end Sys2Proof.Machine
end

