-- ==== Sys2Proof/Machine/LineCode.lean ====
section
/-!
DEFINITION. Line codes: the 8b/10b code-groups that Fieldring sends (R383, R386). The spec names the code of IEEE 802.3 Clause 36 and
does not print its tables: PRESUMED (log 47).
-/

namespace Sys2Proof.Machine

/-- The 5b/6b codes of D.0 to D.31 for negative running disparity, bit a first. -/
def code6Low : List (BitVec 6) :=
  [0b100111, 0b011101, 0b101101, 0b110001, 0b110101, 0b101001, 0b011001, 0b111000, 0b111001, 0b100101, 0b010101, 0b110100, 0b001101,
   0b101100, 0b011100, 0b010111, 0b011011, 0b100011, 0b010011, 0b110010, 0b001011] ++
  [0b101010, 0b011010, 0b111010, 0b110011, 0b100110, 0b010110, 0b110110, 0b001110, 0b101110, 0b011110, 0b101011]

/-- The 3b/4b codes of D.x.0 to D.x.7 for negative running disparity, bit f first. -/
def code4Low : List (BitVec 4) := [0b1011, 0b1001, 0b0101, 0b1100, 0b1101, 0b1010, 0b0110, 0b1110]

/-- How many ones a code has. -/
def ones {n : Nat} (w : BitVec n) : Nat := (List.range n).foldl (fun k i => k + (w.getLsbD i).toNat) 0

/-- A code of a table at running disparity `rd` (true: positive): an unbalanced one, and the two balanced ones that would make runs, are
complemented at positive disparity. -/
def atDisparity {n : Nat} (w : BitVec n) (rd alt : Bool) : BitVec n := if rd && (2 * ones w != n || alt) then ~~~w else w

/-- The running disparity after a code. -/
def afterCode {n : Nat} (w : BitVec n) (rd : Bool) : Bool := if 2 * ones w = n then rd else decide (n < 2 * ones w)

/-- A character: a data byte, or one of the K code-groups. -/
inductive LineChar where
  | data (b : Byte)
  | k28_1 | k28_3 | k28_5 | k29_7 | k30_7
  deriving DecidableEq, Repr

/-- The code-group of a data byte at running disparity `rd`. -/
def dataCode (b : Byte) (rd : Bool) : BitVec 10 :=
  let x := b.toNat % 32
  let y := b.toNat / 32
  let c := atDisparity (code6Low.getD x 0) rd (x == 7)
  let r := afterCode c rd
  let alt7 := y == 7 && if r then x == 11 || x == 13 || x == 14 else x == 17 || x == 18 || x == 20
  c ++ (if alt7 then atDisparity (0b0111 : BitVec 4) r false else atDisparity (code4Low.getD y 0) r (y == 3))

/-- The code-group of a character at running disparity `rd`, its first bit leftmost. -/
def LineChar.code (c : LineChar) (rd : Bool) : BitVec 10 :=
  let k (w : BitVec 10) : BitVec 10 := if rd then ~~~w else w
  match c with
  | .data b => dataCode b rd
  | .k28_1 => k 0b0011111001
  | .k28_3 => k 0b0011110011
  | .k28_5 => k 0b0011111010
  | .k29_7 => k 0b1011101000
  | .k30_7 => k 0b0111101000

/-- The running disparity after a character. -/
def LineChar.next (c : LineChar) (rd : Bool) : Bool :=
  let w := c.code rd
  if 2 * ones w = 10 then rd else decide (10 < 2 * ones w)

end Sys2Proof.Machine
end

