-- ==== Sys2Proof/Machine/Crc.lean ====
section
/-!
DEFINITION. CRC-32 with the IEEE 802.3 polynomial, initial value and final inversion (R338), and byte strings of words.
-/

namespace Sys2Proof.Machine

/-- One bit of the reflected CRC-32. -/
def crcBit (w : Word) : Word := if w.getLsbD 0 then (w >>> 1) ^^^ 0xEDB88320#32 else w >>> 1

/-- One byte of it. -/
def crcByte (w : Word) (b : Byte) : Word :=
  crcBit (crcBit (crcBit (crcBit (crcBit (crcBit (crcBit (crcBit (w ^^^ b.setWidth 32))))))))

/-- CRC-32 of a byte string. -/
def crc32 (bs : List Byte) : Word := ~~~(bs.foldl crcByte 0xFFFFFFFF#32)

/-- The low `n` bytes of a number, least significant first. -/
def leBytes (n v : Nat) : List Byte := (List.range n).map (fun i => BitVec.ofNat 8 (v / 2 ^ (8 * i)))

/-- The four bytes of a word, least significant first. -/
def wordBytes (w : Word) : List Byte := leBytes 4 w.toNat

/-- The number that bytes spell, least significant first. -/
def leNat : List Byte → Nat
  | [] => 0
  | b :: bs => b.toNat + 256 * leNat bs

end Sys2Proof.Machine
end

