-- ==== Sys2Proof/Machine/Ops.lean ====
section
/-!
DEFINITION. The named operations over registers, memory, time, responses and the firing of producers, on which every
meaning is built.
-/

namespace Sys2Proof.Machine

/-! ### Registers -/

/-- The word of the register at address `a`. -/
def State.reg (s : State) (a : Nat) : Word := sget (resetWord a) s.regs a

/-- Replace the word of the register at address `a`. -/
def State.setReg (s : State) (a : Nat) (w : Word) : State := { s with regs := sput (resetWord a) a w s.regs }

/-- A field of the register at address `a`, as a number. -/
def State.get (s : State) (a : Nat) (f : Fld) : Nat := getBits (s.reg a) f

/-- Is a one-bit field 1? -/
def State.on (s : State) (a : Nat) (f : Fld) : Bool := s.get a f != 0

/-- The bits of the word at `a` that a list of masks names. -/
def maskAt (l : List (Nat × Nat)) (a : Nat) : Word :=
  l.foldl (fun w x => if x.1 = a then w ||| BitVec.ofNat 32 x.2 else w) 0

/-- The record of tick `t`: that of an earlier tick is over. -/
def Cycle.at (c : Cycle) (t : Nat) : Cycle := if c.tick = t then c else { tick := t }

/-- Hardware sets the W1C bits `m` of the word at `a` in tick `t`. -/
def Cycle.setHw (c : Cycle) (t a m : Nat) : Cycle := { c.at t with hw := (a, m) :: (c.at t).hw }

/-- A write sets the W1S bits `m` of the word at `a` in tick `t`. -/
def Cycle.setSw (c : Cycle) (t a m : Nat) : Cycle := { c.at t with sw := (a, m) :: (c.at t).sw }

/-- The producer of READY word `w` fires in tick `t` (R105). -/
def Cycle.setRdy (c : Cycle) (t w : Nat) : Cycle := { c.at t with rdy := w :: (c.at t).rdy }

/-- A feed writes the operand-store word at byte address `a` in tick `t` (R72). -/
def Cycle.setFed (c : Cycle) (t a : Nat) : Cycle := { c.at t with fed := a :: (c.at t).fed }

/-- The W1C bits of the word at `a` that hardware has set in the present tick: a write does not clear them (R8). -/
def State.hwNow (s : State) (a : Nat) : Word := maskAt (s.cyc.at s.tb).hw a

/-- The W1S bits of the word at `a` that a write has set in the present tick: hardware does not clear them (R8). -/
def State.swNow (s : State) (a : Nat) : Word := maskAt (s.cyc.at s.tb).sw a

/-- Replace a field of the register at address `a`, as hardware does: a W1C bit that it sets is noted (R8). -/
def State.set (s : State) (a : Nat) (f : Fld) (v : Nat) : State :=
  { s.setReg a (putBits (s.reg a) f v) with
    cyc := if f.acc = .w1c ∧ v % 2 ^ f.width ≠ 0 then s.cyc.setHw s.tb a (v % 2 ^ f.width * 2 ^ f.lo) else s.cyc }

/-- Set a one-bit field to a Boolean. -/
def State.setB (s : State) (a : Nat) (f : Fld) (b : Bool) : State := s.set a f b.toNat

/-- Set a one-bit field if the condition holds. -/
def State.flagIf (s : State) (c : Bool) (a : Nat) (f : Fld) : State := if c then s.set a f 1 else s

/-- One bit of the register at address `a`. -/
def State.bit (s : State) (a i : Nat) : Bool := (s.reg a).getLsbD i

/-- The word with bit `i` set to `b`. -/
def putBit (w : Word) (i : Nat) (b : Bool) : Word :=
  if b then w ||| (BitVec.ofNat 32 1 <<< i) else w &&& ~~~(BitVec.ofNat 32 1 <<< i)

/-- Set one bit of the register at address `a`. -/
def State.setBit (s : State) (a i : Nat) (b : Bool) : State := s.setReg a (putBit (s.reg a) i b)

/-- Hardware clears bit `i` of a word of W1S bits: one that a write has set in this tick stays 1 (R8). -/
def State.lowerBit (s : State) (a i : Nat) : State := if (s.swNow a).getLsbD i then s else s.setBit a i false

/-- Hardware sets bit `i` of a word of W1C bits (R8). -/
def State.raiseBit (s : State) (a i : Nat) : State := { s.setBit a i true with cyc := s.cyc.setHw s.tb a (2 ^ i) }

/-- Hardware sets the bits `m` of a field of W1C bits (R8). -/
def State.raiseBits (s : State) (a : Nat) (f : Fld) (m : Nat) : State :=
  { s.setReg a (putBits (s.reg a) f (s.get a f ||| m)) with cyc := if m = 0 then s.cyc else s.cyc.setHw s.tb a (m * 2 ^ f.lo) }

/-- Advance a field by one, holding at its largest value. -/
def State.incSat (s : State) (a : Nat) (f : Fld) : State := s.set a f (min (s.get a f + 1) (2 ^ f.width - 1))

/-- Advance a field by one, wrapping in its width. -/
def State.incWrap (s : State) (a : Nat) (f : Fld) : State := s.set a f ((s.get a f + 1) % 2 ^ f.width)

/-- A field of `w` bits read as a two's complement number. -/
def signed (w v : Nat) : Int := if v < 2 ^ (w - 1) then (v : Int) else (v : Int) - (2 ^ w : Nat)

/-! ### Islands (R14), by their code of READY word 22 (R470) -/

def islAON : Nat := 0
def islSYS : Nat := 1
def islTIM (i : Nat) : Nat := 2 + i
def islANA : Nat := 6
def islLNK : Nat := 7
def islSUP (p : Nat) : Nat := 8 + p
def islCLU (c : Nat) : Nat := 10 + c

/-- Is island `i` released and not dark (R21, R470)? -/
def State.alive (s : State) (i : Nat) : Bool := s.bit (aREADY 22) i

/-- Does island `i` take new transfers: released, not dark, and no reset of it in progress (R21, R471)? -/
def State.reach (s : State) (i : Nat) : Bool :=
  s.alive i && !(match s.rst.isl with
    | some x => x.isl == i
    | none => false)

/-- The island an engine lives in. -/
def engIsl (e : Nat) : Nat := if e < 256 then islCLU (e / 16) else islSUP (e - 256)

/-- A READY bit (R469). -/
def State.isReady (s : State) (w b : Nat) : Bool := s.bit (aREADY w) b

/-! ### Memory: bytes, little-endian (R128) -/

/-- What an unlisted byte of memory reads as: what the maker put into ROM, OTP and NVM; 0 elsewhere (R467). -/
def initByte (a : Nat) : Byte := if a < 0x10000000 then Config.factoryByte a else 0

def State.byte (s : State) (a : Nat) : Byte := sget (initByte a) s.mem a

def State.putByte (s : State) (a : Nat) (b : Byte) : State := { s with mem := sput (initByte a) a b s.mem }

/-- The word at a byte address. -/
def State.word (s : State) (a : Nat) : Word := s.byte (a + 3) ++ s.byte (a + 2) ++ s.byte (a + 1) ++ s.byte a

/-- Byte `i` of a word. -/
def byteOf (w : Word) (i : Nat) : Byte := (w >>> (8 * i)).setWidth 8

/-- Store the low `n` bytes of a word at a byte address. -/
def State.putBytes (s : State) (a : Nat) (w : Word) : Nat → State
  | 0 => s
  | n + 1 => (s.putBytes a w n).putByte (a + n) (byteOf w n)

/-- Store a word at a byte address. -/
def State.putWord (s : State) (a : Nat) (w : Word) : State := s.putBytes a w 4

/-- The reservations on the granule of byte address `a` end. -/
def State.dropRsv (s : State) (a : Nat) : State :=
  { s with rsv := { s.rsv with held := s.rsv.held.filter (fun r => r.granule != a / 8) } }

/-- Of the words that hold an error, those of the addresses that satisfy `p` keep it. -/
def State.keepErrs (s : State) (p : Nat → Bool) : State := { s with ue := s.ue.filter p, ce := s.ce.filter p }

/-- A write of the low `n` bytes of `w` to memory at `a` by a requester; a word written whole holds good data (R132). -/
def State.memWrite (s : State) (a n : Nat) (w : Word) : State :=
  let t := if n = 4 then s.keepErrs (fun x => x != a) else s
  (t.dropRsv a).putBytes a w n

/-- Words written to memory one after another by a requester. -/
def State.memWords (s : State) (a : Nat) : List Word → State
  | [] => s
  | w :: ws => (s.memWrite a 4 w).memWords (a + 4) ws

/-- Every byte of an address range at 0 (R467). -/
def State.clearMem (s : State) (a n : Nat) : State :=
  { s with mem := s.mem.filter (fun x => !(decide (a ≤ x.1) && decide (x.1 < a + n))) }

/-- The canonical form of memory. -/
abbrev Memory.wf (m : List Host.Cell) : Prop := swf initByte m = true

/-! ### Requesters and responses -/

/-- The requester's number (R323). -/
def reqNum : Req → Nat
  | .newt n => n
  | .skink p => 256 + p
  | .dma ch => 258 + ch
  | .debug => 322
  | .swl l _ => 323 + l

/-- The requester that is engine `e`. -/
def engReq (e : Eng) : Req := if h : e.val < 256 then .newt ⟨e.val, h⟩ else .skink ⟨(e.val - 256) % 2, by omega⟩

/-- The requester of a number, for an access that carries ring `r`. -/
def reqAt (n r : Nat) : Req :=
  if n < 256 then .newt (Fin.ofNat 256 n) else if n < 258 then .skink (Fin.ofNat 2 (n - 256))
  else if n < 322 then .dma (Fin.ofNat 64 (n - 258)) else if n = 322 then .debug
  else .swl (Fin.ofNat 8 (n - 323)) (Fin.ofNat 4 r)

/-- How an access ends: with a value or an acknowledgement, with an error response, or not yet. -/
inductive Acc.Res where
  | ok (w : Word)
  | err
  | held
  deriving DecidableEq, Repr

/-- The ring an access carries (R28, R364): the current ring of an engine, DMA_CFG.ring, 0 for debug, the effective
ring for a request that arrived on Swimlink. -/
def State.ringOf (s : State) (q : Req) : Nat := match s.carried with
  | some x => x.st.ring
  | none => match q with
    | .newt n => s.get (aENG_S n) ENG_S.ring
    | .skink p => s.get (aENG_S (256 + p)) ENG_S.ring
    | .dma ch => s.get (aDMA_CFG ch) DMA_CFG.ring
    | .debug => 0
    | .swl _ r => r

/-- The device that is the time master: the one SWL_TM names, or the one taken after its loss (R436). -/
def State.timeMaster (s : State) : Nat := s.swl.master.getD (s.get aSWL_TM SWL_TM.master)

/-- Does this device share the tandem's timebase: it has joined, or is the time master (R434, R435)? -/
def State.inTandem (s : State) : Bool :=
  s.on aSWL_TMSTAT SWL_TMSTAT.joined || (s.on aSWL_TM SWL_TM.tm_en && s.timeMaster == s.get aSWL_DEV SWL_DEV.devaddr)

/-- Record the response of an access of requester `q`. -/
def State.reply (s : State) (q : Req) (err : Bool) (v : Word) : State :=
  { s with resp := sput {} (reqNum q) { err := err, val := v } s.resp }

/-- An access error (R12, R21, R554). -/
def State.refuse (s : State) (q : Req) : State := s.reply q true 0

/-- The response of an access that a command makes. -/
def State.respond (s : State) (q : Req) (r : Acc.Res) : State :=
  match r with
  | .ok w => s.reply q false w
  | .err => s.refuse q
  | .held => s

/-! ### Debug lock (R499, R500) -/

/-- Is the OTP provisioned: the majority of its three bits (R494)? -/
def State.provisioned (s : State) : Bool :=
  let b := s.byte 0x0F00C000
  (b.getLsbD 0 && b.getLsbD 1) || (b.getLsbD 0 && b.getLsbD 2) || (b.getLsbD 1 && b.getLsbD 2)

/-- Is debug locked (R499 to R501)? -/
def State.dbgLocked (s : State) : Bool := match s.nvm.lock with
  | .atReset => s.provisioned && !s.nvm.provLate
  | .unlocked _ => false
  | .again => s.provisioned

/-- Does the lock leave scope bit `b` open: 0 debug access and HALT, 1 EXTEST, CLAMP and HIGHZ (R500)? A scope narrows what a lock has
closed, and a device that is not provisioned is never locked (R499). -/
def State.dbgOpen (s : State) (b : Nat) : Bool := match s.nvm.lock with
  | .unlocked scope => scope / 2 ^ b % 2 == 1 || !(s.provisioned && !s.nvm.provLate)
  | _ => !s.dbgLocked

/-- Does island `isl` take an access of requester `q`? Locked debug makes none (R455, R499); an access that was under way as a reset of the
island was asked for completes (R471). -/
def State.admits (s : State) (q : Req) (isl : Nat) : Bool :=
  (s.reach isl || (s.carried.isSome && s.alive isl)) && (q != .debug || s.dbgOpen 0)

/-- A write that reaches a register of island `isl`: an error response when the island is in reset, unreleased or dark
(R21) or when the requester's ring is above `maxRing`; otherwise `eff`, acknowledged. -/
def State.write (s : State) (q : Req) (isl maxRing : Nat) (eff : State → State) : State :=
  if s.admits q isl && decide (s.ringOf q ≤ maxRing) then (eff s).reply q false 0 else s.refuse q

/-- A read of a register of island `isl`, with the value and what the read changes. -/
def State.read (s : State) (q : Req) (isl maxRing : Nat) (val : State → Word) (eff : State → State) : State :=
  if s.admits q isl && decide (s.ringOf q ≤ maxRing) then (eff s).reply q false (val s) else s.refuse q

/-- The key of requester `q`'s shadow of the counter whose high word is at address `a` (R41). -/
def shadowKey (a : Nat) (q : Req) : Nat := a * 1024 + reqNum q

/-- Latch a high word into the requester's shadow (R40). -/
def State.latch (s : State) (a : Nat) (q : Req) (w : Word) : State :=
  { s with shadows := sput 0 (shadowKey a q) w s.shadows }

/-- The requester's shadow, 0 if none has been latched (R41). -/
def State.shadow (s : State) (a : Nat) (q : Req) : Word := sget 0 s.shadows (shadowKey a q)

/-! ### Time -/

/-- TB as software reads it: 64 bits. -/
def State.tbLo (s : State) : Word := BitVec.ofNat 32 s.tb
def State.tbHi (s : State) : Word := BitVec.ofNat 32 (s.tb / 2 ^ 32)

/-- Does TB count 1 ns ticks (R35)? -/
def State.locked (s : State) : Bool := s.on aTB_STATUS TB_STATUS.pll_locked

/-- The number two 32-bit registers hold. -/
def State.get64 (s : State) (lo hi : Nat) : Nat := (s.reg lo).toNat + (s.reg hi).toNat * 2 ^ 32

def State.put64 (s : State) (lo hi v : Nat) : State :=
  (s.setReg lo (BitVec.ofNat 32 v)).setReg hi (BitVec.ofNat 32 (v / 2 ^ 32))

/-! ### Firing (chapter 05) -/

/-- Can producer `p` fire in FROST (R121)? Window-monitor event stages, TRIPIN, GPIO and timebase markers. -/
def frostProducer (p : Nat) : Bool :=
  (512 ≤ p && p < 704) || (832 ≤ p && p < 864) || (896 ≤ p && p < 928) || (2032 ≤ p && p < 2046)

/-- The consumer input whose FAB_SEL is at address `a`, if `a` is one. -/
def fabSelInput (a : Nat) : Option Nat :=
  if 0x40400000 ≤ a && a < 0x40406000 && (a - 0x40400000) % 8 == 0 then some ((a - 0x40400000) / 8) else none

/-- The inputs that select producer `p`: an unlisted FAB_SEL selects constant 0 (its reset value). -/
def State.selecting (s : State) (p : Nat) : List Nat :=
  s.regs.filterMap (fun x => match fabSelInput x.1 with
    | some i => if getBits x.2 FAB_SEL.prod_sel = p then some i else none
    | none => none)

/-- Producer `p` fires at tick `t`: one pulse towards every input that selects it (R103). -/
def State.fireAt (s : State) (p t : Nat) : State :=
  if p < 2046 && (s.mode != .frost || frostProducer p) then
    { s with fab := { s.fab with
        edges := s.fab.edges ++ (s.selecting p).map (fun i => { input := i, tick := t, producer := p })
        recent := s.fab.recent.filter (fun x => decide (s.tb < x.2 + 3)) ++ [(p, t)] } }
  else s

/-- Producer `p` fires now. -/
def State.fire (s : State) (p : Nat) : State := s.fireAt p s.tb

/-- Fire if the condition holds. -/
def State.fireIf (s : State) (c : Bool) (p : Nat) : State := if c then s.fire p else s

/-- Set a READY bit: a change of a word sets ready_chg and fires its producer, once in a tick (R105, R470). -/
def State.setReady (s : State) (w b : Nat) (v : Bool) : State :=
  if s.isReady w b = v then s
  else
    let t := (s.setBit (aREADY w) b v).set aMODE MODE.ready_chg 1
    if (s.cyc.at s.tb).rdy.contains w then t else { t with cyc := t.cyc.setRdy t.tb w }.fire (1826 + w)

/-! ### Engines -/

def State.eng (s : State) (e : Nat) : Engine := sget {} s.engs e
def State.setEng (s : State) (e : Nat) (x : Engine) : State := { s with engs := sput {} e x s.engs }

/-- Does an entry wait for an answer that its requester may give up? -/
def StoreKind.asks : StoreKind → Bool
  | .op | .dmaRead _ => true
  | _ => false

/-- What requester `r` asked of other islands and devices is given up: it will be answered to nobody. -/
def State.giveUp (s : State) (r : Nat) : State :=
  { s with
    fifos := s.fifos.map (fun f => (f.1, f.2.map (fun x =>
      if x.eng = r ∧ x.st.kind.asks then { x with st := { x.st with kind := .stale } } else x)))
    swl := { s.swl with outs := s.swl.outs.map (fun o => match o.who with
      | .access x => if x.eng = r ∧ x.st.kind.asks then { o with who := .access { x with st := { x.st with kind := .stale } } } else o
      | _ => o) } }

/-- Make an asynchronous exception pending for engine `e` (R249). -/
def State.pendVec (s : State) (e v : Nat) : State :=
  let x := s.eng e
  if x.pend.contains v then s else s.setEng e { x with pend := x.pend ++ [v] }

/-! ### Elements of the tables of blocks -/

/-- The handshake FIFO from island `src` to island `dst` (R16). -/
def State.fifo (s : State) (src dst : Nat) : List Xfer := sget [] s.fifos (26 * src + dst)
def State.setFifo (s : State) (src dst : Nat) (l : List Xfer) : State := { s with fifos := sput [] (26 * src + dst) l s.fifos }

/-- Is TB value `t` one that a forward step passed, and where did that step end (R48)? The value that the step ends at is taken as
passed too: the rule does not say so (DESIGN CHOICE, log 50). -/
def State.passed (s : State) (t : Nat) : Option Nat :=
  (s.time.steps.find? (fun x => decide (x.1 < t) && decide (t ≤ x.2))).map (·.2)

/-- The tick in which an action scheduled at TB value `t` takes place: the first tick after a forward step that passed it (R48). -/
def State.dueTick (s : State) (t : Nat) : Nat := ((s.passed t).map (· + 1)).getD t


def State.conv (s : State) (k : Nat) : Conv := sget {} s.cv.conv k
def State.setConv (s : State) (k : Nat) (c : Conv) : State := { s with cv := { s.cv with conv := sput {} k c s.cv.conv } }
def State.group (s : State) (g : Nat) : Group := sget {} s.cv.group g
def State.setGroup (s : State) (g : Nat) (x : Group) : State :=
  { s with cv := { s.cv with group := sput {} g x s.cv.group } }
def State.sdm (s : State) (k : Nat) : Sdm := sget {} s.cv.sdm k
def State.setSdm (s : State) (k : Nat) (x : Sdm) : State := { s with cv := { s.cv with sdm := sput {} k x s.cv.sdm } }
def State.comp (s : State) (i : Nat) : Comp := sget {} s.mon.comp i
def State.setComp (s : State) (i : Nat) (x : Comp) : State :=
  { s with mon := { s.mon with comp := sput {} i x s.mon.comp } }
def State.win (s : State) (w : Nat) : Window := sget {} s.mon.win w
def State.setWin (s : State) (w : Nat) (x : Window) : State :=
  { s with mon := { s.mon with win := sput {} w x s.mon.win } }
def State.slice (s : State) (n : Nat) : Slice := sget {} s.pwm.slice n
def State.setSlice (s : State) (n : Nat) (x : Slice) : State :=
  { s with pwm := { s.pwm with slice := sput {} n x s.pwm.slice } }
def State.zone (s : State) (z : Nat) : Zone := sget {} s.trip.zone z
def State.setZone (s : State) (z : Nat) (x : Zone) : State :=
  { s with trip := { s.trip with zone := sput {} z x s.trip.zone } }
def State.frPort (s : State) (p : Nat) : FrPort := sget {} s.fr.port p
def State.setFrPort (s : State) (p : Nat) (x : FrPort) : State :=
  { s with fr := { s.fr with port := sput {} p x s.fr.port } }
def State.swlPort (s : State) (l : Nat) : SwlPort := sget {} s.swl.port l
def State.setSwlPort (s : State) (l : Nat) (x : SwlPort) : State :=
  { s with swl := { s.swl with port := sput {} l x s.swl.port } }
def State.serial (s : State) (k : Nat) : Serial := sget {} s.std.serial k
def State.setSerial (s : State) (k : Nat) (x : Serial) : State :=
  { s with std := { s.std with serial := sput {} k x s.std.serial } }
def State.can (s : State) (c : Nat) : Can := sget {} s.std.can c
def State.setCan (s : State) (c : Nat) (x : Can) : State := { s with std := { s.std with can := sput {} c x s.std.can } }
def State.rgClu (s : State) (c : Nat) : RgClu := sget {} s.av.clu c
def State.setRgClu (s : State) (c : Nat) (x : RgClu) : State := { s with av := { s.av with clu := sput {} c x s.av.clu } }

/-- Take a free word (no rule of the spec gives its value). -/
def State.freeWord (s : State) : Word × State := (Config.freeWord s.fresh, { s with fresh := s.fresh + 1 })
def State.dmaCh (s : State) (c : Nat) : Dma := sget {} s.dma.ch c
def State.setDma (s : State) (c : Nat) (x : Dma) : State := { s with dma := { s.dma with ch := sput {} c x s.dma.ch } }

end Sys2Proof.Machine
end

