-- ==== Sys2Proof/Machine/Wave.lean ====
section
/-!
DEFINITION. The geometry of a slice's period (R277, R283) and the way its actions become levels (R285, R286, R288).
-/

namespace Sys2Proof.Machine

/-- The length of a period in fine steps (R277, R280). Modes: 0 UP, 1 UPDOWN, 2 ONESHOT, 3 EDGELIST. -/
def periodLen (mode p fp : Nat) : Nat := if mode = 1 then 256 * p + fp else if mode = 2 then 128 * p else 128 * p + fp

/-- The zero tick Z of the present period. -/
def Slice.z (x : Slice) : Int := x.s / 128

/-- The fine offset phi of the present period. -/
def Slice.phi (x : Slice) : Int := x.s % 128

/-- The tick after the last of the present period. -/
def Slice.endTick (x : Slice) (mode : Nat) : Int :=
  if x.noFine then
    match x.downFrom with
    | some (g, c) => g + c
    | none => if mode = 1 then x.z + 2 * x.p else x.z + x.p
  else (x.s + periodLen mode x.p x.fp) / 128

/-- The last tick of the present period in which the counter counts: in the ticks after it, up to the zero tick of the next period, the
count is held, and no compare, entry or action acts (R277, R294). -/
def Slice.lastTick (x : Slice) (mode : Nat) : Int :=
  if x.noFine then x.endTick mode - 1 else if mode = 1 then x.z + 2 * x.p - 1 else x.z + x.p - 1

/-- The start S of the next period (R277; R291 for a period in which a new PER came to govern). -/
def Slice.nextS (x : Slice) (mode : Nat) : Int :=
  if x.noFine then 128 * x.endTick mode + x.phi else x.s + periodLen mode x.p x.fp

/-- The count in tick `t` (R277, R291); past the period's last count it holds that count. -/
def Slice.countAt (x : Slice) (mode : Nat) (t : Int) : Int :=
  let d := t - x.z
  match x.downFrom with
  | some (g, c) => if g ≤ t then max 0 (c - (t - g)) else d
  | none => if mode = 1 then (if d ≤ x.p then d else max 0 (2 * x.p - d)) else min d ((x.p : Int) - 1)

/-- Is tick `t` in the down sweep? -/
def Slice.downAt (x : Slice) (mode : Nat) (t : Int) : Bool :=
  match x.downFrom with
  | some (g, _) => decide (g ≤ t)
  | none => decide (mode = 1) && decide ((x.p : Int) ≤ t - x.z)

/-- The tick of the period event (R276). -/
def Slice.perTick (x : Slice) (mode : Nat) : Int := if mode = 1 then x.z + x.p else x.z + x.p - 1

/-- The action tick and fine offset of a time (v, fc) in the up sweep (R283, R287). -/
def Slice.upAction (x : Slice) (v fc : Nat) : Option (Int × Int) :=
  if v + 1 ≤ x.p then some (x.z + v, fc) else none

/-- The tick of the down sweep with count `c`. -/
def Slice.downTick (x : Slice) (c : Nat) : Int :=
  match x.downFrom with
  | some (g, c0) => g + (c0 - c : Int)
  | none => x.z + (2 * x.p - c : Int)

/-- The action tick and fine offset of a time (v, fc) in the down sweep (R283). -/
def Slice.downAction (x : Slice) (v fc : Nat) : Option (Int × Int) :=
  if fc = 0 then (if 1 ≤ v ∧ v ≤ x.p then some (x.downTick v, 0) else none)
  else if v + 1 ≤ x.p then some (x.downTick (v + 1), 128 - fc) else none

/-! ### Edges (R286, R288) -/

/-- The level of the last pending edge. -/
def Out.tail (o : Out) : Bool := match o.pend.getLast? with
  | some e => e.2
  | none => o.lvl

/-- Insert an edge by its time, after those of the same time. -/
def insEdge (t : Int) (l : Bool) : List (Int × Bool) → List (Int × Bool)
  | [] => [(t, l)]
  | e :: es => if t < e.1 then (t, l) :: e :: es else e :: insEdge t l es

/-- An edge to level `l` at time `t`; no edge where the level stays. -/
def Out.edge (o : Out) (t : Int) (l : Bool) : Out := if o.tail = l then o else { o with pend := insEdge t l o.pend }

/-- A fall at `t`: a rise delayed past it never happens, so the interval gives no pulse (R288). -/
def Out.fall (o : Out) (t : Int) : Out := match o.pend.getLast? with
  | some (t', true) => if t < t' then { o with pend := o.pend.dropLast } else o.edge t false
  | _ => o.edge t false

/-- The level at time `t`: two successive edges less than 128 fine steps apart are both removed (R286). -/
def levelAt : Bool → List (Int × Bool) → Int → Bool
  | l, [], _ => l
  | l, [(a, v)], t => if a ≤ t then v else l
  | l, (a, v) :: (b, u) :: es, t =>
    if b - a < 128 then levelAt l es t else if a ≤ t then levelAt v ((b, u) :: es) t else l

/-- Take edges that nothing can remove any more into the level: those 256 or more fine steps before `t`. -/
def decideEdges : Bool → List (Int × Bool) → Int → Out
  | l, [], _ => { lvl := l, pend := [] }
  | l, [(a, v)], t => if a + 256 ≤ t then { lvl := v, pend := [] } else { lvl := l, pend := [(a, v)] }
  | l, (a, v) :: (b, u) :: es, t =>
    if b - a < 128 then decideEdges l es t
    else if a + 256 ≤ t then decideEdges v ((b, u) :: es) t else { lvl := l, pend := (a, v) :: (b, u) :: es }

/-- From time `t` on an output follows its source, which is at `l`. -/
def Out.follow (o : Out) (t : Int) (l : Bool) : Out := { o with pend := o.pend.filter (fun e => decide (e.1 ≤ t)) }.edge t l

/-- One action on a source (R284, R286) and what the dead-time stage makes of it (R288). While the stage is on, the source B of SL_AQB
moves no ball; it is kept, since the outputs follow both sources once the stage is off (DEDUCED, log 40). -/
def Wave.act (w : Wave) (r : ActRec) : Wave :=
  let old := if r.outB then w.srcB else w.srcA
  let new := if r.code = 3 then !old else r.code == 2
  if r.code = 4 then { w with outA := w.outA.follow r.time w.srcA, outB := w.outB.follow r.time w.srcB }
  else if new = old then w
  else if r.dt = 1 && r.outB then { w with srcB := new }
  else if r.dt = 1 then
    if new then { w with srcA := new, outA := w.outA.edge (r.time + r.red) true, outB := w.outB.fall r.time }
    else { w with srcA := new, outA := w.outA.fall r.time, outB := w.outB.edge (r.time + r.fed) true }
  else if r.outB then { w with srcB := new, outB := w.outB.edge r.time new }
  else { w with srcA := new, outA := w.outA.edge r.time new }

/-- Insert an action by its place on the fine grid, the later action tick last (R286). -/
def insAct (r : ActRec) : List ActRec → List ActRec
  | [] => [r]
  | a :: as => if r.time < a.time then r :: a :: as else a :: insAct r as

/-- Do two actions share their output and their action tick (R285)? -/
def ActRec.meets (a r : ActRec) : Bool := a.outB == r.outB && a.tick == r.tick && a.code != 4

/-- The waves with the recent actions taken in. -/
def Slice.now (x : Slice) : Wave := x.acts.foldl Wave.act x.wave

/-- An action on an output in its action tick: of several in one tick only the highest ranked takes effect (R285); actions
two or more ticks old can no longer be overtaken and are taken in for good. -/
def Slice.action (x : Slice) (r : ActRec) : Slice :=
  let old := x.acts.filter (fun a => decide (a.tick + 2 ≤ r.tick))
  let rest := x.acts.filter (fun a => !decide (a.tick + 2 ≤ r.tick))
  let w := old.foldl Wave.act x.wave
  let w := { w with outA := decideEdges w.outA.lvl w.outA.pend (128 * r.tick),
                    outB := decideEdges w.outB.lvl w.outB.pend (128 * r.tick) }
  if rest.any (fun a => a.meets r && decide (r.prio ≤ a.prio)) then { x with wave := w, acts := rest }
  else { x with wave := w, acts := insAct r (rest.filter (fun a => !a.meets r)) }

/-- The dead-time stage is turned off from tick `t` on (R288). -/
def Slice.stageOff (x : Slice) (t : Nat) : Slice :=
  { x with acts := insAct { outB := false, tick := t, time := 128 * t, prio := 0, code := 4, dt := 0, red := 0, fed := 0 } x.acts }

/-- The level past the dead-time stage of output A or B at tick `t`. -/
def Slice.level (x : Slice) (outB : Bool) (t : Int) : Bool :=
  let o := if outB then x.now.outB else x.now.outA
  levelAt o.lvl o.pend (128 * t)

end Sys2Proof.Machine
end

