-- ==== Sys2Proof/Machine/Levels.lean ====
section
/-!
DEFINITION. Live levels: blanking windows, trip-zone sources and inputs, balls, gate levels. Each is computed from the
state; nothing here is stored.
-/

namespace Sys2Proof.Machine

/-- Is the input `i` of an engine's or zone's event source still within the 2 ns of its last activation (R106)? -/
def State.pulse (s : State) (i : Nat) : Bool := match sget none s.fab.last i with
  | some t => decide (s.tb < t + 2)
  | none => false

/-- The mode whose clocks are in force: HALT leaves them as before it. -/
def State.clkMode (s : State) : Mode := if s.mode == .halt then s.rst.beforeHalt else s.mode

/-- Is a BLK reset of a block in progress (R472)? -/
def State.blkBusy (s : State) (kind index : Nat) : Bool :=
  s.rst.blk.any (fun b => b.kind == kind && b.index == index && decide (s.tb < b.ends))

/-! ### The fast filter (R84) -/

/-- The weight of the `j`-th newest bit in a sinc2 filter of length `n`. -/
def sinc2Weight (n j : Nat) : Nat := if j < n then j + 1 else 2 * n - 1 - j

/-- A sinc2 filter of length `n` over bits, newest first: it counts bits 1 over the last 2·n − 1. -/
def sinc2 (n : Nat) (bits : List Bool) : Nat :=
  ((bits.take (2 * n - 1)).mapIdx (fun j b => if b then sinc2Weight n j else 0)).sum

/-- The fast output of sigma-delta input `k`: none while the filter is off, or has no bit since its restart. The bits that a filter has
not had since its restart count as 0 (DESIGN CHOICE, log 35). -/
def State.sdFast (s : State) (k : Nat) : Option Nat :=
  if s.on (aSD_FAST k) SD_FAST.fast_en && s.on (aSD_CTRL k) SD_CTRL.en && !(s.sdm k).bits.isEmpty then
    some (sinc2 (s.get (aSD_FAST k) SD_FAST.fosr) (s.sdm k).bits)
  else none

/-- SDFkH: the fast output exceeds fast_hi. -/
def State.sdfH (s : State) (k : Nat) : Bool := match s.sdFast k with
  | some x => decide (s.get (aSD_FAST k) SD_FAST.fast_hi < x)
  | none => false

/-- SDFkL: the fast output is below fast_lo. -/
def State.sdfL (s : State) (k : Nat) : Bool := match s.sdFast k with
  | some x => decide (x < s.get (aSD_FAST k) SD_FAST.fast_lo)
  | none => false

/-- The output of comparator `i` = 2·nn for WMnnH, 2·nn + 1 for WMnnL (R92). -/
def State.wmLevel (s : State) (i : Nat) : Bool := (s.comp i).level

/-- Was window `w` open in tick `t` (R98)? -/
def State.winOpenAt (s : State) (w t : Nat) : Bool :=
  let x := s.win w
  (match x.openTick with
    | some o => decide (o ≤ t)
    | none => false) || (decide (x.lastOpen ≤ t) && decide (t < x.lastClose))

/-- Is window `w` open for a trip-zone source in timing island `tim` (R99)? -/
def State.winFor (s : State) (w tim : Nat) : Bool :=
  s.mode != .frost &&
    (if s.get (aBW_CFG w) BW_CFG.slice / 16 = tim then s.winOpenAt w s.tb
     else decide (2 ≤ s.tb) && s.winOpenAt w (s.tb - 2))

/-- The trip-zone source `src` (R302). -/
def State.tripSource (s : State) (src : Nat) : Bool :=
  if src < 32 then s.on (aTRIPIN_CFG src) TRIPIN_CFG.lvl
  else if src < 224 then s.wmLevel (src - 32)
  else if src < 288 then
    if src % 2 = 0 then s.sdfH ((src - 224) / 2) else s.sdfL ((src - 224) / 2)
  else if src < 320 then s.pulse (2256 + (src - 288))
  else false

/-- Is slot `j` of zone `z` blanked now (R303)? -/
def State.slotBlanked (s : State) (z j : Nat) : Bool :=
  s.on (aTZ_SRC z j) TZ_SRC.bw_en && s.winFor (s.get (aTZ_SRC z j) TZ_SRC.bw) (z / 8)

/-- Was the present event of fabric event source `src` lost to slot `j` of zone `z`, blanked as it arrived (R303)? -/
def State.slotLost (s : State) (z j src : Nat) : Bool :=
  288 ≤ src && (match sget none s.fab.last (2256 + (src - 288)) with
    | some t => s.trip.lost.contains (z, j, t)
    | none => false)

/-- Slot `j` of zone `z`: its source, unless it is disabled or blanked (R301, R303). -/
def State.zoneSlot (s : State) (z j : Nat) : Bool :=
  let a := aTZ_SRC z j
  s.on a TZ_SRC.en && s.tripSource (s.get a TZ_SRC.src) && !s.slotBlanked z j && !s.slotLost z j (s.get a TZ_SRC.src)

/-- The zone input: the OR of its slots (R301). -/
def State.zoneInput (s : State) (z : Nat) : Bool := (List.range 8).any (fun j => s.zoneSlot z j)

/-- Is the trip state of zone `z` set? -/
def State.tripped (s : State) (z : Nat) : Bool := s.on (aTZ_STATUS z) TZ_STATUS.tripped

/-- The action of zone `z` on output `o` (R306): 0 none, 1 low, 2 high, 3 release. -/
def State.zoneAct (s : State) (z o : Nat) : Nat := (s.reg (aTZ_ACT z (o / 16))).toNat / 2 ^ (2 * (o % 16)) % 4

/-- The action with which zone `z` overrides output `o` now (R306, R307): while its trip state is set, the action it has for the
output; otherwise, and where that is none, the one that came to override it less than 2 ns ago. Zones take no action in FROST
(R321). -/
def State.zoneNow (s : State) (z o : Nat) : Nat :=
  if s.mode = .frost then 0
  else if s.tripped z && s.zoneAct z o != 0 then s.zoneAct z o
  else match sget none (s.zone z).acts o with
    | some (a, t) => if s.tb < t + 2 then a else 0
    | none => 0

/-- The actions of zone `z` on the outputs of `os` come to override them in tick `t`. -/
def State.startActs (s : State) (z t : Nat) (os : List Nat) : State :=
  s.setZone z { s.zone z with acts := os.foldl (fun l o =>
    if s.zoneAct z o = 0 then l else sput none o (some (s.zoneAct z o, t)) l) (s.zone z).acts }

/-- The zone action in force on output `o`: drive low before drive high before release (R306). -/
def State.zoneDrive (s : State) (o : Nat) : Nat :=
  let acts := (List.range 32).map (fun z => s.zoneNow z o)
  if acts.contains 1 then 1 else if acts.contains 2 then 2 else if acts.contains 3 then 3 else 0

/-- Is slice `n` the high word of the pair (R320)? -/
def State.chained (s : State) (n : Nat) : Bool := n % 2 == 1 && s.on (aSL_CTRL n) SL_CTRL.chain

/-- The mode field of slice `n`: 0 UP, 1 UPDOWN, 2 ONESHOT, 3 EDGELIST. -/
def State.slMode (s : State) (n : Nat) : Nat := s.get (aSL_CTRL n) SL_CTRL.mode

/-- A slice's output after polarity and idle level (R289). -/
def State.sliceOut (s : State) (n : Nat) (outB : Bool) : Bool :=
  let x := s.slice n
  let a := aSL_OUT n
  if (x.counting || (x.armed && x.started)) && !s.chained n then
    x.level outB s.tb != s.on a (if outB then SL_OUT.inv_b else SL_OUT.inv_a)
  else s.on a (if outB then SL_OUT.idle_b else SL_OUT.idle_a)

/-- A drive code as a ball level: none is released. -/
def driveOf (c : Nat) : Option Bool := if c = 1 then some false else if c = 2 then some true else none

/-- Does the safe state apply (R314, R315)? It lasts until the tick from which a release frees the balls. -/
def State.safe (s : State) : Bool :=
  s.on aSAFE_CTRL SAFE_CTRL.hold || s.trip.safenLow || !s.alive islAON || decide (s.tb < s.trip.relTick) ||
    (match s.mode with
      | .bringup | .safehold | .watch | .frost | .tripped => true
      | .halt => !s.on aDBG_CFG DBG_CFG.pwm_run
      | _ => false)

/-- The safe level of output `o` (R313). -/
def State.safeLevel (s : State) (o : Nat) : Option Bool :=
  driveOf ((s.reg (aSAFE_CFG (o / 16))).toNat / 2 ^ (2 * (o % 16)) % 4)

/-- The level the device gives PWM ball `o` (2n for A, 2n + 1 for B), none while it is released: reset state, safe state,
reset of the slice's block or island, zone actions, slice output, in that order (R306, R313, R463, R471). -/
def State.driven (s : State) (o : Nat) : Option Bool :=
  if s.mode = .reset then none
  else if s.safe then s.safeLevel o
  else if (s.slice (o / 2)).blkLow || !s.alive (islTIM (o / 32)) then some false
  else match s.zoneDrive o with
    | 0 => some (s.sliceOut (o / 2) (o % 2 == 1))
    | c => driveOf c

/-- The JTAG instruction that acts: with debug locked the bypass register stands in for these three (R455). -/
def State.jinst (s : State) : JInst := match s.std.jtag.inst with
  | .extest | .clamp | .highz => if s.dbgOpen 1 then s.std.jtag.inst else .bypass
  | i => i

/-- What a boundary-scan instruction makes of a digital ball (R443, R455): the level of its cell, or released; none: it makes nothing. -/
def State.scanned (s : State) (b : Ball) : Option (Option Bool) := match s.jinst with
  | .extest | .clamp =>
    some (some (s.std.jtag.latch.getD (Config.boundaryCell b) (Config.freeChoice (Config.boundaryCell b) % 2 == 1)))
  | .highz => some none
  | _ => none

/-- Is a VIO bank unpowered (R533, R534)? -/
def State.bankDead (s : State) (b : Fin 6) : Bool := s.rst.dead.contains b

/-- The VIO bank of PWM ball `o` (R298, R529). -/
def pwmBank (o : Nat) : Fin 6 := Fin.ofNat 6 (o / 32 % 4)

/-- The level of PWM ball `o`: none is high-impedance or a weak pull-down. In an unpowered bank it is high-impedance (R534); the
power-loss clamp holds it low (R533); a boundary-scan instruction takes it from its cell, or releases it (R443); otherwise the device
gives it. -/
def State.ball (s : State) (o : Nat) : Option Bool :=
  if s.bankDead (pwmBank o) then none
  else if s.rst.vcoreLow || s.rst.vaonLow then some false
  else (s.scanned (.pwm o)).getD (s.driven o)

/-- The island a gate level comes from (R108). -/
def gateIsl (g : Nat) : Nat :=
  if g < 128 then islTIM (g / 32) else if g < 320 then islAON else if g < 384 then islANA
  else if g < 416 then islTIM ((g - 384) / 8) else if g < 480 then islAON
  else if g < 544 then islAON else islLNK

/-- Gate level `g` (R108): 0 while its island is in reset or dark. -/
def State.gate (s : State) (g : Nat) : Bool :=
  s.alive (gateIsl g) &&
    (if g < 128 then s.ball g == some true
     else if g < 320 then s.wmLevel (g - 128)
     else if g < 384 then
       if g % 2 = 0 then s.sdfH ((g - 320) / 2) else s.sdfL ((g - 320) / 2)
     else if g < 416 then s.tripped (g - 384)
     else if g < 448 then s.on (aTRIPIN_CFG (g - 416)) TRIPIN_CFG.lvl
     else if g < 480 then s.on (aGPIO_CFG (g - 448)) GPIO_CFG.in_
     else if g < 512 then s.mode != .frost && s.winOpenAt (g - 480) s.tb
     else if g < 544 then s.bit aFAB_GFLAG (g - 512)
     else if g = 544 then s.on aSWL_OWN SWL_OWN.own
     else false)

/-- The gate of a consumer input whose FAB_SEL is the word `w` (R107): true without gate_en. -/
def State.gateOf (s : State) (w : Word) : Bool :=
  getBits w FAB_SEL.gate_en == 0 || (s.gate (getBits w FAB_SEL.gate_sel) != (getBits w FAB_SEL.gate_pol == 1))

/-- The gate level that a FAB_SEL word names, and its polarity. -/
def gateBits (w : Word) : Nat := getBits w FAB_SEL.gate_sel + 1024 * getBits w FAB_SEL.gate_pol

/-- The inputs that select constant 1 through a gate, and their FAB_SEL words (R107). -/
def State.gateInputs (s : State) : List (Nat × Word) :=
  s.regs.filterMap (fun x => match fabSelInput x.1 with
    | some i => if getBits x.2 FAB_SEL.prod_sel = 2047 && getBits x.2 FAB_SEL.gate_en = 1 then some (i, x.2) else none
    | none => none)

/-- How many gate edges are on their way to input `i`? -/
def State.gateEdges (s : State) (i : Nat) : Nat := s.fab.edges.countP (fun e => e.input == i && e.producer == 2047)

/-- From `s` to `t`, every gate level that rose at an input that selects constant 1 sends an edge, dated tick `u` (R107), unless a part
of the change has sent it already; a change of the selection itself sends none (R109). -/
def settleAt (u : Nat) (s t : State) : State :=
  { t with fab := { t.fab with
      edges := t.fab.edges ++ (t.gateInputs.filter (fun x => t.gateOf x.2 && !s.gateOf x.2 &&
          decide (t.gateEdges x.1 ≤ s.gateEdges x.1))).map
        (fun x => { input := x.1, tick := u, producer := 2047, gate := gateBits x.2 }) } }

/-- The gate edges of a change in the present tick. -/
def settle (s t : State) : State := settleAt t.tb s t

/-- A next state, its gate edges sent. -/
def fin (s t : State) : Host.Outcome State Fault Refusal := .next (settle s t)

end Sys2Proof.Machine
end

