-- ==== Sys2Proof/Machine/Schedule.lean ====
section
/-!
DEFINITION. When the periods of a slice start (R277, R293 to R296), and which commits are due by a tick (R330, R332).
-/

namespace Sys2Proof.Machine

/-! ### Time words (R275) -/

/-- Whole and fine part of a time word (R275). -/
def timeNs (w : Word) : Nat := w.toNat / 128
def timeFine (w : Word) : Nat := w.toNat % 128

/-! ### Stagger groups (R293 to R296) -/

def State.member (s : State) (n : Nat) : Bool := s.on (aSL_STG n) SL_STG.member
def State.stgGroup (s : State) (n : Nat) : Nat := s.get (aSL_STG n) SL_STG.grp

/-- Is a member shed: its index is not below the group's N (R293)? -/
def State.shed (s : State) (n : Nat) : Bool :=
  s.member n && decide (s.get (aSTG_CFG (s.stgGroup n)) STG_CFG.n ≤ s.get (aSL_STG n) SL_STG.idx)

/-- The period word of a member's group. -/
def State.stgPer (s : State) (n : Nat) : Nat := (s.reg (aSTG_PER (s.stgGroup n))).toNat

/-- Can a member not count: ONESHOT, UPDOWN with a period that is no whole even number of ns (R296), or a shared group
on a device that has not joined the shared timebase (R295)? -/
def State.stgBad (s : State) (n : Nat) : Bool :=
  s.slMode n == 2 || (s.slMode n == 1 && s.stgPer n % 256 != 0) ||
    (s.on (aSTG_CFG (s.stgGroup n)) STG_CFG.shared && !s.inTandem)

/-- Phase offset of index `k` of `n` phases of a period of `p` fine steps (R293): rounded half away from zero. -/
def stgOff (k p n : Nat) : Nat := (2 * k * p + n) / (2 * n)

/-- The first start of phase `k` at or after fine step `t`, for a group with epoch `e`, period `p` (both in fine steps) and
`n` phases. -/
def stgFirst (e k p n : Nat) (t : Int) : Int :=
  let b : Int := e + stgOff k p n
  if t ≤ b then b else b + (t - b + p - 1) / p * p

/-- The first scheduled start of member `n` at or after fine step `t`. -/
def State.stgStart (s : State) (n : Nat) (t : Int) : Int :=
  stgFirst (sget 0 s.pwm.epoch (s.stgGroup n)) (s.get (aSL_STG n) SL_STG.idx) (s.stgPer n)
    (s.get (aSTG_CFG (s.stgGroup n)) STG_CFG.n) t

/-- Whole and fine part of the period that slice `n` counts next: its own PER, or its group's (R293). -/
def State.periodOf (s : State) (n : Nat) : Nat × Nat :=
  if s.member n then (if s.slMode n = 1 then (s.stgPer n / 256, 0) else (s.stgPer n / 128, s.stgPer n % 128))
  else (timeNs (s.reg (aPER n)), timeFine (s.reg (aPER n)))

/-- Must slice `n` stop at the end of its present period (R281, R294)? -/
def State.stopping (s : State) (n : Nat) : Bool :=
  !s.on (aSL_CTRL n) SL_CTRL.run || (s.member n && (s.shed n || !s.on (aSTG_CFG (s.stgGroup n)) STG_CFG.en || s.stgBad n))

/-- The start of the next period of a counting slice: for a stagger member, its first scheduled start at or after the
end of the present period (R294). -/
def State.nextStart (s : State) (n : Nat) : Int :=
  let e := (s.slice n).nextS (s.slMode n)
  if s.member n then s.stgStart n e else e

/-! ### Commits that are due -/

/-- The first zero tick of slice `n` at or after `t0` under its present schedule (R277). -/
def State.zeroFrom (s : State) (n t0 : Nat) : Option Nat :=
  let x := s.slice n
  let (p, fp) := s.periodOf n
  let len : Int := periodLen (s.slMode n) p fp
  let first : Option Int := if x.counting then (if s.slMode n = 2 || s.stopping n then none else some (s.nextStart n))
    else x.startAt
  if x.counting && x.zeroPend && decide ((t0 : Int) ≤ x.z) then some x.z.toNat
  else match first with
    | some f =>
      let k : Int := if (t0 : Int) ≤ f / 128 then 0 else (128 * t0 - f + len - 1) / len
      some ((f + k * len) / 128).toNat
    | none => none

/-- The commit tick of an armed group as far as it is known (R330). -/
def State.tcOf (s : State) (x : Armed) : Option Nat :=
  match x.tc with
  | some t => some t
  | none => if x.trig = 1 then s.zeroFrom x.slice (x.ta + 200) else none

/-- Is a commit of a group that `p` picks due by tick `t` and still to be applied? Its values govern that tick (R332). -/
def State.commitOwedBy (s : State) (p : Armed → Bool) (t : Nat) : Bool := s.cc.armed.any (fun x => match x.2 with
  | some a => p a && (match s.tcOf a with
    | some c => decide (s.dueTick c ≤ t)
    | none => false)
  | none => false)

/-- Is a commit that is due by tick `t` still to be applied? -/
def State.commitOwed (s : State) (t : Nat) : Bool := s.commitOwedBy (fun _ => true) t

end Sys2Proof.Machine
end

