-- ==== Sys2Proof/Machine/RegWrite.lean ====
section
/-!
DEFINITION. What a write does to a register's fields under their access codes (R7, R10, R11), and how staged fields
reach the staged copy under a commit group (R322 to R325, R335).
-/

namespace Sys2Proof.Machine

/-- The part of a written word that a field takes. -/
def Fld.of (f : Fld) (v : Word) : Nat := getBits v f

/-- A word after a write of `v`, in one of the fields that a write reaches directly (R7); a reserved code leaves the
field as it is (R11). -/
def Fld.direct (f : Fld) (w v : Word) : Word :=
  match f.acc with
  | .rw => if f.legal (f.of v) then putBits w f (f.of v) else w
  | .w1c => w &&& ~~~(v &&& BitVec.ofNat 32 f.mask)
  | .w1s => w ||| (v &&& BitVec.ofNat 32 f.mask)
  | _ => w

/-- A word after a write of `v`, in all of its direct fields. -/
def directWrite (fs : List Fld) (w v : Word) : Word := fs.foldl (fun x f => f.direct x v) w

/-- The staged fields of a word after a write of `v` over what was staged or active before (R11, R325). -/
def stagedWrite (fs : List Fld) (w v : Word) : Word :=
  fs.foldl (fun x f => if f.acc = .rws && f.legal (f.of v) then putBits x f (f.of v) else x) w

/-- Replace the staged fields of a word by those of another. -/
def mergeStaged (fs : List Fld) (w v : Word) : Word :=
  fs.foldl (fun x f => if f.acc = .rws then putBits x f (f.of v) else x) w

/-- Does a register hold a staged field? -/
def hasRws (fs : List Fld) : Bool := fs.any (fun f => f.acc == .rws)

/-- What is staged at address `a`. -/
def State.stagedAt (s : State) (a : Nat) : Option Staged := sget none s.cc.staged a

def State.setStaged (s : State) (a : Nat) (x : Option Staged) : State :=
  { s with cc := { s.cc with staged := sput none a x s.cc.staged } }

/-- The commit group that a write of requester `r` carries where no window or page names one (R323, R324). -/
def State.rsel (s : State) (r : Nat) : Nat := match s.carried with
  | some x => x.cg
  | none => sget 0 s.cc.port r

/-- The transfer that an access of requester `q` to address `a` makes (R16): the one under way, or that of a command. -/
def State.accessXfer (s : State) (q : Req) (write : Bool) (a : Nat) (v : Word) : Xfer :=
  s.carried.getD { eng := reqNum q, st := { kind := .cmd write, addr := a, data := v, size := 0, ring := s.ringOf q },
                   cg := s.rsel (reqNum q) }

/-! ### Crossing into an island (R16 to R18, R21) -/

/-- The island that requester `q` lives in; that of debug is taken to be AON (DEDUCED, log 43). -/
def reqIsl : Req → Nat
  | .newt n => islCLU (n / 16)
  | .skink p => islSUP p
  | .dma _ => islSYS
  | .debug => islAON
  | .swl _ _ => islLNK

/-- Is byte address `a` in a memory that holds bytes (R24, R26, R27)? -/
def isMem (a : Nat) : Bool :=
  decide (a < 0x10000) || (decide (0x100000 ≤ a) && decide (a < 0x200000)) ||
    (decide (0x0F000000 ≤ a) && decide (a < 0x0F010000)) || (decide (0x10000000 ≤ a) && decide (a < 0x10800000)) ||
    (decide (0x20000000 ≤ a) && decide (a < 0x22000000) &&
      (let o := a % 0x200000
       (decide (o < 0x100000) && decide (o % 0x10000 < 0xC000)) || (decide (0x100000 ≤ o) && decide (o < 0x120000)) ||
         (decide (0x180000 ≤ o) && decide (o < 0x190000))))

/-- Is memory `m` still being initialised (R467): clutch `m`, or bank `m` − 16 of system SRAM? -/
def State.initing (s : State) (m : Nat) : Bool := s.rst.init.contains m

/-- Where a queue port is: the queue and the offset (R361). -/
def portOf (a : Nat) : Option (Nat × Nat) :=
  if 0x51000000 ≤ a ∧ a < 0x51100000 then some ((a - 0x51000000) / 0x40, a % 0x40) else none

/-- Does the ring of queue `q` lie in a bank of system SRAM that is still being initialised (R467)? -/
def State.qInit (s : State) (q : Nat) : Bool :=
  let b := (s.reg (aQD_BASE q)).toNat
  (List.range 8).any (fun k => s.initing (16 + k) && decide (b < 0x10000000 + (k + 1) * 0x100000) &&
    decide (0x10000000 + k * 0x100000 < b + 16 * 2 ^ s.get (aQD_CFG q) QD_CFG.lsz))

/-- Does an access to `a` wait for a memory that is still being initialised: the one at that byte address, or, at the port of a queue,
that of its ring (R467)? -/
def State.initAt (s : State) (a : Nat) : Bool :=
  (isMem a && decide (0x10000000 ≤ a) &&
    s.initing (if a < 0x20000000 then 16 + (a - 0x10000000) / 0x100000 else (a - 0x20000000) / 0x200000)) ||
  (match portOf a with
    | some (q, _) => s.qInit q
    | none => false)

/-- The command of port `x`, while it runs. -/
def State.xspiCmd (s : State) (x : Nat) : Option Xspi := sget none s.std.xspi x

def State.setXspi (s : State) (x : Nat) (c : Option Xspi) : State := { s with std := { s.std with xspi := sput none x c s.std.xspi } }

/-- Does a command that runs keep a read of port `x`'s window waiting (R449, R450)? -/
def State.xspiBusy (s : State) (x : Nat) : Bool := (s.xspiCmd x).any (fun c => !c.after)

/-- Is `a` in an xSPI window? -/
def inXspi (a : Nat) : Bool := decide (0x80000000 ≤ a) && decide (a < 0xC0000000)

/-- A read of `a` waits for the memory behind it: the NVM for the end of a pulse (R492), an xSPI port for a command that runs (R450). -/
def State.readWaits (s : State) (a : Nat) : Bool :=
  (decide (0x100000 ≤ a) && decide (a < 0x200000) && s.nvm.pulse.isSome) || (inXspi a && s.xspiBusy ((a - 0x80000000) / 0x20000000))

/-- Is clutch `c` relocking, so that what is sent to it waits (R21, R22)? -/
def State.relocking (s : State) (c : Nat) : Bool := s.on (aCLUTCH_CLK c) CLUTCH_CLK.relocking

/-- Does the clutch with island code `isl` hold what crosses into it, because it relocks (R21)? -/
def State.held (s : State) (isl : Nat) : Bool := decide (10 ≤ isl) && decide (isl < 26) && s.relocking (isl - 10)

/-- Does an access that a command makes for requester `q` wait in the FIFO into island `isl`: behind what entered that FIFO before it
(R17), or behind a relock of the clutch (R21)? -/
def State.waits (s : State) (q : Req) (isl : Nat) : Bool :=
  s.carried.isNone && (s.held isl || !(s.fifo (reqIsl q) isl).isEmpty)

/-- A write of `v` by requester `r` to `a` leaves it: one to its own CC_RSEL takes effect at its port (R324). -/
def State.portSelect (s : State) (r a : Nat) (v : Word) : State :=
  if a = aCC_RSEL r then { s with cc := { s.cc with port := sput 0 r (getBits v CC_RSEL.cg) s.cc.port } } else s

/-- An access of requester `q` to `a` in island `isl`, which `eff` performs, unless it waits to cross, or for a memory (R467). The first
eight accesses of a list are in its FIFO; those behind them are of requesters that stall for an entry (R18). -/
def State.cross (s : State) (q : Req) (isl : Nat) (write : Bool) (a : Nat) (w : Word) (eff : State → State) : State :=
  if s.admits q isl && (s.waits q isl || (s.carried.isNone && (s.initAt a || (!write && s.readWaits a)))) then
    (s.setFifo (reqIsl q) isl (s.fifo (reqIsl q) isl ++ [s.accessXfer q write a w])).portSelect (reqNum q) (if write then a else 0) w
  else eff s

/-- The island of the register, staged word or page word at address `a` (R14, R26 and the register tables). -/
def State.islandOf (s : State) (a : Nat) : Nat :=
  if a < 0x20000000 then islSYS
  else if a < 0x22000000 then islCLU ((a - 0x20000000) / 0x200000)
  else if a < 0x40000400 then islAON
  else if a < 0x40100000 then islTIM 0
  else if a < 0x40110000 then islTIM ((a - 0x40100000) / 0x4000)
  else if a < 0x40200000 then islAON
  else if a < 0x40201000 then islTIM ((a - 0x40200000) / 0x400)
  else if a < 0x40202000 then islAON
  else if a < 0x40202200 then islTIM ((a - 0x40202000) / 0x80)
  else if a < 0x40300000 then islAON
  else if a < 0x40380000 then islANA
  else if a < 0x40380800 then islAON
  else if a < 0x40400000 then islTIM (s.get (aBW_CFG ((a - 0x40380800) / 8 % 32)) BW_CFG.slice / 16)
  else if a < 0x40600000 then islAON
  else if a < 0x40800000 then islSYS
  else if a < 0x40A60000 then islLNK
  else if a < 0x40F00800 then islAON
  else if a < 0x100000000 then islSYS
  else islSUP ((a - 0x100000000) / 0x1000)


/-- An access that a command of requester `q` makes to the register at `a`. -/
def State.crossTo (s : State) (q : Req) (write : Bool) (a : Nat) (w : Word) (eff : State → State) : State :=
  s.cross q (s.islandOf a) write a w eff

/-- The first overflow of all groups is recorded, and an engine that caused it has vector 17 pending (R335). -/
def State.noteOverflow (s : State) (r g : Nat) : State :=
  let s := s.set (aCG_STATUS g) CG_STATUS.overflow 1
  let s := { s with cc := { s.cc with ovf := if s.cc.ovf.contains g then s.cc.ovf else s.cc.ovf ++ [g] } }
  let s := if s.on aCC_FAULT CC_FAULT.valid then s
    else ((s.set aCC_FAULT CC_FAULT.valid 1).set aCC_FAULT CC_FAULT.cg g).set aCC_FAULT CC_FAULT.req r
  if r < 258 then s.pendVec r 17 else s

/-- Stage value `v` of the word at `a` in group `g`, for requester `r` (R325, R335). Answers the state and whether the
write gets an error response. -/
def State.stage (s : State) (r g a : Nat) (v : Word) : State × Bool :=
  match s.stagedAt a with
  | some x =>
    if x.grp = g then (s.setStaged a (some { grp := g, val := v }), false)
    else (s.set (aCG_STATUS x.grp) CG_STATUS.conflict 1, true)
  | none =>
    if s.on (aCG_STATUS g) CG_STATUS.overflow || decide (4096 ≤ s.get (aCG_STATUS g) CG_STATUS.staged_cnt) then
      (s.noteOverflow r g, false)
    else ((s.setStaged a (some { grp := g, val := v })).set (aCG_STATUS g) CG_STATUS.staged_cnt
      (s.get (aCG_STATUS g) CG_STATUS.staged_cnt + 1), false)

/-- The staged value of a word, or its active value (R9, R326). -/
def State.stagedOr (s : State) (a : Nat) : Word := match s.stagedAt a with
  | some x => x.val
  | none => s.reg a

/-- The W1S bits of a word that a write of `v` sets. -/
def w1sBits (fs : List Fld) (v : Word) : Nat := fs.foldl (fun m f => if f.acc = .w1s then m + f.of v * 2 ^ f.lo else m) 0

/-- The direct fields of the register at `a`, whose fields are `fs`, after a write of `v`: a W1C bit that hardware has set in this
tick stays 1, and the W1S bits that the write sets are noted (R8). -/
def State.storeDirect (s : State) (a : Nat) (fs : List Fld) (v : Word) : State :=
  { s.setReg a (directWrite fs (s.reg a) v ||| (s.reg a &&& s.hwNow a)) with
    cyc := if w1sBits fs v = 0 then s.cyc else s.cyc.setSw s.tb a (w1sBits fs v) }

/-- A write of a word to the register at `a`, whose fields are `fs`, by requester number `r` carrying group `g`: the
direct fields take effect at once, the staged ones reach the staged copy. Answers the state and whether the write gets
an error response. -/
def State.storeFields (s : State) (r g a : Nat) (fs : List Fld) (v : Word) : State × Bool :=
  let base := s.stagedOr a
  let s := s.storeDirect a fs v
  if hasRws fs then s.stage r g a (mergeStaged fs (s.reg a) (stagedWrite fs base v)) else (s, false)

/-- A write access to a register of island `isl` from rings 0 to `maxRing`: its fields are stored, then `eff` acts. -/
def State.writeFields (s : State) (q : Req) (isl maxRing a : Nat) (fs : List Fld) (v : Word) (eff : State → State) : State :=
  if s.admits q isl && decide (s.ringOf q ≤ maxRing) then
    let (t, err) := s.storeFields (reqNum q) (s.rsel (reqNum q)) a fs v
    (eff t).reply q err 0
  else s.refuse q

end Sys2Proof.Machine
end

