-- ==== Sys2Proof/Machine/Fabric.lean ====
section
/-!
DEFINITION. The event fabric (05_event_fabric.md): consumer inputs, activation, merging, overrun, software triggers.
-/

namespace Sys2Proof.Machine

/-- The island of the consumer of an input (R106): its edges are discarded while it is in reset, unreleased or dark
(R113). DESIGN CHOICE (log 36): the consumers of the trip-zone event sources 2256 to 2287 are zones of any timing island, and the
spec names no island for the input; the model takes the AON island, in which the input itself stands. -/
def inputIsl (i : Nat) : Nat :=
  if i < 2048 then islCLU (i / 128)
  else if i < 2080 then islSUP ((i - 2048) / 16)
  else if i < 2096 then islANA
  else if i < 2160 then islSYS
  else if i < 2192 then islTIM ((i - 2160) / 8)
  else if i < 2256 then islTIM ((i - 2192) / 16)
  else if i < 2288 then islAON
  else if i < 2328 then islSYS
  else if i < 2376 then islLNK
  else if i < 2392 then islAON
  else if i < 2904 then islLNK
  else if i < 3000 then islAON
  else if i < 3064 then islTIM ((i - 3000) / 16)
  else islAON

/-- The inputs that can activate in FROST: wake, GPIO output actions, router event flags (R121). -/
def frostInput (i : Nat) : Bool := (2376 ≤ i && i < 2392) || (2904 ≤ i && i < 3000)

/-- The block that is the consumer of input `i`, where a BLK reset resets it alone: its kind and index (R472). -/
def inputBlk (i : Nat) : Option (Nat × Nat) :=
  if i < 2048 then some (0, i / 8)
  else if 2192 ≤ i && i < 2256 then some (1, i - 2192)
  else if 2328 ≤ i && i < 2376 then some (4, i - 2328)
  else if 2392 ≤ i && i < 2904 then some (5, (i - 2392) / 64)
  else if 3000 ≤ i && i < 3064 then some (1, i - 3000)
  else none

/-- Is the consumer of input `i` in a BLK reset? -/
def State.consumerReset (s : State) (i : Nat) : Bool := match inputBlk i with
  | some x => s.blkBusy x.1 x.2
  | none => false

/-- Can the consumer of input `i` take edges (R113, R121)? -/
def State.takes (s : State) (i : Nat) : Bool :=
  s.alive (inputIsl i) && !s.consumerReset i && (s.mode != .frost || frostInput i)

/-- The engine event flag that input `i` sets, for i below 2080: the engine and the bit (R106, R117). -/
def evfOf (i : Nat) : Nat × Nat := if i < 2048 then (i / 8, i % 8) else (256 + (i - 2048) / 16, (i - 2048) % 16)

/-- The address and bit of router event flag `r` (R118). -/
def rtevf (r : Nat) : Nat × Nat := if r < 32 then (aFAB_RTEVF0, r) else (aFAB_RTEVF1, r - 32)

/-- Did input `i` activate less than `n` ns ago? -/
def State.within (s : State) (i n : Nat) : Bool := match sget none s.fab.last i with
  | some t => decide (s.tb < t + n)
  | none => false

/-- Is input `i` busy (R106)? Never for less than 2 ns; then as the consumer's own chapter says. -/
def State.inputBusy (s : State) (i : Nat) : Bool :=
  s.within i 2 || s.fab.held.contains i ||
    (if i < 2080 then s.bit (aEVF (evfOf i).1) (evfOf i).2
     else if i < 2096 then decide (s.tb < (s.group (i - 2080)).busyUntil)
     else if 2328 ≤ i && i < 2376 then decide (s.tb < (s.frPort (i - 2328)).busyUntil) || !(s.frPort (i - 2328)).trig.isEmpty
     else if 2392 ≤ i && i < 2904 then s.within i 8
     else if 2936 ≤ i && i < 3000 then s.bit (rtevf (i - 2936)).1 (rtevf (i - 2936)).2
     else false)

/-- The consumer of input `i` says that it is no longer busy. -/
def State.unhold (s : State) (i : Nat) : State :=
  { s with fab := { s.fab with held := s.fab.held.filter (fun j => j != i) } }

def State.hold (s : State) (i : Nat) : State := { s with fab := { s.fab with held := s.fab.held ++ [i] } }

/-- An overrun at input `i`: ovr sets, and FAB_ERR records it where ovr_rep asks for it (R112, R122). -/
def State.overrun (s : State) (i : Nat) : State :=
  let s := s.set (aFAB_CTL i) FAB_CTL.ovr 1
  if !s.on (aFAB_SEL i) FAB_SEL.ovr_rep then s
  else if s.on aFAB_ERR FAB_ERR.valid then s.incSat aFAB_ERR FAB_ERR.count
  else (s.set aFAB_ERR FAB_ERR.valid 1).set aFAB_ERR FAB_ERR.first i

/-- An activation that its consumer takes by a step of its own, at tick `take` (R115). -/
def State.pushAct (s : State) (i take src : Nat) : State :=
  { s with fab := { s.fab with acts := s.fab.acts ++ [{ input := i, take := take, src := src, arr := s.tb }] } }

/-- The consumers of the inputs that `p` picks enter reset: the inputs stop being busy, and what they had not taken yet is lost
(R113). -/
def State.resetInputs (s : State) (p : Nat → Bool) : State :=
  { s with fab := { s.fab with
      held := s.fab.held.filter (fun i => !p i)
      acts := s.fab.acts.filter (fun a => !p a.input)
      last := s.fab.last.filter (fun x => !p x.1) } }

/-- The armed state of a commit group, if it is armed. -/
def State.armedOf (s : State) (g : Nat) : Option Armed := sget none s.cc.armed g
def State.setArmed (s : State) (g : Nat) (x : Option Armed) : State :=
  { s with cc := { s.cc with armed := sput none g x s.cc.armed } }

/-- The commit trigger of group `g` activates at tick `ta` (R330, R331): it gives an armed EVENT group its target. -/
def State.commitTrigger (s : State) (g ta : Nat) : State :=
  match s.armedOf g with
  | some x =>
    if x.trig = 3 ∧ x.target = none then
      let y := { x with target := some (ta + 16), tc := some (max (ta + 16) (x.ta + 200)) }
      (s.setArmed g (some y)).hold (2288 + g)
    else s.set (aCG_STATUS g) CG_STATUS.idle_trig 1
  | none => s.set (aCG_STATUS g) CG_STATUS.idle_trig 1

/-- Fabric event source `e` presents a trip source now: the slots that select it while they are blanked have lost the event (R303). -/
def State.loseBlanked (s : State) (e : Nat) : State :=
  let slots := (List.range 256).filter (fun x => s.on (aTZ_SRC (x / 8) (x % 8)) TZ_SRC.en &&
    s.get (aTZ_SRC (x / 8) (x % 8)) TZ_SRC.src == 288 + e && s.slotBlanked (x / 8) (x % 8))
  let old := s.trip.lost.filter (fun x => decide (s.tb < x.2.2 + 2))
  { s with trip := { s.trip with lost := old ++ slots.map (fun x => (x / 8, x % 8, s.tb)) } }

/-! ### Blocks of the exports (R417, R431) -/

/-- A control block. The type byte is taken to come first, as in IEEE 802.3 Clause 49 (PRESUMED, log 48). -/
def ctlBlk (type : Byte) (pay : BitVec 56) : SwlBlk := { sync := 2, body := pay ++ type }

/-- The type byte and the payload of a control block. -/
def blkType (b : SwlBlk) : Nat := b.body.toNat % 256
def blkPay (b : SwlBlk) : Nat := b.body.toNat / 256

/-- An event block: a stamp and a mask of events. -/
def evtBlk (upper : Bool) (stamp : BitVec 24) (mask : BitVec 32) : SwlBlk := ctlBlk (if upper then 0x33 else 0x2D) (stamp ++ mask)

/-- The fields of an event block. -/
def evtStamp (b : SwlBlk) : Nat := blkPay b / 2 ^ 32

/-- Is this a control block of type `type`? -/
def blkIs (b : SwlBlk) (type : Nat) : Bool := b.sync == 2 && blkType b == type

/-- The event blocks of port `l`'s latest exports, which go out on both lanes (R431). -/
def State.evtBlks (s : State) (l : Nat) : List SwlBlk :=
  let es := s.swl.exportsSent.filter (fun x => x.1 == l)
  [false, true].filterMap (fun up =>
    let us := es.filter (fun x => decide (32 ≤ x.2.1) == up)
    match us.head? with
    | some x => some (evtBlk up (BitVec.ofNat 24 x.2.2) (us.foldl (fun m y => m ||| (1 <<< (y.2.1 % 32))) 0))
    | none => none)

/-- Blocks go to the lanes in tick `now`. -/
def SwlPort.put (x : SwlPort) (now : Nat) (bs : List SwlBlk) : SwlPort :=
  { x with out := (if x.outAt = now then x.out else []) ++ bs, outAt := now }

/-- The exports of port `l` for tick `t` go to its lanes in one block of each half: one that has left in this tick takes up the new
event. -/
def State.putEvts (s : State) (l t : Nat) : State :=
  let x := s.swlPort l
  let mine (b : SwlBlk) : Bool := (blkIs b 0x2D || blkIs b 0x33) && evtStamp b == t % 2 ^ 24
  s.setSwlPort l ({ x with out := x.out.filter (fun b => !mine b) }.put s.tb (s.evtBlks l))

/-- What the activation of input `i` does, for an edge from source tick `t` (R106). A consumer with a step of its own
(trigger, capture, synchronisation, start, snapshot, poll, wake, GPIO action, cross-trigger) finds it among the
activations that await it. -/
def State.consume (s : State) (i t : Nat) : State :=
  if i < 2080 then s.raiseBit (aEVF (evfOf i).1) (evfOf i).2
  else if i < 2096 then s
  else if i < 2160 then
    if s.on (aDMA_STAT (i - 2096)) DMA_STAT.busy then (if s.on (aDMA_CFG (i - 2096)) DMA_CFG.req_mode then s.hold i else s)
    else s.set (aDMA_STAT (i - 2096)) DMA_STAT.req_idle 1
  else if 2256 ≤ i && i < 2288 then s.loseBlanked (i - 2256)
  else if 2288 ≤ i && i < 2320 then s.commitTrigger (i - 2288) (t + 4)
  else if 2320 ≤ i && i < 2376 then (s.hold i).pushAct i (t + 4) t
  else if 2392 ≤ i && i < 2904 then
    if s.get (aSWL_STATUS ((i - 2392) / 64)) SWL_STATUS.state = 4 then
      let l := s.swl.exportsSent.filter (fun x => x.1 != (i - 2392) / 64 || x.2.2 == t)
      { s with swl := { s.swl with exportsSent := l ++ [((i - 2392) / 64, (i - 2392) % 64, t)] } }.putEvts ((i - 2392) / 64) t
    else s
  else if 2936 ≤ i && i < 3000 then s.raiseBit (rtevf (i - 2936)).1 (rtevf (i - 2936)).2
  else s.pushAct i (t + 4) t

/-- Input `i` activates for an edge from source tick `t`: counted, its merge window opened, its consumer told. -/
def State.activate (s : State) (i t : Nat) : State :=
  (({ s with fab := { s.fab with last := sput none i (some s.tb) s.fab.last } }).incWrap (aFAB_CTL i) FAB_CTL.act_cnt).consume i t

/-- An edge arrives at input `i` (R109 to R113): it joins the last activation, is an overrun, or activates the input.
At the trigger inputs of the sampling groups it is judged later, in the tick it would take (R61). -/
def State.arrive (s : State) (i t : Nat) : State :=
  if !s.takes i then s
  else if 2080 ≤ i && i < 2096 then s.pushAct i (t + 4) t
  else if s.within i 2 then s.set (aFAB_CTL i) FAB_CTL.merge 1
  else if s.inputBusy i then s.overrun i
  else s.activate i t

/-- Does producer `p` announce the result that the feed write of converter (`sd` false) or sigma-delta input `k` carries, for a
trigger of group `g` (R64)? -/
def announces (p : Nat) (sd : Bool) (k g : Nat) : Bool :=
  if sd then p == 768 + k else p == 704 + k || p == 736 + g

/-- Is a feed write to engine `e` still on its way for the producer `p` of a result: not yet out of the analog island, or in the
handshake FIFO of the engine's clutch (R71, R73)? -/
def State.feedPending (s : State) (p e : Nat) : Bool :=
  let hit (sd : Bool) (k : Nat) (f : Option Feed) : Bool := match f with
    | some x => x.eng == e && announces p sd k x.group
    | none => false
  s.cv.conv.any (fun x => hit false x.1 x.2.feed) || s.cv.sdm.any (fun x => hit true x.1 x.2.feed) ||
    (s.fifo islANA (engIsl e)).any (fun x => match x.st.kind with
      | .feed sd k g => x.eng == e && announces p sd k g
      | _ => false)

/-- The oldest edge that can have arrived at input `i` by now: 1 ns after its source (R114), and not before the feed
write that its producer announces (R71). -/
def State.edgeFor (s : State) (i : Nat) : Option Edge :=
  s.fab.edges.find? (fun e => e.input == i && decide (e.tick + 1 ≤ s.tb) &&
    !(decide (i < 2080) && s.feedPending e.producer (evfOf i).1))

/-- Does edge `e` pass, as its input is set now (R107, R109, R116)? A software edge does; the rising edge of a gate level does if that
gate is still the one; a producer's pulse if that producer is still selected and the gate lets it. An edge in flight is thus judged
wholly by the settings it meets. -/
def State.passes (s : State) (e : Edge) : Bool :=
  let w := s.reg (aFAB_SEL e.input)
  e.producer == 2046 || (getBits w FAB_SEL.prod_sel == e.producer &&
    (if e.producer = 2047 then getBits w FAB_SEL.gate_en == 1 && gateBits w == e.gate else s.gateOf w))

/-- FABRIC_ACTIVATION: the oldest edge on its way to input `i` arrives, and is judged. -/
def execFabricActivation (i : Fin 3072) (s : State) : Host.Outcome State Fault Refusal :=
  match s.edgeFor i with
  | none => .next s
  | some e =>
    let t := { s with fab := { s.fab with edges := s.fab.edges.erase e } }
    .next (if t.passes e then t.arrive i e.tick else t)

/-- A commit in tick `tc` changes the selection of input `i`, whose word was `old`: the pulses of the producer now selected that have
not reached the input yet are judged under the new settings (R116). -/
def State.reselect (s : State) (i tc : Nat) (old : Word) : State :=
  let p := s.get (aFAB_SEL i) FAB_SEL.prod_sel
  if getBits old FAB_SEL.prod_sel = p then s
  else { s with fab := { s.fab with
      edges := s.fab.edges ++ (s.fab.recent.filter (fun x => x.1 == p && decide (tc < x.2 + 3))).map
        (fun x => { input := i, tick := x.2, producer := p }) } }

/-- What a write of FAB_CTL does beyond its W1C flags: sw_trig sends a software edge, which no gate judges (R110). -/
def swEdge (i : Nat) (w : Word) (s : State) : State :=
  if getBits w FAB_CTL.sw_trig = 1 then
    { s with fab := { s.fab with edges := s.fab.edges ++ [{ input := i, tick := s.tb, producer := 2046 }] } }
  else s

/-- A write to FAB_CTL of input `i`. -/
def wrFabCtl (q : Req) (i : Nat) (w : Word) (s : State) : State :=
  s.writeFields q islAON 3 (aFAB_CTL i) fFAB_CTL w (swEdge i w)

/-- SW_TRIG. -/
def execSwTrig (q : Req) (i : Fin 3072) (w : Word) (s : State) : Host.Outcome State Fault Refusal :=
  .next (s.crossTo q true (aFAB_CTL i) w (wrFabCtl q i w))

/-- A write to FAB_ERR: clearing valid also returns first and count to 0 (R122). -/
def wrFabErr (q : Req) (w : Word) (s : State) : State :=
  s.writeFields q islAON 3 aFAB_ERR fFAB_ERR w (fun t =>
    if t.on aFAB_ERR FAB_ERR.valid then t else (t.set aFAB_ERR FAB_ERR.first 0).set aFAB_ERR FAB_ERR.count 0)

/-- The oldest activation that awaits the consumer of input `i` and whose tick has come. -/
def State.actFor (s : State) (i : Nat) : Option Act := s.fab.acts.find? (fun a => a.input == i && decide (a.take ≤ s.tb))

/-- The consumer takes an activation. -/
def State.dropAct (s : State) (a : Act) : State := { s with fab := { s.fab with acts := s.fab.acts.erase a } }

end Sys2Proof.Machine
end

