-- ==== Sys2Proof/Machine/Ecc.lean ====
section
/-!
DEFINITION. Memory errors: the memory that holds a word, and how an error that is detected is counted, recorded and announced
(R132, R503).
-/

namespace Sys2Proof.Machine

/-- The bank that Newt `e` executes from: true for B. -/
def State.activeBank (s : State) (e : Nat) : Bool := s.on (aENG_STATUS e) ENG_STATUS.active_bank

/-- The code of ECC_UE_INFO.mem for the memory at byte address `a`, as the engines' active banks stand. -/
def State.eccMem (s : State) (a : Nat) : Nat :=
  if a < 0x10000000 then 8
  else if a < 0x20000000 then 0
  else if a < 0x22000000 then
    let o := a % 0x200000
    let n := (a - 0x20000000) / 0x200000 * 16 + o / 0x10000
    if o < 0x100000 then
      (if o % 0x10000 < 0x4000 then 2
       else if o % 0x10000 < 0xC000 then (if decide (0x8000 ≤ o % 0x10000) == s.activeBank n then 3 else 4) else 9)
    else if o < 0x180000 then 5 else 6
  else if a < 0x50040000 then 1 else 9

/-- An uncorrectable error is detected at byte address `a`: counted, recorded, announced. -/
def State.eccUe (s : State) (a mem : Nat) (scrub : Bool) : State :=
  let i := aECC_UE_INFO
  let t := (s.incSat aECC_DEV ECC_DEV.ue_total).fire 1895
  if t.on i ECC_UE_INFO.valid then t.incSat i ECC_UE_INFO.later_cnt
  else (((t.set i ECC_UE_INFO.valid 1).setB i ECC_UE_INFO.by_scrub scrub).set i ECC_UE_INFO.mem mem).setReg aECC_UE_ADDR
    (BitVec.ofNat 32 a)

/-- A correctable error is detected (R503). -/
def State.eccCe (s : State) : State := (s.incSat aECC_DEV ECC_DEV.ce_total).fire 1894

/-- A correctable error is met in the word at `a`: the data are corrected, and so is the word, but for one of the NVM, which only a
write of R492 changes (R503, R507; DEDUCED, log 41). -/
def State.eccFix (s : State) (a : Nat) : State :=
  if 0x10000000 ≤ a then { s with ce := s.ce.filter (fun x => x != a) }.eccCe else s.eccCe

/-- A unit reads the word at `a` for itself: an error in it is counted, a correctable one corrected. -/
def State.meet (s : State) (a : Nat) : State :=
  if s.ue.contains a then s.eccUe a (s.eccMem a) false else if s.ce.contains a then s.eccFix a else s

/-- The words of a list are read. -/
def State.meetAll (s : State) (l : List Nat) : State := l.foldl State.meet s

/-- An access reads the word at `a`: a correctable error in it is corrected. -/
def State.meetCe (s : State) (a : Nat) : State := if s.ce.contains a then s.eccFix a else s

/-- Engine `e` meets a correctable error in the word at `a`, if there is one (R132, R143). -/
def State.countCe (s : State) (e a : Nat) : State :=
  if s.ce.contains a then (s.incSat (aECC_CNT e) ECC_CNT.ce_cnt).eccFix a else s

/-- An uncorrectable error in the word at `a`, which engine `e` fetches or reads for itself (R132). -/
def State.countUe (s : State) (e a : Nat) : State := (s.incSat (aECC_CNT e) ECC_CNT.ue_cnt).eccUe a (s.eccMem a) false

/-- The Newt whose operand store, banks or context banks hold byte address `a`. -/
def memNewt (a : Nat) : Option Nat :=
  if 0x20000000 ≤ a ∧ a < 0x22000000 ∧ a % 0x200000 < 0x100000 then some ((a - 0x20000000) / 0x200000 * 16 + a % 0x200000 / 0x10000)
  else none

/-- Is `a` a word of the context banks of an engine (R504)? -/
def inCtx (a : Nat) : Bool :=
  ((memNewt a).isSome && decide (0xF400 ≤ a % 0x10000) && decide (a % 0x10000 < 0xF500)) ||
    (decide (0x100000000 ≤ a) && decide (a < 0x100002000) && decide (0x400 ≤ a % 0x1000) && decide (a % 0x1000 < 0x500))

/-- An access reads the word at `a`: a correctable error in it is corrected, and counted for the Newt whose memory it is (R503). -/
def State.metCe (s : State) (a : Nat) : State := match memNewt a with
  | some n => s.countCe n a
  | none => s.meetCe a

/-- An access meets an uncorrectable error in the word at `a` (R503). -/
def State.metUe (s : State) (a : Nat) : State := match memNewt a with
  | some n => s.countUe n a
  | none => s.eccUe a (s.eccMem a) false

/-- The first word of the `n` bytes at `a` that is uncorrectable. -/
def State.firstUe (s : State) (a n : Nat) : Option Nat :=
  if n = 0 then none
  else ((List.range ((a + n - 1) / 4 - a / 4 + 1)).map (fun i => 4 * (a / 4 + i))).find? (fun w => s.ue.contains w)

/-- A unit reads the `n` bytes at `a` for itself, up to an uncorrectable word among them, which is counted. -/
def State.noteUe (s : State) (a n : Nat) : State :=
  let ws := if n = 0 then [] else (List.range ((a + n - 1) / 4 - a / 4 + 1)).map (fun i => 4 * (a / 4 + i))
  match s.firstUe a n with
  | some w => (s.meetAll (ws.takeWhile (fun x => x != w))).meet w
  | none => s.meetAll ws

/-- A unit reads all of the `n` words at `a` for itself. -/
def State.noteAll (s : State) (a n : Nat) : State := s.meetAll ((List.range n).map (fun i => a + 4 * i))

end Sys2Proof.Machine
end

