-- ==== Sys2Proof/Machine/Timebase.lean ====
section
/-!
DEFINITION. The timebase (02_timebase.md): locking of its PLL, two-word reads, markers.
-/

namespace Sys2Proof.Machine

/-- Set the cause bit of each interval that ends, and tb_lossy with any of them (R37). -/
def State.endIntervals (s : State) : State :=
  let i := s.time
  let t := (((s.flagIf i.startup aTB_STATUS TB_STATUS.cause_startup).flagIf i.frost aTB_STATUS
    TB_STATUS.cause_frost).flagIf i.refclk aTB_STATUS TB_STATUS.cause_refclk).flagIf i.sys aTB_STATUS TB_STATUS.cause_sys
  let t := t.flagIf (i.startup || i.frost || i.refclk || i.sys) aTB_STATUS TB_STATUS.tb_lossy
  { t with time := { t.time with startup := false, frost := false, refclk := false, sys := false } }

/-- The timebase PLL locks: 1 ns counting resumes from the value TB has reached (R36, R37), and its READY bit sets. -/
def State.pllLock (s : State) : State :=
  ((s.set aTB_STATUS TB_STATUS.pll_locked 1).endIntervals).setReady 21 10 true

/-- Can the PLLs lock: they run once the trim load has ended (R465), with edges of the reference that the last POR
chose (R538), outside reset and FROST? -/
def State.pllRuns (s : State) : Bool :=
  decide (2 ≤ s.rst.step) && !s.rst.refLost && !s.rst.active && s.mode != .frost

/-- PLL_LOCK. -/
def execPllLock (s : State) : Host.Outcome State Fault Refusal :=
  .next (if s.pllRuns && !s.locked then s.pllLock else s)

/-- Does TBSYNC_OUT rise in this tick: at each TB multiple of 20 ns (R538)? -/
def State.tbsyncRises (s : State) : Bool := s.tb % 20 == 0

/-- PLL_LOCKED_ALL: the system, timebase and link PLLs are locked (R465). -/
def execPllLockedAll (s : State) : Host.Outcome State Fault Refusal :=
  .next (if s.pllRuns then
    ((if s.locked then s else s.pllLock).setReady 21 11 true).setReady 21 12 true else s)

/-! ### Two-word reads (R40, R41) -/

/-- The address of a counter's low word. -/
def ctrLo : Counter64 → Nat
  | .tb => aTB_LO
  | .cap c => aCAP_LO c
  | .slice n => aSL_CNT n
  | .cgLast g => aCG_LAST_LO g
  | .rstTb => aRST_TB_LO
  | .wakeTb => aWAKE_TB_LO

/-- The address of a counter's high word. -/
def ctrHi : Counter64 → Nat
  | .tb => aTB_HI
  | .cap c => aCAP_HI c
  | .slice n => aSL_CNT (n + 1)
  | .cgLast g => aCG_LAST_HI g
  | .rstTb => aRST_TB_HI
  | .wakeTb => aWAKE_TB_HI

/-- The island of a counter. -/
def ctrIsl : Counter64 → Nat
  | .tb | .rstTb | .wakeTb => islAON
  | .cap c => islTIM (c / 8)
  | .slice n => islTIM (n / 16)
  | .cgLast _ => islSYS

/-- The present count of slice `n`: its high-word count when it is chained (R320), else its position (R277); 0 while it
is stopped (R281). -/
def State.sliceCount (s : State) (n : Nat) : Word :=
  let x := s.slice n
  if s.chained n then x.hi
  else if x.counting then BitVec.ofInt 32 (x.countAt (s.slMode n) (min s.tb (x.endTick (s.slMode n) - 1)))
  else 0

/-- Is the counter read as two words: the slice pair only while the odd slice is chained (R320)? -/
def State.paired (s : State) : Counter64 → Bool
  | .slice n => s.chained (n + 1)
  | _ => true

/-- What capture channel `c` held before a capture of the present tick, if there was one: a read of that tick takes effect before it
(R319). -/
def State.capOld (s : State) (c : Nat) : Option CapOld := match sget none s.trip.caps c with
  | some x => if x.tick = s.tb then some x else none
  | none => none

/-- The low word of a counter. -/
def State.lowWord (s : State) : Counter64 → Word
  | .tb => s.tbLo
  | .slice n => s.sliceCount n
  | .cap c => match s.capOld c with
    | some x => x.lo
    | none => s.reg (aCAP_LO c)
  | c => s.reg (ctrLo c)

/-- The high word of the same tick. -/
def State.highWord (s : State) : Counter64 → Word
  | .tb => s.tbHi
  | .slice n => s.sliceCount (n + 1)
  | .cap c => match s.capOld c with
    | some x => x.hi
    | none => s.reg (aCAP_HI c)
  | c => s.reg (ctrHi c)

/-- What a read of a low word changes: the requester's shadow (R40), and for a capture register that it has been read
(R318); a capture of the same tick comes after it, so that its value is unread and overwrites nothing (R319). -/
def State.lowEffect (s : State) (q : Req) (c : Counter64) : State :=
  let t := if s.paired c then s.latch (ctrHi c) q (s.highWord c) else s
  match c with
  | .cap k => match s.capOld k with
    | some x => t.setB (aCAP_STATUS k) CAP_STATUS.ovr x.ovr
    | none => t.set (aCAP_STATUS k) CAP_STATUS.unread 0
  | _ => t

/-- A read of the low word of a 64-bit counter. -/
def rdLow (q : Req) (c : Counter64) (s : State) : State :=
  s.read q (ctrIsl c) 3 (fun s => s.lowWord c) (fun s => s.lowEffect q c)

/-- LOW_WORD_READ. -/
def execLowWordRead (q : Req) (c : Counter64) (s : State) : Host.Outcome State Fault Refusal := .next (s.crossTo q false (ctrLo c) 0 (rdLow q c))

/-- CAP_LO_READ. -/
def execCapLoRead (q : Req) (c : Fin 32) (s : State) : Host.Outcome State Fault Refusal := .next (s.crossTo q false (aCAP_LO c) 0 (rdLow q (.cap c)))

/-! ### Markers (R47, R48) -/

/-- Marker `m` starts to watch from now: its setting has come into force, or its boundaries so far are taken. -/
def State.markFrom (s : State) (m t : Nat) : State :=
  { s with time := { s.time with markSeen := sput 0 m t s.time.markSeen } }

/-- The tick in which a marker of period 2^k fires for the boundaries passed since `seen`: its last boundary; the first tick after a
forward step that passed it (R48); the first 40 ns step at or past it while the AON oscillator counts. -/
def State.markTick (s : State) (k seen : Nat) : Option Nat :=
  let b := s.tb / 2 ^ k * 2 ^ k
  if b ≤ seen then none
  else if !s.locked then some s.tb
  else if s.dueTick b ≤ s.tb then some (s.dueTick b)
  else none

/-- TBMARK_FIRE: marker `m` fires once for the boundaries that TB has reached since it last fired. It waits for a commit that is due by
then, whose setting governs that tick (R332). -/
def execTbmarkFire (m : Fin 14) (s : State) : Host.Outcome State Fault Refusal :=
  .next (if !(s.on (aTBMARK_CFG m) TBMARK_CFG.en && s.alive islAON) then s
    else match s.markTick (s.get (aTBMARK_CFG m) TBMARK_CFG.k) (sget 0 s.time.markSeen m) with
      | some t => if s.commitOwed t then s else (s.markFrom m s.tb).fireAt (2032 + m) t
      | none => s)

end Sys2Proof.Machine
end

