-- ==== Sys2Proof/Machine/Conversion.lean ====
section
/-!
DEFINITION. Conversion (03_conversion.md): references, sampling groups, correction, delivery, sigma-delta inputs.
-/

namespace Sys2Proof.Machine

/-! ### References (R52, R53) -/

/-- Apply `f` for each of a list of indices in turn. -/
def State.each (s : State) (l : List Nat) (f : State → Nat → State) : State := l.foldl f s

/-- Did the trim record of the function with READY bit `b` of word `w` conflict (R466)? -/
def State.trimBad (s : State) (w b : Nat) : Bool := s.trimConflicts.contains (32 * w + b)

/-- Firmware changes the source of reference `g`: its converters' READY bits and its own clear (R53). -/
def State.refUnsettle (s : State) (g : Nat) : State :=
  (s.each (List.range 8) (fun s j => s.setReady 8 (8 * g + j) false)).setReady 21 (16 + g) false

/-- A write to REF_CFG: each group whose source changes unsettles. -/
def wrRefCfg (q : Req) (w : Word) (s : State) : State :=
  let old := s.get aREF_CFG REF_CFG.int_en
  s.writeFields q islANA 3 aREF_CFG fREF_CFG w (fun t =>
    t.each ((List.range 4).filter (fun g => old.testBit g != (t.get aREF_CFG REF_CFG.int_en).testBit g))
      State.refUnsettle)

/-- REF_CFG_WRITE. -/
def execRefCfgWrite (q : Req) (w : Word) (s : State) : Host.Outcome State Fault Refusal := .next (s.crossTo q true aREF_CFG w (wrRefCfg q w))

/-- Can converter or sigma-delta input `k` (READY word `w`) act: released, trimmed, its record not in conflict? -/
def State.anaUsable (s : State) (w k : Nat) : Bool :=
  s.alive islANA && s.on aLOAD_STATUS LOAD_STATUS.trim_done && !s.trimBad w k &&
    !s.blkBusy (if w = 8 then 2 else 3) k

/-- VREF_SETTLED: the reference of group `g` has settled, and its converters' READY bits set again (R53). -/
def execVrefSettled (g : Fin 4) (s : State) : Host.Outcome State Fault Refusal :=
  .next (if s.alive islANA && !s.isReady 21 (16 + g) && !s.trimBad 21 (16 + g) then
    (s.setReady 21 (16 + g) true).each ((List.range 8).filter (fun j => s.anaUsable 8 (8 * g + j)))
      (fun t j => t.setReady 8 (8 * g + j) true) else s)

/-! ### Sampling groups (R55 to R64) -/

/-- Does converter `k` convert in low-power mode at its next trigger: its lp bit, or LULL or WATCH, also halted (R55, R478, R479)? -/
def State.lpWanted (s : State) (k : Nat) : Bool :=
  s.on (aCONV_CTRL k) CONV_CTRL.lp || s.clkMode == .lull || s.clkMode == .watch

/-- Is converter `k` an enabled, READY member of group `g` (R63)? -/
def State.isMember (s : State) (g k : Nat) : Bool :=
  s.on (aCONV_SG k) CONV_SG.member && s.get (aCONV_SG k) CONV_SG.group == g &&
    s.on (aCONV_CTRL k) CONV_CTRL.en && s.isReady 8 k

/-- The members of group `g` that act on a trigger. -/
def State.members (s : State) (g : Nat) : List Nat := (List.range 32).filter (fun k => s.isMember g k)

/-- Does member `k` take no sample because it is leaving low-power mode (R55)? -/
def State.lpLeaving (s : State) (k : Nat) : Bool := (s.conv k).lpMode && !s.lpWanted k

/-- What member `k` latches at the trigger tick (R59). -/
def State.latchMember (s : State) (k g seq sample : Nat) : Convn :=
  { seq := seq, mux := s.get (aCONV_CTRL k) CONV_CTRL.mux, lp := s.lpWanted k,
    ou := s.get (aCONV_OU k) CONV_OU.ou, gu := s.get (aCONV_GU k) CONV_GU.gu,
    feedEn := s.on (aCONV_BIND k) CONV_BIND.feed_en,
    eng := 16 * s.get (aCONV_BIND k) CONV_BIND.clutch + s.get (aCONV_BIND k) CONV_BIND.newt,
    word := s.get (aCONV_BIND k) CONV_BIND.word, group := g, sample := sample }

/-- Is converter `k` still in its 1 µs busy interval at tick `t` (R55)? -/
def State.lpBusyAt (s : State) (k t : Nat) : Bool := match (s.conv k).lpBusy with
  | some b => decide (t < b)
  | none => false

/-- Member `k` takes the trigger of tick `t`: it follows its lp setting, or starts the 1 µs busy interval of R55. A member that was moved
to another group within that interval: the spec ties busy to the group of the trigger that began it (R61), so the new group takes its
trigger, and the member, busy, takes no sample of it (DESIGN CHOICE, log 51). -/
def State.takeTrigger (s : State) (t : Nat) (k : Nat) : State :=
  let c := s.conv k
  if s.lpBusyAt k t then s
  else
    let s' := s.set (aCONV_STATUS k) CONV_STATUS.busy 1
    if s.lpLeaving k then s'.setConv k { c with lpMode := false, lpBusy := some (t + 1000) }
    else s'.setConv k { c with lpMode := s.lpWanted k, lpBusy := none }

/-- Group `g` takes a trigger at tick `t` (R56 to R62). -/
def State.trigger (s : State) (g t : Nat) : State :=
  let ms := s.members g
  let seq := s.get (aSG_SEQ g) SG_SEQ.next_seq
  let sample := t + s.get (aSG_DELAY g) SG_DELAY.delay
  let sampling := ms.filter (fun k => !s.lpLeaving k && !s.lpBusyAt k t)
  let busy := sample + (if sampling.any (fun k => s.lpWanted k) then 800 else 50)
  let busy := if ms.any (fun k => s.lpLeaving k && !s.lpBusyAt k t) then max busy (t + 1000) else busy
  let ts := sampling.map (fun k => (k, s.latchMember k g seq sample))
  let trig : Trig := { tick := t, sample := sample, seq := seq, members := ts, sampled := false, waiting := [] }
  let u := (s.incWrap (aSG_SEQ g) SG_SEQ.next_seq).set (aSG_STATUS g) SG_STATUS.last_seq seq
  (u.setGroup g { trig := some trig, busyUntil := busy }).each ms (fun x k => x.takeTrigger t k)

/-- Does an edge that arrived in tick `t` at input `i` join the input's last activation (R111)? -/
def State.joins (s : State) (i t : Nat) : Bool := match sget none s.fab.last i with
  | some u => decide (u ≤ t) && decide (t < u + 2)
  | none => false

/-- The trigger input of group `g` takes an activation: its merge window opens, it is counted, and an enabled group triggers. -/
def State.acceptTrigger (s : State) (g : Nat) (a : Act) : State :=
  let t := ({ s with fab := { s.fab with last := sput none (2080 + g) (some a.arr) s.fab.last } }).incWrap (aFAB_CTL (2080 + g))
    FAB_CTL.act_cnt
  if t.on (aSG_CTRL g) SG_CTRL.en then t.trigger g a.take else t

/-- SG_TRIGGER_TICK: an edge at the trigger input of group `g` is judged in the tick it would take (R61): it joins the last
activation, is an overrun while the group is busy, or activates the input. It waits for a commit of that tick (R59). -/
def execSgTriggerTick (g : Fin 16) (s : State) : Host.Outcome State Fault Refusal :=
  match s.actFor (2080 + g) with
  | none => .next s
  | some a =>
    let t := s.dropAct a
    .next (if s.commitOwed a.take then s
      else if s.joins (2080 + g) a.arr then t.set (aFAB_CTL (2080 + g)) FAB_CTL.merge 1
      else if a.take < (s.group g).busyUntil then (t.set (aSG_STATUS g) SG_STATUS.ovr 1).overrun (2080 + g)
      else t.acceptTrigger g a)

/-- Sigma-delta inputs in group mode whose group is `g` (R83). -/
def State.sdMembers (s : State) (g : Nat) : List Nat :=
  (List.range 32).filter (fun k => s.on (aSD_CTRL k) SD_CTRL.en && s.on (aSD_CTRL k) SD_CTRL.trig_mode &&
    s.get (aSD_CTRL k) SD_CTRL.group == g)

/-- SAMPLING_INSTANT: all members that take the trigger hold their inputs (R57); a group without one fires its done
producer 45 ns later (R62, R64). A converter that was moved here from another group while a conversion of that group is under way: the
spec does not say what becomes of it; the later conversion takes its place, so that only its result comes, and the done producer of the
first group, which waits for the other, does not fire (DESIGN CHOICE, log 51). -/
def execSamplingInstant (g : Fin 16) (s : State) : Host.Outcome State Fault Refusal :=
  match (s.group g).trig with
  | none => .next s
  | some tr =>
    if tr.sampled || decide (s.tb < tr.sample) then .next s
    else
      let t := (s.setReg (aSG_STAMP g) (BitVec.ofNat 32 tr.sample)).setGroup g { s.group g with
        trig := some { tr with sampled := true, waiting := tr.members.map (·.1) } }
      let t := tr.members.foldl (fun u m => u.setConv m.1 { u.conv m.1 with cur := some m.2 }) t
      let t := t.each (s.sdMembers g) (fun u k => u.setSdm k { u.sdm k with insts := (u.sdm k).insts ++ [tr.sample] })
      .next (if tr.members.isEmpty then t.fireAt (736 + g) (tr.sample + 45) else t)

/-! ### Correction and delivery (R65 to R78) -/

/-- Round a fraction n / 2^36 to nearest, ties away from zero (R66). -/
def roundAway36 (n : Int) : Int := if 0 ≤ n then (n + 2 ^ 35) / 2 ^ 36 else -((-n + 2 ^ 35) / 2 ^ 36)

/-- The raw code as a number: unsigned single-ended, signed differential (R51, R66). -/
def rawValue (mux : Nat) (raw : BitVec 16) : Int := if mux = 3 then raw.toInt else raw.toNat

/-- The rounded correction of a raw code (R66, R67): Of and Ou in 1/16 LSB, Gf and Gu in 2^-16. -/
def correct (raw : Int) (of ou : Int) (gf gu : Nat) : Int :=
  roundAway36 (((raw * 16 - of) * gf - ou * 2 ^ 16) * gu)

/-- Saturation to the value format (R66). -/
def saturateTo (lo hi v : Int) : Int := if v < lo then lo else if hi < v then hi else v

/-- The value and range bit of a result (R66, R69). -/
def convValue (mux : Nat) (raw : BitVec 16) (of ou : Int) (gf gu : Nat) : Int × Bool :=
  let v := correct (rawValue mux raw) of ou gf gu
  let w := if mux = 3 then saturateTo (-32768) 32767 v else saturateTo 0 65535 v
  let ends := if mux = 3 then raw == 0x8000#16 || raw == 0x7FFF#16 else raw == 0#16 || raw == 0xFFFF#16
  (w, ends || v != w)

/-- The input number of R51. -/
def inputNumber (k mux : Nat) : Nat := if mux = 3 then 96 + k else 3 * k + mux

/-- The result word of R65. -/
def resultWord (seq input : Nat) (range : Bool) (v : Int) : Word :=
  BitVec.ofNat 8 seq ++ BitVec.ofNat 7 input ++ BitVec.ofBool range ++ BitVec.ofInt 16 v

/-- A limit as a number in the value format (R78). -/
def limitValue (mux v : Nat) : Int := if mux = 3 then signed 16 v else v

/-- The byte address of operand-store word `w` of Newt `e` (R27). -/
def storeAddr (e w : Nat) : Nat := 0x20000000 + e / 16 * 0x200000 + e % 16 * 0x10000 + 4 * w

/-- A feed write becomes pending, in place of an older one (R70, R73). -/
def newFeed (eng word : Nat) (v : Word) (ready group : Nat) : Feed :=
  { eng := eng, word := word, val := v, ready := ready, group := group }

/-- Limit checks of one result (R78): the runs beyond each limit, and whether the count condition holds for each. DESIGN CHOICE (log
37): the spec does not say what becomes of the runs while lim_en is 0; here a result that comes with lim_en 0 ends both, and they
are kept while no result comes. -/
def State.limits (s : State) (k mux : Nat) (v : Int) : Nat × Nat × Bool × Bool :=
  if s.on (aCONV_LIMCFG k) CONV_LIMCFG.lim_en then
    let n := s.get (aCONV_LIMCFG k) CONV_LIMCFG.lim_cnt
    let hi := if limitValue mux (s.get (aCONV_LIMIT k) CONV_LIMIT.lim_hi_val) < v then (s.conv k).runHi + 1 else 0
    let lo := if v < limitValue mux (s.get (aCONV_LIMIT k) CONV_LIMIT.lim_lo_val) then (s.conv k).runLo + 1 else 0
    (hi, lo, decide (n < hi), decide (n < lo))
  else (0, 0, false, false)

/-- Does EV(704 + k) fire at a result (R75)? -/
def State.convFires (s : State) (k : Nat) (pushed : Bool) (cond : Bool) : Bool :=
  match s.get (aCONV_CTRL k) CONV_CTRL.done_mode with
  | 0 => true
  | 1 => pushed && (s.conv k).fifo.length + 1 == s.get (aCONV_CTRL k) CONV_CTRL.fifo_wm
  | _ => cond

/-- Member `k` of a trigger of group `g` is done: with the last one the group done producer fires at tick `t` (R64). -/
def State.groupDone (s : State) (g k t : Nat) : State :=
  match (s.group g).trig with
  | some tr =>
    if tr.waiting.contains k then
      let left := tr.waiting.filter (fun j => j != k)
      let u := s.setGroup g { s.group g with trig := some { tr with waiting := left } }
      if left.isEmpty then u.fireAt (736 + g) t else u
    else s
  | none => s

/-- The feed write `f` of converter (`sd` false) or sigma-delta input `k` as a transfer to its Newt's clutch (R73). -/
def feedXfer (sd : Bool) (k : Nat) (f : Feed) : Xfer :=
  { eng := f.eng, cg := 0, st := { kind := .feed sd k f.group, addr := storeAddr f.eng f.word, data := f.val, size := 0, ring := 0 } }

/-- The handshake FIFO toward the clutch of feed write `f` is full (R18, R73). -/
def State.feedFull (s : State) (f : Feed) : Bool := decide (8 ≤ (s.fifo islANA (engIsl f.eng)).length)

/-- Feed write `f` is written into the handshake FIFO toward its clutch. -/
def State.pushFeed (s : State) (sd : Bool) (k : Nat) (f : Feed) : State :=
  s.setFifo islANA (engIsl f.eng) (s.fifo islANA (engIsl f.eng) ++ [feedXfer sd k f])

/-- A flag of the converter, or of the sigma-delta input, `k`. -/
def State.feedFlag (s : State) (sd : Bool) (k : Nat) (err : Bool) : State :=
  if sd then s.set (aSD_STATUS k) (if err then SD_STATUS.feed_err else SD_STATUS.feed_ovr) 1
  else s.set (aCONV_STATUS k) (if err then CONV_STATUS.feed_err else CONV_STATUS.feed_ovr) 1

/-- A new result finds the feed write `old` of the last one still pending: it has left by now if its FIFO had room, and is discarded
with feed_ovr if not; a clutch that takes nothing drops it with feed_err (R73). -/
def State.flushFeed (s : State) (sd : Bool) (k : Nat) (old : Option Feed) : State := match old with
  | none => s
  | some f => if !s.reach (engIsl f.eng) then s.feedFlag sd k true
    else if s.feedFull f then s.feedFlag sd k false
    else s.pushFeed sd k f

/-- The feed of a result of converter `k` (R70, R73). -/
def State.feedResult (s : State) (k : Nat) (c : Convn) (w : Word) (t : Nat) : State :=
  if !c.feedEn then s
  else if !s.reach (engIsl c.eng) then s.set (aCONV_STATUS k) CONV_STATUS.feed_err 1
  else
    let u := s.flushFeed false k (s.conv k).feed
    u.setConv k { u.conv k with feed := some (newFeed c.eng c.word w (t + 1) c.group) }

/-- A result of converter `k` is delivered at tick `t` (R70 to R78). -/
def State.deliver (s : State) (k : Nat) (c : Convn) (raw : BitVec 16) (t : Nat) : State :=
  let (v, range) := convValue c.mux raw (signed 20 (s.get (aCONV_OF k) CONV_OF.of)) (signed 20 c.ou)
    (s.get (aCONV_GF k) CONV_GF.gf) c.gu
  let w := resultWord c.seq (inputNumber k c.mux) range v
  let (hi, lo, condH, condL) := s.limits k c.mux v
  let full := decide (32 ≤ (s.conv k).fifo.length)
  let fires := s.convFires k (!full) (condH || condL)
  let fifo := if full then (s.conv k).fifo else (s.conv k).fifo ++ [w]
  let a := aCONV_STATUS k
  let u := (((((s.setReg (aCONV_MBOX k) w).flagIf range a CONV_STATUS.range).flagIf condH a CONV_STATUS.lim_hi).flagIf
    condL a CONV_STATUS.lim_lo).flagIf full a CONV_STATUS.fifo_ovf).set a CONV_STATUS.busy 0
  let u := (u.set a CONV_STATUS.fifo_level fifo.length).setConv k
    { s.conv k with
      fifo := fifo, runHi := hi, runLo := lo, cur := none
      push := some { tick := t, word := w, before := (s.conv k).fifo, ovf := s.on a CONV_STATUS.fifo_ovf } }
  let u := u.feedResult k c w t
  ((if fires then u.fireAt (704 + k) t else u)).groupDone c.group k t

/-- CONVERSION_DONE: the conversion of `k` ends, 45 ns after its sampling instant, or 760 ns in low-power mode (R54). -/
def execConversionDone (k : Fin 32) (raw : BitVec 16) (s : State) : Host.Outcome State Fault Refusal :=
  match (s.conv k).cur with
  | none => .next s
  | some c =>
    let t := c.sample + (if c.lp then 760 else 45)
    .next (if s.tb < t then s else s.deliver k c raw t)

/-- A feed writes the operand-store word at byte address `a`: it lands after a store of the Newt in the same tick (R70, R72). -/
def State.feedWord (s : State) (a : Nat) (v : Word) : State :=
  { s.memWrite a 4 v with cyc := s.cyc.setFed s.tb a }

/-- A feed write leaves the analog island: dropped when the clutch takes nothing; into the operand store when nothing goes before
it, the clutch's clock runs and its memories are initialised; else into the handshake FIFO (R70, R73, R467). -/
def State.sendFeed (s : State) (sd : Bool) (k : Nat) (f : Feed) : State :=
  if !s.reach (engIsl f.eng) then s.feedFlag sd k true
  else if (s.fifo islANA (engIsl f.eng)).isEmpty && !s.relocking (f.eng / 16) && !s.initAt (storeAddr f.eng f.word) then s.feedWord (storeAddr f.eng f.word) f.val
  else s.pushFeed sd k f

/-- Can a feed write leave now: its cycle has come, and its FIFO is not full? -/
def State.feedGoes (s : State) (f : Feed) : Bool :=
  decide (f.ready ≤ s.tb) && (!s.reach (engIsl f.eng) || !s.feedFull f)

/-- FEED_WRITE: of converter `k`, or of sigma-delta input `k`. -/
def execFeedWrite (sd : Bool) (k : Fin 32) (s : State) : Host.Outcome State Fault Refusal :=
  if sd then
    match (s.sdm k).feed with
    | some f => .next (if s.feedGoes f then (s.setSdm k { s.sdm k with feed := none }).sendFeed true k f else s)
    | none => .next s
  else
    match (s.conv k).feed with
    | some f => .next (if s.feedGoes f then (s.setConv k { s.conv k with feed := none }).sendFeed false k f else s)
    | none => .next s

/-- LP_BUSY_END: the 1 µs of R55 ends. -/
def execLpBusyEnd (k : Fin 32) (s : State) : Host.Outcome State Fault Refusal :=
  match (s.conv k).lpBusy with
  | some b => .next (if b ≤ s.tb then
      (s.setConv k { s.conv k with lpBusy := none }).set (aCONV_STATUS k) CONV_STATUS.busy 0 else s)
  | none => .next s

/-- What a read of CONV_FIFO finds: the FIFO, as it stood before a push of the same tick (R77). -/
def State.fifoSeen (s : State) (k : Nat) : List Word := match (s.conv k).push with
  | some p => if p.tick = s.tb then p.before else (s.conv k).fifo
  | none => (s.conv k).fifo

/-- The word a read of CONV_FIFO returns: the oldest result, 0 when there is none (R76). -/
def State.fifoHead (s : State) (k : Nat) : Word := (s.fifoSeen k).headD 0

/-- A read pops a FIFO that no push of the same tick meets. -/
def State.popAlone (s : State) (k : Nat) : State :=
  match (s.conv k).fifo with
  | [] => s
  | _ :: r => (s.setConv k { s.conv k with fifo := r }).set (aCONV_STATUS k) CONV_STATUS.fifo_level r.length

/-- Does a push onto `fifo` make EV(704 + k) fire under done_mode 1 (R75)? -/
def State.pushFires (s : State) (k : Nat) (fifo : List Word) : Bool :=
  s.get (aCONV_CTRL k) CONV_CTRL.done_mode == 1 && decide (fifo.length < 32) &&
    fifo.length + 1 == s.get (aCONV_CTRL k) CONV_CTRL.fifo_wm

/-- The firing of producer `p` in tick `t` did not take place. -/
def State.unfire (s : State) (p t : Nat) : State :=
  { s with fab := { s.fab with
      edges := s.fab.edges.filter (fun e => e.producer != p || e.tick != t)
      recent := s.fab.recent.filter (fun x => x.1 != p || x.2 != t) } }

/-- A read in the tick of the push `p` takes effect first: the FIFO is popped, then the word pushed, and fifo_ovf and the done event
follow from that order (R77). -/
def State.popBefore (s : State) (k : Nat) (p : Push) : State :=
  let l := p.before.tail
  let u := (s.setConv k { s.conv k with fifo := l ++ [p.word], push := some { p with before := l } }).set (aCONV_STATUS k)
    CONV_STATUS.fifo_level (l.length + 1)
  let u := if 32 ≤ p.before.length then u.setB (aCONV_STATUS k) CONV_STATUS.fifo_ovf p.ovf else u
  if s.pushFires k p.before == s.pushFires k l then u
  else if s.pushFires k l then u.fireAt (704 + k) p.tick else u.unfire (704 + k) p.tick

/-- A read of CONV_FIFO pops the oldest result, or sets fifo_unf (R76, R77). -/
def State.fifoPop (s : State) (k : Nat) : State :=
  let u := s.flagIf (s.fifoSeen k).isEmpty (aCONV_STATUS k) CONV_STATUS.fifo_unf
  match (s.conv k).push with
  | some p => if p.tick = s.tb then u.popBefore k p else u.popAlone k
  | none => u.popAlone k

/-- A read of CONV_FIFO. -/
def rdConvFifo (q : Req) (k : Nat) (s : State) : State := s.read q islANA 3 (fun s => s.fifoHead k) (fun s => s.fifoPop k)

/-- CONV_FIFO_POP. -/
def execConvFifoPop (q : Req) (k : Fin 32) (s : State) : Host.Outcome State Fault Refusal :=
  .next (s.crossTo q false (aCONV_FIFO k) 0 (rdConvFifo q k))

/-! ### Sigma-delta inputs (R80 to R85) -/

/-- Does sigma-delta input `k` run: enabled, READY, its clock driven (R81, R469)? -/
def State.sdRuns (s : State) (k : Nat) : Bool :=
  s.on (aSD_CTRL k) SD_CTRL.en && s.isReady 9 k && s.on (aSDC_CFG (s.get (aSD_CTRL k) SD_CTRL.clk_sel)) SDC_CFG.en

/-! The clocks (R80, R81) -/

/-- The divider of clock SDCm. -/
def State.sdcDiv (s : State) (m : Nat) : Nat := s.get (aSDC_CFG m) SDC_CFG.div

/-- The level of ball SDCm: high for div/2 ns, or (div + 1)/2, of each period from the tick its clock started in, low while en is 0. -/
def State.sdcLevel (s : State) (m : Nat) : Bool :=
  s.on (aSDC_CFG m) SDC_CFG.en && decide ((s.tb - sget 0 s.cv.sdc m) % s.sdcDiv m < (s.sdcDiv m + 1) / 2)

/-- The clock that input `k` runs on. -/
def State.sdClk (s : State) (k : Nat) : Nat := s.get (aSD_CTRL k) SD_CTRL.clk_sel

/-- The first rising edge of input `k`'s clock at or after tick `t`. A commit that changes clk_sel or trig_mode of a running input keeps
its bits and counts, and goes on with the edges of the clock now selected: R81 names only a disabled clock and a changed div (DESIGN
CHOICE, log 35). -/
def State.sdEdge (s : State) (k t : Nat) : Nat :=
  let o := sget 0 s.cv.sdc (s.sdClk k)
  let d := s.sdcDiv (s.sdClk k)
  if t ≤ o then o else o + (t - o + d - 1) / d * d

/-! The filters (R82 to R85) -/

/-- How many ways three numbers below `n` add up to `j`: the weight of the `j`-th newest bit in a sinc3 filter with decimation `n`. -/
def sinc3Weight (n j : Nat) : Int :=
  let tri (i : Int) : Int := if i < 0 then 0 else (i + 1) * (i + 2) / 2
  tri j - 3 * tri ((j : Int) - n) + 3 * tri ((j : Int) - 2 * n)

/-- A sinc3 filter with decimation `n` over bits, newest first: a 1 counts +1 and a 0 counts −1 (R82). -/
def sinc3 (n : Nat) (bits : List Bool) : Int :=
  ((bits.take (3 * n - 2)).mapIdx (fun j b => if b then sinc3Weight n j else -(sinc3Weight n j))).sum

/-- The feed of a sigma-delta result (R83). -/
def State.sdFeed (s : State) (k : Nat) (w : Word) : State :=
  let a := aSD_BIND k
  let e := 16 * s.get a SD_BIND.clutch + s.get a SD_BIND.newt
  if !s.on a SD_BIND.feed_en then s
  else if !s.reach (engIsl e) then s.set (aSD_STATUS k) SD_STATUS.feed_err 1
  else
    let u := s.flushFeed true k (s.sdm k).feed
    u.setSdm k { u.sdm k with feed := some (newFeed e (s.get a SD_BIND.word) w (s.tb + 1) 0) }

/-- The data filter of input `k` completes a result (R82, R83). -/
def State.sdResult (s : State) (k : Nat) : State :=
  let x := s.sdm k
  let w := BitVec.ofInt 32 (sinc3 (s.get (aSD_CTRL k) SD_CTRL.osr) (x.bits.take x.n) / 2 ^ s.get (aSD_CTRL k) SD_CTRL.shift)
  (((s.setSdm k { x with cnt := 0, first := false, owed := false }).setReg (aSD_DATA k) w).sdFeed k w).fire (768 + k)

/-- Does the data filter of input `k` complete a result with the bit it has just taken: in group mode the 3·osr-th after an instant, in
continuous mode the 3·osr-th after a restart and then every osr-th (R81, R83)? -/
def State.sdDue (s : State) (k : Nat) : Bool :=
  let x := s.sdm k
  let osr := s.get (aSD_CTRL k) SD_CTRL.osr
  if s.on (aSD_CTRL k) SD_CTRL.trig_mode then x.owed && decide (3 * osr ≤ x.cnt)
  else decide ((if x.first then 3 * osr else osr) ≤ x.cnt)

/-- A restart of the data filter at a sampling instant before edge `e` discards what it has accumulated (R83). -/
def Sdm.restart (x : Sdm) (e : Nat) : Sdm :=
  if x.insts.any (fun t => decide (t < e)) then
    { x with n := 0, cnt := 0, first := true, owed := true, insts := x.insts.filter (fun t => decide (e ≤ t)) }
  else x

/-- For how many consecutive clocks the input has held its value, up to 64, once it samples `b` (R85); a restart of the filters does not
end the count. -/
def Sdm.sameBits (x : Sdm) (b : Bool) : Nat := if x.lastBit = some b then min (x.same + 1) 64 else 1

/-- Input `k` samples bit `b` at rising edge `e` of its clock (R81): stuck is judged, and the data filter may complete a result. -/
def State.sdBit (s : State) (k e : Nat) (b : Bool) : State :=
  let x := (s.sdm k).restart e
  let u := s.setSdm k { x with
    next := e + 1, bits := (b :: x.bits).take 766, n := min (x.n + 1) 766, cnt := min (x.cnt + 1) 768
    lastBit := some b, same := x.sameBits b }
  let u := u.flagIf (decide (64 ≤ x.sameBits b)) (aSD_STATUS k) SD_STATUS.stuck
  if u.sdDue k then u.sdResult k else u

/-- Input `k` samples `bits`, in order, at the next rising edges of its clock, each `skew` after its edge (R81); a bit whose moment has
not come is not sampled. -/
def State.sdBits (s : State) (k : Nat) : List Bool → State
  | [] => s
  | b :: l =>
    let e := s.sdEdge k (s.sdm k).next
    if e + s.get (aSD_CTRL k) SD_CTRL.skew ≤ s.tb then (s.sdBit k e b).sdBits k l else s

/-- The modulator clocks of input `k` that bring `bits`, if it runs. -/
def State.sdClocks (s : State) (k : Nat) (bits : List Bool) : State := if s.sdRuns k then s.sdBits k bits else s

/-- SD_DATA_RESULT: `bits` are the levels of ball SDDk at the modulator clocks since the last command, the last of which completes a
result of the data filter (R83); whatever else follows from them follows too. -/
def execSdDataResult (k : Fin 32) (bits : List Bool) (s : State) : Host.Outcome State Fault Refusal := fin s (s.sdClocks k bits)

/-- SD_FAST_LEVEL_CHANGE: the same, up to a bit at which a fast level changes (R84); the levels are those of `sdfH` and `sdfL`. -/
def execSdFastLevelChange (k : Fin 32) (bits : List Bool) (s : State) : Host.Outcome State Fault Refusal := fin s (s.sdClocks k bits)

/-- SD_STUCK: the same, up to the 64th bit of one value (R85). -/
def execSdStuck (k : Fin 32) (bits : List Bool) (s : State) : Host.Outcome State Fault Refusal := fin s (s.sdClocks k bits)

/-- Both filters of input `k` restart: its next edge is the first from now (R81). -/
def State.sdRestart (s : State) (k : Nat) : State :=
  let x := s.sdm k
  s.setSdm k { x with next := s.tb, bits := [], n := 0, cnt := 0, first := true }

/-- The clock SDCm stops, starts or changes its period: it runs anew from now, and the filters of the inputs that select it restart
(R81). -/
def State.sdcChanged (s : State) (m : Nat) : State :=
  ({ s with cv := { s.cv with sdc := sput 0 m s.tb s.cv.sdc } }).each
    ((List.range 32).filter (fun k => s.get (aSD_CTRL k) SD_CTRL.clk_sel == m)) State.sdRestart

/-- A write to SDC_CFG. -/
def wrSdcCfg (q : Req) (m : Nat) (w : Word) (s : State) : State :=
  settle s (s.writeFields q islANA 3 (aSDC_CFG m) fSDC_CFG w (fun t =>
    if t.reg (aSDC_CFG m) = s.reg (aSDC_CFG m) then t else t.sdcChanged m))

/-- A write to SD_CTRL: an input that is enabled starts its filters anew. -/
def wrSdCtrl (q : Req) (k : Nat) (w : Word) (s : State) : State :=
  settle s (s.writeFields q islANA 3 (aSD_CTRL k) fSD_CTRL w (fun t =>
    if t.on (aSD_CTRL k) SD_CTRL.en && !s.on (aSD_CTRL k) SD_CTRL.en then t.sdRestart k else t))

/-- A write to SD_FAST. -/
def wrSdFast (q : Req) (k : Nat) (w : Word) (s : State) : State :=
  settle s (s.writeFields q islANA 3 (aSD_FAST k) fSD_FAST w (fun t => t))

/-! ### References in FROST (R52, R101) -/

/-- Does the internal source drive the ball VREFg (R101, R463): int_en selects it, and it is past the ANA release, or in FROST where an
enabled comparator of the group needs it? -/
def State.vrefDriven (s : State) (g : Nat) : Bool :=
  s.mode != .reset && (s.get aREF_CFG REF_CFG.int_en).testBit g && (if s.mode = .frost then
    (List.range 24).any (fun j => s.on (aWM_CFG (24 * g + j)) WM_CFG.en_h || s.on (aWM_CFG (24 * g + j)) WM_CFG.en_l)
  else s.alive islANA)

end Sys2Proof.Machine
end

