-- ==== Sys2Proof/Machine/Monitors.lean ====
section
/-!
DEFINITION. Window monitors (04_window_monitors.md): comparator outputs, event stages, thresholds, blanking windows.
Comparator 2·nn is WMnnH and 2·nn + 1 is WMnnL.
-/

namespace Sys2Proof.Machine

/-- The comparator index of one of the two comparators of input `nn`. -/
def compIdx (nn : Nat) (low : Bool) : Nat := 2 * nn + low.toNat

/-- Is comparator `i` enabled (R92)? -/
def State.wmEnabled (s : State) (i : Nat) : Bool :=
  s.on (aWM_CFG (i / 2)) (if i % 2 = 0 then WM_CFG.en_h else WM_CFG.en_l)

/-- The READY bit of the monitor pair of input `nn` (R470). -/
def State.wmReady (s : State) (nn : Nat) : Bool := s.isReady (10 + nn / 32) (nn % 32)

/-- The blanking window that the event stage of comparator `i` selects, if it applies one. -/
def State.wmWindow (s : State) (i : Nat) : Option Nat :=
  let a := aWM_CFG (i / 2)
  if i % 2 = 0 then (if s.on a WM_CFG.bwen_h then some (s.get a WM_CFG.bw_h) else none)
  else if s.on a WM_CFG.bwen_l then some (s.get a WM_CFG.bw_l) else none

/-- Is the event stage of comparator `i` blanked now? -/
def State.wmBlanked (s : State) (i : Nat) : Bool := match s.wmWindow i with
  | some w => (s.win w).openTick.isSome
  | none => false

/-- Does the edge field of comparator `i` select a change to level `l` (R94)? -/
def State.wmEdge (s : State) (i : Nat) (l : Bool) : Bool :=
  let e := s.get (aWM_CFG (i / 2)) (if i % 2 = 0 then WM_CFG.edge_h else WM_CFG.edge_l)
  if l then e % 2 == 1 else 2 ≤ e

/-- Does the change of comparator `i`'s output end a pulse shorter than 2 ns for which the event stage has fired already (R94)? -/
def State.shortPulse (s : State) (i : Nat) : Bool := match (s.comp i).fired with
  | some t => decide (s.tb < t + 2)
  | none => false

/-- The output of comparator `i` takes level `l`: its event stage fires on a selected edge that no window hides, at most once for a
pulse shorter than 2 ns (R94, R98). A pulse shorter than 2 ns may or may not fire: the model always fires at its first selected edge
(DESIGN CHOICE, log 38). -/
def State.setComparator (s : State) (i : Nat) (l : Bool) : State :=
  if (s.comp i).level = l then s
  else
    let fires := s.wmEdge i l && !s.wmBlanked i && !s.shortPulse i
    (s.setComp i { s.comp i with level := l, since := s.tb, fired := if fires then some s.tb else none }).fireIf fires (512 + i)

/-! ### Operating points (R88 to R90) -/

/-- The code plus both offsets of comparator `i`, before saturation (R90). -/
def State.rawCode (s : State) (i : Nat) : Int :=
  let nn := i / 2
  if i % 2 = 0 then (s.get (aWM_THR nn) WM_THR.thr_h : Int) + signed 8 (s.get (aWM_TRIM nn) WM_TRIM.tf_h) +
      signed 8 (s.get (aWM_TRIM nn) WM_TRIM.tu_h)
  else (s.get (aWM_THR nn) WM_THR.thr_l : Int) + signed 8 (s.get (aWM_TRIM nn) WM_TRIM.tf_l) +
      signed 8 (s.get (aWM_TRIM nn) WM_TRIM.tu_l)

/-- The applied code that the DAC of comparator `i` carries (R90). -/
def State.appliedCode (s : State) (i : Nat) : Int := saturateTo 0 4095 (s.rawCode i)

/-- The code as written of comparator `i`. -/
def State.thrCode (s : State) (i : Nat) : Nat :=
  s.get (aWM_THR (i / 2)) (if i % 2 = 0 then WM_THR.thr_h else WM_THR.thr_l)

/-- The code at which comparator `i` operates: the offsets cancel the comparator's own, so that it is the code as written unless the
applied code saturates (R89, R90). -/
def State.pointCode (s : State) (i : Nat) : Int := s.thrCode i + (s.appliedCode i - s.rawCode i)

/-- The hysteresis h of comparator `i` in µV (R89). -/
def State.hyst (s : State) (i : Nat) : Nat :=
  match s.get (aWM_CFG (i / 2)) (if i % 2 = 0 then WM_CFG.hyst_h else WM_CFG.hyst_l) with
  | 0 => 0
  | 1 => 4000
  | 2 => 8000
  | _ => 16000

/-- The level that comparator `i` puts out for what its ball and its reference carry: past Vth = code / 4096 · VREF it is 1; past the
release point, which lies h further on the other side, it is 0; between the two it keeps its level (R88). All voltages are in
µV; `x.off` and `x.hyst` are how far the operating point and the hysteresis lie from their nominal values. -/
def State.wmOut (s : State) (i : Nat) (x : WmInput) : Bool :=
  let v := 4096 * (x.vin - x.off)
  let th := s.pointCode i * x.vref
  let h := 4096 * ((s.hyst i : Int) + x.hyst)
  if i % 2 = 0 then (if th < v then true else if v < th - h then false else (s.comp i).level)
  else if v < th then true else if th + h < v then false else (s.comp i).level

/-- Are the deviations within their guarantees: ±2.0 mV of the operating point (R89), ±25 % of the hysteresis (R541)? -/
def State.wmWithin (s : State) (i : Nat) (x : WmInput) : Bool :=
  decide (x.off.natAbs ≤ 2000) && decide (4 * x.hyst.natAbs ≤ s.hyst i)

/-- WM_OUTPUT_CHANGE: the input voltage of ball `nn`, after the delay of R95, gives the comparator's output; one that is disabled, not
READY or still settling puts out 0 (R88, R92). -/
def execWmOutputChange (nn : Fin 96) (low : Bool) (x : WmInput) (s : State) : Host.Outcome State Fault Refusal :=
  let i := compIdx nn low
  fin s (if s.wmEnabled i && s.wmReady nn && (s.comp i).settle == none && s.wmWithin i x then s.setComparator i (s.wmOut i x) else s)

/-- WM_ENABLE_SETTLED: 1 µs after its enable the comparator follows its input (R92). -/
def execWmEnableSettled (nn : Fin 96) (low : Bool) (x : WmInput) (s : State) : Host.Outcome State Fault Refusal :=
  let i := compIdx nn low
  fin s (match (s.comp i).settle with
    | some t => if t ≤ s.tb && s.wmEnabled i && s.wmWithin i x then
        let u := s.setComp i { s.comp i with settle := none }
        if u.wmReady nn then u.setComparator i (u.wmOut i x) else u
      else s
    | none => s)

/-- An enable of comparator `i` changed from `was`: it settles for 1 µs, or puts out 0 (R92). -/
def State.wmEnableChange (s : State) (i : Nat) (was : Bool) : State :=
  if s.wmEnabled i && !was then s.setComp i { s.comp i with settle := some (s.tb + 1000) }
  else if !s.wmEnabled i && was then
    let u := s.setComparator i false
    u.setComp i { u.comp i with settle := none }
  else s

/-- A write to WM_CFG. -/
def wrWmCfg (q : Req) (nn : Nat) (w : Word) (s : State) : State :=
  let h := s.wmEnabled (2 * nn)
  let l := s.wmEnabled (2 * nn + 1)
  settle s (s.writeFields q islAON 3 (aWM_CFG nn) fWM_CFG w (fun t =>
    (t.wmEnableChange (2 * nn) h).wmEnableChange (2 * nn + 1) l))

/-! ### Threshold writes (R91) -/

/-- A code reaches the DACs of input `nn`: sat_h and sat_l set where saturation changes it (R90). DESIGN CHOICE (log 38): an AON island
reset, which returns WM_THR to its reset value under offsets that stay, is not taken as such an application, so that it leaves sat_h
and sat_l at their reset value 0 whatever the applied code is. -/
def State.applyThr (s : State) (nn : Nat) : State :=
  (s.flagIf (s.appliedCode (2 * nn) != s.rawCode (2 * nn)) (aWM_STATUS nn) WM_STATUS.sat_h).flagIf
    (s.appliedCode (2 * nn + 1) != s.rawCode (2 * nn + 1)) (aWM_STATUS nn) WM_STATUS.sat_l

/-- The fields of WM_THR as a monitor with ld_imm = 1 has them: written directly (R91). -/
def fWM_THRdirect : List Fld := [{ WM_THR.thr_h with acc := .rw }, { WM_THR.thr_l with acc := .rw }]

/-- A threshold write by requester `r`, carrying group `g`: applied directly or staged (R91). -/
def State.thrWrite (s : State) (r g nn : Nat) (w : Word) : State × Bool :=
  if s.on (aWM_CFG nn) WM_CFG.ld_imm then
    let (t, e) := s.storeFields r g (aWM_THR nn) fWM_THRdirect w
    (t.applyThr nn, e)
  else s.storeFields r g (aWM_THR nn) fWM_THR w

/-- A far write to WM_THR. -/
def wrWmThr (q : Req) (nn : Nat) (w : Word) (s : State) : State :=
  if s.admits q islAON then
    let (t, e) := s.thrWrite (reqNum q) (s.rsel (reqNum q)) nn w
    t.reply q e 0
  else s.refuse q

/-- WM_THR_WRITE. -/
def execWmThrWrite (q : Req) (nn : Fin 96) (w : Word) (s : State) : Host.Outcome State Fault Refusal :=
  .next (s.crossTo q true (aWM_THR nn) w (wrWmThr q nn w))

/-! ### Blanking windows (R98 to R100) -/

/-- Comparator `i`'s event stage takes window `w`. -/
def State.stageOf (s : State) (w i : Nat) : Bool := s.wmWindow i == some w

/-- Did window `w`, open before tick `t`, close in it? -/
def State.closedIn (s : State) (w t : Nat) : Bool := (s.win w).lastClose == t && decide ((s.win w).lastOpen < t)

/-- Window `w` opens in tick `t`: each event stage that takes it keeps its level (R98, R100). An open event has no effect in a tick in
which the window is open, has a close event, or, open before, is closed by anything: for an expiry of max_len, a stop and a commit the
spec does not say so, and the model takes the row of the close event (DESIGN CHOICE, log 39). -/
def State.openWin (s : State) (w t : Nat) : State :=
  if !s.on (aBW_CFG w) BW_CFG.en || (s.win w).openTick.isSome || (s.win w).closeEv == some t || s.closedIn w t then s
  else
    let u := (s.setWin w { s.win w with openTick := some t }).set (aBW_STATUS w) BW_STATUS.open_ 1
    u.each ((List.range 192).filter (fun i => s.stageOf w i))
      (fun v i => v.setComp i { v.comp i with opening := some (v.comp i).level })

/-- The event stage of comparator `i` at the close of its window in tick `t`: it fires once if the input differs from its level at
the opening and its edge field selects that change (R100). DESIGN CHOICE (log 39): the spec does not speak of a stage that comes to
select, or ceases to select, a window that is open; here such a stage has no level of the opening, and fires nothing at the close. -/
def State.stageClose (s : State) (t i : Nat) : State :=
  let x := s.comp i
  let fires := match x.opening with
    | some o => o != x.level && s.wmEdge i x.level
    | none => false
  let u := s.setComp i { x with opening := none, fired := if fires then some x.since else x.fired }
  if fires then u.fireAt (512 + i) t else u

/-- Window `w` closes in tick `t`. -/
def State.closeWin (s : State) (w t : Nat) : State :=
  match (s.win w).openTick with
  | none => s
  | some o =>
    let u := (s.setWin w { s.win w with openTick := none, lastOpen := o, lastClose := t }).set (aBW_STATUS w)
      BW_STATUS.open_ 0
    u.each ((List.range 192).filter (fun i => s.stageOf w i)) (fun v i => v.stageClose t i)

/-- A close compare event of window `w` in tick `t`; an expiry in the same tick does not set forced (R100). -/
def State.closeEvent (s : State) (w t : Nat) : State :=
  let u := s.closeWin w t
  let u := if (s.win w).forcedAt == some t then u.set (aBW_STATUS w) BW_STATUS.forced 0 else u
  u.setWin w { u.win w with closeEv := some t, forcedAt := none }

/-- The blanking settings of comparator input `nn` change, its word having been `old`: a stage that selects another window has no
level of that window's opening. -/
def State.wmReselect (s : State) (nn : Nat) (old : Word) : State :=
  let moved (e f : Fld) : Bool := getBits old e != s.get (aWM_CFG nn) e || getBits old f != s.get (aWM_CFG nn) f
  let drop (t : State) (i : Nat) : State := t.setComp i { t.comp i with opening := none }
  let t := if moved WM_CFG.bwen_h WM_CFG.bw_h then drop s (2 * nn) else s
  if moved WM_CFG.bwen_l WM_CFG.bw_l then drop t (2 * nn + 1) else t

/-- The compare event `c` (0 to 3, CMPA to CMPD) of slice `n` fires in tick `t`: windows close, then open (R98). `also` tells which
compare events of the slice fire in the same tick: a window whose close event is one of them stays closed (R100). -/
def State.windowEvents (s : State) (n c t : Nat) (also : Nat → Bool) : State :=
  let of (u : State) (f : Fld) : List Nat := (List.range 32).filter (fun w =>
    u.on (aBW_CFG w) BW_CFG.en && u.get (aBW_CFG w) BW_CFG.slice == n && u.get (aBW_CFG w) f == c)
  let u := s.each (of s BW_CFG.close_cmp) (fun u w => u.closeEvent w t)
  u.each ((of s BW_CFG.open_cmp).filter (fun w => !also (u.get (aBW_CFG w) BW_CFG.close_cmp))) (fun u w => u.openWin w t)

/-- Slice `n` stops or is reset in tick `t`: its open windows close (R100). -/
def State.closeWinsOf (s : State) (n t : Nat) : State :=
  s.each ((List.range 32).filter (fun w => s.get (aBW_CFG w) BW_CFG.slice == n)) (fun u w => u.closeWin w t)

/-- BW_MAX_LEN_EXPIRY: a window that has been open for max_len ns closes and forced sets (R100). An open compare event of the same
tick has no effect, whichever of the two commands comes first (`openWin`, log 39). -/
def execBwMaxLenExpiry (w : Fin 32) (s : State) : Host.Outcome State Fault Refusal :=
  let m := s.get (aBW_CFG w) BW_CFG.max_len
  let o := (s.win w).openTick.getD 0
  .next (settleAt (o + m) s (match (s.win w).openTick with
    | some o =>
      if m ≠ 0 ∧ o + m ≤ s.tb then
        let was := s.on (aBW_STATUS w) BW_STATUS.forced
        let u := (s.closeWin w (o + m)).set (aBW_STATUS w) BW_STATUS.forced 1
        u.setWin w { u.win w with forcedAt := if was then none else some (o + m) }
      else s
    | none => s))

/-- A write to BW_CFG: while en is 0 the window is closed. -/
def wrBwCfg (q : Req) (w : Nat) (v : Word) (s : State) : State :=
  settle s (s.writeFields q (islTIM (s.get (aBW_CFG w) BW_CFG.slice / 16)) 3 (aBW_CFG w) fBW_CFG v (fun t =>
    if t.on (aBW_CFG w) BW_CFG.en then t else t.closeWin w t.tb))

end Sys2Proof.Machine
end

