-- ==== Sys2Proof/Machine/Pwm.lean ====
section
/-!
DEFINITION. PWM slices (11_pwm_slices.md): capture of writes, load points, periods, events, actions, stagger groups.
-/

namespace Sys2Proof.Machine

/-! ### Settings -/

/-- The address of CMPA to CMPD (c = 0 to 3) of slice `n`. -/
def aCMP (n c : Nat) : Nat := aCMPA n + 4 * c

/-- The address of edge-list entry `j` of output A or B. -/
def aEL (n : Nat) (outB : Bool) (j : Nat) : Nat := if outB then aELB n j else aELA n j

/-- The code of the tokens of `Slice.acted`. -/
def elToken (outB : Bool) (j : Nat) : Nat := 8 + 8 * outB.toNat + j

/-- Time of an edge-list entry (R287). -/
def elNs (w : Word) : Nat := getBits w ELA.ns
def elFine (w : Word) : Nat := getBits w ELA.fine

/-- Does a slice compare in its counter now: counting and not the high word of a pair? -/
def State.slCounting (s : State) (n : Nat) : Bool := (s.slice n).counting && !s.chained n

/-- The dead-time setting of slice `n` (R288): stage on, RED, FED in fine steps. -/
def State.deadTime (s : State) (n : Nat) : Nat × Nat × Nat :=
  (s.get (aSL_OUT n) SL_OUT.dt_mode, (s.reg (aSL_DTR n)).toNat % 2 ^ 17, (s.reg (aSL_DTF n)).toNat % 2 ^ 17)

/-! ### Actions and events -/

/-- An action on an output of slice `n` (R284, R285): code 0 is no action. -/
def State.act (s : State) (n : Nat) (outB : Bool) (tick time : Int) (prio code : Nat) : State :=
  if code = 0 then s
  else
    let (dt, red, fed) := s.deadTime n
    s.setSlice n ((s.slice n).action { outB := outB, tick := tick, time := time, prio := prio, code := code, dt := dt,
                                       red := red, fed := fed })

/-- The action fields of both outputs at bit `b` of SL_AQA and SL_AQB act in `tick` at fine offset `f` (R284); in
EDGELIST they drive no output. -/
def State.qualify (s : State) (n b : Nat) (tick f : Int) (prio : Nat) : State :=
  if s.slMode n = 3 then s
  else
    let time := 128 * tick + f + (s.slice n).phi
    (s.act n false tick time prio ((s.reg (aSL_AQA n)).toNat / 2 ^ b % 4)).act n true tick time prio
      ((s.reg (aSL_AQB n)).toNat / 2 ^ b % 4)

/-- Hardware sets a flag of slice `n` in tick `t`. -/
def State.sliceFlag (s : State) (n : Nat) (f : Fld) (t : Int) : State :=
  (s.set (aSL_STATUS n) f 1).setSlice n { s.slice n with flagTick := sput none f.lo (some t) (s.slice n).flagTick }

/-- Event `e` of slice `n` fires in tick `t`: its producer and its flag (R104, R299). -/
def State.sliceEvent (s : State) (n e : Nat) (t : Int) (f : Fld) : State := (s.sliceFlag n f t).fireAt (8 * n + e) t.toNat

/-- The flag of compare event `c`. -/
def cmpFlag (c : Nat) : Fld :=
  if c = 0 then SL_STATUS.cmpa_f else if c = 1 then SL_STATUS.cmpb_f
  else if c = 2 then SL_STATUS.cmpc_f else SL_STATUS.cmpd_f

/-- The compare event of CMP `c` in `tick`: windows, producer, action at fine offset `f` (R98, R283, R284). -/
def State.compareEvent (s : State) (n c : Nat) (down : Bool) (tick f : Int) (also : Nat → Bool) : State :=
  ((s.sliceEvent n (2 + c) tick (cmpFlag c)).windowEvents n c tick.toNat also).qualify n (4 + 4 * c + 2 * down.toNat) tick f
    (2 + c)

/-- The period event in `tick` (R276). -/
def State.periodEvent (s : State) (n : Nat) (tick : Int) : State :=
  (s.sliceEvent n 1 tick SL_STATUS.per_f).qualify n 2 tick 0 1

/-! ### Load points (R279) -/

/-- The load-point field of a register of slice `n`, by its address. -/
def loadFld (n a : Nat) : Fld :=
  let o := a - aSL_CTRL n
  if o = 0x20 then SL_LOAD.ld_a else if o = 0x24 then SL_LOAD.ld_b else if o = 0x28 then SL_LOAD.ld_c
  else if o = 0x2C then SL_LOAD.ld_d else if o = 0x30 then SL_LOAD.ld_per else if o = 0x34 then SL_LOAD.ld_phs
  else SL_LOAD.ld_el

/-- The load point of the register at `a`: 0 IMMEDIATE, 1 ZERO, 2 PERIOD, 3 ZERO_OR_PERIOD, 4 COMMIT. -/
def State.loadPoint (s : State) (n a : Nat) : Nat := s.get (aSL_LOAD n) (loadFld n a)

/-- Does load point `lp` of the register at `a` load at the boundary before a zero tick? -/
def loadsAtZero (mode lp : Nat) (per : Bool) : Bool := lp == 1 || lp == 3 || (lp == 2 && (mode != 1 || per))

/-- Does it load at the boundary before the tick with count p, in UPDOWN? For PER itself PERIOD is as ZERO. -/
def loadsAtPeak (lp : Nat) (per : Bool) : Bool := !per && (lp == 2 || lp == 3)

/-- The action of a compare or edge-list value in the sweep that tick `g` belongs to. -/
def Slice.presentAction (x : Slice) (mode : Nat) (g : Int) (el : Bool) (v fc : Nat) : Option (Int × Int) :=
  if x.downAt mode g && !el then x.downAction v fc else x.upAction v fc

/-- Judge the value of token `k` that governs from tick `g` (R290): passed, it acts in `g`; otherwise it acts in its own
tick, whether or not the old value has acted; in the down sweep its up action is over. A value passed in `g` that another of the same
edge replaces does not act (R292). A value that comes to govern where the count is
held does not act there (R277, R294), and so not in this period: R290 is read as bounded by that rule (DEDUCED, log 40). -/
def Slice.judge (x : Slice) (mode : Nat) (g : Int) (k : Nat) (el : Bool) (v fc : Nat) : Slice :=
  if !x.counting then x
  else if x.lastTick mode < g then { x with acted := (if el then [k] else [k, 4 + k]) ++ x.acted }
  else
    let down := x.downAt mode g && !el
    let k' := if down then 4 + k else k
    let clear := (if down then [k] else []) ++ x.acted.filter (fun j => j != k' && (down || el || j != 4 + k))
    let kept := x.passed.filter (fun p => p.1 != k' || decide (p.2 < g))
    match x.presentAction mode g el v fc with
    | some (t, _) =>
      if t < g then { x with acted := k' :: clear, passed := x.passed.filter (fun p => p.1 != k') ++ [(k', g)] }
      else { x with acted := clear, passed := kept }
    | none => { x with acted := clear, passed := kept }

/-- A new PER governs from tick `g` (R291). The answer names the tick that the period event fires in because of it, if it does: `g`,
or the period's own tick by then, if that event is still to be taken. One that governs from the zero tick
of the next period on changes nothing in this one. -/
def Slice.newPer (x : Slice) (mode p fp : Nat) (g : Int) : Slice × Option Int :=
  let owed := if x.perPend && decide (x.perTick mode ≤ g) then some (x.perTick mode) else none
  if !x.counting then ({ x with p := p, fp := fp }, none)
  else if x.endTick mode ≤ g then (x, none)
  else if g = x.z && x.zeroPend then ({ x with p := p, fp := fp }, none)
  else
    let c := x.countAt mode g
    if mode ≠ 1 then
      if (p : Int) ≤ c then
        ({ x with s := 128 * g + x.phi, p := p, fp := fp, noFine := false, downFrom := none, zeroPend := true,
                  perPend := true, acted := [], passed := [] }, some g)
      else ({ x with p := p, fp := fp, noFine := decide (x.z < g) }, none)
    else if x.downAt mode g then
      ({ x with p := p, fp := fp, noFine := true, downFrom := some (g, c.toNat), acted := [0, 1, 2, 3] ++ x.acted
                perPend := x.perPend && owed.isNone }, owed)
    else if (p : Int) < c then
      ({ x with p := p, fp := fp, noFine := true, downFrom := some (g, (c - 1).toNat), perPend := false }, some g)
    else ({ x with p := p, fp := fp, noFine := decide (x.z < g) }, none)

/-- Does a synchronisation, or the start of a ONESHOT, take slice `n` in tick `g`? Its position then governs the tick (R292). -/
def State.syncDue (s : State) (n : Nat) (g : Int) : Bool :=
  s.fab.acts.any (fun a => (a.input == 2192 + n || (a.input == 3000 + n && s.slMode n == 2)) && (a.take : Int) == g) ||
    (s.slice n).writes.any (fun w => w.addr == aSL_CTRL n && (w.arrive : Int) + 2 == g &&
      (getBits w.val SL_CTRL.sw_sync == 1 || (getBits w.val SL_CTRL.sw_start == 1 && s.slMode n == 2)))

/-- The value `v` of a compare, of PHS or of an edge-list entry, at `a`, comes to govern slice `n` from tick `g` (R278, R290). -/
def State.governsValue (s : State) (n a : Nat) (v : Word) (g : Int) : State :=
  let o := a - aSL_CTRL n
  let u := s.setReg a v
  let x := u.slice n
  let m := s.slMode n
  if 0x20 ≤ o && o < 0x30 then u.setSlice n (x.judge m g ((o - 0x20) / 4) false (timeNs v) (timeFine v))
  else if 0x80 ≤ o && o < 0xC0 then
    u.setSlice n (x.judge m g (8 + (o - 0x80) / 4) true (elNs v) (elFine v))
  else u

/-- Every address of slice `n` that has a load point: compares, PER, PHS, edge lists. -/
def loadAddrs (n : Nat) : List Nat :=
  (List.range 6).map (fun i => aCMPA n + 4 * i) ++ (List.range 16).map (fun i => aELA n 0 + 4 * i)

/-- The shadow of the register at `a` is loaded. -/
def State.dropShadow (s : State) (n a : Nat) : State :=
  s.setSlice n { s.slice n with shadow := sput none a none (s.slice n).shadow }

/-- The period event of slice `n` in tick `t`, before which, in UPDOWN, the shadows of PERIOD and ZERO_OR_PERIOD load (R276, R279). -/
def State.reachPeriod (s : State) (n : Nat) (t : Int) : State :=
  let u := if s.slMode n = 1 then s.each ((loadAddrs n).filter (fun a => loadsAtPeak (s.loadPoint n a) (a == aPER n))) (fun u a =>
      match sget none (u.slice n).shadow a with
      | some v => (u.dropShadow n a).governsValue n a v t
      | none => u) else s
  u.periodEvent n t

/-- The value `v` of the register at `a` comes to govern slice `n` from tick `g` (R278, R290, R291). -/
def State.governs (s : State) (n a : Nat) (v : Word) (g : Int) : State :=
  if a = aPER n then
    let u := s.setReg a v
    if s.member n || s.syncDue n g then u
    else
      let r := (u.slice n).newPer (s.slMode n) (timeNs v) (timeFine v) g
      match r.2 with
      | some t => (u.setSlice n r.1).reachPeriod n t
      | none => u.setSlice n r.1
  else s.governsValue n a v g

/-- Shadows whose load point satisfies `f` load and govern from tick `g`, PER first (R279, R292). -/
def State.loadShadows (s : State) (n : Nat) (g : Int) (f : Nat → Bool → Bool) : State :=
  let as := [aPER n] ++ (loadAddrs n).filter (fun a => a != aPER n)
  s.each as (fun u a =>
    match sget none (u.slice n).shadow a with
    | some v =>
      if f (u.loadPoint n a) (a == aPER n) then (u.dropShadow n a).governs n a v g
      else u
    | none => u)

/-! ### Starting, stopping, synchronising (R280 to R282) -/

/-- The tokens of every compare and edge-list entry whose action tick in the present period lies before `t`. -/
def State.skipped (s : State) (n : Nat) (x : Slice) (t : Int) : List Nat :=
  let m := s.slMode n
  let before (r : Option (Int × Int)) : Bool := match r with
    | some (a, _) => decide (a < t)
    | none => false
  let cw (c : Nat) : Word := s.reg (aCMP n c)
  (List.range 4).filter (fun c => before (x.upAction (timeNs (cw c)) (timeFine (cw c)))) ++
  ((List.range 4).filter (fun c => m == 1 && before (x.downAction (timeNs (cw c)) (timeFine (cw c))))).map (4 + ·) ++
  ((List.range 16).filter (fun i => before (x.upAction (elNs (s.reg (aELA n 0 + 4 * i))) 0))).map (8 + ·)

/-- The position that PHS gives (R280): in [0, len). -/
def State.position (s : State) (n : Nat) (p fp : Nat) : Int :=
  let m := s.slMode n
  let len : Int := periodLen m p fp
  let ph : Int := (s.reg (aPHS n)).toNat
  if m = 1 && s.on (aSL_CTRL n) SL_CTRL.sync_dir then (256 * p - ph) % len else ph % len

/-- The position of slice `n` is set in tick `ts` (R280). A ONESHOT that is set past its count p − 1 has no count left to take: it holds
count 0, armed (R282; DEDUCED, log 40). -/
def State.synchronise (s : State) (n : Nat) (ts : Int) : State :=
  let (p, fp) := s.periodOf n
  let x := s.slice n
  let y := { x with s := 128 * ts - s.position n p fp, p := p, fp := fp, noFine := false, downFrom := none, passed := [] }
  let y := { y with zeroPend := y.z == ts, perPend := decide (ts ≤ y.perTick (s.slMode n)) }
  let y := { y with counting := y.counting && (s.slMode n != 2 || y.perPend) }
  s.setSlice n { y with acted := s.skipped n y ts }

/-- A synchronisation in tick `ts`; at a stagger member it is discarded and sets stg_err (R293). -/
def State.sync (s : State) (n : Nat) (ts : Int) : State :=
  if s.member n then s.sliceFlag n SL_STATUS.stg_err ts else s.synchronise n ts

/-- The outputs of a slice that starts from a stop are at 0 (R281). -/
def Slice.freshOutputs (x : Slice) : Slice := { x with wave := {}, acts := [] }

/-- The slice counts: what a BLK reset holds low is free (R300). -/
def Slice.count (x : Slice) : Slice := { x with counting := true, blkLow := false }

/-- Slice `n` begins to count in tick `t`, as if synchronised (R281); ONESHOT is armed; a stagger member waits for its
first start (R294). -/
def State.runFrom (s : State) (n : Nat) (t : Int) : State :=
  let s := s.setSlice n { s.slice n with runPend := none }
  if s.member n then
    if s.stgBad n then s.sliceFlag n SL_STATUS.stg_err t
    else if s.stopping n then s
    else s.setSlice n { s.slice n with startAt := some (s.stgStart n (128 * t)) }
  else if s.slMode n = 2 then s.setSlice n { (s.slice n).freshOutputs with armed := true, started := false }
  else
    let u := s.synchronise n t
    u.setSlice n (u.slice n).freshOutputs.count

/-- Slice `n` stops at the boundary before tick `t` (R281): it holds count 0 and takes its idle levels; its windows
close (R100); the high word of its pair returns to 0 (R320). -/
def State.stopSlice (s : State) (n : Nat) (t : Nat) : State :=
  let x := s.slice n
  let u := s.setSlice n { x with counting := false, armed := false, started := false, zeroPend := false,
                                 perPend := false, startAt := none, runPend := none, noFine := false,
                                 downFrom := none, passed := [], acted := [], wave := {}, acts := [] }
  let u := u.closeWinsOf n t
  if n % 2 = 0 then u.setSlice (n + 1) { u.slice (n + 1) with hi := 0 } else u

/-- A start of slice `n` in tick `ta` (R282); at a stagger member it is discarded (R293). A position past count p − 1 leaves no count
to take: the slice holds count 0 at once, armed, and fires nothing. -/
def State.startSlice (s : State) (n : Nat) (ta : Int) : State :=
  let x := s.slice n
  if s.member n then
    let u := s.sliceFlag n SL_STATUS.stg_err ta
    if s.slMode n != 2 || x.counting || !s.on (aSL_CTRL n) SL_CTRL.run || !s.isReady (13 + n / 32) (n % 32) then
      u.sliceFlag n SL_STATUS.sovr ta else u
  else if s.slMode n = 2 && x.armed && !x.counting then
    let u := s.synchronise n ta
    let y := { (u.slice n).count with started := true }
    u.setSlice n { y with counting := decide (ta ≤ y.perTick 2) }
  else s.sliceFlag n SL_STATUS.sovr ta

/-- Must what slice `n` does in tick `t` by itself wait: for a write captured for that tick or before, for a synchronisation or start of
that tick, or for a commit due by then (R278, R280, R282, R292)? -/
def State.sliceHeld (s : State) (n : Nat) (t : Int) : Bool :=
  (s.slice n).writes.any (fun w => decide ((w.arrive : Int) + 2 ≤ t)) ||
    s.fab.acts.any (fun a => (a.input == 2192 + n || a.input == 3000 + n) && decide ((a.take : Int) ≤ t)) ||
    s.commitOwed t.toNat

/-- SLICE_RUN_START: run has come to govern as 1, or READY has set while run is 1 (R281). -/
def execSliceRunStart (n : Fin 64) (s : State) : Host.Outcome State Fault Refusal :=
  .next (settleAt ((s.slice n).runPend.getD s.tb) s (match (s.slice n).runPend with
    | some t => if t ≤ s.tb && s.on (aSL_CTRL n) SL_CTRL.run && s.isReady (13 + n / 32) (n % 32) && !s.chained n &&
        !s.sliceHeld n t then
        s.runFrom n t else s
    | none => s))

/-- SLICE_STOP: a counting slice that must stop does so at the end of its present period (R281, R294); a ONESHOT slice that
is not counting stops at once. -/
def execSliceStop (n : Fin 64) (s : State) : Host.Outcome State Fault Refusal :=
  let e := (s.slice n).endTick (s.slMode n)
  .next (if (s.slice n).counting && s.stopping n && decide (e ≤ s.tb) && !s.sliceHeld n e then settleAt e.toNat s (s.stopSlice n e.toNat)
    else if !(s.slice n).counting && (s.slice n).armed && s.stopping n then settle s (s.stopSlice n s.tb) else s)

/-- Is a write that governs slice `n` by tick `t`, or a commit due by then, still to be taken? A commit that waits for a zero tick of this
slice in `t` is not: the synchronisation or start decides whether `t` is one (R292, R330). -/
def State.captureOwed (s : State) (n t : Nat) : Bool :=
  (s.slice n).writes.any (fun w => decide (w.arrive + 2 ≤ t)) || s.commitOwed (t - 1) ||
    s.commitOwedBy (fun a => a.tc.isSome || a.slice != n) t

/-- SLICE_SYNC: an activation of consumer input 2192 + n (R280). -/
def execSliceSync (n : Fin 64) (s : State) : Host.Outcome State Fault Refusal :=
  .next (match s.actFor (2192 + n) with
    | some a => if s.captureOwed n a.take then s else settleAt a.take s ((s.dropAct a).sync n a.take)
    | none => s)

/-- SLICE_START: an activation of consumer input 3000 + n (R282). -/
def execSliceStart (n : Fin 64) (s : State) : Host.Outcome State Fault Refusal :=
  .next (match s.actFor (3000 + n) with
    | some a => if s.captureOwed n a.take then s else settleAt a.take s ((s.dropAct a).startSlice n a.take)
    | none => s)

/-! ### Writes that await their capture (R278, R279, R292) -/

/-- Where a write to one register is taken first among those captured at one edge (R292). -/
def writeRank (r : Nat) : Nat :=
  if r < 256 then 1 + r / 16 else if r < 258 then 17 + (r - 256) else if r < 322 then 0 else if r < 323 then 20 else 19

/-- Has the register at offset `o` a load point (R279)? -/
def hasLoad (o : Nat) : Bool := (0x20 ≤ o && o < 0x38) || (0x80 ≤ o && o < 0xC0)

/-- The bits of a register with a load point that exist: all of a compare, PER or PHS; an edge-list entry's fields. -/
def loadMask (o : Nat) (v : Word) : Word := if 0x80 ≤ o then v &&& 0xE1FFFFFF#32 else v

/-- The place of a write to offset `o` of a slice among those captured at one edge: PER first, then the other registers with a load
point, then the rest (R292). -/
def writeClass (o : Nat) : Nat := if o = 0x30 then 0 else if hasLoad o then 1 else 2

/-- Is write `w` of slice `n` captured before write `c`? -/
def SWrite.before (n : Nat) (w c : SWrite) : Bool :=
  let o (x : SWrite) : Nat := x.addr - aSL_CTRL n
  decide (w.arrive < c.arrive) || (w.arrive == c.arrive && (decide (writeClass (o w) < writeClass (o c)) ||
    (writeClass (o w) == writeClass (o c) && decide (writeRank w.xfer.eng < writeRank c.xfer.eng))))

/-- The next write that slice `n` captures: of those of the earliest edge, the first in the order of R292. -/
def Slice.nextWrite (x : Slice) (n : Nat) : Option SWrite :=
  x.writes.foldl (fun b w => match b with
    | none => some w
    | some c => if w.before n c then some w else b) none

/-! ### Zero, period and compare events -/

/-- A zone with ref_slice `n` in a zero tick of that slice (R304): CBC clears with its input 0, HOLD in the hold_n-th
such tick. -/
def State.zoneZero (s : State) (z : Nat) : State :=
  let m := s.get (aTZ_CFG z) TZ_CFG.mode
  let a := aTZ_STATUS z
  if !s.tripped z then s
  else if s.zoneInput z then (if m = 2 then s.set a TZ_STATUS.hold_left (s.get (aTZ_CFG z) TZ_CFG.hold_n) else s)
  else if m = 0 then s.set a TZ_STATUS.tripped 0
  else if m = 2 then
    let left := s.get a TZ_STATUS.hold_left - 1
    let u := s.set a TZ_STATUS.hold_left left
    if left = 0 then u.set a TZ_STATUS.tripped 0 else u
  else s

/-- Zone `z` sees a zero tick `t` of its ref_slice `n`: at once in its own timing island, 2 ticks later in another (R19, R304). -/
def State.zoneSees (s : State) (n t z : Nat) : State :=
  if z / 8 = n / 16 then s.zoneZero z
  else { s with trip := { s.trip with zeros := s.trip.zeros ++ [(z, t + 2)] } }

/-- The zero ticks of other islands that have reached their zones by now act, unless a commit of such a tick is still to be applied: they
are judged under what governs their tick (R304, R310, R332). -/
def State.zeroArrivals (s : State) : State :=
  let due (x : Nat × Nat) : Bool := decide (x.2 ≤ s.tb) && !s.commitOwed x.2
  (s.trip.zeros.filter due).foldl (fun t x => t.zoneZero x.1)
    { s with trip := { s.trip with zeros := s.trip.zeros.filter (fun x => !due x) } }

/-- An armed group with trigger SLICE takes the zero tick `t` of its slice `n` as its commit tick (R330). -/
def State.commitZero (s : State) (n t : Nat) : State :=
  s.each (List.range 32) (fun u g => match u.armedOf g with
    | some x =>
      if x.trig = 1 ∧ x.slice = n ∧ x.target = none ∧ x.ta + 200 ≤ t then
        u.setArmed g (some { x with target := some t, tc := some t })
      else u
    | none => u)

/-- The zero event of slice `n` in tick `t` (R276): its producer and action, the high word of its pair (R320), the zones
it paces (R304), the commit groups that wait for it (R330). -/
def State.zeroEvent (s : State) (n : Nat) (t : Int) : State :=
  let u := (s.setSlice n { s.slice n with zeroPend := false }).sliceEvent n 0 t SL_STATUS.zero_f
  let u := u.qualify n 0 t 0 0
  let u := if n % 2 = 0 && u.chained (n + 1) then u.setSlice (n + 1) { u.slice (n + 1) with hi := (u.slice (n + 1)).hi + 1 }
    else u
  let u := u.each ((List.range 32).filter (fun z => u.get (aTZ_CFG z) TZ_CFG.ref_slice == n)) (fun v z => v.zoneSees n t.toNat z)
  (u.commitZero n t.toNat).zeroArrivals

/-- The shadows of slice `n` whose load point is its zero tick `z` load at the boundary before it (R278, R279). -/
def State.zeroLoad (s : State) (n : Nat) (z : Int) : State := s.loadShadows n z (fun lp per => loadsAtZero (s.slMode n) lp per)

/-- A new period of slice `n` starts at fine step `st`: the shadows of ZERO load, then the zero event fires. -/
def State.newPeriod (s : State) (n : Nat) (st : Int) : State :=
  let u := s.setSlice n { s.slice n with s := st, noFine := false, downFrom := none, zeroPend := true, perPend := true,
                                         acted := [], passed := [], startAt := none }
  let u := u.zeroLoad n (st / 128)
  let (p, fp) := u.periodOf n
  let u := u.setSlice n { u.slice n with p := p, fp := fp }
  u.zeroEvent n (st / 128)

/-- A start scheduled at fine step `st`: one whose tick a forward step of TB passed takes place at the start of the first tick after the
step (R48). -/
def State.dueStart (s : State) (st : Int) : Int := match s.passed (st / 128).toNat with
  | some e => 128 * ((e : Int) + 1)
  | none => st

/-- What a slice has decided for its balls keeps its distance in time over a forward step of TB by `d` ticks. -/
def Slice.shiftWave (x : Slice) (d : Nat) : Slice :=
  let out (o : Out) : Out := { o with pend := o.pend.map (fun e => (e.1 + 128 * d, e.2)) }
  { x with wave := { x.wave with outA := out x.wave.outA, outB := out x.wave.outB }
           acts := x.acts.map (fun r => { r with tick := r.tick + d, time := r.time + 128 * d }) }

/-- A forward step of TB by `d` ticks comes (R48). A slice of no stagger group counts ticks, of which the step adds none, so that its
schedule moves with TB (DEDUCED, log 50). The starts of a stagger member stay at their TB values (R293): what the step passes of its
compares and entries acts in the first tick after it. -/
def State.stepSlice (s : State) (d n : Nat) : State :=
  let x := (s.slice n).shiftWave d
  if s.member n then
    let ks := if x.counting then (s.skipped n x (s.tb + d + 1)).filter (fun k => !x.acted.contains k) else []
    s.setSlice n { x with acted := ks ++ x.acted, passed := x.passed ++ ks.map (fun k => (k, (s.tb + d + 1 : Int))) }
  else s.setSlice n { x with s := x.s + 128 * d, downFrom := x.downFrom.map (fun g => (g.1 + d, g.2))
                             passed := x.passed.map (fun p => (p.1, p.2 + d)) }

/-- The tick in which the period event due in tick `t` fires: the first after a forward step that passed it (R48). -/
def State.dueEvent (s : State) (t : Int) : Int := match s.passed t.toNat with
  | some e => e + 1
  | none => t

/-- SLICE_ZERO: slice `n` reaches count 0 (R276): a zero event still due in the present period, the next period, or the
first period of a stagger member. -/
def execSliceZero (n : Fin 64) (s : State) : Host.Outcome State Fault Refusal :=
  let x := s.slice n
  .next (if s.chained n then s
    else if x.counting && x.zeroPend then
      (if x.z ≤ s.tb && !s.sliceHeld n x.z then settleAt x.z.toNat s ((s.zeroLoad n x.z).zeroEvent n x.z) else s)
    else if x.counting && !s.stopping n && s.slMode n != 2 && !x.perPend && decide (s.dueStart (s.nextStart n) / 128 ≤ s.tb) &&
        !s.sliceHeld n (s.dueStart (s.nextStart n) / 128) then
      settleAt (s.dueStart (s.nextStart n) / 128).toNat s (s.newPeriod n (s.dueStart (s.nextStart n)))
    else match x.startAt with
      | some st =>
        if !x.counting && !s.stopping n && decide (s.dueStart st / 128 ≤ s.tb) && !s.sliceHeld n (s.dueStart st / 128) then
          settleAt (s.dueStart st / 128).toNat s ((s.setSlice n x.freshOutputs.count).newPeriod n (s.dueStart st))
        else s
      | none => s)

/-- The next action of CMP `c` that is due: the tick and fine offset, its sweep, and its token. A passed value acts first,
in the tick it came to govern (R290). -/
def State.cmpDue (s : State) (n c : Nat) : Option (Int × Int × Bool × Nat) :=
  let x := s.slice n
  let w := s.reg (aCMP n c)
  let off (r : Option (Int × Int)) : Int := match r with
    | some (_, f) => f
    | none => 0
  let due (r : Option (Int × Int)) (k : Nat) (down : Bool) : Option (Int × Int × Bool × Nat) := match r with
    | some (t, f) => if !x.acted.contains k && decide (t ≤ s.tb) then some (t, f, down, k) else none
    | none => none
  let up := x.upAction (timeNs w) (timeFine w)
  let up' := match up, x.downFrom with
    | some (t, _), some (g, _) => if t < g then up else none
    | u, _ => u
  let dn := if s.slMode n = 1 then x.downAction (timeNs w) (timeFine w) else none
  let dn' := match dn, x.downFrom with
    | some (t, _), some (g, _) => if g ≤ t then dn else none
    | d, _ => d
  match x.passed.find? (fun p => (p.1 == c || p.1 == 4 + c) && decide (p.2 ≤ (s.tb : Int))) with
  | some (k, g) => some (g, if k = c then off up else off dn, k != c, k)
  | none => match due up' c false with
    | some r => some r
    | none => due dn' (4 + c) true

/-- The token has acted: as a passed value, if there is one, else in its own tick. -/
def Slice.done (x : Slice) (k : Nat) : Slice :=
  if x.passed.any (fun p => p.1 == k) then { x with passed := x.passed.filter (fun p => p.1 != k) }
  else { x with acted := k :: x.acted }

/-- Does compare `c` of slice `n` act in tick `t`? -/
def State.cmpIn (s : State) (n : Nat) (t : Int) (c : Nat) : Bool := match s.cmpDue n c with
  | some r => r.1 == t
  | none => false

/-- The action of CMP `c` of slice `n` that is due takes place (R283), once what governs its tick is taken. -/
def State.matchDue (s : State) (n c : Nat) : State :=
  match s.cmpDue n c with
  | some (t, f, down, k) => if s.sliceHeld n t then s
      else (s.setSlice n ((s.slice n).done k)).compareEvent n c down t f (fun d => d != c && s.cmpIn n t d)
  | none => s

/-- SLICE_PERIOD: slice `n` reaches its period count (R276); in UPDOWN the shadows of PERIOD load before it; a ONESHOT
takes the compare actions of that tick and then holds count 0 (R282). A gate level that changes with it changes in that tick (R115). -/
def execSlicePeriod (n : Fin 64) (s : State) : Host.Outcome State Fault Refusal :=
  let x := s.slice n
  let m := s.slMode n
  let t := s.dueEvent (x.perTick m)
  .next (if s.slCounting n && x.perPend && decide (t ≤ s.tb) && !s.sliceHeld n t then
      let u := (s.setSlice n { x with perPend := false }).reachPeriod n t
      if m = 2 then
        let v := u.each (List.range 4) (fun v c => v.matchDue n c)
        settleAt t.toNat s (v.setSlice n { v.slice n with counting := false })
      else settleAt t.toNat s u
    else s)

/-- COMPARE_MATCH: the action tick of CMP `c` of slice `n` arrives (R283); a gate level that a blanking window changes with it changes
in that tick (R115). -/
def execCompareMatch (n : Fin 64) (c : Fin 4) (s : State) : Host.Outcome State Fault Refusal :=
  .next (settleAt (match s.cmpDue n c with
    | some r => r.1.toNat
    | none => s.tb) s (if s.slCounting n then s.matchDue n c else s))

/-- The due action of an edge-list entry: its tick. -/
def State.elDue (s : State) (n k : Nat) (w : Word) : Option Int :=
  let x := s.slice n
  match x.passed.find? (fun p => p.1 == k && decide (p.2 ≤ (s.tb : Int))) with
  | some (_, g) => some g
  | none => match x.upAction (elNs w) 0 with
    | some (t, _) => if !x.acted.contains k && decide (t ≤ s.tb) then some t else none
    | none => none

/-- The edge-list event in tick `t`, once per tick (R287). -/
def State.elEvent (s : State) (n : Nat) (t : Int) : State :=
  if (s.slice n).elTick = some t then s
  else (s.setSlice n { s.slice n with elTick := some t }).sliceEvent n 6 t SL_STATUS.el_f

/-- EDGE_LIST_ENTRY: the action tick of entry `j` of an output of slice `n` arrives (R287). -/
def execEdgeListEntry (n : Fin 64) (outB : Bool) (j : Fin 8) (s : State) : Host.Outcome State Fault Refusal :=
  let w := s.reg (aEL n outB j)
  let k := elToken outB j
  .next (if s.slCounting n && s.slMode n == 3 then
      match s.elDue n k w with
      | some t =>
        if s.sliceHeld n t then s
        else settleAt t.toNat s <|
        let u := s.setSlice n ((s.slice n).done k)
        let u := u.act n outB t (128 * t + elFine w + (s.slice n).phi) (100 - j) (getBits w ELA.action)
        if getBits w ELA.ev = 1 then u.elEvent n t else u
      | none => s
    else s)

/-! ### Writes (R275, R278, R279) -/

/-- The fields of the register at offset `o` of slice `n` that a write reaches without a load point. -/
def sliceFlds (n o : Nat) : List Fld :=
  if o = 0x00 then (if n % 2 = 0 then fSL_CTRL_EVEN else fSL_CTRL) else if o = 0x04 then fSL_LOAD else if o = 0x0C then fSL_STATUS else if o = 0x10 then fSL_IRQ
  else if o = 0x14 then fSL_BIND else if o = 0x18 then fSL_STG else if o = 0x40 then fSL_AQA else if o = 0x44 then fSL_AQB
  else if o = 0x48 then fSL_DTR else if o = 0x4C then fSL_DTF else if o = 0x50 then fSL_OUT else []

/-- A write of word `v` to the register at `a` that reaches slice `n` awaits its capture, and so does its end (R278). -/
def State.sliceWrite (s : State) (n a : Nat) (x : Xfer) (v : Word) : State :=
  s.setSlice n { s.slice n with writes := (s.slice n).writes ++ [{ arrive := s.tb, addr := a, val := v, xfer := x }] }

/-- The flags of slice `n` that set in tick `g` or later: a W1C write that governs from `g` does not clear them (R8). -/
def Slice.lateFlags (x : Slice) (g : Int) : Word :=
  x.flagTick.foldl (fun w y => match y.2 with
    | some t => if g ≤ t then w ||| BitVec.ofNat 32 (2 ^ y.1) else w
    | none => w) 0

/-- The direct fields of the register at offset `o` of slice `n` after a write that governs from tick `g` (R7, R8). -/
def State.sliceStore (s : State) (n o : Nat) (v : Word) (g : Int) : State :=
  let a := aSL_CTRL n + o
  if o = 0x0C then s.setReg a (directWrite fSL_STATUS (s.reg a) (v &&& ~~~(s.slice n).lateFlags g))
  else s.storeDirect a (sliceFlds n o) v

/-- What a write to SL_CTRL of slice `n` that governs from tick `g` does beyond its fields (R280, R282). -/
def State.ctrlStrobes (s : State) (n : Nat) (v : Word) (g : Int) : State :=
  let u := if getBits v SL_CTRL.sw_sync = 1 then s.sync n g else s
  if getBits v SL_CTRL.sw_start = 1 then u.startSlice n g else u

/-- A write captured by slice `n` that governs from tick `g`: fields staged by RWS, and registers whose load point is COMMIT, reach the
staged copy; a register with another load point takes the word, or its shadow does; direct fields are written (R278, R279, R322).
Answers the state and whether the write gets an error response. A shadow that waits as the slice stops, or as a ONESHOT count ends, waits
on, and acts at the next load point even after a write that governed at once meanwhile (DESIGN CHOICE, log 40). -/
def State.captureWrite (s : State) (n : Nat) (w : SWrite) (g : Int) : State × Bool :=
  let o := w.addr - aSL_CTRL n
  if hasLoad o then
    let v := loadMask o w.val
    let lp := s.loadPoint n w.addr
    if o = 0x30 && decide (timeNs v < 64) then (s.sliceFlag n SL_STATUS.bad_per g, false)
    else if lp = 4 then s.stage w.xfer.eng w.xfer.cg w.addr v
    else if lp = 0 || !(s.slice n).counting then (s.governs n w.addr v g, false)
    else (s.setSlice n { s.slice n with shadow := sput none w.addr (some v) (s.slice n).shadow }, false)
  else
    let base := s.stagedOr w.addr
    let u := s.sliceStore n o w.val g
    let r := if hasRws (sliceFlds n o) then
        u.stage w.xfer.eng w.xfer.cg w.addr (mergeStaged (sliceFlds n o) (u.reg w.addr) (stagedWrite (sliceFlds n o) base w.val)) else (u, false)
    (if o = 0 then r.1.ctrlStrobes n w.val g else r.1, r.2)

/-- Can slice `n` capture a write that governs from tick `g` now: the tick has come, no commit and no synchronisation or start of an earlier
tick is still to be taken, and the period that `g` lies in has begun, or begins in `g`? -/
def State.captures (s : State) (n g : Nat) : Bool :=
  let x := s.slice n
  decide (g ≤ s.tb) && !s.commitOwed (g - 1) &&
    !s.fab.acts.any (fun a => (a.input == 2192 + n || a.input == 3000 + n) && decide (a.take < g)) &&
    (!x.counting || s.slMode n == 2 ||
      decide ((g : Int) ≤ if s.stopping n then x.endTick (s.slMode n) else s.nextStart n / 128))

/-- A write of requester `q` to a register of slice `n`. -/
def wrSlice (q : Req) (n a : Nat) (v : Word) (s : State) : State :=
  if s.admits q (islTIM (n / 16)) then
    s.sliceWrite n a (s.accessXfer q true a v) v
  else s.refuse q

/-- SW_SYNC: a write to SL_CTRL with sw_sync reaches the slice; captured at the edge of a tick, it synchronises the counter in the tick
after (R280), by SLICE_WRITE_CAPTURE. -/
def execSwSync (q : Req) (n : Fin 64) (w : Word) (s : State) : Host.Outcome State Fault Refusal :=
  .next (s.crossTo q true (aSL_CTRL n) w (wrSlice q n (aSL_CTRL n) w))

/-- SW_START: a write to SL_CTRL with sw_start reaches the slice; captured at the edge of a tick, it is a start in the tick after
(R282), by SLICE_WRITE_CAPTURE. -/
def execSwStart (q : Req) (n : Fin 64) (w : Word) (s : State) : Host.Outcome State Fault Refusal :=
  .next (s.crossTo q true (aSL_CTRL n) w (wrSlice q n (aSL_CTRL n) w))

/-- FINE_DELAY_RECAL: every 1 ms the tables are recalibrated; an edge moves by at most one fine step, within the
tolerance of R3, so placement on the grid stays (R298). -/
def execFineDelayRecal (s : State) : Host.Outcome State Fault Refusal :=
  .next (if s.pwm.recal + 1000000 ≤ s.tb then { s with pwm := { s.pwm with recal := s.tb } } else s)

/-! ### What a commit or a stagger change does to a slice (R292, R294) -/

/-- Member `n` after a change that its group or it takes at `tc` (R294 to R296): one that cannot count sets stg_err and does not; one
that may count and does not yet waits for its first start; a waiting one that may not gives up. -/
def State.memberChanged (s : State) (n tc : Nat) : State :=
  let x := s.slice n
  if s.member n && s.on (aSL_CTRL n) SL_CTRL.run && s.stgBad n then
    let u := s.sliceFlag n SL_STATUS.stg_err tc
    if x.counting then u.stopSlice n tc else u.setSlice n { u.slice n with startAt := none }
  else if !s.member n then
    (if !x.counting && !x.armed && s.on (aSL_CTRL n) SL_CTRL.run then s.setSlice n { x with startAt := none, runPend := some tc } else s)
  else if s.stopping n then (if x.counting then s else s.setSlice n { x with startAt := none })
  else if !x.counting && s.isReady (13 + n / 32) (n % 32) then
    s.setSlice n { x with startAt := some (s.stgStart n (128 * tc)), runPend := none }
  else s

/-- SL_CTRL of slice `n` changed from `old` in commit tick `tc` (R281, R292, R320): a slice that must stop completes its period unless
its count holds between two, a slice that is a high word no longer starts again, a new mode restarts it, and a stagger member that does
not count is judged anew under it (R293, R296). -/
def State.ctrlCommitted (s : State) (n : Nat) (old : Word) (tc : Nat) : State :=
  let x := s.slice n
  let run := s.on (aSL_CTRL n) SL_CTRL.run
  let was := getBits old SL_CTRL.run == 1
  let s := if s.chained n && getBits old SL_CTRL.chain == 0 then
      let u := s.stopSlice n tc
      u.setSlice n { u.slice n with hi := 0 } else s
  if run && (!was || (getBits old SL_CTRL.chain == 1 && n % 2 == 1 && !s.chained n)) then
    s.setSlice n { s.slice n with runPend := some tc }
  else if !run && was then
    (if x.counting && !(decide (x.endTick (s.slMode n) ≤ tc) && decide ((tc : Int) < s.nextStart n / 128)) then s
     else s.stopSlice n tc)
  else if run && (x.counting || x.armed) && !s.chained n && getBits old SL_CTRL.mode != s.slMode n then
    (if s.slMode n = 2 || s.member n then
      let u := s.stopSlice n tc
      u.runFrom n tc
    else
      let u := s.synchronise n tc
      u.setSlice n { (u.slice n).count with armed := false, started := false })
  else if run && s.member n && getBits old SL_CTRL.mode != s.slMode n then s.memberChanged n tc
  else s

/-- SL_OUT of slice `n` changed from `old` in commit tick `tc`: a dead-time stage that is turned off passes both outputs from that tick on
(R288). -/
def State.outCommitted (s : State) (n : Nat) (old : Word) (tc : Nat) : State :=
  if getBits old SL_OUT.dt_mode = 1 ∧ s.get (aSL_OUT n) SL_OUT.dt_mode = 0 then s.setSlice n ((s.slice n).stageOff tc) else s

/-- The load points of slice `n` changed: a shadow that waits on a register whose load point changed loads in the commit
tick (R292), that of PER (`per`) before the others. -/
def State.loadCommitted (s : State) (n : Nat) (old : Word) (tc : Nat) (per : Bool) : State :=
  s.each ((loadAddrs n).filter (fun a => (a == aPER n) == per && getBits old (loadFld n a) != s.loadPoint n a)) (fun u a =>
    match sget none (u.slice n).shadow a with
    | some v => (u.dropShadow n a).governs n a v tc
    | none => match u.stagedAt a with
      | some y => ((u.setStaged a none).set (aCG_STATUS y.grp) CG_STATUS.staged_cnt
          (u.get (aCG_STATUS y.grp) CG_STATUS.staged_cnt - 1)).governs n a y.val tc
      | none => u)

/-- Every member of stagger group `g` after a change at `tc`. -/
def State.membersChanged (s : State) (g tc : Nat) : State :=
  s.each ((List.range 64).filter (fun n => s.member n && s.stgGroup n == g)) (fun v n => v.memberChanged n tc)

/-- The device joins or leaves the shared timebase in tick `tc`: what the members of the groups with shared = 1 do (R295). -/
def State.sharedChanged (s : State) (tc : Nat) : State :=
  s.each ((List.range 16).filter (fun g => s.on (aSTG_CFG g) STG_CFG.shared)) (fun t g => t.membersChanged g tc)

/-- Which stagger group's STG_CFG or STG_PER is at address `a`? -/
def stgWord (a : Nat) : Option Nat :=
  if 0x40000400 ≤ a ∧ a < 0x40000500 ∧ a % 16 < 8 ∧ a % 4 = 0 then some ((a - 0x40000400) / 16) else none

/-- A write of word `v` to STG_CFG or STG_PER, at `a`, awaits its capture in TIM0, and so does its end (R275, R278, R295). -/
def State.stgWrite (s : State) (a : Nat) (x : Xfer) (v : Word) : State :=
  { s with pwm := { s.pwm with stg := s.pwm.stg ++ [{ arrive := s.tb, addr := a, val := v, xfer := x }] } }

/-- STG_CFG or STG_PER takes a captured write that governs from tick `g`: its staged fields reach the staged copy; a reserved period sets
bad_per of every slice that is a member of the group at the capture (R275); a change of shared acts in tick `g` (R295). Answers the
state and whether the write gets an error response. -/
def State.captureStg (s : State) (w : SWrite) (g : Nat) : State × Bool :=
  let k := (w.addr - 0x40000400) / 16
  if w.addr % 16 = 0 then
    let r := s.storeFields w.xfer.eng w.xfer.cg w.addr fSTG_CFG w.val
    (if r.1.on (aSTG_CFG k) STG_CFG.shared = s.on (aSTG_CFG k) STG_CFG.shared then r.1 else r.1.membersChanged k g, r.2)
  else
    let r := s.storeFields w.xfer.eng w.xfer.cg w.addr fSTG_PER w.val
    (if w.val.toNat < 0x2000 then
      r.1.each ((List.range 64).filter (fun n => s.member n && s.stgGroup n == k)) (fun u n =>
        u.sliceFlag n SL_STATUS.bad_per ((g : Int) - 1))
    else r.1, r.2)

/-- STG_CFG or STG_PER of group `g` changed at `tc` (R294): the epoch on an enable, or, for a new period, the first start
of phase 0 under the old schedule at or after `tc`. -/
def State.groupChanged (s : State) (g : Nat) (oldCfg oldPer : Word) (tc : Nat) : State :=
  let en := s.on (aSTG_CFG g) STG_CFG.en
  let was := getBits oldCfg STG_CFG.en == 1
  let e := sget 0 s.pwm.epoch g
  let fine := stgFirst e 0 oldPer.toNat 1 (128 * tc)
  let e' := if en && !was then 128 * tc
    else if en && s.reg (aSTG_PER g) != oldPer then fine.toNat else e
  let u := { s with pwm := { s.pwm with epoch := sput 0 g e' s.pwm.epoch } }
  let u := (u.set (aSTG_EPOCH g) STG_EPOCH.ns (e' / 128 % 2 ^ 25)).set (aSTG_EPOCH g) STG_EPOCH.fine (e' % 128)
  u.membersChanged g tc

end Sys2Proof.Machine
end

