-- ==== Sys2Proof/Machine/Modes.lean ====
section
/-!
DEFINITION. Modes, the hold latch and entry to TRIPPED (R314 to R316, R473 to R477).
-/

namespace Sys2Proof.Machine

/-- Is the register at `a` the ENG_STATUS of a Newt, with swap_pending 1 in its word? -/
def swapIn (x : Nat × Word) : Bool :=
  decide (0x20000000 ≤ x.1) && decide (x.1 < 0x22000000) && x.1 % 0x10000 == 0xF004 &&
    getBits x.2 ENG_STATUS.swap_pending == 1

/-- Is a bank swap pending in any Newt (R473)? An unlisted ENG_STATUS holds 0. -/
def State.swapPending (s : State) : Bool := s.regs.any swapIn

/-- The code of the shown mode (R473). -/
def State.shownMode (s : State) : Nat :=
  match s.mode with
  | .reset => 1
  | .bringup => 2
  | .safehold => 3
  | .run => if s.swapPending then 6 else if s.on aMODE MODE.degraded then 5 else 4
  | .lull => 7
  | .watch => 8
  | .frost => 9
  | .halt => 10
  | .tripped => 11

/-- Show the present mode: where it has changed, mode_chg sets and producer 1890 fires (R473). -/
def State.showMode (s : State) : State :=
  if s.get aMODE MODE.mode = s.shownMode then s
  else ((s.set aMODE MODE.mode s.shownMode).set aMODE MODE.mode_chg 1).fire 1890

/-- The clutches of a list start to relock, those that are released. -/
def State.relockAll (s : State) (cs : List Nat) : State :=
  let l := cs.filter (fun c => s.alive (islCLU c))
  if l.isEmpty then s
  else (l.foldl (fun t c => t.set (aCLUTCH_CLK c) CLUTCH_CLK.relocking 1) s).set aMODE MODE.relocking 1

/-- The relocks that a change of mode from `old` brings (R478, R479). -/
def State.reclock (s : State) (old : Mode) : State :=
  let all := List.range 16
  match old, s.clkMode with
  | .watch, .watch | .lull, .lull | .lull, .watch => s
  | _, .lull => s.relockAll all
  | _, .watch => s.relockAll (all.filter (fun c => s.rst.kept / 2 ^ c % 2 == 1))
  | .lull, .frost | .watch, .frost => s
  | .lull, _ => s.relockAll all
  | .watch, _ => if s.rst.leaving then s else s.relockAll all
  | _, _ => s

/-- Enter a mode. -/
def State.enter (s : State) (m : Mode) : State :=
  let t := ({ s with mode := m }.reclock s.clkMode).showMode
  if t.clkMode == .watch then t else { t with rst := { t.rst with leaving := false } }

/-- The hold latch sets: in the run family and in LULL the device enters SAFEHOLD (R314, R474); during HALT this takes
effect on resume. -/
def State.setHold (s : State) : State :=
  let t := s.set aSAFE_CTRL SAFE_CTRL.hold 1
  match t.mode with
  | .run | .lull => t.enter .safehold
  | .halt => { t with rst := { t.rst with haltHold := true } }
  | _ => t

/-- Is tick `t` in the present AON cycle? -/
def State.sameCycle (s : State) (t : Nat) : Bool := t / 40 == s.tb / 40

/-- With the last of the relocks that are under way the change of mode that brought them is complete (R478, R479). -/
def State.relocksOver (s : State) : State :=
  if (List.range 16).any (fun d => s.on (aCLUTCH_CLK d) CLUTCH_CLK.relocking) then s
  else
    let u := s.set aMODE MODE.relocking 0
    if u.mode = .watch ∧ u.rst.leaving = true then u.enter .safehold else u

/-- A request is refused with a cause. -/
def State.refuseMode (s : State) (cause : Nat) : State :=
  (s.set aMODE MODE.req_refused 1).set aMODE MODE.req_cause cause

/-- Can a cause of TRIPPED act in this mode (R474)? -/
def Mode.canTrip : Mode → Bool
  | .safehold | .run | .lull | .watch | .halt => true
  | _ => false

/-- Has a mode request been accepted in the present AON cycle, and does it still wait for the cycle's end to show that no cause of TRIPPED
coincides with it (R477)? -/
def State.reqNow (s : State) : Bool := match s.rst.reqTick with
  | some t => s.sameCycle t
  | none => false

/-- What a cause of TRIPPED makes of a mode request and of a release of its AON cycle (R477): both are refused, and FROST is not
entered. -/
def State.overrule (s : State) : State :=
  let t := if s.trip.relTick ≠ 0 ∧ s.sameCycle (s.trip.relTick - 2) = true then s.set aSAFE_CTRL SAFE_CTRL.rel_refused 1 else s
  if t.reqNow then
    { t.refuseMode 1 with mode := if t.mode = .frost then t.rst.beforeFrost else t.mode
                          rst := { t.rst with reqTick := none, entry := if t.mode = .frost then none else t.rst.entry, stopDue := false } }
  else t

/-- Can a cause of TRIPPED act now (R474): in these modes, and in the AON cycle in which FROST was requested? -/
def State.canTrip (s : State) : Bool := s.mode.canTrip || (s.mode == .frost && s.reqNow)

/-- A cause of TRIPPED (R476): the cause is recorded, hold sets, producer 1891 fires. In TRIPPED it changes nothing. -/
def State.tripMode (s : State) (cause : Nat) : State :=
  if s.canTrip then
    let t := ((s.overrule.set aMODE MODE.trip_cause cause).set aSAFE_CTRL SAFE_CTRL.dev_tripped 1).set aSAFE_CTRL SAFE_CTRL.hold 1
    (t.enter .tripped).fire 1891
  else s

end Sys2Proof.Machine
end

