-- ==== Sys2Proof/Machine/Trips.lean ====
section
/-!
DEFINITION. Trip zones, safe states and capture (12_trips_capture.md).
-/

namespace Sys2Proof.Machine

/-- The slots of zone `z` that are 1, as a bit mask. -/
def State.slotMask (s : State) (z : Nat) : Nat :=
  (List.range 8).foldl (fun m j => m + (if s.zoneSlot z j then 2 ^ j else 0)) 0

/-- The slices with an output on which zone `z` has an action (R309). -/
def State.actedSlices (s : State) (z : Nat) : List Nat :=
  (List.range 64).filter (fun n => s.zoneAct z (2 * n) != 0 || s.zoneAct z (2 * n + 1) != 0)

/-- The trip state of zone `z` sets now (R304, R309); an escalating zone enters TRIPPED (R316). -/
def State.tripSet (s : State) (z : Nat) : State :=
  let a := aTZ_STATUS z
  let t := ((s.set a TZ_STATUS.tripped 1).set a TZ_STATUS.flag 1).raiseBits a TZ_STATUS.src_hit (s.slotMask z)
  let t := if s.get (aTZ_CFG z) TZ_CFG.mode = 2 then t.set a TZ_STATUS.hold_left (s.get (aTZ_CFG z) TZ_CFG.hold_n) else t
  let t := t.startActs z s.tb (List.range 128)
  let t := (t.fire (800 + z)).each (s.actedSlices z) (fun u n => u.fire (8 * n + 7))
  if s.on (aTZ_CFG z) TZ_CFG.escalate && s.canTrip then
    (t.set aSAFE_CTRL SAFE_CTRL.esc_zone z).tripMode 0
  else t

/-- Can zone `z` trip now: enabled, released and READY, outside FROST (R304, R321, R469)? -/
def State.zoneActs (s : State) (z : Nat) : Bool :=
  s.on (aTZ_CFG z) TZ_CFG.en && s.alive (islTIM (z / 8)) && s.isReady 15 z && s.mode != .frost

/-- The zone input is 1: the trip state sets, or, set already in HOLD, its count restarts (R304). -/
def State.zoneHit (s : State) (z : Nat) : State :=
  if !(s.zoneActs z && s.zoneInput z) then s
  else if s.tripped z then
    (if s.get (aTZ_CFG z) TZ_CFG.mode = 2 then
      s.set (aTZ_STATUS z) TZ_STATUS.hold_left (s.get (aTZ_CFG z) TZ_CFG.hold_n) else s)
  else s.tripSet z

/-- TRIP_STATE_SET. -/
def execTripStateSet (z : Fin 32) (s : State) : Host.Outcome State Fault Refusal := fin s (s.zoneHit z)

/-- A write to TZ_STATUS: tripped clears only while the zone input is 0 (R305). -/
def wrTzStatus (q : Req) (z : Nat) (w : Word) (s : State) : State :=
  settle s (s.write q (islTIM (z / 8)) 3 (fun t =>
    let v := if t.zoneInput z then w &&& 0x7FFFFFFF#32 else w
    t.storeDirect (aTZ_STATUS z) fTZ_STATUS v))

/-- TRIPPED_WRITE. -/
def execTrippedWrite (q : Req) (z : Fin 32) (w : Word) (s : State) : Host.Outcome State Fault Refusal :=
  .next (s.crossTo q true (aTZ_STATUS z) w (wrTzStatus q z w))

/-- The deglitch time of TRIPINi (R311). -/
def State.deglitch (s : State) (i : Nat) : Nat := match s.get (aTRIPIN_CFG i) TRIPIN_CFG.dg with
  | 0 => 0
  | 1 => 4
  | 2 => 16
  | _ => 64

/-- The deglitched level of TRIPINi becomes `level`: its producer fires as it becomes asserted (R311). -/
def State.tripinLevel (s : State) (i : Nat) (level : Bool) : State :=
  if s.on (aTRIPIN_CFG i) TRIPIN_CFG.lvl = level then s
  else (s.setB (aTRIPIN_CFG i) TRIPIN_CFG.lvl level).fireIf level (832 + i)

/-- TRIPIN_CHANGE: ball TRIPINi has been high, or low, since tick `since`; past the deglitch time that is its deglitched level, asserted
low while pol = 0 and high while pol = 1 (R311). -/
def execTripinChange (i : Fin 32) (high : Bool) (since : Nat) (s : State) : Host.Outcome State Fault Refusal :=
  fin s (if s.alive islAON && decide (since + s.deglitch i ≤ s.tb) then
    s.tripinLevel i (high == s.on (aTRIPIN_CFG i) TRIPIN_CFG.pol) else s)

/-- A commit changes TRIPIN_CFGi from `old`: with the polarity the deglitched level changes, since the ball does not. -/
def State.tripinCommitted (s : State) (i : Nat) (old : Word) : State :=
  if (getBits old TRIPIN_CFG.pol == 1) = s.on (aTRIPIN_CFG i) TRIPIN_CFG.pol then s
  else s.tripinLevel i (!s.on (aTRIPIN_CFG i) TRIPIN_CFG.lvl)

/-- Is TRIPOUTj asserted (R312)? In FROST it keeps its level of the entry. -/
def State.tripout (s : State) (j : Nat) : Bool :=
  if s.mode == .frost then s.rst.outKept / 2 ^ j % 2 == 1
  else s.mode == .reset || s.mode == .tripped || s.bit aTRIPOUT_CTRL j ||
    (List.range 32).any (fun z => s.bit (aTRIPOUT_MASK j) z && s.tripped z)

/-! ### Safe state (R313 to R316) -/

/-- The SAFEn ball goes low; hold sets and every ball takes its safe level (R314). -/
def State.safenFall (s : State) : State :=
  let t := { s with trip := { s.trip with safenLow := true } }
  if s.mode = .reset then t
  else ((t.set aSAFE_CTRL SAFE_CTRL.safen_seen 1).set aSAFE_CTRL SAFE_CTRL.safen 0).setHold

/-- SAFEN_LOW. -/
def execSafenLow (s : State) : Host.Outcome State Fault Refusal := fin s s.safenFall

/-- A release (R314): accepted with SAFEn high in SAFEHOLD; otherwise refused. The write is captured at the next edge, and the balls are
free from the tick after (R278). -/
def State.release (s : State) : State :=
  if !s.trip.safenLow && s.mode == .safehold then
    { (s.set aSAFE_CTRL SAFE_CTRL.hold 0).enter .run with trip := { s.trip with relTick := s.tb + 2 } }
  else s.set aSAFE_CTRL SAFE_CTRL.rel_refused 1

/-- Is an escalating zone tripped (R316)? -/
def State.escTripped (s : State) : Bool :=
  (List.range 32).any (fun z => s.on (aTZ_CFG z) TZ_CFG.escalate && s.tripped z)

/-- trip_clr (R316): leaves TRIPPED for SAFEHOLD with hold = 1 while no escalating zone is tripped. -/
def State.tripClear (s : State) : State :=
  if s.mode != .tripped then s
  else if s.escTripped then s.set aSAFE_CTRL SAFE_CTRL.rel_refused 1
  else ((s.set aSAFE_CTRL SAFE_CTRL.dev_tripped 0).set aSAFE_CTRL SAFE_CTRL.hold 1).enter .safehold

/-- What a write to SAFE_CTRL does: its W1C flags, then release, then trip_clr (R316). -/
def State.safeWrite (s : State) (w : Word) : State :=
  let t := s.storeDirect aSAFE_CTRL fSAFE_CTRL w
  let t := if getBits w SAFE_CTRL.release = 1 then t.release else t
  if getBits w SAFE_CTRL.trip_clr = 1 then t.tripClear else t

/-- A write to SAFE_CTRL, from ring 0. -/
def wrSafeCtrl (q : Req) (w : Word) (s : State) : State := settle s (s.write q islAON 0 (fun t => t.safeWrite w))

/-- The SAFEn ball's level as the write finds it; a low that nothing has reported yet acts as it falls (R314). -/
def State.senseSafen (s : State) (high : Bool) : State :=
  if high then { s with trip := { s.trip with safenLow := false } }.set aSAFE_CTRL SAFE_CTRL.safen 1
  else if s.trip.safenLow then s else s.safenFall

/-- SAFE_RELEASE: a write to SAFE_CTRL while SAFEn is at `safenHigh`. -/
def execSafeRelease (q : Req) (w : Word) (safenHigh : Bool) (s : State) : Host.Outcome State Fault Refusal :=
  fin s ((s.senseSafen safenHigh).crossTo q true aSAFE_CTRL w (fun t => t.write q islAON 0 (fun u => u.safeWrite w)))

/-- TRIP_CLR. -/
def execTripClr (q : Req) (w : Word) (s : State) : Host.Outcome State Fault Refusal := .next (s.crossTo q true aSAFE_CTRL w (wrSafeCtrl q w))

/-! ### Capture (R317 to R319) -/

/-- Channel `c` captures the firing tick of an activation taken at `ta`. -/
def State.captureAt (s : State) (c ta : Nat) : State :=
  let a := aCAP_STATUS c
  let t := (s.flagIf (s.on a CAP_STATUS.unread) a CAP_STATUS.ovr).put64 (aCAP_LO c) (aCAP_HI c) (ta - 4)
  let old : CapOld := { tick := ta, lo := s.reg (aCAP_LO c), hi := s.reg (aCAP_HI c), ovr := s.on a CAP_STATUS.ovr }
  let t := { t with trip := { t.trip with caps := sput none c (some old) t.trip.caps } }
  ((t.set a CAP_STATUS.unread 1).incWrap a CAP_STATUS.cnt).fireAt (864 + c) ta

/-- CAPTURE. -/
def execCapture (c : Fin 32) (s : State) : Host.Outcome State Fault Refusal :=
  match s.actFor (2160 + c) with
  | some a =>
    let t := s.dropAct a
    .next (if s.on (aCAP_CFG c) CAP_CFG.en && s.isReady 16 c then t.captureAt c a.take else t)
  | none => .next s

/-! ### What a commit does to a zone (R310) -/

/-- TZ_CFG of zone `z` changed from `old`: en to 0 clears the trip state; a new HOLD starts its count; and an enabled
zone whose input is 1 trips. -/
def State.zoneCommitted (s : State) (z : Nat) (old : Word) : State :=
  let a := aTZ_STATUS z
  if !s.on (aTZ_CFG z) TZ_CFG.en then s.set a TZ_STATUS.tripped 0
  else
    let m := s.get (aTZ_CFG z) TZ_CFG.mode
    let t := if s.tripped z && m == 2 && getBits old TZ_CFG.mode != 2 then
        s.set a TZ_STATUS.hold_left (s.get (aTZ_CFG z) TZ_CFG.hold_n) else s
    if s.tripped z then t else t.zoneHit z

/-- Word `j` of TZ_ACT of zone `z` changed from `old` in tick `tc`: while the zone is tripped its new actions override from then on
(R310). -/
def State.actsCommitted (s : State) (z j tc : Nat) (old : Word) : State :=
  if s.tripped z then
    s.startActs z tc (((List.range 16).map (16 * j + ·)).filter (fun o => old.toNat / 2 ^ (2 * (o % 16)) % 4 != s.zoneAct z o))
  else s

end Sys2Proof.Machine
end

