-- ==== Sys2Proof/Machine/Packet.lean ====
section
/-!
DEFINITION. Swimlink packets, their blocks on the lanes, and sending them (R416, R417, R422 to R425, R431).
-/

namespace Sys2Proof.Machine

/-! ### Packets as bytes (R422) -/

/-- The header of a packet. What a type gives no use to is 0 (log 48). -/
def Pkt.header (p : Pkt) : List Byte :=
  [16 * p.type + 8 * p.down.toNat + p.dst, 32 * p.src + 8 * p.ring + p.size, p.tag, p.data.length].map (BitVec.ofNat 8) ++
    leBytes 4 p.addr

/-- Bytes made up to whole data blocks; what fills up the last one is 0 (log 48). -/
def toBlocks (bs : List Byte) : List Byte := bs ++ List.replicate ((8 - bs.length % 8) % 8) 0

/-- The bytes of a packet that goes out under link sequence `seq`. -/
def Pkt.bytes (p : Pkt) (seq : Nat) : List Byte :=
  p.header ++ toBlocks p.data ++ leBytes 4 (crc32 (p.header ++ p.data)).toNat ++ [BitVec.ofNat 8 seq, 0, 0, 0]

/-- Byte `i` of a packet that arrives. -/
def pktByte (p : SwlPkt) (i : Nat) : Nat := (p.bytes.getD i 0).toNat

/-- The fields of a packet that arrives. -/
def pktType (p : SwlPkt) : Nat := pktByte p 0 / 16
def pktDst (p : SwlPkt) : Nat := pktByte p 0 % 8
def pktSrc (p : SwlPkt) : Nat := pktByte p 1 / 32
def pktRing (p : SwlPkt) : Nat := pktByte p 1 / 8 % 4
def pktSize (p : SwlPkt) : Nat := pktByte p 1 % 4
def pktTag (p : SwlPkt) : Nat := pktByte p 2
def pktLen (p : SwlPkt) : Nat := pktByte p 3 % 128
def pktAddr (p : SwlPkt) : Nat := leNat ((p.bytes.drop 4).take 4)
def pktData (p : SwlPkt) : List Byte := (p.bytes.drop 8).take (pktLen p)

/-- Where the trailer of a packet begins. -/
def pktEnd (p : SwlPkt) : Nat := 8 + (pktLen p + 7) / 8 * 8

/-- The link sequence of a packet. -/
def pktSeq (p : SwlPkt) : Nat := pktByte p (pktEnd p + 4)

/-- Is the packet as long as its header says, and its CRC right? -/
def pktCrcOk (p : SwlPkt) : Bool :=
  p.bytes.length == pktEnd p + 8 &&
    leNat ((p.bytes.drop (pktEnd p)).take 4) == (crc32 (p.bytes.take (8 + pktLen p))).toNat

/-- Has the packet no reserved type or code? -/
def pktCodesOk (p : SwlPkt) : Bool :=
  decide (1 ≤ pktType p) && decide (pktType p ≤ 10) && pktSize p != 3 && decide (pktLen p ≤ 64)

/-- A packet that has arrived, as it goes on to another device. -/
def pktOn (p : SwlPkt) : Pkt :=
  { type := pktType p, down := decide (8 ≤ pktByte p 0 % 16), dst := pktDst p, src := pktSrc p, ring := pktRing p, size := pktSize p,
    tag := pktTag p, addr := pktAddr p, data := pktData p }

/-! ### Blocks (R416, R417) -/

/-- The data blocks that bytes fill. -/
def dataBlks (bs : List Byte) : List SwlBlk :=
  (List.range (bs.length / 8)).map (fun i => { sync := 1, body := BitVec.ofNat 64 (leNat ((bs.drop (8 * i)).take 8)) })

def idleBlk (lane : Nat) : SwlBlk := ctlBlk 0x00 (BitVec.ofNat 8 lane ++ (0 : BitVec 48))
def tsyncBlk (reply : Bool) (seq : BitVec 7) (stamp : BitVec 48) : SwlBlk := ctlBlk 0x4B (BitVec.ofBool reply ++ seq ++ stamp)
def crdBlk (ack : BitVec 8) (nak : Bool) (reqCr rspCr : BitVec 8) : SwlBlk :=
  ctlBlk 0x55 (ack ++ BitVec.ofBool nak ++ (0 : BitVec 7) ++ reqCr ++ rspCr ++ (0 : BitVec 24))

/-- The fields of a credit block. -/
def crdAck (b : SwlBlk) : Nat := blkPay b / 2 ^ 48
def crdNak (b : SwlBlk) : Bool := blkPay b / 2 ^ 47 % 2 == 1
def crdReq (b : SwlBlk) : Nat := blkPay b / 2 ^ 32 % 256
def crdRsp (b : SwlBlk) : Nat := blkPay b / 2 ^ 24 % 256

def evtHas (b : SwlBlk) (i : Nat) : Bool := blkPay b / 2 ^ i % 2 == 1

/-- Is this a block that the port counts in bad_blk: no sync header, or a control block of a reserved type? -/
def blkBad (b : SwlBlk) : Bool :=
  b.sync == 0 || b.sync == 3 || b.sync == 2 && !([0x00, 0x2D, 0x33, 0x4B, 0x55].contains (blkType b))

/-- One bit through the scrambler x⁵⁸ + x³⁹ + 1, whose register holds the last 58 bits that came out. -/
def scrambleBit (r : BitVec 58) (b : Bool) : Bool × BitVec 58 :=
  let o := b ^^ r.getLsbD 38 ^^ r.getLsbD 57
  (o, (r <<< 1) ||| (BitVec.ofBool o).setWidth 58)

/-- Bits `i` to `i + n` of a body through the scrambler, least significant first: what comes out, in place, and the register. -/
def scrambleFrom (w : BitVec 64) : Nat → Nat → BitVec 58 → BitVec 64 × BitVec 58
  | 0, _, r => (0, r)
  | n + 1, i, r =>
    let (o, r) := scrambleBit r (w.getLsbD i)
    let (v, r) := scrambleFrom w n (i + 1) r
    (v ||| ((BitVec.ofBool o).setWidth 64 <<< i), r)

/-- Blocks on the two lanes, alternately: lane, sync header, scrambled bits; `r0`, `r1` are the scramblers of the lanes. An event block
goes on both (R431); a TSYNC block goes on lane 0 (R545), after an IDLE block where lane 1 is next. -/
def onLanes : Bool → BitVec 58 → BitVec 58 → List SwlBlk → List (Bool × BitVec 2 × BitVec 64)
  | _, _, _, [] => []
  | one, r0, r1, b :: bs =>
    let a := scrambleFrom b.body 64 0 r0
    let c := scrambleFrom b.body 64 0 r1
    if blkIs b 0x2D || blkIs b 0x33 then (false, b.sync, a.1) :: (true, b.sync, c.1) :: onLanes one a.2 c.2 bs
    else if blkIs b 0x4B && one then
      let i := scrambleFrom (idleBlk 1).body 64 0 r1
      (true, (idleBlk 1).sync, i.1) :: (false, b.sync, a.1) :: onLanes true a.2 i.2 bs
    else if one then (true, b.sync, c.1) :: onLanes false r0 c.2 bs
    else (false, b.sync, a.1) :: onLanes true a.2 r1 bs

/-! ### The port as a sender (R418, R423 to R425, R431) -/

def State.devaddr (s : State) : Nat := s.get aSWL_DEV SWL_DEV.devaddr

/-- Is port `l` UP (R418)? -/
def State.swlUp (s : State) (l : Nat) : Bool := s.get (aSWL_STATUS l) SWL_STATUS.state == 4

/-- The blocks that port `l` handed to its lanes in the tick of its last sending, as they appear there; before and after them it sends
IDLE. None: it drives electrical idle (R418). -/
def State.swlLine (s : State) (l : Nat) : Option (List (Bool × BitVec 2 × BitVec 64)) :=
  let x := s.swlPort l
  if s.get (aSWL_STATUS l) SWL_STATUS.state = 0 then none
  else some (onLanes (Config.laneOne l x.outAt) (Config.scrambler l 0 x.outAt) (Config.scrambler l 1 x.outAt) x.out)

/-- Is the link of port `l` an up link: is the rank of the peer less than this device's (R425)? -/
def State.upLink (s : State) (l : Nat) : Bool :=
  let pd := s.get (aSWL_STATUS l) SWL_STATUS.peer_depth
  let d := s.get aSWL_DEV SWL_DEV.depth
  decide (pd < d) || (pd == d && decide (s.get (aSWL_STATUS l) SWL_STATUS.peer_dev < s.devaddr))

/-- The class of a packet type (R423): 0 request, 1 response, 2 priority. -/
def pktClass (t : Nat) : Nat :=
  if t = 1 ∨ t = 2 ∨ t = 5 ∨ t = 8 then 0 else if t = 3 ∨ t = 4 ∨ t = 10 then 1 else 2

/-- Is there a credit for class `c` on a port? -/
def SwlPort.credit (x : SwlPort) (c : Nat) : Bool :=
  if c = 0 then decide (0 < x.reqCr) else if c = 1 then decide (0 < x.rspCr) else true

/-- A packet goes out under the next link sequence and into the replay buffer, which keeps the last 64. -/
def SwlPort.transmit (x : SwlPort) (now : Nat) (p : Pkt) : SwlPort :=
  let c := pktClass p.type
  let r := x.replay ++ [(x.txSeq, p, 1)]
  { x.put now (dataBlks (p.bytes x.txSeq)) with
    txSeq := (x.txSeq + 1) % 256, replay := r.drop (r.length - 64)
    reqCr := if c = 0 then x.reqCr - 1 else x.reqCr, rspCr := if c = 1 then x.rspCr - 1 else x.rspCr }

/-- A packet is sent, or waits for a credit behind those of its class that wait. -/
def SwlPort.enqueue (x : SwlPort) (now : Nat) (p : Pkt) : SwlPort :=
  if x.credit (pktClass p.type) && !x.waiting.any (fun y => pktClass y.type == pktClass p.type) then x.transmit now p
  else { x with waiting := x.waiting ++ [p] }

/-- Of packets that wait, in order, those are sent that credits allow; the rest wait on, in order within each class. -/
def SwlPort.drain (x : SwlPort) (now : Nat) : List Pkt → SwlPort
  | [] => x
  | p :: ps => (x.enqueue now p).drain now ps

/-- The packets of a replay buffer go out again. -/
def SwlPort.resend (x : SwlPort) (now : Nat) (r : List (Nat × Pkt × Nat)) : SwlPort :=
  { x.put now (r.flatMap (fun e => dataBlks (e.2.1.bytes e.1))) with replay := r.map (fun e => (e.1, e.2.1, e.2.2 + 1)) }

/-- Send a packet on port `l`, which is UP: down says that it has crossed a down link (R425). -/
def State.sendOn (s : State) (l : Nat) (p : Pkt) : State :=
  s.setSwlPort l ((s.swlPort l).enqueue s.tb { p with down := p.down || !s.upLink l })

/-- Send a packet towards its destination (R424, R425): the port it left on, or none when no route is enabled, the port is
not UP, or the packet would turn from a down link to an up link. -/
def State.send (s : State) (p : Pkt) : State × Option Nat :=
  let l := s.get (aSWL_ROUTE p.dst) SWL_ROUTE.port
  if !s.on (aSWL_ROUTE p.dst) SWL_ROUTE.en || !s.swlUp l then (s, none)
  else if s.upLink l && p.down then (s.set (aSWL_STATUS l) SWL_STATUS.route_err 1, none)
  else (s.sendOn l p, some l)

/-- A packet of this device without a request's fields. -/
def State.ownPkt (s : State) (type dst tag : Nat) (data : List Byte) : Pkt :=
  { type := type, down := false, dst := dst, src := s.devaddr, ring := 0, size := 0, tag := tag, addr := 0, data := data }

/-- Answer a remote request. -/
def State.answer (s : State) (type dst tag : Nat) (data : List Byte) : State := (s.send (s.ownPkt type dst tag data)).1

/-- When a packet that port `l` took since state `t` left: now, or none, since it waits for a credit. -/
def State.leftAt (s t : State) (l : Nat) : Option Nat :=
  if (s.swlPort l).waiting.length = (t.swlPort l).waiting.length then some s.tb else none

/-- A request has been sent; its response is awaited. -/
def State.await (s : State) (o : SwlOut) : State :=
  { s with swl := { s.swl with outs := s.swl.outs ++ [o], nextTag := (o.tag + 1) % 256 } }

end Sys2Proof.Machine
end

