-- ==== Sys2Proof/Machine/Commit.lean ====
section
/-!
DEFINITION. Staged state, commits, parameter pages and snapshots (13_coherence_progress.md).
-/

namespace Sys2Proof.Machine

/-! ### Where a register lives -/

/-! ### Parameter pages (R327, R328) -/

/-- The page that byte address `a` lies in, as 64·c + p. -/
def pageOf (a : Nat) : Option Nat :=
  if 0x20000000 ≤ a && a < 0x22000000 && 0x180000 ≤ a % 0x200000 && a % 0x200000 < 0x190000 then
    some ((a - 0x20000000) / 0x200000 * 64 + (a % 0x200000 - 0x180000) / 0x400)
  else none

/-- The first byte of page `p`'s active copy. -/
def pageBase (p : Nat) : Nat := 0x20180000 + p / 64 * 0x200000 + p % 64 * 0x400

/-- The staged copy of the page word at `a` stands in memory above the address map. -/
def stagedCopy (a : Nat) : Nat := a + 0x200000000

/-- The address of page `p`'s PG_CFG. -/
def pgCfg (p : Nat) : Nat := aPG_CFG (p / 64) (p % 64)

/-- Is page `p` dirty? -/
def State.dirty (s : State) (p : Nat) : Bool := s.on (pgCfg p) PG_CFG.dirty

/-- Is page `p` waiting to flip in a shared commit whose staging has closed (R337)? -/
def State.pageClosed (s : State) (p : Nat) : Bool :=
  s.cc.armed.any (fun x => match x.2 with
    | some a => a.shared && a.pages.contains p
    | none => false)

/-- The words of page `p` written since its flip, while its refill is under way. -/
def State.refillOf (s : State) (p : Nat) : Option (List Nat) := sget none s.cc.refill p
def State.setRefill (s : State) (p : Nat) (x : Option (List Nat)) : State :=
  { s with cc := { s.cc with refill := sput none p x s.cc.refill } }

/-- Byte address `a`, in page `p`, is written to (R328): the page is dirty, and a refill under way spares the word. -/
def State.touchPage (s : State) (p a : Nat) : State :=
  let t := s.set (pgCfg p) PG_CFG.dirty 1
  match t.refillOf p with
  | some l => t.setRefill p (some (a / 4 * 4 :: l))
  | none => t

/-- A word of a staged copy is written whole: an error in it is gone. -/
def State.putStaged (s : State) (a : Nat) (w : Word) : State :=
  (s.keepErrs (fun x => x != stagedCopy a)).putWord (stagedCopy a) w

/-- A write of the low `n` bytes of `w` to the page word at `a`, into its staged copy. -/
def State.pageWrite (s : State) (p a n : Nat) (w : Word) : State :=
  if s.pageClosed p then
    let old := (sget none s.cc.late (a / 4 * 4)).getD (s.word (stagedCopy (a / 4 * 4)))
    let k := 2 ^ (8 * (a % 4))
    let m := 2 ^ (8 * n) * k
    let new := old.toNat / m * m + w.toNat % 2 ^ (8 * n) * k + old.toNat % k
    { s with cc := { s.cc with late := sput none (a / 4 * 4) (some (BitVec.ofNat 32 new)) s.cc.late } }
  else if n = 4 then (s.touchPage p a).putStaged a w
  else (s.touchPage p a).putBytes (stagedCopy a) w n

/-- Exchange the copies of one page word. -/
def State.swapWord (s : State) (a : Nat) : State :=
  let x := s.word a
  let y := s.word (stagedCopy a)
  (s.putWord a y).putWord (stagedCopy a) x

/-- Copy the active word of a page into its staged copy. -/
def State.refillWord (s : State) (a : Nat) : State := s.putStaged a (s.word a)

/-- The byte addresses of page `p`'s words. -/
def pageWords (p : Nat) : List Nat := (List.range 256).map (fun i => pageBase p + 4 * i)

/-- Page `p`'s refill ends: every word not written since the flip is copied. -/
def State.endRefill (s : State) (p : Nat) : State :=
  match s.refillOf p with
  | some l => (s.each ((pageWords p).filter (fun a => !l.contains a)) State.refillWord).setRefill p none
  | none => s

/-- Writes that were held back while page `p` waited to flip reach its staged copy (R337). -/
def State.landLate (s : State) (p : Nat) : State :=
  s.each (pageWords p) (fun t a => match sget none t.cc.late a with
    | some w => ({ t with cc := { t.cc with late := sput none a none t.cc.late } }.touchPage p a).putStaged a w
    | none => t)

/-- The words of page `p` that hold an error follow its copies as they change roles. -/
def State.swapUe (s : State) (p : Nat) : State :=
  let swap (a : Nat) : Nat := if pageOf a = some p then stagedCopy a
    else if 0x200000000 ≤ a ∧ pageOf (a - 0x200000000) = some p then a - 0x200000000 else a
  { s with ue := s.ue.map swap, ce := s.ce.map swap }

/-- Page `p` flips (R328); a refill still under way ends first. -/
def State.flipPage (s : State) (p : Nat) : State :=
  let t := ((((s.endRefill p).each (pageWords p) State.swapWord).swapUe p).set (pgCfg p) PG_CFG.dirty 0)
  let t := if t.on (pgCfg p) PG_CFG.refresh then t.setRefill p (some []) else t
  t.landLate p

/-- Page `p` loses its dirty bit without a flip, and what was held back for it with it (R336). -/
def State.cleanPage (s : State) (p : Nat) : State := (s.landLate p).set (pgCfg p) PG_CFG.dirty 0

/-- PAGE_REFRESH_DONE. -/
def execPageRefreshDone (c : Fin 16) (p : Fin 64) (s : State) : Host.Outcome State Fault Refusal :=
  .next (s.endRefill (64 * c + p))

/-- The dirty pages of group `g`. -/
def State.dirtyPages (s : State) (g : Nat) : List Nat :=
  (List.range 1024).filter (fun p => s.dirty p && s.get (pgCfg p) PG_CFG.cg == g)

/-! ### Staged words of a group -/

/-- The words staged in group `g`, in ascending address order. -/
def State.wordsOf (s : State) (g : Nat) : List (Nat × Word) :=
  s.cc.staged.filterMap (fun x => match x.2 with
    | some v => if v.grp = g then some (x.1, v.val) else none
    | none => none)

/-- The word at `a` leaves its group. -/
def State.unstage (s : State) (a : Nat) : State :=
  match s.stagedAt a with
  | some x => (s.setStaged a none).set (aCG_STATUS x.grp) CG_STATUS.staged_cnt
      (s.get (aCG_STATUS x.grp) CG_STATUS.staged_cnt - 1)
  | none => s

/-- Which engine's ENG_CTRL is at address `a`? -/
def ctrlEng (a : Nat) : Option Nat :=
  if 0x20000000 ≤ a && a < 0x22000000 && a % 0x10000 == 0xF000 && a % 0x200000 < 0x100000 then
    some ((a - 0x20000000) / 0x200000 * 16 + a % 0x200000 / 0x10000)
  else none

/-- swap_pending of Newt `n`: its staged bank_sel differs from the bank now executing; the shown mode follows (R473). -/
def State.swapShown (s : State) (n : Nat) : State :=
  (s.setB (aENG_STATUS n) ENG_STATUS.swap_pending
    ((s.stagedOr (aENG_CTRL n)).getLsbD 30 != s.on (aENG_STATUS n) ENG_STATUS.active_bank)).showMode

/-- Between bundles, the bank that bank_sel names becomes the one that executes (R152). -/
def State.bankBoundary (s : State) (n : Nat) : State :=
  if n < 256 && s.on (aENG_STATUS n) ENG_STATUS.active_bank != s.on (aENG_CTRL n) ENG_CTRL.bank_sel then
    (s.setB (aENG_STATUS n) ENG_STATUS.active_bank (s.on (aENG_CTRL n) ENG_CTRL.bank_sel)).swapShown n
  else s

/-- Is engine `e` between bundles: nothing of a bundle is under way but a sleep? -/
def State.between (s : State) (e : Nat) : Bool := ((s.eng e).wait == .none && (s.eng e).cur.isEmpty) || (s.eng e).wait == .sleep

/-- What follows when a word with a staged copy stops being staged. -/
def State.unstaged (s : State) (a : Nat) : State :=
  match ctrlEng a with
  | some n => s.swapShown n
  | none => s

/-- Discard every word staged in group `g`, and the dirty bits of its pages (R336). -/
def State.discard (s : State) (g : Nat) : State :=
  let as := (s.wordsOf g).map (·.1)
  let t := (s.each as (fun u a => u.setStaged a none)).each as State.unstaged
  let t := t.each (t.dirtyPages g) State.cleanPage
  let t := { t with cc := { t.cc with ovf := t.cc.ovf.filter (fun h => h != g) } }
  (t.set (aCG_STATUS g) CG_STATUS.staged_cnt 0).set (aCG_STATUS g) CG_STATUS.armed 0

/-- Group `g` is armed no longer, and its commit trigger is free. -/
def State.disarm (s : State) (g : Nat) : State := (s.setArmed g none).unhold (2288 + g)

/-- Has Newt `n` failed (R516)? -/
def State.newtFailed (s : State) (n : Nat) : Bool := s.bit (aREGROW_FAILED (n / 16)) (n % 16)

/-- Is Newt `k` of clutch `c` a spare (R514)? -/
def State.isSpare (s : State) (c k : Nat) : Bool := s.bit (aREGROW_CFG c) k && !s.newtFailed (16 * c + k)

/-- The lowest-numbered spare of clutch `c`. -/
def State.spareOf (s : State) (c : Nat) : Option Nat := (List.range 16).find? (fun k => s.isSpare c k)

/-- busy shows a regrow, one that waits and will find a spare, or a self-test. -/
def State.rgShow (s : State) (c : Nat) : State :=
  let x := s.rgClu c
  s.setB (aREGROW_STATUS c) REGROW_STATUS.busy (x.cur.isSome || x.test.isSome ||
    (!x.waiting.isEmpty && s.on (aREGROW_CFG c) REGROW_CFG.en && (s.spareOf c).isSome))

/-- Rebindings that were to apply with group `g` are discarded (R516). -/
def State.regrowLost (s : State) (g : Nat) : State :=
  (List.range 16).foldl (fun t c => match (t.rgClu c).cur with
    | some r => if r.phase = .commit ∧ r.grp = g then
        ((t.setRgClu c { t.rgClu c with cur := none }).set (aREGROW_STATUS c) REGROW_STATUS.rg_fail 1).rgShow c
      else t
    | none => t) s

/-- Group `g`'s commit is refused, with a cause flag (R336). -/
def State.refuseCommit (s : State) (g : Nat) (cause : Option Fld) : State :=
  let t := (((s.disarm g).discard g).regrowLost g).set (aCG_STATUS g) CG_STATUS.refused 1
  let t := match cause with
    | some f => t.set (aCG_STATUS g) f 1
    | none => t
  t.fire 1898

/-! ### Applying (R332 to R334) -/

/-- The slice that address `a` belongs to. -/
def sliceOf (a : Nat) : Option Nat :=
  if 0x40100000 ≤ a && a < 0x40110000 then some ((a - 0x40100000) / 0x400) else none

/-- The offset of address `a` in its slice. -/
def sliceOfs (a : Nat) : Nat := (a - 0x40100000) % 0x400

/-- Does `a` hold a register that comes to govern a slice by its load point? -/
def isLoad (a : Nat) : Bool := (sliceOf a).isSome && hasLoad (sliceOfs a)

/-- The staged fields of the register at `a`. -/
def fldsAt (a : Nat) : List Fld := match regRow a with
  | some r => r.flds
  | none => []

/-- A staged word that is no load-point register takes its staged fields. -/
def State.applyPlain (s : State) (x : Nat × Word) : State := s.setReg x.1 (mergeStaged (fldsAt x.1) (s.reg x.1) x.2)

/-- A load-point register comes to govern its slice from tick `tc`. A PER whose slice restarts in `tc` under a new mode, being counting as
`old` has it, is no change in the middle of a sweep: the restart takes it (R292). -/
def State.applyLoad (s old : State) (tc : Nat) (x : Nat × Word) : State :=
  match sliceOf x.1 with
  | some n => if sliceOfs x.1 = 0x30 ∧ s.slMode n ≠ old.slMode n then s.setReg x.1 x.2 else s.governs n x.1 x.2 tc
  | none => s

/-- Is `a` a register of a trip zone? -/
def isZone (a : Nat) : Bool := decide (0x40200000 ≤ a) && decide (a < 0x40201000)

/-- The schedule of Fieldring port `p` is in force anew from tick `tc` (R409). -/
def State.frRestart (s : State) (p tc : Nat) : State :=
  s.setFrPort p { s.frPort p with since := tc, cycle := none, done := [], behind := []
                                  trig := if s.on (aFR_SCHED p) FR_SCHED.en then (s.frPort p).trig else [] }

/-- What follows in the block of the word at `a`, which held `old` before the commit of tick `tc`. -/
def State.afterCommit (s : State) (tc a : Nat) (old : Word) : State :=
  match sliceOf a, ctrlEng a with
  | some n, _ =>
    if sliceOfs a = 0 then s.ctrlCommitted n old tc
    else if sliceOfs a = 0x18 then s.memberChanged n tc
    else if sliceOfs a = 0x50 then s.outCommitted n old tc
    else s
  | none, some n => if s.between n then s.bankBoundary n else s.swapShown n
  | none, none =>
    if 0x40000040 ≤ a && a < 0x40000078 then s.markFrom ((a - 0x40000040) / 4) (tc - 1)
    else if 0x40200000 ≤ a && a < 0x40201000 then
      let z := (a - 0x40200000) / 0x80
      let o := (a - 0x40200000) % 0x80
      if o = 0 then s.zoneCommitted z old
      else if 0x20 ≤ o && o < 0x40 then s.zoneHit z
      else if 0x40 ≤ o && o < 0x60 then s.actsCommitted z ((o - 0x40) / 4) tc old
      else s
    else if 0x40201000 ≤ a && a < 0x40202000 && a == aTRIPIN_CFG ((a - 0x40201000) / 4 % 32) then
      s.tripinCommitted ((a - 0x40201000) / 4 % 32) old
    else if 0x40380000 ≤ a && a < 0x40380600 && a % 16 == 0 then s.wmReselect ((a - 0x40380000) / 16) old
    else if 0x40400000 ≤ a && a < 0x40406000 && a % 8 == 0 then s.reselect ((a - 0x40400000) / 8) tc old
    else if 0x40380000 ≤ a && a < 0x40380600 && (a % 16 == 4 || a % 16 == 8) then s.applyThr ((a - 0x40380000) / 16)
    else if 0x40380800 ≤ a && a < 0x40380900 && a % 8 == 0 then s.closeWin ((a - 0x40380800) / 8) tc
    else if a == aPTP_OFS_LO || a == aPTP_OFS_HI then { s with std := { s.std with ptp := (a, tc, old) :: s.std.ptp } }
    else if 0x40800000 ≤ a && a < 0x40801000 then s.frRestart ((a - 0x40800000) / 0x40) tc
    else if 0x40810000 ≤ a && a < 0x40840000 then s.frRestart ((a - 0x40810000) / 0x1000) tc
    else s

/-- The stagger groups whose STG_CFG or STG_PER is among the addresses. -/
def stgGroups (as : List Nat) : List Nat :=
  (List.range 16).filter (fun g => as.contains (aSTG_CFG g) || as.contains (aSTG_PER g))

/-- The slices whose SL_LOAD is among the words take up the shadows whose load point changed: that of PER, or the others (R292). -/
def State.loadPointsChanged (s t : State) (tc : Nat) (ws : List (Nat × Word)) (per : Bool) : State :=
  ws.foldl (fun u x => match sliceOf x.1 with
    | some n => if sliceOfs x.1 = 4 then u.loadCommitted n (s.reg x.1) tc per else u
    | none => u) t

/-- Words become active in tick `tc`: registers first, then PER before the other load-point registers (R292), then what
follows from them, the trip zones last, whose sources follow from the other words (R310). -/
def State.applyWords (s : State) (tc : Nat) (ws : List (Nat × Word)) : State :=
  let t := (ws.filter (fun x => !isLoad x.1)).foldl State.applyPlain s
  let t := (ws.filter (fun (x : Nat × Word) => isLoad x.1 && sliceOfs x.1 == 0x30)).foldl (fun u x => u.applyLoad s tc x) t
  let t := s.loadPointsChanged t tc ws true
  let t := (ws.filter (fun x => isLoad x.1 && sliceOfs x.1 != 0x30)).foldl (fun u x => u.applyLoad s tc x) t
  let t := s.loadPointsChanged t tc ws false
  let t := (stgGroups (ws.map (·.1))).foldl (fun u g => u.groupChanged g (s.reg (aSTG_CFG g)) (s.reg (aSTG_PER g)) tc) t
  (ws.filter (fun x => !isZone x.1) ++ ws.filter (fun x => isZone x.1)).foldl (fun u x => u.afterCommit tc x.1 (s.reg x.1)) t

/-- Is address `a` in a clutch that is relocking? -/
def State.relockAt (s : State) (a : Nat) : Bool :=
  decide (0x20000000 ≤ a) && decide (a < 0x22000000) && s.relocking ((a - 0x20000000) / 0x200000)

/-- Group `g` commits in tick `tc` with the words `ws` and the pages `ps` (R332 to R334): those of a dead island are lost,
those of a relocking clutch wait. -/
def State.commit (s : State) (g tc : Nat) (ws : List (Nat × Word)) (ps : List Nat) : State :=
  let as := ws.map (·.1)
  let s' := s.each as (fun u a => match u.stagedAt a with
    | some x => if x.closed || !(match s.armedOf g with
        | some y => y.shared
        | none => false) then u.setStaged a none else u
    | none => u)
  let lives (a : Nat) : Bool := s.alive (s.islandOf a)
  let lost := as.any (fun a => !lives a) || ps.any (fun p => !lives (pageBase p))
  let now := ws.filter (fun x => lives x.1 && !s.relockAt x.1)
  let pnow := ps.filter (fun p => lives (pageBase p) && !s.relockAt (pageBase p))
  let t := s'.applyWords tc now
  let t := t.each pnow State.flipPage
  let t := { t with cc := { t.cc with
      relockWords := t.cc.relockWords ++ ws.filter (fun (x : Nat × Word) => lives x.1 && s.relockAt x.1)
      relockPages := t.cc.relockPages ++ ps.filter (fun p => lives (pageBase p) && s.relockAt (pageBase p)) } }
  let t := t.each (ps.filter (fun p => lives (pageBase p) && s.relockAt (pageBase p))) (fun u p => u.set (pgCfg p) PG_CFG.dirty 0)
  let t := t.each (ps.filter (fun p => !lives (pageBase p))) State.cleanPage
  let t := (t.each as State.unstaged).flagIf lost (aCG_STATUS g) CG_STATUS.reset_hit
  let t := (t.disarm g).put64 (aCG_LAST_LO g) (aCG_LAST_HI g) tc
  let t := (t.set (aCG_STATUS g) CG_STATUS.staged_cnt (t.wordsOf g).length).set (aCG_STATUS g) CG_STATUS.armed 0
  t.fireAt (2000 + g) tc

/-- Is a slice write captured before tick `tc` still to be taken? What it stages belongs to a commit of `tc` (R278, R332). -/
def State.captureLeft (s : State) (tc : Nat) : Bool :=
  s.pwm.slice.any (fun x => x.2.writes.any (fun w => decide (w.arrive + 2 ≤ tc))) ||
    s.pwm.stg.any (fun w => decide (w.arrive + 2 ≤ tc))

/-- Does a synchronisation or start of slice `n` of tick `tc` or before still decide where its zero ticks lie (R292)? -/
def State.zeroOpen (s : State) (n tc : Nat) : Bool :=
  s.fab.acts.any (fun a => (a.input == 2192 + n || a.input == 3000 + n) && decide (a.take ≤ tc))

/-- What the commit tick of group `g` brings, once it has come (R330, R332 to R336): the state, and the commit tick if the commit
applied. A commit tick that a forward step of TB passed is the first tick after the step (R48). A device that is out of the shared
timebase takes part in no shared commit (R50). -/
def State.commitDue (s : State) (g : Nat) : State × Option Nat :=
  match s.armedOf g with
    | some x => match s.tcOf x with
      | some tc =>
        let t := x.target.getD tc
        let tc := s.dueTick tc
        if tc ≤ s.tb && !s.captureLeft tc && (x.tc.isSome || !s.zeroOpen x.slice tc) then
          let u := s.flagIf (decide (t < tc)) (aCG_STATUS g) CG_STATUS.late
          if x.shared && (s.on aTB_STATUS TB_STATUS.tb_ahead || !s.inTandem) then (s.refuseCommit g none, none)
          else if s.cc.ovf.contains g && !x.shared then (u.refuseCommit g (some CG_STATUS.overflow), none)
          else
            let u := if t < tc then u.fireAt 1898 tc else u
            (if x.shared then u.commit g tc x.words x.pages else u.commit g tc (u.wordsOf g) (u.dirtyPages g), some tc)
        else (s, none)
      | none => (s, none)
    | none => (s, none)

/-! ### Arming (R329 to R331, R337, R338) -/

/-- The bits of CC_TANDEM, and this device's number. -/
def State.participants (s : State) : List Nat := (List.range 8).filter (fun d => s.bit aCC_TANDEM d)
def State.devNum (s : State) : Nat := s.get aSWL_DEV SWL_DEV.devaddr

/-- The CRC of what group `g` has staged for target `t` (R338). -/
def State.stageCrc (s : State) (g t : Nat) : Word :=
  crc32 (leBytes 8 t ++ leBytes 4 (s.get (aCG_STATUS g) CG_STATUS.staged_cnt) ++
    (s.wordsOf g).flatMap (fun x => leBytes 4 x.1 ++ wordBytes x.2) ++
    (s.dirtyPages g).flatMap (fun p => leBytes 4 (pageBase p) ++
      (pageWords p).flatMap (fun a => wordBytes (s.word (stagedCopy a)))))

/-- A participant judges the messages it holds (R339, R340): it refuses on a difference or an overflow; with all of them
its commit tick is fixed. -/
def State.judge (s : State) (g : Nat) : State :=
  match s.armedOf g with
  | some x =>
    match x.target with
    | some t =>
      let bad := x.msgs.any (fun m => m.t != t || m.crc != x.crc || m.ovf)
      if bad || x.ovf then s.refuseCommit g (if x.ovf then some CG_STATUS.overflow else some CG_STATUS.mismatch)
      else if s.participants.all (fun d => d == s.devNum || x.msgs.any (fun m => m.dev == d)) then
        let ta := x.msgs.foldl (fun a m => max a m.ta) x.ta
        s.setArmed g (some { x with tc := some (max t (ta + 1000)) })
      else s
    | none => s
  | none => s

/-- The words staged in `g` belong to its shared commit from now on. -/
def State.closeStaging (s : State) (g : Nat) : State :=
  s.each ((s.wordsOf g).map (·.1)) (fun u a => match u.stagedAt a with
    | some x => u.setStaged a (some { x with closed := true })
    | none => u)

/-- The messages of other participants that reached this device before it armed group `g` in tick `ta`, less those of a commit
that must have been judged by then (R340). -/
def State.earlyMsgs (s : State) (g ta : Nat) : List CcMsg :=
  (s.cc.early.filter (fun x => x.1 == g && decide (ta < x.2.t + 10000))).map (·.2)

/-- The commit message of group `g` goes to every other participant by its route (R338, R437). -/
def State.sendCmt (s : State) (g : Nat) (m : CcMsg) : State :=
  let w : SwlCmt := { g := Fin.ofNat 32 g, t := BitVec.ofNat 64 m.t, crc := m.crc, ta := BitVec.ofNat 64 m.ta, ovf := m.ovf }
  (s.participants.filter (fun d => d != s.devNum)).foldl (fun u d =>
    (u.send (u.ownPkt 7 d 0 (Config.msgBytes (.cmt w)))).1) s

/-- A shared group is armed in tick `ta` (R337 to R340). -/
def State.armShared (s : State) (g ta : Nat) : State :=
  let t := s.get64 (aCG_TIME_LO g) (aCG_TIME_HI g)
  let a := aCG_STATUS g
  let own := s.devNum
  let early := s.earlyMsgs g ta
  let s := { s with cc := { s.cc with early := s.cc.early.filter (fun x => x.1 != g) } }
  if s.get (aCG_CFG g) CG_CFG.trig ≠ 2 ∨ s.on aTB_STATUS TB_STATUS.tb_ahead ∨ !s.inTandem ∨ !s.bit aCC_TANDEM own then
    s.refuseCommit g none
  else if t + 9000 < ta then s.refuseCommit g (some CG_STATUS.absent)
  else
    let crc := s.stageCrc g t
    let ovf := s.cc.ovf.contains g
    let m : CcMsg := { dev := own, t := t, crc := crc, ta := ta, ovf := ovf }
    let x : Armed := { ta := ta, shared := true, trig := 2, slice := 0, target := some t, tc := none, words := s.wordsOf g,
                       pages := s.dirtyPages g, crc := crc, ovf := ovf, msgs := early }
    let u := (s.closeStaging g).setArmed g (some x)
    let u := { u with cc := { u.cc with sent := u.cc.sent ++ [(g, m)] } }
    ((u.set a CG_STATUS.armed 1).sendCmt g m).judge g

/-- A local group is armed in tick `ta` (R329, R330). -/
def State.armLocal (s : State) (g ta : Nat) : State :=
  let trig := s.get (aCG_CFG g) CG_CFG.trig
  let t := s.get64 (aCG_TIME_LO g) (aCG_TIME_HI g)
  let target := if trig = 0 then some (ta + 200) else if trig = 2 then some t else none
  let tc := if trig = 0 then some (ta + 200) else if trig = 2 then some (max t (ta + 200)) else none
  let x : Armed := { ta := ta, shared := false, trig := trig, slice := s.get (aCG_CFG g) CG_CFG.slice, target := target,
                     tc := tc, words := [], pages := [], crc := 0, ovf := false, msgs := [] }
  (s.setArmed g (some x)).set (aCG_STATUS g) CG_STATUS.armed 1

/-- An arm request for group `g` reaches the controller (R329). -/
def State.arm (s : State) (g : Nat) : State :=
  if (s.armedOf g).isSome then s.set (aCG_STATUS g) CG_STATUS.dbl_arm 1
  else if s.on (aCG_CFG g) CG_CFG.shared then s.armShared g s.tb
  else s.armLocal g s.tb

/-- ARM_REQUEST_ARRIVAL: the oldest arm request for group `g` under way reaches the controller. -/
def execArmRequestArrival (g : Fin 32) (s : State) : Host.Outcome State Fault Refusal :=
  fin s (if s.cc.armReqs.contains g && s.alive islSYS then
    { s with cc := { s.cc with armReqs := s.cc.armReqs.erase g } }.arm g else s)

/-- A cancel of group `g` reaches the controller (R331); while the group is not armed it changes nothing. -/
def State.cancel (s : State) (g : Nat) : State :=
  match s.armedOf g with
  | some x =>
    let ok := match s.tcOf x with
      | some tc => decide (s.tb + 200 ≤ tc)
      | none => true
    if ok then ((s.disarm g).discard g).regrowLost g else s.set (aCG_STATUS g) CG_STATUS.wr_ignored 1
  | none => s

/-- What a write to CG_ARM does: a cancel, then an arm request, in the same tick if both are set (R329, R331). -/
def State.armWrite (s : State) (g : Nat) (w : Word) : State :=
  if w.getLsbD 1 then
    let t := s.cancel g
    if w.getLsbD 0 then t.arm g else t
  else if w.getLsbD 0 then { s with cc := { s.cc with armReqs := s.cc.armReqs ++ [g] } } else s

/-- A write to CG_ARM. -/
def wrCgArm (q : Req) (g : Nat) (w : Word) (s : State) : State := settle s (s.write q islSYS 3 (fun t => t.armWrite g w))

/-- CG_ARM. -/
def execCgArm (q : Req) (g : Fin 32) (w : Word) (s : State) : Host.Outcome State Fault Refusal :=
  .next (s.crossTo q true (aCG_ARM g) w (wrCgArm q g w))

/-- CG_CANCEL. -/
def execCgCancel (q : Req) (g : Fin 32) (w : Word) (s : State) : Host.Outcome State Fault Refusal :=
  .next (s.crossTo q true (aCG_ARM g) w (wrCgArm q g w))

/-- A write to CG_CFG or CG_TIME of group `g`, at address `a`: ignored while the group is armed (R329). -/
def wrCgSet (q : Req) (g a : Nat) (fs : List Fld) (w : Word) (s : State) : State :=
  s.write q islSYS 3 (fun t =>
    if (t.armedOf g).isSome then t.set (aCG_STATUS g) CG_STATUS.wr_ignored 1 else t.storeDirect a fs w)

/-! ### Shared commits: messages (R338 to R340) -/

/-- A participant's message for group `g` has arrived; it is kept if the group is not armed yet. -/
def State.takeCmt (s : State) (g : Nat) (m : CcMsg) : State := match s.armedOf g with
  | some x => if x.shared && x.tc == none then (s.setArmed g (some { x with msgs := x.msgs ++ [m] })).judge g else s
  | none => { s with cc := { s.cc with early := s.cc.early ++ [(g, m)] } }

/-- SHARED_COMMIT_ABSENT: a message is still missing 10,000 ns after T (R340). -/
def execSharedCommitAbsent (g : Fin 32) (s : State) : Host.Outcome State Fault Refusal :=
  fin s (match s.armedOf g with
    | some x => match x.target with
      | some t => if x.shared && x.tc == none && decide (t + 10000 ≤ s.tb) then s.refuseCommit g (some CG_STATUS.absent)
          else s
      | none => s
    | none => s)

/-! ### Staged writes, group selection, staged reads (R323 to R326) -/

/-- A write to CC_RSEL of requester `r`: stored, and in force at r's island port, unless the write is r's own and has crossed, which
put it in force there as it left (R324). -/
def wrCcRsel (q : Req) (r : Nat) (w : Word) (s : State) : State :=
  s.write q islSYS 3 (fun t =>
    let u := t.storeDirect (aCC_RSEL r) fCC_RSEL w
    if s.carried.isSome && reqNum q == r then u
    else { u with cc := { u.cc with port := sput 0 r (getBits w CC_RSEL.cg) u.cc.port } })

/-- CC_RSEL_WRITE. -/
def execCcRselWrite (q : Req) (r : Fin 331) (w : Word) (s : State) : Host.Outcome State Fault Refusal :=
  .next (s.crossTo q true (aCC_RSEL r) w (wrCcRsel q r w))

/-- The staged value, staged bit and group of the word at `a` (R326). -/
def State.stagedView (s : State) (a : Nat) (live : Nat → Word) : Word × Bool × Nat :=
  match s.stagedAt a, pageOf a with
  | some x, _ => (x.val, true, x.grp)
  | none, some p => if s.dirty p then (s.word (stagedCopy a), true, s.get (pgCfg p) PG_CFG.cg) else (s.word a, false, 0)
  | none, none => (live a, false, 0)

/-- What a far read of CC_SRD_DATA shows, with the active values that `live` gives. -/
def State.srdData (s : State) (live : Nat → Word) : Word := (s.stagedView (s.reg aCC_SRD_ADDR).toNat live).1

/-- What a far read of CC_SRD_INFO shows. -/
def State.srdInfo (s : State) : Word :=
  let v := s.stagedView (s.reg aCC_SRD_ADDR).toNat (fun _ => 0)
  putBits (putBits 0 CC_SRD_INFO.staged v.2.1.toNat) CC_SRD_INFO.cg v.2.2

/-! ### Snapshots (R341 to R343) -/

/-- The island, and the value now, of snapshot source `code` (R342). -/
def State.snapSource (s : State) (code : Nat) : Nat × Word :=
  if code < 0x20 then (islANA, s.reg (aCONV_MBOX code))
  else if code < 0x40 then (islANA, s.reg (aSD_DATA (code - 0x20)))
  else if code < 0x50 then (islANA, s.reg (aSG_STAMP (code - 0x40)))
  else if code < 0xC0 then (islTIM ((code - 0x80) / 16), s.sliceCount (code - 0x80))
  else if code < 0xE0 then (islTIM ((code - 0xC0) / 8), s.reg (aCAP_LO (code - 0xC0)))
  else if code < 0x100 then (islTIM ((code - 0xE0) / 8), s.reg (aCAP_HI (code - 0xE0)))
  else if code < 0x120 then (islTIM ((code - 0x100) / 8),
    putBits (s.reg (aTZ_STATUS (code - 0x100))) TZ_STATUS.input (s.zoneInput (code - 0x100)).toNat)
  else if code = 0x120 then (islAON, s.tbLo)
  else (islAON, s.tbHi)

/-- Unit `u` takes its snapshot in tick `ts` (R341, R343). -/
def State.snapshotAt (s : State) (u ts : Nat) : State :=
  let n := s.get (aSNAP_CFG u) SNAP_CFG.n
  let srcs := (List.range n).map (fun i => { s with tb := ts }.snapSource (s.get (aSNAP_SRC u i) SNAP_SRC.code))
  let dead := srcs.any (fun x => !s.alive x.1)
  let cnt := sget 0 s.cc.snapCnt u
  let ws := [BitVec.ofNat 32 ts, BitVec.ofNat 32 (ts / 2 ^ 32), BitVec.ofNat 32 (cnt % 65536), 0] ++
    srcs.map (fun x => if s.alive x.1 then x.2 else 0)
  let t := (s.set (aSNAP_STATUS u) SNAP_STATUS.busy 1).flagIf dead (aSNAP_STATUS u) SNAP_STATUS.src_err
  { t with cc := { t.cc with snap := sput none u (some { ts := ts, words := ws }) t.cc.snap,
                             snapCnt := sput 0 u ((cnt + 1) % 65536) t.cc.snapCnt } }

/-- SNAPSHOT: an activation of consumer input 2320 + u. It waits for a commit of its tick, whose values it sees (R334). -/
def execSnapshot (u : Fin 8) (s : State) : Host.Outcome State Fault Refusal :=
  .next (match s.actFor (2320 + u) with
    | some a =>
      let t := s.dropAct a
      if s.commitOwed a.take then s
      else if t.on (aSNAP_CFG u) SNAP_CFG.en && t.alive islSYS && sget none t.cc.snap u == none then t.snapshotAt u a.take
      else t.unhold (2320 + u)
    | none => s)

/-- SNAPSHOT_COMPLETE: the page of unit `u` is written, if its whole page lies in system SRAM (R343). -/
def execSnapshotComplete (u : Fin 8) (s : State) : Host.Outcome State Fault Refusal :=
  .next (match sget none s.cc.snap u with
    | some x =>
      let d := (s.reg (aSNAP_DST u)).toNat
      let inside := decide (0x10000000 ≤ d) && decide (d + 4 * x.words.length ≤ 0x10800000)
      let t := { s with cc := { s.cc with snap := sput none u none s.cc.snap } }
      let t := (t.set (aSNAP_STATUS u) SNAP_STATUS.busy 0).unhold (2320 + u)
      if inside then (t.memWords d x.words).set (aSNAP_STATUS u) SNAP_STATUS.done 1
      else t.set (aSNAP_STATUS u) SNAP_STATUS.err 1
    | none => s)

end Sys2Proof.Machine
end

