-- ==== Sys2Proof/Machine/Link.lean ====
section
/-!
DEFINITION. How accesses cross into a clutch (R16, R21), how an access that has crossed ends (R156, R157, R347), and sending packets
on Swimlink (R422 to R426).
-/

namespace Sys2Proof.Machine

/-! ### Posted stores -/

/-- Is byte address `a` in one of Newt `e`'s own instruction banks? -/
def inOwnBank (e a : Nat) : Bool :=
  let b := 0x20000000 + e / 16 * 0x200000 + e % 16 * 0x10000
  decide (e < 256) && decide (b + 0x4000 ≤ a) && decide (a < b + 0xC000)

/-- A far write of an engine is acknowledged (R157). -/
def State.ackStore (s : State) (x : Xfer) : State :=
  let y := s.eng x.eng
  s.setEng x.eng { y with acks := y.acks - 1, bankAcks := if inOwnBank x.eng x.st.addr then y.bankAcks - 1 else y.bankAcks }

/-- A far write of an engine got an error response: the engine has still to record it (R156). -/
def State.nakStore (s : State) (x : Xfer) (cause : Nat) : State :=
  let y := s.eng x.eng
  s.setEng x.eng { y with errs := y.errs ++ [{ addr := x.st.addr, data := x.st.data, size := x.st.size, ring := x.st.ring,
                                               cause := cause }] }

/-- A write of DMA channel `c` to address `a` is answered: under ackwait the TD counts it (R375), otherwise only an error is
reported, late (R376). -/
def State.dmaAck (s : State) (c a : Nat) (wait err : Bool) : State :=
  let d := s.dmaCh c
  s.setDma c (if wait then { d with acks := d.acks - 1, werr := if err then d.werr ++ [a] else d.werr }
    else { d with late := if err then d.late ++ [a] else d.late })

/-! ### Accesses that end -/

/-- What the bundle in E of an engine asked for is answered. -/
def State.endOp (s : State) (e : Nat) (r : Reply) : State := s.setEng e { s.eng e with reply := r }

/-- The answer to a DMA read of index `i`. -/
def State.endDmaRead (s : State) (c i : Nat) (r : DmaAns) : State :=
  let d := s.dmaCh c
  s.setDma c { d with answers := d.answers ++ [(i, r)] }

/-- The access of transfer `x` ends at its target with answer `r`; an error is of cause 0, 1 or 2 (R156): its requester gets what it
waits for. -/
def State.endXfer (s : State) (x : Xfer) (r : Acc.Res) (cause : Nat) : State := match x.st.kind, r with
  | .stale, _ => s
  | _, .held => s
  | .op, .ok w => s.endOp x.eng (.words [w])
  | .op, .err => s.endOp x.eng (.err x.st.addr (cause == 2))
  | .dma wait, r => s.dmaAck (x.eng - 258) x.st.addr wait (r == .err)
  | .dmaRead i, .ok w => s.endDmaRead (x.eng - 258) i (.word w)
  | .dmaRead i, .err => s.endDmaRead (x.eng - 258) i (if cause = 2 then .ue else .err)
  | .cmd _, r => s.respond (reqAt x.eng x.st.ring) r
  | .remote write src tag, .ok w => if write then s.answer 4 src tag [] else s.answer 3 src tag (wordBytes w)
  | .remote _ src tag, .err => s.answer 10 src tag []
  | _, .ok _ => s.ackStore x
  | _, .err => s.nakStore x cause

/-- What requester `r` asked of other devices is given up: its answers go to nobody. -/
def State.dropRemote (s : State) (r : Nat) : State :=
  { s with swl := { s.swl with outs := s.swl.outs.filter (fun o => match o.who with
      | .access x => x.eng != r
      | _ => true) } }

/-- Is `a` in a Swimlink window? -/
def inWindow (a : Nat) : Bool := decide (0xC0000000 ≤ a) && decide (a < 0xE0000000)

/-- The writes of single words that a line, of words `ws` from `a` on, is written back with. -/
def lineXfers (x : Xfer) : Nat → List Word → List Xfer
  | _, [] => []
  | a, w :: ws => { x with st := { x.st with kind := .line [w], addr := a, data := w } } :: lineXfers x (a + 4) ws

/-- The requests that transfer `x` makes: a line that goes through a window is written back word by word. -/
def requests (x : Xfer) : List Xfer := match x.st.kind with
  | .line ws => if inWindow x.st.addr then lineXfers x x.st.addr ws else [x]
  | _ => [x]

/-- A transfer finds its island taking nothing (R21): a feed write sets its flag, an arm request is dropped, anything else gets an error
response. -/
def State.lostXfer (s : State) (x : Xfer) : State := match x.st.kind with
  | .feed sd k _ => s.feedFlag sd k true
  | .arm _ => s
  | _ => (requests x).foldl (fun t y => t.endXfer y .err 1) s

/-- The low bits of a word that an access of a size covers. -/
def sized (size : Nat) (w : Word) : Word := if size = 0 then w else if size = 1 then w &&& 0xFFFF#32 else w &&& 0xFF#32

/-- A remote request of this device ends (R427, R428): with the word it read or the acknowledgement of its write, or with an
error. -/
def State.endRemote (s : State) (o : SwlOut) (err : Bool) (w : Word) : State :=
  let t := { s with swl := { s.swl with outs := s.swl.outs.erase o } }
  match o.who with
  | .access x => t.endXfer x (if err then .err else .ok (sized x.st.size w)) 0
  | .qfwd _ => t

/-- The offset of a window that lists a target, and the address it maps to (R427). -/
def windowTarget (o : Nat) : Option Nat :=
  if o < 0x800000 then some (0x10000000 + o)
  else if o < 0x900000 then some (0x51000000 + (o - 0x800000))
  else if o < 0x940000 then some (0x50000000 + (o - 0x900000))
  else if 0x1000000 ≤ o && o < 0x2000000 then some (0x40000000 + (o - 0x1000000))
  else if 0x2000000 ≤ o && o < 0x4000000 then some (0x20000000 + (o - 0x2000000))
  else none

/-- The device and offset of a window address. -/
def winDev (a : Nat) : Nat := (a - 0xC0000000) / 0x4000000
def winOfs (a : Nat) : Nat := (a - 0xC0000000) % 0x4000000

/-- Does an access to window address `a` get an access error at the requester's own port (R427, R554)? -/
def State.windowBad (s : State) (a : Nat) : Bool := (windowTarget (winOfs a)).isNone || winDev a == s.devaddr

/-- Send a request: type 1 RDREQ or 2 WRREQ; size 0 word, 1 halfword, 2 byte. None: no route. -/
def State.request (s : State) (who : SwlWho) (type a size ring : Nat) (data : List Byte) : Option State :=
  let tag := s.swl.nextTag
  let p : Pkt := { type := type, down := false, dst := winDev a, src := s.devaddr, ring := ring, size := size, tag := tag,
                   addr := winOfs a, data := data }
  match s.send p with
  | (t, some l) => some (t.await { tag := tag, port := l, left := t.leftAt s l, who := who })
  | (_, none) => none

/-- Does transfer `x` read? -/
def Xfer.reads (x : Xfer) : Bool := match x.st.kind with
  | .op | .dmaRead _ | .cmd false | .remote false _ _ => true
  | _ => false

/-- An access through a window that has crossed into LNK leaves the device (R427); one that finds no route gets an error response. -/
def State.sendAccess (s : State) (x : Xfer) : State :=
  (if x.reads then s.request (.access x) 1 x.st.addr x.st.size x.st.ring []
   else s.request (.access x) 2 x.st.addr x.st.size x.st.ring (wordBytes x.st.data)).getD (s.endXfer x .err 0)

end Sys2Proof.Machine
end

