-- ==== Sys2Proof/Machine/Queue.lean ====
section
/-!
DEFINITION. Hardware queues and their ports (R351 to R364).
-/

namespace Sys2Proof.Machine

/-- Is an access of `n` bytes at `a` inside system SRAM? -/
def inSram (a n : Nat) : Bool := decide (0x10000000 ≤ a) && decide (a + n ≤ 0x10800000)

/-! ### Descriptors -/

/-- The size, count, head and tail of queue `q`. -/
def State.qSize (s : State) (q : Nat) : Nat := 2 ^ s.get (aQD_CFG q) QD_CFG.lsz
def State.qCount (s : State) (q : Nat) : Nat := s.get (aQD_CNT q) QD_CNT.count
def State.qHead (s : State) (q : Nat) : Nat := s.get (aQD_PTR q) QD_PTR.head
def State.qTail (s : State) (q : Nat) : Nat := s.get (aQD_PTR q) QD_PTR.tail

/-- The byte address of record `i` of queue `q`. -/
def State.qRec (s : State) (q i : Nat) : Nat := (s.reg (aQD_BASE q)).toNat + 16 * i

/-- Is queue `q` enabled and the queue manager ready (R359)? -/
def State.qOn (s : State) (q : Nat) : Bool :=
  s.reach islSYS && s.on aQM_STATUS QM_STATUS.ready && s.on (aQD_CFG q) QD_CFG.en

/-- The addresses of the words of queue `q`'s descriptor, and, with `rec`, of those of the record at its head, if there is one. -/
def State.qWords (s : State) (q : Nat) (rec : Bool) : List Nat :=
  (List.range 4).map (fun i => aQD_BASE q + 4 * i) ++
    if rec && s.qCount q != 0 then (List.range 4).map (fun i => s.qRec q (s.qHead q) + 4 * i) else []

/-- Does none of these words hold an uncorrectable error? One that does is answered as a disabled queue is (R24; DESIGN CHOICE, log
42: the spec says that the error is detected, not what the operation does). -/
def State.qSound (s : State) (q : Nat) (rec : Bool) : Bool := (s.qWords q rec).all (fun a => !s.ue.contains a)

/-- An operation reads these words of an enabled queue: errors in them are counted, correctable ones corrected (R503). -/
def State.qMeet (s : State) (q : Nat) (rec : Bool) : State := if s.qOn q then s.meetAll (s.qWords q rec) else s

/-- May ring `r` operate on queue `q` (R226, R364)? -/
def State.qMay (s : State) (q r : Nat) : Bool :=
  s.qOn q && decide (r ≤ s.get (aQD_CFG q) QD_CFG.ring) && s.qSound q false

/-- Is queue `q` high (R358)? -/
def State.qHigh (s : State) (q : Nat) : Bool :=
  s.on (aQD_CFG q) QD_CFG.en && s.get (aQD_CFG q) QD_CFG.wm != 0 &&
    decide (s.get (aQD_CFG q) QD_CFG.wm ≤ s.qCount q)

/-- The line of queue `q`. -/
def State.qLine (s : State) (q : Nat) : Nat := s.get (aQD_CFG q) QD_CFG.line

/-- A queue that was high on `line`, as `was` says, is judged again (R358): the lines' counts follow, and a queue that
becomes high fires its line's producer. -/
def State.rejudge (s : State) (q : Nat) (was : Bool) (line : Nat) : State :=
  let now := s.qHigh q
  let s := if was then s.set (aQW_LINE line) QW_LINE.n_high (s.get (aQW_LINE line) QW_LINE.n_high - 1) else s
  let l := s.qLine q
  let s := if now then s.set (aQW_LINE l) QW_LINE.n_high (s.get (aQW_LINE l) QW_LINE.n_high + 1) else s
  if now && !was then (s.set (aQW_LINE l) QW_LINE.last_q q).fire (1184 + l) else s

/-! ### Operations (R355, R356) -/

/-- Write a record at the tail. -/
def State.qPush (s : State) (q : Nat) (ws : List Word) : State :=
  let t := s.memWords (s.qRec q (s.qTail q)) ws
  ((t.set (aQD_PTR q) QD_PTR.tail ((s.qTail q + 1) % s.qSize q)).set (aQD_CNT q) QD_CNT.count (s.qCount q + 1)).rejudge q
    (s.qHigh q) (s.qLine q)

/-- Remove the record at the head. -/
def State.qDrop (s : State) (q : Nat) : State :=
  ((s.set (aQD_PTR q) QD_PTR.head ((s.qHead q + 1) % s.qSize q)).set (aQD_CNT q) QD_CNT.count (s.qCount q - 1)).rejudge q
    (s.qHigh q) (s.qLine q)

/-- The record at the head. -/
def State.qFront (s : State) (q : Nat) : List Word :=
  (List.range 4).map (fun i => s.word (s.qRec q (s.qHead q) + 4 * i))

def State.countDrop (s : State) (q : Nat) : State := s.incSat (aQD_CNT q) QD_CNT.drops

/-- What a put finds. -/
inductive PutRes where
  | stored | rejected | full
  deriving DecidableEq, Repr

/-- A put that follows the drop of the oldest record in one step: the queue's height before is that of `s0`. -/
def State.qPushFrom (t : State) (q : Nat) (ws : List Word) (s0 : State) : State :=
  let u := t.memWords (t.qRec q (t.qTail q)) ws
  ((u.set (aQD_PTR q) QD_PTR.tail ((t.qTail q + 1) % t.qSize q)).set (aQD_CNT q) QD_CNT.count (t.qCount q + 1)).rejudge q
    (s0.qHigh q) (s0.qLine q)

/-- A put of a record into an enabled queue (R356): `full` says that a backpressure queue has no room. -/
def State.qPut (s : State) (q : Nat) (ws : List Word) : State × PutRes :=
  if s.qCount q < s.qSize q then (s.qPush q ws, .stored)
  else
    let p := s.get (aQD_CFG q) QD_CFG.policy
    if p = 1 then
      let t := (s.set (aQD_PTR q) QD_PTR.head ((s.qHead q + 1) % s.qSize q)).set (aQD_CNT q) QD_CNT.count (s.qCount q - 1)
      ((t.countDrop q).qPushFrom q ws s, .stored)
    else if p = 2 then (s, .full)
    else (s.countDrop q, .rejected)

/-- A DMA channel's completion record has its place, is lost, or there is none: the completion takes effect (R373, R378). A
status other than 0 ends the chain, and so does stop = 1. -/
def State.dmaEnd (s : State) (c status : Nat) (lost : Bool) : State :=
  let a := aDMA_STAT c
  let d := s.dmaCh c
  let w4 := d.td.getD 4 0
  let w := if status = 2 then s.setReg (aDMA_ERRADDR c) (BitVec.ofNat 32 (d.werr.headD 0)) else s
  let t := (((w.flagIf lost a DMA_STAT.rec_lost).set a DMA_STAT.waitq 0).set a DMA_STAT.last_status status).set a
    (if status = 0 then DMA_STAT.done else DMA_STAT.err) 1
  let t := (t.incWrap a DMA_STAT.seq).fire (1248 + c)
  let late := d.late ++ (if status = 2 then [] else d.werr)
  if status = 0 && !w4.getLsbD 0 then
    (t.setReg (aDMA_CUR c) (w4 &&& 0xFFFFFFE0#32)).setDma c { phase := .fetch, late := late }
  else (t.set a DMA_STAT.busy 0).setDma c { late := late }

/-- A waiting put is over: stored, or, with `fault`, ended with an error. -/
def State.endWait (s : State) (w : QWait) (fault : Bool) : State :=
  match w.who with
  | .eng e => s.setEng e { s.eng e with wait := .queue (some (fault, false, [])), reply := .none }
  | .write x _ => s.endXfer x (if fault then .err else .ok 0) 0
  | .dma c => match (s.dmaCh c).phase with
    | .waitq st => s.dmaEnd c st fault
    | _ => s

/-- A put that waited on `q` completes when there is room, the oldest first (R356). -/
def State.wakePut (s : State) (q : Nat) : State :=
  match s.qm.waits.find? (fun w => w.queue == q) with
  | some w =>
    if s.qCount q < s.qSize q then
      ({ s with qm := { s.qm with waits := s.qm.waits.erase w } }.qPush q w.words).endWait w false
    else s
  | none => s

/-- A put by someone who can wait: the state, and the result; on a full backpressure queue `who` waits. -/
def State.qPutFor (s : State) (q : Nat) (ws : List Word) (who : Waiter) : State × PutRes :=
  match s.qPut q ws with
  | (t, .full) => ({ t with qm := { t.qm with waits := t.qm.waits ++ [{ queue := q, who := who, words := ws }] } }, .full)
  | r => r

/-- A get (R355): the record, if there is one; a waiting put then completes. -/
def State.qGet (s : State) (q : Nat) : State × Option (List Word) :=
  if s.qCount q = 0 then (s, none) else ((s.qDrop q).wakePut q, some (s.qFront q))

/-- A peek. -/
def State.qPeek (s : State) (q : Nat) : Option (List Word) := if s.qCount q = 0 then none else some (s.qFront q)

/-- A get by a unit of ring 0 that waits for no answer. -/
def State.qFetch (s : State) (q : Nat) : State × Option (List Word) :=
  if s.qMay q 0 && s.qSound q true then (s.qMeet q true).qGet q else (s.qMeet q true, none)

/-! ### Descriptor writes (R352 to R354) -/

/-- The checks of an enable, on the word `w` written to QD_CFG (R354). -/
def State.enableOk (s : State) (q : Nat) (w : Word) : Bool :=
  let n := 2 ^ getBits w QD_CFG.lsz
  let b := (s.reg (aQD_BASE q)).toNat
  decide (2 ≤ getBits w QD_CFG.lsz) && decide (getBits w QD_CFG.lsz ≤ 16) && getBits w QD_CFG.policy != 3 &&
    b % (16 * n) == 0 && inSram b (16 * n) && decide (s.qHead q < n) && decide (s.qCount q ≤ n) &&
    s.qTail q == (s.qHead q + s.qCount q) % n

/-- Every put that an engine waits with on `q` ends with the queue fault (R354). -/
def State.endQputs (s : State) (q : Nat) : State :=
  let mine (w : QWait) : Bool := w.queue == q && (match w.who with
    | .eng _ => true
    | _ => false)
  (s.qm.waits.filter mine).foldl (fun t w => t.endWait w true) { s with qm := { s.qm with
    waits := s.qm.waits.filter (fun w => !mine w) } }

/-- Does a write of `w` to word `k` of descriptor `q` get an access error (R353, R354, R359)? -/
def State.descBad (s : State) (q k : Nat) (w : Word) : Bool :=
  let en := s.on (aQD_CFG q) QD_CFG.en
  !s.on aQM_STATUS QM_STATUS.ready ||
    (if k < 3 then en
     else if en then getBits w QD_CFG.lsz != s.get (aQD_CFG q) QD_CFG.lsz
     else getBits w QD_CFG.en == 1 && !s.enableOk q w)

/-- The fields of word `k` of a descriptor. -/
def descFlds (k : Nat) : List Fld := if k = 0 then fQD_BASE else if k = 1 then fQD_PTR else if k = 2 then fQD_CNT else fQD_CFG

/-- A write to word `k` (0 to 3) of descriptor `q`, from rings 0 and 1. -/
def wrDesc (q : Req) (d k : Nat) (w : Word) (s : State) : State :=
  if s.admits q islSYS && decide (s.ringOf q ≤ 1) && !s.descBad d k w then
    let t := ((s.keepErrs (fun x => x != aQD_BASE d + 4 * k)).storeDirect (aQD_BASE d + 4 * k) (descFlds k) w).rejudge d (s.qHigh d)
      (s.qLine d)
    let t := if s.on (aQD_CFG d) QD_CFG.en && !t.on (aQD_CFG d) QD_CFG.en then t.endQputs d else t
    t.reply q false 0
  else s.refuse q

/-- QUEUE_ENABLE: a write to QD_CFG that sets en. -/
def execQueueEnable (q : Req) (d : Fin 16384) (w : Word) (s : State) : Host.Outcome State Fault Refusal :=
  .next (s.crossTo q true (aQD_BASE d + 12) w (wrDesc q d 3 w))

/-- QUEUE_DISABLE: a write to QD_CFG that clears en. -/
def execQueueDisable (q : Req) (d : Fin 16384) (w : Word) (s : State) : Host.Outcome State Fault Refusal :=
  .next (s.crossTo q true (aQD_BASE d + 12) w (wrDesc q d 3 w))

/-- QM_INIT_DONE: all descriptors hold 0 (R359). -/
def execQmInitDone (s : State) : Host.Outcome State Fault Refusal :=
  .next (if s.alive islSYS && !s.on aQM_STATUS QM_STATUS.ready then
    ({ s.keepErrs (fun a => !(decide (0x50000000 ≤ a) && decide (a < 0x50040000))) with
      regs := s.regs.filter (fun x => !(decide (0x50000000 ≤ x.1) && decide (x.1 < 0x50040000))) }.set aQM_STATUS
      QM_STATUS.ready 1).setReady 21 0 true
  else s)

/-! ### Ports (R361 to R364) -/

def State.portBuf (s : State) (q : Req) : PortBuf := sget {} s.qm.bufs (reqNum q)
def State.setPortBuf (s : State) (q : Req) (b : PortBuf) : State :=
  { s with qm := { s.qm with bufs := sput {} (reqNum q) b s.qm.bufs } }

/-- The result word of the requester's last port operation. -/
def State.portRes (s : State) (q : Req) (r : Word) : State := s.setPortBuf q { s.portBuf q with res := r }

/-- Word `j` (0 to 2) of a record reaches the put buffer through the port of queue `d`; word 0 starts a new record. -/
def State.portWord (s : State) (q : Req) (d j : Nat) (w : Word) : State :=
  let b := s.portBuf q
  let old := if j = 0 then [] else b.by_
  s.setPortBuf q { b with put := b.put.set j w, by_ := if old.contains (j, d) then old else old ++ [(j, d)] }

/-- The record that the put buffer makes with the last word `w`, if each of its three words has been written through the port of queue
`d` since the last write of word 0 (R362). -/
def PortBuf.record (b : PortBuf) (d : Nat) (w : Word) : Option (List Word) :=
  if b.by_.contains (0, d) ∧ b.by_.contains (1, d) ∧ b.by_.contains (2, d) then some (b.put ++ [w]) else none

/-- A write of word 3: the put buffer is appended as one record, or sets port_err (R362). -/
def State.portAppend (s : State) (q : Req) (d : Nat) (w : Word) : State × Acc.Res :=
  match (s.portBuf q).record d w with
  | none => (s.portRes q 4, .ok 0)
  | some ws => match s.qPutFor d ws (.write (s.accessXfer q true (0x5100000C + 0x40 * d) w) s.tb) with
    | (t, .stored) => (t.portRes q 0, .ok 0)
    | (t, .rejected) => (t.portRes q 1, .ok 0)
    | (t, .full) => (t.portRes q 0, .held)

/-- A write to offset `o` of the port of queue `d`. -/
def State.portWrite (s : State) (q : Req) (d o : Nat) (w : Word) : State × Acc.Res :=
  if !s.admits q islSYS then (s, .err)
  else if !s.qMay d (s.ringOf q) then (s.qMeet d false, .err)
  else if o = 0 ∨ o = 4 ∨ o = 8 then (s.portWord q d (o / 4) w, .ok 0)
  else if o = 12 then (s.qMeet d false).portAppend q d w
  else (s, .err)

/-- Latch a record, or an empty queue, into the get buffer (R363): the word that the get or peek returns. -/
def State.portLatch (s : State) (q : Req) (r : Option (List Word)) : State × Acc.Res :=
  let ws := r.getD [0, 0, 0, 0]
  let b := s.portBuf q
  (s.setPortBuf q { b with get_ := ws.drop 1, res := if r.isNone then 2 else 0 }, .ok (ws.headD 0))

/-- A read of offset `o` of the port of queue `d`. -/
def State.portRead (s : State) (q : Req) (d o : Nat) : State × Acc.Res :=
  if !s.admits q islSYS then (s, .err)
  else if !s.qMay d (s.ringOf q) then (s.qMeet d false, .err)
  else if (o = 0x10 ∨ o = 0x20) ∧ s.qSound d true = false then (s.qMeet d true, .err)
  else if o = 0x10 then
    let (t, r) := (s.qMeet d true).qGet d
    t.portLatch q r
  else if o = 0x20 then (s.qMeet d true).portLatch q (s.qPeek d)
  else if o = 0x14 ∨ o = 0x18 ∨ o = 0x1C then (s, .ok ((s.portBuf q).get_.getD (o / 4 - 5) 0))
  else if o = 0x24 then (s.portRes q 0, .ok (BitVec.ofNat 32 (s.qCount d)))
  else if o = 0x28 then (s, .ok (s.portBuf q).res)
  else (s, .err)

/-- A port write as a command. -/
def wrPort (q : Req) (d o : Nat) (w : Word) (s : State) : State :=
  let r := s.portWrite q d o w
  r.1.respond q r.2

/-- A port read as a command. -/
def rdPort (q : Req) (d o : Nat) (s : State) : State :=
  let r := s.portRead q d o
  r.1.respond q r.2

/-- PORT_PUT_WORD. -/
def execPortPutWord (q : Req) (d : Fin 16384) (j : Fin 3) (w : Word) (s : State) : Host.Outcome State Fault Refusal :=
  .next (s.crossTo q true (0x51000000 + 0x40 * d + 4 * j) w (wrPort q d (4 * j) w))

/-- PORT_PUT_APPEND. -/
def execPortPutAppend (q : Req) (d : Fin 16384) (w : Word) (s : State) : Host.Outcome State Fault Refusal :=
  .next (s.crossTo q true (0x5100000C + 0x40 * d) w (wrPort q d 12 w))

/-- PORT_GET. -/
def execPortGet (q : Req) (d : Fin 16384) (s : State) : Host.Outcome State Fault Refusal :=
  .next (s.crossTo q false (0x51000010 + 0x40 * d) 0 (rdPort q d 0x10))

/-- PORT_PEEK. -/
def execPortPeek (q : Req) (d : Fin 16384) (s : State) : Host.Outcome State Fault Refusal :=
  .next (s.crossTo q false (0x51000020 + 0x40 * d) 0 (rdPort q d 0x20))

/-- PORT_COUNT. -/
def execPortCount (q : Req) (d : Fin 16384) (s : State) : Host.Outcome State Fault Refusal :=
  .next (s.crossTo q false (0x51000024 + 0x40 * d) 0 (rdPort q d 0x24))

/-- PORT_PUT_TIMEOUT: the held port put of requester `q` has waited for 10 µs (R364). -/
def execPortPutTimeout (q : Req) (s : State) : Host.Outcome State Fault Refusal :=
  let due (w : QWait) : Bool := match w.who with
    | .write x t => x.eng == reqNum q && decide (t + 10000 ≤ s.tb)
    | _ => false
  .next (match s.qm.waits.find? due with
    | some w => ({ s with qm := { s.qm with waits := s.qm.waits.erase w } }.countDrop w.queue).endWait w true
    | none => s)

end Sys2Proof.Machine
end

