-- ==== Sys2Proof/Machine/Std.lean ====
section
/-!
DEFINITION. Standard interfaces, JTAG, GPIO (R443 to R458).
-/

namespace Sys2Proof.Machine

/-! ### Ethernet (R445 to R447) -/

/-- Is MAC `m` enabled and READY? -/
def State.macOn (s : State) (m : Nat) : Bool :=
  s.alive islLNK && s.isReady 19 (8 + m) && s.on (aMAC_CFG m) MAC_CFG.en

/-- ETHERNET_LINK_CHANGE. -/
def execEthernetLinkChange (m : Fin 2) (up : Bool) (s : State) : Host.Outcome State Fault Refusal :=
  .next (if s.macOn m then s.setB (aMAC_STAT m) MAC_STAT.link up else s)

/-- A put of the MAC, a ring-0 requester that never waits (R445): the state, and whether the record was stored. -/
def State.macPut (s : State) (q : Nat) (ws : List Word) : State × Bool :=
  if !s.qMay q 0 then (s.qMeet q false, false)
  else match (s.qMeet q false).qPut q ws with
    | (t, .stored) => (t, true)
    | (t, .rejected) => (t, false)
    | (t, .full) => (t.countDrop q, false)

/-- The bytes of memory from address `a` on. -/
def State.bytesAt (s : State) (a n : Nat) : List Byte := (List.range n).map (fun i => s.byte (a + i))

/-- Bytes written to memory one after another. -/
def State.eachByte (s : State) (a : Nat) : List Byte → State
  | [] => s
  | b :: bs => (s.memWrite a 1 (b.setWidth 32)).eachByte (a + 1) bs

/-- Bytes written to memory by a requester: a word written whole holds good data again. -/
def State.memBytes (s : State) (a : Nat) (bs : List Byte) : State :=
  (s.eachByte a bs).keepErrs (fun w => !(decide (a ≤ w) && decide (w + 4 ≤ a + bs.length)))

/-- A number as `n` bytes, most significant first. -/
def beBytes (n v : Nat) : List Byte := (leBytes n v).reverse

/-- The number that bytes spell, most significant first. -/
def beNat (bs : List Byte) : Nat := leNat bs.reverse

/-- The list with `bs` written over it from position `i`. -/
def overwrite (f : List Byte) (i : Nat) (bs : List Byte) : List Byte := f.take i ++ bs ++ f.drop (i + bs.length)

/-- Where the PTP message of a frame starts, and, over UDP/IPv4, where its UDP checksum lies (IEEE 1588-2019, Annexes F and C);
one C-tag may precede. -/
def ptpAt (f : List Byte) : Option (Nat × Option Nat) :=
  let o := if beNat ((f.drop 12).take 2) = 0x8100 then 4 else 0
  let ty := beNat ((f.drop (12 + o)).take 2)
  if ty = 0x88F7 then some (14 + o, none)
  else if ty = 0x0800 then
    let ihl := 4 * ((f.getD (14 + o) 0).toNat % 16)
    let u := 14 + o + ihl
    if f.getD (23 + o) 0 = 17 ∧ beNat ((f.drop (u + 2)).take 2) = 319 then some (u + 8, some (u + 6)) else none
  else none

/-- The frame as a one-step MAC sends it, for the 1588 time `t` in ns and a fine step (R447): an event message gets its
originTimestamp, its correctionField grows by the fine part, and over UDP/IPv4 its checksum is 0. -/
def oneStep (f : List Byte) (t fine : Nat) : List Byte :=
  match ptpAt f with
  | some (p, ck) =>
    if (f.getD p 0).toNat % 16 < 4 then
      let corr := (beNat ((f.drop (p + 8)).take 8) + fine * 512) % 2 ^ 64
      let g := overwrite f (p + 8) (beBytes 8 corr)
      let g := overwrite g (p + 34) (beBytes 6 (t / 1000000000) ++ beBytes 4 (t % 1000000000))
      match ck with
      | some u => overwrite g u [0, 0]
      | none => g
    else f
  | none => f

/-- A word of PTP_OFS as it was active in tick `t`: what the first commit after it found there (R447). -/
def State.ptpWord (s : State) (t a : Nat) : Word :=
  ((s.std.ptp.reverse.find? (fun x => x.1 == a && decide (t < x.2.1))).map (·.2.2)).getD (s.reg a)

/-- PTP_OFS as it was active in tick `t`. -/
def State.ptpOfs (s : State) (t : Nat) : Nat := (s.ptpWord t aPTP_OFS_HI ++ s.ptpWord t aPTP_OFS_LO).toNat

/-- A frame of 64 bytes at least, its FCS behind it (IEEE 802.3). -/
def macFrame (f : List Byte) : List Byte :=
  let g := f ++ List.replicate (60 - f.length) 0
  g ++ leBytes 4 (crc32 g).toNat

/-- Is a frame a PAUSE of IEEE 802.3, Clause 31 (R443)? -/
def isPause (f : List Byte) : Bool :=
  beNat (f.take 6) == 0x0180C2000001 && beNat ((f.drop 12).take 4) == 0x88080001

/-- How long, in ns, MAC `m` takes for `n` bits. -/
def State.macBits (s : State) (m n : Nat) : Nat := match s.get (aMAC_CFG m) MAC_CFG.phy with
  | 0 | 1 => n / 10
  | 2 => n
  | _ => n * 10 ^ (Config.sgmii m % 3)

/-- A PAUSE keeps MAC `m` from sending for the quanta of 512 bits that it names. -/
def State.macPause (s : State) (m : Nat) (f : List Byte) : State :=
  { s with std := { s.std with pause := sput 0 m (s.tb + s.macBits m (512 * beNat ((f.drop 16).take 2))) s.std.pause } }

/-- MAC_TX_FRAME: MAC `m` takes a tx record and sends its frame, whose first bit after the start-of-frame delimiter crosses the
ball at tick `sfd` and fine step `fine` (R445, R446); a commit that is due by then comes first. -/
def execMacTxFrame (m : Fin 2) (sfd : BitVec 64) (fine : BitVec 7) (s : State) : Host.Outcome State Fault Refusal :=
  let q := s.get (aMAC_QCFG m) MAC_QCFG.tx
  .next (if s.macOn m && s.on (aMAC_STAT m) MAC_STAT.link && decide (sfd.toNat ≤ s.tb) && decide (sget 0 s.std.pause m ≤ sfd.toNat) &&
      !s.commitOwed sfd.toNat then
    match s.qFetch q with
    | (t, some ws) =>
      let a := (ws.getD 0 0).toNat
      let w := ws.getD 1 0
      let len := w.toNat % 2 ^ 14
      let takes := inSram a len && decide (len ≤ s.get (aMAC_CFG m) MAC_CFG.maxlen)
      let status := if takes then (if (s.firstUe a (len - 4)).isSome then 3 else 0) else if !inSram a len then 3 else 2
      let t := if takes then t.noteUe a (len - 4) else t
      let f := s.bytesAt a (len - 4)
      let f := if w.getLsbD 30 then oneStep f ((sfd.toNat + s.ptpOfs sfd.toNat) % 2 ^ 64) fine.toNat else f
      let t := if status = 0 then { t with std := { t.std with sent := sput [] m (macFrame f) t.std.sent } } else t
      (t.macPut (q + 1) [BitVec.ofNat 32 (status * 2 ^ 24 + w.toNat / 2 ^ 16 % 2 ^ 14), BitVec.ofNat 32 (fine.toNat * 2 ^ 16),
        sfd.setWidth 32, (sfd >>> 32).setWidth 32]).1
    | (t, none) => t
  else s)

/-- A received frame less its C-tag, if it has one (R443). -/
def stripTag (f : List Byte) : List Byte :=
  if beNat ((f.drop 12).take 2) = 0x8100 then f.take 12 ++ f.drop 16 else f

/-- A frame is lost (R445). -/
def State.macDrop (s : State) (m : Nat) : State := s.incSat (aMAC_STAT m) MAC_STAT.drop_cnt

/-- Put an rx record; a frame whose record finds no room is lost, as one with status 4 is. -/
def State.rxRecord (s : State) (m a status len fine : Nat) (sfd : BitVec 64) : State :=
  let r := s.macPut (s.get (aMAC_QCFG m) MAC_QCFG.rx) [BitVec.ofNat 32 a,
    BitVec.ofNat 32 (status * 2 ^ 24 + fine * 2 ^ 16 + len % 2 ^ 14), sfd.setWidth 32, (sfd >>> 32).setWidth 32]
  if r.2 && status != 4 then r.1 else r.1.macDrop m

/-- A frame reaches MAC `m`. -/
def State.macRx (s : State) (m : Nat) (frame : List Byte) (fcsOk : Bool) (sfd : BitVec 64) (fine : Nat) : State :=
  let f := if s.on (aMAC_CFG m) MAC_CFG.vlan_strip then stripTag frame else frame
  let rxfree := s.get (aMAC_QCFG m) MAC_QCFG.rx + 1
  match s.qFetch rxfree with
  | (t, none) => t.rxRecord m 0 4 f.length fine sfd
  | (t, some ws) =>
    let a := (ws.getD 0 0).toNat
    if s.get (aMAC_CFG m) MAC_CFG.maxlen < f.length then t.rxRecord m a 2 f.length fine sfd
    else if !inSram a f.length then t.rxRecord m a 3 f.length fine sfd
    else (t.memBytes a f).rxRecord m a (if fcsOk then 0 else 1) f.length fine sfd

/-- MAC_RX_FRAME: MAC `m` receives a frame, destination address to FCS, whose FCS is good or not (R445, R446); it takes a PAUSE itself (R443). -/
def execMacRxFrame (m : Fin 2) (frame : List Byte) (fcsOk : Bool) (sfd : BitVec 64) (fine : BitVec 7) (s : State) :
    Host.Outcome State Fault Refusal :=
  .next (if s.macOn m && s.on (aMAC_STAT m) MAC_STAT.link && decide (64 ≤ frame.length) && decide (sfd.toNat ≤ s.tb) then
    (if fcsOk && isPause frame then s.macPause m frame else s.macRx m frame fcsOk sfd fine.toNat) else s)

/-! ### xSPI (R448 to R451) -/

/-- The first `n` bytes of the command buffer. -/
def State.bufBytes (s : State) (x n : Nat) : List Byte := (List.range n).map (fun i => byteOf (s.reg (aXSPI_BUF x (i / 4))) (i % 4))

/-- The command that a go starts. -/
def State.xspiGo (s : State) (x : Nat) : Xspi :=
  let c := s.reg (aXSPI_CCTL x)
  { cmd := c, addr := s.reg (aXSPI_CADDR x), proto := s.get (aXSPI_CFG x) XSPI_CFG.proto
    data := if getBits c XSPI_CCTL.dir = 1 then s.bufBytes x (getBits c XSPI_CCTL.nbytes) else []
    after := s.std.xwait.any (fun y => y.1 == x) }

/-- The opcode bytes of a command: in the 8-bit protocols the opcode is followed by its complement. -/
def xspiOp (proto op : Nat) : List Byte := if proto = 0 then [BitVec.ofNat 8 op] else [BitVec.ofNat 8 op, ~~~BitVec.ofNat 8 op]

/-- What the port sends for a command (R449): the bytes before the dummy cycles, these, and the bytes after them. -/
def xspiSends (c : Xspi) : List Byte × Nat × List Byte :=
  let n := match getBits c.cmd XSPI_CCTL.alen with
    | 1 => 3
    | 2 => 4
    | _ => 0
  (xspiOp c.proto (getBits c.cmd XSPI_CCTL.op) ++ beBytes n (c.addr.toNat % 2 ^ (8 * n)), getBits c.cmd XSPI_CCTL.dummy, c.data)

/-- What port `x` sends for a read of the word at offset `o` of its window (R448, R449, R451): the chip select, then the bytes before the
dummy cycles, with a 4-byte address, and these. -/
def State.xspiReads (s : State) (x o : Nat) : Nat × List Byte × Nat :=
  let c := s.reg (aXSPI_CFG x)
  (o / 0x10000000 % 2, xspiOp (getBits c XSPI_CFG.proto) (getBits c XSPI_CFG.rd_op) ++ beBytes 4 (o % 0x10000000),
    getBits c XSPI_CFG.dummy)

/-- What a write to XSPI_CCTL does (R449): a refused go changes nothing but err. -/
def State.xspiWrite (s : State) (x : Nat) (w : Word) : State :=
  let a := aXSPI_CSTAT x
  if getBits w XSPI_CCTL.go = 1 then
    if s.on a XSPI_CSTAT.busy || !fXSPI_CCTL.all (fun f => f.legal (f.of w)) then s.set a XSPI_CSTAT.err 1
    else
      let t := s.storeDirect (aXSPI_CCTL x) fXSPI_CCTL w
      if s.on (aXSPI_CFG x) XSPI_CFG.en && s.isReady 19 (10 + x) then (t.set a XSPI_CSTAT.busy 1).setXspi x (some (t.xspiGo x)) else t
  else s.storeDirect (aXSPI_CCTL x) fXSPI_CCTL w

/-- A write to XSPI_CCTL. -/
def wrXspiCctl (q : Req) (x : Nat) (w : Word) (s : State) : State := s.write q islLNK 1 (fun t => t.xspiWrite x w)

/-- XSPI_COMMAND. -/
def execXspiCommand (q : Req) (x : Fin 2) (w : Word) (s : State) : Host.Outcome State Fault Refusal :=
  .next (s.crossTo q true (aXSPI_CCTL x) w (wrXspiCctl q x w))

/-- Byte `i` of the command buffer. -/
def State.putBuf (s : State) (x i : Nat) (b : Byte) : State :=
  s.setReg (aXSPI_BUF x (i / 4)) (putBits (s.reg (aXSPI_BUF x (i / 4))) ⟨8 * (i % 4) + 7, 8 * (i % 4), .rw, 0, 0, [], false⟩ b.toNat)

/-- Bytes into the command buffer from byte `i` on. -/
def State.putBufs (s : State) (x i : Nat) : List Byte → State
  | [] => s
  | b :: bs => (s.putBuf x i b).putBufs x (i + 1) bs

/-- XSPI_COMMAND_DONE: the command ends; a command that reads brings the `nbytes` bytes that the memory gave. -/
def execXspiCommandDone (x : Fin 2) (data : List Byte) (s : State) : Host.Outcome State Fault Refusal :=
  .next (match s.xspiCmd x with
    | some c =>
      let reads := getBits c.cmd XSPI_CCTL.dir == 0
      if !c.after && (!reads || data.length == getBits c.cmd XSPI_CCTL.nbytes) then
        (((if reads then s.putBufs x 0 data else s).setXspi x none).set (aXSPI_CSTAT x) XSPI_CSTAT.busy 0).set (aXSPI_CSTAT x)
          XSPI_CSTAT.done 1
      else s
    | none => s)

/-- A read of port `x`'s window from island `src` finds a command running (R450). -/
def State.xspiHeld (s : State) (x src : Nat) : State :=
  { s with std := { s.std with xwait := if s.std.xwait.contains (x, src) then s.std.xwait else s.std.xwait ++ [(x, src)] } }

/-- A read of port `x`'s window from island `src` has been served: with the last of those that came before it, the command starts
(R450). -/
def State.xspiServed (s : State) (x src : Nat) : State :=
  let t := { s with std := { s.std with xwait := s.std.xwait.erase (x, src) } }
  match t.xspiCmd x with
  | some c => if t.std.xwait.any (fun y => y.1 == x) then t else t.setXspi x (some { c with after := false })
  | none => t

/-! ### Serial FIFOs (R453) -/

/-- The key of a serial interface among the FIFOs. -/
def serKey : SerialIf → Nat
  | .i2c i => i
  | .spi i => 12 + i
  | .uart i => 20 + i

/-- The base of its registers. -/
def serBase : SerialIf → Nat
  | .i2c i => aI2C_CFG i
  | .spi i => aSPI_CFG i
  | .uart i => aUART_CFG i

/-- Its status register; the levels and watermarks stand at the same bits in all three kinds. -/
def serStat (f : SerialIf) : Nat := serBase f + 0x0C

/-- The W1C flags of its status register: an empty pop, a discarded push. -/
def rxUnf : SerialIf → Fld
  | .i2c _ => I2C_STAT.rx_unf
  | .spi _ => SPI_STAT.rx_unf
  | .uart _ => UART_STAT.rx_unf

def txOvf : SerialIf → Fld
  | .i2c _ => I2C_STAT.tx_ovf
  | .spi _ => SPI_STAT.tx_ovf
  | .uart _ => UART_STAT.tx_ovf

/-- The producer that a receive watermark fires, if it has one. -/
def State.rxProd (s : State) : SerialIf → Option Nat
  | .i2c i => if s.on (aI2C_CFG i) I2C_CFG.ev_tx then none else some (1899 + i)
  | .spi i => some (1911 + 2 * i)
  | .uart i => some (1927 + 2 * i)

/-- The producer that a transmit watermark fires, if it has one. -/
def State.txProd (s : State) : SerialIf → Option Nat
  | .i2c i => if s.on (aI2C_CFG i) I2C_CFG.ev_tx then some (1899 + i) else none
  | .spi i => some (1912 + 2 * i)
  | .uart i => some (1928 + 2 * i)

/-- Fire a producer, if there is one and the condition holds. -/
def State.fireOpt (s : State) (c : Bool) : Option Nat → State
  | some p => s.fireIf c p
  | none => s

def State.ser (s : State) (f : SerialIf) : Serial := s.serial (serKey f)

/-- The receive FIFO takes a new content: its level follows, and its producer fires when the level rises to the watermark. -/
def State.setRx (s : State) (f : SerialIf) (l : List Word) : State :=
  let wm := getBits (s.reg (serBase f + 0x10)) I2C_FIFO.rx_wm
  let old := (s.ser f).rx.length
  let t := (s.setSerial (serKey f) { s.ser f with rx := l }).set (serStat f) I2C_STAT.rx_level l.length
  t.fireOpt (decide (old < wm) && decide (wm ≤ l.length)) (s.rxProd f)

/-- The transmit FIFO takes a new content: its producer fires when the level falls to the watermark. -/
def State.setTx (s : State) (f : SerialIf) (l : List Word) : State :=
  let wm := getBits (s.reg (serBase f + 0x10)) I2C_FIFO.tx_wm
  let old := (s.ser f).tx.length
  let t := (s.setSerial (serKey f) { s.ser f with tx := l }).set (serStat f) I2C_STAT.tx_level l.length
  t.fireOpt (decide (wm < old) && decide (l.length ≤ wm)) (s.txProd f)

/-- Is the interface enabled and READY (R469)? -/
def State.serOn (s : State) (f : SerialIf) : Bool :=
  s.alive islLNK && (s.reg (serBase f)).getLsbD 31 && (match f with
    | .i2c i => s.isReady 19 (12 + i)
    | .spi i => s.isReady 19 (24 + i)
    | .uart i => s.isReady 20 i)

/-! ### I2C (R452) -/

/-- One byte more under the SMBus PEC: CRC-8 with the polynomial x^8 + x^2 + x + 1. -/
def pecBit (c : Byte) : Byte := if c.getLsbD 7 then (c <<< 1) ^^^ 7#8 else c <<< 1
def pec (c b : Byte) : Byte := Nat.iterate pecBit 8 (c ^^^ b)

/-- The address byte of a transfer. -/
def addrByte (a : Nat) (read : Bool) : Byte := BitVec.ofNat 8 (2 * a + read.toNat)

/-- The transaction of controller `i` has ended (R452): done, and the bus is kept or given up. -/
def State.i2cEnd (s : State) (i : Nat) (kept : Bool) : State :=
  let t := (s.set (aI2C_STAT i) I2C_STAT.busy 0).set (aI2C_STAT i) I2C_STAT.done 1
  t.setSerial i { t.serial i with left := 0, inb := none, kept := kept }

/-- The bus is free again. -/
def State.i2cFree (s : State) (i : Nat) : State := s.set (aI2C_STAT i) I2C_STAT.bus_busy 0

/-- The running transaction ends as its stop bit says. -/
def State.i2cFinish (s : State) (i : Nat) : State :=
  let stop := getBits (s.serial i).cmd I2C_CMD.stop = 1
  let t := s.i2cEnd i (!stop)
  if stop then t.i2cFree i else t

/-- A controller write sends the bytes of its transmit FIFO as they come, as many as it still has to send. -/
def State.i2cSend (s : State) (i : Fin 12) : State :=
  let x := s.serial i
  let n := min x.left x.tx.length
  if s.on (aI2C_STAT i) I2C_STAT.busy && decide (0 < n) then
    let t := s.setSerial i { x with left := x.left - n, crc := (x.tx.take n).foldl (fun c w => pec c (byteOf w 0)) x.crc }
    t.setTx (.i2c i) (x.tx.drop n)
  else s

/-- The bytes that a controller read has brought enter the receive FIFO as far as there is room; with the last one the
transaction ends. -/
def State.i2cTake (s : State) (i : Fin 12) : State :=
  let x := s.serial i
  match x.inb with
  | some bs =>
    let n := min bs.length (32 - x.rx.length)
    let t := (s.setSerial i { x with inb := some (bs.drop n) }).setRx (.i2c i)
      (x.rx ++ (bs.take n).map (fun b => b.setWidth 32))
    if bs.length ≤ n then t.i2cFinish i else t
  | none => s

/-- What a write to I2C_CMD does: go starts a transaction, unless one runs. -/
def State.i2cCmd (s : State) (i : Fin 12) (w : Word) : State :=
  let t := s.storeDirect (aI2C_CMD i) fI2C_CMD w
  if getBits w I2C_CMD.go = 1 && s.serOn (.i2c i) && !s.on (aI2C_CFG i) I2C_CFG.target && !s.on (aI2C_STAT i) I2C_STAT.busy then
    let c := t.reg (aI2C_CMD i)
    let rd := getBits c I2C_CMD.dir = 1
    let x := t.serial i
    let crc := pec (if x.kept then x.crc else 0) (addrByte (getBits c I2C_CMD.addr) rd)
    let u := t.setSerial i { x with cmd := c, left := if rd then 0 else getBits c I2C_CMD.nbytes, inb := none, crc := crc }
    ((u.set (aI2C_STAT i) I2C_STAT.busy 1).set (aI2C_STAT i) I2C_STAT.bus_busy 1).i2cSend i
  else t

/-- A write to I2C_CMD. -/
def wrI2cCmd (q : Req) (i : Fin 12) (w : Word) (s : State) : State := s.write q islLNK 1 (fun t => t.i2cCmd i w)

/-- I2C_GO. -/
def execI2cGo (q : Req) (i : Fin 12) (w : Word) (s : State) : Host.Outcome State Fault Refusal :=
  .next (s.crossTo q true (aI2C_CMD i) w (wrI2cCmd q i w))

/-- Does the PEC at the end of `bs`, received after `crc`, match? -/
def pecGood (crc : Byte) (bs : List Byte) : Bool := (bs.foldl pec crc) == 0

/-- I2C_TRANSACTION_DONE: the running transaction of controller `i` ends: complete, with the bytes a read brought (and, with
pec_en, the PEC after them), or not acknowledged, or with its arbitration lost. -/
def execI2cTransactionDone (i : Fin 12) (o : I2cEnd) (s : State) : Host.Outcome State Fault Refusal :=
  let a := aI2C_STAT i
  let x := s.serial i
  let n := getBits x.cmd I2C_CMD.nbytes
  let pe := s.on (aI2C_CFG i) I2C_CFG.pec_en
  .next (if !s.on a I2C_STAT.busy || x.inb.isSome then s
  else match o with
    | .nak => ((s.set a I2C_STAT.nak 1).i2cEnd i false).i2cFree i
    | .arbLost => (s.set a I2C_STAT.arb_lost 1).i2cEnd i false
    | .done bs =>
      if getBits x.cmd I2C_CMD.dir = 0 then (if x.left = 0 then s.i2cFinish i else s)
      else if bs.length = n + pe.toNat then
        let t := s.flagIf (pe && !pecGood x.crc bs) a I2C_STAT.pec_err
        (t.setSerial i { x with inb := some (bs.take n), crc := bs.foldl pec x.crc }).i2cTake i
      else s)

/-- I2C_TIMEOUT: SCL has been low for the SMBus timeout; the bus is released (R452). -/
def execI2cTimeout (i : Fin 12) (s : State) : Host.Outcome State Fault Refusal :=
  let a := aI2C_STAT i
  .next (if s.serOn (.i2c i) && s.on (aI2C_CFG i) I2C_CFG.smbus then
    let t := (s.set a I2C_STAT.timeout 1).i2cFree i
    if t.on a I2C_STAT.busy then t.i2cEnd i false else t.setSerial i { t.serial i with kept := false }
  else s)

/-- Does controller `i`, as a target, answer address `ad` (R452)? -/
def State.answers (s : State) (i ad : Nat) : Bool :=
  s.on (aI2C_CFG i) I2C_CFG.target &&
    (ad == s.get (aI2C_CFG i) I2C_CFG.addr0 ||
      (s.on (aI2C_CFG i) I2C_CFG.addr1_en && ad == s.get (aI2C_CFG i) I2C_CFG.addr1))

/-- A target-mode transfer moves its bytes: those written to this device enter the receive FIFO, as far as there is room, less
the PEC that pec_en checks where a STOP ends the transfer; those read from it leave the transmit FIFO. Every byte enters the PEC. -/
def State.i2cTarget (s : State) (i : Fin 12) (data : List Byte) (taken : Nat) (stop : Bool) : State :=
  let x := s.serial i
  if x.sends then
    (s.setSerial i { x with crc := (x.tx.take taken).foldl (fun c w => pec c (byteOf w 0)) x.crc }).setTx (.i2c i) (x.tx.drop taken)
  else
    let pe := stop && s.on (aI2C_CFG i) I2C_CFG.pec_en && !data.isEmpty
    let t := s.flagIf (pe && !pecGood x.crc data) (aI2C_STAT i) I2C_STAT.pec_err
    let bs := if pe then data.dropLast else data
    (t.setSerial i { x with crc := data.foldl pec x.crc }).setRx (.i2c i) (x.rx ++ (bs.take (32 - x.rx.length)).map (fun b => b.setWidth 32))

/-- I2C_ADDRESSED: after a repeated START it ends the transfer before it, whose bytes it brings. -/
def execI2cAddressed (i : Fin 12) (addr : BitVec 7) (read : Bool) (data : List Byte) (taken : BitVec 8) (s : State) :
    Host.Outcome State Fault Refusal :=
  .next (if s.serOn (.i2c i) && s.answers i addr.toNat then
    let t := if (s.serial i).kept then s.i2cTarget i data taken.toNat false else s
    let t := (t.set (aI2C_STAT i) I2C_STAT.addressed 1).set (aI2C_STAT i) I2C_STAT.bus_busy 1
    let x := t.serial i
    t.setSerial i { x with sends := read, kept := true, crc := pec (if x.kept then x.crc else 0) (addrByte addr.toNat read) }
  else s)

/-- I2C_STOP_SEEN: a STOP on the bus of controller `i`. A target-mode transfer ends with it, whose bytes it brings: those
written to this device, or how many were read from it. -/
def execI2cStopSeen (i : Fin 12) (data : List Byte) (taken : BitVec 8) (s : State) : Host.Outcome State Fault Refusal :=
  .next (if s.serOn (.i2c i) then
    let t := if s.on (aI2C_CFG i) I2C_CFG.target && (s.serial i).kept then s.i2cTarget i data taken.toNat true else s
    let t := if s.on (aI2C_CFG i) I2C_CFG.target then t.setSerial i { t.serial i with kept := false } else t
    (t.set (aI2C_STAT i) I2C_STAT.stop_seen 1).i2cFree i
  else s)

/-! ### SPI and UART (R453) -/

/-- SPI controller `i` starts the next word, if it is idle and has one. -/
def State.spiKick (s : State) (i : Fin 8) : State :=
  let x := s.ser (.spi i)
  match x.tx with
  | w :: ws =>
    if s.serOn (.spi i) && !s.on (aSPI_CFG i) SPI_CFG.target && x.shift.isNone then
      ((s.setTx (.spi i) ws).setSerial (serKey (.spi i)) { x with tx := ws, shift := some w, cs := true }).set (aSPI_STAT i)
        SPI_STAT.busy 1
    else s
  | [] => s

/-- UART `u` starts the next character, if it is idle and has one. -/
def State.uartKick (s : State) (u : Fin 8) : State :=
  let x := s.ser (.uart u)
  match x.tx with
  | w :: ws =>
    if s.serOn (.uart u) && x.shift.isNone then
      ((s.setTx (.uart u) ws).setSerial (serKey (.uart u)) { x with tx := ws, shift := some w }).set (aUART_STAT u)
        UART_STAT.tx_busy 1
    else s
  | [] => s

/-- What the interface does as soon as its FIFOs or its settings change. -/
def State.serKick (s : State) : SerialIf → State
  | .i2c i => (s.i2cSend i).i2cTake i
  | .spi i => s.spiKick i
  | .uart u => s.uartKick u

/-- The part of a pushed word that the interface takes. -/
def serMask : SerialIf → Word → Word
  | .i2c _, w => w &&& 0xFF#32
  | .spi _, w => w
  | .uart _, w => w &&& 0x1FF#32

/-- A push. -/
def State.serPush (s : State) (f : SerialIf) (w : Word) : State :=
  let x := s.ser f
  if x.tx.length < 32 then (s.setTx f (x.tx ++ [serMask f w])).serKick f else s.set (serStat f) (txOvf f) 1

/-- A pop: the word, and the state after. -/
def State.serPop (s : State) (f : SerialIf) : Word × State :=
  match (s.ser f).rx with
  | w :: ws => (w, (s.setRx f ws).serKick f)
  | [] => (0, s.set (serStat f) (rxUnf f) 1)

/-- A write to a data register. -/
def wrData (q : Req) (f : SerialIf) (w : Word) (s : State) : State := s.write q islLNK 1 (fun t => t.serPush f w)

/-- A read of a data register. -/
def rdData (q : Req) (f : SerialIf) (s : State) : State := s.read q islLNK 1 (fun t => (t.serPop f).1) (fun t => (t.serPop f).2)

/-- The address of the DATA register of an interface. -/
def dataAddr : SerialIf → Nat
  | .i2c i => 0x40A20008 + 0x100 * i
  | .spi i => 0x40A30008 + 0x100 * i
  | .uart i => 0x40A40008 + 0x100 * i

/-- DATA_PUSH. -/
def execDataPush (q : Req) (f : SerialIf) (w : Word) (s : State) : Host.Outcome State Fault Refusal :=
  .next (s.crossTo q true (dataAddr f) w (wrData q f w))

/-- DATA_POP. -/
def execDataPop (q : Req) (f : SerialIf) (s : State) : Host.Outcome State Fault Refusal := .next (s.crossTo q false (dataAddr f) 0 (rdData q f))

/-- A received word enters the receive FIFO, or sets rx_ovf. -/
def State.spiReceive (s : State) (i : Fin 8) (w : Word) : State :=
  let x := s.ser (.spi i)
  let v := BitVec.ofNat 32 (w.toNat % 2 ^ (s.get (aSPI_CFG i) SPI_CFG.wlen + 1))
  if x.rx.length < 32 then s.setRx (.spi i) (x.rx ++ [v]) else s.set (aSPI_STAT i) SPI_STAT.rx_ovf 1

/-- A word in progress of SPI controller `i` ends: CSn is kept only for words that follow under cs_hold. -/
def State.spiEnd (s : State) (i : Fin 8) : State :=
  let x := s.ser (.spi i)
  let keep := !x.csEnd && s.on (aSPI_CTRL i) SPI_CTRL.cs_hold && !x.tx.isEmpty
  let t := (s.setSerial (serKey (.spi i)) { x with shift := none, cs := keep, csEnd := false }).set (aSPI_STAT i) SPI_STAT.busy 0
  if x.tx.isEmpty then t.set (aSPI_STAT i) SPI_STAT.done 1 else t.spiKick i

/-- SPI_WORD_DONE: a word has been shifted in both directions; `w` came in. -/
def execSpiWordDone (i : Fin 8) (w : Word) (s : State) : Host.Outcome State Fault Refusal :=
  let x := s.ser (.spi i)
  .next (if !s.serOn (.spi i) then s
  else if s.on (aSPI_CFG i) SPI_CFG.target then
    (if x.tx.isEmpty then s.set (aSPI_STAT i) SPI_STAT.tx_unf 1 else s.setTx (.spi i) x.tx.tail).spiReceive i w
  else if x.shift.isSome then (s.spiReceive i w).spiEnd i
  else s)

/-- What a write to SPI_CTRL does: cs_end releases CSn after the word in progress, at once if there is none. -/
def State.spiCtrl (s : State) (i : Fin 8) (w : Word) : State :=
  let t := s.storeDirect (aSPI_CTRL i) fSPI_CTRL w
  let x := t.ser (.spi i)
  if getBits w SPI_CTRL.cs_end = 1 then
    t.setSerial (serKey (.spi i)) (if x.shift.isSome then { x with csEnd := true } else { x with cs := false })
  else t

/-- A write to SPI_CTRL. -/
def wrSpiCtrl (q : Req) (i : Fin 8) (w : Word) (s : State) : State := s.write q islLNK 1 (fun t => t.spiCtrl i w)

/-- CS_END. -/
def execCsEnd (q : Req) (i : Fin 8) (w : Word) (s : State) : Host.Outcome State Fault Refusal :=
  .next (s.crossTo q true (aSPI_CTRL i) w (wrSpiCtrl q i w))

/-- UART_RX_CHAR: a character arrives with its framing and parity status. -/
def execUartRxChar (i : Fin 8) (ch : BitVec 9) (fe pe : Bool) (s : State) : Host.Outcome State Fault Refusal :=
  let a := aUART_STAT i
  let x := s.ser (.uart i)
  .next (if !s.serOn (.uart i) then s
  else
    let pe := pe && s.get (aUART_CFG i) UART_CFG.parity != 0
    let t := (s.flagIf fe a UART_STAT.fe).flagIf pe a UART_STAT.pe
    let c := ch.toNat % 2 ^ s.get (aUART_CFG i) UART_CFG.dbits
    let w := BitVec.ofNat 32 (fe.toNat * 2 ^ 11 + pe.toNat * 2 ^ 10 + c)
    if x.rx.length < 32 then t.setRx (.uart i) (x.rx ++ [w]) else t.set a UART_STAT.rx_ovf 1)

/-- UART_TX_CHAR: the character being sent has left. -/
def execUartTxChar (i : Fin 8) (s : State) : Host.Outcome State Fault Refusal :=
  let x := s.ser (.uart i)
  .next (if x.shift.isSome then
    ((s.setSerial (serKey (.uart i)) { x with shift := none }).set (aUART_STAT i) UART_STAT.tx_busy 0).uartKick i
  else s)

/-- A write to the CFG register of a serial interface: what was waiting for it may start. -/
def wrSerCfg (q : Req) (f : SerialIf) (fs : List Fld) (w : Word) (s : State) : State :=
  s.write q islLNK 1 (fun t => (t.storeDirect (serBase f) fs w).serKick f)

/-! ### CAN FD (R454, R458) -/

/-- Is controller `c` on the bus? -/
def State.canOn (s : State) (c : Nat) : Bool :=
  s.alive islLNK && s.isReady 20 (8 + c) && s.on (aCAN_CFG c) CAN_CFG.en && !s.on (aCAN_STAT c) CAN_STAT.bus_off

/-- Word `i` of transmit buffer `b`. -/
def State.txb (s : State) (c b i : Nat) : Word := s.reg (aCAN_TXB c b i)

/-- The data lengths of R458. -/
def canLen (n : Nat) : Bool := decide (n ≤ 8) || [12, 16, 20, 24, 32, 48, 64].contains n

/-- May transmit buffer `b` be sent (R458)? -/
def State.canValid (s : State) (c b : Nat) : Bool :=
  canLen ((s.txb c b 1).toNat % 128) && (!(s.txb c b 0).getLsbD 30 || s.on (aCAN_CFG c) CAN_CFG.fd_en)

/-- What a write to CAN_TXREQ does: each newly requested buffer is requested, or refused with err. -/
def State.canReq (s : State) (c : Nat) (w : Word) : State :=
  let new := (List.range 32).filter (fun b => w.getLsbD b && !s.bit (aCAN_TXREQ c) b)
  let bad := new.filter (fun b => !s.canValid c b)
  let t := (new.filter (fun b => s.canValid c b)).foldl (fun u b => u.setBit (aCAN_TXREQ c) b true) s
  let t := { t with cyc := t.cyc.setSw t.tb (aCAN_TXREQ c) w.toNat }
  t.flagIf (!bad.isEmpty) (aCAN_STAT c) CAN_STAT.err

/-- A write to CAN_TXREQ. -/
def wrCanTxreq (q : Req) (c : Nat) (w : Word) (s : State) : State := s.write q islLNK 1 (fun t => t.canReq c w)

/-- CAN_TXREQ. -/
def execCanTxreq (q : Req) (c : Fin 8) (w : Word) (s : State) : Host.Outcome State Fault Refusal :=
  .next (s.crossTo q true (aCAN_TXREQ c) w (wrCanTxreq q c w))

/-- The pending requests that `w` names are aborted at once; one that a write has set in this tick stays (R8). -/
def State.canAbort (s : State) (c : Nat) (w : Word) : State :=
  let t := { s with cyc := s.cyc.setSw s.tb (aCAN_TXABORT c) w.toNat }
  ((List.range 32).filter (fun b => w.getLsbD b)).foldl (fun u b => u.lowerBit (aCAN_TXREQ c) b) t

/-- A write to CAN_TXABORT: its own bits clear with the abort, but not in the tick of the write (R8). -/
def wrCanTxabort (q : Req) (c : Nat) (w : Word) (s : State) : State := s.write q islLNK 1 (fun t => t.canAbort c w)

/-- CAN_TXABORT. -/
def execCanTxabort (q : Req) (c : Fin 8) (w : Word) (s : State) : Host.Outcome State Fault Refusal :=
  .next (s.crossTo q true (aCAN_TXABORT c) w (wrCanTxabort q c w))

/-- The order of identifiers on the bus, the dominant first: base identifier, then RTR of a base frame or the recessive SRR
and IDE of an extended one, then the extension and its RTR (ISO 11898-1). -/
def canPrio (w0 w1 : Word) : Nat :=
  let rtr := (w1.getLsbD 31).toNat
  if w0.getLsbD 31 then (w0.toNat / 2 ^ 18 % 2 ^ 11) * 2 ^ 21 + 3 * 2 ^ 19 + (w0.toNat % 2 ^ 18) * 2 + rtr
  else (w0.toNat / 2 ^ 18 % 2 ^ 11) * 2 ^ 21 + rtr * 2 ^ 20

/-- Is requested buffer `b` the next to be sent: of the highest identifier priority, the lowest buffer among equals? -/
def State.canNext (s : State) (c b : Nat) : Bool :=
  let p (j : Nat) : Nat := canPrio (s.txb c j 0) (s.txb c j 1)
  s.bit (aCAN_TXREQ c) b && (List.range 32).all (fun j => !s.bit (aCAN_TXREQ c) j || decide (p b < p j) ||
    (p b == p j && decide (b ≤ j)))

/-- The error counters of controller `c` stand at `e`, and what they show: err_warn from 96 on, err_passive from 128 on, err (R458). -/
def State.canErrs (s : State) (c : Nat) (e : CanErr) : State :=
  let a := aCAN_STAT c
  let m := max e.tec.toNat e.rx.toNat
  ((((s.set a CAN_STAT.tec e.tec.toNat).set a CAN_STAT.rec e.rx.toNat).setB a CAN_STAT.err_warn (decide (96 ≤ m))).setB a
    CAN_STAT.err_passive (decide (128 ≤ m))).flagIf e.err a CAN_STAT.err

/-- CAN_TX_FRAME: the frame of transmit buffer `b` has been sent; its start-of-frame bit was sampled at tick `sof`. A buffer that may not
be sent any more is refused (R458). -/
def execCanTxFrame (c : Fin 8) (b : Fin 32) (sof : BitVec 64) (e : CanErr) (s : State) : Host.Outcome State Fault Refusal :=
  .next (if s.canOn c && !s.on (aCAN_CFG c) CAN_CFG.silent && s.canNext c b && decide (sof.toNat ≤ s.tb) then
    if s.canValid c b then
      let t := (s.setReg (aCAN_TXB c b 2) (sof.setWidth 32)).setReg (aCAN_TXB c b 3) ((sof >>> 32).setWidth 32)
      ((t.lowerBit (aCAN_TXREQ c) b).set (aCAN_STAT c) CAN_STAT.tx_done 1).canErrs c e
    else (s.lowerBit (aCAN_TXREQ c) b).set (aCAN_STAT c) CAN_STAT.err 1
  else s)

/-- The receive buffer takes a new content: its level follows, and producer 1943 + c fires when it rises to wm. -/
def State.setCanRx (s : State) (c : Nat) (l : List (List Word)) : State :=
  let wm := s.get (aCAN_RXLVL c) CAN_RXLVL.wm
  let old := (s.can c).rx.length
  ((s.setCan c { s.can c with rx := l }).set (aCAN_RXLVL c) CAN_RXLVL.level l.length).fireIf
    (decide (old < wm) && decide (wm ≤ l.length)) (1943 + c)

/-- Data word `i` of a frame of `n` bytes: the bytes beyond them are 0 (R458). -/
def canData (n i : Nat) (w : Word) : Word := w &&& BitVec.ofNat 32 (2 ^ (8 * min 4 (n - 4 * i)) - 1)

/-- A received frame in the layout of R458: word 0, word 1, the stamp, 16 data words. -/
def canFrame (f : List Word) (sof : BitVec 64) : List Word :=
  [f.getD 0 0, f.getD 1 0, sof.setWidth 32, (sof >>> 32).setWidth 32] ++
    (List.range 16).map (fun i => canData ((f.getD 1 0).toNat % 128) i (f.getD (4 + i) 0))

/-- What a read of word `i` of transmit buffer `b` shows. -/
def State.canTxb (s : State) (c b i : Nat) : Word :=
  if i < 4 then s.txb c b i else canData ((s.txb c b 1).toNat % 128) (i - 4) (s.txb c b i)

/-- CAN_RX_FRAME: a frame arrives whose words 0, 1 and 4 to 19 are those of `f` and whose start-of-frame bit was sampled at
tick `sof`. -/
def execCanRxFrame (c : Fin 8) (f : List Word) (sof : BitVec 64) (e : CanErr) (s : State) : Host.Outcome State Fault Refusal :=
  let x := s.can c
  .next (if !s.canOn c || decide (s.tb < sof.toNat) then s
  else (if (f.getD 0 0).getLsbD 30 && !s.on (aCAN_CFG c) CAN_CFG.fd_en then s.set (aCAN_STAT c) CAN_STAT.err 1
  else if x.rx.length < 64 then (s.setCanRx c (x.rx ++ [canFrame f sof])).set (aCAN_STAT c) CAN_STAT.rx 1
  else s.set (aCAN_STAT c) CAN_STAT.rx_lost 1).canErrs c e)

/-- A write to CAN_RXPOP. -/
def wrCanRxpop (q : Req) (c : Nat) (w : Word) (s : State) : State :=
  s.write q islLNK 1 (fun t => if getBits w CAN_RXPOP.pop = 1 then t.setCanRx c ((t.can c).rx.drop 1) else t)

/-- CAN_RXPOP. -/
def execCanRxpop (q : Req) (c : Fin 8) (w : Word) (s : State) : Host.Outcome State Fault Refusal :=
  .next (s.crossTo q true (aCAN_RXPOP c) w (wrCanRxpop q c w))

/-- What a read of CAN_RXF word `i` shows: the oldest frame, or 0. -/
def State.canRxf (s : State) (c i : Nat) : Word := ((s.can c).rx.headD []).getD i 0

/-- CAN_BUS_OFF: the transmit error counter has passed 255 (R454). -/
def execCanBusOff (c : Fin 8) (s : State) : Host.Outcome State Fault Refusal :=
  let a := aCAN_STAT c
  .next (if s.canOn c then
    let e : CanErr := { tec := 255, rx := BitVec.ofNat 8 (s.get a CAN_STAT.rec), err := true }
    (((s.set a CAN_STAT.bus_off 1).set a CAN_STAT.bus_off_seen 1).canErrs c e).setCan c { s.can c with recover := false }
  else s)

/-- A write to CAN_CTRL: recover starts bus-off recovery. -/
def wrCanCtrl (q : Req) (c : Nat) (w : Word) (s : State) : State :=
  s.write q islLNK 1 (fun t =>
    if getBits w CAN_CTRL.recover = 1 && t.on (aCAN_STAT c) CAN_STAT.bus_off then t.setCan c { t.can c with recover := true }
    else t)

/-- CAN_RECOVER. -/
def execCanRecover (q : Req) (c : Fin 8) (w : Word) (s : State) : Host.Outcome State Fault Refusal :=
  .next (s.crossTo q true (aCAN_CTRL c) w (wrCanCtrl q c w))

/-- BUS_OFF_RECOVERY_DONE: the recovery that a write of recover started is over; both error counters are 0. -/
def execBusOffRecoveryDone (c : Fin 8) (s : State) : Host.Outcome State Fault Refusal :=
  let a := aCAN_STAT c
  .next (if s.on a CAN_STAT.bus_off && (s.can c).recover then
    ((((((s.set a CAN_STAT.bus_off 0).set a CAN_STAT.tec 0).set a CAN_STAT.rec 0).set a CAN_STAT.err_warn 0).set a
      CAN_STAT.err_passive 0)).setCan c { s.can c with recover := false }
  else s)

/-! ### GPIO (R457) -/

/-- Is GPIO READY, and its island released? -/
def State.gpioOn (s : State) : Bool := s.alive islAON && s.isReady 20 16

/-- Does a pulse at ball `i` that began less than 2 ns ago, and for which its producer fired, end now (R94)? -/
def State.gpioShort (s : State) (i : Nat) : Bool := (sget none s.fab.gpioFired i).any (fun t => decide (s.tb < t + 2))

/-- The level at ball `i` becomes `b`: its producer fires on the edges that edge selects, at most once for a pulse shorter than 2 ns
(R94, R457; DESIGN CHOICE, log 38: at its first selected edge). -/
def State.gpioIn (s : State) (i : Nat) (b : Bool) : State :=
  let a := aGPIO_CFG i
  if s.on a GPIO_CFG.in_ = b then s
  else
    let e := s.get a GPIO_CFG.edge
    let fires := s.gpioOn && (e == 3 || e == (if b then 1 else 2)) && !s.gpioShort i
    let s := { s with fab := { s.fab with gpioFired := sput none i (if fires then some s.tb else none) s.fab.gpioFired } }
    let t := if s.get aSWL_PAIR SWL_PAIR.sense_gpio = i then { s with swl := { s.swl with senseAt := s.tb } } else s
    (t.setB a GPIO_CFG.in_ b).fireIf fires (896 + i)

/-- A ball that drives shows its driven level. -/
def State.gpioDrive (s : State) (i : Nat) : State :=
  if s.on (aGPIO_CFG i) GPIO_CFG.oe then s.gpioIn i (s.on (aGPIO_CFG i) GPIO_CFG.out) else s

/-- GPIO_INPUT_CHANGE: the level at ball i, driven from outside, changes. -/
def execGpioInputChange (i : Fin 32) (level : Bool) (s : State) : Host.Outcome State Fault Refusal :=
  fin s (if s.alive islAON then s.gpioIn i level else s)

/-- The output after an action: 1 clear, 2 set, 3 toggle. -/
def gpioAct (code : Nat) (out : Bool) : Bool := if code = 1 then false else if code = 2 then true else if code = 3 then !out else out

/-- The action of ball `i` applied to its output. -/
def State.gpioApply (s : State) (i : Nat) : State :=
  let a := aGPIO_CFG i
  s.setB a GPIO_CFG.out (gpioAct (s.get a GPIO_CFG.action) (s.on a GPIO_CFG.out))

/-- GPIO_CFG of ball `i` is written: the activations of the same AON cycle act last (R457). -/
def State.gpioWrite (s : State) (i : Nat) (w : Word) : State :=
  (s.fab.gpioActs.filter (fun x => x.1 == i && s.sameCycle x.2)).foldl (fun t _ => t.gpioApply i)
    (s.storeDirect (aGPIO_CFG i) fGPIO_CFG w)

/-- A write to GPIO_CFG: a ball that drives then shows its driven level. -/
def wrGpioCfg (q : Req) (i : Nat) (w : Word) (s : State) : State :=
  settle s (s.write q islAON 1 (fun t => (t.gpioWrite i w).gpioDrive i))

/-- GPIO_OUTPUT_ACTION: an activation of consumer input 2904 + i applies the action. -/
def execGpioOutputAction (i : Fin 32) (s : State) : Host.Outcome State Fault Refusal :=
  fin s (match s.actFor (2904 + i) with
    | some x =>
      let t := s.dropAct x
      let l := t.fab.gpioActs.filter (fun y => s.sameCycle y.2) ++ [(i.val, s.tb)]
      if s.gpioOn then (({ t with fab := { t.fab with gpioActs := l } } : State).gpioApply i).gpioDrive i else t
    | none => s)

/-! ### Debug lock, JTAG, debug halts (R455, R456, R499) -/

/-- Put a JTAG instruction in force; the locked ones select the bypass register (R455). -/
def State.jtag (s : State) (i : JInst) : State :=
  let j := match i with
    | .extest | .clamp | .highz => if s.dbgOpen 1 then i else .bypass
    | _ => i
  { s with std := { s.std with jtag := { s.std.jtag with inst := j } } }

/-- BYPASS. -/
def execBypass (s : State) : Host.Outcome State Fault Refusal := fin s (s.jtag .bypass)

/-- IDCODE: the identification register is selected. -/
def execIdcode (s : State) : Host.Outcome State Fault Refusal := fin s (s.jtag .idcode)

/-- What the identification register holds (R455). -/
def idcode : Word := 0x19600B5D#32

/-- SAMPLE_PRELOAD: the boundary register is selected, and `bits` are shifted into the cells' update latches. -/
def execSamplePreload (bits : List Bool) (s : State) : Host.Outcome State Fault Refusal :=
  let t := s.jtag .sample
  fin s { t with std := { t.std with jtag := { t.std.jtag with
    latch := bits ++ t.std.jtag.latch.drop bits.length } } }

/-- EXTEST. -/
def execExtest (s : State) : Host.Outcome State Fault Refusal := fin s (s.jtag .extest)

/-- JTAG_CLAMP. -/
def execJtagClamp (s : State) : Host.Outcome State Fault Refusal := fin s (s.jtag .clamp)

/-- HIGHZ. -/
def execHighz (s : State) : Host.Outcome State Fault Refusal := fin s (s.jtag .highz)

/-- Can a debug halt enter HALT from this mode (R474)? -/
def Mode.canHalt : Mode → Bool
  | .safehold | .run | .lull | .watch | .tripped => true
  | _ => false

/-- Debug halts the engines of a list, and enters HALT where the mode allows it (R456, R474, R477). -/
def State.debugHalt (s : State) (es : List Nat) : State :=
  if !s.dbgOpen 0 || s.mode == .frost || s.mode == .reset then s
  else
    let t := es.foldl (fun u e => u.setEng e { u.eng e with dbg := true }) s
    if s.mode.canHalt then
      ({ t with rst := { t.rst with beforeHalt := s.mode, haltTrip := none, haltHold := false } }).enter .halt
    else t

/-- DEBUG_HALT. -/
def execDebugHalt (set : List Eng) (s : State) : Host.Outcome State Fault Refusal := fin s (s.debugHalt (set.map (·.val)))

/-- WATCH is shown while it is being left, and every clutch has relocked meanwhile: SAFEHOLD (R474, R479). -/
def State.leftWatch (s : State) : State :=
  if s.mode = .watch ∧ s.rst.leaving = true ∧ s.on aMODE MODE.relocking = false then s.enter .safehold else s

/-- DEBUG_RESUME: the engines that debug halted go on, and HALT is left (R474). -/
def execDebugResume (s : State) : Host.Outcome State Fault Refusal :=
  fin s (if !s.dbgOpen 0 then s
  else
    let t := (s.engs.map (·.1)).foldl (fun u e => u.setEng e { u.eng e with dbg := false }) s
    if s.mode != .halt then t
    else if s.rst.haltHold && (s.rst.beforeHalt == .run || s.rst.beforeHalt == .lull) then t.enter .safehold
    else (t.enter s.rst.beforeHalt).leftWatch)

/-- The engines that cross-trigger `d` names. -/
def State.xtrEngines (s : State) (d : Nat) : List Nat :=
  (List.range 258).filter (fun e => if e < 256 then s.bit (aDBG_XTR d (e / 32)) (e % 32) else s.bit (aDBG_XTR8 d) (e - 256))

/-- CROSS_TRIGGER: an activation of consumer input 3064 + d halts the named engines, or marks the trace. -/
def execCrossTrigger (d : Fin 8) (s : State) : Host.Outcome State Fault Refusal :=
  fin s (match s.actFor (3064 + d) with
    | some x =>
      let t := s.dropAct x
      if t.bit (aDBG_XTR8 d) 31 then t.debugHalt (t.xtrEngines d)
      else { t with std := { t.std with marks := t.std.marks ++ [(d.val, s.tb)] } }
    | none => s)

end Sys2Proof.Machine
end

