-- ==== Sys2Proof/Machine/Router.lean ====
section
/-!
DEFINITION. The global interrupt router (R267 to R270).
-/

namespace Sys2Proof.Machine

/-- Do the low `n` bits of two registers share a 1: a status register's flags and their mask? -/
def State.masked (s : State) (stat mask n : Nat) : Bool := (s.reg stat &&& s.reg mask).toNat % 2 ^ n != 0

/-- The island a router source comes from. -/
def srcIsl (i : Nat) : Nat :=
  if i < 32 then islANA
  else if i < 128 then islAON
  else if i < 192 then islTIM ((i - 128) / 16)
  else if i < 224 then islTIM ((i - 192) / 8)
  else if i < 256 then islTIM ((i - 224) / 8)
  else if i < 384 then islSYS
  else if i < 480 then islLNK
  else if i < 489 then islSYS
  else if i = 491 then islSYS
  else if i = 495 then islLNK
  else islAON

/-- Router source 490, ECC summary (R503). -/
def State.eccSrc (s : State) : Bool :=
  (s.on aECC_UE_INFO ECC_UE_INFO.valid && s.on aECC_CFG ECC_CFG.irq_ue) ||
    (decide (s.get aECC_CFG ECC_CFG.ce_thr ≤ s.get aECC_DEV ECC_DEV.ce_total) && s.on aECC_CFG ECC_CFG.irq_ce)

/-- Router source 492, mode and READY. -/
def State.modeSrc (s : State) : Bool :=
  (s.on aMODE MODE.irq_ready && s.on aMODE MODE.ready_chg) ||
    (s.on aMODE MODE.irq_mode && (s.on aMODE MODE.mode_chg || s.on aMODE MODE.req_refused))

/-- Router source 494, regrow. -/
def State.regrowSrc (s : State) : Bool :=
  (List.range 16).any (fun c => s.alive (islCLU c) && (s.on (aREGROW_STATUS c) REGROW_STATUS.done ||
    s.on (aREGROW_STATUS c) REGROW_STATUS.no_spare || s.on (aREGROW_STATUS c) REGROW_STATUS.rg_fail))

/-- The level of router source `i`, as the chapter of its block defines it (R267). -/
def State.srcLevel (s : State) (i : Nat) : Bool :=
  if i < 32 then s.on (aCONV_LIMCFG i) CONV_LIMCFG.lim_irq &&
    (s.on (aCONV_STATUS i) CONV_STATUS.lim_hi || s.on (aCONV_STATUS i) CONV_STATUS.lim_lo)
  else if i < 96 then s.bit (rtevf (i - 32)).1 (rtevf (i - 32)).2
  else if i = 96 then s.on aFAB_ERR FAB_ERR.valid && s.on aFAB_ERR FAB_ERR.irq_en
  else if i < 128 then false
  else if i < 192 then s.masked (aSL_STATUS (i - 128)) (aSL_IRQ (i - 128)) 10
  else if i < 224 then s.on (aTZ_STATUS (i - 192)) TZ_STATUS.flag && s.on (aTZ_CFG (i - 192)) TZ_CFG.irq_en
  else if i < 256 then s.on (aCAP_CFG (i - 224)) CAP_CFG.irq_en &&
    (s.on (aCAP_STATUS (i - 224)) CAP_STATUS.unread || s.on (aCAP_STATUS (i - 224)) CAP_STATUS.ovr)
  else if i < 320 then
    ((s.reg (aDMA_STAT (i - 256))).toNat % 16) &&& s.get (aDMA_CFG (i - 256)) DMA_CFG.irq_mask != 0
  else if i < 384 then s.get (aQW_LINE (i - 320)) QW_LINE.n_high != 0
  else if i < 432 then
    ((s.reg (aFR_STATUS (i - 384))).toNat % 256) &&& s.get (aFR_CFG (i - 384)) FR_CFG.irq_mask != 0
  else if i < 440 then
    ((s.reg (aSWL_STATUS (i - 432))).toNat % 256) &&& s.get (aSWL_CFG (i - 432)) SWL_CFG.irq_mask != 0
  else if i < 442 then false
  else if i < 444 then s.on (aXSPI_CSTAT (i - 442)) XSPI_CSTAT.irq_en &&
    (s.on (aXSPI_CSTAT (i - 442)) XSPI_CSTAT.done || s.on (aXSPI_CSTAT (i - 442)) XSPI_CSTAT.err)
  else if i < 456 then s.masked (aI2C_STAT (i - 444)) (aI2C_IRQ (i - 444)) 9
  else if i < 464 then s.masked (aSPI_STAT (i - 456)) (aSPI_IRQ (i - 456)) 5
  else if i < 472 then s.masked (aUART_STAT (i - 464)) (aUART_IRQ (i - 464)) 5
  else if i < 480 then s.masked (aCAN_STAT (i - 472)) (aCAN_IRQ (i - 472)) 5
  else if i < 488 then s.on (aSNAP_STATUS (i - 480)) SNAP_STATUS.done && s.on (aSNAP_CFG (i - 480)) SNAP_CFG.irq_en
  else if i = 488 then s.on aCC_FAULT CC_FAULT.valid ||
    (List.range 32).any (fun g => s.bit aCC_IRQ g && (s.reg (aCG_STATUS g)).toNat % 128 != 0)
  else if i = 489 then s.on aTHERM THERM.warn
  else if i = 490 then s.eccSrc
  else if i = 491 then s.on aNVM_STATUS NVM_STATUS.done && s.on aNVM_STATUS NVM_STATUS.irq_en
  else if i = 492 then s.modeSrc
  else if i = 493 then s.on aLOCKSTEP LOCKSTEP.fo
  else if i = 494 then s.regrowSrc
  else if i = 495 then s.on aSWL_OWN SWL_OWN.partner_lost || s.on aSWL_OWN SWL_OWN.displaced
  else false

/-- The level of a router source, 0 while its island is in reset or dark (R267). -/
def State.routerLevel (s : State) (i : Nat) : Bool := s.alive (srcIsl i) && s.srcLevel i

/-- What ROUTE_LVL word `w` shows. -/
def State.routeLvl (s : State) (w : Nat) : Word :=
  (List.range 32).foldl (fun v j => putBit v j (s.routerLevel (32 * w + j))) 0

/-- ROUTE_CFG after a write of `w` over `old`: an input beyond 31 is reserved for a Newt (R270). -/
def routeWord (old w : Word) : Word :=
  let v := directWrite [ROUTE_CFG.en, ROUTE_CFG.engine] old w
  if getBits v ROUTE_CFG.engine < 256 && decide (32 ≤ getBits w ROUTE_CFG.input) then v
  else putBits v ROUTE_CFG.input (getBits w ROUTE_CFG.input)

/-- A write to ROUTE_CFG of source `i`: from then on the source is steered as it says (R268). -/
def wrRouteCfg (q : Req) (i : Nat) (w : Word) (s : State) : State :=
  s.write q islAON 1 (fun t => t.setReg (aROUTE_CFG i) (routeWord (t.reg (aROUTE_CFG i)) w))

/-- ROUTE_CFG_WRITE. -/
def execRouteCfgWrite (q : Req) (src : Fin 512) (w : Word) (s : State) : Host.Outcome State Fault Refusal :=
  .next (s.crossTo q true (aROUTE_CFG src) w (wrRouteCfg q src w))

/-- ROUTER_SOURCE_CHANGE: the present level of a source reaches the engines (R269). -/
def execRouterSourceChange (src : Fin 512) (s : State) : Host.Outcome State Fault Refusal :=
  let l := s.routed.filter (fun i => i != src.val)
  .next (if s.alive islAON then { s with routed := if s.routerLevel src then src.val :: l else l } else s)

/-- Is router source `i` steered to input `n` of engine `e`? -/
def State.steered (s : State) (i e n : Nat) : Bool :=
  s.on (aROUTE_CFG i) ROUTE_CFG.en && s.get (aROUTE_CFG i) ROUTE_CFG.engine == e && s.get (aROUTE_CFG i) ROUTE_CFG.input == n

/-- The level of LIC input `n` of engine `e` (R261). -/
def State.licLevel (s : State) (e n : Nat) : Bool :=
  s.routed.any (fun i => s.steered i e n) ||
    (s.on (aLIC_CFG e n) LIC_CFG.evf_en && s.bit (aEVF e) (s.get (aLIC_CFG e n) LIC_CFG.evf_idx))

end Sys2Proof.Machine
end

