-- ==== Sys2Proof/Machine/Fieldring.lean ====
section
/-!
DEFINITION. Fieldring ports (15_fieldring.md).
-/

namespace Sys2Proof.Machine

/-! ### Ports and states -/

/-- The codes of R407. -/
def frOFF : Nat := 0
def frSYNC : Nat := 1
def frENUM : Nat := 2
def frCHECK : Nat := 3
def frRUN : Nat := 4
def frBROKEN : Nat := 5

def State.frState (s : State) (p : Nat) : Nat := s.get (aFR_STATUS p) FR_STATUS.state

/-- Is port `p` READY, in a released island? -/
def State.frReady (s : State) (p : Nat) : Bool := s.alive islLNK && s.isReady (17 + p / 32) (p % 32)

/-- The character time in ns (R383). -/
def State.frTc (s : State) (p : Nat) : Nat := 80 * 2 ^ s.get (aFR_CFG p) FR_CFG.rate

/-- The first character boundary at or after `t` (R384). -/
def State.frChar (s : State) (p t : Nat) : Nat := (t + s.frTc p - 1) / s.frTc p * s.frTc p

/-- When the last bit of the EOF of a frame with `n` payload bytes leaves, if it starts at boundary `b` (R384, R389). -/
def State.frEnd (s : State) (p b n : Nat) : Nat := b + 12 + (12 + n) * s.frTc p

/-- A happening that ev_sel selects fires the port's producer (R413). -/
def State.frEvent (s : State) (p bit : Nat) : State := s.fireIf (s.bit (aFR_CFG p) bit) (1952 + p)

/-- The state shown becomes `st`. -/
def State.frShow (s : State) (p st : Nat) : State :=
  if s.frState p = st then s else (s.set (aFR_STATUS p) FR_STATUS.state st).frEvent p 0

/-! ### What the port sends (R382, R383, R386, R389, R390) -/

/-- The bytes of a frame that the port sends, its CRC last. -/
def frFrame (dst ctl byte2 rmax : Nat) (pay : List Byte) : List Byte :=
  let h := [dst, 128 * ctl, byte2, pay.length, rmax, 0].map (BitVec.ofNat 8) ++ pay
  h ++ leBytes 4 (crc32 h).toNat

/-- Byte 2 of a request's header: class, seq, retry. -/
def FrReq.byte2 (r : FrReq) : Nat := 64 * r.cls + 4 * (r.seq % 16) + if 0 < r.tries then 2 else 0

/-- The frame of a request to its node. -/
def FrReq.frame (r : FrReq) : List Byte := frFrame r.node r.ctl.toNat r.byte2 r.rmax r.payload

/-- The characters of a stretch before its IDLE sets. -/
def FrTx.chars (x : FrTx) : List LineChar :=
  if x.bytes.isEmpty then [] else .k28_5 :: x.bytes.map LineChar.data ++ [.k29_7]

/-- Character `n` of a stretch: IDLE is K28.1, D16.2. -/
def FrTx.charAt (x : FrTx) (n : Nat) : LineChar :=
  x.chars.getD n (if (n - x.chars.length) % 2 = 0 then .k28_1 else .data 0x50)

/-- The running disparity before character `n`: each character of an IDLE set turns it round. -/
def FrTx.rdAt (x : FrTx) (n : Nat) : Bool :=
  ((x.chars.take n).foldl (fun r c => c.next r) x.rd) != decide ((n - x.chars.length) % 2 = 1)

/-- The port sends a frame of these bytes from boundary `b` on, or IDLE sets if there are none. Transmission begins at negative
disparity (PRESUMED, log 47). -/
def State.frPush (s : State) (p b : Nat) (bytes : List Byte) : State :=
  let x := s.frPort p
  let past := x.sent.filter (fun y => decide (y.from_ ≤ s.tb))
  let keep := past.drop (past.length - 2) ++ x.sent.filter (fun y => decide (s.tb < y.from_))
  let rd := match keep.getLast? with
    | some y => y.rdAt ((b - y.from_) / s.frTc p)
    | none => false
  s.setFrPort p { x with sent := keep ++ [{ from_ := b, rd := rd, bytes := bytes }] }

/-- The level of ball FRppTX: low in OFF, else the bit of the character that leaves, 12 ns behind its boundary (R382, R384, R407). -/
def State.frTxLevel (s : State) (p : Nat) : Bool :=
  let tc := s.frTc p
  let b := (s.tb - 12) / tc * tc
  if s.frState p = frOFF ∨ s.tb < 12 then false
  else match ((s.frPort p).sent.filter (fun y => decide (y.from_ ≤ b))).getLast? with
    | none => false
    | some y =>
      let n := (b - y.from_) / tc
      ((y.charAt n).code (y.rdAt n)).getMsbD ((s.tb - 12) % tc / (tc / 10))

/-! ### Partners (R396 to R398) -/

/-- The partner that a valid entry gives to a word of `regs`, if it is such an entry for `port` and `node`. -/
def ptHit (port node : Nat) (x : Nat × Word) : Option Nat :=
  if 0x40808000 ≤ x.1 ∧ x.1 < 0x40810000 ∧ x.1 % 8 = 0 ∧ getBits x.2 PT_MAP.en = 1 ∧ getBits x.2 PT_MAP.port = port ∧
    getBits x.2 PT_MAP.node = node then some ((x.1 - 0x40808000) / 8) else none

/-- The partner that the pair (port, node) maps to. An unlisted entry is not valid. -/
def State.partner (s : State) (port node : Nat) : Option Nat := s.regs.findSome? (ptHit port node)

/-- A partner's answer time in ns (R397). -/
def State.frTans (s : State) (k : Nat) : Nat := (s.get (aPT_MAP k) PT_MAP.t_ans + 1) * 125

/-- Has the node a request outstanding, or one that awaits its retry? -/
def FrPort.busyNode (x : FrPort) (node : Nat) : Bool := (x.outs ++ x.retry).any (fun r => r.node == node)

/-- The next seq of a partner's class (R405). -/
def State.frSeq (s : State) (k cls : Nat) : Nat := sget 0 s.fr.seq (2 * k + cls / 2)

def State.setFrSeq (s : State) (k cls v : Nat) : State :=
  { s with fr := { s.fr with seq := sput 0 (2 * k + cls / 2) (v % 16) s.fr.seq } }

/-! ### Records (R398, R400) -/

/-- A put of the port, a ring-0 requester that never waits: the state, and whether the record took its place. -/
def State.frPut (s : State) (p q : Nat) (ws : List Word) : State × Bool :=
  if !s.qMay q 0 then ((s.qMeet q false).set (aFR_STATUS p) FR_STATUS.rec_lost 1, false)
  else match (s.qMeet q false).qPut q ws with
    | (t, .stored) => (t, true)
    | (t, .rejected) => (t.set (aFR_STATUS p) FR_STATUS.rec_lost 1, false)
    | (t, .full) => ((t.countDrop q).set (aFR_STATUS p) FR_STATUS.rec_lost 1, false)

/-- What a completion says. -/
structure FrDone where
  status : Nat
  tag : Nat
  seq : Nat
  alm : Bool := false
  late : Bool := false
  retried : Bool := false
  stamp : Word
  payload : List Byte := []
  rsts : Option Byte := none
  deriving DecidableEq, Repr

/-- Word `i` (0 or 1) of the payload bytes 0 to 7, bytes that are not there 0. -/
def payWord (bs : List Byte) (i : Nat) : Word :=
  bs.getD (4 * i + 3) 0 ++ bs.getD (4 * i + 2) 0 ++ bs.getD (4 * i + 1) 0 ++ bs.getD (4 * i) 0

/-- Word 0 of a record. -/
def FrDone.word0 (d : FrDone) (status : Nat) (buf : Bool) : Word :=
  BitVec.ofNat 32 (status * 2 ^ 24 + d.tag % 256 * 2 ^ 16 + d.seq % 16 * 2 ^ 12 + d.alm.toNat * 2 ^ 11 + buf.toNat * 2 ^ 10 +
    d.late.toNat * 2 ^ 9 + d.retried.toNat * 2 ^ 8 + d.payload.length)

/-- Put a completion record of partner `k` into the queue of `cls` (1 for commands, 2 for polls). A payload of more than 8
bytes goes to the receive buffer first; status 0x08 takes the place of 0x00 alone (DESIGN CHOICE, log 47). -/
def State.frComplete (s : State) (p k cls : Nat) (d : FrDone) : State :=
  let buf := s.get (aPT_RX k) PT_RX.rxbuf * 256
  let a := buf + 64 * cls
  let long := decide (8 < d.payload.length)
  let ok := long && buf != 0 && inSram a d.payload.length
  let t := if ok then s.memBytes a d.payload else s
  let status := if long && !ok && d.status == 0 then 8 else d.status
  let w2 := match d.rsts with
    | some b => b.setWidth 32
    | none => payWord d.payload 0
  let r := t.frPut p (4 * k + cls) [d.word0 status ok, d.stamp, w2, payWord d.payload 1]
  if r.2 && status != 0 then r.1.frEvent p 1 else r.1

/-- The completion of a request without an answer, decided now. -/
def State.frFail (s : State) (p : Nat) (r : FrReq) (status : Nat) : State :=
  s.frComplete p r.partner (if r.cls = 0 then 1 else 2)
    { status := status, tag := r.tag, seq := r.seq, late := r.late, retried := decide (0 < r.tries), stamp := s.tbLo }

/-- A completion for which no request was sent: the spec gives its seq no value. -/
def State.frNoReq (s : State) (p k cls status tag : Nat) (late : Bool) : State :=
  let w := s.freeWord
  w.2.frComplete p k cls { status := status, tag := tag, seq := w.1.toNat % 16, late := late, stamp := s.tbLo }

/-! ### Enumeration and state changes (R403, R407, R408) -/

/-- The port leaves the requests it holds: each ends with status 0x05, one that awaits its retry without that retry. Frames that have
not begun to leave are not sent; one that has goes on to its end (DESIGN CHOICE, log 47). -/
def State.frEndAll (s : State) (p : Nat) : State :=
  let x := s.frPort p
  (x.outs ++ x.retry.map (fun (r : FrReq) => { r with tries := r.tries - 1 })).foldl (fun t r => t.frFail p r 5)
    (s.setFrPort p { x with outs := [], retry := [], enumWait := false, trig := []
                            sent := x.sent.filter (fun y => decide (y.from_ ≤ s.tb)) })

/-- Enter a state other than RUN. -/
def State.frLeave (s : State) (p st : Nat) : State :=
  let t := s.frEndAll p
  let t := if s.frState p = frRUN then t.set (aFR_STATUS p) FR_STATUS.fault_node 0 else t
  t.frShow p st

/-- Enter ENUM: the ENUM frame starts at the first boundary at which the line is free. The spec names neither its class nor its seq: free
values (log 47). -/
def State.frEnum (s : State) (p : Nat) : State :=
  let (w, t) := (s.frLeave p frENUM).freeWord
  let x := t.frPort p
  let b := t.frChar p (max s.tb x.free)
  let te := t.frEnd p b 2
  (t.frPush p b (frFrame 127 1 (w.toNat % 64 * 4) 0 [1, 0])).setFrPort p
    { (t.frPush p b (frFrame 127 1 (w.toNat % 64 * 4) 0 [1, 0])).frPort p with enumLeft := some te, free := te + 6 * t.frTc p }

/-- Enter SYNC: with lock, auto_enum goes on to ENUM. -/
def State.frSync (s : State) (p : Nat) : State :=
  let t := s.frLeave p frSYNC
  if (t.frPort p).lock && t.on (aFR_CFG p) FR_CFG.auto_enum then t.frEnum p else t

/-- An enabled, READY port in OFF starts. -/
def State.frWake (s : State) (p : Nat) : State :=
  if s.frReady p && s.on (aFR_CFG p) FR_CFG.en && s.frState p == frOFF then (s.frPush p (s.frChar p s.tb) []).frSync p else s

/-- In RUN, a write of enum waits for the outstanding requests. -/
def State.frEnumReady (s : State) (p : Nat) : State :=
  let x := s.frPort p
  if x.enumWait && x.outs.isEmpty && x.retry.isEmpty && s.frState p == frRUN then s.frEnum p else s

/-- Bit `node` of the pending words. -/
def State.frPend (s : State) (p node : Nat) (b : Bool) : State := s.setBit (aFR_PEND p (node / 32)) (node % 32) b
def State.frPending (s : State) (p node : Nat) : Bool := s.bit (aFR_PEND p (node / 32)) (node % 32)

/-- The port goes to OFF (R414): requests end with status 0x05, then its state clears. -/
def State.frOff (s : State) (p : Nat) : State :=
  let t := (s.frLeave p frOFF).setFrPort p {}
  (List.range 4).foldl (fun u w => u.setReg (aFR_PEND p w) 0) t

/-- What a write to FR_CTRL does: enum, then kick. -/
def State.frCtrl (s : State) (p : Nat) (w : Word) : State :=
  let st := s.frState p
  let t := if getBits w FR_CTRL.enum = 1 then
      (if st = frRUN then (s.setFrPort p { s.frPort p with enumWait := true }).frEnumReady p
       else if st = frCHECK ∨ (st = frSYNC ∧ (s.frPort p).lock = true) then s.frEnum p
       else s)
    else s
  let n := getBits w FR_CTRL.node
  if getBits w FR_CTRL.kick = 1 && decide (1 ≤ n) && decide (n ≤ 126) then t.frPend p n true else t

/-- A write to FR_CTRL. -/
def wrFrCtrl (q : Req) (p : Nat) (w : Word) (s : State) : State := s.write q islLNK 1 (fun t => t.frCtrl p w)

/-- FR_ENUM. -/
def execFrEnum (q : Req) (p : Fin 48) (w : Word) (s : State) : Host.Outcome State Fault Refusal :=
  .next (s.crossTo q true (aFR_CTRL p) w (wrFrCtrl q p w))

/-- FR_KICK. -/
def execFrKick (q : Req) (p : Fin 48) (w : Word) (s : State) : Host.Outcome State Fault Refusal :=
  .next (s.crossTo q true (aFR_CTRL p) w (wrFrCtrl q p w))

/-- What a write to FR_CFG does: rate changes only while en = 0 (R385); en starts or stops the port. -/
def State.frCfg (s : State) (p : Nat) (w : Word) : State :=
  let a := aFR_CFG p
  let was := s.on a FR_CFG.en
  let t := s.storeDirect a fFR_CFG w
  let t := if was then t.set a FR_CFG.rate (s.get a FR_CFG.rate) else t
  if was && !t.on a FR_CFG.en then t.frOff p else t.frWake p

/-- A write to FR_CFG. -/
def wrFrCfg (q : Req) (p : Nat) (w : Word) (s : State) : State := s.write q islLNK 1 (fun t => t.frCfg p w)

/-- FR_CFG_EN_WRITE. -/
def execFrCfgEnWrite (q : Req) (p : Fin 48) (w : Word) (s : State) : Host.Outcome State Fault Refusal :=
  .next (s.crossTo q true (aFR_CFG p) w (wrFrCfg q p w))

/-- Does an access to the partner table break R396: word `v` would map a pair that another valid entry maps, or changes the
pair of a partner with a request outstanding? -/
def State.ptBad (s : State) (k : Nat) (v : Word) : Bool :=
  let old := s.reg (aPT_MAP k)
  let port := getBits v PT_MAP.port
  let node := getBits v PT_MAP.node
  let changed := getBits v PT_MAP.en != getBits old PT_MAP.en || port != getBits old PT_MAP.port ||
    node != getBits old PT_MAP.node
  let x := s.frPort (getBits old PT_MAP.port)
  (getBits v PT_MAP.en == 1 && s.regs.any (fun y => match ptHit port node y with
    | some j => j != k
    | none => false)) || (changed && (x.outs ++ x.retry).any (fun r => r.partner == k))

/-- A write to PT_MAP of partner `k`. -/
def wrPtMap (q : Req) (k : Nat) (w : Word) (s : State) : State :=
  let v := directWrite fPT_MAP (s.reg (aPT_MAP k)) w
  if s.admits q islLNK && s.ptBad k v then s.refuse q else s.write q islLNK 1 (fun t => t.setReg (aPT_MAP k) v)

/-- FR_LOCK_GAINED: 16 consecutive valid IDLE sets with no FAULT (R388, R407). -/
def execFrLockGained (p : Fin 48) (s : State) : Host.Outcome State Fault Refusal :=
  let t := s.setFrPort p { s.frPort p with lock := true }
  .next (if s.frState p = frOFF then s
  else if s.frState p = frBROKEN then t.frSync p
  else if s.frState p = frSYNC && s.on (aFR_CFG p) FR_CFG.auto_enum then t.frEnum p
  else t)

/-- Is the port in a state that a lost input breaks (R407)? -/
def State.frLive (s : State) (p : Nat) : Bool := s.frState p == frENUM || s.frState p == frCHECK || s.frState p == frRUN

/-- FR_LOCK_LOST. -/
def execFrLockLost (p : Fin 48) (s : State) : Host.Outcome State Fault Refusal :=
  let t := s.setFrPort p { s.frPort p with lock := false }
  .next (if s.frState p = frOFF then s
  else if s.frLive p then (t.set (aFR_STATUS p) FR_STATUS.lock_lost 1).frLeave p frBROKEN
  else t)

/-- FR_FAULT_RECEIVED: a FAULT set with address `node`. -/
def execFrFaultReceived (p : Fin 48) (node : BitVec 7) (s : State) : Host.Outcome State Fault Refusal :=
  let a := aFR_STATUS p
  .next (if s.frState p = frOFF then s
  else
    let t := (if s.frLive p then s.frLeave p frBROKEN else s).set a FR_STATUS.fault_seen 1
    if t.get a FR_STATUS.fault_node = 0 then t.set a FR_STATUS.fault_node node.toNat else t)

/-- Reset the seq counters of every partner on port `p`. -/
def State.frClearSeq (s : State) (p : Nat) : State :=
  { s with fr := { s.fr with seq := s.fr.seq.filter (fun x => s.get (aPT_MAP (x.1 / 2)) PT_MAP.port != p) } }

/-- FR_ENUM_RETURN: the ENUM comes back valid with hop count `hop` after the ring delay `dr`. -/
def execFrEnumReturn (p : Fin 48) (hop : BitVec 7) (dr : BitVec 20) (s : State) : Host.Outcome State Fault Refusal :=
  let a := aFR_STATUS p
  let n := hop.toNat
  let ex := s.get (aFR_CFG p) FR_CFG.expect
  .next (if s.frState p = frENUM ∧ (s.frPort p).enumLeft.isSome = true then
    let t := ((s.set a FR_STATUS.nodes n).set (aFR_RING p) FR_RING.dr dr.toNat).frClearSeq p
    let t := t.setFrPort p { t.frPort p with enumLeft := none }
    if n = 127 ∨ (ex ≠ 0 ∧ n ≠ ex) then (t.set a FR_STATUS.cnt_err 1).frLeave p frCHECK
    else if 1 ≤ n then (t.setFrPort p { t.frPort p with since := s.tb, cycle := none, done := [], behind := [] }).frShow p frRUN
    else t
  else s)

/-- FR_ENUM_TIMEOUT: the ENUM has not returned 100 µs after it left. -/
def execFrEnumTimeout (p : Fin 48) (s : State) : Host.Outcome State Fault Refusal :=
  .next (match (s.frPort p).enumLeft with
    | some te =>
      if s.frState p = frENUM ∧ te + 100000 ≤ s.tb then
        ((s.set (aFR_STATUS p) FR_STATUS.enum_to 1).setFrPort p { s.frPort p with enumLeft := none }).frSync p
      else s
    | none => s)

/-! ### The schedule (R409) -/

/-- The schedule's anchor and cycle time. -/
def State.frAnchor (s : State) (p : Nat) : Nat := s.get64 (aFR_ANCHOR_LO p) (aFR_ANCHOR_HI p)
def State.frTcyc (s : State) (p : Nat) : Nat := s.get (aFR_SCHED p) FR_SCHED.cycle_ns

/-- Does the schedule run? -/
def State.frSched (s : State) (p : Nat) : Bool := s.on (aFR_SCHED p) FR_SCHED.en && s.frState p == frRUN

/-- Is entry `e` a timed one that can become due? -/
def State.frTimed (s : State) (p e : Nat) : Bool :=
  s.on (aFR_SE0 p e) FR_SE0.en && !s.on (aFR_SE0 p e) FR_SE0.trig &&
    decide (s.get (aFR_SE1 p e) FR_SE1.offset < s.frTcyc p) &&
    decide (s.get (aFR_SE2 p e) FR_SE2.phase < 2 ^ s.get (aFR_SE2 p e) FR_SE2.div)

/-- Is entry `e` enabled but impossible? -/
def State.frBadEntry (s : State) (p e : Nat) : Bool :=
  s.on (aFR_SE0 p e) FR_SE0.en && !s.on (aFR_SE0 p e) FR_SE0.trig && !s.frTimed p e

/-- The first cycle from `j` on in which entry `e` is due. -/
def State.frCycleOf (s : State) (p e j : Nat) : Nat :=
  let m := 2 ^ s.get (aFR_SE2 p e) FR_SE2.div
  j + (s.get (aFR_SE2 p e) FR_SE2.phase + m - j % m) % m

/-- The due time of entry `e` in cycle `j`. -/
def State.frDue (s : State) (p e j : Nat) : Nat := s.frAnchor p + j * s.frTcyc p + s.get (aFR_SE1 p e) FR_SE1.offset

/-- The first cycle that runs: none before the schedule came into force (R409). -/
def State.frFirst (s : State) (p : Nat) : Nat :=
  let t := (s.frPort p).since
  if t ≤ s.frAnchor p then 0 else (t - s.frAnchor p + s.frTcyc p - 1) / s.frTcyc p

/-- The next due time of any poll not yet polled. -/
def State.frNextDue (s : State) (p : Nat) : Option Nat :=
  let x := s.frPort p
  let from_ (e : Nat) : Nat := match x.cycle with
    | some j => if x.done.contains e then j + 1 else j
    | none => s.frFirst p
  if s.frSched p then
    ((List.range 256).filter (fun e => s.frTimed p e)).foldl (fun m e =>
      let d := s.frDue p e (s.frCycleOf p e (from_ e))
      match m with
      | some v => some (min v d)
      | none => some d) ((x.trig.head?.toList ++ x.behind).foldl (fun m y => some ((m.getD y.2).min y.2)) none)
  else none

/-- The polls of cycle `j` that have not been made, with their due times. -/
def State.frLeft (s : State) (p j : Nat) : List (Nat × Nat) :=
  ((List.range 256).filter (fun e => s.frTimed p e && !(s.frPort p).done.contains e && s.frCycleOf p e j == j)).map (fun e =>
    (e, s.dueTick (s.frDue p e j)))

/-- FR_CYCLE_START: the next cycle starts, in the first tick after a forward step that passed its start (R48); polls of the last one that
the line has kept from starting still wait (R410). -/
def execFrCycleStart (p : Fin 48) (s : State) : Host.Outcome State Fault Refusal :=
  let x := s.frPort p
  let j := match x.cycle with
    | some i => i + 1
    | none => s.frFirst p
  .next (if s.frSched p && decide (s.dueTick (s.frAnchor p + j * s.frTcyc p) ≤ s.tb) then
    let t := s.flagIf ((List.range 256).any (fun e => s.frBadEntry p e)) (aFR_STATUS p) FR_STATUS.sched_err
    (t.setFrPort p { x with cycle := some j, done := [], behind := x.behind ++ (x.cycle.map (s.frLeft p)).getD [] }).frEvent p 3
  else s)

/-! ### Sending (R393, R401, R405, R410, R411) -/

/-- A request goes out from boundary `b` on: its end, and when the line is free again (R393). -/
def State.frSend (s : State) (p b : Nat) (r : FrReq) : State :=
  let te := s.frEnd p b r.payload.length
  let s := s.frPush p b r.frame
  let x := s.frPort p
  s.setFrPort p { x with outs := x.outs ++ [{ r with te := te }],
                         free := te + s.frTans r.partner + (24 + r.rmax) * s.frTc p }

/-- A broadcast goes out from boundary `b` on: no answer follows, and the line is free six characters after its EOF (R393, R402). -/
def State.frCast (s : State) (p b : Nat) (r : FrReq) : State :=
  let s := s.frPush p b (frFrame 127 r.ctl.toNat r.byte2 r.rmax r.payload)
  s.setFrPort p { s.frPort p with free := s.frEnd p b r.payload.length + 6 * s.frTc p }

/-- A poll of entry `e`, due at `due` (R410, R411); none while the line keeps it from starting within 500 ns, in which its payload is
read. A pair without a valid entry is never sent. -/
def State.frPoll (s : State) (p e due : Nat) : Option State :=
  let w := s.reg (aFR_SE0 p e)
  let node := getBits w FR_SE0.node
  let len := getBits w FR_SE0.len_out
  let src := s.get (aFR_SE3 p e) FR_SE3.src * 8
  let x := s.frPort p
  match s.partner p node with
  | none => some s
  | some k =>
    let late := decide (s.frChar p due < x.free)
    let b := s.frChar p (max (max due s.tb) x.free)
    let soon := match sget none x.polled node with
      | some t => decide (b < t + 10000)
      | none => false
    if x.busyNode node || soon then some (s.frNoReq p k 2 9 e false)
    else if s.tb + 500 < b then none
    else if decide (0 < len) && (!inSram src len || (s.firstUe src len).isSome) then
      some (((s.noteUe src len).set (aFR_STATUS p) FR_STATUS.sched_err 1).frNoReq p k 2 9 e false)
    else
      let s := s.noteUe src len
      let r : FrReq := { partner := k, node := node, cls := 2, seq := s.frSeq k 2, tries := 0, rmax := getBits w FR_SE0.rmax,
                         ctl := false, payload := s.bytesAt src len, tag := e, late := late, te := 0 }
      let t := s.setFrPort p { x with polled := sput none node (some b) x.polled }
      some ((t.setFrSeq k 2 (s.frSeq k 2 + 1)).frSend p b r)

/-- Is entry `e` due now and not yet polled, by an activation, in an earlier cycle or in the present one? -/
def State.frIsDue (s : State) (p e : Nat) : Option Nat :=
  let x := s.frPort p
  match (if s.frSched p then (x.trig ++ x.behind).find? (fun y => y.1 == e) else none), x.cycle with
  | some y, _ => some y.2
  | none, some j =>
    if s.frSched p && s.frTimed p e && !x.done.contains e && s.frCycleOf p e j == j && decide (s.dueTick (s.frDue p e j) ≤ s.tb) then
      some (s.dueTick (s.frDue p e j))
    else none
  | none, none => none

/-- The poll of entry `e` is sent or skipped: it is no longer due, and its frame keeps the port's input busy if an activation asked for
it (R412). -/
def State.frPolled (s : State) (p e due : Nat) : Option State :=
  let x := s.frPort p
  if x.trig.any (fun y => y.1 == e) then
    ((s.setFrPort p { x with trig := x.trig.filter (fun y => y.1 != e) }).frPoll p e due).map (fun t =>
      t.setFrPort p { t.frPort p with busyUntil := ((t.frPort p).outs.drop x.outs.length).foldl (fun m r => max m r.te) x.busyUntil })
  else match x.behind.find? (fun y => y.1 == e) with
    | some y => (s.setFrPort p { x with behind := x.behind.erase y }).frPoll p e due
    | none => (s.setFrPort p { x with done := x.done ++ [e] }).frPoll p e due

/-- The polls of an activation are sent in order as far as the line lets them. -/
def State.frDrain (p : Nat) : List (Nat × Nat) → State → State
  | [], s => s
  | y :: l, s => match s.frPolled p y.1 y.2 with
    | some t => State.frDrain p l t
    | none => s

/-- FR_POLL_DUE: entry `i` is due, and no entry before it in time and index order is; it starts when the line lets it. -/
def execFrPollDue (p : Fin 48) (i : Fin 256) (s : State) : Host.Outcome State Fault Refusal :=
  .next (match s.frIsDue p i with
    | some d =>
      let before (e : Nat) : Bool := match s.frIsDue p e with
        | some d' => decide (d' < d) || (d' == d && decide (e < i.val))
        | none => false
      if (List.range 256).any before then s
      else (s.frPolled p i d).getD s
    | none => s)

/-- FR_POLL_TRIGGER: an activation of consumer input 2328 + p sends every triggered entry in index order (R412). -/
def execFrPollTrigger (p : Fin 48) (s : State) : Host.Outcome State Fault Refusal :=
  .next (match s.actFor (2328 + p) with
    | some a =>
      let t := (s.dropAct a).unhold (2328 + p)
      if t.frSched p then
        let es := (List.range 256).filter (fun e => t.on (aFR_SE0 p e) FR_SE0.en && t.on (aFR_SE0 p e) FR_SE0.trig)
        let l := es.map (fun e => (e, a.take))
        State.frDrain p l (t.setFrPort p { t.frPort p with trig := l })
      else t
    | none => s)

/-- The system SRAM bytes that a command record names with ext = 1: their address and number. -/
def frExt (ws : List Word) : Option (Nat × Nat) :=
  let w0 := ws.getD 0 0
  if w0.getLsbD 30 then some ((ws.getD 1 0).toNat, w0.toNat / 2 ^ 16 % 128) else none

/-- Does a command record keep the rules of R401? -/
def frLegal (ws : List Word) : Bool :=
  let w0 := ws.getD 0 0
  (w0 &&& 0x3F808000#32) == 0#32 && decide (w0.toNat / 2 ^ 8 % 128 ≤ 64) &&
    match frExt ws with
    | some (a, len) => decide (len ≤ 64) && a % 4 == 0 && ws.getD 2 0 == 0#32 && ws.getD 3 0 == 0#32 && (len == 0 || inSram a len)
    | none => decide (w0.toNat / 2 ^ 16 % 128 ≤ 12)

/-- The payload of a command record, if the record keeps the rules of R401 and its bytes can be read. -/
def State.frRecord (s : State) (ws : List Word) : Option (List Byte) :=
  if !frLegal ws then none
  else match frExt ws with
    | some (a, len) => if (s.firstUe a len).isSome then none else some (s.bytesAt a len)
    | none => some (((wordBytes (ws.getD 1 0)) ++ (wordBytes (ws.getD 2 0)) ++ (wordBytes (ws.getD 3 0))).take
        ((ws.getD 0 0).toNat / 2 ^ 16 % 128))

/-- The payload of a legal command record is read: an uncorrectable word is counted (R503). -/
def State.frNote (s : State) (ws : List Word) : State := match frLegal ws, frExt ws with
  | true, some (a, len) => s.noteUe a len
  | _, _ => s

/-- The interval that R393 asks for behind a frame for partner `k`: of a broadcast, of a request. -/
def State.frGap (s : State) (p k : Nat) (cast : Bool) (rmax : Nat) : Nat :=
  if cast then 6 * s.frTc p else s.frTans k + (24 + rmax) * s.frTc p

/-- Would a command with `len` payload bytes from boundary `b` on, and its interval, keep clear of the next schedule poll (R401)? -/
def State.frFits (s : State) (p b len gap : Nat) : Bool := match s.frNextDue p with
  | some d => decide (s.frEnd p b len + gap ≤ s.frChar p d)
  | none => true

/-- Is a command the link-control frame DROP, which goes to all nodes (R402)? -/
def frDrop (ctl : Bool) (pay : List Byte) : Bool := ctl && pay.head? == some 3

/-- The nodes after `n`, round-robin. -/
def frOrder (n : Nat) : List Nat := (List.range 126).map (fun i => (n + i) % 126 + 1)

/-- The pending nodes that the port can serve now, in its order. -/
def State.frNodes (s : State) (p : Nat) : List Nat :=
  let x := s.frPort p
  (frOrder x.lastNode).filter (fun n => s.frPending p n && !x.busyNode n && (s.partner p n).isSome)

/-- The record at the head of a queue that the port may use. -/
def State.frHead (s : State) (q : Nat) : Option (List Word) := if s.qMay q 0 && s.qSound q true then s.qPeek q else none

/-- Serve the first of a list of pending nodes whose queue holds a record, from boundary `b` on; a node whose queue is empty
or disabled loses its pending bit. A broadcast completes with no record: R404 has no status for it (DESIGN CHOICE, log 47). -/
def State.frServe (s : State) (p b : Nat) : List Nat → State
  | [] => s
  | n :: ns =>
    match s.partner p n with
    | none => s.frServe p b ns
    | some k =>
      match s.frHead (4 * k) with
      | none => (((s.qMeet (4 * k) true).flagIf (!(s.qMay (4 * k) 0 && s.qSound (4 * k) true)) (aFR_STATUS p) FR_STATUS.q_err).frPend p n
          false).frServe p b ns
      | some ws =>
        let w0 := ws.getD 0 0
        match s.frRecord ws with
        | none =>
          let t := ((s.qMeet (4 * k) true).qGet (4 * k)).1.frNote ws
          (t.setFrPort p { t.frPort p with lastNode := n }).frNoReq p k 1 6 (w0.toNat % 256) false
        | some pay =>
          let rmax := w0.toNat / 2 ^ 8 % 128
          let cast := frDrop (w0.getLsbD 31) pay
          if s.frFits p b pay.length (s.frGap p k cast rmax) then
            let t := ((s.qMeet (4 * k) true).qGet (4 * k)).1.frNote ws
            let t := t.setFrPort p { t.frPort p with lastNode := n }
            let r : FrReq := { partner := k, node := n, cls := 0, seq := s.frSeq k 0, tries := 0,
                               rmax := rmax, ctl := w0.getLsbD 31, payload := pay, tag := w0.toNat % 256,
                               late := false, te := 0 }
            let u := t.setFrSeq k 0 (s.frSeq k 0 + 1)
            if cast then u.frCast p b r else u.frSend p b r
          else s

/-- FR_COMMAND_START: the line is free; a retry goes first, then the pending nodes are served. -/
def execFrCommandStart (p : Fin 48) (s : State) : Host.Outcome State Fault Refusal :=
  let x := s.frPort p
  .next (if s.frState p = frRUN ∧ x.free ≤ s.tb then
    let b := s.frChar p s.tb
    match x.retry with
    | r :: rs =>
      if s.frFits p b r.payload.length (s.frGap p r.partner false r.rmax) then (s.setFrPort p { x with retry := rs }).frSend p b r else s
    | [] => if x.enumWait then s else s.frServe p b (s.frNodes p)
  else s)

/-! ### Answers (R391, R394, R395, R405) -/

/-- A request fails with status 2 (timeout) or 3 (frame error): a command is retried while it has retries left. -/
def State.frError (s : State) (p : Nat) (r : FrReq) (status : Nat) : State :=
  let x := s.frPort p
  let t := s.setFrPort p { x with outs := x.outs.erase r }
  let t := if status = 2 then t.incSat (aFR_ERRCNT p) FR_ERRCNT.timeouts else t
  if r.cls = 0 ∧ r.tries < s.get (aPT_MAP r.partner) PT_MAP.max_retry then
    t.setFrPort p { t.frPort p with retry := (t.frPort p).retry ++ [{ r with tries := r.tries + 1 }] }
  else (t.frFail p r status).frEnumReady p

/-- How a valid frame matches a request. -/
inductive FrMatch where
  | answer | nak | long | back | no
  deriving DecidableEq, Repr

/-- Judge the bytes of a valid frame against a request (R394). -/
def frMatch (bs : List Byte) (r : FrReq) : FrMatch :=
  let b (i : Nat) : Nat := (bs.getD i 0).toNat
  if b 0 / 128 = 0 then (if b 0 % 128 = r.node then .back else .no)
  else if b 0 % 128 = 0 ∧ b 1 % 128 = r.node ∧ b 2 / 64 = (if r.cls = 0 then 1 else 2) ∧ b 2 / 4 % 16 = r.seq then
    if b 5 = 0 then (if b 3 % 128 ≤ r.rmax then .answer else .long)
    else if b 3 % 128 = 0 then .nak else .no
  else .no

/-- Are the characters, the end and the length of a frame as R391 asks? -/
def frWhole (f : FrFrame) : Bool :=
  let len := (f.bytes.getD 3 0).toNat
  f.good && decide (10 ≤ f.bytes.length) && decide (len ≤ 64) && f.bytes.length == 10 + len &&
    decide ((f.bytes.getD 4 0).toNat < 128)

/-- Does the CRC of a whole frame match? -/
def frCrcOk (f : FrFrame) : Bool :=
  let n := f.bytes.length - 4
  leBytes 4 (crc32 (f.bytes.take n)).toNat == f.bytes.drop n

/-- alm of an accepted answer, of completion `d` (R400). -/
def State.frAlarm (s : State) (p k : Nat) (d : FrDone) : State :=
  if !d.alm then s.set (aPT_MAP k) PT_MAP.alm_seen 0
  else if s.on (aPT_MAP k) PT_MAP.alm_seen then s
  else
    let r := (s.set (aPT_MAP k) PT_MAP.alm_seen 1).frPut p (4 * k + 3)
      [FrDone.word0 { d with tag := 0, payload := [] } 0 false, d.stamp, 0, 0]
    if r.2 then r.1.frEvent p 2 else r.1

/-- Request `r`, answered by a valid frame, completes (R394, R400). -/
def State.frAnswer (s : State) (p : Nat) (f : FrFrame) (r : FrReq) (m : FrMatch) : State :=
  let x := s.frPort p
  let t := s.setFrPort p { x with outs := x.outs.erase r }
  let cls := if r.cls = 0 then 1 else 2
  let alm := (f.bytes.getD 2 0).getLsbD 0
  let stamp : Word := f.sof.setWidth 32
  let d : FrDone := { status := 0, tag := r.tag, seq := r.seq, late := r.late, retried := decide (0 < r.tries), stamp := stamp }
  let t := match m with
    | .answer => (t.frComplete p r.partner cls { d with
        alm := alm, payload := (f.bytes.drop 6).take (f.bytes.length - 10) }).frAlarm p r.partner { d with alm := alm }
    | .nak => t.frComplete p r.partner cls { d with status := 1, alm := alm, rsts := some (f.bytes.getD 5 0) }
    | .long => t.frComplete p r.partner cls { d with
        status := 7, alm := alm, payload := (f.bytes.drop 6).take (f.bytes.length - 10) }
    | .back => t.frComplete p r.partner cls { d with status := 4, stamp := s.tbLo }
    | .no => t
  t.frEnumReady p

/-- A valid frame: the oldest request that it matches is judged; the older ones fail with a timeout. -/
def State.frValid (s : State) (p : Nat) (f : FrFrame) : State :=
  let outs := (s.frPort p).outs
  match outs.find? (fun r => frMatch f.bytes r != .no) with
  | none => s.incSat (aFR_ERRCNT p) FR_ERRCNT.stray
  | some r =>
    let older := outs.takeWhile (fun o => o != r)
    (older.foldl (fun t o => t.frError p o 2) s).frAnswer p f r (frMatch f.bytes r)

/-- A frame that is not valid is counted, and fails the oldest request. -/
def State.frInvalid (s : State) (p : Nat) (fld : Fld) : State :=
  let t := s.incSat (aFR_ERRCNT p) fld
  match (t.frPort p).outs with
  | r :: _ => t.frError p r 3
  | [] => t

/-- FR_FRAME_RECEIVED. -/
def execFrFrameReceived (p : Fin 48) (f : FrFrame) (s : State) : Host.Outcome State Fault Refusal :=
  .next (if s.frState p = frOFF then s
  else if !frWhole f then s.frInvalid p FR_ERRCNT.code_err
  else if !frCrcOk f then s.frInvalid p FR_ERRCNT.crc_err
  else s.frValid p f)

/-- FR_TIMEOUT: the oldest request whose limit has passed times out (R395). -/
def execFrTimeout (p : Fin 48) (s : State) : Host.Outcome State Fault Refusal :=
  let limit (r : FrReq) : Nat := r.te + s.get (aFR_RING p) FR_RING.dr + s.frTans r.partner + 400
  .next (match (s.frPort p).outs.find? (fun r => decide (limit r ≤ s.tb)) with
    | some r => s.frError p r 2
    | none => s)

end Sys2Proof.Machine
end

