-- ==== Sys2Proof/Machine/Swimlink.lean ====
section
/-!
DEFINITION. Swimlink ports, events across the link, time alignment, heartbeats and ownership, queue forwarding
(16_swimlink.md); the memory requests of other devices are in Remote.
-/

namespace Sys2Proof.Machine

/-- The codes of R418. -/
def swlDOWN : Nat := 0
def swlTRAIN : Nat := 1
def swlALIGN : Nat := 2
def swlIDENT : Nat := 3
def swlUP : Nat := 4

def State.swlState (s : State) (l : Nat) : Nat := s.get (aSWL_STATUS l) SWL_STATUS.state
def State.setSwlState (s : State) (l st : Nat) : State := s.set (aSWL_STATUS l) SWL_STATUS.state st

/-- Is port `l` enabled and READY, in a released island? -/
def State.swlOn (s : State) (l : Nat) : Bool := s.alive islLNK && s.isReady 19 l && s.on (aSWL_CFG l) SWL_CFG.en

/-! ### Link loss (R418, R419, R436) -/

/-- The port this device takes its time from. -/
def State.parentPort (s : State) : Nat := s.swl.parent.getD (s.get aSWL_TM SWL_TM.parent_port)

/-- The parent port has left UP: a joined device enters holdover and turns to its second parent port (R436). -/
def State.holdover (s : State) (l : Nat) : State :=
  if s.on aSWL_TMSTAT SWL_TMSTAT.joined && s.parentPort == l then
    { s.set aSWL_TMSTAT SWL_TMSTAT.holdover 1 with swl := { s.swl with
        holdAt := if s.swl.holdAt.isSome then s.swl.holdAt else some s.tb, parent := some (s.get aSWL_TM SWL_TM.alt_port),
        offs := [] } }
  else s

/-- An entry of SWL_QFWD keeps its record after a fault or the loss of its link: it goes again when its route is UP (R430). -/
def State.fwdFail (s : State) (k l : Nat) : State :=
  { s.set (aSWL_STATUS l) SWL_STATUS.fwd_err 1 with swl := { s.swl with fwd := sput none k (some (s.tb, false)) s.swl.fwd } }

/-- A remote request that waits on port `l` ends with an error. -/
def State.lose (s : State) (l : Nat) (o : SwlOut) : State :=
  let t := s.endRemote o true 0
  match o.who with
  | .qfwd k => t.fwdFail k l
  | _ => t

/-- Exports are discarded, requests that wait on the port end with errors, and packets held for forwarding are dropped
(R419); this device's own answers still wait. -/
def State.dropTraffic (s : State) (l : Nat) : State :=
  let t := (s.swl.outs.filter (fun o => o.port == l)).foldl (fun u o => u.lose l o) s
  let t := { t with swl := { t.swl with exportsSent := t.swl.exportsSent.filter (fun x => x.1 != l) } }
  t.setSwlPort l { t.swlPort l with waiting := (t.swlPort l).waiting.filter (fun p => p.src == s.devaddr && pktClass p.type != 0) }

/-- The port goes DOWN from any state. -/
def State.swlDown (s : State) (l : Nat) : State :=
  let t := (s.dropTraffic l).setSwlPort l { downAt := s.tb }
  (if s.swlUp l then t.holdover l else t).setSwlState l swlDOWN

/-- What a write to SWL_CFG does. -/
def State.swlCfg (s : State) (l : Nat) (w : Word) : State :=
  let was := s.on (aSWL_CFG l) SWL_CFG.en
  let t := s.storeDirect (aSWL_CFG l) fSWL_CFG w
  let now := t.on (aSWL_CFG l) SWL_CFG.en
  if was && !now then t.swlDown l
  else if !was && now then t.setSwlPort l { t.swlPort l with downAt := s.tb } else t

/-- A write to SWL_CFG. -/
def wrSwlCfg (q : Req) (l : Nat) (w : Word) (s : State) : State := s.write q islLNK 1 (fun t => t.swlCfg l w)

/-- SWL_CFG_EN_WRITE. -/
def execSwlCfgEnWrite (q : Req) (l : Fin 8) (w : Word) (s : State) : Host.Outcome State Fault Refusal :=
  .next (s.crossTo q true (aSWL_CFG l) w (wrSwlCfg q l w))

/-- SWL_TRAIN_START: an enabled port has been DOWN for 10 µs. -/
def execSwlTrainStart (l : Fin 8) (s : State) : Host.Outcome State Fault Refusal :=
  .next (if s.swlOn l && s.swlState l == swlDOWN && decide ((s.swlPort l).downAt + 10000 ≤ s.tb) then s.setSwlState l swlTRAIN
  else s)

/-- The port's IDENT packet (R421). Its dst, which the spec does not name, is 0 (log 48). -/
def State.identPkt (s : State) (l : Nat) : Pkt :=
  s.ownPkt 9 0 0 (Config.msgBytes (.ident
    { dev := BitVec.ofNat 3 s.devaddr, port := BitVec.ofNat 3 l
      depth := BitVec.ofNat 3 (s.get aSWL_DEV SWL_DEV.depth)
      tandem := BitVec.ofNat 8 (s.get aSWL_DEV SWL_DEV.tandem_id) }))

/-- The lanes of port `l` are aligned: it sends its IDENT packet (R418, R421). -/
def State.swlAligned (s : State) (l : Nat) : State :=
  (s.setSwlState l swlIDENT).setSwlPort l { (s.swlPort l).transmit s.tb (s.identPkt l) with blockAt := s.tb }

/-- SWL_BLOCK_LOCK: a lane gains block lock; with both locked the port aligns. `skew` is how many blocks the lane numbers of IDLE show
one lane behind the other, once they do; up to 4 are deskewed at once (DESIGN CHOICE, log 48). -/
def execSwlBlockLock (l : Fin 8) (lane : Fin 2) (skew : Option Nat) (s : State) : Host.Outcome State Fault Refusal :=
  let x := s.swlPort l
  let y := if lane = 0 then { x with lock0 := true } else { x with lock1 := true }
  let both := y.lock0 && y.lock1
  let t := s.setSwlPort l (if both then { y with unlockAt := none } else y)
  .next (if s.swlState l = swlDOWN then s
  else if both ∧ (s.swlState l = swlTRAIN ∨ s.swlState l = swlALIGN) then
    (if skew.any (fun n => decide (n ≤ 4)) then t.swlAligned l else t.setSwlState l swlALIGN)
  else t)

/-- BLOCK_LOCK_LOST. -/
def execBlockLockLost (l : Fin 8) (lane : Fin 2) (s : State) : Host.Outcome State Fault Refusal :=
  let x := s.swlPort l
  let y := if lane = 0 then { x with lock0 := false } else { x with lock1 := false }
  let t := s.setSwlPort l { y with unlockAt := if x.unlockAt.isSome then x.unlockAt else some s.tb }
  .next (if s.swlState l = swlDOWN then s else t.dropTraffic l)

/-- Has port `l` failed as `f` says: a lane without block lock for 1 µs, no valid block for 8 µs, or a packet sent 4 times without
acknowledgement (R419)? -/
def State.swlFailed (s : State) (l : Nat) (f : SwlFail) : Bool :=
  let x := s.swlPort l
  match f with
  | .lock => x.unlockAt.any (fun t => decide (t + 1000 ≤ s.tb))
  | .silence => decide (x.blockAt + 8000 ≤ s.tb)
  | .resends => x.replay.any (fun e => decide (4 ≤ e.2.2))

/-- SWL_LINK_FAIL. -/
def execSwlLinkFail (l : Fin 8) (f : SwlFail) (s : State) : Host.Outcome State Fault Refusal :=
  .next (if (s.swlState l = swlIDENT ∨ s.swlState l = swlUP) ∧ s.swlFailed l f = true then
    (s.swlDown l).set (aSWL_STATUS l) SWL_STATUS.link_fail 1 else s)

/-! ### Packets and blocks that arrive (R417, R421 to R425) -/

/-- Port `l` sends a credit block: it acknowledges the packets before the next one that it expects (R423). -/
def State.sendCrd (s : State) (l : Nat) (nak : Bool) (reqCr rspCr : BitVec 8) : State :=
  let x := s.swlPort l
  s.setSwlPort l { x.put s.tb [crdBlk (BitVec.ofNat 8 (x.rxSeq + 255)) nak reqCr rspCr] with nakDue := nak, blockAt := s.tb }

/-- A packet is discarded and answered with a nak (R422, R423). -/
def State.nakPkt (s : State) (l : Nat) : State := s.sendCrd l true 0 0

/-- A packet with a bad CRC. -/
def State.badCrc (s : State) (l : Nat) : State := (s.incSat (aSWL_ERRCNT l) SWL_ERRCNT.crc_err).nakPkt l

/-- The next packet in order has arrived on port `l`: it is acknowledged, and its credit returns at once (DESIGN CHOICE, log 48). -/
def State.goodPkt (s : State) (l : Nat) (p : SwlPkt) : State :=
  let x := s.swlPort l
  let c := pktClass (pktType p)
  (s.setSwlPort l { x with rxSeq := (x.rxSeq + 1) % 256 }).sendCrd l false (if c = 0 then 1 else 0) (if c = 1 then 1 else 0)

/-- A packet out of order: one that has arrived before is acknowledged again, and the first after a gap is answered with a nak
(R423; DEDUCED, log 48). -/
def State.strayPkt (s : State) (l : Nat) (seq : Nat) : State :=
  let x := s.swlPort l
  if (x.rxSeq + 256 - seq) % 256 ≤ 64 then s.sendCrd l false 0 0
  else if x.nakDue then s else s.nakPkt l

/-- A packet that command type `type` brings to port `l`. -/
def State.takePkt (s : State) (l type : Nat) (p : SwlPkt) (act : State → State) : State :=
  if !pktCrcOk p then s.badCrc l
  else if pktSeq p ≠ (s.swlPort l).rxSeq then s.strayPkt l (pktSeq p)
  else if !pktCodesOk p then s.nakPkt l
  else if pktType p ≠ type then s
  else act (s.goodPkt l p)

/-- SWL_IDENT: an IDENT packet arrives at a port whose lanes are aligned. -/
def execSwlIdent (l : Fin 8) (p : SwlPkt) (m : SwlIdent) (s : State) : Host.Outcome State Fault Refusal :=
  let a := aSWL_STATUS l
  .next (if s.swlState l ≠ swlIDENT then s
  else s.takePkt l 9 p (fun s =>
    let dup := decide (m.dev.toNat = s.devaddr)
    let bad := decide (m.tandem.toNat ≠ s.get aSWL_DEV SWL_DEV.tandem_id)
    if dup || bad then (s.flagIf dup a SWL_STATUS.dup_addr).flagIf bad a SWL_STATUS.id_err
    else
      (((s.set a SWL_STATUS.peer_dev m.dev.toNat).set a SWL_STATUS.peer_port m.port.toNat).set a
        SWL_STATUS.peer_depth m.depth.toNat).setSwlState l swlUP))

/-- Drop the packets up to link sequence `n` from a replay buffer that holds it. -/
def ackTo (n : Nat) (l : List (Nat × Pkt × Nat)) : List (Nat × Pkt × Nat) :=
  if l.any (fun x => x.1 == n) then (l.dropWhile (fun x => x.1 != n)).drop 1 else l

/-- A control block arrives on port `l` (R417): one that the port does not know is counted; `act` is what one of its kind does. -/
def State.takeBlk (s : State) (l : Nat) (b : SwlBlk) (act : State → State) : State :=
  if blkBad b then s.incSat (aSWL_ERRCNT l) SWL_ERRCNT.bad_blk
  else act (s.setSwlPort l { s.swlPort l with blockAt := s.tb })

/-- Packets of port `l` that wait go out as far as credits allow; the time of a request counts from when it leaves (R428). -/
def State.drainPort (s : State) (l : Nat) : State :=
  let x := s.swlPort l
  let y := { x with waiting := [] }.drain s.tb x.waiting
  let gone := (x.waiting.filter (fun p => p.src == s.devaddr && pktClass p.type == 0 && !y.waiting.contains p)).map (·.tag)
  let t := s.setSwlPort l y
  { t with swl := { t.swl with outs := t.swl.outs.map (fun o =>
      if o.port == l && o.left.isNone && gone.contains o.tag then { o with left := some s.tb } else o) } }

/-- What a credit block does: packets are acknowledged, credits come back, and a nak has every packet after the acknowledged one sent
again. -/
def State.swlCrd (s : State) (l : Nat) (b : SwlBlk) : State :=
  let x := s.swlPort l
  let r := ackTo (crdAck b) x.replay
  let y := { x with replay := r, reqCr := min 32 (x.reqCr + crdReq b), rspCr := min 32 (x.rspCr + crdRsp b) }
  let t := if crdNak b then s.set (aSWL_ERRCNT l) SWL_ERRCNT.resends
    (min 65535 (s.get (aSWL_ERRCNT l) SWL_ERRCNT.resends + r.length)) else s
  (t.setSwlPort l (if crdNak b then y.resend s.tb r else y)).drainPort l

/-- SWL_CRD. -/
def execSwlCrd (l : Fin 8) (b : SwlBlk) (s : State) : Host.Outcome State Fault Refusal :=
  .next (if s.swlState l = swlIDENT ∨ s.swlState l = swlUP then s.takeBlk l b (fun t => if blkIs b 0x55 then t.swlCrd l b else t) else s)

/-- Forward a packet for another device (R424, R425): a request that cannot go on is answered with ERRRSP. -/
def State.forward (s : State) (p : Pkt) : State :=
  match s.send p with
  | (t, some _) => t
  | (t, none) => if pktClass p.type = 0 then t.answer 10 p.src p.tag [] else t

/-- A packet of type `type` arrives on port `l`, which is UP: it is forwarded if it is for another device, or served. -/
def State.arrivePkt (s : State) (l type : Nat) (p : SwlPkt) (serve : State → State) : State :=
  if !s.swlUp l then s
  else s.takePkt l type p (fun t => if pktDst p ≠ t.devaddr then t.forward (pktOn p) else serve t)

/-- SHARED_COMMIT_MESSAGE: a CMT packet arrives; the message is for group `m.g` and comes from the packet's source. -/
def execSharedCommitMessage (l : Fin 8) (p : SwlPkt) (m : SwlCmt) (s : State) : Host.Outcome State Fault Refusal :=
  fin s (s.arrivePkt l 7 p (fun t =>
    t.takeCmt m.g { dev := pktSrc p, t := m.t.toNat, crc := m.crc, ta := m.ta.toNat, ovf := m.ovf }))

/-! ### Events across the link (R431, R432) -/

/-- The tick that a 24-bit stamp names: the latest at or before now, in the sender's and this device's common TB. -/
def State.stampTick (s : State) (st : Nat) : Nat := s.tb - (s.tb + 2 ^ 24 - st) % 2 ^ 24

/-- The imports of an event block fire 40 ns after its stamp; while the two devices do not share a timebase, 40 ns after the export, which
lies as far back as the link has been measured to take (R119, R431). `joined` says whether the device at the far end has joined. -/
def State.takeEvt (s : State) (l : Nat) (joined : Bool) (b : SwlBlk) : State :=
  let at_ := if s.inTandem && joined then s.stampTick (evtStamp b) + 40 else s.tb + 40 - min 32 (Config.linkDelay l)
  if at_ < s.tb then s.set (aSWL_STATUS l) SWL_STATUS.ev_lost 1
  else s.setSwlPort l { s.swlPort l with imports := (s.swlPort l).imports ++
    ((List.range 32).filter (evtHas b)).map (fun i => (i + (if blkIs b 0x33 then 32 else 0), at_)) }

/-- Is this a good copy of an event block? -/
def evtGood (b : SwlBlk) : Bool := blkIs b 0x2D || blkIs b 0x33

/-- SWL_EVT_BLOCK: the copies of an event block arrive, `a` first; the first good one counts (R432). `joined` says whether the device at the
far end shares the timebase. -/
def execSwlEvtBlock (l : Fin 8) (a b : SwlBlk) (joined : Bool) (s : State) : Host.Outcome State Fault Refusal :=
  .next (if !s.swlUp l then s
  else
    let t := (s.takeBlk l a id).takeBlk l b id
    if evtGood a then t.takeEvt l joined a else if evtGood b then t.takeEvt l joined b else t.set (aSWL_STATUS l) SWL_STATUS.ev_lost 1)

/-- SWL_IMPORT_FIRE: import `ev` of port `l` fires at its tick, or at the first one after a step that passed it (R48). -/
def execSwlImportFire (l : Fin 8) (ev : Fin 64) (s : State) : Host.Outcome State Fault Refusal :=
  let x := s.swlPort l
  .next (match x.imports.find? (fun e => e.1 == ev.val && decide (s.dueTick e.2 ≤ s.tb)) with
    | some e =>
      let t := s.setSwlPort l { x with imports := x.imports.erase e }
      if s.swlUp l then t.fireAt (1312 + 64 * l + ev) (s.dueTick e.2) else t
    | none => s)

/-! ### Time alignment (R434 to R436, R49, R50) -/

/-- Is this device the time master? -/
def State.isMaster (s : State) : Bool := s.timeMaster == s.devaddr

/-- From `s` to `t` the device may have joined or left the shared timebase: the members of shared stagger groups follow (R295). -/
def State.tandem (s t : State) : State := if s.inTandem = t.inTandem then t else t.sharedChanged t.tb

/-- How far stamp `a` lies after stamp `b`, in fine steps. -/
def stampDiff (a b : BitVec 48) : Int := (a - b).toInt

/-- An exchange with the neighbour on the parent port: half the difference of its stamps, less the trace asymmetry, in fine steps. The
spec does not say how a half step is rounded. -/
def State.tsyncAsk (s : State) (l : Nat) (seq : BitVec 7) (t1 t2 t3 t4 : BitVec 48) : State :=
  let joined := s.on aSWL_TMSTAT SWL_TMSTAT.joined && !s.on aSWL_TMSTAT SWL_TMSTAT.holdover
  let w := s.freeWord
  let d := (stampDiff t2 t1 - stampDiff t4 t3 + (w.1.toNat % 2 : Nat)) / 2 - signed 8 (s.get (aSWL_CFG l) SWL_CFG.asym)
  let t := w.2.setSwlPort l { (s.swlPort l).put s.tb [tsyncBlk false seq t1] with blockAt := s.tb }
  { t.set aSWL_TMSTAT SWL_TMSTAT.offset (d % 65536).toNat with swl := { t.swl with
      offs := if joined then [] else d :: t.swl.offs.take 15, exchAt := s.tb } }

/-- Does the device measure its offset on port `l` now: it is not the master, `l` is its parent port, and an interval has passed? -/
def State.tsyncDue (s : State) (l : Nat) : Bool :=
  let joined := s.on aSWL_TMSTAT SWL_TMSTAT.joined && !s.on aSWL_TMSTAT SWL_TMSTAT.holdover
  s.on aSWL_TM SWL_TM.tm_en && !s.isMaster && s.parentPort == l && (!joined || decide (s.swl.exchAt + 65536 ≤ s.tb))

/-- TSYNC_EXCHANGE: an exchange with the neighbour on port `l`, which this device asked for, or answers. -/
def execTsyncExchange (l : Fin 8) (x : SwlTsync) (s : State) : Host.Outcome State Fault Refusal :=
  .next (if !s.swlUp l then s
  else match x with
    | .ask seq t1 t2 t3 t4 => if s.tsyncDue l then s.tsyncAsk l seq t1 t2 t3 t4 else s
    | .answer seq stamp => s.setSwlPort l { (s.swlPort l).put s.tb [tsyncBlk true seq stamp] with blockAt := s.tb })

/-- The value that TB is to have by the average of the last 16 exchanges, of which less than 1 ns is left to slewing (R49, R435). A stamp
has no bits of TB above bit 40, and the spec does not say where a joining device takes them from: they are those of `masterTb`, of the
values that the average allows the nearest to it (DESIGN CHOICE, log 48). -/
def State.joinTb (s : State) (masterTb : Nat) : Nat :=
  let v : Int := s.tb + ((s.swl.offs.take 16).sum / 16).tdiv 128
  let d : Int := (v - masterTb) % (2 ^ 41 : Nat)
  (masterTb + (if d < (2 ^ 40 : Nat) then d else d - (2 ^ 41 : Nat))).toNat

/-- The device joins at the master's TB: a step forward passes the ticks between (R48, R50). -/
def State.joinAt (s : State) (tb : Nat) : State :=
  let t := ((s.set aTB_STATUS TB_STATUS.tb_ahead 0).set aSWL_TMSTAT SWL_TMSTAT.joined 1).set aSWL_TMSTAT SWL_TMSTAT.holdover 0
  let t := { t with swl := { t.swl with holdAt := none, exchAt := tb } }
  if tb = s.tb then t
  else
    let t := (List.range 64).foldl (fun u n => u.stepSlice (tb - s.tb) n) t
    let t := { t with tb := tb, time := { t.time with steps := t.time.steps ++ [(s.tb, tb)] } }
    (t.set aTB_STATUS TB_STATUS.stepped 1).setReg aTB_STEP (BitVec.ofNat 32 (min (tb - s.tb) 0xFFFFFFFF))

/-- The device's TB is ahead of the master's: it stays out of the shared timebase, or leaves it, until it joins (R50). -/
def State.stayOut (s : State) : State :=
  { ((s.set aTB_STATUS TB_STATUS.tb_ahead 1).set aSWL_TMSTAT SWL_TMSTAT.joined 0).set aSWL_TMSTAT SWL_TMSTAT.holdover 0 with
    swl := { s.swl with holdAt := none } }

/-- TIMEBASE_JOIN: after 16 exchanges with a parent that has joined or is the master (`parentIn`), the device joins; TB steps forward to
the master's value, or the device stays out while its TB is ahead (R49, R50, R435). -/
def execTimebaseJoin (masterTb : BitVec 64) (parentIn : Bool) (s : State) : Host.Outcome State Fault Refusal :=
  fin s (if !(s.on aSWL_TM SWL_TM.tm_en && !s.isMaster && s.swlUp s.parentPort && parentIn && decide (16 ≤ s.swl.offs.length)) then s
  else
    let t := { s with swl := { s.swl with offs := [] } }
    s.tandem (if s.joinTb masterTb.toNat < s.tb then t.stayOut else t.joinAt (s.joinTb masterTb.toNat)))

/-- HOLDOVER_EXPIRY: 10 ms of holdover without rejoining. -/
def execHoldoverExpiry (s : State) : Host.Outcome State Fault Refusal :=
  fin s (match s.swl.holdAt with
    | some t =>
      if t + 10000000 ≤ s.tb then
        s.tandem { (s.set aSWL_TMSTAT SWL_TMSTAT.joined 0).set aSWL_TMSTAT SWL_TMSTAT.holdover 0 with
          swl := { s.swl with holdAt := none, offs := [] } }
      else s
    | none => s)

/-- TBSYNC_LOST: the PLL switches to REFCLK with TB continuous. -/
def execTbsyncLost (s : State) : Host.Outcome State Fault Refusal :=
  .next (if s.alive islLNK && s.on aSWL_TM SWL_TM.tbsync_en then
    { s.set aSWL_TMSTAT SWL_TMSTAT.tbsync_lost 1 with swl := { s.swl with syncLost := true } }
  else s)

/-- What a write to SWL_TM does: a new time master is heard from now on. -/
def State.tmWrite (s : State) (w : Word) : State :=
  let t := s.storeDirect aSWL_TM fSWL_TM w
  { t with swl := { t.swl with
      master := none, parent := none, syncLost := t.swl.syncLost && getBits w SWL_TM.tbsync_en == 1
      masterAt := if s.on aSWL_TM SWL_TM.tm_en && s.timeMaster == t.get aSWL_TM SWL_TM.master then t.swl.masterAt else t.tb } }

/-- A write to SWL_TM. -/
def wrSwlTm (q : Req) (w : Word) (s : State) : State := settle s (s.tandem (s.write q islLNK 1 (fun t => t.tmWrite w)))

/-! ### Heartbeats and ownership (R438 to R442) -/

/-- Has a heartbeat of device `d` arrived in the last 6,600 ns? -/
def State.hears (s : State) (d : Nat) : Bool := match sget none s.swl.hbFrom d with
  | some t => decide (s.tb < t + 6600)
  | none => false

/-- Are the time master's heartbeats lost: none for 6,600 ns, nor since it became the master (R436, R438)? -/
def State.masterLost (s : State) : Bool := !s.hears s.timeMaster && decide (s.swl.masterAt + 6600 ≤ s.tb)

/-- Device `d` is the time master from now on; one that becomes it has no parent to wait for. -/
def State.newMaster (s : State) (d : Nat) : State :=
  let t := { s with swl := { s.swl with master := some d, masterAt := s.tb } }
  if d = s.devaddr then { t.set aSWL_TMSTAT SWL_TMSTAT.holdover 0 with swl := { t.swl with holdAt := none, parent := none, offs := [] } }
  else { t with swl := { t.swl with parent := some (s.get (aSWL_ROUTE d) SWL_ROUTE.port) } }

/-- MASTER_LOST: the time master's heartbeats are lost; the lowest device still up takes over if it is this one and it has
backup_tm, and otherwise becomes the parent (R436). -/
def execMasterLost (s : State) : Host.Outcome State Fault Refusal :=
  let up := (List.range 8).filter (fun d => d == s.devaddr || s.hears d)
  let low := up.foldl min 8
  fin s (if s.alive islLNK && s.on aSWL_TM SWL_TM.tm_en && !s.isMaster && s.masterLost then
    (if low = s.devaddr then (if s.on aSWL_TM SWL_TM.backup_tm then s.tandem (s.newMaster low) else s) else s.newMaster low)
  else s)

/-- The partner device. -/
def State.pairDev (s : State) : Nat := s.get aSWL_PAIR SWL_PAIR.partner

/-- Is this device the one that the board prefers? -/
def State.isPrio (s : State) : Bool := s.get aSWL_PAIR SWL_PAIR.prio == s.devaddr

/-- Note since when neither device has own = 1, as far as this device sees. -/
def State.ownWatch (s : State) : State :=
  let none_ := !s.on aSWL_OWN SWL_OWN.own && !s.swl.partnerOwn && s.hears s.pairDev
  { s with swl := { s.swl with noOwnAt := if none_ then (if s.swl.noOwnAt.isSome then s.swl.noOwnAt else some s.tb) else none } }

/-- own changes (R440). -/
def State.setOwn (s : State) (b : Bool) : State :=
  if s.on aSWL_OWN SWL_OWN.own = b then s else ((s.setB aSWL_OWN SWL_OWN.own b).fire 1896).ownWatch

/-- Is OWNERn asserted (R439)? -/
def State.ownerBall (s : State) : Bool := s.on aSWL_OWN SWL_OWN.own && s.mode != .reset

/-- Does the partner of an owner accept a planned handoff: it shares the timebase and has takeover = 1 (R442)? -/
def State.mayAccept (s : State) : Bool := s.inTandem && s.on aSWL_PAIR SWL_PAIR.takeover

/-- HB_SEND: a heartbeat goes out on every UP port. An owner that has seen its handoff echoed sends go (R442). -/
def execHbSend (s : State) : Host.Outcome State Fault Refusal :=
  .next (if s.alive islLNK && decide (s.swl.hbSent + 2000 ≤ s.tb) then
    let h := match s.swl.hand with
      | some x => some (if x.owner && x.echoed && x.goAt.isNone then { x with goAt := some s.tb } else x)
      | none => none
    let hb : SwlHb := { dev := BitVec.ofNat 3 s.devaddr, own := s.on aSWL_OWN SWL_OWN.own, mode := BitVec.ofNat 4 s.shownMode,
                        count := BitVec.ofNat 16 s.swl.hbCount, handT := h.map (fun x => BitVec.ofNat 64 x.t),
                        accepted := (h.map (fun x => !x.owner && s.mayAccept)).getD false,
                        go := (h.map (fun x => x.owner && x.goAt.isSome)).getD false }
    let pkt (l : Nat) : Pkt := s.ownPkt 6 (s.get (aSWL_STATUS l) SWL_STATUS.peer_dev) 0 (Config.msgBytes (.hb hb))
    let t := { s with swl := { s.swl with hand := h, hbOut := some hb, hbSent := s.tb, hbCount := (s.swl.hbCount + 1) % 65536 } }
    (List.range 8).foldl (fun u l => if u.swlUp l then u.sendOn l (pkt l) else u) t
  else s)

/-- What the handoff fields of the partner's heartbeat do (R442): a partner takes up the T of the owner's latest handoff. -/
def State.handHb (s : State) (p : SwlHb) : State :=
  let set_ (h : Option Hand) : State := { s with swl := { s.swl with hand := h } }
  match s.swl.hand with
  | some x =>
    if x.owner then (if p.accepted && p.handT == some (BitVec.ofNat 64 x.t) then set_ (some { x with echoed := true }) else s)
    else match p.handT with
      | some t =>
        if p.accepted then s
        else if t.toNat = x.t then (if p.go && x.goAt.isNone then set_ (some { x with goAt := some s.tb }) else s)
        else if s.mayAccept && decide (s.tb < t.toNat) then
          set_ (some { t := t.toNat, owner := false, goAt := if p.go then some s.tb else none })
        else s
      | none => s
  | none => match p.handT with
    | some t =>
      if !p.accepted && s.mayAccept && decide (s.tb < t.toNat) then
        set_ (some { t := t.toNat, owner := false, goAt := if p.go then some s.tb else none })
      else s
    | none => s

/-- SWL_HB. -/
def execSwlHb (l : Fin 8) (p : SwlPkt) (m : SwlHb) (s : State) : Host.Outcome State Fault Refusal :=
  fin s (s.arrivePkt l 6 p (fun t =>
    let t := { t with swl := { t.swl with hbFrom := sput none m.dev.toNat (some s.tb) t.swl.hbFrom } }
    if m.dev.toNat = s.pairDev then
      (({ t.set aSWL_OWN SWL_OWN.lost 0 with swl := { t.swl with partnerOwn := m.own } }).handHb m).ownWatch
    else t))

/-- The tick from which the partner's silence counts. -/
def State.heardAt (s : State) : Nat := max s.swl.pairAt ((sget none s.swl.hbFrom s.pairDev).getD 0)

/-- A lost partner whose place this device takes: as its partner becomes lost, or as the settings come to say so (R440). -/
def State.takeOver (s : State) : State :=
  if s.on aSWL_OWN SWL_OWN.lost && s.on aSWL_PAIR SWL_PAIR.takeover && (s.isPrio || !s.on aSWL_PAIR SWL_PAIR.sense_en) then s.setOwn true
  else s

/-- PARTNER_LOST: no heartbeat from the partner for 6,600 ns (R438, R440). -/
def execPartnerLost (s : State) : Host.Outcome State Fault Refusal :=
  fin s (if s.alive islLNK && s.pairDev != s.devaddr && !s.on aSWL_OWN SWL_OWN.lost && decide (s.heardAt + 6600 ≤ s.tb) then
    (((s.set aSWL_OWN SWL_OWN.lost 1).set aSWL_OWN SWL_OWN.partner_lost 1).ownWatch).takeOver
  else s)

/-- OWNER_SENSE: the sensed OWNERn of the partner has been at `level` (low is asserted) for 1 µs (R440). -/
def execOwnerSense (level : Bool) (s : State) : Host.Outcome State Fault Refusal :=
  let g := s.get aSWL_PAIR SWL_PAIR.sense_gpio
  fin s (if s.alive islLNK && s.on aSWL_PAIR SWL_PAIR.sense_en && s.on (aGPIO_CFG g) GPIO_CFG.in_ == level &&
      decide (s.swl.senseAt + 1000 ≤ s.tb) && !s.isPrio then
    (if level then
      (if s.on aSWL_PAIR SWL_PAIR.takeover && s.on aSWL_OWN SWL_OWN.lost then s.setOwn true else s)
     else if s.on aSWL_OWN SWL_OWN.own then (s.setOwn false).set aSWL_OWN SWL_OWN.displaced 1 else s)
  else s)

/-- NO_OWNER_TIMEOUT: neither device has owned for 4,000 ns (R440). -/
def execNoOwnerTimeout (s : State) : Host.Outcome State Fault Refusal :=
  fin s (match s.swl.noOwnAt with
    | some t => if t + 4000 ≤ s.tb ∧ s.isPrio = true ∧ s.alive islLNK = true then s.setOwn true else s
    | none => s)

/-- What a write to SWL_OWN does; claim, yield and handoff act for ring 0 only. -/
def State.ownWrite (s : State) (w : Word) (ring : Nat) : State :=
  let t := s.storeDirect aSWL_OWN fSWL_OWN w
  if ring ≠ 0 then t
  else
    let t := if getBits w SWL_OWN.claim = 1 then t.setOwn true else t
    let t := if getBits w SWL_OWN.yield = 1 then t.setOwn false else t
    if getBits w SWL_OWN.handoff = 1 && t.on aSWL_OWN SWL_OWN.own then
      { t with swl := { t.swl with hand := some { t := t.get64 aSWL_HAND_LO aSWL_HAND_HI, owner := true } } }
    else t

/-- A write to SWL_OWN. -/
def wrSwlOwn (q : Req) (w : Word) (s : State) : State := settle s (s.write q islLNK 1 (fun t => t.ownWrite w (s.ringOf q)))

/-- SWL_CLAIM. -/
def execSwlClaim (q : Req) (w : Word) (s : State) : Host.Outcome State Fault Refusal := .next (s.crossTo q true aSWL_OWN w (wrSwlOwn q w))

/-- SWL_YIELD. -/
def execSwlYield (q : Req) (w : Word) (s : State) : Host.Outcome State Fault Refusal := .next (s.crossTo q true aSWL_OWN w (wrSwlOwn q w))

/-- SWL_HANDOFF. -/
def execSwlHandoff (q : Req) (w : Word) (s : State) : Host.Outcome State Fault Refusal := .next (s.crossTo q true aSWL_OWN w (wrSwlOwn q w))

/-- HANDOFF_TICK: tick T has come, or a step has passed it (R48). -/
def execHandoffTick (s : State) : Host.Outcome State Fault Refusal :=
  fin s (match s.swl.hand with
    | some x =>
      if s.tb < s.dueTick x.t then s
      else
        let t := { s with swl := { s.swl with hand := none } }
        let ok := match x.goAt with
          | some g => if x.owner then decide (g + 2000 < x.t) else decide (g + 500 < x.t)
          | none => false
        if ok then t.setOwn (!x.owner) else t.set aSWL_OWN SWL_OWN.hand_fail 1
    | none => s)

/-- What a write to SWL_PAIR does: a new partner is not lost, and is heard from now on; what makes this device take over a lost partner may
come to hold with it (R440; DEDUCED, log 48). -/
def State.pairWrite (s : State) (w : Word) : State :=
  let t := s.storeDirect aSWL_PAIR fSWL_PAIR w
  let t := if s.get aSWL_PAIR SWL_PAIR.sense_gpio = t.get aSWL_PAIR SWL_PAIR.sense_gpio ∧
      s.on aSWL_PAIR SWL_PAIR.sense_en = t.on aSWL_PAIR SWL_PAIR.sense_en then t
    else { t with swl := { t.swl with senseAt := t.tb } }
  if t.pairDev = s.pairDev then t.takeOver
  else { t.set aSWL_OWN SWL_OWN.lost 0 with swl := { t.swl with pairAt := t.tb, noOwnAt := none, partnerOwn := false } }

/-- A write to SWL_PAIR. -/
def wrSwlPair (q : Req) (w : Word) (s : State) : State := settle s (s.write q islLNK 1 (fun t => t.pairWrite w))

/-! ### Remote reset (R441) -/

/-- What a write to SWL_RRST does: with the key, from ring 0, an RRST packet goes to the target. -/
def State.rrstWrite (s : State) (w : Word) (ring : Nat) : State :=
  if getBits w SWL_RRST.key = 0x5A ∧ ring = 0 then
    match s.send (s.ownPkt 8 (getBits w SWL_RRST.target) s.swl.nextTag []) with
    | (t, some _) => { t with swl := { t.swl with nextTag := (t.swl.nextTag + 1) % 256 } }
    | (t, none) => t
  else s

/-- A write to SWL_RRST. -/
def wrSwlRrst (q : Req) (w : Word) (s : State) : State := s.write q islLNK 1 (fun t => t.rrstWrite w (s.ringOf q))

/-- SWL_RRST_SEND. -/
def execSwlRrstSend (q : Req) (w : Word) (s : State) : Host.Outcome State Fault Refusal := .next (s.crossTo q true aSWL_RRST w (wrSwlRrst q w))

/-! ### Queue forwarding (R430) -/

/-- What entry `k` of SWL_QFWD has under way: when its record was sent or kept, and whether it is in flight. -/
def State.fwdOf (s : State) (k : Nat) : Option (Nat × Bool) := sget none s.swl.fwd k
def State.setFwd (s : State) (k : Nat) (x : Option (Nat × Bool)) : State :=
  { s with swl := { s.swl with fwd := sput none k x s.swl.fwd } }

/-- Send the record at the head of entry `k`'s queue, if there is one. -/
def State.fwdSend (s : State) (k : Nat) : State :=
  let a := aSWL_QFWD k
  let lq := s.get a SWL_QFWD.lq
  if s.alive islLNK && s.on a SWL_QFWD.en && s.qOn lq then
    let s := s.qMeet lq true
    match if s.qSound lq true then s.qPeek lq else none with
    | some ws =>
      let d := s.get a SWL_QFWD.d
      let tag := s.swl.nextTag
      let p : Pkt := { s.ownPkt 5 d tag (ws.flatMap wordBytes) with addr := s.get a SWL_QFWD.rq }
      match s.send p with
      | (t, some l) => (t.await { tag := tag, port := l, left := t.leftAt s l, who := .qfwd k }).setFwd k (some (t.tb, true))
      | (t, none) => t.fwdFail k (s.get (aSWL_ROUTE d) SWL_ROUTE.port)
    | none => s
  else s

/-- QFWD_SEND: entry `k` takes the record at the head of its queue. -/
def execQfwdSend (k : Fin 64) (s : State) : Host.Outcome State Fault Refusal :=
  .next (if s.fwdOf k = none then s.fwdSend k else s)

/-- QFWD_RESEND: a kept record goes out again, 1 µs after its last sending, or once its route is UP. -/
def execQfwdResend (k : Fin 64) (s : State) : Host.Outcome State Fault Refusal :=
  .next (match s.fwdOf k with
    | some (t, false) => if t ≤ s.tb && s.swlUp (s.get (aSWL_ROUTE (s.get (aSWL_QFWD k) SWL_QFWD.d)) SWL_ROUTE.port) then
        (s.setFwd k none).fwdSend k else s
    | _ => s)

/-- The target's result for entry `k`'s record, on port `l` (R430): 0 stored, 1 rejected, 2 full, 3 fault. -/
def State.fwdResult (s : State) (k l r : Nat) : State :=
  let gone := (s.qGet (s.get (aSWL_QFWD k) SWL_QFWD.lq)).1.setFwd k none
  if r = 0 then gone
  else if r = 1 then gone.set (aSWL_STATUS l) SWL_STATUS.fwd_drop 1
  else if r = 2 then s.setFwd k (some (((s.fwdOf k).map (·.1)).getD s.tb + 1000, false))
  else s.fwdFail k l

/-- A put of a record that came as QREC from device `src` under the effective ring (R227, R429): what the target answers. -/
def State.fwdPut (s : State) (q ring : Nat) (ws : List Word) : State × Nat :=
  if !s.qMay q ring then (s.qMeet q false, 3)
  else match (s.qMeet q false).qPut q ws with
    | (t, .stored) => (t, 0)
    | (t, .rejected) => (t, 1)
    | (t, .full) => (t, 2)

/-- The words that bytes spell. -/
def bytesWords (bs : List Byte) (n : Nat) : List Word := (List.range n).map (fun i => payWord (bs.drop (4 * i)) 0)

/-- The ring of the access of a request that carries `ring` (R429). -/
def State.effRing (s : State) (ring : Nat) : Nat := max ring (s.get aSWL_DEV SWL_DEV.in_ring)

/-- SWL_QREC. -/
def execSwlQrec (l : Fin 8) (p : SwlPkt) (s : State) : Host.Outcome State Fault Refusal :=
  .next (s.arrivePkt l 5 p (fun t =>
    let r := t.fwdPut (pktAddr p % 16384) (t.effRing (pktRing p)) (bytesWords (pktData p) 4)
    r.1.answer (if r.2 = 3 then 10 else 4) (pktSrc p) (pktTag p)
      (if r.2 = 3 then [] else Config.msgBytes (.result (BitVec.ofNat 2 r.2)))))

/-- A response that ends a request of this device (R427, R430): `err` for ERRRSP, `w` the word that was read, `r` what became of a
forwarded record. -/
def State.endResponse (s : State) (l : Nat) (p : SwlPkt) (err : Bool) (r : Nat) : State :=
  match s.swl.outs.find? (fun o => o.tag == pktTag p) with
  | some o =>
    let t := s.endRemote o err (payWord (pktData p) 0)
    match o.who with
    | .qfwd k => t.fwdResult k l (if err then 3 else r)
    | _ => t
  | none => s

/-- SWL_RDRSP. -/
def execSwlRdrsp (l : Fin 8) (p : SwlPkt) (s : State) : Host.Outcome State Fault Refusal :=
  .next (s.arrivePkt l 3 p (fun t => t.endResponse l p false 0))

/-- SWL_WRACK: `r` is the target's result in the acknowledgement of a forwarded record. -/
def execSwlWrack (l : Fin 8) (p : SwlPkt) (r : BitVec 2) (s : State) : Host.Outcome State Fault Refusal :=
  .next (s.arrivePkt l 4 p (fun t => t.endResponse l p false r.toNat))

/-- SWL_ERRRSP. -/
def execSwlErrrsp (l : Fin 8) (p : SwlPkt) (s : State) : Host.Outcome State Fault Refusal :=
  .next (s.arrivePkt l 10 p (fun t => t.endResponse l p true 3))

/-- SWL_REQUEST_TIMEOUT: the oldest request without a response 20 µs after it left ends with an error (R428). -/
def execSwlRequestTimeout (s : State) : Host.Outcome State Fault Refusal :=
  .next (match s.swl.outs.find? (fun o => o.left.any (fun t => decide (t + 20000 ≤ s.tb))) with
    | some o => s.lose o.port o
    | none => s)

end Sys2Proof.Machine
end

