-- ==== Sys2Proof/Machine/EngCtl.lean ====
section
/-!
DEFINITION. Engines: when they run, starting and stopping (R161, R162), the vector table (R246, R247),
the local interrupt controller's inputs (R261), watchdogs (R158 to R160).
-/

namespace Sys2Proof.Machine

/-! ### Places -/

def isNewt (e : Nat) : Bool := decide (e < 256)

/-- The first byte of Newt `e`'s part of its clutch window (R27). -/
def engRam (e : Nat) : Nat := 0x20000000 + e / 16 * 0x200000 + e % 16 * 0x10000

/-- Instruction bank A or B of Newt `e`. -/
def bankAt (e : Nat) (b : Bool) : Nat := engRam e + if b then 0x8000 else 0x4000

def State.halted (s : State) (e : Nat) : Bool := s.on (aENG_STATUS e) ENG_STATUS.halted

/-- Is the engine stopped: halted, or at rest in a debug halt (R456)? -/
def State.stopped (s : State) (e : Nat) : Bool := s.halted e || ((s.eng e).dbg && s.between e)

/-- The current ring of an engine. -/
def State.ring (s : State) (e : Nat) : Nat := s.get (aENG_S e) ENG_S.ring

/-! ### When an engine runs -/

/-- Has WATCH stopped the engine's clock (R479)? -/
def State.watchStops (s : State) (e : Nat) : Bool :=
  s.clkMode == .watch && !s.rst.leaving && (if e < 256 then s.rst.kept / 2 ^ (e / 16) % 2 == 0 else e == 257)

/-- Is the engine's island released and its clock running? -/
def State.clocked (s : State) (e : Nat) : Bool :=
  s.alive (engIsl e) && !(isNewt e && s.relocking (e / 16)) && !s.watchStops e && s.mode != .reset

/-- Can the engine begin a bundle or enter a vector? -/
def State.engRuns (s : State) (e : Nat) : Bool :=
  s.clocked e && s.reach (engIsl e) && !s.halted e && !(s.eng e).dbg && s.mode != .frost && (s.eng e).cop.isNone

/-! ### Stopping -/

/-- A release of the engine's reservation reaches its target (R223). -/
def State.releaseRsv (s : State) (e : Nat) : State :=
  { s with rsv := { s.rsv with held := s.rsv.held.filter (fun r => r.eng != e) } }

/-- The engine's waiting QPUT is abandoned (R228). -/
def State.dropQput (s : State) (e : Nat) : State :=
  { s with qm := { s.qm with waits := s.qm.waits.filter (fun w => w.who != .eng e) } }

/-- What the engine waited for is over: nothing of its bundle is under way. -/
def State.settleEng (s : State) (e : Nat) : State :=
  (((s.dropQput e).giveUp e).set (aENG_STATUS e) ENG_STATUS.waiting 0).setEng e
    { s.eng e with wait := .none, cur := [], got := [], seen := [], resumePc := none, reply := .none, part := [] }

/-- The engine is halted, at a bundle boundary (R152, R162). -/
def State.haltNow (s : State) (e : Nat) : State :=
  let t := (((s.settleEng e).releaseRsv e).bankBoundary e).set (aENG_STATUS e) ENG_STATUS.halted 1
  t.setEng e { t.eng e with rsv := none, halting := false }

/-- Is the engine at a bundle boundary, between two words of a block move, or asleep? A word that has begun, and waits for an entry of
the buffer, completes first (R213, R241). -/
def State.atRest (s : State) (e : Nat) : Bool :=
  s.between e || ((s.eng e).wait == .none && (s.eng e).resumePc.isSome && (s.eng e).got.isEmpty && (s.eng e).seen.isEmpty)

/-- The engine halts at its next bundle boundary (R162); a Newt whose clock is stopped holds its state until it runs again (R22). -/
def State.stopEng (s : State) (e : Nat) : State :=
  if s.halted e then s
  else if s.atRest e && (s.clocked e || !isNewt e) then s.haltNow e else s.setEng e { s.eng e with halting := true }

/-! ### Failures (R515, R516, R518, R519) -/

/-- A failure that finds no spare, or regrow disabled (R518). -/
def State.noSpare (s : State) (c : Nat) : State :=
  let t := ((s.set (aREGROW_STATUS c) REGROW_STATUS.no_spare 1).set aMODE MODE.degraded 1).showMode
  if t.on (aREGROW_CFG c) REGROW_CFG.ns_trip then t.tripMode 3 else t

/-- The spare of the running regrow has failed: the copy begins again with the next spare (R519). -/
def State.nextSpare (s : State) (c : Nat) (r : Regrow) : State :=
  match s.spareOf c with
  | some j => (s.setRgClu c { s.rgClu c with cur := some { r with spare := j, phase := if r.phase = .drain then .drain else .copy } }).set
      (aREGROW_STATUS c) REGROW_STATUS.spare_k j
  | none => ((s.setRgClu c { s.rgClu c with cur := none }).rgShow c).noSpare c

/-- Newt `k` of clutch `c` is failed from now on: recorded, stopped, out of READY and out of the spare mask. -/
def State.failNewt (s : State) (c k cause : Nat) : State :=
  let a := aREGROW_STATUS c
  let n := 16 * c + k
  let t := ((s.setBit (aREGROW_FAILED c) k true).set a REGROW_STATUS.cause cause).set a REGROW_STATUS.failed_k k
  ((t.setReady (n / 32) (n % 32) false).stopEng n).setBit (aREGROW_CFG c) k false

/-- The failure of a Newt that is no spare waits for its regrow. -/
def State.queueFail (s : State) (c : Nat) (x : Failed) : State :=
  (s.setRgClu c { s.rgClu c with waiting := (s.rgClu c).waiting ++ [x] }).rgShow c

/-- A Newt failure is reported (R515, R516): the Newt is failed at once, and its regrow counts from now; that of a spare only marks it
failed, and one that a regrow has chosen gives way to the next. -/
def State.reportFail (s : State) (n cause : Nat) : State :=
  let c := n / 16
  let k := n % 16
  if s.newtFailed n then s
  else
    let t := s.failNewt c k cause
    match (s.rgClu c).cur with
    | some r => if r.spare = k then t.nextSpare c r
      else if s.isSpare c k then t
      else t.queueFail c { k := k, cause := cause, tick := s.tb, ran := s.on (aENG_CTRL n) ENG_CTRL.run }
    | none => if s.isSpare c k then t
      else t.queueFail c { k := k, cause := cause, tick := s.tb, ran := s.on (aENG_CTRL n) ENG_CTRL.run }

/-- Entry to vector `v` fails: the engine halts, and a Newt reports a failure (R256). -/
def State.entryFail (s : State) (e v : Nat) : State :=
  let t := ((s.haltNow e).set (aLIC_STATUS e) LIC_STATUS.entry_fail 1).set (aLIC_STATUS e) LIC_STATUS.fail_vector v
  if e < 256 then t.reportFail e 2 else t

/-! ### Cache lines -/

/-- The line of a list that holds byte address `a`. -/
def lineOf (l : List Line) (a : Nat) : Option Line := l.find? (fun x => x.addr == a / 64 * 64)

/-- The lines of a cache of an engine. -/
def Engine.lines (x : Engine) (icache : Bool) : List Line := if icache then x.icache else x.dcache

/-- Word `a` of a line. -/
def Line.word (l : Line) (a : Nat) : Word := l.words.getD (a % 64 / 4) 0

/-! ### The vector table (R246, R247) -/

/-- The byte address of vector entry `v`. -/
def State.vecAddr (s : State) (e v : Nat) : Nat :=
  (if e < 256 then engRam e + s.get (aVBR e) VBR.vbase * 256 else (s.reg (aVBR e)).toNat) + 4 * v

/-- The ring of the handler of vector `v`, by its entry word. -/
def vecRing (v : Nat) (w : Word) : Nat :=
  let r := w.toNat % 4
  if v = 15 ∨ v = 18 then 0 else if 32 ≤ v then r else if r = 1 then 1 else 0

/-- The handler address of an entry word. -/
def vecPc (w : Word) : Nat := w.toNat / 4 * 4

/-! ### Starting (R161) -/

/-- The reset word of S with the ring of a start. -/
def startS (ring : Nat) : Word := putBits (resetWord (aENG_S 0)) ENG_S.ring ring

/-- Newt `n` takes vector 0 with `a` in A; no context is stacked. -/
def State.startNewt (s : State) (n : Nat) (a : Word) : State :=
  let s := s.set (aREGROW_CFG (n / 16)) REGROW_CFG.spare
    ((putBit (BitVec.ofNat 32 (s.get (aREGROW_CFG (n / 16)) REGROW_CFG.spare)) (n % 16) false).toNat)
  if s.ue.contains (s.vecAddr n 0) then (s.countUe n (s.vecAddr n 0)).entryFail n 0
  else
    let s := s.countCe n (s.vecAddr n 0)
    let w := s.word (s.vecAddr n 0)
    let t := ((s.settleEng n).releaseRsv n).setReg (aENG_S n) (startS (vecRing 0 w))
    let t := ((t.setReg (aLC0 n) 0).setReg (aLC1 n) 0).set (aENG_STATUS n) ENG_STATUS.halted 0
    (t.setEng n { t.eng n with a := a, pc := vecPc w, stack := [], rsv := none, first := some 0, halting := false }).bankBoundary n

/-- Is Newt `n` READY? -/
def State.newtReady (s : State) (n : Nat) : Bool := s.isReady (n / 32) (n % 32)

/-- What a change of run does: a start waits until the Newt is READY (R469). -/
def State.runChanged (s : State) (n : Nat) (old : Bool) : State :=
  let now := s.on (aENG_CTRL n) ENG_CTRL.run
  if !old && now then (if s.newtReady n then s.startNewt n 0 else s)
  else if old && !now then s.stopEng n else s

/-- What a write to ENG_CTRL does beyond its fields: a swap pending is shown, and run acts. -/
def State.engCtrlEff (s : State) (n : Nat) (old : Bool) : State := (s.swapShown n).runChanged n old

/-! ### Local interrupt controller (R261) -/

/-- The number of LIC inputs. -/
def licInputs (e : Nat) : Nat := if e < 256 then 32 else 64

/-- The software pending bit of input `i`. -/
def State.swp (s : State) (e i : Nat) : Bool := s.bit (aLIC_SWP0 e + i / 32 * 4) (i % 32)

/-- Is input `i` pending? -/
def State.licPending (s : State) (e i : Nat) : Bool :=
  s.on (aLIC_CFG e i) LIC_CFG.en && (s.licLevel e i || s.swp e i)

/-! ### Watchdogs (R158 to R160) -/

/-- WDT_CTRL after a write: while lock is 1, en and timeout keep their values; en rising reloads the count. -/
def State.wdtCtrl (s : State) (n : Nat) (w : Word) : State :=
  let a := aWDT_CTRL n
  let was := s.on a WDT_CTRL.en
  let t := if s.on a WDT_CTRL.lock then s else s.storeDirect a fWDT_CTRL w
  if !was && t.on a WDT_CTRL.en then t.set (aWDT_STATUS n) WDT_STATUS.remaining (t.get a WDT_CTRL.timeout) else t

/-- WDT_KICK. -/
def State.wdtKick (s : State) (n : Nat) (w : Word) : State :=
  if getBits w WDT_KICK.key = 0xA5 then
    s.set (aWDT_STATUS n) WDT_STATUS.remaining (s.get (aWDT_CTRL n) WDT_CTRL.timeout)
  else s.set (aWDT_STATUS n) WDT_STATUS.bad_key 1

/-- Does Newt `n`'s watchdog count (R160)? -/
def State.wdtCounts (s : State) (n : Nat) : Bool :=
  s.on (aWDT_CTRL n) WDT_CTRL.en && s.alive (islCLU (n / 16)) && !s.stopped n && s.mode != .halt && s.mode != .frost &&
    !s.watchStops n

/-- WDT_EXPIRY. -/
def execWdtExpiry (n : Fin 256) (s : State) : Host.Outcome State Fault Refusal :=
  let a := aWDT_STATUS n
  .next (if s.wdtCounts n && s.get a WDT_STATUS.remaining == 0 then
    (if !s.on a WDT_STATUS.first_expiry then
      ((s.set a WDT_STATUS.first_expiry 1).set a WDT_STATUS.remaining (s.get (aWDT_CTRL n) WDT_CTRL.timeout)).pendVec n 13
     else s.reportFail n 1)
  else s)

end Sys2Proof.Machine
end

