-- ==== Sys2Proof/Machine/Reset.lean ====
section
/-!
DEFINITION. Resets, their causes and their ends, the release order, READY bits, island and block resets (R459 to R472).
-/

namespace Sys2Proof.Machine

/-! ### Registers back at their reset values (R13) -/

/-- A word with every field that lists one of the classes in `mask` at its reset value. -/
def resetIn (mask : Nat) (fs : List Fld) (w : Word) : Word :=
  fs.foldl (fun x f => if f.cls &&& mask != 0 then putBits x f f.rst else x) w

/-- Is `a` a READY register? READY bits belong to their functions, not to a block's registers. -/
def isReadyReg (a : Nat) : Bool := decide (aREADY 0 ≤ a) && decide (a < aREADY 64)

/-- The registers that `sel` selects take the reset values of the classes in `mask`, and so do the shadows of those that are read from
them (R41). -/
def State.resetRegs (s : State) (mask : Nat) (sel : Nat → Bool) : State :=
  { s with
    shadows := s.shadows.filter (fun x => !(sel (x.1 / 1024) && (fldsAt (x.1 / 1024)).any (fun f => f.cls &&& mask != 0)))
    regs := s.regs.filterMap (fun x =>
      if sel x.1 then
        let w := resetIn mask (fldsAt x.1) x.2
        if w = resetWord x.1 then none else some (x.1, w)
      else some x) }

/-- Staged words and dirty pages that `sel` selects leave their groups, which record it (R334). -/
def State.unstageHit (s : State) (sel : Nat → Bool) : State :=
  let hit := s.cc.staged.filterMap (fun x => match x.2 with
    | some y => if sel x.1 then some (x.1, y.grp) else none
    | none => none)
  let t := hit.foldl (fun u x => (u.unstage x.1).set (aCG_STATUS x.2) CG_STATUS.reset_hit 1) s
  let t := t.each ((List.range 1024).filter (fun p => sel (pageBase p) && t.dirty p)) (fun u p =>
    (u.cleanPage p).set (aCG_STATUS (u.get (pgCfg p) PG_CFG.cg)) CG_STATUS.reset_hit 1)
  { t with cc := { t.cc with
      armed := t.cc.armed.map (fun x => (x.1, x.2.map (fun a =>
        { a with words := a.words.filter (fun w => !sel w.1), pages := a.pages.filter (fun p => !sel (pageBase p)) })))
      relockWords := t.cc.relockWords.filter (fun w => !sel w.1)
      relockPages := t.cc.relockPages.filter (fun p => !sel (pageBase p)) } }

/-! ### Starting a POR or SYS reset (R459 to R462) -/

/-- The nonce of R500 is drawn anew. -/
def State.renewNonce (s : State) : State := { s with nvm := { s.nvm with nonces := s.nvm.nonces + 1 } }

/-- A word write pulse is cut off: the word reads as its old value, its new value or uncorrectable (R491). -/
def State.tearPulse (s : State) : State :=
  match s.nvm.pulse with
  | some p =>
    let c := Config.freeChoice s.fresh % 3
    let t := { s with fresh := s.fresh + 1, nvm := { s.nvm with pulse := none } }
    if c = 0 then t
    else if c = 1 then (t.keepErrs (fun a => a != p.addr)).putWord p.addr p.data
    else { t with ue := if t.ue.contains p.addr then t.ue else t.ue ++ [p.addr] }
  | none => s

/-- OTP programming is cut off: which of the bits it was setting are 1 then, the spec leaves open. -/
def State.tearOtp (s : State) : State :=
  match s.nvm.otp with
  | some (a, w) =>
    let (m, t) := s.freeWord
    { t.putWord a (s.word a ||| (w &&& m)) with nvm := { t.nvm with otp := none } }
  | none => s

/-- What is left of the state when a reset begins: the clock, what non-volatile memory holds, the balls the board drives, and
the registers that do not list the class. -/
def State.bare (s : State) (por : Bool) : State :=
  let r := s.resetRegs (if por then 1 else 2) (fun _ => true)
  { pending := s.pending, tb := s.tb, regs := r.regs, shadows := r.shadows, resp := s.resp, fresh := s.fresh, mode := .reset
    mem := s.mem.filter (fun x => decide (x.1 < 0x10000000)), ue := s.ue.filter (fun a => decide (a < 0x10000000))
    ce := s.ce.filter (fun a => decide (a < 0x10000000))
    time := if por then {} else { startup := s.time.startup, frost := s.time.frost, refclk := s.time.refclk, sys := true }
    trip := { safenLow := s.trip.safenLow }
    std := { jtag := if por then {} else s.std.jtag }
    nvm := { pulse := s.nvm.pulse, nonces := s.nvm.nonces, sessDone := !por && s.nvm.sessDone
             sess := if por then none else s.nvm.sess } }

/-- Is a load under way, which a reset would end (R466)? -/
def State.loading (s : State) : Bool := (s.rst.step == 1 || s.rst.step == 2) && decide (s.rst.stepTick + 640 ≤ s.tb)

/-- A reset begins (R460, R462): of class POR, or of class SYS. In a POR no reference is chosen yet, and none is watched (R538). -/
def State.beginReset (s : State) (por : Bool) : State :=
  let u := if por then s.tearPulse.tearOtp else s.tearOtp
  let b := u.bare por
  let r := s.rst
  let b := { b with rst := { active := true, por := por, causes := if por then r.causes.erase 6 else r.causes, best := if r.active then r.best else 15
                             quiet := s.tb, step := 0, stepTick := s.tb, crystal := r.crystal, refLost := r.refLost
                             vcoreLow := r.vcoreLow, vaonLow := r.vaonLow, powLow := r.powLow, dead := r.dead, vio := r.vio } }
  if por then b
  else
    let b := (b.incSat aRSTCAUSE RSTCAUSE.sys_cnt).put64 aRST_TB_LO aRST_TB_HI s.tb
    let b := b.setB aRSTCAUSE RSTCAUSE.nvm_wait b.nvm.pulse.isSome
    if s.loading && !r.active then b.incSat aLOAD_STATUS LOAD_STATUS.restarts else b

/-- A cause of code `c` becomes active (R459, R460): it starts a reset of its class, or extends the one in progress. A pulse
is active for one AON cycle. -/
def State.resetCause (s : State) (c : Nat) (pulse : Bool) : State :=
  let por := decide (c ≤ 2)
  let t := if !s.rst.active || (por && !s.rst.por) then s.beginReset por else s
  let best := min t.rst.best c
  { t with rst := { t.rst with
      causes := if pulse || t.rst.causes.contains c then t.rst.causes else t.rst.causes ++ [c]
      best := best, quiet := if pulse then max t.rst.quiet (s.tb + 40) else t.rst.quiet } }.set aRSTCAUSE RSTCAUSE.cause best

/-- The cause of code `c` ends. -/
def State.causeEnds (s : State) (c : Nat) : State :=
  if s.rst.causes.contains c then
    let l := s.rst.causes.erase c
    { s with rst := { s.rst with causes := l, quiet := if l.isEmpty then max s.rst.quiet s.tb else s.rst.quiet } }
  else s

/-- What has lasted `ns` brings what `f` does from `hi` on, nothing below `lo`, and between the two either: which, the spec leaves open
(R461, R532). -/
def State.lasting (s : State) (lo hi ns : Nat) (f : State → State) : State :=
  if ns < lo then s
  else if hi ≤ ns then f s
  else
    let t := { s with fresh := s.fresh + 1 }
    if Config.freeChoice s.fresh % 2 = 1 then f t else t

/-- A rail has been below a falling threshold for `ns`: the cause of code `c` (R532). -/
def State.fallen (s : State) (c ns : Nat) : State := s.lasting 100 1000 ns (fun t => t.resetCause c false)

/-- Has rail `r` a brown-out monitor (R531)? -/
def brownRail (r : Rail) : Bool := r == .vcore || r == .vaon

/-- The VIO bank that a rail is. -/
def railBank : Rail → List (Fin 6)
  | .vio b => [b]
  | _ => []

/-- Rail `r` falls below its power-on threshold, and a rail with a brown-out monitor below that one's too (R531); a VIO bank that is
`dead` is below 1.0 V, and unpowered. -/
def State.railLow (s : State) (r : Rail) (dead : Bool) : State :=
  { s with rst := { s.rst with
      powLow := if s.rst.powLow.contains r then s.rst.powLow else s.rst.powLow ++ [r]
      dead := if dead then s.rst.dead ++ railBank r else s.rst.dead
      vcoreLow := s.rst.vcoreLow || r == .vcore, vaonLow := s.rst.vaonLow || r == .vaon } }

/-- POWER_ON: a monitored rail has been below its power-on threshold for `ns`, and so below its brown-out threshold, if it has one. -/
def execPowerOn (r : Rail) (ns : Nat) (dead : Bool) (s : State) : Host.Outcome State Fault Refusal :=
  let t := (s.railLow r dead).fallen 1 ns
  .next (if brownRail r then t.fallen 2 ns else t)

/-- BROWN_OUT: VAON, or VCORE, has been below its brown-out threshold for `ns`; the power-loss clamps are on meanwhile (R533). -/
def execBrownOut (vaon : Bool) (ns : Nat) (s : State) : Host.Outcome State Fault Refusal :=
  .next ({ s with rst := { s.rst with vcoreLow := s.rst.vcoreLow || !vaon, vaonLow := s.rst.vaonLow || vaon } }.fallen 2 ns)

/-- RAIL_GOOD: a rail is above its power-on rising threshold, and, with `brown`, above its brown-out rising threshold too (R531). -/
def execRailGood (r : Rail) (brown : Bool) (s : State) : Host.Outcome State Fault Refusal :=
  let t := { s with rst := { s.rst with powLow := s.rst.powLow.filter (fun x => x != r)
                                        dead := s.rst.dead.filter (fun b => !(railBank r).contains b)
                                        vcoreLow := s.rst.vcoreLow && !(brown && r == Rail.vcore)
                                        vaonLow := s.rst.vaonLow && !(brown && r == Rail.vaon) } }
  let t := if t.rst.powLow.isEmpty then t.causeEnds 1 else t
  .next (if !t.rst.vcoreLow && !t.rst.vaonLow then t.causeEnds 2 else t)

/-- THERMAL_SHUTDOWN and its release. -/
def execThermalShutdown (s : State) : Host.Outcome State Fault Refusal := .next (s.resetCause 3 false)
def execThermalShutdownRelease (s : State) : Host.Outcome State Fault Refusal := .next (s.causeEnds 3)

/-- RESETN_LOW: RESETn has been low for `ns`, and goes on being low, or has gone high (R461). While it is taken as low its cause is
active; a pulse that is over gives a whole reset all the same. -/
def execResetnLow (ns : Nat) (goesOn : Bool) (s : State) : Host.Outcome State Fault Refusal :=
  .next (if goesOn then s.lasting 50 200 ns (fun t => t.resetCause 4 false)
    else if s.rst.causes.contains 4 then s.causeEnds 4
    else s.lasting 50 200 ns (fun t => t.resetCause 4 true))

/-- REFCLK_LOSS: REFCLK, or the crystal, has had no edge for 100 ns. Of the reference that the last POR chose this is a cause (R459,
R538), and TB counts in steps of the AON oscillator until the PLLs lock again (R35, R37). -/
def execRefclkLoss (xtal : Bool) (s : State) : Host.Outcome State Fault Refusal :=
  .next (if xtal != s.rst.crystal || (s.rst.active && s.rst.por) then s
    else { s with time := { s.time with refclk := true }, rst := { s.rst with refLost := true } }.resetCause 6 false)

/-- REFCLK_RETURN: edges of REFCLK, or of the crystal, are back. -/
def execRefclkReturn (xtal : Bool) (s : State) : Host.Outcome State Fault Refusal :=
  .next (if xtal != s.rst.crystal then s else { s with rst := { s.rst with refLost := false } }.causeEnds 6)

/-- A write to SW_RST: the key starts a SYS reset, any other value sets bad_req. -/
def wrSwRst (q : Req) (w : Word) (s : State) : State :=
  s.write q islAON 0 (fun t => if getBits w SW_RST.key = 0x96 then t.resetCause 8 true
    else t.set aRST_STATUS RST_STATUS.bad_req 1)

/-- SW_RST. -/
def execSwRst (q : Req) (w : Word) (s : State) : Host.Outcome State Fault Refusal := .next (s.crossTo q true aSW_RST w (wrSwRst q w))

/-- DEBUG_RESET: without effect while debug is locked (R499). -/
def execDebugReset (s : State) : Host.Outcome State Fault Refusal := .next (if s.dbgOpen 0 then s.resetCause 9 true else s)

/-! ### The end of a reset (R460, R462, R468) -/

/-- Can the reset end: 16 AON cycles after its last cause, with no word write pulse in progress? -/
def State.resetOver (s : State) : Bool :=
  s.rst.active && s.rst.causes.isEmpty && decide (s.rst.quiet + 640 ≤ s.tb) && s.nvm.pulse.isNone

/-- What the end of a POR finds is kept: the voltages of the VIO banks, of which VIO4 is at 3.3 V only (R529), and the reference, REFCLK
while edges are present there, and otherwise the crystal (R538). -/
def RstSt.sense (r : RstSt) (vio : BitVec 6) (refclk xtal : Bool) : RstSt :=
  { r with vio := vio ||| 0x10#6, crystal := !refclk, refLost := !refclk && !xtal }

/-- The reset ends: the AON island is released, BRINGUP begins, the straps are sampled, and, after a POR only, DEVADDR, the VIO banks and
the references. -/
def State.endReset (s : State) (strap devaddr : Nat) (vio : BitVec 6) (refclk xtal : Bool) : State :=
  let t := { s with mode := .bringup, tb := if s.rst.por then 0 else s.tb }
  let t := { t with rst := { t.rst with active := false, step := 1, stepTick := t.tb } }
  let t := (t.setBit (aREADY 22) islAON true).set aMODE MODE.strap strap
  if s.rst.por then { t.set aSWL_DEV SWL_DEV.devaddr devaddr with rst := t.rst.sense vio refclk xtal }.renewNonce else t

/-- RESET_END: `refclk` and `xtal` say whether edges are present on REFCLK, and whether the crystal runs. -/
def execResetEnd (strap : BitVec 2) (devaddr : BitVec 3) (vio : BitVec 6) (refclk xtal : Bool) (s : State) :
    Host.Outcome State Fault Refusal :=
  .next (if s.resetOver then s.endReset strap.toNat devaddr.toNat vio refclk xtal else s)

/-- Supply banks. -/
inductive Supply where
  | vio (b : Fin 6)
  | vana | vpll | vlinkio
  deriving DecidableEq, Repr

/-- The supply bank of a ball (R298, R529). -/
def ballSupply : Ball → Supply
  | .pwm o => .vio (pwmBank o)
  | .frTx _ | .frRx _ => .vio 4
  | .xspiCs _ _ | .xspiSck _ | .xspiData _ | .serial _ | .can _ | .gpio _ | .tripin _ | .tripout _ | .sdd _ | .sdc _
  | .faultn | .rstoutn | .ownern | .resetn | .safen | .mode | .devaddr | .jtag | .test => .vio 5
  | .ain _ | .vref _ => .vana
  | .refclk | .xtal => .vpll
  | .tbsync | .swl _ | .ethernet _ => .vlinkio

/-- The voltage of a VIO bank, in mV, whose output deskew is applied (R529). -/
def State.deskew (s : State) (k : Fin 6) : Nat := if s.rst.vio.getLsbD k then 3300 else 1800

/-- The input thresholds in force at a ball of a VIO bank, as the sensed voltage selects them (R529, R537): the least high and the
greatest low level, in mV, at the bank's nominal voltage. -/
def State.thresholds (s : State) (b : Ball) : Option (Nat × Nat) := match ballSupply b with
  | .vio k => some (if s.rst.vio.getLsbD k then (2000, 800) else (1170, 630))
  | _ => none

/-- Is RSTOUTn high (R463)? -/
def State.rstoutHigh (s : State) : Bool :=
  s.alive islSYS && !s.on aRST_CFG RST_CFG.rstout_sw &&
    decide (s.rst.sysTick + 1000 * s.get aRST_CFG RST_CFG.rstout_ext ≤ s.tb)

/-! ### READY (R469, R470) -/

/-- The island of the function that owns a READY bit; none for a bit that no island's function owns. -/
def readyIsl (w b : Nat) : Option Nat :=
  if w < 8 then some (islCLU ((32 * w + b) / 16))
  else if w < 10 then some islANA
  else if w < 13 then some islAON
  else if w < 15 then some (islTIM ((32 * (w - 13) + b) / 16))
  else if w < 17 then some (islTIM (b / 8))
  else if w = 17 ∨ w = 19 then some islLNK
  else if w = 18 then (if b < 16 then some islLNK else none)
  else if w = 20 then (if b < 16 then some islLNK else if b = 16 then some islAON else none)
  else if w = 21 then
    (if b < 4 ∨ b = 6 ∨ 24 ≤ b then some islSYS else if b = 4 ∨ b = 5 then some islAON
     else if b = 8 ∨ b = 9 then some (islSUP (b - 8)) else if 16 ≤ b ∧ b < 20 then some islANA else none)
  else none

/-- The READY words that hold bits of functions. -/
def readyBits : List (Nat × Nat) := (List.range 22).flatMap (fun w => (List.range 32).map (fun b => (w, b)))

/-- The READY bits of the functions of island `i` clear. -/
def State.unreadyIsl (s : State) (i : Nat) : State :=
  (readyBits.filter (fun x => readyIsl x.1 x.2 == some i)).foldl (fun t x => t.setReady x.1 x.2 false) s

/-- Newt `n` becomes READY; with run = 1 it starts (R469). -/
def State.newtUp (s : State) (n : Nat) : State :=
  if s.newtFailed n || s.isReady (n / 32) (n % 32) then s
  else
    let t := s.setReady (n / 32) (n % 32) true
    if t.on (aENG_CTRL n) ENG_CTRL.run && t.halted n then t.startNewt n 0 else t

/-- The Newts of clutch `c`. -/
def newtsOf (c : Nat) : List Nat := (List.range 16).map (fun k => 16 * c + k)

/-! ### Release (R464, R467, R468) -/

/-- Does FROST retain clutch `c`, or bank `k` of system SRAM? -/
def State.cluRet (s : State) (c : Nat) : Bool := s.bit aRET_CFG c
def State.sramRet (s : State) (k : Nat) : Bool := s.bit aRET_CFG (16 + k)

/-- An address range of memory is written with 0 and valid ECC. -/
def State.zeroMem (s : State) (a n : Nat) : State :=
  (s.keepErrs (fun x => !(decide (a ≤ x) && decide (x < a + n)))).clearMem a n

/-- System SRAM at the SYS release; retained banks keep their contents on a wake. -/
def State.releaseSram (s : State) : State :=
  s.each (List.range 8) (fun t k =>
    if s.rst.wake && s.sramRet k then t.setReady 21 (24 + k) true
    else { t.zeroMem (0x10000000 + k * 0x100000) 0x100000 with rst := { t.rst with init := t.rst.init ++ [16 + k] } })

/-- The memories of clutch `c` at its release; a retained clutch goes on where it stopped (R481). -/
def State.releaseClutch (s : State) (c : Nat) : State :=
  if s.rst.wake && s.cluRet c then
    s.each ((newtsOf c).filter (fun n => !s.newtFailed n)) (fun t n => t.setReady (n / 32) (n % 32) true)
  else
    let a := 0x20000000 + c * 0x200000
    let t := (s.zeroMem a 0x200000).zeroMem (stagedCopy a) 0x200000
    { t with rst := { t.rst with init := t.rst.init ++ [c] } }

/-- Skink pair `p` starts at the boot ROM entry, in ring 0 (R468). -/
def State.startSkink (s : State) (p : Nat) : State :=
  let e := 256 + p
  let t := (s.settleEng e).setReg (aENG_S e) (startS 0)
  (t.set (aENG_STATUS e) ENG_STATUS.halted 0).setEng e { t.eng e with pc := 0, halting := false }

/-- Has pair `p` failed (R509)? -/
def State.pairFailed (s : State) (p : Nat) : Bool :=
  s.on aLOCKSTEP (if p = 0 then LOCKSTEP.sk0_failed else LOCKSTEP.sk1_failed)

/-- Pair `p` is released: SK0 starts; SK1 waits halted, unless it has to stand in for SK0. -/
def State.releaseSkink (s : State) (p : Nat) : State :=
  let t := s.setReady 21 (8 + p) true
  if p = 0 ∨ t.pairFailed 0 = true then t.startSkink p else t

/-- Island `i` is released; with AON, markers watch from then on (R47). -/
def State.releaseIsl (s : State) (i : Nat) : State :=
  let t := s.setReady 22 i true
  if i = islAON then { t with time := { t.time with markSeen := (List.range 14).map (fun m => (m, t.tb)) } }
  else if i = islSYS then { t with rst := { t.rst with sysTick := t.tb } }.releaseSram
  else if i = islLNK then { t with swl := { t.swl with pairAt := t.tb, masterAt := t.tb } }
  else if i = 8 ∨ i = 9 then t.releaseSkink (i - 8)
  else if 10 ≤ i then t.releaseClutch (i - 10)
  else t

/-- Are all three PLLs locked (R465)? -/
def State.pllsLocked (s : State) : Bool := s.isReady 21 10 && s.isReady 21 11 && s.isReady 21 12

/-- The next step of R464 after the loads; the last one ends in SAFEHOLD. A failed pair's island stays in reset (R510). -/
def State.releaseNext (s : State) : State :=
  let k := s.rst.step
  let i := k - 2
  let t := { s with rst := { s.rst with step := k + 1, stepTick := if k = 3 then s.tb else s.rst.stepTick + 640 } }
  let t := if (i = 8 && s.pairFailed 0) || (i = 9 && s.pairFailed 1) then t else t.releaseIsl i
  if k = 27 then { t with rst := { t.rst with wake := false } }.enter .safehold else t

/-- Is a step of the release order due? -/
def State.releaseDue (s : State) : Bool :=
  s.mode == .bringup && decide (3 ≤ s.rst.step) && decide (s.rst.step < 28) && decide (s.rst.stepTick + 640 ≤ s.tb) &&
    (s.rst.step != 3 || s.pllsLocked)

/-- The island of an ISL reset is released again (R471); a load that the reset of AON ended starts anew from here (R466). -/
def State.releaseReset (s : State) (x : IslRst) : State :=
  let t := { s with rst := { s.rst with isl := none } }.set aRST_STATUS RST_STATUS.isl_busy 0
  let t := if x.isl = islAON ∧ t.rst.step = 0 then { t with rst := { t.rst with step := 1, stepTick := t.tb } } else t
  t.releaseIsl x.isl

/-- ISLAND_RELEASE: at the end of an ISL reset, or as the next step of the release order. -/
def execIslandRelease (s : State) : Host.Outcome State Fault Refusal :=
  fin s (match s.rst.isl with
    | some x => if x.held && decide (x.start + 640 ≤ s.tb) then s.releaseReset x
        else if s.releaseDue then s.releaseNext else s
    | none => if s.releaseDue then s.releaseNext else s)

/-- The code of a memory in `init`. -/
def memCode : Mem → Nat
  | .clutch c => c
  | .sram k => 16 + k

/-- MEMORY_INIT_DONE: a bank's READY bit sets, or those of a clutch's Newts. -/
def execMemoryInitDone (m : Mem) (s : State) : Host.Outcome State Fault Refusal :=
  .next (if s.initing (memCode m) then
    let t := { s with rst := { s.rst with init := s.rst.init.erase (memCode m) } }
    match m with
    | .sram k => t.setReady 21 (24 + k) true
    | .clutch c => t.each (newtsOf c) State.newtUp
  else s)

/-- The block of a READY bit as BLK_RST names it (R472): kind and index. -/
def readyBlk (w b : Nat) : Option (Nat × Nat) :=
  if w < 8 then some (0, 32 * w + b)
  else if w = 8 then some (2, b)
  else if w = 9 then some (3, b)
  else if w = 13 ∨ w = 14 then some (1, 32 * (w - 13) + b)
  else if w = 17 ∨ w = 18 then some (4, 32 * (w - 17) + b)
  else if w = 19 then
    (if b < 8 then some (5, b) else some (6, b - 8))
  else if w = 20 then (if b < 8 then some (6, 24 + b) else if b < 16 then some (6, 32 + (b - 8)) else none)
  else none

/-- Can a READY bit set now: its function is released, trimmed, initialised and not in a block reset? The bits of the queue
manager, the references and the system SRAM banks have steps of their own. -/
def State.canReady (s : State) (w b : Nat) : Bool :=
  let own := w == 21 && (b == 0 || decide (16 ≤ b))
  (match readyIsl w b with
    | some i => s.reach i
    | none => false) && !own && !s.trimBad w b &&
    (match readyBlk w b with
      | some x => !s.blkBusy x.1 x.2
      | none => true) &&
    (if w < 8 then !s.initing ((32 * w + b) / 16) && !s.newtFailed (32 * w + b)
     else if w = 8 then s.anaUsable w b && s.isReady 21 (16 + b / 8)
     else if w = 9 then s.anaUsable w b
     else if 10 ≤ w ∧ w < 15 then s.on aLOAD_STATUS LOAD_STATUS.trim_done
     else true) && s.mode != .frost

/-- BLOCK_READY: the bit sets, and what waited for it acts (R281, R304, R407, R469). -/
def execBlockReady (w : Fin 64) (b : Fin 32) (s : State) : Host.Outcome State Fault Refusal :=
  fin s (if s.canReady w b && !s.isReady w b then
    let t := s.setReady w b true
    if w.val < 8 then s.newtUp (32 * w + b)
    else if w.val = 13 ∨ w.val = 14 then
      let n := 32 * (w.val - 13) + b
      if t.on (aSL_CTRL n) SL_CTRL.run && !(t.slice n).counting then t.setSlice n { t.slice n with runPend := some (t.tb + 1) }
      else t
    else if w.val = 15 then t.zoneHit b
    else if w.val = 17 ∨ w.val = 18 then t.frWake (32 * (w.val - 17) + b)
    else if w.val = 19 ∧ b.val < 8 then t.setSwlPort b { t.swlPort b with downAt := t.tb }
    else t
  else s)

/-! ### What a reset of an island clears (R471, R482) -/

/-- Every group of the commit controller is disarmed and emptied (R334). -/
def State.emptyGroups (s : State) : State :=
  let as := s.cc.staged.map (·.1)
  let t := { s with cc := { s.cc with staged := [], armed := [], armReqs := [], port := [], ovf := [], snap := [], snapCnt := [],
                                      sent := [], early := [] } }
  let t := (List.range 32).foldl (fun u g => ((u.set (aCG_STATUS g) CG_STATUS.armed 0).set (aCG_STATUS g)
    CG_STATUS.staged_cnt 0)) (t.each as State.unstaged)
  let t := t.resetInputs (fun i => decide (2288 ≤ i) && decide (i < 2328))
  t.each ((List.range 1024).filter (fun p => t.dirty p)) State.cleanPage

/-- The keys of the handshake FIFOs into or out of island `i`, and all the others. -/
def fifoTouches (i : Nat) (k : Nat) : Bool := k / 26 == i || k % 26 == i

/-- Transfers in flight into or out of island `i` are dropped: what comes from elsewhere is lost (R21). -/
def State.dropFifos (s : State) (i : Nat) : State :=
  let hit := (s.fifos.filter (fun x => x.1 / 26 != i && x.1 % 26 == i)).flatMap (·.2)
  hit.foldl State.lostXfer { s with fifos := s.fifos.filter (fun x => !fifoTouches i x.1) }

/-- Engine `e` loses everything; what it asked of other devices is answered to nobody. -/
def State.clearEng (s : State) (e : Nat) : State := (((s.dropQput e).releaseRsv e).dropRemote e).setEng e {}

/-- The writes that slice `n` has still to capture are lost with its island. -/
def State.dropWrites (s : State) (n : Nat) : State :=
  (s.slice n).writes.foldl (fun t w => t.endXfer w.xfer .err 1) (s.setSlice n { s.slice n with writes := [] })

/-- The writes to stagger registers that TIM0 has still to capture are lost with it. -/
def State.dropStg (s : State) : State :=
  s.pwm.stg.foldl (fun t w => t.endXfer w.xfer .err 1) { s with pwm := { s.pwm with stg := [] } }

/-- Puts that wait at the queue manager are over: an engine's ends with a fault, a store with an error. -/
def State.dropWaits (s : State) : State :=
  let l := s.qm.waits
  l.foldl (fun u w => u.endWait w true) { s with qm := { s.qm with waits := [] }, dma := {} }

/-- The regrow of clutch `c` ends (R519); failures and a self-test that wait there stay. -/
def State.endRegrow (s : State) (c : Nat) : State := (s.setRgClu c { s.rgClu c with cur := none }).rgShow c

/-- What the mover asked of other devices is answered to nobody. -/
def State.dropMover (s : State) : State := (List.range 64).foldl (fun t c => t.dropRemote (258 + c)) s

/-- System SRAM's queues, DMA channels and reservations, and what its reset ends with them (R471). -/
def State.clearSys (s : State) : State :=
  let t := ((List.range 32).foldl State.regrowLost s.emptyGroups).dropWaits.tearPulse
  let t := (t.resetInputs (fun i => decide (2096 ≤ i) && decide (i < 2160))).dropMover
  { t with qm := {}, dma := {}, rsv := { t.rsv with held := t.rsv.held.filter (fun r => !inSram (8 * r.granule) 8) } }

/-- The slices, zones, captures and windows of timing island `m`: writes still to be captured end with an error, windows close, and
activations that have not been taken are lost (R113). -/
def State.clearTim (s : State) (m : Nat) : State :=
  let ns := (List.range 16).map (fun j => 16 * m + j)
  let t := s.each ns (fun u n => (u.closeWinsOf n u.tb).dropWrites n)
  let t := ns.foldl (fun u n => u.setSlice n {}) t
  let t := (if m = 0 then t.dropStg else t).resetInputs (fun i => (decide (2160 ≤ i) && decide (i < 2192) && (i - 2160) / 8 == m) ||
    (decide (2192 ≤ i) && decide (i < 2256) && (i - 2192) / 16 == m) || (decide (3000 ≤ i) && decide (i < 3064) && (i - 3000) / 16 == m))
  let t := (List.range 8).foldl (fun u j => u.setZone (8 * m + j) {}) t
  { t with trip := { t.trip with zeros := t.trip.zeros.filter (fun x => x.1 / 8 != m)
                                 lost := t.trip.lost.filter (fun x => x.1 / 8 != m)
                                 caps := t.trip.caps.filter (fun x => x.1 / 8 != m) } }

/-- The links and standard interfaces: remote requests end with errors, and with joined the device leaves the shared timebase (R295). -/
def State.clearLnk (s : State) : State :=
  let t := s.swl.outs.foldl (fun u o => u.endRemote o true 0) s
  let t := t.resetInputs (fun i => (decide (2328 ≤ i) && decide (i < 2376)) || (decide (2392 ≤ i) && decide (i < 2904)))
  { t with fr := {}, swl := {}, std := { jtag := t.std.jtag, marks := t.std.marks } }

/-- The engines of clutch `c`, its regrow, and what its memories still wait for. -/
def State.clearClu (s : State) (c : Nat) : State :=
  let t := (newtsOf c).foldl (fun u n => { u.clearEng n with av := { u.av with sigev := sput none n none u.av.sigev } })
    (s.setRgClu c {})
  let mine (a : Nat) : Bool := decide (0x20000000 + c * 0x200000 ≤ a) && decide (a < 0x20000000 + (c + 1) * 0x200000)
  { t with cc := { t.cc with late := t.cc.late.filter (fun x => !mine x.1)
                             refill := t.cc.refill.filter (fun x => x.1 / 64 != c) }
           rsv := { t.rsv with held := t.rsv.held.filter (fun r => !mine (8 * r.granule)) } }

/-- What the blocks of island `i` hold beside registers goes back to its state at reset. -/
def State.clearIsl (s : State) (i : Nat) : State :=
  if i = islAON then { s with fab := {}, mon := { s.mon with comp := [] }, routed := [] }
  else if i = islSYS then s.clearSys
  else if i < islANA then s.clearTim (i - 2)
  else if i = islANA then { s.resetInputs (fun j => decide (2080 ≤ j) && decide (j < 2096)) with cv := {} }
  else if i = islLNK then s.clearLnk
  else if i < 10 then s.clearEng (256 + (i - 8))
  else s.clearClu (i - 10)

/-- The island is held in reset: its fields that list ISL return to their reset values, its READY bits clear. -/
def State.holdIsl (s : State) (i : Nat) : State :=
  let sel (a : Nat) : Bool := !isReadyReg a && s.islandOf a == i
  let t := (s.unstageHit sel).dropFifos i
  let t := (t.clearIsl i).resetRegs 4 sel
  let t := if i = islLNK && s.inTandem then t.sharedChanged t.tb else if 10 ≤ i then t.relocksOver else t
  let t := { t with rst := { t.rst with init := t.rst.init.filter (fun m =>
      if i = islSYS then decide (m < 16) else m + 10 != i) } }
  let t := (t.unreadyIsl i).setReady 22 i false
  let t := if i = islAON then t.setHold else t
  if i = islAON && s.loading then
    { t with rst := { t.rst with step := 0 } }.incSat aLOAD_STATUS LOAD_STATUS.restarts
  else t.showMode

/-! ### Island resets (R471) -/

/-- The island that a code of ISL_RST names. -/
def islOfCode (c : Nat) : Option Nat := if c < 10 then some c else if 16 ≤ c ∧ c < 32 then some (c - 6) else none

/-- A write of go to ISL_RST: the idle request begins, unless one is in progress or the island is not released. -/
def State.islGo (s : State) (code : Nat) : State :=
  match islOfCode code with
  | some i =>
    if s.rst.isl.isSome || !s.alive i then s.set aRST_STATUS RST_STATUS.bad_req 1
    else
      let t := { s with rst := { s.rst with isl := some { isl := i, held := false, start := s.tb } } }
      (t.set aRST_STATUS RST_STATUS.isl_busy 1).set aRST_STATUS RST_STATUS.last_island code
  | none => s.set aRST_STATUS RST_STATUS.bad_req 1

/-- A write to ISL_RST. -/
def wrIslRst (q : Req) (w : Word) (s : State) : State :=
  settle s (s.write q islAON 0 (fun t =>
    let u := t.storeDirect aISL_RST fISL_RST w
    if getBits w ISL_RST.go = 1 then u.islGo (getBits w ISL_RST.island) else u))

/-- ISL_RST. -/
def execIslRst (q : Req) (w : Word) (s : State) : Host.Outcome State Fault Refusal := .next (s.crossTo q true aISL_RST w (wrIslRst q w))

/-- Does engine `e` have transfers outstanding? -/
def State.engBusy (s : State) (e : Nat) : Bool :=
  let x := s.eng e
  !x.buf.isEmpty || decide (0 < x.acks) || x.wait == .load

/-- The engines of island `i`. -/
def islEngs (i : Nat) : List Nat := if 10 ≤ i then newtsOf (i - 10) else if 8 ≤ i then [256 + (i - 8)] else []

/-- Do accesses that have reached island `i`, or that it makes by itself, still wait for their end: puts on a full queue and DMA, requests
on Swimlink, writes that are to be captured, feeds? -/
def State.islWaits (s : State) (i : Nat) : Bool :=
  if i = islSYS then !s.qm.waits.isEmpty || s.dma.ch.any (fun x =>
    (x.2.phase == .run && x.2.sent != x.2.answered) || !x.2.answers.isEmpty || decide (0 < x.2.acks))
  else if i = islLNK then !s.swl.outs.isEmpty
  else if i = islANA then s.cv.conv.any (fun x => x.2.feed.isSome) || s.cv.sdm.any (fun x => x.2.feed.isSome)
  else (decide (2 ≤ i) && decide (i < 6) && s.pwm.slice.any (fun x => x.1 / 16 + 2 == i && !x.2.writes.isEmpty)) ||
    (i == 2 && !s.pwm.stg.isEmpty)

/-- Is no transfer outstanding into or out of island `i`, and are its FIFOs empty? -/
def State.islIdle (s : State) (i : Nat) : Bool :=
  s.fifos.all (fun x => !fifoTouches i x.1 || x.2.isEmpty) && (islEngs i).all (fun e => !s.engBusy e) && !s.islWaits i

/-- ISL_IDLE_DONE: island `i` is idle, or the idle wait has lasted timeout µs; the reset phase begins. -/
def execIslIdleDone (i : Fin 26) (s : State) : Host.Outcome State Fault Refusal :=
  fin s (match s.rst.isl with
    | some x =>
      let late := decide (x.start + 1000 * s.get aISL_RST ISL_RST.timeout ≤ s.tb)
      if x.isl = i.val ∧ x.held = false ∧ (s.islIdle i || late) = true then
        let t := s.flagIf (!s.islIdle i) aRST_STATUS RST_STATUS.idle_timeout
        { t with rst := { t.rst with isl := some { x with held := true, start := s.tb } } }.holdIsl i
      else s
    | none => s)

/-! ### Block resets (R472) -/

/-- The number of blocks of each kind. -/
def blkCount (kind : Nat) : Nat := [256, 64, 32, 32, 48, 8, 40, 0].getD kind 0

/-- The READY bit of a block. -/
def blkReady (kind k : Nat) : Nat × Nat :=
  match kind with
  | 0 => (k / 32, k % 32)
  | 1 => (13 + k / 32, k % 32)
  | 2 => (8, k)
  | 3 => (9, k)
  | 4 => (17 + k / 32, k % 32)
  | 5 => (19, k)
  | _ => if k < 24 then (19, 8 + k) else (20, k - 24)

/-- The first address and the number of bytes of a standard interface's registers. -/
def stdRange (k : Nat) : Nat × Nat :=
  if k < 2 then (aMAC_CFG k, 0x1000)
  else if k < 4 then (aXSPI_CFG (k - 2), 0x1000)
  else if k < 16 then (aI2C_CFG (k - 4), 0x100)
  else if k < 24 then (aSPI_CFG (k - 16), 0x100)
  else if k < 32 then (aUART_CFG (k - 24), 0x100)
  else (aCAN_CFG (k - 32), 0x1000)

/-- Does the register at `a` belong to the block? -/
def blkHas (kind k a : Nat) : Bool :=
  let within (b n : Nat) : Bool := decide (b ≤ a) && decide (a < b + n)
  match kind with
  | 0 => within (engBase k) 0x1000
  | 1 => within (aSL_CTRL k) 0x400
  | 2 => within (aCONV_CTRL k) 0x400
  | 3 => within (aSD_CTRL k) 0x40
  | 4 => within (aFR_CFG k) 0x40 || within (aFR_SE0 k 0) 0x1000
  | 5 => within (aSWL_CFG k) 0x40
  | 6 => within (stdRange k).1 (stdRange k).2
  | _ => false

/-- Converter `k` drops its conversion: its group does not wait for it (R64, R87). -/
def State.dropConv (s : State) (k : Nat) : State :=
  (List.range 16).foldl (fun t g => match (t.group g).trig with
    | some tr => (t.setGroup g { t.group g with trig := some { tr with members := tr.members.filter (fun m => m.1 != k) } }).groupDone
        g k (max (tr.sample + 45) t.tb)
    | none => t) s

/-- Does transfer `y` come from the block: from a Newt, the feed of a converter or input, a request that a Swimlink port brought? -/
def blkFrom (kind k : Nat) (y : Xfer) : Bool := match kind, y.st.kind with
  | 2, .feed false j _ | 3, .feed true j _ => j == k
  | _, .feed _ _ _ => false
  | 0, _ => y.eng == k
  | 5, _ => y.eng == 323 + k
  | _, _ => false

/-- Is transfer `y` on its way to the block: to its registers, a Newt's memories, the memory on an XSPI port? -/
def blkTo (kind k : Nat) (y : Xfer) : Bool :=
  let a := y.st.addr
  match y.st.kind with
  | .arm _ | .stale => false
  | _ => blkHas kind k a || (kind == 0 && decide (engRam k ≤ a) && decide (a < engRam k + 0x10000)) ||
    (kind == 6 && (k == 2 || k == 3) && decide (0x80000000 ≤ a) && decide (a < 0xC0000000) && (a - 0x80000000) / 0x20000000 == k - 2)

/-- What is in flight to or from the block is dropped; the requesters of what was on its way to it get error responses (R444, R472). -/
def State.dropBlk (s : State) (kind k : Nat) : State :=
  let gone := (s.fifos.flatMap (·.2)).filter (fun y => blkTo kind k y && !blkFrom kind k y)
  let left := s.fifos.map (fun x => (x.1, x.2.filter (fun y => !(blkTo kind k y || blkFrom kind k y))))
  gone.foldl State.lostXfer { s with fifos := left.filter (fun x => !x.2.isEmpty) }

/-- Does the block have traffic in flight, which its reset drops? -/
def State.blkTraffic (s : State) (kind k : Nat) : Bool :=
  s.fifos.any (fun x => x.2.any (fun y => blkTo kind k y || blkFrom kind k y)) || match kind with
  | 0 => s.engBusy k
  | 1 => !(s.slice k).writes.isEmpty
  | 2 => (s.conv k).feed.isSome
  | 3 => (s.sdm k).feed.isSome
  | 4 => !(s.frPort k).outs.isEmpty || !(s.frPort k).retry.isEmpty
  | 5 => !(s.swlPort k).waiting.isEmpty || s.swl.outs.any (fun o => o.port == k)
  | 6 => if 4 ≤ k ∧ k < 32 then !(s.serial (k - 4)).tx.isEmpty || (s.serial (k - 4)).shift.isSome || (s.serial (k - 4)).inb.isSome
         else if k = 2 ∨ k = 3 then s.on (aXSPI_CSTAT (k - 2)) XSPI_CSTAT.busy
         else if 32 ≤ k then s.reg (aCAN_TXREQ (k - 32)) != 0 else false
  | _ => false

/-- Does the regrow of a clutch concern Newt `k` of it: has it failed, or is it the spare? -/
def Regrow.has (r : Regrow) (k : Nat) : Bool := r.k == k || r.spare == k

/-- What a regrow, a failure or a self-test of Newt `k` of clutch `c` has under way ends with a reset of the Newt (R519). -/
def State.dropRegrow (s : State) (c k : Nat) : State :=
  let x := s.rgClu c
  (s.setRgClu c { cur := x.cur.filter (fun r => !r.has k), waiting := x.waiting.filter (fun y => y.k != k),
                  test := x.test.filter (fun j => j != k) }).rgShow c

/-- What the block holds beside registers goes back to its state at reset. -/
def State.clearBlk (s : State) (kind k : Nat) : State :=
  match kind with
  | 0 =>
    ((s.clearEng k).resetInputs (fun i => i / 8 == k)).dropRegrow (k / 16) (k % 16)
  | 1 => (((s.stopSlice k s.tb).dropWrites k).setSlice k { blkLow := true }).resetInputs (fun i => i == 2192 + k || i == 3000 + k)
  | 2 => (s.dropConv k).setConv k {}
  | 3 => s.setSdm k {}
  | 4 => (s.frOff k).resetInputs (fun i => i == 2328 + k)
  | 5 => (s.swlDown k).resetInputs (fun i => decide (2392 + 64 * k ≤ i) && decide (i < 2456 + 64 * k))
  | 6 =>
    if k < 2 then { s with std := { s.std with pause := s.std.pause.filter (fun x => x.1 != k) } }
    else if k < 4 then
      { s with std := { s.std with xspi := s.std.xspi.filter (fun x => x.1 != k - 2)
                                   xwait := s.std.xwait.filter (fun x => x.1 != k - 2) } }
    else if k < 32 then s.setSerial (k - 4) {} else s.setCan (k - 32) {}
  | _ => s

/-- One block is reset at once. -/
def State.resetBlk (s : State) (kind k : Nat) : State :=
  let t := s.flagIf (s.blkTraffic kind k) aRST_STATUS RST_STATUS.blk_busy
  let t := ((t.dropBlk kind k).clearBlk kind k).unstageHit (blkHas kind k)
  let t := t.resetRegs 8 (blkHas kind k)
  let t := t.setReady (blkReady kind k).1 (blkReady kind k).2 false
  let l : List BlkRst := t.rst.blk.filter (fun b => decide (t.tb < b.ends)) ++ [{ kind := kind, index := k, ends := t.tb + 640 }]
  { t with rst := { t.rst with blk := l } }.showMode

/-- A write to BLK_RST. -/
def wrBlkRst (q : Req) (w : Word) (s : State) : State :=
  settle s (s.write q islAON 0 (fun t =>
    let u := t.storeDirect aBLK_RST fBLK_RST w
    let kind := getBits w BLK_RST.kind
    let k := getBits w BLK_RST.index
    if getBits w BLK_RST.go = 0 then u
    else if k < blkCount kind then u.resetBlk kind k else u.set aRST_STATUS RST_STATUS.bad_req 1))

/-- BLK_RST. -/
def execBlkRst (q : Req) (w : Word) (s : State) : Host.Outcome State Fault Refusal := .next (s.crossTo q true aBLK_RST w (wrBlkRst q w))

end Sys2Proof.Machine
end

