-- ==== Sys2Proof/Machine/Load.lean ====
section
/-!
DEFINITION. The hardware loader: factory trims from OTP (R483 to R486) and user calibration from NVM (R487, R488).
-/

namespace Sys2Proof.Machine

/-- The bytes of words, each least significant byte first. -/
def bytesOf (ws : List Word) : List Byte := ws.flatMap wordBytes

/-- Does any of `n` words from `a` on read uncorrectable? -/
def State.anyUe (s : State) (a n : Nat) : Bool := (List.range n).any (fun i => s.ue.contains (a + 4 * i))

/-- `n` words of memory from `a` on. -/
def State.wordsAt (s : State) (a n : Nat) : List Word := (List.range n).map (fun i => s.word (a + 4 * i))

/-! ### Factory trims -/

/-- A trim record as one copy holds it: kind, index, data words, whether the copy is valid (R485). -/
structure TrimRec where
  kind : Nat
  index : Nat
  data : List Word
  valid : Bool
  deriving DecidableEq, Repr

/-- Are the reserved bits of a record's data words 0 (R484)? -/
def trimClean (kind : Nat) (d : List Word) : Bool :=
  if kind = 1 then decide ((d.getD 0 0).toNat < 2 ^ 20) && decide ((d.getD 1 0).toNat < 2 ^ 18)
  else if kind = 2 then decide ((d.getD 0 0).toNat < 2 ^ 16) else true

/-- The records of the copy that starts at `base`, from word `i` on; `fuel` bounds the walk by the copy's 4,096 words. -/
def State.trimWalk (s : State) (base : Nat) : Nat → Nat → List TrimRec
  | 0, _ => []
  | fuel + 1, i =>
    if 4096 ≤ i then []
    else
      let a := base + 4 * i
      let h := (s.word a).toNat
      if h / 2 ^ 24 = 0xFF then []
      else
        let n := h % 2 ^ 12
        let ws := s.wordsAt a (n + 1)
        let d := ws.drop 1
        let ok := !s.anyUe a (n + 2) && s.word (a + 4 * (n + 1)) == crc32 (bytesOf ws) && h / 2 ^ 12 % 16 == 0 &&
          decide (1 ≤ n) && decide (n ≤ 4000) && trimClean (h / 2 ^ 24) d && decide (i + n + 2 ≤ 4096)
        { kind := h / 2 ^ 24, index := h / 2 ^ 16 % 256, data := d, valid := ok } :: s.trimWalk base fuel (i + n + 2)

/-- The three copies (R483). -/
def State.trimCopies (s : State) : List (List TrimRec) :=
  [0x0F000000, 0x0F004000, 0x0F008000].map (fun b => s.trimWalk b 4096 0)

/-- What the loader makes of the copies of one record. -/
inductive Chosen where
  | value (d : List Word) (single : Bool)
  | conflict
  | missing
  deriving DecidableEq, Repr

/-- The choice of R485 among the data of the valid copies. -/
def chooseTrim : List (List Word) → Chosen
  | [] => .missing
  | [a] => .value a true
  | [a, b] => if a = b then .value a false else .conflict
  | a :: b :: c :: _ => if a = b ∨ a = c then .value a false else if b = c then .value b false else .conflict

/-- The copies of a record that are valid: in each copy the first record of the kind and index. -/
def trimOf (cs : List (List TrimRec)) (kind index : Nat) : Chosen :=
  chooseTrim (cs.filterMap (fun c => match c.find? (fun r => r.kind == kind && r.index == index) with
    | some r => if r.valid then some r.data else none
    | none => none))

/-- Every record that the table of R484 names, as kind and index. -/
def trimKeys : List (Nat × Nat) :=
  [(1, 32), (2, 96), (3, 4), (4, 1), (5, 128), (6, 1)].flatMap (fun x => (List.range x.2).map (fun i => (x.1, i)))

/-- Does the record serve an island that FROST made dark: converters, references, outputs? -/
def trimDark (kind : Nat) : Bool := kind == 1 || kind == 3 || kind == 5

/-- The READY bits, as 32·word + bit, of the functions that a record governs (R484). -/
def trimGoverns (kind i : Nat) : List Nat :=
  if kind = 1 then [32 * 8 + i]
  else if kind = 2 then [32 * 10 + i]
  else if kind = 3 then
    [32 * 21 + 16 + i] ++ (List.range 8).map (fun j => 32 * 8 + 8 * i + j) ++ (List.range 24).map (fun j => 32 * 10 + 24 * i + j)
  else if kind = 5 then [32 * 13 + i / 2]
  else []

/-- A chosen record is applied. -/
def State.applyTrim (s : State) (kind i : Nat) (d : List Word) : State :=
  let t := { s with trims := sput [] (256 * kind + i) d s.trims }
  if kind = 1 then (t.set (aCONV_OF i) CONV_OF.of (d.getD 0 0).toNat).set (aCONV_GF i) CONV_GF.gf (d.getD 1 0).toNat
  else if kind = 2 then
    ((t.set (aWM_TRIM i) WM_TRIM.tf_h ((d.getD 0 0).toNat / 256)).set (aWM_TRIM i) WM_TRIM.tf_l ((d.getD 0 0).toNat % 256)).applyThr i
  else t

/-- A record without a choice: its functions stay out of READY, and TRIM_INFO counts it (R485). -/
def State.badTrim (s : State) (kind i : Nat) (conflict : Bool) : State :=
  let new := (trimGoverns kind i).filter (fun b => !s.trimConflicts.contains b)
  let t := { s with trimConflicts := s.trimConflicts ++ new }
  let t := if conflict then t.set aLOAD_STATUS LOAD_STATUS.trim_conflict 1 else t
  if s.rst.wake then t
  else
    let a := aTRIM_INFO
    let t := if t.get a TRIM_INFO.n_bad = 0 then (t.set a TRIM_INFO.first_kind kind).set a TRIM_INFO.first_index i else t
    (t.flagIf (!conflict) a TRIM_INFO.missing).incSat a TRIM_INFO.n_bad

/-- The loader's choice for one record takes effect. -/
def State.loadTrim (s : State) (cs : List (List TrimRec)) (key : Nat × Nat) : State :=
  match trimOf cs key.1 key.2 with
  | .value d single => (s.flagIf (single && !s.rst.wake) aTRIM_INFO TRIM_INFO.single).applyTrim key.1 key.2 d
  | .conflict => s.badTrim key.1 key.2 true
  | .missing => s.badTrim key.1 key.2 false

/-- Is a load due to end: step `k` of the release order has ended, and 16 AON cycles have passed? -/
def State.loadDue (s : State) (k : Nat) : Bool := s.mode == .bringup && s.alive islAON && s.rst.step == k && decide (s.rst.stepTick + 640 ≤ s.tb)

/-- The factory trims are applied, all at once (R466); on a wake those of dark islands only (R486). -/
def State.trimLoad (s : State) : State :=
  let cs := s.trimCopies
  let keys := trimKeys.filter (fun k => !s.rst.wake || trimDark k.1)
  let t := (keys.foldl (fun u k => u.loadTrim cs k) s).set aLOAD_STATUS LOAD_STATUS.trim_done 1
  let t := { t with rst := { t.rst with step := 2, stepTick := t.tb } }
  if t.get aTRIM_INFO TRIM_INFO.n_bad = 0 && keys.all (fun k => match trimOf cs k.1 k.2 with
    | .value _ _ => true
    | _ => false) then t.setReady 21 20 true else t

/-- TRIM_LOAD_DONE: step 2a ends. -/
def execTrimLoadDone (s : State) : Host.Outcome State Fault Refusal := .next (if s.loadDue 1 then s.trimLoad else s)

/-! ### User calibration -/

/-- The address of record `r` in copy 0 or 1 (R487). -/
def calAddr (copy r : Nat) : Nat := 0x00101000 + 0x800 * copy + 16 * r

/-- A valid copy of record `r` (R488): its words. -/
def State.calCopy (s : State) (copy r : Nat) : Option (List Word) :=
  let a := calAddr copy r
  let ws := s.wordsAt a 4
  let w (i : Nat) : Nat := (ws.getD i 0).toNat
  let key := if r < 32 then 0x100 + r else 0x200 + (r - 32)
  let clean := if r < 32 then decide (w 1 < 2 ^ 20) && decide (w 2 < 2 ^ 18) else decide (w 1 < 2 ^ 16) && w 2 == 0
  if !s.anyUe a 4 && w 0 != 0 && w 0 / 2 ^ 16 == key && clean && ws.getD 3 0 == crc32 (bytesOf (ws.take 3)) then some ws
  else none

/-- Is seq `a` newer than seq `b`? -/
def newer (a b : Nat) : Bool :=
  let d := (a + 65536 - b) % 65536
  decide (1 ≤ d) && decide (d ≤ 32767)

/-- The choice of R488 among the two copies: the words of the record, and the case. -/
def chooseCal : Option (List Word) → Option (List Word) → Chosen
  | some x, some y =>
    let sx := (x.getD 0 0).toNat % 65536
    let sy := (y.getD 0 0).toNat % 65536
    if newer sx sy then .value x false
    else if newer sy sx then .value y false
    else if sx = sy ∧ x.getD 1 0 = y.getD 1 0 ∧ x.getD 2 0 = y.getD 2 0 then .value x false
    else .conflict
  | some x, none => .value x true
  | none, some y => .value y true
  | none, none => .missing

/-- The user values of record `r`: words 1 and 2. -/
def State.applyCal (s : State) (r : Nat) (w1 w2 : Nat) : State :=
  if r < 32 then (s.set (aCONV_OU r) CONV_OU.ou w1).set (aCONV_GU r) CONV_GU.gu w2
  else
    let a := aWM_TRIM (r - 32)
    ((s.set a WM_TRIM.tu_h (w1 / 256)).set a WM_TRIM.tu_l (w1 % 256)).applyThr (r - 32)

/-- Factory values alone: Ou = 0, Gu = 0x1_0000, tu = 0 (R68, R90). -/
def State.factoryCal (s : State) (r : Nat) : State := s.applyCal r 0 (if r < 32 then 0x10000 else 0)

/-- The loader's choice for record `r` takes effect. -/
def State.loadCal (s : State) (r : Nat) : State :=
  let a := aCAL_INFO
  let c := chooseCal (s.calCopy 0 r) (s.calCopy 1 r)
  let s := (s.noteAll (calAddr 0 r) 4).noteAll (calAddr 1 r) 4
  match c with
  | .value d single =>
    let t := s.applyCal r (d.getD 1 0).toNat (d.getD 2 0).toNat
    if single && !s.rst.wake then t.incSat a CAL_INFO.n_single else t
  | .missing => if s.rst.wake then s.factoryCal r else (s.factoryCal r).incSat a CAL_INFO.n_default
  | .conflict =>
    let t := (s.factoryCal r).set aLOAD_STATUS LOAD_STATUS.cal_conflict 1
    if s.rst.wake then t
    else
      let t := if t.get a CAL_INFO.n_conflict = 0 then t.set a CAL_INFO.first_conflict r else t
      t.incSat a CAL_INFO.n_conflict

/-- The user calibration is applied, all at once; on a wake the converters' records only (R486). -/
def State.calLoad (s : State) : State :=
  let t := (List.range (if s.rst.wake then 32 else 128)).foldl (fun u r => u.loadCal r) s
  let t := (t.set aLOAD_STATUS LOAD_STATUS.cal_done 1).setReady 21 21 true
  { t with rst := { t.rst with step := 3, stepTick := t.tb } }

/-- CAL_LOAD_DONE: step 2b ends. -/
def execCalLoadDone (s : State) : Host.Outcome State Fault Refusal := .next (if s.loadDue 2 then s.calLoad else s)

end Sys2Proof.Machine
end

