-- ==== Sys2Proof/Machine/Lowpower.lean ====
section
/-!
DEFINITION. Mode requests, LULL, WATCH, FROST and the wake from it, the temperature sensor (R475 to R482, R549).
-/

namespace Sys2Proof.Machine

/-! ### Mode requests (R474, R475) -/

/-- WATCH is entered: hold sets, watch_keep governs the clocks (R479). -/
def State.toWatch (s : State) : State :=
  ({ s with rst := { s.rst with kept := s.get aMODE_REQ MODE_REQ.watch_keep, leaving := false } }.set aSAFE_CTRL SAFE_CTRL.hold
    1).enter .watch

/-- WATCH is left: every clock comes back, and SAFEHOLD is shown when every clutch has relocked. -/
def State.leaveWatch (s : State) : State :=
  if s.rst.leaving then s
  else
    let t := ({ s with rst := { s.rst with leaving := true } }).relockAll (List.range 16)
    if t.on aMODE MODE.relocking then t else t.enter .safehold

/-- FROST may be refused for three causes (R475). -/
def State.frostBar (s : State) : Option Nat :=
  if s.shownMode = 6 then some 2
  else if (List.range 256).any (fun n => s.on (aENG_CTRL n) ENG_CTRL.run && !s.cluRet (n / 16)) then some 3
  else if s.get aWAKE_CFG WAKE_CFG.en = 0 then some 4
  else none

/-- The levels that TRIPOUT keeps through FROST. -/
def State.tripoutMask (s : State) : Nat :=
  (List.range 8).foldl (fun m j => m + (if s.tripout j then 2 ^ j else 0)) 0

/-- FAULTn is asserted (R463, R508). -/
def State.faultLow (s : State) : Bool :=
  if s.mode == .frost then s.rst.outKept / 256 % 2 == 1
  else s.mode == .reset || s.on aFAULT_CFG FAULT_CFG.sw_assert ||
    (let m (i : Nat) : Bool := s.bit aFAULT_CFG i
     (m 0 && s.on aECC_UE_INFO ECC_UE_INFO.valid) || (m 1 && (s.pairFailed 0 || s.pairFailed 1)) ||
       (m 2 && s.on aSYS_WDT_STATUS SYS_WDT_STATUS.pre_expiry) || (m 3 && s.mode == .tripped) ||
       (m 4 && s.on aMODE MODE.degraded) || (m 5 && (List.range 16).any (fun c => s.on (aREGROW_STATUS c) REGROW_STATUS.no_spare)))

/-- FROST is shown, and its entry begins: hold sets (R480). -/
def State.toFrost (s : State) : State :=
  let t := { s with rst := { s.rst with entry := some s.tb, wakePend := none, beforeFrost := s.mode, stopDue := true
                                        outKept := s.tripoutMask + (if s.faultLow then 256 else 0) } }
  (t.set aSAFE_CTRL SAFE_CTRL.hold 1).enter .frost

/-- Does the wait at the queue manager belong to a DMA channel? -/
def QWait.ofDma (w : QWait) : Bool := match w.who with
  | .dma _ => true
  | _ => false

/-- The entry to FROST goes on once the AON cycle of the request is over: commit groups are emptied, DMA channels and the ports of
Fieldring and Swimlink stop without records (R380, R414, R480). -/
def State.frostStops (s : State) : State :=
  let t := { s.emptyGroups.dropMover with dma := {}, fr := {}, qm := { s.qm with waits := s.qm.waits.filter (fun w => !w.ofDma) }
                                          rst := { s.rst with stopDue := false } }
  let t := (List.range 64).foldl (fun u c => (u.set (aDMA_STAT c) DMA_STAT.busy 0).unhold (2096 + c)) t
  let t := (List.range 48).foldl (fun u p => u.set (aFR_STATUS p) FR_STATUS.state frOFF) t
  (List.range 8).foldl (fun u l => u.swlDown l) t

/-- The entry to FROST goes on, where it is due. -/
def State.frostEntry (s : State) : State :=
  if s.rst.stopDue && !s.reqNow then s.frostStops else s

/-- An accepted request is noted with its tick (R477). -/
def State.noteReq (s : State) : State := { s with rst := { s.rst with reqTick := some s.tb } }

/-- What a request for mode `target` does (R474, R475). -/
def State.modeReq (s0 : State) (target : Nat) : State :=
  let s := s0.noteReq
  if target = s0.shownMode then s
  else match target, s0.mode with
    | 7, .run => s.enter .lull
    | 8, .run | 8, .lull => s.toWatch
    | 4, .lull => s.enter .run
    | 4, .watch => s.leaveWatch
    | 9, .safehold | 9, .run | 9, .lull | 9, .watch => (match s.frostBar with
      | some c => s0.refuseMode c
      | none => s.toFrost)
    | 11, .safehold | 11, .run | 11, .lull | 11, .watch | 11, .halt => s0.tripMode 1
    | _, _ => s0.refuseMode 1

/-- A write to MODE_REQ, from ring 0. -/
def wrModeReq (q : Req) (w : Word) (s : State) : State :=
  settle s (s.write q islAON 0 (fun t => (t.storeDirect aMODE_REQ fMODE_REQ w).modeReq (getBits w MODE_REQ.target)))

/-- MODE_REQ_LULL: clutches go to 200 MHz, converters to low power (R478). -/
def execModeReqLull (q : Req) (w : Word) (s : State) : Host.Outcome State Fault Refusal := .next (s.crossTo q true aMODE_REQ w (wrModeReq q w))

/-- MODE_REQ_WATCH. -/
def execModeReqWatch (q : Req) (w : Word) (s : State) : Host.Outcome State Fault Refusal := .next (s.crossTo q true aMODE_REQ w (wrModeReq q w))

/-- MODE_REQ_RUN: leaves LULL for the run family, WATCH for SAFEHOLD. -/
def execModeReqRun (q : Req) (w : Word) (s : State) : Host.Outcome State Fault Refusal := .next (s.crossTo q true aMODE_REQ w (wrModeReq q w))

/-- MODE_REQ_FROST. -/
def execModeReqFrost (q : Req) (w : Word) (s : State) : Host.Outcome State Fault Refusal := .next (s.crossTo q true aMODE_REQ w (wrModeReq q w))

/-- MODE_REQ_TRIPPED. -/
def execModeReqTripped (q : Req) (w : Word) (s : State) : Host.Outcome State Fault Refusal := .next (s.crossTo q true aMODE_REQ w (wrModeReq q w))

/-! ### FROST (R480) -/

/-- An engine of a clutch that FROST retains: what it waits for is abandoned, and its far stores whose targets go dark are
dropped and reported (R21, R480). -/
def State.freezeEng (s : State) (e : Nat) : State :=
  let x := s.eng e
  let gone := x.buf.filterMap (fun b => match b.kind with
    | .far | .near _ => some ({ addr := b.addr, data := b.data, size := b.size, ring := b.ring, cause := 1 } : StoreErr)
    | _ => none)
  s.setEng e { x with wait := .none, cur := [], got := [], seen := [], buf := [], acks := 0, bankAcks := 0, errs := x.errs ++ gone, moder := [],
                      rsv := none, reply := .none }

/-- Does FROST keep the register at `a` beyond its classes: is it in a clutch with retention? -/
def State.frostKeeps (s : State) (a : Nat) : Bool :=
  decide (0x20000000 ≤ a) && decide (a < 0x22000000) && s.cluRet ((a - 0x20000000) / 0x200000)

/-- Does the memory at byte address `a` keep its contents through FROST (R482)? Staged copies of pages stand above the map. -/
def State.frostMem (s : State) (a : Nat) : Bool :=
  decide (a < 0x10000000) || (decide (a < 0x10800000) && s.sramRet ((a - 0x10000000) / 0x100000)) || s.frostKeeps a ||
    (decide (0x200000000 ≤ a) && s.frostKeeps (a - 0x200000000))

/-- The second copy of the session counter is durable: the number is this session's (R43, R493). -/
def State.sessValid (s : State) (v : Word) : State :=
  { (s.setReg aSESSION v).set aTB_STATUS TB_STATUS.session_valid 1 with nvm := { s.nvm with sessDone := true, sess := none } }

/-- A pulse in progress ends: its word is written (R491). -/
def State.endPulse (s : State) : State :=
  match s.nvm.pulse with
  | some p =>
    let t := { (s.keepErrs (fun a => a != p.addr)).putWord p.addr p.data with nvm := { s.nvm with pulse := none } }
    match s.nvm.sess with
    | some v => if p.addr = 0x100004 then t.sessValid v else t
    | none => t
  | none => s

/-- What the blocks outside the AON island hold is gone, as power-down begins (R480). -/
def State.darkBlocks (s : State) : State :=
  let t := { s.endPulse with rst := { s.rst with entry := none }, fifos := [] }
  let t := (s.fifos.flatMap (·.2)).foldl State.lostXfer t
  let t := t.each (List.range 64) (fun u n => (u.closeWinsOf n u.tb).dropWrites n)
  { t with cv := {}, qm := {}, swl := {}, fr := {}, dma := {}, rsv := {}
           std := { jtag := t.std.jtag, marks := t.std.marks }, routed := [], trip := { safenLow := t.trip.safenLow }
           time := { t.time with frost := true } }

/-- Slices and engines go dark; a clutch with retention freezes its Newts (R480). -/
def State.darkEngines (s t : State) : State :=
  let t := (List.range 64).foldl (fun u n => u.setSlice n {}) t
  let t := (List.range 16).foldl (fun u c =>
    if s.cluRet c then (newtsOf c).foldl State.freezeEng (u.endRegrow c) else u.clearIsl (islCLU c)) t
  (t.clearEng 256).clearEng 257

/-- Memory keeps what FROST retains, and no error elsewhere. -/
def State.darkMem (s t : State) : State :=
  { t.keepErrs s.frostMem with mem := t.mem.filter (fun x => s.frostMem x.1) }

/-- READY bits of everything that is dark clear. -/
def State.darkReady (t : State) : State :=
  let t := (List.range 25).foldl (fun u i => (u.unreadyIsl (i + 1)).setReady 22 (i + 1) false) t
  ((t.setReady 21 10 false).setReady 21 11 false).setReady 21 12 false

/-- The islands outside AON are dark: what FROST does not retain is lost (R480, R482). -/
def State.darken (s : State) : State :=
  let t := s.darkMem (s.darkEngines s.darkBlocks)
  let t := (t.resetRegs 16 (fun a => !isReadyReg a)).resetRegs 32 (fun a => !isReadyReg a && !s.frostKeeps a)
  let t := t.darkReady
  { t with rst := { t.rst with init := [], isl := none, blk := [] } }

/-- The wake starts (R481): BRINGUP, with the loads of the dark islands ahead. -/
def State.startWake (s : State) (w tick : Nat) : State :=
  let t := (s.put64 aWAKE_TB_LO aWAKE_TB_HI tick).set aWAKE_STATUS WAKE_STATUS.input w
  let t := t.set aWAKE_STATUS WAKE_STATUS.woke 1
  { t with rst := { t.rst with wake := true, step := 1, stepTick := t.tb, wakePend := none } }.enter .bringup

/-- Is a transfer on its way into the AON island, which does not go dark, or does an engine's buffer hold a store to it? -/
def State.toAon (s : State) : Bool :=
  s.fifos.any (fun x => x.1 % 26 == islAON && !x.2.isEmpty) ||
    s.engs.any (fun x => x.2.buf.any (fun b => match b.kind with
      | .far | .near _ => s.islandOf b.addr == islAON
      | _ => false))

/-- FROST_ENTRY_COMPLETE, once the AON island has taken what is on its way to it; a wake activation during the entry now starts the wake (R477). -/
def execFrostEntryComplete (s : State) : Host.Outcome State Fault Refusal :=
  fin s (if s.mode == .frost && s.rst.entry.isSome && !s.reqNow && !s.toAon then
    let t := s.frostEntry.darken
    match s.rst.wakePend with
    | some (w, k) => t.startWake w k
    | none => t
  else s)

/-- WAKE: an activation of consumer input 2376 + w, with bit w of WAKE_CFG set. -/
def execWake (w : Fin 16) (s : State) : Host.Outcome State Fault Refusal :=
  fin s (match s.actFor (2376 + w) with
    | some a =>
      let t := s.dropAct a
      let tick := (sget none s.fab.last (2376 + w)).getD s.tb
      if t.mode == .frost && t.bit aWAKE_CFG w then
        if t.rst.entry.isSome then
          (if t.rst.wakePend.isSome then t
           else { t with rst := { t.rst with wakePend := some (w.val, tick) } }.set aWAKE_STATUS WAKE_STATUS.in_entry 1)
        else t.startWake w tick
      else t
    | none => s)

/-! ### SK1 and the temperature sensor -/

/-- A write to SK_RUN: 1 starts SK1, which waits halted, at the boot ROM entry (R468). -/
def wrSkRun (q : Req) (w : Word) (s : State) : State :=
  s.write q islAON 0 (fun t =>
    let u := t.storeDirect aSK_RUN fSK_RUN w
    if getBits w SK_RUN.sk1_run = 1 && u.alive (islSUP 1) && u.halted 257 then u.startSkink 1 else u)

/-- SK1_RUN. -/
def execSk1Run (q : Req) (w : Word) (s : State) : Host.Outcome State Fault Refusal := .next (s.crossTo q true aSK_RUN w (wrSkRun q w))

/-- THERM_READING: the sensor reads Tj, in °C (R549). Without its trim tj stays 0 (R485). -/
def execThermReading (tj : Int) (s : State) : Host.Outcome State Fault Refusal :=
  let code := (saturateTo 1 255 (tj + 64)).toNat
  fin s (if !s.alive islAON || !s.on aLOAD_STATUS LOAD_STATUS.trim_done || (sget [] s.trims (256 * 6)).isEmpty then s
  else
    let t := s.set aTHERM THERM.tj code
    let c := t.get aTHERM THERM.warn_c
    let t := if c < code && !t.av.hot then
        { (t.fireIf (!t.on aTHERM THERM.warn) 1897).set aTHERM THERM.warn 1 with av := { t.av with hot := true } }
      else if code + 5 ≤ c then { t with av := { t.av with hot := false } } else t
    if c < code && t.on aTHERM THERM.trip_en then t.tripMode 2 else t)

end Sys2Proof.Machine
end

