-- ==== Sys2Proof/Machine/Nvm.lean ====
section
/-!
DEFINITION. NVM and OTP writes, the session counter, the boot ROM, the debug lock (R490 to R501).
-/

namespace Sys2Proof.Machine

/-! ### NVM word writes (R490 to R492) -/

/-- May ring `r` write the NVM word at byte offset `o` (R490)? -/
def State.nvmMay (s : State) (r o : Nat) : Bool :=
  if o < 0x1000 then r == 0 && s.on aNVM_STATUS NVM_STATUS.sess_bad
  else if o < 0x10000 then decide (r ≤ 1)
  else if o < 0x80000 then decide (r ≤ 1) && !s.on aNVM_PROT NVM_PROT.lock_img0
  else if o < 0xF0000 then decide (r ≤ 1) && !s.on aNVM_PROT NVM_PROT.lock_img1
  else decide (r ≤ 1)

/-- What a write to NVM_CMD by ring `r` does: a go with the key starts a pulse, or is refused (R492). -/
def State.nvmCmd (s : State) (r : Nat) (w : Word) : State :=
  if getBits w NVM_CMD.go = 0 then s
  else
    let o := 4 * s.get aNVM_WADDR NVM_WADDR.word
    if s.nvm.pulse.isSome || getBits w NVM_CMD.key != 0xC3 || !s.nvmMay r o then s.set aNVM_STATUS NVM_STATUS.cmd_err 1
    else
      { s with nvm := { s.nvm with pulse := some { addr := 0x100000 + o, data := s.reg aNVM_WDATA, start := s.tb } } }.set
        aNVM_STATUS NVM_STATUS.busy 1

/-- A write to NVM_CMD, from rings 0 and 1. -/
def wrNvmCmd (q : Req) (w : Word) (s : State) : State := s.write q islSYS 1 (fun t => t.nvmCmd (t.ringOf q) w)

/-- NVM_WRITE_CMD. -/
def execNvmWriteCmd (q : Req) (w : Word) (s : State) : Host.Outcome State Fault Refusal := .next (s.crossTo q true aNVM_CMD w (wrNvmCmd q w))

/-! ### The session counter (R43 to R45, R493) -/

/-- The greatest valid copy of the session counter. -/
def State.sessCopy (s : State) : Option Nat :=
  match s.ue.contains 0x100000, s.ue.contains 0x100004 with
  | true, true => none
  | true, false => some (s.word 0x100004).toNat
  | false, true => some (s.word 0x100000).toNat
  | false, false => some (max (s.word 0x100000).toNat (s.word 0x100004).toNat)

/-- What SESSION reads: until the increment of this session, the value in NVM (R43). -/
def State.sessionWord (s : State) : Word :=
  if s.nvm.sessDone then s.reg aSESSION else match s.nvm.sess with
    | some v => v - 1
    | none => BitVec.ofNat 32 (s.sessCopy.getD 0)

/-- The pulse that writes `v` into the copy of the session counter at `a` starts (R491, R493). -/
def State.sessPulse (s : State) (a : Nat) (v : Word) : State :=
  { s with nvm := { s.nvm with pulse := some { addr := a, data := v, start := s.tb }, sess := some v } }.set
    aNVM_STATUS NVM_STATUS.busy 1

/-- The procedure of R493 begins: the counter stops, or the pulse of copy A starts. -/
def State.sessBegin (s : State) : State :=
  let t := s.noteAll 0x100000 2
  let t' : State := { t with nvm := { t.nvm with sessDone := true } }
  match s.sessCopy with
  | none => (t'.set aNVM_STATUS NVM_STATUS.sess_bad 1).setReg aSESSION 0
  | some c =>
    if c = 2 ^ 32 - 1 then (t.sessValid (BitVec.ofNat 32 c)).set aTB_STATUS TB_STATUS.session_full 1
    else t.sessPulse 0x100000 (BitVec.ofNat 32 (c + 1))

/-- SESSION_INCREMENT: the procedure of R493, once after each POR; one that a SYS reset or FROST left between its two pulses goes on. -/
def execSessionIncrement (s : State) : Host.Outcome State Fault Refusal :=
  .next (if !s.alive islSYS || s.nvm.sessDone || s.nvm.pulse.isSome || s.mode == .frost then s
  else match s.nvm.sess with
    | some v => s.sessPulse 0x100004 v
    | none => s.sessBegin)

/-! ### The end of a pulse -/

/-- The pulse has ended: done sets, and the session counter's second copy follows its first. -/
def State.pulseOver (s : State) (p : Pulse) : State :=
  let t := (s.set aNVM_STATUS NVM_STATUS.busy 0).set aNVM_STATUS NVM_STATUS.done 1
  match s.nvm.sess with
  | some v => if p.addr = 0x100000 then t.sessPulse 0x100004 v else t
  | none => t

/-- NVM_PULSE_DONE: 1.2 µs after its start the word is written; during a SYS reset nothing else follows (R462). -/
def execNvmPulseDone (s : State) : Host.Outcome State Fault Refusal :=
  .next (match s.nvm.pulse with
    | some p =>
      if p.start + 1200 ≤ s.tb then
        let t := s.endPulse
        if t.alive islSYS then t.pulseOver p else t
      else s
    | none => s)

/-! ### OTP (R494, R495) -/

/-- The first byte of the security area. -/
def otpSec : Nat := 0x0F00C000

/-- May the word at offset `o` of the security area be programmed? -/
def State.otpMay (s : State) (o : Nat) : Bool :=
  if s.provisioned then (decide (0xD0 ≤ o) && decide (o < 0xDC)) || (decide (0xE0 ≤ o) && decide (o < 0x140))
  else decide (o < 0x170)

/-- What a write to OTP_PCMD does. -/
def State.otpCmd (s : State) (w : Word) : State :=
  let t := s.storeDirect aOTP_PCMD fOTP_PCMD w
  if getBits w OTP_PCMD.go = 0 then t
  else
    let o := 4 * t.get aOTP_PADDR OTP_PADDR.word
    if t.nvm.otp.isSome || getBits w OTP_PCMD.key != 0x3C || !t.otpMay o then t.set aOTP_PCMD OTP_PCMD.prog_err 1
    else { t with nvm := { t.nvm with otp := some (otpSec + o, t.reg aOTP_PDATA) } }.set aOTP_PCMD OTP_PCMD.busy 1

/-- A write to OTP_PCMD, from ring 0. -/
def wrOtpPcmd (q : Req) (w : Word) (s : State) : State := s.write q islAON 0 (fun t => t.otpCmd w)

/-- OTP_PROGRAM. -/
def execOtpProgram (q : Req) (w : Word) (s : State) : Host.Outcome State Fault Refusal := .next (s.crossTo q true aOTP_PCMD w (wrOtpPcmd q w))

/-- OTP_PROGRAM_DONE: the 1 bits of the data are set in the word; debug locks at the next reset (R499). -/
def execOtpProgramDone (s : State) : Host.Outcome State Fault Refusal :=
  .next (match s.nvm.otp with
    | some (a, w) =>
      let t := s.putWord a (s.word a ||| w)
      { t with nvm := { t.nvm with otp := none, provLate := t.nvm.provLate || (!s.provisioned && t.provisioned) } }.set
        aOTP_PCMD OTP_PCMD.busy 0
    | none => s)

/-- The majority of three bits. -/
def majority (a b c : Bool) : Bool := (a && b) || (a && c) || (b && c)

/-- Is key `i` revoked (R494)? -/
def State.revoked (s : State) (i : Nat) : Bool :=
  majority ((s.byte (otpSec + 0xD0)).getLsbD i) ((s.byte (otpSec + 0xD4)).getLsbD i) ((s.byte (otpSec + 0xD8)).getLsbD i)

/-- The least image version that may run: the number of bits set in the majority of the rollback copies. -/
def State.minVer (s : State) : Nat :=
  ((List.range 256).filter (fun i =>
    let bit (c : Nat) : Bool := (s.byte (otpSec + 0xE0 + 32 * c + i / 8)).getLsbD (i % 8)
    majority (bit 0) (bit 1) (bit 2))).length

/-! ### Boot (R496, R497) -/

/-- Byte `o` of slot `k` of a source (0 XSPI0, 1 NVM), as the `n`-th read of XSPI memory finds it. -/
def State.slotByte (s : State) (src k n o : Nat) : Byte :=
  if src = 0 then Config.xspiByte 0 n (k * 0x800000 + o) else s.byte ((if k = 0 then 0x110000 else 0x180000) + o)

/-- Is the word that holds byte `o` of a slot readable: does XSPI0 answer, is the word of the NVM good? -/
def State.slotOk (s : State) (src k o : Nat) : Bool :=
  if src = 0 then s.on (aXSPI_CFG 0) XSPI_CFG.en && s.isReady 19 10
  else !s.ue.contains ((if k = 0 then 0x110000 else 0x180000) + o / 4 * 4)

/-- A slot's header, if it reads. -/
def State.slotHeader (s : State) (src k : Nat) : Option (List Byte) :=
  if (List.range 128).all (fun i => s.slotOk src k (4 * i)) then
    some ((List.range 512).map (fun o => s.slotByte src k s.fresh o))
  else none

/-- A number of `n` bytes at offset `o` of a header, least significant first. -/
def hdrNum (h : List Byte) (o n : Nat) : Nat := leNat ((h.drop o).take n)

/-- Has a header the right magic and version, and an image version that may run (step 1)? -/
def State.isCandidate (s : State) (h : List Byte) : Bool :=
  hdrNum h 0 4 == 0x96001A6E && hdrNum h 4 4 == 1 && decide (s.minVer ≤ hdrNum h 8 4)

/-- The candidates of a source, in the order they are tried: slot and header. -/
def State.candidates (s : State) (src : Nat) : List (Nat × List Byte) :=
  let c (k : Nat) : List (Nat × List Byte) := match s.slotHeader src k with
    | some h => if s.isCandidate h then [(k, h)] else []
    | none => []
  match c 0, c 1 with
  | [a], [b] => if hdrNum a.2 8 4 < hdrNum b.2 8 4 then [b, a] else [a, b]
  | x, y => x ++ y

/-- The fields of R496 (step 2). -/
def hdrGood (h : List Byte) : Bool :=
  let len := hdrNum h 0xC 4
  let load := hdrNum h 0x10 4
  let entry := hdrNum h 0x14 4
  len % 16 == 0 && decide (16 ≤ len) && decide (len ≤ 458240) && decide (0x10000000 ≤ load) && load % 16 == 0 &&
    decide (load + len ≤ 0x10800000) && decide (load ≤ entry) && decide (entry + 4 ≤ load + len) &&
    decide (hdrNum h 0x18 4 < 2 ^ 30) && decide (hdrNum h 0x1C 4 ≤ 3) &&
    ((h.drop 0x80).take 0x80).all (fun b => b == 0) && ((h.drop 0x160).take 0xA0).all (fun b => b == 0)

/-- Is the image's key one that may sign (step 3)? -/
def State.keyGood (s : State) (h : List Byte) : Bool :=
  let i := hdrNum h 0x1C 4
  !s.provisioned || (!s.revoked i && sha384 ((h.drop 0x20).take 96) == s.bytesAt (otpSec + 0x10 + 48 * i) 48)

/-- Does the signature of the header and the payload copy verify (step 5)? -/
def State.signed (s : State) (h : List Byte) : Bool :=
  let n (o : Nat) : Nat := natOfBytes ((h.drop o).take 48)
  ecdsaVerify (n 0x20) (n 0x50) (n 0x100) (n 0x130) (h.take 0x100 ++ s.bytesAt (hdrNum h 0x10 4) (hdrNum h 0xC 4))

/-- A header's xspi, bits [29:0] in the layout of XSPI_CFG, is applied to XSPI0 (R496). -/
def State.applyXspi (s : State) (v : Nat) : State :=
  s.storeDirect (aXSPI_CFG 0) (fXSPI_CFG 0) (BitVec.ofNat 32 (s.get (aXSPI_CFG 0) XSPI_CFG.en * 2 ^ XSPI_CFG.en.lo + v))

/-- The payload is copied to its load address as far as it reads (step 4): the state, and whether all of it read. -/
def State.copyImage (s : State) (src k : Nat) (h : List Byte) : State × Bool :=
  let len := hdrNum h 0xC 4
  let s := if src = 0 ∧ hdrNum h 0x18 4 ≠ 0 then s.applyXspi (hdrNum h 0x18 4) else s
  let s := { s with fresh := s.fresh + 1 }
  let s := if src = 0 then s else s.noteUe ((if k = 0 then 0x110000 else 0x180000) + 512) len
  let good := ((List.range (len / 4)).takeWhile (fun i => s.slotOk src k (512 + 4 * i))).length * 4
  (s.memBytes (hdrNum h 0x10 4) ((List.range good).map (fun o => s.slotByte src k s.fresh (512 + o))), good == len)

/-- One candidate through steps 2 to 5: the state, and the failure code, 0 for none. -/
def State.tryImage (s : State) (src : Nat) (c : Nat × List Byte) : State × Nat :=
  if !hdrGood c.2 then (s, 2)
  else if !s.keyGood c.2 then (s, 3)
  else match s.copyImage src c.1 c.2 with
    | (t, false) => (t, 4)
    | (t, true) => if t.signed c.2 then (t, 0) else (t, 5)

/-- Engine registers whose values the spec does not give take free ones. -/
def State.freeRegs (s : State) (e : Nat) : State :=
  let (a, s) := s.freeWord
  let (b, s) := s.freeWord
  let (x, s) := s.freeWord
  let (y, s) := s.freeWord
  s.setEng e { s.eng e with a := a, e := b, x := x, y := y }

/-- What the boot ROM writes to BOOT_STATUS and BOOT_VER, `f`, takes effect while rom_done is 0 only (R498). -/
def State.romSet (s : State) (f : State → State) : State := if s.on aBOOT_STATUS BOOT_STATUS.rom_done then s else f s

/-- The boot ROM has passed control to the image `h` of slot `k`. -/
def State.romDone (s : State) (src k : Nat) (h : List Byte) : State :=
  let a := aBOOT_STATUS
  ((((s.set a BOOT_STATUS.ok 1).set a BOOT_STATUS.rom_done 1).set a BOOT_STATUS.src src).set a BOOT_STATUS.slot k).setReg
    aBOOT_VER (BitVec.ofNat 32 (hdrNum h 8 4))

/-- An image starts (step 6): in ring 0, with iel 8. -/
def State.startImage (s : State) (src k : Nat) (h : List Byte) : State :=
  let t := s.romSet (fun s => s.romDone src k h)
  let t := (t.setReg (aENG_S 256) (startS 0)).freeRegs 256
  t.setEng 256 { t.eng 256 with pc := hdrNum h 0x14 4 }

/-- Candidates are tried in order: the state, and whether one started. -/
def State.bootFrom (s : State) (src : Nat) : List (Nat × List Byte) → State × Bool
  | [] => (s, false)
  | c :: cs =>
    let s := s.romSet (fun s => s.incSat aBOOT_STATUS BOOT_STATUS.attempts)
    match s.tryImage src c with
    | (t, 0) => (t.startImage src c.1 c.2, true)
    | (t, f) => (t.romSet (fun t => t.set aBOOT_STATUS BOOT_STATUS.fail f)).bootFrom src cs

/-- The sources of a strap, in order (R468): 0 XSPI0, 1 NVM. -/
def bootSources (strap : Nat) : List Nat := if strap = 1 then [1, 0] else if strap = 2 then [] else [0, 1]

/-- The sources are tried in order. -/
def State.bootAll (s : State) : List Nat → State × Bool
  | [] => (s, false)
  | src :: rest =>
    let cs := s.candidates src
    let s := if src = 1 then (s.noteUe 0x110000 512).noteUe 0x180000 512 else s
    let s := if cs.isEmpty then s.romSet (fun s => s.set aBOOT_STATUS BOOT_STATUS.fail 1) else s
    match s.bootFrom src cs with
    | (t, true) => (t, true)
    | (t, false) => t.bootAll rest

/-- Is SK0 at the boot ROM entry: after a reset, or after a wake from FROST (R481, R497)? -/
def State.atBoot (s : State) : Bool :=
  s.engRuns 256 && (s.eng 256).pc == 0 && s.ring 256 == 0 && (s.eng 256).wait == .none && s.get aMODE MODE.strap != 2

/-- BOOT: the boot ROM of SK0 finds an image and starts it, or waits in WAITEV. -/
def execBoot (s : State) : Host.Outcome State Fault Refusal :=
  fin s (if s.atBoot then
    (match s.bootAll (bootSources (s.get aMODE MODE.strap)) with
      | (t, true) => t
      | (t, false) => (t.set (aENG_STATUS 256) ENG_STATUS.waiting 1).setEng 256 { t.eng 256 with wait := .sleep })
  else s)

/-! ### Debug lock (R498 to R501) -/

/-- Does the access under way come from the boot ROM: a store by SK0 in ring 0 from a bundle below 0x1_0000 (R498)? -/
def State.romWrite (s : State) (q : Req) : Bool :=
  q == .skink 0 && (match s.carried with
    | some x => x.st.rom
    | none => s.ring 256 == 0 && decide ((s.eng 256).pc < 0x10000))

/-- A write to BOOT_STATUS or BOOT_VER, at `a`: ignored, from whichever ring, unless the boot ROM makes it before rom_done. -/
def wrBoot (q : Req) (a : Nat) (fs : List Fld) (w : Word) (s : State) : State :=
  s.write q islAON 3 (fun t => if t.romWrite q && !t.on aBOOT_STATUS BOOT_STATUS.rom_done then t.storeDirect a fs w else t)

/-- What a write to DBG_CTRL does: the boot ROM grants a scope; ring 0 locks again. -/
def State.dbgCtrl (s : State) (q : Req) (w : Word) : State :=
  let t := if s.romWrite q then
      { s.set aDBG_CTRL DBG_CTRL.unlock (getBits w DBG_CTRL.unlock) with
        nvm := { s.nvm with lock := .unlocked (getBits w DBG_CTRL.unlock) } }
    else s
  if getBits w DBG_CTRL.relock = 1 ∧ s.ringOf q = 0 then
    { t.set aDBG_CTRL DBG_CTRL.unlock 0 with nvm := { t.nvm with lock := .again } }
  else t

/-- A write to DBG_CTRL: what it may not do is ignored (R498). -/
def wrDbgCtrl (q : Req) (w : Word) (s : State) : State := s.write q islAON 3 (fun t => t.dbgCtrl q w)

/-- RELOCK. -/
def execRelock (q : Req) (w : Word) (s : State) : Host.Outcome State Fault Refusal := .next (s.crossTo q true aDBG_CTRL w (wrDbgCtrl q w))

/-- Word `i` of the nonce in force (R500). -/
def State.nonce (s : State) (i : Nat) : Word := Config.nonceWord s.nvm.nonces i

/-- Is the token good: 200 bytes of scope, SESSION, X, Y, r, s, whose key is the debug authority's and whose signature verifies? -/
def State.tokenGood (s : State) (tok : List Byte) : Bool :=
  let n (o : Nat) : Nat := natOfBytes ((tok.drop o).take 48)
  let msg := s.bytesAt (otpSec + 0x800) 8 ++ bytesOf ((List.range 12).map (fun i => s.nonce i)) ++ tok.take 8
  tok.length == 200 && sha384 ((tok.drop 8).take 96) == s.bytesAt (otpSec + 0x140) 48 && ecdsaVerify (n 8) (n 56) (n 104) (n 152) msg

/-- Does SK0 run the unlock service (R500): in strap mode 0b10 it waits in the boot ROM, otherwise ring 0 has called 0x100? -/
def State.unlocks (s : State) : Bool :=
  s.engRuns 256 && s.ring 256 == 0 && (s.eng 256).wait == .none &&
    (if s.get aMODE MODE.strap = 2 then decide ((s.eng 256).pc < 0x10000) && s.isReady 20 0 else (s.eng 256).pc == 0x100)

/-- The token that the service reads: from UART0 in strap mode 0b10, otherwise the 200 bytes at `a`; none where they do not read. -/
def State.token (s : State) (a : Nat) (uart : List Byte) : List Byte :=
  if s.get aMODE MODE.strap = 2 then uart
  else if (List.range 200).all (fun i => isMem (a + i) && !s.ue.contains ((a + i) / 4 * 4)) then s.bytesAt a 200 else []

/-- The service returns to where it was called (R218); in strap mode 0b10 SK0 waits on. -/
def State.unlockEnds (s : State) : State :=
  if s.get aMODE MODE.strap = 2 then s else match (s.eng 256).stack with
    | x :: rest => s.setEng 256 { s.eng 256 with pc := x.ret, stack := rest }
    | [] => s

/-- DEBUG_UNLOCK: the unlock service of the boot ROM judges the token at `a`, or the one that UART0 has brought (R500, R501). -/
def execDebugUnlock (a : Word) (uart : List Byte) (s : State) : Host.Outcome State Fault Refusal :=
  let d := aDBG_CTRL
  let tok := s.token a.toNat uart
  .next (if !s.unlocks || !s.alive islAON then s
  else (if s.on d DBG_CTRL.locked_out then s
  else if s.tokenGood tok then
    let scope := leNat (tok.take 4) % 4
    { s.set d DBG_CTRL.unlock scope with nvm := { s.nvm with nonces := s.nvm.nonces + 1, lock := .unlocked scope } }
  else
    let t := (s.incSat d DBG_CTRL.fails).renewNonce
    if 8 ≤ t.get d DBG_CTRL.fails then t.set d DBG_CTRL.locked_out 1 else t).unlockEnds)

end Sys2Proof.Machine
end

