-- ==== Sys2Proof/Machine/Avail.lean ====
section
/-!
DEFINITION. Availability: memory errors and the scrubber, lockstep failover, the system watchdog, regrow, self-test, and the
commit tick, at which a regrow's rebinding applies (R503 to R521).
-/

namespace Sys2Proof.Machine

/-! ### Memory errors (R503 to R507) -/

/-- The word at `a` holds an uncorrectable error from now on. -/
def State.markUe (s : State) (a : Nat) : State :=
  { s with ue := if s.ue.contains a then s.ue else s.ue ++ [a], ce := s.ce.filter (fun x => x != a) }

/-- The word at `a` holds a correctable error from now on. -/
def State.markCe (s : State) (a : Nat) : State := { s with ce := if s.ce.contains a then s.ce else s.ce ++ [a] }

/-- Is byte address `a` in a memory that the scrubber visits: an SRAM of a released island (R504)? -/
def State.scrubs (s : State) (a : Nat) : Bool :=
  (inSram a 4 && s.alive islSYS) ||
    (decide (0x20000000 ≤ a) && decide (a < 0x22000000) && s.clocked ((a - 0x20000000) / 0x200000 * 16) &&
      (isMem a || inCtx a)) ||
    (decide (0x100000000 ≤ a) && inCtx a && s.alive (islSUP ((a - 0x100000000) / 0x1000))) ||
    (decide (0x50000000 ≤ a) && decide (a < 0x50040000) && s.alive islSYS)

/-! ### Lockstep (R509 to R512) -/

/-- The failed bit of pair `p`. -/
def failedFld (p : Nat) : Fld := if p = 0 then LOCKSTEP.sk0_failed else LOCKSTEP.sk1_failed

/-- Router sources steered to engine `e` go to engine `f` instead. -/
def State.resteer (s : State) (e f : Nat) : State :=
  (List.range 512).foldl (fun t i => if t.get (aROUTE_CFG i) ROUTE_CFG.engine = e ∧ t.on (aROUTE_CFG i) ROUTE_CFG.en = true then
    t.set (aROUTE_CFG i) ROUTE_CFG.engine f else t) s

/-- The other pair takes over from pair `p` (R510). -/
def State.failover (s : State) (p cause : Nat) : State :=
  let o := 1 - p
  let i := islSUP p
  let s := match s.rst.isl with
    | some x => if x.isl = i then { s with rst := { s.rst with isl := none } }.set aRST_STATUS RST_STATUS.isl_busy 0 else s
    | none => s
  let t := (if s.alive i then s.holdIsl i else s).set aLOCKSTEP (failedFld p) 1
  let t := (t.set aLOCKSTEP LOCKSTEP.cause cause).resteer (256 + p) (256 + o)
  let r := aROUTE_CFG 493
  let t := ((t.set r ROUTE_CFG.engine (256 + o)).set r ROUTE_CFG.input (t.get aLOCKSTEP LOCKSTEP.fo_input)).set r ROUTE_CFG.en 1
  let t := ((t.set aLOCKSTEP LOCKSTEP.primary o).set aLOCKSTEP LOCKSTEP.fo 1).fire 1892
  let t := (t.set aMODE MODE.degraded 1).showMode
  if t.alive (islSUP o) && t.halted (256 + o) then t.startSkink o else t

/-- Pair `p` fails (R509 to R511). -/
def State.pairFail (s : State) (p cause : Nat) : State :=
  if s.pairFailed p then s
  else if s.pairFailed (1 - p) then
    ((s.set aLOCKSTEP (failedFld p) 1).set aLOCKSTEP LOCKSTEP.cause cause).resetCause 5 true
  else s.failover p cause

/-- Can pair `p` have failed with `cause`: 1 a comparison that differs, 2 an entry failure, 3 an error in a dirty line? -/
def State.pairCause (s : State) (p cause : Nat) : Bool :=
  s.alive (islSUP p) && (cause == 1 || (cause == 2 && s.on (aLIC_STATUS (256 + p)) LIC_STATUS.entry_fail) ||
    (cause == 3 && (s.eng (256 + p)).dcache.any (fun l => l.dirty)))

/-- PAIR_FAILURE. -/
def execPairFailure (p : Fin 2) (cause : Fin 4) (s : State) : Host.Outcome State Fault Refusal :=
  fin s (if s.pairCause p cause then s.pairFail p cause else s)

/-- A write to LOCKSTEP; switch acts for ring 0 of the primary pair while the other pair runs (R512). -/
def wrLockstep (q : Req) (w : Word) (s : State) : State :=
  s.write q islAON 0 (fun t =>
    let u := t.storeDirect aLOCKSTEP fLOCKSTEP w
    let p := u.get aLOCKSTEP LOCKSTEP.primary
    let o := 1 - p
    if getBits w LOCKSTEP.switch = 1 && reqNum q == 256 + p && !u.pairFailed 0 && !u.pairFailed 1 && u.alive (islSUP o) &&
        !u.halted (256 + o) then u.set aLOCKSTEP LOCKSTEP.primary o
    else u)

/-- LOCKSTEP_SWITCH. -/
def execLockstepSwitch (q : Req) (w : Word) (s : State) : Host.Outcome State Fault Refusal := .next (s.crossTo q true aLOCKSTEP w (wrLockstep q w))

/-! ### The scrubber -/

/-- An uncorrectable word that the scrubber finds at `a` (R506). -/
def State.scrubUe (s : State) (a : Nat) : State :=
  let m := s.eccMem a
  let t := (s.markUe a).eccUe a m true
  if m = 3 then t.reportFail ((a - 0x20000000) / 0x200000 * 16 + a % 0x200000 / 0x10000) 3 else t

/-- A line of a Skink's cache is found uncorrectable (R506): invalidated, or, when dirty, the pair fails. -/
def State.scrubCache (s : State) (p a : Nat) (data : Bool) : State :=
  let e := 256 + p
  let x := s.eng e
  match lineOf (if data then x.dcache else x.icache) a with
  | some l =>
    let t := s.eccUe a 7 true
    if data && l.dirty then t.pairFail p 3
    else if data then t.setEng e { x with dcache := x.dcache.filter (fun y => y.addr != l.addr) }
    else t.setEng e { x with icache := x.icache.filter (fun y => y.addr != l.addr) }
  | none => s

/-- The scrubber reads the word at `w`, which holds what `upset` says, or an uncorrectable error of before. -/
def State.scrubWord (s : State) (w : Nat) (upset : Upset) : State :=
  if !s.scrubs w then s
  else if s.ue.contains w then s.scrubUe w
  else match upset with
    | .clean => s.meetCe w
    | .single => (s.markCe w).eccFix w
    | .double => s.scrubUe w

/-- The scrubber reads the staged copy of the page word at `w`. -/
def State.scrubStaged (s : State) (w : Nat) (upset : Upset) : State :=
  if s.ue.contains (stagedCopy w) then s.eccUe w 6 true
  else match upset with
    | .clean => s.meetCe (stagedCopy w)
    | .single => (s.markCe (stagedCopy w)).eccFix (stagedCopy w)
    | .double => (s.markUe (stagedCopy w)).eccUe w 6 true

/-- The scrubber reads a word of a cache of pair `p`. -/
def State.scrubLine (s : State) (p w : Nat) (data : Bool) : Upset → State
  | .clean => s
  | .single => if (lineOf ((s.eng (256 + p)).lines (!data)) w).isSome then s.eccCe else s
  | .double => s.scrubCache p w data

/-- SCRUB_VISIT: a word of the map at `a`, of the staged copy of a page, of a cache or of the context banks of a Skink pair. -/
def execScrubVisit (at_ : ScrubAt) (a : Word) (upset : Upset) (s : State) : Host.Outcome State Fault Refusal :=
  let w := a.toNat / 4 * 4
  let on := s.on aECC_CFG ECC_CFG.scrub_en && s.mode != .reset && s.mode != .frost
  fin s (if !on then s
  else match at_ with
    | .icache p => if s.alive (islSUP p) then s.scrubLine p w false upset else s
    | .dcache p => if s.alive (islSUP p) then s.scrubLine p w true upset else s
    | .staged => if s.scrubs w && (pageOf w).isSome then s.scrubStaged w upset else s
    | .ctx p => s.scrubWord (engBase (256 + p) + w % 0x1000) upset
    | .map => s.scrubWord w upset)

/-- NVM_SCRUB_VISIT: the scrubber reads an NVM word and never writes it (R507). -/
def execNvmScrubVisit (a : Word) (upset : Upset) (s : State) : Host.Outcome State Fault Refusal :=
  let w := a.toNat / 4 * 4
  let nvm := decide (0x100000 ≤ w) && decide (w < 0x200000)
  fin s (if !(s.on aECC_CFG ECC_CFG.scrub_en && s.alive islSYS && nvm) then s
  else if s.ue.contains w then s.eccUe w 8 true
  else match (if s.ce.contains w ∧ upset = .clean then .single else upset) with
    | .clean => s
    | .single =>
      let t := (s.markCe w).eccCe
      if t.on aECC_NVM_FIX ECC_NVM_FIX.valid then t
      else (t.set aECC_NVM_FIX ECC_NVM_FIX.valid 1).set aECC_NVM_FIX ECC_NVM_FIX.word ((w - 0x100000) / 4)
    | .double => (s.markUe w).eccUe w 8 true)

/-! ### System watchdog (R513) -/

/-- A write to SYS_WDT_CTRL: en counts from timeout once it sets. -/
def wrSysWdtCtrl (q : Req) (w : Word) (s : State) : State :=
  s.write q islAON 0 (fun t =>
    let u := t.storeDirect aSYS_WDT_CTRL fSYS_WDT_CTRL w
    if !t.on aSYS_WDT_CTRL SYS_WDT_CTRL.en && u.on aSYS_WDT_CTRL SYS_WDT_CTRL.en then
      u.set aSYS_WDT_STATUS SYS_WDT_STATUS.remaining (u.get aSYS_WDT_CTRL SYS_WDT_CTRL.timeout)
    else u)

/-- A write to SYS_WDT_KICK: it reloads for ring 0 of the primary pair with the key; any other sets bad_kick. -/
def wrSysWdtKick (q : Req) (w : Word) (s : State) : State :=
  s.write q islAON 3 (fun t =>
    if getBits w SYS_WDT_KICK.key = 0x5C && reqNum q == 256 + t.get aLOCKSTEP LOCKSTEP.primary && t.ringOf q == 0 then
      t.set aSYS_WDT_STATUS SYS_WDT_STATUS.remaining (t.get aSYS_WDT_CTRL SYS_WDT_CTRL.timeout)
    else t.set aSYS_WDT_STATUS SYS_WDT_STATUS.bad_kick 1)

/-- SYS_WDT_KICK. -/
def execSysWdtKick (q : Req) (w : Word) (s : State) : Host.Outcome State Fault Refusal := .next (s.crossTo q true aSYS_WDT_KICK w (wrSysWdtKick q w))

/-- Does the system watchdog count? -/
def State.sysWdtCounts (s : State) : Bool :=
  s.on aSYS_WDT_CTRL SYS_WDT_CTRL.en && s.mode != .halt && s.mode != .frost && s.mode != .reset

/-- SYS_WDT_EXPIRY: the count has reached 0. -/
def execSysWdtExpiry (s : State) : Host.Outcome State Fault Refusal :=
  let a := aSYS_WDT_STATUS
  fin s (if !s.sysWdtCounts || s.get a SYS_WDT_STATUS.remaining != 0 then s
  else if s.on a SYS_WDT_STATUS.pre_expiry then s.resetCause 7 true
  else
    let t := (s.set a SYS_WDT_STATUS.pre_expiry 1).set a SYS_WDT_STATUS.remaining (s.get aSYS_WDT_CTRL SYS_WDT_CTRL.timeout)
    if t.on aSYS_WDT_CTRL SYS_WDT_CTRL.trip_en then t.tripMode 3 else t)

/-! ### Regrow (R514 to R519) -/

/-- A regrow of the failed Newt `x` of clutch `c` begins, counted from the report, or is found impossible (R516, R518). -/
def State.startRegrow (s : State) (c : Nat) (x : Failed) : State :=
  match s.on (aREGROW_CFG c) REGROW_CFG.en, s.spareOf c with
  | true, some j =>
    let r : Regrow := { k := x.k, spare := j, phase := .drain, start := x.tick, ran := x.ran }
    ((s.setRgClu c { s.rgClu c with cur := some r }).set (aREGROW_STATUS c) REGROW_STATUS.spare_k j).rgShow c
  | _, _ => (s.noSpare c).rgShow c

/-- The failure that clutch `c` serves next: the lowest Newt number first (R519). -/
def State.rgNext (s : State) (c : Nat) : Option Failed :=
  (s.rgClu c).waiting.foldl (fun b x => match b with
    | some y => if x.k < y.k then some x else b
    | none => some x) none

/-- NEWT_FAILURE: the reported failure of Newt `n` with `cause` is served, in its turn; a clutch whose clock is stopped holds it (R22). -/
def execNewtFailure (n : Fin 256) (cause : Fin 8) (s : State) : Host.Outcome State Fault Refusal :=
  let c := n.val / 16
  let r := s.rgClu c
  fin s (match s.rgNext c with
    | some x => if s.clocked n && r.cur.isNone && x.k == n.val % 16 && x.cause == cause.val
      then (s.setRgClu c { r with waiting := r.waiting.erase x }).startRegrow c x else s
    | none => s)

/-- What a write to REGROW_CMD does (R515, R520). -/
def State.regrowCmd (s : State) (c : Nat) (w : Word) : State :=
  let k := getBits w REGROW_CMD.newt
  let n := 16 * c + k
  if getBits w REGROW_CMD.go = 0 then s
  else if getBits w REGROW_CMD.op = 1 then s.reportFail n 5
  else if getBits w REGROW_CMD.op = 2 then
    (if !s.halted n || s.newtFailed n || s.isSpare c k || (s.rgClu c).test.isSome then s.set (aREGROW_STATUS c) REGROW_STATUS.bad_cmd 1
     else (s.setRgClu c { s.rgClu c with test := some k }).rgShow c)
  else s

/-- A write to REGROW_CMD, from ring 0. -/
def wrRegrowCmd (q : Req) (c : Nat) (w : Word) (s : State) : State := s.write q (islCLU c) 0 (fun t => t.regrowCmd c w)

/-- REGROW_REPORT_FAILURE. -/
def execRegrowReportFailure (q : Req) (c : Fin 16) (w : Word) (s : State) : Host.Outcome State Fault Refusal :=
  .next (s.cross q (islCLU c) true (aREGROW_CMD c) w (wrRegrowCmd q c w))

/-- REGROW_DRAIN_DONE: the failed Newt's far-store buffer is empty, or 1 µs has passed and the rest is discarded. -/
def execRegrowDrainDone (c : Fin 16) (s : State) : Host.Outcome State Fault Refusal :=
  .next (match (s.rgClu c).cur with
    | some r =>
      let n := 16 * c.val + r.k
      let late := decide (r.start + 1000 ≤ s.tb)
      if r.phase = .drain ∧ s.clocked n = true ∧ (late || ((s.eng n).buf.isEmpty && (s.eng n).acks == 0)) = true then
        let t := if s.halted n then s else s.haltNow n
        let t := t.setEng n { t.eng n with buf := [], acks := 0, bankAcks := 0 }
        t.setRgClu c { t.rgClu c with cur := some { r with phase := .copy } }
      else s
    | none => s)

/-- `n` words from `src` are copied to `dst`; uncorrectable ones are copied as uncorrectable (R517). -/
def State.copyWords (s : State) (src dst n : Nat) : State :=
  (List.range n).foldl (fun t i =>
    let t := t.memWrite (dst + 4 * i) 4 (s.word (src + 4 * i))
    if s.ue.contains (src + 4 * i) then t.markUe (dst + 4 * i) else t) s

/-- The registers of the spare `j` after the copy from Newt `n` (R517); en of its watchdog, where it was 0 and becomes 1, loads the count
(R158). -/
def State.copyRegs (s : State) (n j : Nat) : State :=
  let t := { s with regs := s.regs.filter (fun x => !blkHas 0 j x.1) }
  let cp (u : State) (f : Nat → Nat) : State := u.setReg (f j) (s.reg (f n))
  let t := cp (cp (cp (cp t aVBR) aGTB) aENG_PROT) aSPILL_LIM
  let t := (List.range 32).foldl (fun u i => cp u (fun e => aLIC_CFG e i)) t
  let t := (t.setB (aENG_CTRL j) ENG_CTRL.sh_half (s.on (aENG_CTRL n) ENG_CTRL.sh_half)).setB (aWDT_CTRL j) WDT_CTRL.en
    (s.on (aWDT_CTRL n) WDT_CTRL.en)
  let t := t.set (aWDT_CTRL j) WDT_CTRL.timeout (s.get (aWDT_CTRL n) WDT_CTRL.timeout)
  let t := if s.on (aWDT_CTRL n) WDT_CTRL.en && !s.on (aWDT_CTRL j) WDT_CTRL.en then
      t.set (aWDT_STATUS j) WDT_STATUS.remaining (s.get (aWDT_CTRL n) WDT_CTRL.timeout)
    else t
  t.setEng j {}

/-- A swap that is staged for Newt `n` is staged for `j` too, in the same group (R517, R527). -/
def State.copySwap (s : State) (n j : Nat) : State :=
  let t := s.unstage (aENG_CTRL j)
  (match s.stagedAt (aENG_CTRL n) with
    | some x => (t.setStaged (aENG_CTRL j) (some { grp := x.grp, val := putBits 0 ENG_CTRL.bank_sel (getBits x.val ENG_CTRL.bank_sel) })).set
        (aCG_STATUS x.grp) CG_STATUS.staged_cnt (t.get (aCG_STATUS x.grp) CG_STATUS.staged_cnt + 1)
    | none => t).swapShown j

/-- The rebinding of clutch `c` is armed with group `g`, or joins its armed commit (R516). -/
def State.armRegrow (s : State) (c g : Nat) : State :=
  if (s.armedOf g).isSome then s
  else
    let sl := s.on (aREGROW_CFG c) REGROW_CFG.slice_en
    let t := some (s.tb + 200)
    let x : Armed := { ta := s.tb, shared := false, trig := if sl then 1 else 0, slice := s.get (aREGROW_CFG c) REGROW_CFG.slice
                       target := if sl then none else t, tc := if sl then none else t, words := [], pages := [], crc := 0
                       ovf := false, msgs := [] }
    (s.setArmed g (some x)).set (aCG_STATUS g) CG_STATUS.armed 1

/-- REGROW_COPY_DONE: the copy ends, and the arm request reaches the commit controller. -/
def execRegrowCopyDone (c : Fin 16) (s : State) : Host.Outcome State Fault Refusal :=
  fin s (match (s.rgClu c).cur with
    | some r =>
      if r.phase = .copy ∧ s.clocked (16 * c.val) = true ∧ s.alive islSYS = true then
        let n := 16 * c.val + r.k
        let j := 16 * c.val + r.spare
        let g := s.get (aREGROW_CFG c) REGROW_CFG.cg
        let img := s.on (aREGROW_CFG c) REGROW_CFG.img_src
        let t := s.copyWords (engRam n) (engRam j) 4096
        let t := t.copyWords (if img then (s.reg (aREGROW_IMG c)).toNat else engRam n + 0x4000) (engRam j + 0x4000) 8192
        let t := (t.copyRegs n j).copySwap n j
        let r : Regrow := { r with phase := .commit, bank := s.on (aENG_CTRL n) ENG_CTRL.bank_sel, grp := g }
        (t.setRgClu c { t.rgClu c with cur := some r }).armRegrow c g
      else s
    | none => s)

/-- A clutch and newt field pair that names Newt `n` names Newt `j` (R518). -/
def State.rebindAt (s : State) (a : Nat) (fc fn : Fld) (n j : Nat) : State :=
  if s.get a fc = n / 16 ∧ s.get a fn = n % 16 then (s.set a fc (j / 16)).set a fn (j % 16) else s

/-- Every binding that names Newt `n` names Newt `j` (R518). -/
def State.rebind (s : State) (n j : Nat) : State :=
  let t := (List.range 32).foldl (fun u k => (u.rebindAt (aCONV_BIND k) CONV_BIND.clutch CONV_BIND.newt n j).rebindAt (aSD_BIND k)
    SD_BIND.clutch SD_BIND.newt n j) s
  let t := (List.range 64).foldl (fun u k => u.rebindAt (aSL_BIND k) SL_BIND.clutch SL_BIND.newt n j) t
  let t := (List.range 96).foldl (fun u k => u.rebindAt (aWM_BIND k) WM_BIND.clutch WM_BIND.newt n j) t
  let t := t.setReg (aNEWT_PAGES (j / 16) (j % 16)) (t.reg (aNEWT_PAGES (n / 16) (n % 16)))
  let t := (List.range 512).foldl (fun u i => if u.get (aROUTE_CFG i) ROUTE_CFG.engine = n then u.set (aROUTE_CFG i) ROUTE_CFG.engine j
    else u) t
  let t := (List.range 8).foldl (fun u i =>
    (u.setReg (aFAB_SEL (8 * j + i)) (u.reg (aFAB_SEL (8 * n + i)))).set (aFAB_SEL (8 * n + i)) FAB_SEL.prod_sel 2046) t
  { t with av := { t.av with sigev := sput none j (some (928 + n)) t.av.sigev } }

/-- The regrow of clutch `c` completes at the commit tick of its group (R516): the spare has the failed Newt's bank, unless the commit
has swapped it just now. -/
def State.completeRegrow (s : State) (c tc : Nat) (r : Regrow) (swapped : Bool) : State :=
  let n := 16 * c + r.k
  let j := 16 * c + r.spare
  let t := s.rebind n j
  let t := if swapped then t else
    ((t.setB (aENG_CTRL j) ENG_CTRL.bank_sel r.bank).setB (aENG_STATUS j) ENG_STATUS.active_bank r.bank).swapShown j
  let t := if r.ran then
      let u := t.set (aENG_CTRL j) ENG_CTRL.run 1
      if u.newtReady j then u.startNewt j (BitVec.ofNat 32 (0x100 + r.k)) else u
    else t
  let t := (t.fireAt 1893 tc).set (aREGROW_STATUS c) REGROW_STATUS.done 1
  ((t.setRgClu c { t.rgClu c with cur := none }).rgShow c).set aMODE MODE.degraded 1

/-- The regrows that wait for group `g` complete with its commit, before which the state was `s0`. -/
def State.completeRegrows (s s0 : State) (g tc : Nat) : State :=
  ((List.range 16).foldl (fun t c => match (t.rgClu c).cur with
    | some r => if r.phase = .commit ∧ r.grp = g then
        t.completeRegrow c tc r ((s0.stagedAt (aENG_CTRL (16 * c + r.spare))).isSome && (s.stagedAt (aENG_CTRL (16 * c + r.spare))).isNone)
      else t
    | none => t) s).showMode

/-- COMMIT_APPLY: the commit tick of group `g` has come; a gate flag that it raises rises in that tick (R115). -/
def execCommitApply (g : Fin 32) (s : State) : Host.Outcome State Fault Refusal :=
  match s.commitDue g with
  | (t, some tc) => .next (settleAt tc s (t.completeRegrows s g tc).zeroArrivals)
  | (t, none) => fin s t

/-! ### Self-test (R520) -/

/-- SELF_TEST. -/
def execSelfTest (q : Req) (c : Fin 16) (w : Word) (s : State) : Host.Outcome State Fault Refusal :=
  .next (s.cross q (islCLU c) true (aREGROW_CMD c) w (wrRegrowCmd q c w))

/-- SELF_TEST_DONE: the Newt's registers are at their reset values; a failure is a Newt failure. -/
def execSelfTestDone (c : Fin 16) (pass : Bool) (s : State) : Host.Outcome State Fault Refusal :=
  fin s (match (s.rgClu c).test with
    | some k => if !s.clocked (16 * c.val) then s else
      let n := 16 * c.val + k
      let t := { s with regs := s.regs.filter (fun x => !blkHas 0 n x.1) }.clearEng n
      let t := ((t.setRgClu c { t.rgClu c with test := none }).rgShow c).showMode
      if pass then t.set (aREGROW_STATUS c) REGROW_STATUS.st_pass 1 else t.reportFail n 4
    | none => s)

end Sys2Proof.Machine
end

