-- ==== Sys2Proof/Machine/ClutchCtl.lean ====
section
/-!
DEFINITION. Writes to engine control and to the other registers of a clutch (R22, R158, R161 to R163, R168, R265, R272, R327), and
what a far access finds there.
-/

namespace Sys2Proof.Machine

/-! ### Engine control (R168, R272) -/

/-- How many rings, from ring 0 on, may read and write the register at offset `o` of engine `e`'s control by near words; none
where no table lists the offset. -/
def ctlRights (e o : Nat) : Option (Nat × Nat) :=
  let newt (x : Nat × Nat) : Option (Nat × Nat) := if isNewt e then some x else none
  let skink (x : Nat × Nat) : Option (Nat × Nat) := if isNewt e then none else some x
  if o % 4 ≠ 0 then none
  else if o = 0x000 ∨ o = 0x014 ∨ o = 0x050 then newt (2, 1)
  else if o = 0x004 ∨ o = 0x300 ∨ o = 0x310 then some (4, 0)
  else if o = 0x008 ∨ o = 0x100 ∨ (0x018 ≤ o ∧ o ≤ 0x034) then some (4, 4)
  else if o = 0x00C ∨ o = 0x010 then some (2, 1)
  else if (0x040 ≤ o ∧ o ≤ 0x048) ∨ o = 0x060 then some (2, 2)
  else if o = 0x054 then newt (0, 4)
  else if o = 0x058 then newt (4, 1)
  else if 0x070 ≤ o ∧ o ≤ 0x0FC ∧ o ≠ 0x07C then skink (4, 1)
  else if 0x200 ≤ o ∧ o < 0x200 + 4 * licInputs e then some (2, 1)
  else if o = 0x304 then skink (4, 0)
  else if o = 0x308 then some (4, 2)
  else if o = 0x30C then skink (4, 2)
  else if o = 0x314 ∨ o = 0x318 then some (2, 2)
  else if (0x31C ≤ o ∧ o ≤ 0x328) ∨ (0x400 ≤ o ∧ o < 0x500) then some (2, 1)
  else none

/-- A word `w` reaches the register at offset `o` of engine `e`'s control, from requester number `r` with commit group `g`: the
state, and whether the write gets an error response. A bit of LIC_SWP that it sets stands against an entry of this tick (R265); a word
of a context bank that it writes holds good data. -/
def State.ctlStore (s : State) (r g e o : Nat) (w : Word) : State × Bool :=
  let a := engBase e + o
  if o = 0x000 then
    let (t, err) := s.storeFields r g a (fldsAt a) w
    (t.engCtrlEff e (s.on a ENG_CTRL.run), err)
  else if o = 0x050 then (s.wdtCtrl e w, false)
  else if o = 0x054 then (s.wdtKick e w, false)
  else if o = 0x308 ∨ o = 0x30C then
    ({ s.storeDirect a (fldsAt a) w with cyc := s.cyc.setSw s.tb a w.toNat }, false)
  else
    let t := (if inCtx a then s.keepErrs (fun x => x != a) else s).storeDirect a (fldsAt a) w
    (if o = 0x048 ∧ getBits w FAR_STAT.valid = 1 ∧ t.on a FAR_STAT.valid = false then t.set a FAR_STAT.ovf_count 0 else t, false)

/-- Registers that a far write changes only while the Newt is stopped (R163, R272). -/
def haltOnly (o : Nat) : Bool :=
  o == 0x008 || (decide (0x018 ≤ o) && decide (o ≤ 0x034)) || o == 0x320 || o == 0x324 ||
    (decide (0x400 ≤ o) && decide (o < 0x500))

/-- May requester `q` make far accesses to engine control: rings 0 and 1 of an engine, and debug (R163)? -/
def State.ctlFar (s : State) (q : Req) : Bool := match q with
  | .newt _ | .skink _ => decide (s.ringOf q ≤ 1)
  | .debug => true
  | _ => false

/-- ORIG_RING of a context bank belongs to ring 0 (R260). -/
def origRing (o : Nat) : Bool := decide (0x400 ≤ o) && decide (o < 0x500) && o % 0x40 == 0x2C

/-- A far write to offset `o` of Newt `n`'s engine control. -/
def wrCtl (q : Req) (n o : Nat) (w : Word) (s : State) : State :=
  if s.admits q (islCLU (n / 16)) && s.ctlFar q && (ctlRights n o).isSome && (s.stopped n || !haltOnly o) &&
      (s.ringOf q == 0 || !origRing o) then
    let (t, err) := s.ctlStore (reqNum q) (s.rsel (reqNum q)) n o w
    t.reply q err 0
  else s.refuse q

/-- A command that is a far write to offset `o` of Newt `n`'s engine control. -/
def farCtl (q : Req) (n o : Nat) (w : Word) (s : State) : State :=
  s.cross q (islCLU (n / 16)) true (engBase n + o) w (wrCtl q n o w)

/-- A write to engine control of requester `q`'s own Newt by near words, whatever its ring (R168); a Newt whose clock is stopped makes
none (R22). -/
def wrOwnCtl (q : Req) (n o : Nat) (w : Word) (s : State) : State :=
  if q = .newt (Fin.ofNat 256 n) ∧ s.reach (islCLU (n / 16)) then
    if s.relocking (n / 16) then s
    else
      let (t, err) := s.ctlStore n (s.rsel n) n o w
      t.reply q err 0
  else farCtl q n o w s

/-- NEWT_RUN_START: a far write to ENG_CTRL that sets run. -/
def execNewtRunStart (q : Req) (n : Fin 256) (w : Word) (s : State) : Host.Outcome State Fault Refusal :=
  .next (farCtl q n 0 w s)

/-- NEWT_RUN_STOP: a far write to ENG_CTRL that clears run. -/
def execNewtRunStop (q : Req) (n : Fin 256) (w : Word) (s : State) : Host.Outcome State Fault Refusal :=
  .next (farCtl q n 0 w s)

/-- WDT_KICK: the Newt's own near write from any ring, or a far write (R158). -/
def execWdtKick (q : Req) (n : Fin 256) (w : Word) (s : State) : Host.Outcome State Fault Refusal :=
  .next (wrOwnCtl q n 0x54 w s)

/-- A write to LIC_SWP0 or LIC_SWP1 of a Skink pair: its own, from rings 0 and 1, or debug (R164, R272). -/
def wrSkSwp (q : Req) (p : Nat) (hi : Bool) (w : Word) (s : State) : State :=
  if s.admits q (islSUP p) && ((q == .skink (Fin.ofNat 2 p) && decide (s.ringOf q ≤ 1)) || q == .debug) then
    ((s.ctlStore (reqNum q) 0 (256 + p) (if hi then 0x30C else 0x308) w).1).reply q false 0
  else s.refuse q

/-- LIC_SWP_WRITE. -/
def execLicSwpWrite (q : Req) (e : Eng) (hiWord : Bool) (w : Word) (s : State) : Host.Outcome State Fault Refusal :=
  .next (if e.val < 256 then farCtl q e (if hiWord then 0x30C else 0x308) w s else wrSkSwp q (e - 256) hiWord w s)

/-! ### Clutch clock (R22, R23) -/

/-- What a write to CLUTCH_CLK does: a valid code starts a relock, a reserved one nothing. -/
def State.clkWrite (s : State) (c : Nat) (w : Word) : State :=
  if CLUTCH_CLK.freq_code.legal (getBits w CLUTCH_CLK.freq_code) then
    (s.set (aCLUTCH_CLK c) CLUTCH_CLK.freq_code (getBits w CLUTCH_CLK.freq_code)).set (aCLUTCH_CLK c) CLUTCH_CLK.relocking 1
  else s

/-- Is requester `q` an engine or debug? -/
def coreOrDebug : Req → Bool
  | .newt _ | .skink _ | .debug => true
  | _ => false

/-- A write to CLUTCH_CLK, from ring 0 of an engine and from debug. -/
def wrClutchClk (q : Req) (c : Nat) (w : Word) (s : State) : State :=
  if coreOrDebug q then s.write q (islCLU c) 0 (fun t => t.clkWrite c w) else s.refuse q

/-- CLUTCH_CLK_WRITE: while the clutch relocks the write waits to cross into it. -/
def execClutchClkWrite (q : Req) (c : Fin 16) (w : Word) (s : State) : Host.Outcome State Fault Refusal :=
  .next (s.cross q (islCLU c) true (aCLUTCH_CLK c) w (wrClutchClk q c w))

/-- Is byte address `a` in clutch `c`'s window? -/
def inClutch (c a : Nat) : Bool := decide (0x20000000 + c * 0x200000 ≤ a) && decide (a < 0x20200000 + c * 0x200000)

/-- What commits left for the clutch's first cycle after its relock (R334). -/
def State.applyHeld (s : State) (c : Nat) : State :=
  let ws := s.cc.relockWords.filter (fun x => inClutch c x.1)
  let ps := s.cc.relockPages.filter (fun p => inClutch c (pageBase p))
  let t := { s with cc := { s.cc with
      relockWords := s.cc.relockWords.filter (fun x => !inClutch c x.1)
      relockPages := s.cc.relockPages.filter (fun p => !inClutch c (pageBase p)) } }
  (t.applyWords t.tb ws).each ps State.flipPage

/-- A Newt that was to stop while its clock was stopped stops now (R22). -/
def State.stopHeld (s : State) (n : Nat) : State := if (s.eng n).halting && s.atRest n then s.haltNow n else s

/-- CLUTCH_RELOCK_DONE: the clock runs again; with the last of the relocks that a change of mode brought, the change is
complete (R478, R479). -/
def execClutchRelockDone (c : Fin 16) (s : State) : Host.Outcome State Fault Refusal :=
  fin s (if s.relocking c then
    ((newtsOf c).foldl State.stopHeld ((s.set (aCLUTCH_CLK c) CLUTCH_CLK.relocking 0).applyHeld c)).relocksOver
  else s)

/-! ### The other registers of clutch control -/

/-- PG_CFG after a write of `w`: cg keeps its value while the page is dirty (R328). -/
def State.pgStore (s : State) (a : Nat) (w : Word) : State :=
  let t := s.storeDirect a fPG_CFG w
  if s.on a PG_CFG.dirty then t.set a PG_CFG.cg (s.get a PG_CFG.cg) else t

/-- A write to the register at address `a` of clutch `c`'s control: NEWT_PAGES and PG_CFG from rings 0 and 1, the others from
ring 0. -/
def wrClutchReg (q : Req) (c a : Nat) (w : Word) (s : State) : State :=
  let o := a % 0x10000
  if o = 0 then wrClutchClk q c w s
  else if o < 0x200 then s.writeFields q (islCLU c) 1 a (fldsAt a) w id
  else if o < 0x300 then s.write q (islCLU c) 1 (fun t => t.pgStore a w)
  else if o = 0x308 then wrRegrowCmd q c w s
  else s.writeFields q (islCLU c) 0 a (fldsAt a) w id

end Sys2Proof.Machine
end

