-- ==== Sys2Proof/Machine/Bus.lean ====
section
/-!
DEFINITION. The global address map: what a read and a write of a byte address do (R7, R10 to R12, R21, R26 to R28, R325, R326,
R361, R427, R554), and the commands that are such accesses.
-/

namespace Sys2Proof.Machine

/-! ### Sizes (R128): 0 word, 1 halfword, 2 byte -/

/-- The bytes of an access of a size code. -/
def sizeLen (size : Nat) : Nat := if size = 0 then 4 else if size = 1 then 2 else 1

/-- The part of word `w` that an access of a size at byte address `a` reads. -/
def pick (a size : Nat) (w : Word) : Word :=
  let k := w >>> (8 * (a % 4))
  if size = 0 then w else if size = 1 then k &&& 0xFFFF#32 else k &&& 0xFF#32

/-- The bits of a word that an access of a size at byte address `a` covers. -/
def lanes (a size : Nat) : Word := BitVec.ofNat 32 ((2 ^ (8 * sizeLen size) - 1) * 2 ^ (8 * (a % 4)))

/-- The word that a write of a size puts to a register that holds `old`: bytes it does not cover keep RW fields, and write 0 to
the fields on which a write of 0 has no effect. -/
def spread (fs : List Fld) (old : Word) (a size : Nat) (v : Word) : Word :=
  let rw := fs.foldl (fun m f => if f.acc = .rw then m + f.mask else m) 0
  if size = 0 then v
  else ((v <<< (8 * (a % 4))) &&& lanes a size) ||| (old &&& BitVec.ofNat 32 rw &&& ~~~(lanes a size))

/-! ### Rings (R163, R270 and the chapters' register sections) -/

/-- The highest ring that may read the peripheral register at `a`. -/
def readCap (a : Nat) : Nat :=
  if 0x40500000 ≤ a ∧ a < 0x40600000 then 1
  else if 0x40700000 ≤ a ∧ a < 0x40B00000 then 1
  else if 0x51100000 ≤ a ∧ a < 0x51200000 then 1
  else 3

/-- The highest ring that may write it, where no command of its own says. -/
def writeCap (a : Nat) : Nat :=
  if 0x40A70000 ≤ a ∧ a < 0x40B00000 then 0
  else if (0x40F00200 ≤ a ∧ a < 0x40F00300) ∨ (0x40F00800 ≤ a ∧ a < 0x40F00810) then 1
  else if 0x40F00000 ≤ a ∧ a < 0x40F10000 then 0
  else readCap a

/-! ### What a register shows -/

/-- The shadow values of slice `n` that wait (R279), staged copies among them, as SL_STATUS.pend has them. -/
def State.slPend (s : State) (n : Nat) : Nat :=
  let has (a : Nat) : Bool := (sget none (s.slice n).shadow a).isSome || (s.stagedAt a).isSome
  (has (aCMPA n)).toNat + (has (aCMPB n)).toNat * 2 + (has (aCMPC n)).toNat * 4 + (has (aCMPD n)).toNat * 8 +
    (has (aPER n)).toNat * 16 + (has (aPHS n)).toNat * 32 +
    ((List.range 8).any (fun j => has (aELA n j) || has (aELB n j))).toNat * 64

/-- SL_STATUS of slice `n`. -/
def State.slStatus (s : State) (n : Nat) : Word :=
  let on := s.slCounting n
  let w := putBits (s.reg (aSL_STATUS n)) SL_STATUS.ready (s.isReady (13 + n / 32) (n % 32)).toNat
  let w := putBits (putBits w SL_STATUS.counting on.toNat) SL_STATUS.down (on && (s.slice n).downAt (s.slMode n) s.tb).toNat
  putBits (putBits w SL_STATUS.shed (s.shed n).toNat) SL_STATUS.pend (s.slPend n)

/-- WM_STATUS of monitor `nn`. -/
def State.wmStatus (s : State) (nn : Nat) : Word :=
  let w := putBits (s.reg (aWM_STATUS nn)) WM_STATUS.ready (s.wmReady nn).toNat
  putBits (putBits w WM_STATUS.live_h (s.wmLevel (2 * nn)).toNat) WM_STATUS.live_l (s.wmLevel (2 * nn + 1)).toNat

/-- What the register at `a` of a timing island shows. -/
def State.timShows (s : State) (a : Nat) : Word :=
  if a < 0x40110000 then
    let n := (a - 0x40100000) / 0x400
    if a = aSL_CNT n then s.sliceCount n else if a = aSL_STATUS n then s.slStatus n else s.reg a
  else
    let z := (a - 0x40200000) / 0x80
    if a = aTZ_STATUS z then putBits (s.reg a) TZ_STATUS.input (s.zoneInput z).toNat
    else if a = aTRIPOUT_CTRL then putBits (s.reg a) TRIPOUT_CTRL.lvl s.tripoutMask
    else if a = aSAFE_CTRL then putBits (s.reg a) SAFE_CTRL.safen (!s.trip.safenLow).toNat
    else s.reg a

/-- What the register at `a` of the analog block shows. -/
def State.anaShows (s : State) (a : Nat) : Word :=
  if a < 0x40308000 then
    let k := (a - 0x40300000) / 0x400
    if a = aCONV_STATUS k then putBits (s.reg a) CONV_STATUS.ready (s.isReady 8 k).toNat else s.reg a
  else if a < 0x40340000 then
    let g := (a - 0x40330000) / 0x20
    if a = aSG_STATUS g then putBits (s.reg a) SG_STATUS.busy (decide (s.tb < (s.group g).busyUntil)).toNat else s.reg a
  else if a < 0x40380000 then
    let k := (a - 0x40340000) / 0x40
    if a = aSD_STATUS k then
      putBits (putBits (putBits (s.reg a) SD_STATUS.ready (s.isReady 9 k).toNat) SD_STATUS.fast_h (s.sdfH k).toNat) SD_STATUS.fast_l
        (s.sdfL k).toNat
    else s.reg a
  else if a < 0x40380600 then
    let nn := (a - 0x40380000) / 0x10
    if a = aWM_STATUS nn then s.wmStatus nn else s.reg a
  else
    let w := (a - 0x40380800) / 8
    if a = aBW_STATUS w then putBits (s.reg a) BW_STATUS.open_ (s.win w).openTick.isSome.toNat else s.reg a

/-- What the register at `a` of system control shows. -/
def State.sysShows (s : State) (a : Nat) : Word :=
  if a = aDBG_CTRL then
    putBits (putBits (s.reg a) DBG_CTRL.locked s.dbgLocked.toNat) DBG_CTRL.provisioned s.provisioned.toNat
  else if 0x40F00240 ≤ a ∧ a < 0x40F00270 then s.nonce ((a - 0x40F00240) / 4)
  else s.reg a

/-- What the register at `a` of engine control shows. -/
def State.ctlShows (s : State) (e a : Nat) : Word :=
  let o := a - engBase e
  if o = 0x004 then putBits (s.reg a) ENG_STATUS.halted (s.stopped e).toNat
  else if o = 0x300 ∨ o = 0x304 then
    (List.range 32).foldl (fun w j => putBit w j (s.licPending e ((o - 0x300) * 8 + j))) 0
  else s.reg a

/-- Which Newt's engine control does byte address `a` lie in? -/
def ctlNewt (a : Nat) : Option Nat :=
  if 0x20000000 ≤ a ∧ a < 0x22000000 ∧ a % 0x200000 < 0x100000 ∧ 0xF000 ≤ a % 0x10000 then
    some ((a - 0x20000000) / 0x200000 * 16 + a % 0x200000 / 0x10000)
  else none

/-- What a read of the register at `a` returns, but for what the read itself changes and for shadows (R7, R10). -/
def State.shows (s : State) (a : Nat) : Word :=
  if a < 0x40000000 then (match ctlNewt a with
    | some n => s.ctlShows n a
    | none => s.reg a)
  else if a = aTB_LO then s.tbLo
  else if a = aTB_HI then s.tbHi
  else if a = aSESSION then s.sessionWord
  else if a < 0x40100000 then s.reg a
  else if a < 0x40300000 then s.timShows a
  else if a < 0x40400000 then s.anaShows a
  else if a < 0x40406000 then
    let i := (a - 0x40400000) / 8
    if a = aFAB_CTL i then putBits (s.reg a) FAB_CTL.busy (s.inputBusy i).toNat else s.reg a
  else if 0x40500800 ≤ a ∧ a < 0x40500840 then s.routeLvl ((a - 0x40500800) / 4)
  else if 0x40700000 ≤ a ∧ a < 0x40701000 then
    let c := (a - 0x40700000) / 0x40
    if a = aDMA_REM c then
      BitVec.ofNat 32 (((s.dmaCh c).td.getD 2 0).toNat % 2 ^ 20 - (s.dmaCh c).answered)
    else s.reg a
  else if 0x40A50000 ≤ a ∧ a < 0x40A58000 then
    let c := (a - 0x40A50000) / 0x1000
    let o := a % 0x1000
    if 0x100 ≤ o ∧ o < 0x150 then s.canRxf c ((o - 0x100) / 4)
    else if o = 0x01C then s.swNow a
    else if 0x400 ≤ o ∧ o < 0xE00 then s.canTxb c ((o - 0x400) / 0x50) ((o - 0x400) % 0x50 / 4)
    else s.reg a
  else if 0x40F00000 ≤ a ∧ a < 0x40F10000 then s.sysShows a
  else s.reg a

/-! ### Reads of registers -/

/-- The 64-bit counter whose low word is at `a` (R40). -/
def lowCtr (a : Nat) : Option Counter64 :=
  if a = aTB_LO then some .tb
  else if a = aRST_TB_LO then some .rstTb
  else if a = aWAKE_TB_LO then some .wakeTb
  else if 0x40100000 ≤ a ∧ a < 0x40110000 ∧ a % 0x800 = 8 then some (.slice (Fin.ofNat 63 ((a - 0x40100000) / 0x400)))
  else if 0x40202000 ≤ a ∧ a < 0x40202200 ∧ a % 16 = 4 then some (.cap (Fin.ofNat 32 ((a - 0x40202000) / 16)))
  else if 0x40600000 ≤ a ∧ a < 0x40600400 ∧ a % 32 = 0x14 then some (.cgLast (Fin.ofNat 32 ((a - 0x40600000) / 32)))
  else none

/-- Is the register at `a` read from the requester's shadow (R41, R318, R320)? -/
def State.shadowed (s : State) (a : Nat) : Bool :=
  a == aTB_HI || a == aRST_TB_HI || a == aWAKE_TB_HI ||
    (decide (0x40100000 ≤ a) && decide (a < 0x40110000) && a % 0x800 == 0x408 && s.chained ((a - 0x40100000) / 0x400)) ||
    (decide (0x40202000 ≤ a) && decide (a < 0x40202200) && a % 16 == 8) ||
    (decide (0x40600000 ≤ a) && decide (a < 0x40600400) && a % 32 == 0x18)

/-- The serial interface whose DATA register is at `a`. -/
def dataIf (a : Nat) : Option SerialIf :=
  if 0x40A20000 ≤ a ∧ a < 0x40A20C00 ∧ a % 0x100 = 8 then some (.i2c (Fin.ofNat 12 ((a - 0x40A20000) / 0x100)))
  else if 0x40A30000 ≤ a ∧ a < 0x40A30800 ∧ a % 0x100 = 8 then some (.spi (Fin.ofNat 8 ((a - 0x40A30000) / 0x100)))
  else if 0x40A40000 ≤ a ∧ a < 0x40A40800 ∧ a % 0x100 = 8 then some (.uart (Fin.ofNat 8 ((a - 0x40A40000) / 0x100)))
  else none

/-- A read of the listed register at `a` by requester `q`: the state, and the word. -/
def State.regRead (s : State) (q : Req) (a : Nat) : State × Word :=
  match lowCtr a, dataIf a with
  | some c, _ => (s.lowEffect q c, s.lowWord c)
  | none, some f => ((s.serPop f).2, (s.serPop f).1)
  | none, none =>
    if s.shadowed a then (s, s.shadow a q)
    else if 0x40300000 ≤ a ∧ a < 0x40308000 ∧ a % 0x400 = 0x10 then
      (s.fifoPop ((a - 0x40300000) / 0x400), s.fifoHead ((a - 0x40300000) / 0x400))
    else if a = aCC_SRD_DATA then (s, s.srdData s.shows)
    else if a = aCC_SRD_INFO then (s, s.srdInfo)
    else (s, s.shows a)

/-- Is a register listed at word address `a` (R12)? Context banks list their reserved words. -/
def listed (a : Nat) : Bool := match ctlNewt a with
  | some n => (ctlRights n (a - engBase n)).isSome
  | none => (regRow a).isSome

/-- May requester `q` read the register at `a`: island, ring, the queue manager's readiness (R359)? -/
def State.mayRead (s : State) (q : Req) (a : Nat) : Bool :=
  s.admits q (s.islandOf a) && listed a && decide (s.ringOf q ≤ readCap a) && ((ctlNewt a).isNone || s.ctlFar q) &&
    (!(decide (0x50000000 ≤ a) && decide (a < 0x50040000)) || s.on aQM_STATUS QM_STATUS.ready)

/-! ### Memory -/

/-- Does the word at `a` hold an uncorrectable error that an access of a size meets (R132, R491)? A write of the whole word does
not. -/
def State.ueAt (s : State) (a : Nat) : Bool :=
  (isMem a || inCtx a || (decide (0x50000000 ≤ a) && decide (a < 0x50040000))) && s.ue.contains (a / 4 * 4)

/-- May a far write of ring `r` change the clutch memory at byte address `a` (R28; the ENG_PROT region is writable by ring 0
only)? -/
def State.ramMay (s : State) (r a : Nat) : Bool :=
  let o := a % 0x200000
  let n := (a - 0x20000000) / 0x200000 * 16 + o / 0x10000
  let k := o % 0x10000
  if 0x100000 ≤ o then true
  else if k < 0x4000 then
    r == 0 || !(decide (s.get (aENG_PROT n) ENG_PROT.prot_lo ≤ k / 4) && decide (k / 4 < s.get (aENG_PROT n) ENG_PROT.prot_hi))
  else if decide (0x8000 ≤ k) = s.activeBank n then r == 0
  else decide (r ≤ 1)

/-- Does a store of a Newt to its own operand store meet a feed write of this tick to the word, which lands last (R72)? -/
def State.fedFirst (s : State) (a : Nat) : Bool :=
  s.carried.any (fun x => memNewt a == some x.eng) && (s.cyc.at s.tb).fed.contains (a / 4 * 4)

/-- Store the low bytes of `w` to memory by a far write of ring `r`. -/
def State.ramWrite (s : State) (r a size : Nat) (w : Word) : State × Acc.Res :=
  if a < 0x10000000 then (s, .err)
  else if s.ueAt a && size != 0 && (pageOf a).isNone then (s.metUe (a / 4 * 4), .err)
  else if !(decide (a < 0x20000000) || s.ramMay r a) then (s, .err)
  else if s.fedFirst a then (s, .ok 0)
  else
    let s := if size = 0 then s else s.metCe (a / 4 * 4)
    match (if a < 0x20000000 then none else pageOf a) with
    | some p => (s.pageWrite p a (sizeLen size) w, .ok 0)
    | none => (s.memWrite a (sizeLen size) w, .ok 0)

/-- Load from memory: a word of the NVM waits for a pulse in progress (R492); an uncorrectable word gives an error response. -/
def State.ramRead (s : State) (a size : Nat) : State × Acc.Res :=
  if s.readWaits a then (s, .held)
  else if s.ueAt a then (s.metUe (a / 4 * 4), .err)
  else (s.metCe (a / 4 * 4), .ok (pick a size (s.word (a / 4 * 4))))

/-- A read of the memory on an xSPI port (R448): a command in progress goes first (R449, R450); a port that is not enabled or
not READY gives an error response. -/
def State.xspiRead (s : State) (a size : Nat) : State × Acc.Res :=
  let x := (a - 0x80000000) / 0x20000000
  let o := (a - 0x80000000) % 0x20000000 / 4 * 4
  if !s.on (aXSPI_CFG x) XSPI_CFG.en || !s.isReady 19 (10 + x) then (s, .err)
  else if s.readWaits a then (s, .held)
  else
    let b (i : Nat) : Byte := Config.xspiByte x s.fresh (o + i)
    ({ s with fresh := s.fresh + 1 }, .ok (pick a size (b 3 ++ b 2 ++ b 1 ++ b 0)))

/-! ### Every address but the Swimlink windows -/

/-- The island that an access to `a` crosses into; none where the requester's own port refuses it (R554). -/
def State.target (s : State) (a : Nat) : Option Nat :=
  if isMem a then some (s.islandOf a)
  else if a < 0x20000000 then none
  else if a < 0x22000000 then some (s.islandOf a)
  else if (0x40110000 ≤ a ∧ a < 0x40200000) ∨ (0x40308000 ≤ a ∧ a < 0x40330000) then none
  else if (0x40000000 ≤ a ∧ a < 0x41000000) ∨ (0x50000000 ≤ a ∧ a < 0x50040000) ∨ (0x51000000 ≤ a ∧ a < 0x51100200) then
    some (s.islandOf a)
  else if inXspi a then some islLNK
  else none

/-- The island that an access to any address crosses into: LNK through a Swimlink window, if its port does not refuse it (R427, R554). -/
def State.crossing (s : State) (a : Nat) : Option Nat :=
  if inWindow a then (if s.windowBad a then none else some islLNK) else s.target a

/-- A read of a size at byte address `a` by requester `q`. -/
def State.busRead (s : State) (q : Req) (a size : Nat) : State × Acc.Res :=
  match s.target a with
  | none => (s, .err)
  | some i =>
    if !s.admits q i then (s, .err)
    else if s.held i then (s, .held)
    else if isMem a then s.ramRead a size
    else if inXspi a then s.xspiRead a size
    else match portOf a with
      | some (d, o) => if size = 0 then s.portRead q d o else (s, .err)
      | none =>
        if s.ueAt a && s.mayRead q (a / 4 * 4) then (s.metUe (a / 4 * 4), .err)
        else if s.mayRead q (a / 4 * 4) then
          let r := (s.metCe (a / 4 * 4)).regRead q (a / 4 * 4)
          (r.1, .ok (pick a size r.2))
        else (s, .err)

/-! ### Writes of registers -/

/-- What a write to DMA_CTRL does: start, ignored while busy or not enabled, and abort (R365, R379). -/
def State.dmaCtrl (s : State) (c : Nat) (w : Word) : State :=
  let busy := s.on (aDMA_STAT c) DMA_STAT.busy
  let d := s.dmaCh c
  let t := if getBits w DMA_CTRL.abort = 1 ∧ busy = true then
      match d.phase with
      | .waitq _ => { s with qm := { s.qm with waits := s.qm.waits.filter (fun x => x.who != Waiter.dma c) } }.dmaEnd c 4 true
      | .fetch => s.setDma c { d with phase := .finish 4 }
      | .finish st => s.setDma c { d with phase := .finish (if st = 0 then 4 else st) }
      | .run => (s.giveUp (258 + c)).setDma c { d with phase := .finish 4 }
      | .idle => s
    else s
  if getBits w DMA_CTRL.start = 0 then t
  else if busy || !s.on (aDMA_CFG c) DMA_CFG.en then t.set (aDMA_STAT c) DMA_STAT.start_ign 1
  else (((t.set (aDMA_STAT c) DMA_STAT.busy 1).setReg (aDMA_CUR c) (t.reg (aDMA_TD c))).setDma c
    { phase := .fetch, late := d.late })

/-- A write to the register at `a` of DMA channel `c`: DMA_CFG and DMA_TD only while it is not busy (R381). -/
def wrDma (q : Req) (c a : Nat) (w : Word) (s : State) : State :=
  let o := a % 0x40
  if o ≤ 4 ∧ s.on (aDMA_STAT c) DMA_STAT.busy then s.refuse q
  else s.write q islSYS 1 (fun t => if o = 8 then t.dmaCtrl c w else t.storeDirect a (fldsAt a) w)

/-- DMA_START. -/
def execDmaStart (q : Req) (ch : Fin 64) (w : Word) (s : State) : Host.Outcome State Fault Refusal :=
  .next (s.crossTo q true (aDMA_CTRL ch) w (wrDma q ch (aDMA_CTRL ch) w))

/-- DMA_ABORT. -/
def execDmaAbort (q : Req) (ch : Fin 64) (w : Word) (s : State) : Host.Outcome State Fault Refusal :=
  .next (s.crossTo q true (aDMA_CTRL ch) w (wrDma q ch (aDMA_CTRL ch) w))

/-- A write to a register without behaviour of its own: its fields are stored under their access codes (R7, R10, R11, R325). -/
def wrPlain (q : Req) (a : Nat) (w : Word) (s : State) : State :=
  settle s (s.writeFields q (s.islandOf a) (writeCap a) a (fldsAt a) w id)

/-- A write to a register of the standard interfaces. -/
def wrStd (q : Req) (a : Nat) (w : Word) (s : State) : State :=
  let i := a % 0x10000 / 0x100
  let c := a % 0x10000 / 0x1000
  match dataIf a with
  | some f => wrData q f w s
  | none =>
    if a = aXSPI_CCTL 0 then wrXspiCctl q 0 w s
    else if a = aXSPI_CCTL 1 then wrXspiCctl q 1 w s
    else if a < 0x40A20000 then wrPlain q a w s
    else if a < 0x40A30000 then
      (if a % 0x100 = 4 then wrI2cCmd q (Fin.ofNat 12 i) w s
       else if a % 0x100 = 0 then wrSerCfg q (.i2c (Fin.ofNat 12 i)) fI2C_CFG w s else wrPlain q a w s)
    else if a < 0x40A40000 then
      (if a % 0x100 = 4 then wrSpiCtrl q (Fin.ofNat 8 i) w s
       else if a % 0x100 = 0 then wrSerCfg q (.spi (Fin.ofNat 8 i)) fSPI_CFG w s else wrPlain q a w s)
    else if a < 0x40A50000 then
      (if a % 0x100 = 0 then wrSerCfg q (.uart (Fin.ofNat 8 i)) fUART_CFG w s else wrPlain q a w s)
    else if a < 0x40A60000 then
      (if a = aCAN_TXREQ c then wrCanTxreq q c w s
       else if a = aCAN_TXABORT c then wrCanTxabort q c w s
       else if a = aCAN_RXPOP c then wrCanRxpop q c w s
       else if a = aCAN_CTRL c then wrCanCtrl q c w s else wrPlain q a w s)
    else if a < 0x40A60080 then wrGpioCfg q ((a - 0x40A60000) / 4) w s
    else wrPlain q a w s

/-- A write to a register of Fieldring or Swimlink. -/
def wrLink (q : Req) (a : Nat) (w : Word) (s : State) : State :=
  let p := (a - 0x40800000) / 0x40
  let l := (a - 0x40900100) / 0x40
  if a < 0x40808000 then
    (if a = aFR_CTRL p then wrFrCtrl q p w s else if a = aFR_CFG p then wrFrCfg q p w s else wrPlain q a w s)
  else if a < 0x40810000 then (if a % 8 = 0 then wrPtMap q ((a - 0x40808000) / 8) w s else wrPlain q a w s)
  else if a < 0x40900000 then wrPlain q a w s
  else if a = aSWL_TM then wrSwlTm q w s
  else if a = aSWL_OWN then wrSwlOwn q w s
  else if a = aSWL_PAIR then wrSwlPair q w s
  else if a = aSWL_RRST then wrSwlRrst q w s
  else if 0x40900100 ≤ a ∧ a < 0x40900300 ∧ a = aSWL_CFG l then wrSwlCfg q l w s
  else wrPlain q a w s

/-- A write to a register of system control; clearing ECC_UE_INFO.valid clears the later count, and a write to MODE may change
the shown mode (R473, R503). -/
def wrSys (q : Req) (a : Nat) (w : Word) (s : State) : State :=
  if a = aSW_RST then wrSwRst q w s
  else if a = aSK_RUN then wrSkRun q w s
  else if a = aISL_RST then wrIslRst q w s
  else if a = aBLK_RST then wrBlkRst q w s
  else if a = aMODE_REQ then wrModeReq q w s
  else if a = aBOOT_STATUS then wrBoot q a fBOOT_STATUS w s
  else if a = aBOOT_VER then wrBoot q a fBOOT_VER w s
  else if a = aDBG_CTRL then wrDbgCtrl q w s
  else if a = aOTP_PCMD then wrOtpPcmd q w s
  else if a = aNVM_CMD then wrNvmCmd q w s
  else if a = aLOCKSTEP then wrLockstep q w s
  else if a = aSYS_WDT_CTRL then wrSysWdtCtrl q w s
  else if a = aSYS_WDT_KICK then wrSysWdtKick q w s
  else if a = aMODE then settle s (s.writeFields q islAON 0 a fMODE w State.showMode)
  else if a = aECC_UE_INFO then
    s.writeFields q islAON 0 a fECC_UE_INFO w (fun t =>
      if getBits w ECC_UE_INFO.valid = 1 && !t.on a ECC_UE_INFO.valid then t.set a ECC_UE_INFO.later_cnt 0 else t)
  else wrPlain q a w s

/-- A write to a register of the timing islands but the slices, of the analog block and the window monitors. -/
def wrEdge (q : Req) (a : Nat) (w : Word) (s : State) : State :=
  let z := (a - 0x40200000) / 0x80
  let nn := (a - 0x40380000) / 0x10
  if a < 0x40100000 then
    wrPlain q a w s
  else if a < 0x40201000 then (if a = aTZ_STATUS z then wrTzStatus q z w s else wrPlain q a w s)
  else if a = aSAFE_CTRL then wrSafeCtrl q w s
  else if a = aREF_CFG then wrRefCfg q w s
  else if 0x40340000 ≤ a ∧ a < 0x40340800 ∧ a % 0x40 = 0 then wrSdCtrl q ((a - 0x40340000) / 0x40) w s
  else if 0x40340000 ≤ a ∧ a < 0x40340800 ∧ a % 0x40 = 4 then wrSdFast q ((a - 0x40340000) / 0x40) w s
  else if 0x40340800 ≤ a ∧ a < 0x40340820 then wrSdcCfg q ((a - 0x40340800) / 4) w s
  else if 0x40380000 ≤ a ∧ a < 0x40380600 ∧ a % 16 = 0 then wrWmCfg q nn w s
  else if 0x40380000 ≤ a ∧ a < 0x40380600 ∧ a % 16 = 4 then wrWmThr q nn w s
  else if 0x40380800 ≤ a ∧ a < 0x40380900 ∧ a % 8 = 0 then wrBwCfg q ((a - 0x40380800) / 8) w s
  else wrPlain q a w s

/-- A write of a word to the listed register at `a`. -/
def wrReg (q : Req) (a : Nat) (w : Word) (s : State) : State :=
  if a < 0x40000000 then (match ctlNewt a with
    | some n => wrCtl q n (a - engBase n) w s
    | none => wrClutchReg q ((a - 0x20000000) / 0x200000) a w s)
  else if a < 0x40400000 then wrEdge q a w s
  else if a < 0x40406000 then
    (if a % 8 = 4 then wrFabCtl q ((a - 0x40400000) / 8) w s else wrPlain q a w s)
  else if a = aFAB_ERR then wrFabErr q w s
  else if a < 0x40500000 then wrPlain q a w s
  else if a < 0x40500800 then wrRouteCfg q ((a - 0x40500000) / 4) w s
  else if a < 0x40600000 then wrPlain q a w s
  else if a < 0x40600400 then
    let g := (a - 0x40600000) / 0x20
    (if a % 0x20 < 0x0C then wrCgSet q g a (fldsAt a) w s
     else if a % 0x20 = 0x0C then wrCgArm q g w s else wrPlain q a w s)
  else if 0x40600800 ≤ a ∧ a < 0x40601000 then wrCcRsel q ((a - 0x40600800) / 4) w s
  else if a < 0x40700000 then wrPlain q a w s
  else if a < 0x40800000 then wrDma q ((a - 0x40700000) / 0x40) a w s
  else if a < 0x40A00000 then wrLink q a w s
  else if a < 0x40F00000 then wrStd q a w s
  else if a < 0x50000000 then wrSys q a w s
  else if a < 0x50040000 then wrDesc q ((a - 0x50000000) / 16) (a % 16 / 4) w s
  else wrPlain q a w s

/-- Make a write as a command makes it, and take its answer from the response record, which stays as it was. -/
def State.via (s : State) (q : Req) (f : State → State) : State × Acc.Res :=
  let t := f s
  let r := sget {} t.resp (reqNum q)
  ({ t with resp := sput {} (reqNum q) (sget {} s.resp (reqNum q)) t.resp }, if r.err then .err else .ok r.val)

/-- The word that the bytes a write leaves out come from: what a register with a load point holds staged or in its shadow, if it
holds anything there (R279), else its active value. -/
def State.writeBase (s : State) (b : Nat) : Word :=
  match sliceOf b with
  | some n => if hasLoad (sliceOfs b) then
      ((s.stagedAt b).map (·.val)).getD ((sget none (s.slice n).shadow b).getD (s.reg b)) else s.reg b
  | none => s.reg b

/-- The fields of the register at `b` as a write finds them: with ld_imm = 1 those of WM_THR are direct, not staged (R91). -/
def State.busFlds (s : State) (b : Nat) : List Fld :=
  let nn := (b - 0x40380000) / 0x10
  if 0x40380000 ≤ b ∧ b = aWM_THR nn ∧ s.on (aWM_CFG nn) WM_CFG.ld_imm = true then (fldsAt b).map (fun f => { f with acc := .rw })
  else fldsAt b

/-- A write of a size to the listed register at word address `a / 4 * 4`: part of a word that holds an RWS field is refused
whole (R325). -/
def State.regWrite (s : State) (q : Req) (a size : Nat) (v : Word) : State × Acc.Res :=
  let b := a / 4 * 4
  let fs := s.busFlds b
  if size ≠ 0 ∧ hasRws fs = true then (s, .err)
  else s.via q (wrReg q b (spread fs (s.writeBase b) a size v))

/-- A write of a size to a register of slice `n` reaches the slice, which has still to capture it (R278). -/
def State.sliceBus (s : State) (q : Req) (n a size : Nat) (v : Word) : State × Acc.Res :=
  let b := a / 4 * 4
  if size ≠ 0 ∧ hasRws (fldsAt b) = true then (s, .err)
  else (s.sliceWrite n b (s.accessXfer q true b v) (spread (fldsAt b) (s.writeBase b) a size v), .held)

/-- A write of a size to STG_CFG or STG_PER reaches TIM0, which has still to capture it (R275, R278, R295). -/
def State.stgBus (s : State) (q : Req) (a size : Nat) (v : Word) : State × Acc.Res :=
  let b := a / 4 * 4
  if size ≠ 0 then (s, .err) else (s.stgWrite b (s.accessXfer q true b v) v, .held)

/-- A write of a size at byte address `a` by requester `q`; a port put and a write that is to be captured may have to wait. -/
def State.busWrite (s : State) (q : Req) (a size : Nat) (v : Word) : State × Acc.Res :=
  match s.target a with
  | none => (s, .err)
  | some i =>
    if !s.admits q i then (s, .err)
    else if s.held i then (s, .held)
    else if isMem a then s.ramWrite (s.ringOf q) a size v
    else if inXspi a then (s, .err)
    else match portOf a with
      | some (d, o) => if size = 0 then s.portWrite q d o v else (s, .err)
      | none =>
        if !listed (a / 4 * 4) then (s, .err)
        else match sliceOf (a / 4 * 4) with
          | some n => s.sliceBus q n a size v
          | none => if (stgWord (a / 4 * 4)).isSome then s.stgBus q a size v else s.regWrite q a size v

/-- The access `f` is made as transfer `x` brings it: with its ring and its commit group (R28, R323). -/
def State.carry {α : Type} (s : State) (x : Xfer) (f : State → State × α) : State × α :=
  let r := f { s with carried := some x }
  ({ r.1 with carried := none }, r.2)

/-! ### Commands that are accesses -/

/-- An access of requester `q` to `a` whose response follows: through a Swimlink window it leaves for the other device (R427), anywhere else
`eff` performs it; it may have to wait to cross first. -/
def State.cmdAccess (s : State) (q : Req) (write : Bool) (a : Nat) (w : Word) (eff : State → State × Acc.Res) : State :=
  if a % 4 ≠ 0 then s.refuse q
  else match s.crossing a with
    | none => s.refuse q
    | some i => s.cross q i write a w (fun t =>
        if inWindow a then (if t.admits q i then t.sendAccess (t.accessXfer q write a w) else t.refuse q)
        else (eff t).1.respond q (eff t).2)

/-- Requester `q` writes a word to `a`. -/
def State.cmdWrite (s : State) (q : Req) (a : Nat) (w : Word) : State := s.cmdAccess q true a w (fun t => t.busWrite q a 0 w)

/-- Requester `q` reads the word at `a`. -/
def State.cmdRead (s : State) (q : Req) (a : Nat) : State := s.cmdAccess q false a 0 (fun t => t.busRead q a 0)

/-- REGISTER_WRITE: a write of a word to a register; anywhere else it is the write that the map gives. -/
def execRegisterWrite (q : Req) (a w : Word) (s : State) : Host.Outcome State Fault Refusal := .next (s.cmdWrite q a.toNat w)

/-- STAGED_WRITE: a write of a word that holds staged state, a register word or a word of a parameter page. -/
def execStagedWrite (q : Req) (a w : Word) (s : State) : Host.Outcome State Fault Refusal := .next (s.cmdWrite q a.toNat w)

/-- CC_SRD_READ. -/
def execCcSrdRead (q : Req) (s : State) : Host.Outcome State Fault Refusal := .next (s.cmdRead q aCC_SRD_DATA)

/-- Does the access of requester `q` end with an error response before any block sees it: at an address that the map or its
block does not list, or in an island that is in reset, unreleased or dark (R12, R21, R27, R554)? -/
def State.noAccess (s : State) (q : Req) (a : Nat) : Bool :=
  match s.crossing a with
    | none => true
    | some i => !s.admits q i || !(inWindow a || isMem a || inXspi a || (portOf a).isSome || listed (a / 4 * 4))

/-- ACCESS_ERROR_RESPONSE: an access that nothing takes completes with an error response; any other acts as it would. -/
def execAccessErrorResponse (q : Req) (write : Bool) (a v : Word) (s : State) : Host.Outcome State Fault Refusal :=
  .next (if s.noAccess q a.toNat then s.refuse q
  else if write then s.cmdWrite q a.toNat v else s.cmdRead q a.toNat)

end Sys2Proof.Machine
end

