-- ==== Sys2Proof/Machine/Remote.lean ====
section
/-!
DEFINITION. Requests that arrive on Swimlink (R427, R429, R441).
-/

namespace Sys2Proof.Machine

/-- The requester that a request arriving on port `l` makes (R323, R429). -/
def State.swlReqOf (s : State) (l : Fin 8) (p : SwlPkt) : Req := .swl l (Fin.ofNat 4 (s.effRing (pktRing p)))

/-- The address here that a request names, where its window lists it and its size fits. -/
def reqAddr (p : SwlPkt) : Option Nat := match windowTarget (pktAddr p) with
  | some a => if a % sizeLen (pktSize p) = 0 then some a else none
  | none => none

/-- Answer a request with ERRRSP. -/
def State.errRsp (s : State) (p : SwlPkt) : State := s.answer 10 (pktSrc p) (pktTag p) []

/-- The transfer that a request becomes (R16): with its effective ring and the commit group of its port (R323, R429). -/
def State.reqXfer (s : State) (l : Fin 8) (p : SwlPkt) (write : Bool) (a : Nat) : Xfer :=
  { eng := 323 + l
    st := { kind := .remote write (pktSrc p) (pktTag p), addr := a, size := pktSize p, ring := s.effRing (pktRing p)
            data := if write then BitVec.ofNat 32 (leNat ((pktData p).take 4)) else 0 }
    cg := s.rsel (323 + l) }

/-- A request for this device crosses to its target's island, behind those that wait for an entry of the FIFO (R18); one that nothing
takes is answered with ERRRSP (R21, R427, R554). -/
def State.serveReq (s : State) (l : Fin 8) (p : SwlPkt) (write : Bool) : State :=
  match reqAddr p with
  | none => s.errRsp p
  | some a => match s.target a with
    | none => s.errRsp p
    | some i =>
      if !s.admits (s.swlReqOf l p) i then s.errRsp p
      else (s.setFifo islLNK i (s.fifo islLNK i ++ [s.reqXfer l p write a])).portSelect (323 + l) (if write then a else 0)
        (s.reqXfer l p write a).st.data

/-- SWL_RDREQ. -/
def execSwlRdreq (l : Fin 8) (p : SwlPkt) (s : State) : Host.Outcome State Fault Refusal :=
  .next (s.arrivePkt l 1 p (fun t => t.serveReq l p false))

/-- SWL_WRREQ. -/
def execSwlWrreq (l : Fin 8) (p : SwlPkt) (s : State) : Host.Outcome State Fault Refusal :=
  .next (s.arrivePkt l 2 p (fun t => t.serveReq l p true))

/-- SWL_RRST: a SYS reset with cause remote, or ERRRSP. -/
def execSwlRrst (l : Fin 8) (p : SwlPkt) (s : State) : Host.Outcome State Fault Refusal :=
  fin s (s.arrivePkt l 8 p (fun t =>
    if t.on aSWL_DEV SWL_DEV.rrst_en && t.effRing (pktRing p) == 0 then t.resetCause 0xA true else t.errRsp p))

end Sys2Proof.Machine
end

