-- ==== Sys2Proof/Machine/Dma.lean ====
section
/-!
DEFINITION. The DMA mover (R365 to R380).
-/

namespace Sys2Proof.Machine

/-! ### Transfer descriptors (R366 to R368) -/

/-- Word `i` of a TD. -/
def tdWord (td : List Word) (i : Nat) : Word := td.getD i 0

/-- Its source and destination, its count, and its mode. -/
def tdSrc (td : List Word) : Nat := (tdWord td 0).toNat
def tdDst (td : List Word) : Nat := (tdWord td 1).toNat
def tdCount (td : List Word) : Nat := (tdWord td 2).toNat % 2 ^ 20
def tdMode (td : List Word) : Nat := (tdWord td 3).toNat % 8

/-- N, R and C. -/
def tdNway (td : List Word) : Nat := (tdWord td 3).toNat / 2 ^ 8 % 64
def tdRows (td : List Word) : Nat := (tdWord td 3).toNat / 2 ^ 16 % 64 + 1
def tdCols (td : List Word) : Nat := (tdWord td 3).toNat / 2 ^ 22 % 64 + 1

def tdSrcFixed (td : List Word) : Bool := (tdWord td 3).getLsbD 30
def tdDstFixed (td : List Word) : Bool := (tdWord td 3).getLsbD 31
def tdRec (td : List Word) : Bool := (tdWord td 5).getLsbD 31
def tdAckwait (td : List Word) : Bool := (tdWord td 5).getLsbD 30
def tdQueue (td : List Word) : Nat := (tdWord td 5).toNat % 2 ^ 14

/-- Is a reserved bit of a TD 1 (R366)? -/
def tdReserved (td : List Word) : Bool :=
  tdSrc td % 4 != 0 || tdDst td % 4 != 0 || (tdWord td 2).toNat / 2 ^ 20 != 0 || (tdWord td 3 &&& 0x3000C0F8#32) != 0 ||
    (tdWord td 4 &&& 0x1E#32) != 0 || (tdWord td 5 &&& 0x3FFFC000#32) != 0 || tdWord td 6 != 0 || tdWord td 7 != 0

/-- Is a TD bad (R367)? -/
def tdBad (td : List Word) : Bool :=
  let n := tdNway td
  tdReserved td || decide (4 ≤ tdMode td) || tdCount td == 0 ||
    ((tdMode td == 1 || tdMode td == 2) && (decide (n < 2) || decide (32 < n) || tdCount td % n != 0)) ||
    (tdMode td == 3 && tdCount td != tdRows td * tdCols td) || (tdDstFixed td && tdMode td != 0)

/-- The destination index of source index `i` (R368). -/
def tdMap (td : List Word) (i : Nat) : Nat :=
  let n := tdNway td
  let l := tdCount td / n
  match tdMode td with
  | 1 => n * (i % l) + i / l
  | 2 => i % n * l + i / n
  | 3 => i % tdCols td * tdRows td + i / tdCols td
  | _ => i

/-- The byte addresses of source index `i` and of its destination. -/
def tdFrom (td : List Word) (i : Nat) : Nat := if tdSrcFixed td then tdSrc td else (tdSrc td + 4 * i) % 2 ^ 32
def tdTo (td : List Word) (i : Nat) : Nat := if tdDstFixed td then tdDst td else (tdDst td + 4 * tdMap td i) % 2 ^ 32

/-- DMA_TD_FETCH: the TD at DMA_CUR arrives and is checked. -/
def execDmaTdFetch (ch : Fin 64) (s : State) : Host.Outcome State Fault Refusal :=
  let a := (s.reg (aDMA_CUR ch)).toNat
  let d := s.dmaCh ch
  .next (if d.phase = .fetch ∧ s.reach islSYS = true ∧ s.initAt a = false then
    if !inSram a 32 then s.setDma ch { d with phase := .finish 3, td := [] }
    else match ((List.range 8).map (fun i => a + 4 * i)).find? (fun w => s.ue.contains w) with
      | some _ => (s.noteUe a 32).setDma ch { d with phase := .finish 3, td := [] }
      | none =>
        let td := (List.range 8).map (fun i => s.word (a + 4 * i))
        (s.noteUe a 32).setDma ch { phase := if tdBad td then .finish 3 else .run, td := td, late := d.late }
  else s)

/-! ### Bursts (R369, R370) -/

/-- Has channel `c` a burst ready? -/
def State.burstReady (s : State) (c : Nat) : Bool :=
  let d := s.dmaCh c
  d.phase == .run && decide (d.issued < tdCount d.td) &&
    (!s.on (aDMA_CFG c) DMA_CFG.req_mode || s.fab.held.contains (2096 + c))

/-- How many indices its next burst covers. -/
def State.burstLen (s : State) (c : Nat) : Nat :=
  min (s.get (aDMA_CFG c) DMA_CFG.burst) (tdCount (s.dmaCh c).td - (s.dmaCh c).issued)

/-- The channels in the order of the round-robin: from the one after the last served. -/
def State.dmaOrder (s : State) : List Nat := (List.range 64).map (fun i => (s.dma.last + 1 + i) % 64)

/-- The channel that the arbiter grants: the highest prio among those with a burst ready, ties round-robin. -/
def State.dmaGrant (s : State) : Option Nat :=
  (s.dmaOrder.filter s.burstReady).foldl (fun b c => match b with
    | some x => if s.get (aDMA_CFG x) DMA_CFG.prio < s.get (aDMA_CFG c) DMA_CFG.prio then some c else b
    | none => some c) none

/-- The reads that have left the mover and are not yet taken, of every channel that goes on (R370, R371). -/
def State.dmaOutstanding (s : State) : Nat :=
  s.dma.ch.foldl (fun n x => if x.2.phase = .run then n + (x.2.sent - x.2.answered) else n) 0

/-- An access of channel `c` to `a`, which crosses into another island (R16, R371). -/
def State.dmaXfer (s : State) (c : Nat) (k : StoreKind) (a : Nat) (w : Word) : Xfer :=
  { eng := 258 + c, st := { kind := k, addr := a, data := w, size := 0, ring := s.get (aDMA_CFG c) DMA_CFG.ring }, cg := s.rsel (258 + c) }

/-- The island outside SYS that an access of the mover to `a` crosses into. -/
def State.dmaCross (s : State) (a : Nat) : Option Nat := match s.crossing a with
  | some i => if i = islSYS then none else some i
  | none => none

/-- The read of index `i` of channel `c` leaves the mover, if it can: into the FIFO of another island, if it has room; one of SYS itself
crosses nothing. -/
def State.dmaIssue (s : State) (c i : Nat) : Option State :=
  let a := tdFrom (s.dmaCh c).td i
  match s.dmaCross a with
  | none => some s
  | some isl =>
    if !s.reach isl then some (s.endDmaRead c i .err)
    else if 8 ≤ (s.fifo islSYS isl).length then none
    else some (s.setFifo islSYS isl (s.fifo islSYS isl ++ [s.dmaXfer c (.dmaRead i) a 0]))

/-- The reads that channel `c` has been granted leave the mover in order, `n` at most, as far as the FIFOs have room (R18) and 64 of all
channels are outstanding; the request for the burst ends with its first read (R369, R370). -/
def State.dmaPump (c : Nat) : Nat → State → State
  | 0, s => s
  | n + 1, s =>
    let d := s.dmaCh c
    if d.phase = .run ∧ d.sent < d.issued ∧ s.dmaOutstanding < 64 then
      match s.dmaIssue c d.sent with
      | some t =>
        let u := t.setDma c { t.dmaCh c with sent := d.sent + 1 }
        State.dmaPump c n (if d.sent = d.burst then u.unhold (2096 + c) else u)
      | none => s
    else s

/-- The burst in progress goes on, while SYS takes new transfers (R370, R471). -/
def State.dmaMore (s : State) : State := if s.reach islSYS then State.dmaPump s.dma.last 64 s else s

/-- Have all the reads of the burst in progress left the mover (R370)? -/
def State.burstOver (s : State) : Bool :=
  let d := s.dmaCh s.dma.last
  d.phase != .run || d.sent == d.issued

/-- The arbiter's choice, at a burst boundary. -/
def State.dmaArbitrate (s : State) : State :=
  match s.dmaGrant with
  | some c =>
    if s.reach islSYS && s.burstOver then
      let d := s.dmaCh c
      let t := s.setDma c { d with issued := d.issued + s.burstLen c, burst := d.issued }
      { t with dma := { t.dma with last := c } }
    else s
  | none => s

/-- DMA_BURST_GRANT: the reads of the burst in progress issue as far as they can; at a burst boundary the arbiter grants the next, whose
reads begin to issue. -/
def execDmaBurstGrant (s : State) : Host.Outcome State Fault Refusal := .next s.dmaMore.dmaArbitrate.dmaMore

/-! ### Words (R370, R371) -/

/-- What the read of the channel's next index, of address `a`, answers: the state, and the answer, none while it is on its way. -/
def State.dmaAnswer (s : State) (c a : Nat) : State × Option DmaAns :=
  let d := s.dmaCh c
  if d.sent ≤ d.answered then (s, none)
  else match s.dmaCross a with
    | some _ => match d.answers.find? (fun x => x.1 == d.answered) with
      | some x => (s.setDma c { d with answers := d.answers.erase x }, some x.2)
      | none => (s, none)
    | none => if s.initAt a then (s, none) else match s.busRead (.dma (Fin.ofNat 64 c)) a 0 with
      | (_, .held) => (s, none)
      | (t, .ok w) => (t, some (.word w))
      | (t, .err) => (t, some (if s.ueAt a && decide (0x10000000 ≤ a) then .ue else .err))

/-- A write to `a` has left the mover, and is to be acknowledged under ackwait. -/
def State.dmaSent (s : State) (c : Nat) : State :=
  if tdAckwait (s.dmaCh c).td then s.setDma c { s.dmaCh c with acks := (s.dmaCh c).acks + 1 } else s

/-- The write of word `w` to address `a` leaves the mover (R374 to R376): into the FIFO of another island, or to a target in SYS; an
error is kept for the TD under ackwait, for a late report otherwise. -/
def State.dmaWrite (s : State) (c a : Nat) (w : Word) : State :=
  let wait := tdAckwait (s.dmaCh c).td
  let x := s.dmaXfer c (.dma wait) a w
  let s := s.portSelect (258 + c) a w
  match s.dmaCross a with
  | some isl =>
    if !s.reach isl then (s.dmaSent c).dmaAck c a wait true
    else (s.setFifo islSYS isl (s.fifo islSYS isl ++ [x])).dmaSent c
  | none => match s.carry x (fun t => t.busWrite (.dma (Fin.ofNat 64 c)) a 0 w) with
    | (t, .ok _) => t
    | (t, .err) => (t.dmaSent c).dmaAck c a wait true
    | (t, .held) => t.dmaSent c

/-- Does the write to `a` wait for an entry of a FIFO (R18), or for a memory (R467)? -/
def State.dmaHeld (s : State) (a : Nat) : Bool := match s.dmaCross a with
  | some i => s.reach i && decide (8 ≤ (s.fifo islSYS i).length)
  | none => s.initAt a

/-- The read of source address `a` failed: the channel stops reading (R371). -/
def State.dmaReadFail (s : State) (c a : Nat) (ue : Bool) : State :=
  ((s.giveUp (258 + c)).setReg (aDMA_ERRADDR c) (BitVec.ofNat 32 a)).setDma c
    { s.dmaCh c with phase := .finish (if ue then 5 else 1) }

/-- The write of word `w`, read for index `i`. -/
def State.dmaPut (s : State) (c i : Nat) (w : Word) : State :=
  (s.setDma c { s.dmaCh c with answered := max (s.dmaCh c).answered (i + 1), written := (s.dmaCh c).written + 1 }).dmaWrite c
    (tdTo (s.dmaCh c).td i) w

/-- The next source word of a channel that moves words returns, and its write is issued, or an error stops the channel. -/
def State.dmaTake (s : State) (c : Nat) : State :=
  let d := s.dmaCh c
  let a := tdFrom d.td d.answered
  if d.answered < d.issued ∧ s.dmaHeld (tdTo d.td d.answered) = false then
    match s.dmaAnswer c a with
    | (_, none) => s
    | (t, some (.word w)) => t.dmaPut c d.answered w
    | (t, some r) => t.dmaReadFail c a (r == .ue)
  else s

/-- A channel that has stopped writes a word that it has read (R371, R379). -/
def State.dmaFlush (s : State) (c : Nat) : State :=
  let d := s.dmaCh c
  match d.answers with
  | (i, .word w) :: l => if s.dmaHeld (tdTo d.td i) then s else (s.setDma c { d with answers := l }).dmaPut c i w
  | _ :: l => s.setDma c { d with answers := l }
  | [] => s

/-- DMA_READ_RESPONSE: a word that the channel has read is written, and the burst in progress goes on. -/
def execDmaReadResponse (ch : Fin 64) (s : State) : Host.Outcome State Fault Refusal :=
  fin s (match (s.dmaCh ch).phase with
    | .run => (s.dmaTake ch).dmaMore
    | .finish _ => (s.dmaFlush ch).dmaMore
    | _ => s)

/-! ### Completion (R372 to R378) -/

/-- The completion record (R372). -/
def State.dmaRecord (s : State) (c status : Nat) : List Word :=
  [BitVec.ofNat 32 (status * 2 ^ 24 + s.get (aDMA_STAT c) DMA_STAT.seq * 2 ^ 8 + c), s.reg (aDMA_CUR c),
   BitVec.ofNat 32 (4 * (s.dmaCh c).written), s.tbLo]

/-- The status with which channel `c` can complete now: every word is written, or the channel has stopped and has written what it read, and under ackwait every
write is acknowledged. -/
def State.dmaStatus (s : State) (c : Nat) : Option Nat :=
  let d := s.dmaCh c
  let st : Option Nat := match d.phase with
    | .run => if d.answered = tdCount d.td then some 0 else none
    | .finish n => if d.answers.isEmpty then some n else none
    | _ => none
  match st with
  | some n => if tdAckwait d.td ∧ 0 < d.acks then none else some (if n = 0 ∧ !d.werr.isEmpty then 2 else n)
  | none => none

/-- DMA_COMPLETION: the record goes to the TD's queue, if there is to be one, and the completion takes effect; on a full
backpressure queue the channel waits (R377). -/
def execDmaCompletion (ch : Fin 64) (s : State) : Host.Outcome State Fault Refusal :=
  let d := s.dmaCh ch
  .next (match s.dmaStatus ch with
    | some st =>
      if !tdRec d.td then s.dmaEnd ch st false
      else if s.qInit (tdQueue d.td) then s
      else if !s.qMay (tdQueue d.td) (s.get (aDMA_CFG ch) DMA_CFG.ring) then (s.qMeet (tdQueue d.td) false).dmaEnd ch st true
      else match (s.qMeet (tdQueue d.td) false).qPutFor (tdQueue d.td) (s.dmaRecord ch st) (.dma ch) with
        | (t, .stored) => t.dmaEnd ch st false
        | (t, .rejected) => t.dmaEnd ch st true
        | (t, .full) => (t.set (aDMA_STAT ch) DMA_STAT.waitq 1).setDma ch { t.dmaCh ch with phase := .waitq st }
    | none => s)

/-- DMA_LATE_ERROR: a write whose record went before it got an error response (R376). -/
def execDmaLateError (ch : Fin 64) (s : State) : Host.Outcome State Fault Refusal :=
  let d := s.dmaCh ch
  let a := aDMA_STAT ch
  .next (match d.late with
    | x :: xs =>
      let t := (s.setDma ch { d with late := xs }).set a DMA_STAT.late_err 1
      if s.on a DMA_STAT.late_err || s.on a DMA_STAT.err then t else t.setReg (aDMA_ERRADDR ch) (BitVec.ofNat 32 x)
    | [] => s)

end Sys2Proof.Machine
end

