-- ==== Sys2Proof/Machine/Cache.lean ====
section
/-!
DEFINITION. The store buffer of an engine (R154, R155), a Skink pair's memory protection (R166) and caches (R165, R167).
-/

namespace Sys2Proof.Machine

/-- The requester that is the engine of number `e`. -/
def reqOf (e : Nat) : Req := engReq (Fin.ofNat 258 e)

/-! ### Memory protection (R166) -/

/-- Is region `r` of pair `e` enabled, and does it contain byte address `a`? -/
def State.inRegion (s : State) (e a r : Nat) : Bool :=
  let t := aMPU_ATTR e r
  s.on t MPU_ATTR.en && a / 2 ^ s.get t MPU_ATTR.size == (s.reg (aMPU_BASE e r)).toNat / 2 ^ s.get t MPU_ATTR.size

/-- The region that decides an access to `a`. -/
def State.region (s : State) (e a : Nat) : Option Nat := (List.range 16).reverse.find? (fun r => s.inRegion e a r)

/-- May engine `e` access `a`: 0 to read, 1 to write, 2 to execute? A Newt has no regions. -/
def State.mpuMay (s : State) (e a k : Nat) : Bool :=
  isNewt e || (match s.region e a with
    | some r => s.get (aMPU_ATTR e r) MPU_ATTR.perm / 2 ^ (3 * s.ring e + k) % 2 == 1
    | none => s.ring e == 0)

/-- Is `a` in a range that is cacheable write-back where no region says otherwise? -/
def cachedRange (a : Nat) : Bool := isMem a && decide (a < 0x20000000) || inXspi a

/-- Is `a` cacheable for engine `e`, and then, is it write-back? -/
def State.cached (s : State) (e a : Nat) : Option Bool :=
  if isNewt e then none
  else match s.region e a with
    | some r =>
      if s.on (aMPU_ATTR e r) MPU_ATTR.cacheable then some (s.on (aMPU_ATTR e r) MPU_ATTR.wb) else none
    | none => if cachedRange a then some true else none

/-! ### The store buffer (R154 to R156) -/

/-- How many entries the buffer has. -/
def bufCap (e : Nat) : Nat := if isNewt e then 4 else 8

/-- A store enters the buffer. -/
def State.pushStore (t : State) (e : Nat) (b : Store) : State := t.setEng e { t.eng e with buf := (t.eng e).buf ++ [b] }

/-- Do `n` bytes at `a` and `m` bytes at `b` overlap? -/
def overlap (a n b m : Nat) : Bool := decide (a < b + m) && decide (b < a + n)

/-- The stores of engine `e` on their way in handshake FIFOs. -/
def State.flying (s : State) (e : Nat) : List Store :=
  (s.fifos.flatMap (·.2)).filterMap (fun x => if x.eng = e then some x.st else none)

/-- Does an entry write memory or a register? -/
def StoreKind.stores : StoreKind → Bool
  | .far | .near _ | .line _ | .frame _ | .cmd true => true
  | _ => false

def Store.isNear (b : Store) : Bool := match b.kind with
  | .near _ => true
  | _ => false

/-- How many bytes a store writes. -/
def Store.len (b : Store) : Nat := match b.kind with
  | .line ws | .frame ws => 4 * ws.length
  | _ => sizeLen b.size

/-- Does a store write a byte of the `n` at `a`? -/
def Store.hits (b : Store) (a n : Nat) : Bool := b.kind.stores && overlap b.addr b.len a n

/-- The stores of engine `e` that have yet to write into the line at `line`. -/
def State.lineDue (s : State) (e line : Nat) : Bool := ((s.eng e).buf ++ s.flying e).any (fun b => b.hits line 64)

/-- A store of an engine meets an error: the engine has still to record it (R156). -/
def State.storeFault (s : State) (e : Nat) (b : Store) (cause : Nat) : State :=
  let x := s.eng e
  s.setEng e { x with acks := x.acks + 1
                      errs := x.errs ++ [{ addr := b.addr, data := b.data, size := b.size, ring := b.ring, cause := cause }] }

/-! ### Cache lines (R165, R167) -/

/-- The set of a line address. -/
def lineSet (a : Nat) : Nat := a / 64 % 256

/-- The recency bits of a set after an access to way `w`: bit 0 names the pair of ways not used last, bit 1 and bit 2 the way not
used last of pair 0 and of pair 1. -/
def lruTouch (b w : Nat) : Nat :=
  if w < 2 then 1 + 2 * (if w = 0 then 1 else 0) + 4 * (b / 4 % 2) else 2 * (b / 2 % 2) + 4 * (if w = 2 then 1 else 0)

/-- The way that goes next: that of the pair not used last (R165; PRESUMED, log 45: pseudo-LRU is a tree of three bits). -/
def lruVictim (b : Nat) : Nat := if b % 2 = 0 then b / 2 % 2 else 2 + b / 4 % 2

/-- The recency bits of a cache of engine `e`. -/
def Engine.lru (x : Engine) (icache : Bool) : SMap Nat := if icache then x.ilru else x.dlru

def Engine.setCache (x : Engine) (icache : Bool) (l : List Line) (r : SMap Nat) : Engine :=
  if icache then { x with icache := l, ilru := r } else { x with dcache := l, dlru := r }

/-- The line that holds `a` in a cache of engine `e` is used. -/
def State.touch (s : State) (e : Nat) (icache : Bool) (a : Nat) : State :=
  let x := s.eng e
  match lineOf (x.lines icache) a with
  | some l => s.setEng e (x.setCache icache (x.lines icache)
      (sput 0 (lineSet a) (lruTouch (sget 0 (x.lru icache) (lineSet a)) l.way) (x.lru icache)))
  | none => s

/-- The lines of a cache in the set of `a`, less one that holds `a`. -/
def Engine.setLines (x : Engine) (icache : Bool) (a : Nat) : List Line :=
  (x.lines icache).filter (fun y => lineSet y.addr == lineSet a && y.addr != a / 64 * 64)

/-- The way that a line at `a` comes into: a free one, or the one whose line goes. -/
def Engine.wayFor (x : Engine) (icache : Bool) (a : Nat) : Nat :=
  ((List.range 4).find? (fun w => !(x.setLines icache a).any (fun y => y.way == w))).getD
    (lruVictim (sget 0 (x.lru icache) (lineSet a)))

/-- The line that a line at `a` takes the place of. -/
def Engine.victim (x : Engine) (icache : Bool) (a : Nat) : Option Line :=
  (x.setLines icache a).find? (fun y => y.way == x.wayFor icache a)

/-- A line that is written back goes into the store buffer, as ring 0, as one entry (DESIGN CHOICE, log 45). -/
def State.lineOut (s : State) (e : Nat) (l : Line) : State :=
  s.pushStore e { kind := .line l.words, addr := l.addr, data := 0, size := 0, ring := 0 }

/-- Is there room in the buffer for what a line at `a` drives out? -/
def State.lineRoom (s : State) (e : Nat) (icache : Bool) (a : Nat) : Bool := match (s.eng e).victim icache a with
  | some v => !v.dirty || decide ((s.eng e).buf.length < bufCap e)
  | none => true

/-- The words of the line at `a` come into a cache; what they drive out is written back if it is dirty. -/
def State.lineIn (s : State) (e : Nat) (icache : Bool) (a : Nat) (ws : List Word) : State :=
  let x := s.eng e
  let w := x.wayFor icache a
  let old := x.victim icache a
  let t := match old with
    | some v => if v.dirty then s.lineOut e v else s
    | none => s
  let y := t.eng e
  let l : Line := { addr := a / 64 * 64, words := ws, dirty := false, way := w }
  (t.setEng e (y.setCache icache ((y.lines icache).filter (fun z => some z.addr != old.map (·.addr) && z.addr != l.addr) ++ [l])
    (y.lru icache))).touch e icache a

/-- Read the words of a line from `a` on: the words, or how the first access that gives none ends, and its address. -/
def State.readLine (s : State) (e : Nat) : Nat → Nat → List Word → State × Except (Nat × Acc.Res) (List Word)
  | 0, _, acc => (s, .ok acc)
  | n + 1, a, acc => match s.busRead (reqOf e) a 0 with
    | (t, .ok w) => t.readLine e n (a + 4) (acc ++ [w])
    | (t, r) => (t, .error (a, r))

/-! ### Reads that a Skink's hardware makes for itself (R164, R167) -/

/-- What such a read comes to: a word, not yet, or an error response, of an uncorrectable word or not. -/
inductive SkGot where
  | word (w : Word)
  | later
  | bad (ue : Bool)
  deriving DecidableEq, Repr

/-- What engine `e` asks of a target in ring `ring` (R16, R18, R25): a word, or, with size code 3, the line at `a`. Its request leaves once,
when the FIFO has room; the answer is taken when it is here, `due` until then; the engine's own port refuses what nothing takes (R21,
R554). -/
def State.engAsk (s : State) (e a size ring : Nat) : State × Reply :=
  match (s.eng e).reply, s.crossing a with
  | .due, _ => (s, .due)
  | .none, none => (s, .err a false)
  | .none, some i =>
    if !s.reach i then (s, .err a false)
    else if 8 ≤ (s.fifo (engIsl e) i).length then (s, .due)
    else ((s.setFifo (engIsl e) i (s.fifo (engIsl e) i ++
      [{ eng := e, st := { kind := .op, addr := a, data := 0, size := size, ring := ring }, cg := s.rsel e }])).setEng e
        { s.eng e with reply := .due }, .due)
  | r, _ => (s.endOp e .none, r)

/-- A read that misses the D-cache fills the line, as ring 0. -/
def State.skFill (s : State) (e a : Nat) : State × SkGot :=
  if !s.lineRoom e false a || s.lineDue e (a / 64 * 64) then (s, .later)
  else match s.engAsk e (a / 64 * 64) 3 0 with
    | (t, .words ws) => (t.lineIn e false a ws, .word (ws.getD (a % 64 / 4) 0))
    | (t, .err _ ue) => (t, .bad ue)
    | (t, _) => (t, .later)

/-- The word at `a` as a vector entry reads it: behind the pair's own stores, through the D-cache where the address is cacheable, a word
alone through a Swimlink window. No MPU region is asked: R166 speaks of loads, stores and fetches alone (DESIGN CHOICE, log 44). -/
def State.skRead (s : State) (e a : Nat) : State × SkGot :=
  match ((s.eng e).buf.filter (fun b => b.hits a 4)).getLast? with
  | some b => if b.addr = a ∧ b.size = 0 ∧ b.kind = .far then (s, .word b.data) else (s, .later)
  | none =>
    if (s.flying e).any (fun b => b.hits a 4) then (s, .later)
    else match s.cached e a, lineOf (s.eng e).dcache a with
      | some _, some l => (s.touch e false a, .word (l.word a))
      | c, _ =>
        if c.isSome && !inWindow a then s.skFill e a
        else match s.engAsk e a 0 0 with
          | (t, .words ws) => (t, .word (ws.headD 0))
          | (t, .err _ ue) => (t, .bad ue)
          | (t, _) => (t, .later)

/-- The word at `a` as it stands for a Skink's hardware, where that is known without an access: in its buffer, in its D-cache, in a memory
that none of its own stores has still to reach. -/
def State.skLook (s : State) (e a : Nat) : Option Word :=
  match ((s.eng e).buf.filter (fun b => b.hits a 4)).getLast?, lineOf (s.eng e).dcache a with
  | some b, _ => if b.addr = a ∧ b.size = 0 ∧ b.kind = .far then some b.data else none
  | none, some l => some (l.word a)
  | none, none => if isMem a && !(s.flying e).any (fun b => b.hits a 4) then some (s.word a) else none

/-! ### CACHE_OP (R165) -/

/-- Does the operation `w` on a cache name line `l`? -/
def State.opHits (s : State) (e : Nat) (w : Word) (l : Line) : Bool :=
  getBits w SK_CACHE_OP.all == 1 || l.addr == (s.reg (aSK_CACHE_ADDR e)).toNat / 64 * 64

/-- The lines that the operation `w` has still to write back. -/
def State.opDirty (s : State) (e : Nat) (w : Word) : List Line :=
  if 2 ≤ getBits w SK_CACHE_OP.cache ∧ (getBits w SK_CACHE_OP.op = 1 ∨ getBits w SK_CACHE_OP.op = 2) then
    (s.eng e).dcache.filter (fun l => s.opHits e w l && l.dirty)
  else []

/-- The operation `w` ends: the lines that it invalidates go. -/
def State.opEnd (s : State) (e : Nat) (w : Word) : State :=
  let x := { s.eng e with cop := none }
  let c := getBits w SK_CACHE_OP.cache
  s.setEng e (if getBits w SK_CACHE_OP.op = 0 ∨ getBits w SK_CACHE_OP.op = 2 then
      { x with icache := if c % 2 = 1 then x.icache.filter (fun l => !s.opHits e w l) else x.icache
               dcache := if 2 ≤ c then x.dcache.filter (fun l => !s.opHits e w l) else x.dcache }
    else x)

/-- The operation in progress goes on: lines are written back as far as the buffer has room; once all have left it, the operation ends. -/
def State.opTurn (s : State) (e : Nat) : State := match (s.eng e).cop with
  | none => s
  | some w =>
    let out := (s.opDirty e w).take (bufCap e - (s.eng e).buf.length)
    let t := out.foldl (fun u l => u.lineOut e l) s
    let x := t.eng e
    let u := t.setEng e { x with dcache := x.dcache.map (fun l => if out.contains l then { l with dirty := false } else l) }
    if (u.opDirty e w).isEmpty && (u.eng e).buf.isEmpty then u.opEnd e w else u

/-- What a write of `w` to CACHE_OP does: the Skink stalls until the operation ends. -/
def State.cacheOp (s : State) (e : Nat) (w : Word) : State := (s.setEng e { s.eng e with cop := some w }).opTurn e

/-- CACHE_OP takes its turn behind the stores that the pair has buffered; it belongs to ring 0. -/
def State.cacheCmd (s : State) (p : Fin 2) (w : Word) : State :=
  let e := 256 + p.val
  if s.clocked e && s.ring e == 0 && (s.eng e).buf.isEmpty && (s.eng e).cop.isNone then s.cacheOp e w else s

/-- CACHE_INVALIDATE. -/
def execCacheInvalidate (p : Fin 2) (w : Word) (s : State) : Host.Outcome State Fault Refusal := fin s (s.cacheCmd p w)

/-- CACHE_CLEAN. -/
def execCacheClean (p : Fin 2) (w : Word) (s : State) : Host.Outcome State Fault Refusal := fin s (s.cacheCmd p w)

/-- CACHE_CLEAN_INVALIDATE. -/
def execCacheCleanInvalidate (p : Fin 2) (w : Word) (s : State) : Host.Outcome State Fault Refusal := fin s (s.cacheCmd p w)

end Sys2Proof.Machine
end

