-- ==== Sys2Proof/Machine/Entry.lean ====
section
/-!
DEFINITION. Taking a vector (R246 to R257): its entry word, the context, exceptions, asynchronous exceptions, interrupts (R262 to R264).
-/

namespace Sys2Proof.Machine

/-! ### The vector table (R164, R246, R252) -/

/-- Does the entry of input `i` name a ring that the present one may enter, as far as its word is known (R262)? -/
def State.ringMay (s : State) (e i : Nat) : Bool :=
  let a := s.vecAddr e (32 + i % 32)
  !(s.eng e).skip.contains i && (match (if isNewt e then some (s.word a) else s.skLook e a) with
    | some w => decide (w.toNat % 4 ≤ s.ring e)
    | none => true)

/-- The read of the entry word of vector `v`. -/
def State.readVec (s : State) (e v : Nat) : State × SkGot :=
  let a := s.vecAddr e v
  if isNewt e then (if s.ue.contains a then (s, .bad true) else (s.countCe e a, .word (s.word a)))
  else s.skRead e a

/-! ### Taking a vector (R250 to R256) -/

/-- The twelve words of the present context. -/
def State.context (s : State) (e : Nat) : List Word :=
  let x := s.eng e
  [x.a, x.e, x.x, x.y, s.reg (aENG_S e), BitVec.ofNat 32 x.pc, s.reg (aLC0 e), s.reg (aLC1 e), x.ts, x.td, x.tc,
   BitVec.ofNat 32 (s.ring e)]

/-- Words `ws` into context bank `b`, from word `i` on. -/
def State.putCtx (s : State) (e b : Nat) : Nat → List Word → State
  | _, [] => s
  | i, w :: ws => ((s.keepErrs (fun x => x != aCTX e b i)).setReg (aCTX e b i) w).putCtx e b (i + 1) ws

/-- Words `ws` into a frame at byte address `a`: of a Newt's operand store, or through a Skink's store buffer, as ring 0 and as one entry,
whose words leave one by one (DESIGN CHOICE, log 45). -/
def State.putFrame (s : State) (e a : Nat) (ws : List Word) : State :=
  if isNewt e then s.memWords a ws
  else s.pushStore e { kind := .frame ws, addr := a, data := 0, size := 0, ring := 0 }

/-- Has the buffer of a Skink room for a frame that an entry would spill? -/
def State.frameRoom (s : State) (e : Nat) : Bool :=
  isNewt e || decide (s.get (aENG_STATUS e) ENG_STATUS.ctx_used < 4) || decide ((s.eng e).buf.length < bufCap e)

/-- A frame's step of SPILL_PTR, in its register's unit: words on a Newt, bytes on a Skink. -/
def frameLen (e : Nat) : Nat := if e < 256 then 16 else 64

/-- The byte address that a SPILL_PTR value names. -/
def frameAddr (e p : Nat) : Nat := if e < 256 then engRam e + 4 * p else p

/-- The present context goes to the next level: none when the spill stack has no room (R254). -/
def State.stackCtx (s : State) (e : Nat) : Option State :=
  let used := s.get (aENG_STATUS e) ENG_STATUS.ctx_used
  if used < 4 then some ((s.putCtx e used 0 (s.context e)).set (aENG_STATUS e) ENG_STATUS.ctx_used (used + 1))
  else
    let p := (s.reg (aSPILL_PTR e)).toNat
    if p < (s.reg (aSPILL_LIM e)).toNat + frameLen e then none
    else
      let q := p - frameLen e
      some (((s.putFrame e (frameAddr e q) (s.context e ++ [0, 0, 0, 0])).setReg (aSPILL_PTR e) (BitVec.ofNat 32 q)).incSat
        (aLIC_STATUS e) LIC_STATUS.spill_depth)

/-- Does EXC_ADDR record an address for the vector? -/
def hasExcAddr (v : Nat) : Bool := [3, 5, 6, 7, 9, 16].contains v

/-- EXC_INFO and EXC_ADDR at an entry of vectors 1 to 18; a vector with an address that the access does not name leaves a free
value. -/
def State.excRecord (s : State) (e v ring : Nat) (x : Exc) : State :=
  if v = 0 ∨ 18 < v then s
  else
    let async := v == 10 || v == 13 || v == 17
    let a := aEXC_INFO e
    let t := (((((s.set a EXC_INFO.valid 1).setB a EXC_INFO.async async).set a EXC_INFO.from_ring ring).setB a
      EXC_INFO.slot_valid x.slot.isSome).set a EXC_INFO.slot (x.slot.getD 0)).set a EXC_INFO.vector v
    if !hasExcAddr v then t
    else match x.addr with
      | some w => t.setReg (aEXC_ADDR e) (BitVec.ofNat 32 w)
      | none => let (w, u) := t.freeWord; u.setReg (aEXC_ADDR e) w

/-- The state of R251 after an entry, but for the context: ring, iel, resume, loop counts, reservation, PC; an entry is a bundle boundary
(R152). -/
def State.enterAt (s : State) (e v ring : Nat) (iel : Option Nat) (pc : Nat) : State :=
  let a := aENG_S e
  let t := ((s.settleEng e).releaseRsv e).set a ENG_S.ring ring
  let t := match iel with
    | some p => t.set a ENG_S.iel p
    | none => t
  let t := ((t.set a ENG_S.resume 0).setReg (aLC0 e) 0).setReg (aLC1 e) 0
  (t.setEng e { t.eng e with pc := pc, rsv := none, first := some v, skip := [] }).bankBoundary e

/-- The sticky flags of the handler's S (R206). -/
def State.putRaised (s : State) (e : Nat) (r : Raised) : State :=
  let a := aENG_S e
  ((((s.setB a ENG_S.iv r.iv).setB a ENG_S.dz r.dz).setB a ENG_S.of r.of).setB a ENG_S.uf r.uf).setB a ENG_S.ix r.ix

/-- An engine that is to stop does so before the handler's first bundle (R162). -/
def State.stopDue (t : State) (e : Nat) : State := if (t.eng e).halting then t.haltNow e else t

/-- Vector 15, whose entry word is `w`, in place of vector `lost`: no context is stacked (R255). -/
def State.spillEntered (t : State) (e lost : Nat) (w : Word) : State :=
  let u := (t.excRecord e 15 (t.ring e) {}).enterAt e 15 0 (some 8) (vecPc w)
  ((u.set (aLIC_STATUS e) LIC_STATUS.spill_fault 1).set (aLIC_STATUS e) LIC_STATUS.lost_vector lost).stopDue e

/-- Vector 15 in place of vector `lost`; its entry word is waited for as any other. -/
def State.enterSpillFault (s : State) (e lost : Nat) : State :=
  match s.readVec e 15 with
  | (t, .word w) => t.spillEntered e lost w
  | (t, .bad true) => (t.countUe e (s.vecAddr e 15)).entryFail e 15
  | (t, .bad false) => let (w, u) := t.freeWord; u.spillEntered e lost w
  | (t, .later) => t.setEng e { t.eng e with wait := .spill lost }

/-- An LIC interrupt of input `i` has been entered, at priority `p`: its software pending bit, LIC_TAKEN, and the moderation of every
input of its vector (R263, R264); a software pending bit that a write of this tick set stays (R265). -/
def State.licEntered (t : State) (e i p : Nat) : State :=
  let a := aLIC_TAKEN e
  let t := (((t.lowerBit (aLIC_SWP0 e + i / 32 * 4) (i % 32)).set a LIC_TAKEN.valid 1).set a LIC_TAKEN.prio p).set a
    LIC_TAKEN.input i
  let m := sput none (i % 32) (some t.tb) (t.eng e).moder
  t.setEng e { t.eng e with moder := if isNewt e then m else sput none (i % 32 + 32) (some t.tb) m }

/-- Vector `v`, whose entry word is `w`, is entered: `iel` is the new iel, none to leave it. -/
def State.enterVec (s : State) (e v : Nat) (iel : Option Nat) (x : Exc) (lic : Option Nat) (w : Word) : State :=
  match s.stackCtx e with
  | none => s.enterSpillFault e v
  | some t =>
    let u := (t.excRecord e v (s.ring e) x).enterAt e v (vecRing v w) iel (vecPc w)
    let u := match x.raised with
      | some r => u.putRaised e r
      | none => u
    (match lic with
      | some i => u.licEntered e i (iel.getD 0 - 1)
      | none => u).stopDue e

/-- The entry word `w` of vector `v` is here: an input whose entry names a ring below the present one is not taken (R262). -/
def State.vecHere (t : State) (e v : Nat) (iel : Option Nat) (x : Exc) (lic : Option Nat) (w : Word) : State :=
  match lic with
  | some i =>
    if t.ring e < vecRing v w then (t.settleEng e).setEng e { (t.settleEng e).eng e with skip := (t.eng e).skip ++ [i] }
    else t.enterVec e v iel x lic w
  | none => t.enterVec e v iel x lic w

/-- Does an engine wait for the entry word of a vector? -/
def Wait.isEntry : Wait → Bool
  | .entry _ _ _ _ => true
  | _ => false

/-- What the bundle in E asked for is given up, before the entry word of a vector is asked for. -/
def State.giveWay (s : State) (e : Nat) : State := if (s.eng e).wait.isEntry then s else s.settleEng e

/-- Take vector `v`, of LIC input `lic` if it is an interrupt. What the bundle in E asked for is given up; an entry word that is not here yet
is waited for, and room for a frame; where its read gets an error response that is no uncorrectable error, the spec gives the word no
value (DESIGN CHOICE, log 44). -/
def State.takeVec (s : State) (e v : Nat) (iel : Option Nat) (x : Exc) (lic : Option Nat) : State :=
  let s := s.giveWay e
  if !s.frameRoom e then s.setEng e { s.eng e with wait := .entry v iel x lic }
  else match s.readVec e v with
    | (t, .word w) => t.vecHere e v iel x lic w
    | (t, .bad true) => (t.countUe e (s.vecAddr e v)).entryFail e v
    | (t, .bad false) => let (w, u) := t.freeWord; u.vecHere e v iel x lic w
    | (t, .later) => t.setEng e { t.eng e with wait := .entry v iel x lic }

/-- A precise exception of the bundle in E; `early` says that it is one of orders 1 to 3, which the first bundle of a handler
must not raise (R256). -/
def State.except (s : State) (e v : Nat) (early : Bool) (x : Exc) : State :=
  match early, (s.eng e).first with
  | true, some f => s.entryFail e f
  | _, _ => s.takeVec e v (if v = 18 then some 8 else none) x none

/-! ### Asynchronous exceptions (R249) -/

/-- Is the engine where R241 and R249 let it enter a vector: between bundles, or in a wait that is abandoned? -/
def State.canEnter (s : State) (e : Nat) : Bool :=
  s.engRuns e && (s.eng e).first.isNone && (s.atRest e || (s.eng e).wait == .fence ||
    ((s.eng e).wait == .queue none && s.qm.waits.any (fun w => w.who == .eng e)))

/-- The next asynchronous exception in the order 13, 10, 17. -/
def nextAsync (l : List Nat) : Option Nat := [13, 10, 17].find? (fun v => l.contains v)

/-- ASYNC_EXCEPTION_ENTRY. -/
def execAsyncExceptionEntry (e : Eng) (s : State) : Host.Outcome State Fault Refusal :=
  .next (if s.canEnter e then
    match nextAsync (s.eng e).pend with
    | some v =>
      let x := s.eng e
      (s.setEng e { x with pend := x.pend.erase v }).takeVec e v (some 8) {} none
    | none => s
  else s)

/-! ### Interrupts (R262 to R264) -/

/-- Does moderation allow input `i`: TB has advanced by mod_ns since the last entry of its vector? It is bypassed in a sleep (R264). -/
def State.moderated (s : State) (e i : Nat) : Bool :=
  (s.eng e).wait == .sleep || (match sget none (s.eng e).moder i with
    | some t => decide (t + s.get (aLIC_CFG e i) LIC_CFG.mod_ns ≤ s.tb)
    | none => true)

def State.licPrio (s : State) (e i : Nat) : Nat := s.get (aLIC_CFG e i) LIC_CFG.prio

/-- Is input `i` takeable (R262)? -/
def State.takeable (s : State) (e i : Nat) : Bool :=
  s.licPending e i && decide (s.get (aENG_S e) ENG_S.iel ≤ s.licPrio e i) && s.ringMay e i && s.moderated e i

/-- The takeable input that is entered: highest priority, then lowest number (R263). -/
def State.licBest (s : State) (e : Nat) : Option Nat :=
  (List.range (licInputs e)).foldl (fun b i =>
    if s.takeable e i then (match b with
      | some j => if s.licPrio e j < s.licPrio e i then some i else b
      | none => some i) else b) none

/-- Enter input `i` (R251, R263). -/
def State.enterLic (s : State) (e i : Nat) : State := s.takeVec e (32 + i % 32) (some (s.licPrio e i + 1)) {} (some i)

/-- INTERRUPT_ENTRY. -/
def execInterruptEntry (e : Eng) (s : State) : Host.Outcome State Fault Refusal :=
  .next (if s.canEnter e && (nextAsync (s.eng e).pend).isNone then
    match s.licBest e with
    | some i => s.enterLic e i
    | none => s
  else s)

/-- MODERATION_EXPIRY: the interval of input `i` has ended; a later change of mod_ns does not bring it back (DESIGN CHOICE, log 44). -/
def execModerationExpiry (e : Eng) (i : Fin 64) (s : State) : Host.Outcome State Fault Refusal :=
  .next (match sget none (s.eng e).moder i with
    | some t => if t + s.get (aLIC_CFG e i) LIC_CFG.mod_ns ≤ s.tb then s.setEng e { s.eng e with moder := sput none i.val none (s.eng e).moder } else s
    | none => s)

/-- Is an entry due, which goes before the next bundle (R249, R250, R263)? -/
def State.entryDue (s : State) (e : Nat) : Bool :=
  s.canEnter e && ((nextAsync (s.eng e).pend).isSome || (s.licBest e).isSome)

end Sys2Proof.Machine
end

