-- ==== Sys2Proof/Machine/Float.lean ====
section
/-!
DEFINITION. Binary32 arithmetic (R200 to R204), computed exactly on integers and rounded once.
-/

namespace Sys2Proof.Machine

/-- Rounding modes, by their code in ENG_S.rm: 0 RNE, 1 RTZ, 2 RUP, 3 RDN. -/
abbrev Rm := Nat

/-- A binary32 value: a finite one is (−1)^neg · m · 2^e. -/
inductive Fp where
  | nan (w : Word)
  | inf (neg : Bool)
  | fin (neg : Bool) (m : Nat) (e : Int)
  deriving DecidableEq, Repr

def fpExp (w : Word) : Nat := w.toNat / 2 ^ 23 % 256
def fpFrac (w : Word) : Nat := w.toNat % 2 ^ 23

/-- The value that a word holds. -/
def fp (w : Word) : Fp :=
  if fpExp w = 255 then (if fpFrac w = 0 then .inf w.msb else .nan w)
  else if fpExp w = 0 then .fin w.msb (fpFrac w) (-149)
  else .fin w.msb (fpFrac w + 2 ^ 23) ((fpExp w : Int) - 150)

def isNan (w : Word) : Bool := fpExp w == 255 && fpFrac w != 0
def isSnan (w : Word) : Bool := isNan w && !w.getLsbD 22

/-- The sign bit over a magnitude. -/
def withSign (neg : Bool) (m : Nat) : Word := BitVec.ofNat 32 (m + if neg then 2 ^ 31 else 0)

def fpInf (neg : Bool) : Word := withSign neg 0x7F800000
def fpZero (neg : Bool) : Word := withSign neg 0
def defaultNan : Word := 0x7FC00000

/-- A floating-point result with the flags it raises. -/
structure FRes where
  w : Word
  raised : Raised := {}
  deriving DecidableEq, Repr

/-- The number of bits of `m`. -/
def bitLen (m : Nat) : Nat := if m = 0 then 0 else m.log2 + 1

/-- Does a value that lies past the integer q, with remainder `rem` of `2 ^ sh` and a non-zero tail if `tail`, round up? -/
def roundsUp (rm : Rm) (neg : Bool) (q rem sh : Nat) (tail : Bool) : Bool :=
  let inexact := rem != 0 || tail
  match rm with
  | 0 => sh != 0 && (decide (2 ^ (sh - 1) < rem) || (rem == 2 ^ (sh - 1) && (tail || q % 2 == 1)))
  | 1 => false
  | 2 => !neg && inexact
  | _ => neg && inexact

/-- `m` cut by `sh` bits and rounded: the integer, and whether it is inexact. -/
def roundShift (rm : Rm) (neg : Bool) (m : Nat) (sh : Int) (tail : Bool) : Nat × Bool :=
  if sh ≤ 0 then (m * 2 ^ sh.natAbs, tail)
  else
    let k := sh.toNat
    let q := m / 2 ^ k
    let r := m % 2 ^ k
    (if roundsUp rm neg q r k tail then q + 1 else q, r != 0 || tail)

/-- The largest finite magnitude, or infinity, for an overflow (R208). -/
def overflowTo (rm : Rm) (neg : Bool) : Word :=
  if rm = 0 ∨ (rm = 2 ∧ neg = false) ∨ (rm = 3 ∧ neg = true) then fpInf neg else withSign neg 0x7F7FFFFF

/-- The value (−1)^neg · m · 2^e, m > 0, with a non-zero tail below m if `tail`, rounded to binary32 (R200, R205). Tininess is
judged after rounding with an unbounded exponent. -/
def roundFp (rm : Rm) (neg : Bool) (m : Nat) (e : Int) (tail : Bool) : FRes :=
  let s24 : Int := (bitLen m : Int) - 24
  let lsb : Int := max (e + s24) (-149)
  let (q, inexact) := roundShift rm neg m (lsb - e) tail
  let mag := ((lsb + 149).toNat) * 2 ^ 23 + q
  let u := (roundShift rm neg m s24 tail).1
  let top : Int := e + s24 + (if u = 2 ^ 24 then 24 else 23)
  let tiny := decide (top < -126)
  if 0x7F800000 ≤ mag then { w := overflowTo rm neg, raised := { of := true, ix := true } }
  else { w := withSign neg mag, raised := { uf := tiny && inexact, ix := inexact } }

/-- The first NaN among the operands, quieted (R201). -/
def nanOf : List Word → Option Word
  | [] => none
  | w :: ws => if isNan w then some (w ||| 0x400000) else nanOf ws

/-- With a NaN operand, the NaN result; otherwise `f`. -/
def unlessNan (ops : List Word) (f : FRes) : FRes := match nanOf ops with
  | some w => { w := w, raised := { iv := ops.any isSnan } }
  | none => f

/-- An invalid operation without a NaN operand. -/
def invalidRes : FRes := { w := defaultNan, raised := { iv := true } }

/-- The sign of an exact zero sum of terms with signs `x` and `y` (R202). -/
def zeroSign (rm : Rm) (x y : Bool) : Bool := if x = y then x else rm == 3

/-- The signed integer (−1)^neg · m. -/
def sint (neg : Bool) (m : Nat) : Int := if neg then -(m : Int) else m

/-- The sum of two finite values. -/
def sumFin (rm : Rm) (n1 : Bool) (m1 : Nat) (e1 : Int) (n2 : Bool) (m2 : Nat) (e2 : Int) : FRes :=
  let e := min e1 e2
  let s := sint n1 m1 * 2 ^ (e1 - e).toNat + sint n2 m2 * 2 ^ (e2 - e).toNat
  if s = 0 then { w := fpZero (zeroSign rm n1 n2) } else roundFp rm (decide (s < 0)) s.natAbs e false

/-- The sum of two values that are no NaN. -/
def sumFp (rm : Rm) (x y : Fp) : FRes := match x, y with
  | .inf a, .inf b => if a = b then { w := fpInf a } else invalidRes
  | .inf a, _ => { w := fpInf a }
  | _, .inf b => { w := fpInf b }
  | .fin n1 m1 e1, .fin n2 m2 e2 => sumFin rm n1 m1 e1 n2 m2 e2
  | _, _ => invalidRes

def negFp : Fp → Fp
  | .inf n => .inf (!n)
  | .fin n m e => .fin (!n) m e
  | x => x

/-- The exact product; none for 0 × ∞. -/
def mulFp (x y : Fp) : Option Fp := match x, y with
  | .fin n1 m1 e1, .fin n2 m2 e2 => some (.fin (n1 != n2) (m1 * m2) (e1 + e2))
  | .inf a, .inf b => some (.inf (a != b))
  | .inf a, .fin n m _ => if m = 0 then none else some (.inf (a != n))
  | .fin n m _, .inf b => if m = 0 then none else some (.inf (n != b))
  | x, _ => some x

/-- A product rounded. -/
def roundProd (rm : Rm) : Option Fp → FRes
  | some (.fin n m e) => if m = 0 then { w := fpZero n } else roundFp rm n m e false
  | some (.inf n) => { w := fpInf n }
  | _ => invalidRes

def faddRes (rm : Rm) (a b : Word) : FRes := unlessNan [a, b] (sumFp rm (fp a) (fp b))
def fsubRes (rm : Rm) (a b : Word) : FRes := unlessNan [a, b] (sumFp rm (fp a) (negFp (fp b)))
def fmulRes (rm : Rm) (a b : Word) : FRes := unlessNan [a, b] (roundProd rm (mulFp (fp a) (fp b)))

/-- A + b × w, rounded once (R200, R202): 0 × ∞ with a NaN in A gives that NaN and iv. -/
def fmacRes (rm : Rm) (a b w : Word) : FRes :=
  let p := mulFp (fp b) (fp w)
  let r := unlessNan [a, b, w] (match p with
    | some y => sumFp rm (fp a) y
    | none => invalidRes)
  if !isNan b && !isNan w && p == none then { r with raised := { r.raised with iv := true } } else r

/-- A quotient: 50 more bits than the operands have, and a tail for the remainder. -/
def fdivRes (rm : Rm) (a b : Word) : FRes := unlessNan [a, b] (match fp a, fp b with
  | .inf x, .fin y _ _ => { w := fpInf (x != y) }
  | .fin x _ _, .inf y => { w := fpZero (x != y) }
  | .fin x m1 e1, .fin y m2 e2 =>
    if m2 = 0 then (if m1 = 0 then invalidRes else { w := fpInf (x != y), raised := { dz := true } })
    else if m1 = 0 then { w := fpZero (x != y) }
    else roundFp rm (x != y) (m1 * 2 ^ 50 / m2) (e1 - e2 - 50) (m1 * 2 ^ 50 % m2 != 0)
  | _, _ => invalidRes)

/-- The integer square root, bit by bit from bit `k - 1` down, of `n` over what `r` holds already. -/
def isqrt (n : Nat) : Nat → Nat → Nat
  | 0, r => r
  | k + 1, r => if (r + 2 ^ k) * (r + 2 ^ k) ≤ n then isqrt n k (r + 2 ^ k) else isqrt n k r

/-- A square root: the radicand scaled to an even exponent. -/
def fsqrtRes (rm : Rm) (b : Word) : FRes := unlessNan [b] (match fp b with
  | .inf false => { w := fpInf false }
  | .fin n m e =>
    if m = 0 then { w := fpZero n }
    else if n then invalidRes
    else
      let k : Nat := if e % 2 = 0 then 60 else 61
      let r := isqrt (m * 2 ^ k) 44 0
      roundFp rm false r ((e - (k : Int)) / 2) (r * r != m * 2 ^ k)
  | _ => invalidRes)

/-- A total order of words that are no NaN, with −0 below +0. -/
def fpKey (w : Word) : Int := if w.msb then -((w.toNat : Int) - 2 ^ 31) - 1 else w.toNat

def fminRes (a b : Word) : FRes := unlessNan [a, b] { w := if fpKey a ≤ fpKey b then a else b }
def fmaxRes (a b : Word) : FRes := unlessNan [a, b] { w := if fpKey b ≤ fpKey a then a else b }

/-- Is the word +0 or −0? -/
def isFzero (w : Word) : Bool := w.toNat % 2 ^ 31 == 0

/-- FCMP (R203). -/
def fcmpRes (a b : Word) : ARes :=
  if isNan a || isNan b then
    { z := some false, n := some false, c := some true, v := some true, raised := { iv := isSnan a || isSnan b } }
  else
    let eq := a == b || (isFzero a && isFzero b)
    { z := some eq, n := some (!eq && decide (fpKey a < fpKey b)), c := some false, v := some false }

/-- z and n of a floating-point result (R203). -/
def FRes.res (r : FRes) : ARes :=
  { a := some r.w, z := some (isFzero r.w), n := some (r.w.msb && !isFzero r.w && !isNan r.w), raised := r.raised }

/-- I2F and U2F (R204). -/
def toFpRes (rm : Rm) (i : Int) : FRes := if i = 0 then { w := 0 } else roundFp rm (decide (i < 0)) i.natAbs 0 false

/-- F2I and F2U into the range `lo` to `hi` (R204): z and n from the integer. -/
def toIntRes (rm : Rm) (lo hi : Int) (a : Word) : FRes :=
  match fp a with
  | .nan _ => { w := 0, raised := { iv := true } }
  | .inf n => { w := BitVec.ofInt 32 (if n then lo else hi), raised := { iv := true } }
  | .fin n m e =>
    let (q, inexact) := roundShift rm n m (-e) false
    let i := sint n q
    if i < lo then { w := BitVec.ofInt 32 lo, raised := { iv := true } }
    else if hi < i then { w := BitVec.ofInt 32 hi, raised := { iv := true } }
    else { w := BitVec.ofInt 32 i, raised := { ix := inexact } }

/-- z and n of a conversion to an integer. -/
def FRes.intRes (r : FRes) (signed_ : Bool) : ARes :=
  { a := some r.w, z := some (r.w == 0), n := some (signed_ && r.w.msb), raised := r.raised }

end Sys2Proof.Machine
end

