-- ==== Sys2Proof/Machine/Operands.lean ====
section
/-!
DEFINITION. Operands of a bundle: operand forms (R125 to R127, R177), the near space (R29, R74, R102, R130, R168, R297), far
operands (R128, R178), and what their reads and writes check and do.
-/

namespace Sys2Proof.Machine

/-! ### What a part of a bundle comes to -/

/-- A load that a bundle makes: its byte address in the global map, its size code, the slot that makes it, the address that
EXC_ADDR names, whether it goes through a bound window, whether it is a `LDRSV`. -/
structure Load where
  addr : Nat
  size : Nat
  slot : Nat
  exc : Nat
  window : Bool := false
  rsv : Bool := false
  deriving DecidableEq, Repr

/-- An exception of a bundle: its vector, whether it is of order 1 to 3 (R173), what EXC_INFO records, and the word whose
uncorrectable error it reports. -/
structure Flt where
  v : Nat
  early : Bool := false
  x : Exc := {}
  ue : Option Nat := none
  deriving DecidableEq, Repr

/-- A queue operation that a bundle asks for, with the record of a put. -/
structure Ask where
  op : QOp
  q : Nat
  rcd : List Word
  deriving DecidableEq, Repr

/-- What the evaluation of a part of a bundle comes to, given the words that its loads have returned: a value and the words
left over, the load it needs next, a queue operation to ask for, an exception, a wait, a wait in E, or a debug halt. -/
inductive Ev (α : Type) where
  | ok (v : α) (left : List Word)
  | need (l : Load)
  | ask (q : Ask)
  | fault (f : Flt)
  | wait (w : Wait)
  | hold
  | brk

/-- A part of a bundle. -/
abbrev Run (α : Type) := List Word → Ev α

def Run.ret {α : Type} (v : α) : Run α := fun ws => .ok v ws
def Run.fault {α : Type} (f : Flt) : Run α := fun _ => .fault f
def Run.hold {α : Type} : Run α := fun _ => .hold

/-- One part, then another. -/
def Run.bind {α β : Type} (r : Run α) (f : α → Run β) : Run β := fun ws => match r ws with
  | .ok v l => f v l
  | .need l => .need l
  | .ask q => .ask q
  | .fault x => .fault x
  | .wait w => .wait w
  | .hold => .hold
  | .brk => .brk

/-- The word that a load returns. -/
def Run.load (l : Load) : Run Word := fun ws => match ws with
  | w :: r => .ok w r
  | [] => .need l

/-- A fault of slot `slot` with vector `v` at address `a`. -/
def Run.bad {α : Type} (v slot a : Nat) : Run α := Run.fault { v := v, x := { slot := some slot, addr := some a } }

/-- What a part writes: how many entries of the far-store buffer it takes, its writes, the address of a `STCND`, whether a block
move goes on, where a taken transfer goes, and for an `ERET` the words of the spilled frame, none for a context bank. -/
structure Put where
  room : Nat := 0
  act : State → State := id
  cnd : Option Nat := none
  more : Bool := false
  next : Option Nat := none
  eret : Option (List Word) := none

/-- The writes of one part, then those of another (R134). -/
def Put.then (p q : Put) : Put :=
  { room := p.room + q.room, act := fun s => q.act (p.act s), cnd := if p.cnd.isSome then p.cnd else q.cnd,
    more := p.more || q.more, next := if q.next.isSome then q.next else p.next,
    eret := if q.eret.isSome then q.eret else p.eret }

def Put.of (f : State → State) : Put := { act := f }

/-! ### Registers -/

def State.setA (s : State) (e : Nat) (w : Word) : State := s.setEng e { s.eng e with a := w }
def State.setE (s : State) (e : Nat) (w : Word) : State := s.setEng e { s.eng e with e := w }
def State.setPc (s : State) (e pc : Nat) : State := s.setEng e { s.eng e with pc := pc }

/-- X, or Y. -/
def State.index (s : State) (e : Nat) (y : Bool) : Word := if y then (s.eng e).y else (s.eng e).x
def State.setIndex (s : State) (e : Nat) (y : Bool) (w : Word) : State :=
  s.setEng e (if y then { s.eng e with y := w } else { s.eng e with x := w })

/-! ### Operand forms (R125 to R127, R177) -/

/-- Where an operand is: a near word, a far byte address, or in the syllable. -/
inductive Ref where
  | near (w : Nat)
  | far (a : Nat)
  | imm (v : Word)
  deriving DecidableEq, Repr

/-- A near word address (R126). -/
def nearWord (w : Word) : Nat := w.toNat % 65536

def State.refOf (s : State) (e : Nat) : Form → Ref
  | .near w => .near w
  | .idx y d => .near (nearWord (s.index e y + BitVec.ofInt 32 d))
  | .post y _ => .near (nearWord (s.index e y))
  | .modulo y => .near (nearWord (s.index e y))
  | .far y d => .far (s.index e y + BitVec.ofInt 32 d).toNat
  | .imm v => .imm v

/-- X or Y after a modulo access (R127). -/
def State.modStep (s : State) (e : Nat) (y : Bool) : Word :=
  let a := if y then aYMOD e else aXMOD e
  let x := s.index e y
  let n := x + BitVec.ofInt 32 (sgn 8 (s.get a XMOD.st))
  if s.on a XMOD.en then
    let m := BitVec.ofNat 32 (2 ^ s.get a XMOD.len - 1)
    (x &&& ~~~m) ||| (n &&& m)
  else n

/-- The write that a form makes to its index register. -/
def State.stepOf (s : State) (e : Nat) : Form → Put
  | .post y d => .of (fun t => t.setIndex e y (s.index e y + BitVec.ofInt 32 d))
  | .modulo y => .of (fun t => t.setIndex e y (s.modStep e y))
  | _ => {}

/-! ### The near space (R29) -/

/-- Is the register block whose binding is at `b` bound to Newt `e`, by the fields of the binding? -/
def State.boundTo (s : State) (e b : Nat) (clutch newt : Fld) : Bool := 16 * s.get b clutch + s.get b newt == e

/-- The offset in slice control of word `o` of a slice's window (R297). -/
def sliceWord (o : Nat) : Option Nat :=
  if o < 6 then some (0x20 + 4 * o) else if o = 8 then some 0x0C else if 0x10 ≤ o ∧ o < 0x20 then some (0x80 + 4 * (o - 0x10)) else none

/-- The register behind word `w` of the windows at 0x8000 to 0xBFFF of Newt `e`, and its block's binding register (R74, R102,
R297). -/
def State.windowReg (s : State) (e w : Nat) : Option (Nat × Nat) :=
  if w < 0x9000 then
    let k := (w - 0x8000) / 16
    let j := w % 16
    if 2 ≤ j then none
    else if k < 32 then
      (if s.boundTo e (aCONV_BIND k) CONV_BIND.clutch CONV_BIND.newt then
        some (if j = 0 then aCONV_MBOX k else aCONV_STATUS k, aCONV_BIND k) else none)
    else if k < 64 then
      (if s.boundTo e (aSD_BIND (k - 32)) SD_BIND.clutch SD_BIND.newt then
        some (if j = 0 then aSD_DATA (k - 32) else aSD_STATUS (k - 32), aSD_BIND (k - 32)) else none)
    else none
  else if w < 0xB000 then
    let n := (w - 0x9000) / 128
    match sliceWord ((w - 0x9000) % 128) with
    | some o =>
      if s.on (aSL_BIND n) SL_BIND.bind_en && s.boundTo e (aSL_BIND n) SL_BIND.clutch SL_BIND.newt then
        some (aSL_CTRL n + o, aSL_BIND n) else none
    | none => none
  else
    let nn := (w - 0xB000) / 16
    if 2 ≤ w % 16 ∨ 96 ≤ nn then none
    else if s.on (aWM_BIND nn) WM_BIND.bind_en && s.boundTo e (aWM_BIND nn) WM_BIND.clutch WM_BIND.newt then
      some (if w % 16 = 0 then aWM_THR nn else aWM_STATUS nn, aWM_BIND nn) else none

/-- Slot `i` of Newt `e`'s page bindings: the page of its clutch that is bound there (R327). -/
def State.pageSlot (s : State) (e i : Nat) : Option Nat :=
  let a := aNEWT_PAGES (e / 16) (e % 16)
  let b := s.get a ⟨8 * i + 7, 8 * i, .rws, 0, 7, [], false⟩
  if 128 ≤ b then some (e / 16 * 64 + b % 64) else none

/-- What a near word is. -/
inductive Place where
  | mem (a : Nat)
  | window (a bind_ : Nat)
  | ctl (o : Nat)
  | global (a : Nat)
  deriving DecidableEq, Repr

/-- Near word `w` of engine `e`; none where the near space has no such word. -/
def State.place (s : State) (e w : Nat) : Option Place :=
  if 0xF000 ≤ w then
    (if (ctlRights e (4 * (w - 0xF000))).isSome then some (.ctl (4 * (w - 0xF000))) else none)
  else if !isNewt e then some (.global (((s.reg (aSK_NBR e)).toNat + 4 * w) % 2 ^ 32))
  else if w < 0x1000 then some (.mem (engRam e + 4 * w))
  else if w < 0x2000 then some (.mem (bankAt e (!s.activeBank e) + 4 * (w - 0x1000)))
  else if w < 0x2400 then
    (match s.pageSlot e ((w - 0x2000) / 0x100) with
      | some p => some (.mem (pageBase p + 4 * (w % 0x100)))
      | none => none)
  else if w < 0x4000 then none
  else if w < 0x8000 then
    some (.mem (0x20100000 + e / 16 * 0x200000 + s.get (aENG_CTRL e) ENG_CTRL.sh_half * 0x10000 + 4 * (w - 0x4000)))
  else if w < 0xC000 then
    (match s.windowReg e w with
      | some (a, b) => some (.window a b)
      | none => none)
  else none

/-- A near word as it stands (R130, R132, R166, R168). -/
def State.nearFresh (s : State) (e slot w : Nat) : Run Word :=
  match s.place e w with
  | none => .bad 5 slot w
  | some (.mem a) =>
    if s.ue.contains a then .fault { v := 9, x := { slot := some slot, addr := some w }, ue := some a } else .ret (s.word a)
  | some (.window a _) => .load { addr := a, size := 0, slot := slot, exc := w, window := true }
  | some (.ctl o) =>
    if ((ctlRights e o).getD (0, 0)).1 ≤ s.ring e then .bad 3 slot w
    else if s.ue.contains (engBase e + o) then .fault { v := 9, x := { slot := some slot, addr := some w }, ue := some (engBase e + o) }
    else .ret (s.ctlShows e (engBase e + o))
  | some (.global a) =>
    if s.mpuMay e a 0 then .load { addr := a, size := 0, slot := slot, exc := w } else .bad 3 slot w

/-- A read of near word `w` by slot `slot`: before the bundle's first wait in E, once (R133, R137). -/
def State.nearRead (s : State) (e slot w : Nat) : Run Word := match (s.eng e).seen.find? (fun x => x.1 == w) with
  | some x => .ret x.2
  | none => s.nearFresh e slot w

/-! ### The far-store buffer (R154) -/

/-- Does engine `e` execute in a way that makes its stores ROM-issued writes (R498)? -/
def State.inRom (s : State) (e : Nat) : Bool := e == 256 && s.ring e == 0 && decide ((s.eng e).pc < 0x10000)

/-- A store of engine `e` to byte address `a`, of a kind and size. -/
def State.buffered (s : State) (e : Nat) (k : StoreKind) (a size : Nat) (w : Word) : Put :=
  { room := 1
    act := fun t => t.pushStore e { kind := k, addr := a, data := sized size w, size := size, ring := s.ring e, rom := s.inRom e } }

/-! ### Writes -/

/-- May the ring of Newt `e` write near word `w` of its own clutch's memory (R130)? -/
def State.mayStore (s : State) (e w : Nat) : Bool :=
  if w < 0x1000 then
    s.ring e == 0 ||
      !(decide (s.get (aENG_PROT e) ENG_PROT.prot_lo ≤ w) && decide (w < s.get (aENG_PROT e) ENG_PROT.prot_hi))
  else if w < 0x2000 then decide (s.ring e ≤ 1)
  else true

/-- A word of a Newt's own clutch's memory is written: a page's word into the staged copy; a feed write to the word in the same cycle,
taken to be the same tick, lands last (R72; DESIGN CHOICE, log 49). -/
def State.nearStore (t : State) (a : Nat) (w : Word) : State := match pageOf a with
  | some p => t.pageWrite p a 4 w
  | none => if (t.cyc.at t.tb).fed.contains a then t else t.memWrite a 4 w

/-- Would a write of `w` to ENG_S change iel, from a ring that may not (R124)? -/
def State.ielDenied (s : State) (e : Nat) (w : Word) : Bool :=
  decide (2 ≤ s.ring e) && ENG_S.iel.legal (getBits w ENG_S.iel) && getBits w ENG_S.iel != s.get (aENG_S e) ENG_S.iel

/-- The commit group that a store issued now carries: that of a store to the own CC_RSEL which is still buffered, if there is one
(R324). -/
def State.ownSel (s : State) (e : Nat) : Nat :=
  match ((s.eng e).buf.filter (fun b => b.kind == .far && b.addr == aCC_RSEL e)).getLast? with
  | some b => getBits b.data CC_RSEL.cg
  | none => s.rsel e

/-- A near write of `w` to offset `o` of the engine's own control; a staged field that finds no place is an imprecise store
fault (R335). -/
def State.ctlPut (t : State) (e o : Nat) (w : Word) : State :=
  if !isNewt e && o == 0x74 then t.cacheOp e w
  else
    let r := t.ctlStore e (t.ownSel e) e o w
    if r.2 then r.1.storeFault e { kind := .far, addr := engBase e + o, data := w, size := 0, ring := t.ring e } 0 else r.1

/-- A write of `v` to near word `w` by slot `slot`. -/
def State.nearWrite (s : State) (e slot w : Nat) (v : Word) : Run Put :=
  match s.place e w with
  | none => .bad 5 slot w
  | some (.mem a) => if s.mayStore e w then .ret (.of (fun t => t.nearStore a v)) else .bad 3 slot w
  | some (.window a b) => if s.ring e ≤ 2 then .ret (s.buffered e (.near b) a 0 v) else .bad 3 slot w
  | some (.ctl o) =>
    if !decide (s.ring e < ((ctlRights e o).getD (0, 0)).2) || (o == 8 && s.ielDenied e v) then .bad 3 slot w
    else if !isNewt e && o == 0x74 && !(s.eng e).buf.isEmpty then .hold
    else .ret (.of (fun t => t.ctlPut e o v))
  | some (.global a) => if s.mpuMay e a 1 then .ret (s.buffered e .far a 0 v) else .bad 3 slot w

/-! ### Far operands (R128) -/

/-- A far read of a size code. -/
def State.farRead (s : State) (e slot a size : Nat) : Run Word :=
  if a % sizeLen size ≠ 0 then .bad 7 slot a
  else if s.mpuMay e a 0 then .load { addr := a, size := size, slot := slot, exc := a }
  else .bad 3 slot a

/-- A far write. -/
def State.farWrite (s : State) (e slot a size : Nat) (v : Word) : Run Put :=
  if a % sizeLen size ≠ 0 then .bad 7 slot a
  else if s.mpuMay e a 1 then .ret (s.buffered e .far a size v)
  else .bad 3 slot a

/-! ### Any operand -/

/-- The word that an operand supplies. -/
def State.readRef (s : State) (e slot size : Nat) : Ref → Run Word
  | .near w => s.nearRead e slot w
  | .far a => s.farRead e slot a size
  | .imm v => .ret v

/-- The write of `v` to an operand; an immediate is no destination, and no syllable has it as one. -/
def State.writeRef (s : State) (e slot size : Nat) (v : Word) : Ref → Run Put
  | .near w => s.nearWrite e slot w v
  | .far a => s.farWrite e slot a size v
  | .imm _ => .ret {}

end Sys2Proof.Machine
end

