-- ==== Sys2Proof/Machine/Slots.lean ====
section
/-!
DEFINITION. The four slots of a bundle: what each reads, checks and writes (R133 to R136, R190 to R240).
-/

namespace Sys2Proof.Machine

/-! ### A-slot (R180, R190 to R206, R210, R221, R222) -/

/-- Does the operation read W, the word at near address Y (R190)? -/
def AOp.usesW : AOp → Bool
  | .mac | .macs | .fmac => true
  | _ => false

def AOp.divides : AOp → Bool
  | .div | .divu | .rem => true
  | _ => false

/-- The result of an arithmetic operation on A, E, its operand `b` and `w`, under rounding mode `rm`. -/
def aluRes (op : AOp) (rm : Rm) (a e b w : Word) : ARes := match op with
  | .add => addRes a b
  | .sub => subRes a b
  | .cmp => cmpRes a b
  | .and_ => aRes (a &&& b)
  | .or_ => aRes (a ||| b)
  | .xor_ => aRes (a ^^^ b)
  | .shl => shlRes a b
  | .shr => shrRes a b
  | .asr => asrRes a b
  | .mul => mulRes a b
  | .mulu => muluRes a b
  | .mac => macRes false a b w
  | .macs => macRes true a b w
  | .div => sdivRes a b
  | .divu => udivRes a b
  | .rem => remRes a b
  | .abs => absRes a
  | .neg => negRes a
  | .sat => satRes a b
  | .clamp => clampRes a e b
  | .fadd => (faddRes rm a b).res
  | .fsub => (fsubRes rm a b).res
  | .fmul => (fmulRes rm a b).res
  | .fmac => (fmacRes rm a b w).res
  | .fdiv => (fdivRes rm a b).res
  | .fsqrt => (fsqrtRes rm b).res
  | .fmin => (fminRes a b).res
  | .fmax => (fmaxRes a b).res
  | .fcmp => fcmpRes a b
  | .i2f => (toFpRes rm a.toInt).res
  | .u2f => (toFpRes rm a.toNat).res
  | .f2i => (toIntRes rm (-2147483648) 2147483647 a).intRes true
  | .f2u => (toIntRes rm 0 4294967295 a).intRes false
  | .ld | .st | .ldrsv | .stcnd => {}

/-- The trap that raised flags take (R206): none where no enable of them is 1. -/
def State.trapOf (s : State) (e : Nat) (op : AOp) (r : Raised) : Option Nat :=
  let a := aENG_S e
  if (r.iv && s.on a ENG_S.te_iv) || (r.dz && s.on a ENG_S.te_dz) || (r.of && s.on a ENG_S.te_of) ||
      (r.uf && s.on a ENG_S.te_uf) || (r.ix && s.on a ENG_S.te_ix) then some (if op.divides then 11 else 12) else none

/-- Write a flag if the operation gives it. -/
def State.flag (s : State) (e : Nat) (f : Fld) (v : Option Bool) : State := match v with
  | some b => s.setB (aENG_S e) f b
  | none => s

/-- The flags of a result. -/
def State.putFlags (s : State) (e : Nat) (r : ARes) : State :=
  (((s.flag e ENG_S.z r.z).flag e ENG_S.n r.n).flag e ENG_S.c r.c).flag e ENG_S.v r.v

/-- The sticky flags that a result raises set (R205). -/
def State.stick (s : State) (e : Nat) (r : Raised) : State :=
  let a := aENG_S e
  ((((s.flagIf r.iv a ENG_S.iv).flagIf r.dz a ENG_S.dz).flagIf r.of a ENG_S.of).flagIf r.uf a ENG_S.uf).flagIf r.ix a ENG_S.ix

/-- The registers that a result writes. -/
def State.putRes (s : State) (e : Nat) (r : ARes) : State :=
  s.setEng e { s.eng e with a := r.a.getD (s.eng e).a, e := r.e.getD (s.eng e).e }

/-- The size code of a width in bytes. -/
def sizeCode (n : Nat) : Nat := if n = 4 then 0 else if n = 2 then 1 else 2

/-- Is `a` in a memory that holds reservations: system SRAM or the shared memory of a clutch (R221)? -/
def holdsRsv (a : Nat) : Bool :=
  inSram a 4 || (decide (0x20000000 ≤ a) && decide (a < 0x22000000) && decide (0x100000 ≤ a % 0x200000) &&
    decide (a % 0x200000 < 0x120000))

/-- The checks that `LDRSV` and `STCND` share: alignment, target, an empty buffer; `k` is the access for the MPU. -/
def State.rsvCheck (s : State) (e a k : Nat) (r : Run Put) : Run Put :=
  if a % 4 ≠ 0 then .bad 7 0 a
  else if !s.mpuMay e a k then .bad 3 0 a
  else if !holdsRsv a then .bad 6 0 a
  else if !(s.eng e).buf.isEmpty then .hold
  else r

/-- `LDRSV`: the load records the reservation at the target; the engine holds it from W on. -/
def State.slotLdrsv (s : State) (e : Nat) : Ref → Run Put
  | .far a => s.rsvCheck e a 0 ((Run.load { addr := a, size := 0, slot := 0, exc := a, rsv := true }).bind (fun w =>
      .ret (.of (fun t => t.setEng e { t.eng e with a := w, rsv := some (a / 8) }))))
  | _ => .ret {}

/-- `STCND`: the store itself is made once every check of the bundle has passed. -/
def State.slotStcnd (s : State) (e : Nat) : Ref → Run Put
  | .far a => s.rsvCheck e a 1 (.ret { cnd := some a })
  | _ => .ret {}

/-- An arithmetic operation: operand, W, result, trap. Where both accesses fault, the operand's fault goes first (R191, R206; DESIGN
CHOICE, log 46: the spec orders slots only). -/
def State.slotAlu (s : State) (e : Nat) (k : ASlot) : Run Put :=
  let x := s.eng e
  (s.readRef e 0 0 (s.refOf e k.form)).bind (fun b =>
    (if k.op.usesW then s.nearRead e 0 (nearWord x.y) else .ret 0).bind (fun w =>
      let r := aluRes k.op (s.get (aENG_S e) ENG_S.rm) x.a x.e b w
      match s.trapOf e k.op r.raised with
      | some v => .fault { v := v, x := { slot := some 0, raised := some r.raised } }
      | none => .ret ((Put.of (fun t => ((t.putRes e r).putFlags e r).stick e r.raised)).then (s.stepOf e k.form))))

/-- The A-slot. -/
def State.slotA (s : State) (e : Nat) (k : ASlot) : Run Put :=
  let r := s.refOf e k.form
  match k.op with
  | .ld => (s.readRef e 0 (sizeCode k.size) r).bind (fun w =>
      .ret ((Put.of (fun t => if k.e then t.setE e w else t.setA e w)).then (s.stepOf e k.form)))
  | .st => (s.writeRef e 0 (sizeCode k.size) (if k.e then (s.eng e).e else (s.eng e).a) r).bind (fun p =>
      .ret (p.then (s.stepOf e k.form)))
  | .ldrsv => s.slotLdrsv e r
  | .stcnd => s.slotStcnd e r
  | _ => s.slotAlu e k

/-! ### X-slot (R181, R182, R210) -/

/-- The word of XMOD or YMOD that an operand field gives (R182). -/
def modWord (v : Word) : Word :=
  let n := v.toNat % 65536
  BitVec.ofNat 32 (n / 2 ^ 15 * 2 ^ 31 + n / 2 ^ 8 % 16 * 2 ^ 24 + n % 256)

/-- The X-slot. -/
def State.slotX (s : State) (e : Nat) (k : XSlot) : Run Put :=
  let r := s.refOf e k.form
  let x := s.index e k.y
  match k.op with
  | .ld => (s.readRef e 1 0 r).bind (fun w => .ret (.of (fun t => t.setIndex e k.y w)))
  | .st => s.writeRef e 1 0 x r
  | .add => (s.readRef e 1 0 r).bind (fun w => .ret (.of (fun t => t.setIndex e k.y (x + w))))
  | .mod => (s.readRef e 1 0 r).bind (fun w => .ret (.of (fun t => t.setReg (if k.y then aYMOD e else aXMOD e) (modWord w))))

/-! ### T-slot (R183, R184, R211 to R215) -/

/-- `MOV`. -/
def State.slotMov (s : State) (e : Nat) (dst src : Form) : Run Put :=
  (s.readRef e 2 0 (s.refOf e src)).bind (fun w =>
    (s.writeRef e 2 0 w (s.refOf e dst)).bind (fun p => .ret ((p.then (s.stepOf e src)).then (s.stepOf e dst))))

/-- TS, TD, TC and resume as a block move leaves them. -/
def State.setBlock (s : State) (e : Nat) (ts td tc : Word) : State :=
  (s.setEng e { s.eng e with ts := ts, td := td, tc := tc }).setB (aENG_S e) ENG_S.resume (tc != 0)

/-- An address of a block move. -/
def blockRef (far : Bool) (w : Word) : Ref := if far then .far w.toNat else .near (nearWord w)

/-- One word of a `BMOV` (R212). -/
def State.slotBmov (s : State) (e : Nat) (dstFar srcFar : Bool) (count : Nat) : Run Put :=
  let x := s.eng e
  let go := s.on (aENG_S e) ENG_S.resume
  let ts := if go then x.ts else x.x
  let td := if go then x.td else x.y
  let tc := if go then x.tc else BitVec.ofNat 32 count
  let step (far : Bool) : Word := if far then 4 else 1
  if tc = 0 then .ret (.of (fun t => t.setBlock e ts td 0))
  else (s.readRef e 2 0 (blockRef srcFar ts)).bind (fun w =>
    (s.writeRef e 2 0 w (blockRef dstFar td)).bind (fun p =>
      .ret ({ p with more := tc != 1 }.then (.of (fun t => t.setBlock e (ts + step srcFar) (td + step dstFar) (tc - 1))))))

/-- The T-slot. -/
def State.slotT (s : State) (e : Nat) : TSlot → Run Put
  | .mov d r => s.slotMov e d r
  | .bmov d r n => s.slotBmov e d r n

/-! ### C-slot -/

/-- The address of the bundle after the one in E. -/
def State.seqPc (s : State) (e : Nat) (b : Bundle) : Nat := ((s.eng e).pc + 4 * b.len) % 2 ^ 32

/-- Is a branch taken (R216)? -/
def State.takes? (s : State) (e : Nat) : Cond → Bool
  | .always => true
  | .z => s.on (aENG_S e) ENG_S.z
  | .nz => !s.on (aENG_S e) ENG_S.z
  | .n => s.on (aENG_S e) ENG_S.n
  | .p => !s.on (aENG_S e) ENG_S.n && !s.on (aENG_S e) ENG_S.z
  | .c => s.on (aENG_S e) ENG_S.c
  | .v => s.on (aENG_S e) ENG_S.v

/-- Where a branch or call goes (R186). -/
def State.targetOf (s : State) (e : Nat) : Tgt → Nat
  | .rel d => (BitVec.ofNat 32 (s.eng e).pc + BitVec.ofInt 32 (4 * d)).toNat
  | .abs a => a

/-- A call-stack entry goes onto the call stack (R217). -/
def State.pushCall (t : State) (e : Nat) (x : CallEntry) : State := t.setEng e { t.eng e with stack := x :: (t.eng e).stack }
def State.popCall (t : State) (e : Nat) : State := t.setEng e { t.eng e with stack := (t.eng e).stack.drop 1 }

/-- A fault of the C-slot without an address. -/
def Run.badC {α : Type} (v : Nat) : Run α := Run.fault { v := v, x := { slot := some 3 } }

/-- `CALL` (R218). -/
def State.slotCall (s : State) (e : Nat) (b : Bundle) (t : Tgt) : Run Put :=
  if 16 ≤ (s.eng e).stack.length then .badC 4
  else .ret { next := some (s.targetOf e t)
              act := fun u => u.pushCall e { ret := s.seqPc e b, retRing := s.ring e, owner := s.ring e, gate := false } }

/-- The engine loses its reservation, and releases it at its target (R223). -/
def State.loseRsv (t : State) (e : Nat) : State := (t.releaseRsv e).setEng e { (t.releaseRsv e).eng e with rsv := none }

/-- `RET` and `GRET`: the top entry, of the kind asked for and of the current ring (R218, R237). -/
def State.slotRet (s : State) (e : Nat) (gate : Bool) : Run Put :=
  match (s.eng e).stack with
  | x :: _ =>
    if x.gate = gate ∧ x.owner = s.ring e then
      .ret { next := some x.ret
             act := fun u => if gate then ((u.popCall e).loseRsv e).set (aENG_S e) ENG_S.ring x.retRing else u.popCall e }
    else .badC 4
  | [] => .badC 4

/-- The byte address of gate descriptor `n` (R236). -/
def State.gateAt (s : State) (e n : Nat) : Nat :=
  (if isNewt e then engRam e + s.get (aGTB e) GTB.gbase * 2048 else (s.reg (aGTB e)).toNat) + 8 * n

/-- A word at `a` that the C-slot's instruction reads for itself: of a Newt's operand store, or by a Skink's load, which no MPU region
checks (R236, R259; DESIGN CHOICE, log 44). -/
def State.gateWord (s : State) (e a : Nat) : Run Word :=
  if !isNewt e then .load { addr := a, size := 0, slot := 3, exc := a }
  else if s.ue.contains a then .fault { v := 9, x := { slot := some 3, addr := some ((a - engRam e) / 4) }, ue := some a }
  else .ret (s.word a)

/-- The words of a frame at `a`. -/
def State.frameWords (s : State) (e : Nat) : Nat → Nat → Run (List Word)
  | 0, _ => .ret []
  | n + 1, a => (s.gateWord e a).bind (fun w => (s.frameWords e n (a + 4)).bind (fun ws => .ret (w :: ws)))

/-- `GATE` (R236, R244). -/
def State.slotGate (s : State) (e : Nat) (b : Bundle) (n : Nat) : Run Put :=
  let a := s.gateAt e n
  (s.gateWord e a).bind (fun d => (s.gateWord e (a + 4)).bind (fun w =>
    let ring := w.toNat % 4
    if w.toNat / 16 % 4 < s.ring e ∨ s.ring e < ring ∨ 16 ≤ (s.eng e).stack.length then .badC 4
    else .ret { next := some (d.toNat / 4 * 4)
                act := fun u => (((if isNewt e then (u.countCe e a).countCe e (a + 4) else u).pushCall e
                  { ret := s.seqPc e b, retRing := s.ring e, owner := ring, gate := true }).loseRsv e).set (aENG_S e) ENG_S.ring ring }))

/-- `LOOP` (R187, R220). -/
def State.slotLoop (s : State) (e : Nat) (b : Bundle) (one src : Bool) (v n : Nat) : Run Put :=
  (if src then s.nearRead e 3 v else .ret (BitVec.ofNat 32 v)).bind (fun c =>
    .ret (.of (fun t =>
      ((t.setReg (if one then aLS1 e else aLS0 e) (BitVec.ofNat 32 (s.seqPc e b))).setReg (if one then aLE1 e else aLE0 e)
        (BitVec.ofNat 32 ((s.eng e).pc + 4 * n))).setReg (if one then aLC1 e else aLC0 e) c)))

/-- `WAITEV` (R229). -/
def State.slotWaitev (s : State) (e mask : Nat) : Run Put :=
  let f := s.reg (aEVF e) &&& BitVec.ofNat 32 mask
  if f = 0 then fun _ => .wait .sleep
  else .ret (.of (fun t => (t.setA e f).setReg (aEVF e) (t.reg (aEVF e) &&& ~~~f)))

/-- The producer that `SIGEV` fires (R231), unless a regrow made the engine stand for another (R518). -/
def State.sigev (s : State) (e : Nat) : Nat := if isNewt e then (sget none s.av.sigev e).getD (928 + e) else 1824 + (e - 256)

/-! ### Queue instructions (R225 to R228) -/

/-- The near words of a record. -/
def rcdWords (b : Nat) : List Nat := [b, b + 1, b + 2, b + 3]

/-- Read the words of a list of near words. -/
def State.readWords (s : State) (e : Nat) : List Nat → Run (List Word)
  | [] => .ret []
  | w :: ws => (s.nearRead e 3 w).bind (fun x => (s.readWords e ws).bind (fun xs => .ret (x :: xs)))

/-- Write words to near words. -/
def State.writeWords (s : State) (e : Nat) : List Nat → List Word → Run Put
  | w :: ws, x :: xs => (s.nearWrite e 3 w x).bind (fun p => (s.writeWords e ws xs).bind (fun q => .ret (p.then q)))
  | _, _ => .ret {}

/-- The first of the words that the ring may not write, for `QGET` and `QPEEK`. -/
def State.deniedWord (s : State) (e : Nat) (l : List Nat) : Option Nat := l.find? (fun w => match s.place e w with
  | some (.mem _) => !s.mayStore e w
  | some (.global a) => !s.mpuMay e a 1
  | _ => false)

/-- What a queue instruction writes with the queue manager's answer: c, and its words or A. -/
def State.queuePut (s : State) (e : Nat) (k : QOp) (b : Nat) (c : Bool) (ws : List Word) : Run Put :=
  let flag : Put := .of (fun t => t.setB (aENG_S e) ENG_S.c c)
  match k with
  | .put => .ret flag
  | .count => .ret (flag.then (.of (fun t => (t.setA e (ws.headD 0)).setB (aENG_S e) ENG_S.z (ws.headD 0 == 0))))
  | _ => if c then .ret flag else (s.writeWords e (rcdWords b) ws).bind (fun p => .ret (flag.then p))

/-- A queue instruction: the checks of R226, the question, the answer. -/
def State.slotQueue (s : State) (e : Nat) (k : QOp) (y : Bool) (q : Nat) : Run Put :=
  let b := nearWord (s.index e y)
  let far := if isNewt e then decide (0x0FFC < b) else decide (0xEFFF < b + 3)
  if far then .bad 5 3 b
  else match (s.eng e).wait with
    | .queue (some (true, _, _)) => .badC 16
    | .queue (some (false, cf, ws)) => s.queuePut e k b cf ws
    | _ => match k with
      | .put => (s.readWords e (rcdWords b)).bind (fun ws => fun _ => .ask { op := k, q := q, rcd := ws })
      | .count => fun _ => .ask { op := k, q := q, rcd := [] }
      | _ => match s.deniedWord e (rcdWords b) with
        | some w => .bad 3 3 w
        | none => fun _ => .ask { op := k, q := q, rcd := [] }

/-! ### Fences, returns, the rest -/

/-- Has every far store of the engine been acknowledged (R157)? -/
def State.fenced (s : State) (e : Nat) : Bool := (s.eng e).buf.isEmpty && (s.eng e).acks == 0

/-- Has every store of the engine to its own banks been written (R151)? -/
def State.banksWritten (s : State) (e : Nat) : Bool :=
  (s.eng e).bankAcks == 0 && !(s.eng e).buf.any (fun b => b.kind == .far && inOwnBank e b.addr)

/-- The byte address of the frame that `ERET` would restore, where that context was spilled. -/
def State.spilled (s : State) (e : Nat) : Option Nat :=
  if s.get (aLIC_STATUS e) LIC_STATUS.spill_depth = 0 then none else some (frameAddr e (s.reg (aSPILL_PTR e)).toNat)

/-- The first uncorrectable word of the newest context bank. -/
def State.bankUe (s : State) (e : Nat) : Option Nat :=
  let used := s.get (aENG_STATUS e) ENG_STATUS.ctx_used
  if used = 0 then none else ((List.range 12).map (aCTX e (used - 1))).find? (fun a => s.ue.contains a)

/-- `ERET`: a spilled frame is read; an uncorrectable word in it faults (R258, R259), and so does one of a context bank, as any operand
that is read (R132; DEDUCED, log 41). -/
def State.slotEret (s : State) (e : Nat) : Run Put :=
  match s.spilled e, s.bankUe e with
  | some a, _ => (s.frameWords e 16 a).bind (fun ws => .ret { eret := some ws })
  | none, some a => .fault { v := 9, x := { slot := some 3, addr := some (0xF000 + (a - engBase e) / 4) }, ue := some a }
  | none, none => .ret { eret := some [] }

/-- Has debug armed breakpoint halting for engine `e` (R239, R456)? -/
def State.bkptArmed (s : State) (e : Nat) : Bool :=
  s.dbgOpen 0 && (if isNewt e then s.bit (aDBG_BKPT (e / 32)) (e % 32) else s.bit aDBG_BKPT8 (e - 256))

/-- `SNAP` (R234): a software edge. -/
def State.snapEdge (t : State) (u : Nat) : State :=
  { t with fab := { t.fab with edges := t.fab.edges ++ [{ input := 2320 + u, tick := t.tb, producer := 2046 }] } }

/-- The C-slot. -/
def State.slotC (s : State) (e : Nat) (b : Bundle) (k : COp) : Run Put :=
  match k with
  | .br k t => .ret { next := if s.takes? e k then some (s.targetOf e t) else none }
  | .call t => s.slotCall e b t
  | .ret => s.slotRet e false
  | .gret => s.slotRet e true
  | .gate n => s.slotGate e b n
  | .loop one src v n => s.slotLoop e b one src v n
  | .waitev m => s.slotWaitev e m
  | .sigev => .ret (.of (fun t => t.fire (s.sigev e)))
  | .queue q y n => s.slotQueue e q y n
  | .commit g => .ret { room := 1, act := fun t => t.pushStore e { kind := .arm g, addr := 0, data := 0, size := 0, ring := s.ring e } }
  | .snap u => .ret (.of (fun t => t.snapEdge u))
  | .fence => if s.fenced e then .ret {} else fun _ => .wait .fence
  | .isync => if s.banksWritten e then .ret {} else .hold
  | .eret => s.slotEret e
  | .tbrd => .ret (.of (fun t => (t.setA e s.tbLo).setE e s.tbHi))
  | .ctmode v => .ret (.of (fun t => t.setB (aENG_S e) ENG_S.ct v))
  | .trap _ => .badC 14
  | .bkpt _ => if s.bkptArmed e then fun _ => .brk else .badC 14

/-- Does ring 3 not execute the C-slot's instruction (R235)? -/
def COp.barred : COp → Bool
  | .commit _ | .snap _ => true
  | _ => false

/-! ### The bundle -/

/-- An optional slot. -/
def slot {α : Type} (o : Option α) (f : α → Run Put) : Run Put := match o with
  | some k => f k
  | none => .ret {}

/-- Every slot of a bundle, in the order A, X, T, C (R133, R134, R173). -/
def State.allSlots (s : State) (e : Nat) (b : Bundle) : Run Put :=
  (slot b.a (s.slotA e)).bind (fun p => (slot b.x (s.slotX e)).bind (fun q => (slot b.t (s.slotT e)).bind (fun r =>
    (slot b.c (s.slotC e b)).bind (fun u => .ret (((p.then q).then r).then u)))))

/-- What the bundle in E comes to: with resume = 1 its T-slot only, which must be a `BMOV` (R136); with the last word of its own block
move an `ERET` reads its frame. -/
def State.evalBundle (s : State) (e : Nat) (b : Bundle) : Run Put :=
  if s.on (aENG_S e) ENG_S.resume then
    (match b.t with
      | some (.bmov d r n) =>
        if (s.eng e).resumePc.isSome ∧ b.c = some .eret ∧ (s.eng e).tc.toNat ≤ 1 then
          (s.slotBmov e d r n).bind (fun p => (s.slotEret e).bind (fun q => .ret (p.then q)))
        else s.slotBmov e d r n
      | _ => .fault { v := 2 })
  else if s.ring e == 3 && (b.c.map COp.barred).getD false then .badC 3
  else s.allSlots e b

end Sys2Proof.Machine
end

