-- ==== Sys2Proof/Machine/Exec.lean ====
section
/-!
DEFINITION. How an engine executes a bundle: fetch and decode (R132, R150, R153, R166, R173, R174), loads and their ordering
(R25, R155, R345), reservations (R221 to R224, R349), completion (R134, R135, R144 to R146, R212), returns (R238, R258).
-/

namespace Sys2Proof.Machine

/-! ### Raising exceptions -/

/-- Raise an exception of the bundle in E; an uncorrectable error is counted and recorded first (R132, R503). -/
def State.raise (s : State) (e : Nat) (f : Flt) : State :=
  let t := match f.ue with
    | some a => s.countUe e a
    | none => s
  t.except e f.v f.early f.x

/-! ### Fetch -/

/-- What a fetch gives: the words of a bundle, an exception, a line that the I-cache misses, the words up to one that is not cached, or a
wait. -/
inductive Fetched where
  | words (ws : List Word)
  | fault (f : Flt)
  | fill (line : Nat)
  | remote (ws : List Word)
  | hold
  deriving DecidableEq, Repr

/-- Does the list end with a stop syllable? -/
def ended (ws : List Word) : Bool := (ws.getLast?.map stops).getD false

/-- Engine `e` reads the words at the addresses of a list for itself: correctable errors in them are corrected and counted (R132). -/
def State.countCes (s : State) (e : Nat) (l : List Nat) : State := l.foldl (fun t a => t.countCe e a) s

/-- The addresses of the first `n` words of a Newt's bundle at `pc`. -/
def State.codeAt (s : State) (e pc n : Nat) : List Nat := (List.range n).map (fun i => bankAt e (s.activeBank e) + pc + 4 * i)

/-- A Newt's fetch from its active bank: what stands there now, also where R150 would allow the old content or leaves a bundle fetched
behind a stall open (DESIGN CHOICE, log 46). -/
def State.fetchNewt (s : State) (e pc : Nat) : Fetched :=
  let base := bankAt e (s.activeBank e) + pc
  let n := min 6 ((0x4000 - pc) / 4)
  let ws := takeBundle ((s.codeAt e pc n).map s.word)
  if 0x3FFC < pc ∨ (n < 6 ∧ ended ws = false) then .fault { v := 5, early := true }
  else match (List.range ws.length).find? (fun i => s.ue.contains (base + 4 * i)) with
    | some i => .fault { v := 8, early := true, ue := some (base + 4 * i) }
    | none => .words ws

/-- The words that the fetch of a Newt at `pc` reads before it ends or meets an uncorrectable one. -/
def State.fetchReads (s : State) (e pc : Nat) : List Nat := match s.fetchNewt e pc with
  | .words ws => s.codeAt e pc ws.length
  | .fault f => match f.ue with
    | some a => (s.codeAt e pc 6).takeWhile (fun b => b != a)
    | none => s.codeAt e pc ((0x4000 - pc) / 4)
  | _ => []

/-- One syllable of a Skink's fetch, through the I-cache where the address is cacheable; one that is not is asked for. -/
def State.fetchWord (s : State) (e a : Nat) : State × Fetched :=
  if !s.mpuMay e a 2 then (s, .fault { v := 3, x := { addr := some a } })
  else if (s.cached e a).isSome then
    (match lineOf (s.eng e).icache a with
      | some l => (s.touch e true a, .words [l.word a])
      | none => (s, .fill (a / 64 * 64)))
  else (s, .remote [])

/-- A Skink's fetch of up to `n` syllables from `a` on, behind the words `acc`. -/
def State.fetchSk (s : State) (e : Nat) : Nat → Nat → List Word → State × Fetched
  | 0, _, acc => (s, .words acc)
  | n + 1, a, acc => match s.fetchWord e a with
    | (t, .words ws) => if ended ws then (t, .words (acc ++ ws)) else t.fetchSk e n ((a + 4) % 2 ^ 32) (acc ++ ws)
    | (t, .remote _) => (t, .remote acc)
    | r => r

/-- The bundle at the PC, or the one in E. -/
def State.fetch (s : State) (e : Nat) : State × Fetched :=
  if !(s.eng e).cur.isEmpty then (s, .words (s.eng e).cur)
  else if isNewt e then (s, s.fetchNewt e (s.eng e).pc)
  else s.fetchSk e 6 (s.eng e).pc []

/-! ### Ordering of loads and stores (R155, R344, R345) -/

/-- What the stores ahead of a load mean for it: nothing, the word it takes from one of them, or that it waits. -/
inductive Ahead where
  | free
  | forward (w : Word)
  | blocked
  deriving DecidableEq, Repr

/-- The stores ahead of a load: a load of a window keeps program order with the engine's stores to windows. -/
def State.ahead (s : State) (e : Nat) (l : Load) : Ahead :=
  let buf := (s.eng e).buf
  if l.window then (if buf.any Store.isNear || (s.flying e).any Store.isNear then .blocked else .free)
  else match (buf.filter (fun b => b.hits l.addr (sizeLen l.size))).getLast? with
    | some b => if b.addr = l.addr ∧ b.size = l.size ∧ b.kind = .far then .forward b.data else .blocked
    | none => if (s.flying e).any (fun b => b.hits (l.addr / 4 * 4) 4) then .blocked else .free

/-! ### Reservations (R221 to R224, R349) -/

/-- The reservation still held by engine `e` on granule `g`. -/
def State.rsvOf (s : State) (e g : Nat) : Option Rsv :=
  s.rsv.held.find? (fun r => r.eng == e && r.granule == g && decide (s.tb < r.tick + 2000))

/-- A `LDRSV` reaches its target: it is recorded in the order of arrival, or, for a senior engine, where its ended reservation
had arrived. -/
def State.loadRsv (s : State) (e a : Nat) : State × Acc.Res :=
  match s.busRead (reqOf e) a 0 with
  | (t, .ok w) =>
    let g := a / 8
    let old := t.rsv.senior.find? (fun x => x.eng == e && x.granule == g && decide (t.tb < x.until_))
    let ord := (old.map (·.ord)).getD t.rsv.next
    ({ t with rsv := { t.rsv with
        held := t.rsv.held.filter (fun r => r.eng != e) ++ [{ eng := e, granule := g, ord := ord, tick := t.tb }]
        senior := t.rsv.senior.filter (fun x => !(x.eng == e && x.granule == g))
        next := if old.isSome then t.rsv.next else t.rsv.next + 1 } }, .ok w)
  | r => r

/-- Does engine `e` hold the oldest reservation on granule `g`, and does it know of it? -/
def State.mayStcnd (s : State) (e g : Nat) : Bool :=
  (s.eng e).rsv == some g && (match s.rsvOf e g with
    | some r => s.rsv.held.all (fun x => x.granule != g || !decide (s.tb < x.tick + 2000) || decide (r.ord ≤ x.ord))
    | none => false)

/-- A `STCND` reaches its target: 1 stored, 0 not. The engines whose reservations a success ends are senior for 2 µs; one that fails ends
its own here at once (R222, R224). -/
def State.condStore (s : State) (e a : Nat) : State × Acc.Res :=
  let g := a / 8
  if !s.alive (s.islandOf a) then (s, .err)
  else if s.held (s.islandOf a) then (s, .held)
  else if s.mayStcnd e g then
    let lost := s.rsv.held.filter (fun r => r.granule == g && r.eng != e && decide (s.tb < r.tick + 2000))
    let t := s.memWrite a 4 (s.eng e).a
    let kept := t.rsv.senior.filter (fun x => x.granule != g || !lost.any (fun r => r.eng == x.eng))
    let more : List Senior := lost.map (fun r => { eng := r.eng, granule := g, ord := r.ord, until_ := s.tb + 2000 })
    ({ t with rsv := { t.rsv with senior := kept ++ more } }, .ok 1)
  else ({ s with rsv := { s.rsv with held := s.rsv.held.filter (fun r => !(r.eng == e && r.granule == g)) } }, .ok 0)

/-- RESERVATION_EXPIRY: 2 µs after the target recorded it (R223). -/
def execReservationExpiry (e : Eng) (s : State) : Host.Outcome State Fault Refusal :=
  .next { s with rsv := { s.rsv with held := s.rsv.held.filter (fun r => !(r.eng == e.val && decide (r.tick + 2000 ≤ s.tb))) } }

/-! ### Loads -/

/-- How far a load has come: its word, an exception, or a wait. -/
inductive Got where
  | word (w : Word)
  | fault (f : Flt)
  | later (w : Wait)
  deriving DecidableEq, Repr

/-- The exception of a load that meets an error response: vector 9 for an uncorrectable word (R132), but for ROM, OTP and NVM,
else 6. -/
def loadFault (l : Load) (ue : Bool) : Flt :=
  { v := if ue && decide (0x10000000 ≤ l.addr) then 9 else 6, x := { slot := some l.slot, addr := some l.exc } }

/-- The answer of an access that a load makes. -/
def Load.got (l : Load) : Reply → Got
  | .words ws => .word (ws.headD 0)
  | .err _ ue => .fault (loadFault l ue)
  | _ => .later .load

/-- A load that nothing ahead of it stops: from a line of the D-cache, or by an access. -/
def State.freeLoad (s : State) (e : Nat) (l : Load) : State × Got :=
  match s.cached e l.addr, lineOf (s.eng e).dcache l.addr with
  | some _, some x => (s.touch e false l.addr, .word (pick l.addr l.size (x.word l.addr)))
  | some _, none => (s, .later (.fill false (l.addr / 64 * 64)))
  | none, _ => ((s.engAsk e l.addr l.size (s.ring e)).1, l.got (s.engAsk e l.addr l.size (s.ring e)).2)

/-- A load is made, or goes on. -/
def State.access (s : State) (e : Nat) (l : Load) : State × Got :=
  if l.rsv then ((s.engAsk e l.addr 0 (s.ring e)).1, l.got (s.engAsk e l.addr 0 (s.ring e)).2)
  else match s.ahead e l with
    | .forward w => (s, .word w)
    | .blocked => (s, .later .load)
    | .free => s.freeLoad e l

/-! ### Loops (R144 to R146) -/

/-- Is loop set `one` armed, and does it end on the bundle in E? -/
def State.loopAt (s : State) (e : Nat) (one : Bool) : Bool :=
  (s.reg (if one then aLC1 e else aLC0 e)) != 0 && (s.reg (if one then aLE1 e else aLE0 e)).toNat == (s.eng e).pc

/-- Loop set `one` acts at its end: the count, and the bundle that follows. R123 makes LS and LE multiples of 4 and their fields hold any
word: the low bits of LS are not used, and an LE with one set matches no bundle (DESIGN CHOICE, log 46). -/
def State.loopSet (s : State) (e : Nat) (one : Bool) (seq : Nat) : State × Nat :=
  let a := if one then aLC1 e else aLC0 e
  (s.setReg a (s.reg a - 1), if 1 < (s.reg a).toNat then (s.reg (if one then aLS1 e else aLS0 e)).toNat / 4 * 4 else seq)

/-- The end of a bundle that transfers no control: set 1 acts first, set 0 only where set 1 exits. -/
def State.loopEnd (s : State) (e seq : Nat) : State × Nat :=
  if s.loopAt e true then
    (if 1 < (s.reg (aLC1 e)).toNat then s.loopSet e true seq
     else
      let t := (s.loopSet e true seq).1
      if t.loopAt e false then t.loopSet e false seq else (t, seq))
  else if s.loopAt e false then s.loopSet e false seq
  else (s, seq)

/-! ### Completion -/

/-- The bundle at `pc` has completed and `next` follows: a bank swap takes effect, and a stop (R152, R162). -/
def State.retire (t : State) (e pc next : Nat) : State :=
  let u := t.setEng e
    { t.eng e with pc := next, cur := [], got := [], seen := [], wait := .none, resumePc := none, first := none, reply := .none, part := [],
                   skip := [] }
  let u := ((u.set (aENG_STATUS e) ENG_STATUS.waiting 0).set (aENG_STATUS e) ENG_STATUS.pc (pc % 65536)).bankBoundary e
  if (u.eng e).halting then u.haltNow e else u

/-! ### The killed bundle (R142, R143) -/

/-- A control transfer is taken, and kills the sequential bundle at `pc`: errors in the words of its fetch are counted, corrected where
they can be; a Skink that misses on it fills the line. -/
def State.killed (s : State) (e pc : Nat) : State :=
  if isNewt e then (match s.fetchNewt e pc with
    | .fault { ue := some a, .. } => (s.countCes e (s.fetchReads e pc)).countUe e a
    | _ => s.countCes e (s.fetchReads e pc))
  else match s.fetchSk e 6 pc [] with
    | (t, .fill l) =>
      if inWindow l || t.lineDue e l || !t.lineRoom e true l then t
      else (match t.readLine e 16 l [] with
        | (u, .ok ws) => u.lineIn e true l ws
        | (_, .error (_, .held)) => t
        | (u, .error _) => u)
    | (t, _) => t

/-- The defined bits of S. -/
def sMask : Word := 0xFF3FFC0F

/-- The live state that a context's words give (R238). -/
def State.restore (t : State) (e : Nat) (ws : List Word) : State :=
  let w (i : Nat) : Word := ws.getD i 0
  let u := t.setEng e { t.eng e with a := w 0, e := w 1, x := w 2, y := w 3, ts := w 8, td := w 9, tc := w 10 }
  ((u.setReg (aENG_S e) (w 4 &&& sMask)).setReg (aLC0 e) (w 6)).setReg (aLC1 e) (w 7)

/-- Vector 18 with what RPF_INFO records (R258); without a context there is no ring to record. -/
def State.returnFault (t : State) (e : Nat) (ctx : Option (Nat × Nat)) : State :=
  let a := aRPF_INFO e
  let (w, u) := t.freeWord
  let (x, y, v) := match ctx with
    | some (x, y) => (x, y, t)
    | none => (w.toNat % 4, w.toNat / 4 % 4, u)
  let v := ((((v.set a RPF_INFO.valid 1).setB a RPF_INFO.no_context ctx.isNone).set a RPF_INFO.attempted_ring x).set a
    RPF_INFO.orig_ring y).set a RPF_INFO.eret_ring (t.ring e)
  v.except e 18 false { slot := some 3 }

/-- The word `w` with the bytes of a store in it. -/
def mergeStore (w : Word) (b : Store) : Word :=
  (w &&& ~~~lanes b.addr b.size) ||| ((b.data <<< (8 * (b.addr % 4))) &&& lanes b.addr b.size)

/-- A word of a frame at `a` that a Skink read as `w`, after the stores `l` of the same bundle (R238). -/
def afterStores (l : List Store) (a : Nat) (w : Word) : Word :=
  l.foldl (fun v b => if b.kind = .far ∧ b.addr / 4 * 4 = a then mergeStore v b else v) w

/-- The twelve words that `ERET` of a bundle that began in `s` restores, after its other slots have written in `t`: of the frame `fr` that
it read, or of context bank `b` (R238, R258). -/
def State.eretWords (s t : State) (e b : Nat) (fr : List Word) : List Word := match s.spilled e with
  | some a => if isNewt e then t.wordsAt a 12
    else (List.range 12).map (fun i => afterStores ((t.eng e).buf.drop (s.eng e).buf.length) (a + 4 * i) (fr.getD i 0))
  | none => (List.range 12).map (fun i => t.reg (aCTX e b i))

/-- `ERET` of a bundle that began in `s`, after its other slots have written (R238, R258, R259); `fr` holds the words of the frame that
it read, none for a context bank, and `seq` is the bundle behind it. -/
def State.eret (s t : State) (e seq : Nat) (fr : List Word) : State :=
  let used := t.get (aENG_STATUS e) ENG_STATUS.ctx_used
  let frame := s.spilled e
  if frame.isNone ∧ used = 0 then t.returnFault e none
  else
    let ws := s.eretWords t e (used - 1) fr
    let ring := getBits (ws.getD 4 0) ENG_S.ring
    let orig := (ws.getD 11 0).toNat % 4
    if ring < orig then t.returnFault e (some (ring, orig))
    else
      let u := ((t.killed e seq).loseRsv e).restore e ws
      let u := match frame with
        | some a => ((if isNewt e then u.countCes e ((List.range 16).map (fun i => a + 4 * i)) else u).setReg (aSPILL_PTR e) (BitVec.ofNat 32 ((s.reg (aSPILL_PTR e)).toNat + frameLen e))).set (aLIC_STATUS e)
            LIC_STATUS.spill_depth (t.get (aLIC_STATUS e) LIC_STATUS.spill_depth - 1)
        | none => (u.countCes e ((List.range 12).map (aCTX e (used - 1)))).set (aENG_STATUS e) ENG_STATUS.ctx_used (used - 1)
      u.retire e (s.eng e).pc ((ws.getD 5 0).toNat / 4 * 4)

/-- The near words that the slots of a bundle read in O, before it waits in E. -/
def State.nearOps (s : State) (e : Nat) (b : Bundle) : List Nat :=
  let near (f : Form) : List Nat := match s.refOf e f with
    | .near w => [w]
    | _ => []
  let x := s.eng e
  let go := s.on (aENG_S e) ENG_S.resume
  let t := match b.t with
    | some (.mov _ src) => near src
    | some (.bmov _ far _) => if far then [] else [nearWord (if go then x.ts else x.x)]
    | none => []
  if go then t
  else
    (match b.a with
      | some k => if k.op = .st then [] else near k.form ++ if k.op.usesW then [nearWord x.y] else []
      | none => []) ++
    (match b.x with
      | some k => if k.op = .st then [] else near k.form
      | none => []) ++ t ++
    match b.c with
      | some (.loop _ true v _) => [v]
      | some (.queue .put y _) => rcdWords (nearWord (s.index e y))
      | _ => []

/-- The memory words, and the words of context banks, behind the near words that the slots of a bundle read. -/
def State.nearReads (s : State) (e : Nat) (b : Bundle) : List Nat := (s.nearOps e b).filterMap (fun w => match s.place e w with
  | some (.mem a) => some a
  | some (.ctl o) => if inCtx (engBase e + o) then some (engBase e + o) else none
  | _ => none)

/-- An engine begins a bundle of words `ws`, or the next word of a block move: correctable errors in the near words that its slots read, and
in what a Newt fetched, are met (R132). -/
def State.beginCe (s : State) (e : Nat) (b : Bundle) (ws : List Word) : State :=
  if (s.eng e).cur.isEmpty then
    s.countCes e ((if isNewt e then s.codeAt e (s.eng e).pc ws.length else []) ++ s.nearReads e b)
  else if s.on (aENG_S e) ENG_S.resume && (s.eng e).seen.isEmpty && (s.eng e).got.isEmpty then s.countCes e (s.nearReads e b)
  else s

/-- The near words of the bundle in E as O read them: those already read, or, at its first wait, those of now (R137). -/
def State.seenNow (s : State) (e : Nat) (ws : List Word) : List (Nat × Word) :=
  if !(s.eng e).seen.isEmpty then (s.eng e).seen
  else match decodeBundle (isNewt e) ws with
    | .ok b => (s.nearOps e b).filterMap (fun w => match s.nearFresh e 0 w [] with
      | .ok v _ => some (w, v)
      | _ => none)
    | .error _ => []

/-- The bundle waits in E. -/
def State.waitInE (s : State) (e : Nat) (ws : List Word) : State :=
  s.setEng e { s.eng e with cur := ws, seen := s.seenNow e ws }

/-- A `STCND` clears the engine's reservation and gives z (R222). -/
def State.condDone (t : State) (e : Nat) (r : Word) : State := (t.loseRsv e).setB (aENG_S e) ENG_S.z (r == 1)

/-- Everything of a bundle that began in `s` is checked, and its conditional store made in `t`: its writes, and what follows it. -/
def State.commitBundle (s t : State) (e : Nat) (b : Bundle) (ws : List Word) (p : Put) : State :=
  let x := s.eng e
  let taken := if x.resumePc.isSome then x.resumePc.getD none else p.next
  if p.more then
    let u := p.act t
    let u := (u.setEng e { u.eng e with cur := ws, got := [], seen := [], wait := .none, resumePc := some taken }).set (aENG_STATUS e)
      ENG_STATUS.waiting 0
    if (u.eng e).halting then u.haltNow e else u
  else match p.eret, taken with
    | some fr, _ => s.eret (p.act t) e (s.seqPc e b) fr
    | none, some a => (p.act (t.killed e (s.seqPc e b))).retire e x.pc a
    | none, none =>
      let r := t.loopEnd e (s.seqPc e b)
      (p.act r.1).retire e x.pc r.2

/-- The engine enters a wait of its bundle; one that sleeps reads its near words when it wakes (R71). -/
def State.enterWait (s : State) (e : Nat) (ws : List Word) (w : Wait) : State :=
  (s.setEng e { s.eng e with wait := w, cur := ws, seen := if w = .sleep then [] else s.seenNow e ws }).flagIf (w == .sleep) (aENG_STATUS e) ENG_STATUS.waiting

/-- The request of a line fill leaves, if it can: behind the engine's own stores to the line. -/
def State.fillAsk (s : State) (e line : Nat) : State :=
  if s.lineDue e line then s else (s.engAsk e line (if inWindow line then 0 else 3) (s.ring e)).1

/-- Has a bundle that waits the queue manager's answer, which it keeps while its `STCND` is under way? -/
def Wait.answered : Wait → Bool
  | .queue (some _) => true
  | _ => false

/-- A bundle whose loads are here and whose checks have passed: it waits for room in the buffer, then its conditional store
is made, then it writes. -/
def State.complete (s : State) (e : Nat) (b : Bundle) (ws : List Word) (p : Put) : State :=
  if bufCap e < (s.eng e).buf.length + p.room then s.waitInE e ws
  else match p.cnd with
    | none => s.commitBundle s e b ws p
    | some a => match s.engAsk e a 0 (s.ring e) with
      | (t, .words r) => s.commitBundle (t.condDone e (r.headD 0)) e b ws p
      | (t, .err _ _) => t.raise e { v := 6, x := { slot := some 0, addr := some a } }
      | (t, _) => t.enterWait e ws (if (t.eng e).wait.answered then (t.eng e).wait else .load)

/-! ### Execution -/

/-- The bundle in E goes on as far as it can: at most `n` of its loads are made on the way. A queue operation leaves for the queue
manager (R226). -/
def State.go (e : Nat) (b : Bundle) (ws : List Word) : Nat → State → State
  | 0, s => s
  | n + 1, s => match s.evalBundle e b (s.eng e).got with
    | .ok p _ => s.complete e b ws p
    | .need l => match s.access e l with
      | (t, .word w) => State.go e b ws n (t.setEng e { t.eng e with cur := ws, got := (t.eng e).got ++ [w] })
      | (t, .fault f) => t.raise e f
      | (t, .later (.fill ic line)) => (t.enterWait e ws (.fill ic line)).fillAsk e line
      | (t, .later w) => t.enterWait e ws w
    | .ask k => match (s.enterWait e ws (.queue none)).engAsk e (aQD_BASE k.q) 0 (s.ring e) with
      | (t, .err _ _) => State.go e b ws n (t.setEng e { t.eng e with wait := .queue (some (true, false, [])) })
      | (t, _) => t
    | .fault f => s.raise e f
    | .wait w => s.enterWait e ws w
    | .hold => s.waitInE e ws
    | .brk => (s.settleEng e).setEng e { (s.settleEng e).eng e with dbg := true }

/-- More loads than any bundle makes. -/
def maxLoads : Nat := 32

/-- Can a bundle that is in E go on? -/
def State.goesOn (s : State) (e : Nat) : Bool := s.clocked e && !s.halted e

/-- Can the engine execute: begin a bundle, or go on with one in E that waits for nothing, before any entry that is due? -/
def State.mayRun (s : State) (e : Nat) : Bool :=
  (s.eng e).wait == .none && (s.engRuns e || (!(s.eng e).cur.isEmpty && s.goesOn e)) && !s.entryDue e

/-- Engine `e` has the words of a bundle up to one that is not cached: it waits, and asks for that one. -/
def State.waitCode (s : State) (e : Nat) (ws : List Word) : State :=
  let t := s.setEng e { s.eng e with wait := .code, got := ws }
  (t.engAsk e (((t.eng e).pc + 4 * ws.length) % 2 ^ 32) 0 (t.ring e)).1

/-- A Newt's fetch ends in an exception: correctable errors in the words that it read are met (R132). -/
def State.fetchCe (s : State) (e : Nat) : State :=
  if isNewt e && (s.eng e).cur.isEmpty then s.countCes e (s.fetchReads e (s.eng e).pc) else s

/-- Execute the bundle at the PC of engine `e` if it holds what `p` asks for; one that cannot be fetched or decoded raises its
exception (R173), and an I-cache miss starts a line fill. -/
def State.runOp (s : State) (e : Nat) (p : Bundle → Bool) : State :=
  if !s.mayRun e then s
  else match s.fetch e with
    | (t, .words ws) => match decodeBundle (isNewt e) ws with
      | .ok b => if p b then State.go e b ws maxLoads (t.beginCe e b ws) else s
      | .error v => (t.fetchCe e).raise e { v := v, early := v == 1 }
    | (t, .fault f) => (t.fetchCe e).raise e f
    | (t, .fill l) => (t.setEng e { t.eng e with wait := .fill true l }).fillAsk e l
    | (t, .remote ws) => t.waitCode e ws
    | (_, .hold) => s

/-- Go on with the bundle in E. -/
def State.resume (s : State) (e : Nat) : State := match decodeBundle (isNewt e) (s.eng e).cur with
  | .ok b => State.go e b (s.eng e).cur maxLoads s
  | .error _ => s

/-- The bundles whose slot of a kind holds an operation. -/
def isA (o : AOp) (b : Bundle) : Bool := (b.a.map (·.op)) == some o
def isX (o : XOp) (y : Bool) (b : Bundle) : Bool := (b.x.map (fun k => (k.op, k.y))) == some (o, y)
def isC (p : COp → Bool) (b : Bundle) : Bool := (b.c.map p).getD false

/-- A bundle with an A-slot operation is executed. -/
def State.runA (s : State) (e : Eng) (o : AOp) : Host.Outcome State Fault Refusal := fin s (s.runOp e (isA o))

/-- A bundle with an X-slot operation is executed. -/
def State.runX (s : State) (e : Eng) (o : XOp) (y : Bool) : Host.Outcome State Fault Refusal := fin s (s.runOp e (isX o y))

/-- A bundle with a C-slot operation is executed. -/
def State.runC (s : State) (e : Eng) (p : COp → Bool) : Host.Outcome State Fault Refusal := fin s (s.runOp e (isC p))

/-! ### What ends a wait -/

/-- What the bundle in E comes to with the words that its loads have returned. -/
def State.asked (s : State) (e : Nat) : Ev Put := match decodeBundle (isNewt e) (s.eng e).cur with
  | .ok b => s.evalBundle e b (s.eng e).got
  | .error _ => .hold

/-- The words of a bundle are here, but for those that still come through a Swimlink window. -/
def State.codeHere (s : State) (e : Nat) : Fetched → State
  | .words ws => s.setEng e { s.eng e with wait := .none, cur := ws, got := [] }
  | .fault f => s.raise e f
  | .fill l => (s.setEng e { s.eng e with wait := .fill true l, got := [] }).fillAsk e l
  | .remote ws => s.waitCode e ws
  | .hold => s

/-- A word of code that is not cached may be here. -/
def State.codeBack (s : State) (e : Nat) : State :=
  let got := (s.eng e).got
  let a := ((s.eng e).pc + 4 * got.length) % 2 ^ 32
  match s.engAsk e a 0 (s.ring e) with
  | (t, .words ws) =>
    if ended ws then t.codeHere e (.words (got ++ ws))
    else (t.fetchSk e (5 - got.length) ((a + 4) % 2 ^ 32) (got ++ ws)).1.codeHere e
      (t.fetchSk e (5 - got.length) ((a + 4) % 2 ^ 32) (got ++ ws)).2
  | (t, .err _ ue) => t.raise e (if ue then { v := 8, early := true } else { v := 6, x := { addr := some a } })
  | (t, _) => t

/-- FAR_LOAD_RESPONSE: the response to a load or a `STCND` is here, to the read of a vector's entry word, or to a fetch that is not
cached. -/
def execFarLoadResponse (e : Eng) (s : State) : Host.Outcome State Fault Refusal :=
  fin s (if !s.goesOn e then s
    else match (s.eng e).wait with
      | .load => (s.setEng e { s.eng e with wait := .none }).resume e
      | .code => s.codeBack e
      | .entry v iel x lic => s.takeVec e v iel x lic
      | .spill v => s.enterSpillFault e v
      | .queue (some _) => s.resume e
      | _ => s)

/-- WAITEV_WAKE: a selected flag is 1 (R229). -/
def execWaitevWake (e : Eng) (s : State) : Host.Outcome State Fault Refusal :=
  fin s (if (s.eng e).wait == .sleep && s.engRuns e then s.resume e else s)

/-- FENCE_COMPLETE. -/
def execFenceComplete (e : Eng) (s : State) : Host.Outcome State Fault Refusal :=
  fin s (if (s.eng e).wait == .fence && s.goesOn e then s.resume e else s)

/-- QUEUE_RESPONSE: the queue manager's answer is here, or the error response of an operation that it lost in a reset (R359); an operation
that found no room in its FIFO leaves now. -/
def execQueueResponse (e : Eng) (s : State) : Host.Outcome State Fault Refusal :=
  fin s (if !s.goesOn e then s
    else match (s.eng e).wait with
      | .queue (some _) => s.resume e
      | .queue none => if (s.eng e).reply = .due then s else s.resume e
      | _ => s)

/-! ### Line fills (R167) -/

/-- A fill cannot be had: vector 8 or 6 of a fetch, the exception of the load of a data line. An uncorrectable word of the line raises
it wherever it stands in the line (DESIGN CHOICE, log 46: R173 speaks of the syllables of the bundle). -/
def State.fillFault (s : State) (e : Nat) (icache : Bool) (a : Nat) (ue : Bool) : State :=
  if icache then s.raise e (if ue then { v := 8, early := true } else { v := 6, x := { addr := some a } })
  else match s.asked e with
    | .need l => s.raise e (loadFault l ue)
    | _ => s

/-- A line is here. -/
def State.fillDone (s : State) (e : Nat) (icache : Bool) (line : Nat) (ws : List Word) : State :=
  let t := s.lineIn e icache line ws
  t.setEng e { t.eng e with wait := .none, reply := .none, part := [] }

/-- A line in a Swimlink window comes word by word. -/
def State.fillRemote (s : State) (e : Nat) (icache : Bool) (line : Nat) : State :=
  let ws := (s.eng e).part
  match s.engAsk e (line + 4 * ws.length) 0 (s.ring e) with
  | (t, .words w) =>
    if ws.length = 15 then t.fillDone e icache line (ws ++ w)
    else
      let u := t.setEng e { t.eng e with part := ws ++ w }
      (u.engAsk e (line + 4 * (ws.length + 1)) 0 (u.ring e)).1
  | (t, .err a ue) => (t.setEng e { t.eng e with part := [] }).fillFault e icache a ue
  | (t, _) => t

/-- CACHE_LINE_FILL: the line that a Skink waits for is here, and what it drives out has room in the buffer; a request that has not
left goes now. -/
def execCacheLineFill (p : Fin 2) (s : State) : Host.Outcome State Fault Refusal :=
  let e := 256 + p.val
  fin s (match (s.eng e).wait with
    | .fill ic line =>
      if !s.goesOn e || s.lineDue e line || !s.lineRoom e ic line then s
      else if inWindow line then s.fillRemote e ic line
      else match s.engAsk e line 3 (s.ring e) with
        | (t, .words ws) => t.fillDone e ic line ws
        | (t, .err a ue) => t.fillFault e ic a ue
        | (t, _) => t
    | _ => s)

end Sys2Proof.Machine
end

