-- ==== Sys2Proof/Machine/FarStore.lean ====
section
/-!
DEFINITION. What crosses between islands: stores out of the far-store buffer (R154, R233, R324), every transfer through a handshake FIFO
(R16 to R18) to its target, and imprecise store faults (R156).
-/

namespace Sys2Proof.Machine

/-! ### Out of the buffer -/

/-- A far write that is to be acknowledged is counted (R157). -/
def State.countStore (s : State) (e a : Nat) : State :=
  let x := s.eng e
  s.setEng e { x with acks := x.acks + 1, bankAcks := if inOwnBank e a then x.bankAcks + 1 else x.bankAcks }

/-- The transfer that a buffered store becomes: a store through a window carries the group of its binding, any other the group in
force at the engine's port (R323, R324). -/
def State.xferOf (s : State) (e : Nat) (b : Store) : Xfer :=
  { eng := e, st := b, cg := match b.kind with
      | .near g => s.get g SL_BIND.cg
      | _ => s.rsel e }

/-- A store that hits a line of a Skink's D-cache: the state, and whether it also goes to memory (R165). -/
def State.hitStore (s : State) (e : Nat) (b : Store) : State × Bool :=
  match b.kind, s.cached e b.addr, lineOf (s.eng e).dcache b.addr with
  | .far, some wb, some _ =>
    let x := s.eng e
    let put (l : Line) : Line :=
      { l with words := l.words.set (b.addr % 64 / 4) (mergeStore (l.word b.addr) b), dirty := l.dirty || wb }
    ((s.setEng e { x with dcache := x.dcache.map (fun l => if l.addr = b.addr / 64 * 64 then put l else l) }).touch e false b.addr, !wb)
  | _, _, _ => (s, true)

/-- An entry of the buffer is written into the FIFO of its target's island, if that has room; where the engine's own port refuses it, or
its target's island takes nothing, an error response follows (R21, R554). None: it waits. -/
def State.sendStore (s : State) (e : Nat) (b : Store) : Option State :=
  let x := s.xferOf e b
  let t := ((requests x).foldl (fun u y => u.countStore e y.st.addr) s).portSelect e (if b.isNear then 0 else b.addr) b.data
  match s.crossing b.addr with
  | none => some ((requests x).foldl (fun u y => u.nakStore y 0) t)
  | some i =>
    if !s.reach i then some ((requests x).foldl (fun u y => u.nakStore y 1) t)
    else if 8 ≤ (s.fifo (engIsl e) i).length then none
    else some (t.setFifo (engIsl e) i (s.fifo (engIsl e) i ++ [x]))

/-- An arm request leaves once every earlier far write has been acknowledged (R233); an island SYS that takes nothing drops it. -/
def State.sendArm (s : State) (e : Nat) (b : Store) : Option State :=
  if (s.eng e).acks ≠ 0 then none
  else if !s.reach islSYS then some s
  else if 8 ≤ (s.fifo (engIsl e) islSYS).length then none
  else some (s.setFifo (engIsl e) islSYS (s.fifo (engIsl e) islSYS ++ [s.xferOf e b]))

/-- An entry, or the next word of a frame, leaves the buffer, if it can: into a line of the D-cache, or on its way. -/
def State.leave (s : State) (e : Nat) (b : Store) : Option State := match s.hitStore e b with
  | (u, false) => some u
  | (u, true) => u.sendStore e b

/-- The store that leaves next of the entry `b`, and what is left of the entry: a frame leaves word by word. -/
def Store.next (b : Store) : Store × List Store := match b.kind with
  | .frame (w :: ws) => ({ b with kind := .far, data := w }, if ws.isEmpty then [] else [{ b with kind := .frame ws, addr := b.addr + 4 }])
  | _ => (b, [])

/-- The oldest entry of engine `e`'s buffer leaves it, if it can. -/
def State.drain (s : State) (e : Nat) : State := match (s.eng e).buf with
  | [] => s
  | b :: rest =>
    let t := s.setEng e { s.eng e with buf := b.next.2 ++ rest }
    match b.kind with
    | .arm _ => (t.sendArm e b).getD s
    | _ => (t.leave e b.next.1).getD s

/-- Has a failed Newt that is regrown, or waits for that, failed 1 us ago, so that its buffer is discarded (R516)? -/
def State.drainOver (s : State) (e : Nat) : Bool :=
  let x := s.rgClu (e / 16)
  isNewt e && (x.cur.any (fun r => r.k == e % 16 && decide (r.start + 1000 ≤ s.tb)) ||
    x.waiting.any (fun y => y.k == e % 16 && decide (y.tick + 1000 ≤ s.tb)))

/-- FAR_STORE_DRAIN: an operation on a cache in progress goes on with the room that it makes. -/
def execFarStoreDrain (e : Eng) (s : State) : Host.Outcome State Fault Refusal :=
  fin s (if s.clocked e && !s.drainOver e then (s.drain e).opTurn e else s)

/-! ### Delivery (R16, R17, R21, R278, R297) -/

/-- A store through a bound window reaches its register; a slice has still to capture it. -/
def State.windowStore (s : State) (x : Xfer) : State × Acc.Res :=
  let a := x.st.addr
  let n := (a - 0x40100000) / 0x400
  let nn := (a - 0x40380000) / 0x10
  if 0x40100000 ≤ a ∧ a < 0x40110000 then (s.sliceWrite n a x x.st.data, .held)
  else if 0x40380000 ≤ a ∧ a = aWM_THR nn then
    ((s.thrWrite x.eng x.cg nn x.st.data).1, if (s.thrWrite x.eng x.cg nn x.st.data).2 then .err else .ok 0)
  else s.busWrite (reqAt x.eng x.st.ring) a x.st.size x.st.data

/-- The words of a line are written back one after another: the state, and the first that gets an error response. -/
def State.landLine (s : State) (q : Req) : Nat → List Word → State × Option (Nat × Word)
  | _, [] => (s, none)
  | a, w :: ws =>
    let r := s.busWrite q a 0 w
    let u := r.1.landLine q (a + 4) ws
    (u.1, if r.2 = .err then some (a, w) else u.2)

/-- A write reaches its target; one that is not over yet ends later: at a queue port (R364), at the edge of a slice (R278). -/
def State.landWrite (s : State) (x : Xfer) : State :=
  let q := reqAt x.eng x.st.ring
  match x.st.kind with
  | .line ws => match s.carry x (fun t => t.landLine q x.st.addr ws) with
    | (t, none) => t.endXfer x (.ok 0) 0
    | (t, some (a, w)) => t.endXfer { x with st := { x.st with addr := a, data := w } } .err 0
  | .near _ =>
    let r := s.carry x (fun t => t.windowStore x)
    r.1.endXfer x r.2 0
  | _ =>
    let r := s.carry x (fun t => t.busWrite q x.st.addr x.st.size x.st.data)
    r.1.endXfer x r.2 (if s.ueAt x.st.addr && x.st.size != 0 then 2 else 0)

/-- An access `r` of transfer `x` to address `a` ends; none when it has to wait at the head of its FIFO. -/
def State.landed (s : State) (x : Xfer) (a : Nat) (r : State × Acc.Res) : Option State := match r with
  | (_, .held) => none
  | (t, r) => some (t.endXfer x r (if s.ueAt a && decide (0x10000000 ≤ a) then 2 else 0))

/-- A read reaches its target. -/
def State.landRead (s : State) (x : Xfer) : Option State :=
  s.landed x x.st.addr (s.carry x (fun t => t.busRead (reqAt x.eng x.st.ring) x.st.addr x.st.size))

/-- The queue manager takes the operation `k` of engine `e` in ring `ring`, and its answer is on its way; a put waits on a full
backpressure queue (R226 to R228). -/
def State.askQueue (s : State) (e ring : Nat) (k : Ask) : State :=
  let reads := k.op == .get || k.op == .peek
  let put (t : State) (a : Bool × Bool × List Word) : State := t.setEng e { t.eng e with wait := .queue (some a), reply := .none }
  let s' := s.qMeet k.q reads
  if !s.qMay k.q ring || (reads && !s.qSound k.q true) then put s' (true, false, [])
  else match k.op with
    | .put => match s'.qPutFor k.q k.rcd (.eng e) with
      | (t, .stored) => put t (false, false, [])
      | (t, .rejected) => put t (false, true, [])
      | (t, .full) => t
    | .get => match s'.qGet k.q with
      | (t, some ws) => put t (false, false, ws)
      | (t, none) => put t (false, true, [])
    | .peek => match s'.qPeek k.q with
      | some ws => put s' (false, false, ws)
      | none => put s' (false, true, [])
    | .count => put s' (false, false, [BitVec.ofNat 32 (s'.qCount k.q)])

/-- The line that an engine asks for is read at its target. -/
def State.landFill (s : State) (x : Xfer) : Option State := match s.carry x (fun t => t.readLine x.eng 16 x.st.addr []) with
  | (t, .ok ws) => some (t.endOp x.eng (.words ws))
  | (_, .error (_, .held)) => none
  | (t, .error (a, _)) => some (t.endOp x.eng (.err a (s.ueAt a)))

/-- Does an engine wait for a word that it reads for itself: of code, of a vector entry, of a line in a window? -/
def Wait.word : Wait → Bool
  | .code | .entry _ _ _ _ | .spill _ | .fill _ _ => true
  | _ => false

/-- What an engine asks for reaches its target: a line, a word for itself, a queue operation, a load, a reservation, a conditional
store. -/
def State.landOp (s : State) (x : Xfer) : Option State :=
  if x.st.size = 3 then s.landFill x
  else if (s.eng x.eng).wait.word then s.landRead x
  else match (s.eng x.eng).wait, s.asked x.eng with
  | _, .ask k => if s.qInit k.q then none else some (s.askQueue x.eng x.st.ring k)
  | _, .need l => if l.rsv then s.landed x l.addr (s.carry x (fun t => t.loadRsv x.eng l.addr)) else s.landRead x
  | _, .ok p _ => match p.cnd with
    | some a => s.landed x a (s.carry x (fun t => t.condStore x.eng a))
    | none => some (s.endOp x.eng .none)
  | _, _ => some (s.endOp x.eng .none)

/-- The transfer at the head of a FIFO reaches island `dst`; none when it has to wait there. -/
def State.deliverXfer (s : State) (dst : Nat) (x : Xfer) : Option State :=
  if x.st.kind = .stale then some s
  else if !s.alive dst || (x.eng == 322 && !s.dbgOpen 0) then some (s.lostXfer x)
  else if dst = islLNK ∧ inWindow x.st.addr then some ((requests x).foldl State.sendAccess s)
  else match x.st.kind with
    | .arm g => some { s with cc := { s.cc with armReqs := s.cc.armReqs ++ [g] } }
    | .feed _ _ _ => some (s.feedWord x.st.addr x.st.data)
    | .op => s.landOp x
    | .dmaRead _ | .cmd false | .remote false _ _ => s.landRead x
    | _ => some (s.landWrite x)

/-- The xSPI port whose window transfer `x` reads. -/
def xspiPort (x : Xfer) : Option Nat := if inXspi x.st.addr && x.reads then some ((x.st.addr - 0x80000000) / 0x20000000) else none

/-- A read of an xSPI window has been served, or waits (R450). -/
def State.xspiAfter (s : State) (src : Nat) (x : Xfer) : State := match xspiPort x with
  | some p => s.xspiServed p src
  | none => s
def State.xspiWaits (s : State) (src : Nat) (x : Xfer) : State := match xspiPort x with
  | some p => if s.xspiBusy p then s.xspiHeld p src else s
  | none => s

/-- HANDSHAKE_FIFO_DELIVERY: a relocking clutch leaves its FIFOs as they are (R21). -/
def execHandshakeFifoDelivery (src dst : Fin 26) (s : State) : Host.Outcome State Fault Refusal :=
  fin s (match s.fifo src dst with
    | [] => s
    | x :: rest => if s.held dst || (s.alive dst && s.initAt x.st.addr) then s
      else ((((s.setFifo src dst rest).deliverXfer dst x).map (fun t => t.xspiAfter src x)).getD (s.xspiWaits src x)).dmaMore)

/-! ### Imprecise store faults -/

/-- An error response is recorded, or counted while one is recorded already. -/
def State.recordFault (s : State) (e : Nat) (r : StoreErr) : State :=
  let a := aFAR_STAT e
  if s.on a FAR_STAT.valid then s.incSat a FAR_STAT.ovf_count
  else (((((((s.setReg (aFAR_ADDR e) (BitVec.ofNat 32 r.addr)).setReg (aFAR_DATA e) r.data).set a FAR_STAT.valid 1).set a
    FAR_STAT.size (2 - r.size)).set a FAR_STAT.cause r.cause).set a FAR_STAT.ring r.ring).pendVec e 10)

/-- IMPRECISE_STORE_FAULT: a Newt whose clock is stopped holds its state (R22). -/
def execImpreciseStoreFault (e : Eng) (s : State) : Host.Outcome State Fault Refusal :=
  .next (if !s.clocked e then s else match (s.eng e).errs with
    | [] => s
    | r :: rest =>
      let x := s.eng e
      (s.setEng e { x with errs := rest, acks := x.acks - 1, bankAcks := if inOwnBank e r.addr then x.bankAcks - 1 else x.bankAcks })
        |>.recordFault e r)

end Sys2Proof.Machine
end

