-- ==== Sys2Proof/Machine/Arith.lean ====
section
/-!
DEFINITION. Integer and fixed-point instructions (R193 to R199): one meaning for each, which executes the bundle in E that holds it.
-/

namespace Sys2Proof.Machine

/-- ADD. -/
def execAdd (e : Eng) (s : State) : Host.Outcome State Fault Refusal := s.runA e .add
/-- SUB. -/
def execSub (e : Eng) (s : State) : Host.Outcome State Fault Refusal := s.runA e .sub
/-- CMP. -/
def execCmp (e : Eng) (s : State) : Host.Outcome State Fault Refusal := s.runA e .cmp
/-- AND. -/
def execAnd (e : Eng) (s : State) : Host.Outcome State Fault Refusal := s.runA e .and_
/-- OR. -/
def execOr (e : Eng) (s : State) : Host.Outcome State Fault Refusal := s.runA e .or_
/-- XOR. -/
def execXor (e : Eng) (s : State) : Host.Outcome State Fault Refusal := s.runA e .xor_
/-- SHL. -/
def execShl (e : Eng) (s : State) : Host.Outcome State Fault Refusal := s.runA e .shl
/-- SHR. -/
def execShr (e : Eng) (s : State) : Host.Outcome State Fault Refusal := s.runA e .shr
/-- ASR. -/
def execAsr (e : Eng) (s : State) : Host.Outcome State Fault Refusal := s.runA e .asr
/-- MUL. -/
def execMul (e : Eng) (s : State) : Host.Outcome State Fault Refusal := s.runA e .mul
/-- MULU. -/
def execMulu (e : Eng) (s : State) : Host.Outcome State Fault Refusal := s.runA e .mulu
/-- MAC. -/
def execMac (e : Eng) (s : State) : Host.Outcome State Fault Refusal := s.runA e .mac
/-- MACS. -/
def execMacs (e : Eng) (s : State) : Host.Outcome State Fault Refusal := s.runA e .macs
/-- DIV. -/
def execDiv (e : Eng) (s : State) : Host.Outcome State Fault Refusal := s.runA e .div
/-- DIVU. -/
def execDivu (e : Eng) (s : State) : Host.Outcome State Fault Refusal := s.runA e .divu
/-- REM. -/
def execRem (e : Eng) (s : State) : Host.Outcome State Fault Refusal := s.runA e .rem
/-- ABS. -/
def execAbs (e : Eng) (s : State) : Host.Outcome State Fault Refusal := s.runA e .abs
/-- NEG. -/
def execNeg (e : Eng) (s : State) : Host.Outcome State Fault Refusal := s.runA e .neg
/-- SAT. -/
def execSat (e : Eng) (s : State) : Host.Outcome State Fault Refusal := s.runA e .sat
/-- CLAMP. -/
def execClamp (e : Eng) (s : State) : Host.Outcome State Fault Refusal := s.runA e .clamp

end Sys2Proof.Machine
end

