-- ==== Sys2Proof/Machine/Capture.lean ====
section
/-!
DEFINITION. Slices and stagger groups capture the writes that have reached them (R275, R278, R292, R295).
-/

namespace Sys2Proof.Machine

/-- SLICE_WRITE_CAPTURE: slice `n` captures the next of its writes at the edge after the tick it arrived in; the write governs from the
tick after that edge (R278), and only then is it acknowledged (R347). -/
def execSliceWriteCapture (n : Fin 64) (s : State) : Host.Outcome State Fault Refusal :=
  fin s (match (s.slice n).nextWrite n with
    | some w =>
      if s.captures n (w.arrive + 2) then
        let t := s.setSlice n { s.slice n with writes := (s.slice n).writes.erase w }
        let r := t.captureWrite n w (w.arrive + 2)
        r.1.endXfer w.xfer (if r.2 then .err else .ok 0) 0
      else s
    | none => s)

/-- A write in the order in which writes captured at one edge land, behind those of earlier edges (R292). -/
def insStg (w : SWrite) : List SWrite → List SWrite
  | [] => [w]
  | x :: xs => if w.arrive < x.arrive || (w.arrive == x.arrive && decide (writeRank w.xfer.eng < writeRank x.xfer.eng)) then w :: x :: xs
    else x :: insStg w xs

/-- A write to STG_CFG or STG_PER is captured; one that finds TIM0 taking nothing is lost (R21). -/
def State.takeStg (s : State) (w : SWrite) : State :=
  if s.alive (islTIM 0) then
    let r := s.captureStg w (w.arrive + 2)
    r.1.endXfer w.xfer (if r.2 then .err else .ok 0) 0
  else s.lostXfer w.xfer

/-- The writes to STG_CFG and STG_PER that govern by now are captured. -/
def State.stgCaptures (s : State) : State :=
  let due (w : SWrite) : Bool := decide (w.arrive + 2 ≤ s.tb)
  ((s.pwm.stg.filter due).foldr insStg []).foldl State.takeStg
    { s with pwm := { s.pwm with stg := s.pwm.stg.filter (fun w => !due w) } }

end Sys2Proof.Machine
end

