-- ==== Sys2Proof/Machine/Control.lean ====
section
/-!
DEFINITION. Branches, calls, loops, waits, queue instructions, commits, fences, gates, returns and traps (R216 to R240): one meaning
for each instruction, which executes the bundle in E that holds it.
-/

namespace Sys2Proof.Machine

/-! ### Which C syllable it is -/

def COp.isBr (k : Cond) : COp → Bool
  | .br j _ => j == k
  | _ => false
def COp.isCall : COp → Bool
  | .call _ => true
  | _ => false
def COp.isLoop : COp → Bool
  | .loop _ _ _ _ => true
  | _ => false
def COp.isWaitev : COp → Bool
  | .waitev _ => true
  | _ => false
def COp.isQueue (k : QOp) : COp → Bool
  | .queue j _ _ => j == k
  | _ => false
def COp.isCommit : COp → Bool
  | .commit _ => true
  | _ => false
def COp.isSnap : COp → Bool
  | .snap _ => true
  | _ => false
def COp.isGate : COp → Bool
  | .gate _ => true
  | _ => false
def COp.isCtmode : COp → Bool
  | .ctmode _ => true
  | _ => false
def COp.isTrap : COp → Bool
  | .trap _ => true
  | _ => false
def COp.isBkpt : COp → Bool
  | .bkpt _ => true
  | _ => false

/-! ### The meanings -/

/-- BR. -/
def execBr (e : Eng) (s : State) : Host.Outcome State Fault Refusal := s.runC e (COp.isBr .always)
/-- BZ. -/
def execBz (e : Eng) (s : State) : Host.Outcome State Fault Refusal := s.runC e (COp.isBr .z)
/-- BNZ. -/
def execBnz (e : Eng) (s : State) : Host.Outcome State Fault Refusal := s.runC e (COp.isBr .nz)
/-- BN. -/
def execBn (e : Eng) (s : State) : Host.Outcome State Fault Refusal := s.runC e (COp.isBr .n)
/-- BP. -/
def execBp (e : Eng) (s : State) : Host.Outcome State Fault Refusal := s.runC e (COp.isBr .p)
/-- BC. -/
def execBc (e : Eng) (s : State) : Host.Outcome State Fault Refusal := s.runC e (COp.isBr .c)
/-- BV. -/
def execBv (e : Eng) (s : State) : Host.Outcome State Fault Refusal := s.runC e (COp.isBr .v)
/-- CALL. -/
def execCall (e : Eng) (s : State) : Host.Outcome State Fault Refusal := s.runC e COp.isCall
/-- RET. -/
def execRet (e : Eng) (s : State) : Host.Outcome State Fault Refusal := s.runC e (· == .ret)
/-- LOOP. -/
def execLoop (e : Eng) (s : State) : Host.Outcome State Fault Refusal := s.runC e COp.isLoop
/-- WAITEV. -/
def execWaitev (e : Eng) (s : State) : Host.Outcome State Fault Refusal := s.runC e COp.isWaitev
/-- SIGEV. -/
def execSigev (e : Eng) (s : State) : Host.Outcome State Fault Refusal := s.runC e (· == .sigev)
/-- QPUT. -/
def execQput (e : Eng) (s : State) : Host.Outcome State Fault Refusal := s.runC e (COp.isQueue .put)
/-- QGET. -/
def execQget (e : Eng) (s : State) : Host.Outcome State Fault Refusal := s.runC e (COp.isQueue .get)
/-- QPEEK. -/
def execQpeek (e : Eng) (s : State) : Host.Outcome State Fault Refusal := s.runC e (COp.isQueue .peek)
/-- QCOUNT. -/
def execQcount (e : Eng) (s : State) : Host.Outcome State Fault Refusal := s.runC e (COp.isQueue .count)
/-- COMMIT. -/
def execCommit (e : Eng) (s : State) : Host.Outcome State Fault Refusal := s.runC e COp.isCommit
/-- SNAP. -/
def execSnap (e : Eng) (s : State) : Host.Outcome State Fault Refusal := s.runC e COp.isSnap
/-- FENCE. -/
def execFence (e : Eng) (s : State) : Host.Outcome State Fault Refusal := s.runC e (· == .fence)
/-- ISYNC. -/
def execIsync (e : Eng) (s : State) : Host.Outcome State Fault Refusal := s.runC e (· == .isync)
/-- GATE. -/
def execGate (e : Eng) (s : State) : Host.Outcome State Fault Refusal := s.runC e COp.isGate
/-- GRET. -/
def execGret (e : Eng) (s : State) : Host.Outcome State Fault Refusal := s.runC e (· == .gret)
/-- ERET. -/
def execEret (e : Eng) (s : State) : Host.Outcome State Fault Refusal := s.runC e (· == .eret)
/-- TBRD. -/
def execTbrd (e : Eng) (s : State) : Host.Outcome State Fault Refusal := s.runC e (· == .tbrd)
/-- CTMODE. -/
def execCtmode (e : Eng) (s : State) : Host.Outcome State Fault Refusal := s.runC e COp.isCtmode
/-- TRAP. -/
def execTrap (e : Eng) (s : State) : Host.Outcome State Fault Refusal := s.runC e COp.isTrap
/-- BKPT. -/
def execBkpt (e : Eng) (s : State) : Host.Outcome State Fault Refusal := s.runC e COp.isBkpt

end Sys2Proof.Machine
end

