-- ==== Sys2Proof/Machine/FloatOps.lean ====
section
/-!
DEFINITION. Floating-point instructions (R200 to R206): one meaning for each, which executes the bundle in E that holds it.
-/

namespace Sys2Proof.Machine

/-- FADD. -/
def execFadd (e : Eng) (s : State) : Host.Outcome State Fault Refusal := s.runA e .fadd
/-- FSUB. -/
def execFsub (e : Eng) (s : State) : Host.Outcome State Fault Refusal := s.runA e .fsub
/-- FMUL. -/
def execFmul (e : Eng) (s : State) : Host.Outcome State Fault Refusal := s.runA e .fmul
/-- FMAC. -/
def execFmac (e : Eng) (s : State) : Host.Outcome State Fault Refusal := s.runA e .fmac
/-- FDIV. -/
def execFdiv (e : Eng) (s : State) : Host.Outcome State Fault Refusal := s.runA e .fdiv
/-- FSQRT. -/
def execFsqrt (e : Eng) (s : State) : Host.Outcome State Fault Refusal := s.runA e .fsqrt
/-- FMIN. -/
def execFmin (e : Eng) (s : State) : Host.Outcome State Fault Refusal := s.runA e .fmin
/-- FMAX. -/
def execFmax (e : Eng) (s : State) : Host.Outcome State Fault Refusal := s.runA e .fmax
/-- FCMP. -/
def execFcmp (e : Eng) (s : State) : Host.Outcome State Fault Refusal := s.runA e .fcmp
/-- FCVT_I2F. -/
def execFcvtI2f (e : Eng) (s : State) : Host.Outcome State Fault Refusal := s.runA e .i2f
/-- FCVT_U2F. -/
def execFcvtU2f (e : Eng) (s : State) : Host.Outcome State Fault Refusal := s.runA e .u2f
/-- FCVT_F2I. -/
def execFcvtF2i (e : Eng) (s : State) : Host.Outcome State Fault Refusal := s.runA e .f2i
/-- FCVT_F2U. -/
def execFcvtF2u (e : Eng) (s : State) : Host.Outcome State Fault Refusal := s.runA e .f2u

end Sys2Proof.Machine
end

