-- ==== Sys2Proof/Machine/LoadStore.lean ====
section
/-!
DEFINITION. Loads, stores, moves, index instructions and reservations: one meaning for each instruction, which executes the bundle
in E that holds it (R210 to R215, R221, R222).
-/

namespace Sys2Proof.Machine

/-- LD. -/
def execLd (e : Eng) (s : State) : Host.Outcome State Fault Refusal := s.runA e .ld
/-- ST. -/
def execSt (e : Eng) (s : State) : Host.Outcome State Fault Refusal := s.runA e .st
/-- LDRSV. -/
def execLdrsv (e : Eng) (s : State) : Host.Outcome State Fault Refusal := s.runA e .ldrsv
/-- STCND. -/
def execStcnd (e : Eng) (s : State) : Host.Outcome State Fault Refusal := s.runA e .stcnd
/-- LDX. -/
def execLdx (e : Eng) (s : State) : Host.Outcome State Fault Refusal := s.runX e .ld false
/-- LDY. -/
def execLdy (e : Eng) (s : State) : Host.Outcome State Fault Refusal := s.runX e .ld true
/-- STX. -/
def execStx (e : Eng) (s : State) : Host.Outcome State Fault Refusal := s.runX e .st false
/-- STY. -/
def execSty (e : Eng) (s : State) : Host.Outcome State Fault Refusal := s.runX e .st true
/-- ADDX. -/
def execAddx (e : Eng) (s : State) : Host.Outcome State Fault Refusal := s.runX e .add false
/-- ADDY. -/
def execAddy (e : Eng) (s : State) : Host.Outcome State Fault Refusal := s.runX e .add true
/-- MODX. -/
def execModx (e : Eng) (s : State) : Host.Outcome State Fault Refusal := s.runX e .mod false
/-- MODY. -/
def execMody (e : Eng) (s : State) : Host.Outcome State Fault Refusal := s.runX e .mod true

def isMov (b : Bundle) : Bool := match b.t with
  | some (.mov _ _) => true
  | _ => false

def isBmov (b : Bundle) : Bool := match b.t with
  | some (.bmov _ _ _) => true
  | _ => false

/-- MOV. -/
def execMov (e : Eng) (s : State) : Host.Outcome State Fault Refusal := fin s (s.runOp e isMov)
/-- BMOV: one word of the move at each command. -/
def execBmov (e : Eng) (s : State) : Host.Outcome State Fault Refusal := fin s (s.runOp e isBmov)

end Sys2Proof.Machine
end

