-- ==== Sys2Proof/Machine/Dispatch.lean ====
section
/-!
DEFINITION. The meaning of each command: one arm per constructor.
-/

namespace Sys2Proof.Machine

/-- What a command does to everything but the queue of waiting commands. -/
def exec (i : Instr) (s : State) : Host.Outcome State Fault Refusal :=
  match i with
  | .clutchClkWrite q c w => Sys2Proof.Machine.execClutchClkWrite q c w s
  | .clutchRelockDone c => Sys2Proof.Machine.execClutchRelockDone c s
  | .handshakeFifoDelivery src dst => Sys2Proof.Machine.execHandshakeFifoDelivery src dst s
  | .accessErrorResponse q write a v => Sys2Proof.Machine.execAccessErrorResponse q write a v s
  | .pllLock => Sys2Proof.Machine.execPllLock s
  | .lowWordRead q c => Sys2Proof.Machine.execLowWordRead q c s
  | .sessionIncrement => Sys2Proof.Machine.execSessionIncrement s
  | .tbmarkFire m => Sys2Proof.Machine.execTbmarkFire m s
  | .timebaseJoin masterTb parentIn => Sys2Proof.Machine.execTimebaseJoin masterTb parentIn s
  | .refCfgWrite q w => Sys2Proof.Machine.execRefCfgWrite q w s
  | .vrefSettled g => Sys2Proof.Machine.execVrefSettled g s
  | .sgTriggerTick g => Sys2Proof.Machine.execSgTriggerTick g s
  | .samplingInstant g => Sys2Proof.Machine.execSamplingInstant g s
  | .conversionDone k raw => Sys2Proof.Machine.execConversionDone k raw s
  | .feedWrite sd k => Sys2Proof.Machine.execFeedWrite sd k s
  | .lpBusyEnd k => Sys2Proof.Machine.execLpBusyEnd k s
  | .convFifoPop q k => Sys2Proof.Machine.execConvFifoPop q k s
  | .sdDataResult k bits => Sys2Proof.Machine.execSdDataResult k bits s
  | .sdFastLevelChange k bits => Sys2Proof.Machine.execSdFastLevelChange k bits s
  | .sdStuck k bits => Sys2Proof.Machine.execSdStuck k bits s
  | .wmOutputChange nn low x => Sys2Proof.Machine.execWmOutputChange nn low x s
  | .wmThrWrite q nn w => Sys2Proof.Machine.execWmThrWrite q nn w s
  | .wmEnableSettled nn low x => Sys2Proof.Machine.execWmEnableSettled nn low x s
  | .bwMaxLenExpiry w => Sys2Proof.Machine.execBwMaxLenExpiry w s
  | .fabricActivation k => Sys2Proof.Machine.execFabricActivation k s
  | .swTrig q ix w => Sys2Proof.Machine.execSwTrig q ix w s
  | .ld e => Sys2Proof.Machine.execLd e s
  | .st e => Sys2Proof.Machine.execSt e s
  | .add e => Sys2Proof.Machine.execAdd e s
  | .sub e => Sys2Proof.Machine.execSub e s
  | .cmp e => Sys2Proof.Machine.execCmp e s
  | .and_ e => Sys2Proof.Machine.execAnd e s
  | .or_ e => Sys2Proof.Machine.execOr e s
  | .xor e => Sys2Proof.Machine.execXor e s
  | .shl e => Sys2Proof.Machine.execShl e s
  | .shr e => Sys2Proof.Machine.execShr e s
  | .asr e => Sys2Proof.Machine.execAsr e s
  | .mul e => Sys2Proof.Machine.execMul e s
  | .mulu e => Sys2Proof.Machine.execMulu e s
  | .mac e => Sys2Proof.Machine.execMac e s
  | .macs e => Sys2Proof.Machine.execMacs e s
  | .div e => Sys2Proof.Machine.execDiv e s
  | .divu e => Sys2Proof.Machine.execDivu e s
  | .rem e => Sys2Proof.Machine.execRem e s
  | .abs e => Sys2Proof.Machine.execAbs e s
  | .neg e => Sys2Proof.Machine.execNeg e s
  | .sat e => Sys2Proof.Machine.execSat e s
  | .clamp e => Sys2Proof.Machine.execClamp e s
  | .fadd e => Sys2Proof.Machine.execFadd e s
  | .fsub e => Sys2Proof.Machine.execFsub e s
  | .fmul e => Sys2Proof.Machine.execFmul e s
  | .fmac e => Sys2Proof.Machine.execFmac e s
  | .fdiv e => Sys2Proof.Machine.execFdiv e s
  | .fsqrt e => Sys2Proof.Machine.execFsqrt e s
  | .fmin e => Sys2Proof.Machine.execFmin e s
  | .fmax e => Sys2Proof.Machine.execFmax e s
  | .fcmp e => Sys2Proof.Machine.execFcmp e s
  | .fcvtI2f e => Sys2Proof.Machine.execFcvtI2f e s
  | .fcvtU2f e => Sys2Proof.Machine.execFcvtU2f e s
  | .fcvtF2i e => Sys2Proof.Machine.execFcvtF2i e s
  | .fcvtF2u e => Sys2Proof.Machine.execFcvtF2u e s
  | .ldrsv e => Sys2Proof.Machine.execLdrsv e s
  | .stcnd e => Sys2Proof.Machine.execStcnd e s
  | .reservationExpiry e => Sys2Proof.Machine.execReservationExpiry e s
  | .ldx e => Sys2Proof.Machine.execLdx e s
  | .ldy e => Sys2Proof.Machine.execLdy e s
  | .stx e => Sys2Proof.Machine.execStx e s
  | .sty e => Sys2Proof.Machine.execSty e s
  | .addx e => Sys2Proof.Machine.execAddx e s
  | .addy e => Sys2Proof.Machine.execAddy e s
  | .modx e => Sys2Proof.Machine.execModx e s
  | .mody e => Sys2Proof.Machine.execMody e s
  | .mov e => Sys2Proof.Machine.execMov e s
  | .bmov e => Sys2Proof.Machine.execBmov e s
  | .br e => Sys2Proof.Machine.execBr e s
  | .bz e => Sys2Proof.Machine.execBz e s
  | .bnz e => Sys2Proof.Machine.execBnz e s
  | .bn e => Sys2Proof.Machine.execBn e s
  | .bp e => Sys2Proof.Machine.execBp e s
  | .bc e => Sys2Proof.Machine.execBc e s
  | .bv e => Sys2Proof.Machine.execBv e s
  | .call e => Sys2Proof.Machine.execCall e s
  | .ret e => Sys2Proof.Machine.execRet e s
  | .loop e => Sys2Proof.Machine.execLoop e s
  | .waitev e => Sys2Proof.Machine.execWaitev e s
  | .waitevWake e => Sys2Proof.Machine.execWaitevWake e s
  | .sigev e => Sys2Proof.Machine.execSigev e s
  | .qput e => Sys2Proof.Machine.execQput e s
  | .qget e => Sys2Proof.Machine.execQget e s
  | .qpeek e => Sys2Proof.Machine.execQpeek e s
  | .qcount e => Sys2Proof.Machine.execQcount e s
  | .queueResponse e => Sys2Proof.Machine.execQueueResponse e s
  | .commit e => Sys2Proof.Machine.execCommit e s
  | .snap e => Sys2Proof.Machine.execSnap e s
  | .fence e => Sys2Proof.Machine.execFence e s
  | .fenceComplete e => Sys2Proof.Machine.execFenceComplete e s
  | .isync e => Sys2Proof.Machine.execIsync e s
  | .gate e => Sys2Proof.Machine.execGate e s
  | .gret e => Sys2Proof.Machine.execGret e s
  | .eret e => Sys2Proof.Machine.execEret e s
  | .tbrd e => Sys2Proof.Machine.execTbrd e s
  | .ctmode e => Sys2Proof.Machine.execCtmode e s
  | .trap e => Sys2Proof.Machine.execTrap e s
  | .bkpt e => Sys2Proof.Machine.execBkpt e s
  | .interruptEntry e => Sys2Proof.Machine.execInterruptEntry e s
  | .asyncExceptionEntry e => Sys2Proof.Machine.execAsyncExceptionEntry e s
  | .moderationExpiry e ix => Sys2Proof.Machine.execModerationExpiry e ix s
  | .licSwpWrite q e hiWord w => Sys2Proof.Machine.execLicSwpWrite q e hiWord w s
  | .routeCfgWrite q src w => Sys2Proof.Machine.execRouteCfgWrite q src w s
  | .routerSourceChange src => Sys2Proof.Machine.execRouterSourceChange src s
  | .farLoadResponse e => Sys2Proof.Machine.execFarLoadResponse e s
  | .farStoreDrain e => Sys2Proof.Machine.execFarStoreDrain e s
  | .impreciseStoreFault e => Sys2Proof.Machine.execImpreciseStoreFault e s
  | .wdtKick q n w => Sys2Proof.Machine.execWdtKick q n w s
  | .wdtExpiry n => Sys2Proof.Machine.execWdtExpiry n s
  | .newtRunStart q n w => Sys2Proof.Machine.execNewtRunStart q n w s
  | .newtRunStop q n w => Sys2Proof.Machine.execNewtRunStop q n w s
  | .cacheInvalidate p w => Sys2Proof.Machine.execCacheInvalidate p w s
  | .cacheClean p w => Sys2Proof.Machine.execCacheClean p w s
  | .cacheCleanInvalidate p w => Sys2Proof.Machine.execCacheCleanInvalidate p w s
  | .cacheLineFill p => Sys2Proof.Machine.execCacheLineFill p s
  | .sliceWriteCapture n => Sys2Proof.Machine.execSliceWriteCapture n s
  | .sliceZero n => Sys2Proof.Machine.execSliceZero n s
  | .slicePeriod n => Sys2Proof.Machine.execSlicePeriod n s
  | .compareMatch n c => Sys2Proof.Machine.execCompareMatch n c s
  | .edgeListEntry n outB j => Sys2Proof.Machine.execEdgeListEntry n outB j s
  | .swSync q n w => Sys2Proof.Machine.execSwSync q n w s
  | .sliceSync n => Sys2Proof.Machine.execSliceSync n s
  | .swStart q n w => Sys2Proof.Machine.execSwStart q n w s
  | .sliceStart n => Sys2Proof.Machine.execSliceStart n s
  | .sliceRunStart n => Sys2Proof.Machine.execSliceRunStart n s
  | .sliceStop n => Sys2Proof.Machine.execSliceStop n s
  | .fineDelayRecal => Sys2Proof.Machine.execFineDelayRecal s
  | .tripStateSet z => Sys2Proof.Machine.execTripStateSet z s
  | .trippedWrite q z w => Sys2Proof.Machine.execTrippedWrite q z w s
  | .tripinChange ix high since => Sys2Proof.Machine.execTripinChange ix high since s
  | .safenLow => Sys2Proof.Machine.execSafenLow s
  | .safeRelease q w safenHigh => Sys2Proof.Machine.execSafeRelease q w safenHigh s
  | .tripClr q w => Sys2Proof.Machine.execTripClr q w s
  | .capture c => Sys2Proof.Machine.execCapture c s
  | .capLoRead q c => Sys2Proof.Machine.execCapLoRead q c s
  | .cgArm q g w => Sys2Proof.Machine.execCgArm q g w s
  | .cgCancel q g w => Sys2Proof.Machine.execCgCancel q g w s
  | .armRequestArrival g => Sys2Proof.Machine.execArmRequestArrival g s
  | .stagedWrite q a w => Sys2Proof.Machine.execStagedWrite q a w s
  | .ccRselWrite q r w => Sys2Proof.Machine.execCcRselWrite q r w s
  | .ccSrdRead q => Sys2Proof.Machine.execCcSrdRead q s
  | .commitApply g => Sys2Proof.Machine.execCommitApply g s
  | .pageRefreshDone c p => Sys2Proof.Machine.execPageRefreshDone c p s
  | .sharedCommitMessage l p m => Sys2Proof.Machine.execSharedCommitMessage l p m s
  | .sharedCommitAbsent g => Sys2Proof.Machine.execSharedCommitAbsent g s
  | .snapshot u => Sys2Proof.Machine.execSnapshot u s
  | .snapshotComplete u => Sys2Proof.Machine.execSnapshotComplete u s
  | .portPutWord q d j w => Sys2Proof.Machine.execPortPutWord q d j w s
  | .portPutAppend q d w => Sys2Proof.Machine.execPortPutAppend q d w s
  | .portGet q d => Sys2Proof.Machine.execPortGet q d s
  | .portPeek q d => Sys2Proof.Machine.execPortPeek q d s
  | .portCount q d => Sys2Proof.Machine.execPortCount q d s
  | .portPutTimeout q => Sys2Proof.Machine.execPortPutTimeout q s
  | .queueEnable q d w => Sys2Proof.Machine.execQueueEnable q d w s
  | .queueDisable q d w => Sys2Proof.Machine.execQueueDisable q d w s
  | .qmInitDone => Sys2Proof.Machine.execQmInitDone s
  | .dmaStart q ch w => Sys2Proof.Machine.execDmaStart q ch w s
  | .dmaAbort q ch w => Sys2Proof.Machine.execDmaAbort q ch w s
  | .dmaTdFetch ch => Sys2Proof.Machine.execDmaTdFetch ch s
  | .dmaBurstGrant => Sys2Proof.Machine.execDmaBurstGrant s
  | .dmaReadResponse ch => Sys2Proof.Machine.execDmaReadResponse ch s
  | .dmaCompletion ch => Sys2Proof.Machine.execDmaCompletion ch s
  | .dmaLateError ch => Sys2Proof.Machine.execDmaLateError ch s
  | .frLockGained p => Sys2Proof.Machine.execFrLockGained p s
  | .frLockLost p => Sys2Proof.Machine.execFrLockLost p s
  | .frFaultReceived p node => Sys2Proof.Machine.execFrFaultReceived p node s
  | .frEnum q p w => Sys2Proof.Machine.execFrEnum q p w s
  | .frEnumReturn p hop dr => Sys2Proof.Machine.execFrEnumReturn p hop dr s
  | .frEnumTimeout p => Sys2Proof.Machine.execFrEnumTimeout p s
  | .frKick q p w => Sys2Proof.Machine.execFrKick q p w s
  | .frCommandStart p => Sys2Proof.Machine.execFrCommandStart p s
  | .frFrameReceived p f => Sys2Proof.Machine.execFrFrameReceived p f s
  | .frTimeout p => Sys2Proof.Machine.execFrTimeout p s
  | .frCycleStart p => Sys2Proof.Machine.execFrCycleStart p s
  | .frPollDue p ix => Sys2Proof.Machine.execFrPollDue p ix s
  | .frPollTrigger p => Sys2Proof.Machine.execFrPollTrigger p s
  | .swlTrainStart l => Sys2Proof.Machine.execSwlTrainStart l s
  | .swlBlockLock l lane skew => Sys2Proof.Machine.execSwlBlockLock l lane skew s
  | .swlLinkFail l f => Sys2Proof.Machine.execSwlLinkFail l f s
  | .swlIdent l p m => Sys2Proof.Machine.execSwlIdent l p m s
  | .swlRdreq l p => Sys2Proof.Machine.execSwlRdreq l p s
  | .swlWrreq l p => Sys2Proof.Machine.execSwlWrreq l p s
  | .swlRdrsp l p => Sys2Proof.Machine.execSwlRdrsp l p s
  | .swlWrack l p r => Sys2Proof.Machine.execSwlWrack l p r s
  | .swlErrrsp l p => Sys2Proof.Machine.execSwlErrrsp l p s
  | .swlQrec l p => Sys2Proof.Machine.execSwlQrec l p s
  | .swlHb l p m => Sys2Proof.Machine.execSwlHb l p m s
  | .swlRrst l p => Sys2Proof.Machine.execSwlRrst l p s
  | .swlCrd l b => Sys2Proof.Machine.execSwlCrd l b s
  | .swlEvtBlock l a b joined => Sys2Proof.Machine.execSwlEvtBlock l a b joined s
  | .swlImportFire l ev => Sys2Proof.Machine.execSwlImportFire l ev s
  | .swlRequestTimeout => Sys2Proof.Machine.execSwlRequestTimeout s
  | .tsyncExchange l x => Sys2Proof.Machine.execTsyncExchange l x s
  | .hbSend => Sys2Proof.Machine.execHbSend s
  | .partnerLost => Sys2Proof.Machine.execPartnerLost s
  | .holdoverExpiry => Sys2Proof.Machine.execHoldoverExpiry s
  | .tbsyncLost => Sys2Proof.Machine.execTbsyncLost s
  | .masterLost => Sys2Proof.Machine.execMasterLost s
  | .ownerSense level => Sys2Proof.Machine.execOwnerSense level s
  | .noOwnerTimeout => Sys2Proof.Machine.execNoOwnerTimeout s
  | .swlClaim q w => Sys2Proof.Machine.execSwlClaim q w s
  | .swlYield q w => Sys2Proof.Machine.execSwlYield q w s
  | .swlHandoff q w => Sys2Proof.Machine.execSwlHandoff q w s
  | .handoffTick => Sys2Proof.Machine.execHandoffTick s
  | .swlRrstSend q w => Sys2Proof.Machine.execSwlRrstSend q w s
  | .qfwdSend k => Sys2Proof.Machine.execQfwdSend k s
  | .qfwdResend k => Sys2Proof.Machine.execQfwdResend k s
  | .macTxFrame m sfd fine => Sys2Proof.Machine.execMacTxFrame m sfd fine s
  | .macRxFrame m frame fcsOk sfd fine => Sys2Proof.Machine.execMacRxFrame m frame fcsOk sfd fine s
  | .xspiCommand q x w => Sys2Proof.Machine.execXspiCommand q x w s
  | .xspiCommandDone x data => Sys2Proof.Machine.execXspiCommandDone x data s
  | .i2cGo q ix w => Sys2Proof.Machine.execI2cGo q ix w s
  | .i2cTransactionDone ix o => Sys2Proof.Machine.execI2cTransactionDone ix o s
  | .i2cTimeout ix => Sys2Proof.Machine.execI2cTimeout ix s
  | .i2cAddressed ix addr read data taken => Sys2Proof.Machine.execI2cAddressed ix addr read data taken s
  | .dataPush q f w => Sys2Proof.Machine.execDataPush q f w s
  | .dataPop q f => Sys2Proof.Machine.execDataPop q f s
  | .spiWordDone ix w => Sys2Proof.Machine.execSpiWordDone ix w s
  | .csEnd q ix w => Sys2Proof.Machine.execCsEnd q ix w s
  | .uartRxChar ix ch fe pe => Sys2Proof.Machine.execUartRxChar ix ch fe pe s
  | .uartTxChar ix => Sys2Proof.Machine.execUartTxChar ix s
  | .canRxFrame c f sof e => Sys2Proof.Machine.execCanRxFrame c f sof e s
  | .canTxFrame c b sof e => Sys2Proof.Machine.execCanTxFrame c b sof e s
  | .canTxreq q c w => Sys2Proof.Machine.execCanTxreq q c w s
  | .canTxabort q c w => Sys2Proof.Machine.execCanTxabort q c w s
  | .canRxpop q c w => Sys2Proof.Machine.execCanRxpop q c w s
  | .canRecover q c w => Sys2Proof.Machine.execCanRecover q c w s
  | .canBusOff c => Sys2Proof.Machine.execCanBusOff c s
  | .gpioInputChange ix level => Sys2Proof.Machine.execGpioInputChange ix level s
  | .gpioOutputAction ix => Sys2Proof.Machine.execGpioOutputAction ix s
  | .bypass => Sys2Proof.Machine.execBypass s
  | .idcode => Sys2Proof.Machine.execIdcode s
  | .samplePreload bits => Sys2Proof.Machine.execSamplePreload bits s
  | .extest => Sys2Proof.Machine.execExtest s
  | .highz => Sys2Proof.Machine.execHighz s
  | .debugHalt set => Sys2Proof.Machine.execDebugHalt set s
  | .debugResume => Sys2Proof.Machine.execDebugResume s
  | .crossTrigger d => Sys2Proof.Machine.execCrossTrigger d s
  | .powerOn r ns dead => Sys2Proof.Machine.execPowerOn r ns dead s
  | .brownOut vaon ns => Sys2Proof.Machine.execBrownOut vaon ns s
  | .thermalShutdown => Sys2Proof.Machine.execThermalShutdown s
  | .resetnLow ns goesOn => Sys2Proof.Machine.execResetnLow ns goesOn s
  | .refclkLoss xtal => Sys2Proof.Machine.execRefclkLoss xtal s
  | .swRst q w => Sys2Proof.Machine.execSwRst q w s
  | .debugReset => Sys2Proof.Machine.execDebugReset s
  | .resetEnd strap devaddr vio refclk xtal => Sys2Proof.Machine.execResetEnd strap devaddr vio refclk xtal s
  | .trimLoadDone => Sys2Proof.Machine.execTrimLoadDone s
  | .calLoadDone => Sys2Proof.Machine.execCalLoadDone s
  | .pllLockedAll => Sys2Proof.Machine.execPllLockedAll s
  | .islandRelease => Sys2Proof.Machine.execIslandRelease s
  | .memoryInitDone m => Sys2Proof.Machine.execMemoryInitDone m s
  | .blockReady w b => Sys2Proof.Machine.execBlockReady w b s
  | .islRst q w => Sys2Proof.Machine.execIslRst q w s
  | .islIdleDone ix => Sys2Proof.Machine.execIslIdleDone ix s
  | .blkRst q w => Sys2Proof.Machine.execBlkRst q w s
  | .modeReqLull q w => Sys2Proof.Machine.execModeReqLull q w s
  | .modeReqWatch q w => Sys2Proof.Machine.execModeReqWatch q w s
  | .modeReqRun q w => Sys2Proof.Machine.execModeReqRun q w s
  | .modeReqFrost q w => Sys2Proof.Machine.execModeReqFrost q w s
  | .modeReqTripped q w => Sys2Proof.Machine.execModeReqTripped q w s
  | .frostEntryComplete => Sys2Proof.Machine.execFrostEntryComplete s
  | .wake w => Sys2Proof.Machine.execWake w s
  | .sk1Run q w => Sys2Proof.Machine.execSk1Run q w s
  | .thermReading tj => Sys2Proof.Machine.execThermReading tj s
  | .boot => Sys2Proof.Machine.execBoot s
  | .nvmWriteCmd q w => Sys2Proof.Machine.execNvmWriteCmd q w s
  | .nvmPulseDone => Sys2Proof.Machine.execNvmPulseDone s
  | .otpProgram q w => Sys2Proof.Machine.execOtpProgram q w s
  | .otpProgramDone => Sys2Proof.Machine.execOtpProgramDone s
  | .debugUnlock a uart => Sys2Proof.Machine.execDebugUnlock a uart s
  | .relock q w => Sys2Proof.Machine.execRelock q w s
  | .scrubVisit at_ a upset => Sys2Proof.Machine.execScrubVisit at_ a upset s
  | .nvmScrubVisit a upset => Sys2Proof.Machine.execNvmScrubVisit a upset s
  | .pairFailure p cause => Sys2Proof.Machine.execPairFailure p cause s
  | .lockstepSwitch q w => Sys2Proof.Machine.execLockstepSwitch q w s
  | .sysWdtKick q w => Sys2Proof.Machine.execSysWdtKick q w s
  | .sysWdtExpiry => Sys2Proof.Machine.execSysWdtExpiry s
  | .newtFailure n cause => Sys2Proof.Machine.execNewtFailure n cause s
  | .regrowReportFailure q c w => Sys2Proof.Machine.execRegrowReportFailure q c w s
  | .regrowDrainDone c => Sys2Proof.Machine.execRegrowDrainDone c s
  | .regrowCopyDone c => Sys2Proof.Machine.execRegrowCopyDone c s
  | .selfTest q c w => Sys2Proof.Machine.execSelfTest q c w s
  | .selfTestDone c pass => Sys2Proof.Machine.execSelfTestDone c pass s
  | .registerWrite q a w => Sys2Proof.Machine.execRegisterWrite q a w s
  | .blockLockLost l lane => Sys2Proof.Machine.execBlockLockLost l lane s
  | .railGood r brown => Sys2Proof.Machine.execRailGood r brown s
  | .refclkReturn xtal => Sys2Proof.Machine.execRefclkReturn xtal s
  | .thermalShutdownRelease => Sys2Proof.Machine.execThermalShutdownRelease s
  | .frCfgEnWrite q p w => Sys2Proof.Machine.execFrCfgEnWrite q p w s
  | .swlCfgEnWrite q l w => Sys2Proof.Machine.execSwlCfgEnWrite q l w s
  | .jtagClamp => Sys2Proof.Machine.execJtagClamp s
  | .ethernetLinkChange m up => Sys2Proof.Machine.execEthernetLinkChange m up s
  | .busOffRecoveryDone c => Sys2Proof.Machine.execBusOffRecoveryDone c s
  | .i2cStopSeen ix data taken => Sys2Proof.Machine.execI2cStopSeen ix data taken s

end Sys2Proof.Machine
end

