-- ==== Sys2Proof/Machine/Pins.lean ====
section
/-!
DEFINITION. What the device does at every signal ball: the states of RESET and after it (R463), the power-loss clamp and unpowered banks
(R533, R534), boundary scan (R443, R455).
-/

namespace Sys2Proof.Machine

/-- A ball that is driven to a level. -/
def drive (b : Bool) : Drive := if b then .high else .low

/-- An open-drain ball, asserted or not. -/
def openDrain (b : Bool) : Drive := if b then .low else .z

/-- The ball of a function that starts at the release of island `i` and is configured or not: until then the weak pull-up (R463). -/
def State.usedPin (s : State) (i : Nat) (on : Bool) : Drive := if s.mode != .reset && s.alive i && on then .signal else .pullUp

/-- XSPI0 and an enabled XSPI1 keep the chip selects high and SCK low while nothing runs (R463). -/
def State.xspiPins (s : State) (x : Nat) : Bool :=
  s.mode != .reset && s.alive islLNK && (x == 0 || s.on (aXSPI_CFG x) XSPI_CFG.en)

/-- The balls of XSPI port `x` that `mine` names for a command that runs on its chip select; at rest they hold `rest`. -/
def State.xspiPin (s : State) (x : Nat) (mine : Nat → Bool) (rest : Drive) : Drive :=
  if !s.xspiPins x then .pullUp
  else if (s.xspiCmd x).any (fun c => mine (getBits c.cmd XSPI_CCTL.cs)) then .signal else rest

/-- A lane: high-impedance until the LNK release, then in electrical idle unless its port sends (R418, R463). -/
def State.lanePin (s : State) (sends : Bool) : Drive :=
  if s.mode == .reset || !s.alive islLNK then .z else if sends then .signal else .idle

/-- What the device does at a ball by the function of the ball, power and boundary scan aside (R463). What a configured function sends or
receives is `signal`. -/
def State.pinUse (s : State) : Ball → Drive
  | .pwm o => match s.driven o with
    | some l => drive l
    | none => .pullDown
  | .sdc c => if s.mode == .reset || !s.alive islANA then .pullDown else drive (s.sdcLevel c)
  | .tripout j => openDrain (s.tripout j)
  | .faultn => openDrain s.faultLow
  | .rstoutn => drive s.rstoutHigh
  | .ownern => if s.mode == .reset then .pullUp else openDrain (s.on aSWL_OWN SWL_OWN.own)
  | .ain _ | .refclk | .xtal => .z
  | .vref g => if s.vrefDriven g then .signal else .z
  | .swl l => s.lanePin (s.get (aSWL_STATUS l) SWL_STATUS.state != 0)
  | .ethernet m => s.lanePin (s.on (aMAC_CFG m) MAC_CFG.en)
  | .frTx p => if s.mode == .reset || !s.alive islLNK then .pullUp else if s.on (aFR_CFG p) FR_CFG.en then .signal else .low
  | .frRx p => s.usedPin islLNK (s.on (aFR_CFG p) FR_CFG.en)
  | .xspiCs x c => s.xspiPin x (fun n => n == c) .high
  | .xspiSck x => s.xspiPin x (fun _ => true) .low
  | .xspiData x => s.xspiPin x (fun _ => true) .pullUp
  | .serial f => s.usedPin islLNK ((s.reg (serBase f)).getLsbD 31)
  | .can c => s.usedPin islLNK (s.on (aCAN_CFG c) CAN_CFG.en)
  | .gpio i => if s.mode != .reset && s.alive islAON && s.on (aGPIO_CFG i) GPIO_CFG.oe then drive (s.on (aGPIO_CFG i) GPIO_CFG.out) else .pullUp
  | .tbsync => .signal
  | .tripin _ | .sdd _ | .resetn | .safen | .mode | .devaddr | .jtag => .pullUp
  | .test => .pullDown

/-- Does boundary scan cover a ball (R455): every digital signal ball but those of Swimlink, Ethernet, analog and reference? -/
def scanBall : Ball → Bool
  | .swl _ | .ethernet _ | .ain _ | .vref _ | .refclk | .xtal | .tbsync | .jtag => false
  | _ => true

/-- Does the power-loss clamp of a PWM ball act (R533)? -/
def State.clamped (s : State) (b : Ball) : Bool := match b with
  | .pwm _ => s.rst.vcoreLow || s.rst.vaonLow
  | _ => false

/-- Is the bank of a ball a VIO bank that is unpowered (R534)? -/
def State.unpowered (s : State) (b : Ball) : Bool := match ballSupply b with
  | .vio k => s.bankDead k
  | _ => false

/-- What the device does at a ball. In an unpowered VIO bank the ball is high-impedance (R534); the power-loss clamp holds a PWM ball low
(R533); a boundary-scan instruction takes a ball that it covers from its cell, or releases it (R443, R455); otherwise the
function of the ball decides. -/
def State.pin (s : State) (b : Ball) : Drive :=
  if s.unpowered b then .z
  else if s.clamped b then .low
  else match (if scanBall b then s.scanned b else none) with
    | some (some l) => drive l
    | some none => .z
    | none => s.pinUse b

end Sys2Proof.Machine
end

