-- ==== Sys2Proof/Machine/Tick.lean ====
section
/-!
DEFINITION. What time alone does: TB advances (R35), the watchdogs count at its 1,000 ns boundaries (R158, R513), and zero ticks of other timing
islands reach their zones (R19, R304).
-/

namespace Sys2Proof.Machine

/-- How far TB moves in one step of its counter (R35). -/
def State.tickLen (s : State) : Nat := if s.locked then 1 else 40

/-- Newt `n`'s watchdog counts down by 1. -/
def State.wdtDown (s : State) (n : Nat) : State :=
  if s.wdtCounts n then s.set (aWDT_STATUS n) WDT_STATUS.remaining (s.get (aWDT_STATUS n) WDT_STATUS.remaining - 1) else s

/-- The system watchdog counts down by 1. -/
def State.sysWdtDown (s : State) : State :=
  if s.sysWdtCounts then
    s.set aSYS_WDT_STATUS SYS_WDT_STATUS.remaining (s.get aSYS_WDT_STATUS SYS_WDT_STATUS.remaining - 1)
  else s

/-- The watchdogs count a 1,000 ns boundary of TB (R158, R513). -/
def State.wdtBoundary (s : State) : State := ((List.range 256).foldl State.wdtDown s).sysWdtDown

/-- The watchdogs count the boundary that TB reaches as it moves on from `tb`, and, in the first tick after a forward step, once for those
that the step passed (R48). -/
def State.wdtCount (s : State) (tb : Nat) : State :=
  let t := match s.time.steps.find? (fun x => x.2 == tb) with
    | some x => if x.1 / 1000 = x.2 / 1000 then s else s.wdtBoundary
    | none => s
  if tb / 1000 = s.tb / 1000 then t else t.wdtBoundary

/-- One step of the TB counter: the watchdogs count, the writes whose capture edge it is are captured, and zero ticks arrive at the zones
of other islands, and the entry to FROST goes on (R480). -/
def State.tick (s : State) : State :=
  settle s ((({ s with tb := s.tb + s.tickLen }).wdtCount s.tb).stgCaptures).zeroArrivals.frostEntry

end Sys2Proof.Machine
end

