-- ==== Sys2Proof/Safety.lean ====
section
/-!
DEFINITION. What counts as a safe run: every step answers a next state, and memory and the register file stay in their canonical
form, so that equal contents are equal data. And the words that statements about one command share: the answer an access got, and
what a command leaves as it was.
-/

namespace Sys2Proof.Machine

/-- The canonical form of the register file: addresses strictly rising, no entry at its register's reset word. -/
abbrev Regs.wf (m : SMap Word) : Prop := swf resetWord m = true

/-- Memory and the register file are in their canonical form. -/
def State.Canonical (s : State) : Prop := Memory.wf s.mem ∧ Regs.wf s.regs

/-- `n` steps from `s` are safe: none stops, and every state on the way is canonical. -/
def SafeRun : Nat → State → Prop
  | 0, s => s.Canonical
  | n + 1, s => s.Canonical ∧ ∃ t, step s = .next t ∧ SafeRun n t

/-- The answer that the last access of requester `q` got. -/
def State.respOf (s : State) (q : Req) : Resp := sget {} s.resp (reqNum q)

/-- From `s` to `t` nothing changes among the registers outside `rs`, the engines outside `es` and the bytes of memory outside
the `n` at address `m`; nor do TB, the mode and the waiting commands. -/
structure SameButMem (s t : State) (rs es : List Nat) (m n : Nat) : Prop where
  regs : ∀ a, a ∉ rs → t.reg a = s.reg a
  engs : ∀ e, e ∉ es → t.eng e = s.eng e
  mem : ∀ a, (a < m ∨ m + n ≤ a) → t.byte a = s.byte a
  tb : t.tb = s.tb
  mode : t.mode = s.mode
  pending : t.pending = s.pending

/-- The same, and every byte of memory is as it was. -/
abbrev SameBut (s t : State) (rs es : List Nat) : Prop := SameButMem s t rs es 0 0

/-- The pulses that producer `p`, firing in tick `u`, sends towards the inputs that select it (R103). -/
def State.pulses (s : State) (p u : Nat) : List Edge :=
  (s.selecting p).map (fun i => { input := i, tick := u, producer := p })

/-- Every edge on its way in `s` is on its way in `t`, and producer `p` has fired in tick `u`. -/
def Fires (s t : State) (p u : Nat) : Prop := ∃ l, t.fab.edges = s.fab.edges ++ l ∧ ∀ x ∈ s.pulses p u, x ∈ l

/-- Group `g` takes a write to the word at `a` into its staged copy (R325, R335). -/
structure State.StagesIn (s : State) (g a : Nat) : Prop where
  free : s.stagedAt a = none
  sound : s.on (aCG_STATUS g) CG_STATUS.overflow = false
  room : s.get (aCG_STATUS g) CG_STATUS.staged_cnt < 4096

/-- The word at `b` holds a field of access RWS (R322). -/
def State.StagedWord (s : State) (b : Nat) : Prop := b % 4 = 0 ∧ hasRws (s.busFlds b) = true

/-- Requester `q` may write the staged word at `b`: engine control from ring 0 or 1 of an engine, or from debug (R163); a clutch's pages from
rings 0 and 1; others as their register's rights say. -/
def State.MayStage (s : State) (q : Req) (b : Nat) : Prop :=
  match ctlNewt b with
  | some _ => s.ctlFar q = true
  | none => s.ringOf q ≤ if b < 0x40000000 then 1 else writeCap b

/-- A write of `w` has staged `v` for the word at `b`: its legal RWS fields, over the active ones, which are as they were (R11, R325). -/
structure State.StagedAs (s t : State) (b : Nat) (w v : Word) : Prop where
  staged : ∀ f ∈ fldsAt b, f.acc = .rws → getBits v f = if f.legal (getBits w f) then getBits w f else s.get b f
  active : ∀ f ∈ fldsAt b, f.acc = .rws → t.get b f = s.get b f

/-- A write of `w` to the word at `b` changes none of its direct fields. -/
def State.KeepsDirect (s : State) (b : Nat) (w : Word) : Prop := ∀ f ∈ fldsAt b, f.acc ≠ .rws → getBits w f = s.get b f

/-- The registers that staging the word at `b` in group `g` writes: the group's status and the word's direct fields; for a bank selection
the status of the Newt and the shown mode, for a window that is disabled its status. -/
def stagingRegs (g b : Nat) : List Nat :=
  [aCG_STATUS g, b] ++ (match ctlNewt b with
    | some n => [aENG_STATUS n, aMODE]
    | none => []) ++ if 0x40380800 ≤ b ∧ b < 0x40380900 then [aBW_STATUS ((b - 0x40380800) / 8)] else []

/-- The action of token `k` of slice `n` has taken place: a passed value waits no longer, another has acted in its own tick (R283, R290). -/
def State.ActedOn (s t : State) (n k : Nat) : Prop :=
  if (s.slice n).passed.any (fun p => p.1 == k) then ∀ p ∈ (t.slice n).passed, p.1 ≠ k else k ∈ (t.slice n).acted

/-- The registers that a discarded commit group writes (R336): its status, the dirty bits of its pages, the state of a rebinding that
waited for it, and where its words held a bank selection the status of the Newts and the shown mode. -/
def discardRegs (g : Nat) : List Nat :=
  [aCG_STATUS g, aMODE] ++ (List.range 1024).map pgCfg ++ (List.range 16).map aREGROW_STATUS ++ (List.range 256).map aENG_STATUS

/-! ### Fieldring polls -/

/-- Port `p` can send the poll of entry `e`, due at `due`, to partner `k`: its node is mapped, has no request outstanding or awaiting a
retry, was not polled within 10 µs, the line lets it start within 500 ns, and the bytes that the entry sends lie in system SRAM and hold
no error (R410, R411). -/
structure State.frPolls (s : State) (p e k due : Nat) : Prop where
  mapped : s.partner p (s.get (aFR_SE0 p e) FR_SE0.node) = some k
  quiet : (s.frPort p).busyNode (s.get (aFR_SE0 p e) FR_SE0.node) = false
  apart : sget none (s.frPort p).polled (s.get (aFR_SE0 p e) FR_SE0.node) = none
  source : s.get (aFR_SE0 p e) FR_SE0.len_out = 0 ∨
    inSram (s.get (aFR_SE3 p e) FR_SE3.src * 8) (s.get (aFR_SE0 p e) FR_SE0.len_out) = true ∧
      s.firstUe (s.get (aFR_SE3 p e) FR_SE3.src * 8) (s.get (aFR_SE0 p e) FR_SE0.len_out) = none
  clean : ∀ x ∈ s.ce, x + 4 ≤ s.get (aFR_SE3 p e) FR_SE3.src * 8 ∨
    s.get (aFR_SE3 p e) FR_SE3.src * 8 + s.get (aFR_SE0 p e) FR_SE0.len_out ≤ x
  soon : s.frChar p (max (max due s.tb) (s.frPort p).free) ≤ s.tb + 500

/-- Port `p` has sent that poll: at the boundary after its due time, or late at the first one at which the line was free. -/
def FrPolled (s t : State) (p e k due : Nat) : Prop :=
  let late := decide (s.frChar p due < (s.frPort p).free)
  let b := s.frChar p (max (max due s.tb) (s.frPort p).free)
  let node := s.get (aFR_SE0 p e) FR_SE0.node
  let len := s.get (aFR_SE0 p e) FR_SE0.len_out
  (t.frPort p).outs = (s.frPort p).outs ++ [{
    partner := k, node := node, cls := 2, seq := s.frSeq k 2, tries := 0, rmax := s.get (aFR_SE0 p e) FR_SE0.rmax, ctl := false,
    payload := s.bytesAt (s.get (aFR_SE3 p e) FR_SE3.src * 8) len, tag := e, late := late, te := s.frEnd p b len }] ∧
  (t.frPort p).free = s.frEnd p b len + s.frTans k + (24 + s.get (aFR_SE0 p e) FR_SE0.rmax) * s.frTc p ∧
  t.frSeq k 2 = (s.frSeq k 2 + 1) % 16

/-! ### Swimlink -/

/-- Packets to device `d` leave on port `l`, which is UP (R424). -/
structure State.Routes (s : State) (d l : Nat) : Prop where
  en : s.on (aSWL_ROUTE d) SWL_ROUTE.en = true
  port : s.get (aSWL_ROUTE d) SWL_ROUTE.port = l
  up : s.swlUp l = true

/-- Packet `p` has gone out on port `l`, or waits there for a credit. -/
def State.Sent (s : State) (l : Nat) (p : Pkt) : Prop := (∃ n k, (n, p, k) ∈ (s.swlPort l).replay) ∨ p ∈ (s.swlPort l).waiting

/-- A packet of type `type` arrives on port `l` whole and in order, without a reserved code (R422, R423). -/
structure State.Arrives (s : State) (l type : Nat) (p : SwlPkt) : Prop where
  crc : pktCrcOk p = true
  seq : pktSeq p = (s.swlPort l).rxSeq
  codes : pktCodesOk p = true
  type_ : pktType p = type

/-- Such a packet arrives on a port that is UP, and is for this device. -/
structure State.Takes (s : State) (l type : Nat) (p : SwlPkt) : Prop extends State.Arrives s l type p where
  up : s.swlUp l = true
  mine : pktDst p = s.devaddr

/-- Port `l` has sent this credit block last (R417, R423). -/
def CrdSent (t : State) (l ack : Nat) (nak : Bool) (reqCr rspCr : BitVec 8) : Prop :=
  crdBlk (BitVec.ofNat 8 ack) nak reqCr rspCr ∈ (t.swlPort l).out

/-! ### Resets -/

/-- The registers that the start of a reset writes. -/
def rstRegs : List Nat := [aRSTCAUSE, aRST_TB_LO, aRST_TB_HI, aLOAD_STATUS]

/-- A reset of class POR, or of class SYS, has begun with cause `c` (R459, R460, R462): every engine stops, memory that does not keep
its contents is empty, and every register field that lists the class holds its reset value while the others are as they were. -/
structure BeganReset (s t : State) (por : Bool) (c : Nat) : Prop where
  mode : t.mode = .reset
  active : t.rst.active = true
  class_ : t.rst.por = por
  cause : t.get aRSTCAUSE RSTCAUSE.cause = c
  engs : ∀ e, t.eng e = {}
  mem : ∀ a, t.byte a = if a < 0x10000000 then s.byte a else 0
  kept : ∀ a, a ∉ rstRegs → s.reg a = resetWord a → t.reg a = resetWord a
  regs : ∀ a, a ∉ rstRegs → s.reg a ≠ resetWord a → t.reg a = resetIn (if por then 1 else 2) (fldsAt a) (s.reg a)
  stamp : por = false → t.reg aRST_TB_LO = s.tbLo ∧ t.reg aRST_TB_HI = s.tbHi
  tb : t.tb = s.tb
  pending : t.pending = s.pending

/-- A reset can begin: none is in progress, and nothing is being programmed. -/
structure State.Unreset (s : State) : Prop where
  idle : s.rst.active = false
  pulse : s.nvm.pulse = none
  otp : s.nvm.otp = none
  canonical : s.Canonical

/-- The registers that a change of mode writes: the shown mode and the relocks that it brings (R473, R478, R479). -/
def modeRegs : List Nat := aMODE :: (List.range 16).map aCLUTCH_CLK

/-- From `s` to `t` the mode may change, and with it the shown mode and the clutches' relocks; nothing else changes among the
registers outside `rs`, the engines and memory. -/
structure SameButMode (s t : State) (rs : List Nat) : Prop where
  regs : ∀ a, a ∉ modeRegs → a ∉ rs → t.reg a = s.reg a
  engs : ∀ e, t.eng e = s.eng e
  mem : ∀ a, t.byte a = s.byte a
  tb : t.tb = s.tb
  pending : t.pending = s.pending

/-- The failure of Newt `n` with `cause` is reported (R516): it is failed, out of READY and recorded, and stopped, or stops at the end of
its bundle or once its clock runs. -/
structure State.Reported (s t : State) (n cause : Nat) : Prop where
  failed : t.newtFailed n = true
  ready : t.newtReady n = false
  code : t.get (aREGROW_STATUS (n / 16)) REGROW_STATUS.cause = cause
  newt : t.get (aREGROW_STATUS (n / 16)) REGROW_STATUS.failed_k = n % 16
  halts : s.halted n = true ∨ s.atRest n = true ∧ s.clocked n = true → t.halted n = true
  stops : s.halted n = false → s.atRest n = false ∨ s.clocked n = false → (t.eng n).halting = true

/-- The registers that the report of a failure of Newt `n` may write. -/
def reportRegs (n : Nat) : List Nat :=
  [aENG_STATUS n, aREGROW_FAILED (n / 16), aREGROW_STATUS (n / 16), aREGROW_CFG (n / 16), aREADY (n / 32), aMODE]

/-- The failure of Newt `n` as it waits for its regrow, reported now. -/
def State.failure (s : State) (n cause : Nat) : Failed :=
  { k := n % 16, cause := cause, tick := s.tb, ran := s.on (aENG_CTRL n) ENG_CTRL.run }

/-- Newt `n` is not failed, no spare, and not the spare of a regrow under way. -/
def State.MayFail (s : State) (n : Nat) : Prop :=
  s.newtFailed n = false ∧ s.isSpare (n / 16) (n % 16) = false ∧ ∀ r, (s.rgClu (n / 16)).cur = some r → r.spare ≠ n % 16

/-- Nothing of the serial interface starts or goes on when its FIFOs change: no I2C transaction runs, and SPI and UART are off or shift
a word already. -/
def State.SerQuiet (s : State) : SerialIf → Prop
  | .i2c i => s.on (aI2C_STAT i) I2C_STAT.busy = false ∧ (s.serial i).inb = none
  | .spi i => s.serOn (.spi i) = false ∨ (s.ser (.spi i)).shift.isSome = true
  | .uart u => s.serOn (.uart u) = false ∨ (s.ser (.uart u)).shift.isSome = true

/-! ### Bundles -/

/-- The words `ws` spell the bundle `b` for engine `e`, and nothing around the bundle gets in its way: no loop ends on it, no stop and no
bank swap is due, and the far-store buffer is within its size. -/
structure State.Spells (s : State) (e : Nat) (ws : List Word) (b : Bundle) : Prop where
  decode : decodeBundle (isNewt e) ws = .ok b
  goes : (s.eng e).halting = false
  loop1 : s.loopAt e true = false
  loop0 : s.loopAt e false = false
  bank : isNewt e = true → s.on (aENG_STATUS e) ENG_STATUS.active_bank = s.on (aENG_CTRL e) ENG_CTRL.bank_sel
  buf : (s.eng e).buf.length ≤ bufCap e

/-- The same, and no block move is to be resumed. -/
structure State.Holds (s : State) (e : Nat) (ws : List Word) (b : Bundle) : Prop extends State.Spells s e ws b where
  resume : s.on (aENG_S e) ENG_S.resume = false
  resumePc : (s.eng e).resumePc = none

/-- Engine `e` executes the bundle `b`, which is at its PC or in E: it may run, nothing around the bundle gets in its way, what the
bundle reads holds no correctable error, and a Skink fetches from a line that it used last. The loads that the bundle has made so far have
returned the words `got` of the engine. -/
structure State.Executes (s : State) (e : Nat) (ws : List Word) (b : Bundle) : Prop extends State.Holds s e ws b where
  runs : s.mayRun e = true
  fetch : s.fetch e = (s, .words ws)
  sound : s.beginCe e b ws = s

/-- A transfer that engine `e` takes from the bundle `ws` at its PC kills a bundle whose fetch leaves no trace: nothing in it is
wrong, and a Skink has its lines and used them last (R143). -/
abbrev State.Quiet (s : State) (e : Nat) (ws : List Word) : Prop := s.killed e (((s.eng e).pc + 4 * ws.length) % 2 ^ 32) = s

/-- The bundle `b` of engine `e` is in E and waits in `w`, and the engine can go on. -/
structure State.Waits (s : State) (e : Nat) (w : Wait) (ws : List Word) (b : Bundle) : Prop extends State.Holds s e ws b where
  wait : (s.eng e).wait = w
  cur : (s.eng e).cur = ws
  goesOn : s.goesOn e = true

/-- The request of engine `e` to island `i` can leave: nothing of the bundle is under way, the island takes it, and its FIFO has room
(R16, R18, R21). -/
structure State.CanAsk (s : State) (e i : Nat) : Prop where
  reply : (s.eng e).reply = .none
  reach : s.reach i = true
  room : (s.fifo (engIsl e) i).length < 8

/-- The operand `r` of slot `slot` is the word of the load `l`, which nothing of the engine goes before and no line of its cache holds. -/
structure State.Loads (s : State) (e slot size : Nat) (r : Ref) (l : Load) : Prop where
  need : s.readRef e slot size r [] = .need l
  free : s.ahead e l = .free
  uncached : s.cached e l.addr = none

/-- The word of the load `l` is at hand: the newest buffered store to it holds it, or a line of the D-cache (R155, R165). -/
def State.AtHand (s : State) (e : Nat) (l : Load) (w : Word) : Prop :=
  s.ahead e l = .forward w ∨ s.ahead e l = .free ∧ (s.cached e l.addr).isSome = true ∧
    ∃ x, lineOf (s.eng e).dcache l.addr = some x ∧ w = pick l.addr l.size (x.word l.addr)

/-- Slot `slot` finds the word `w` at its operand `r`: near, in the syllable, brought by a load before, or at hand. -/
def State.Finds (s : State) (e slot size : Nat) (r : Ref) (w : Word) : Prop :=
  (∃ h, s.readRef e slot size r (s.eng e).got = .ok w h) ∨
    (s.eng e).got = [] ∧ ∃ l, s.readRef e slot size r [] = .need l ∧ s.AtHand e l w

/-- The word `w` of the operand `r` is here, so that command `c` goes through the bundle `b`: `op` executes the bundle and finds the word, or
`c` is the response that the bundle in E waits for, and brings it. -/
def State.Supplied (s : State) (e : Eng) (c op : Instr) (ws : List Word) (b : Bundle) (slot size : Nat) (r : Ref) (w : Word) : Prop :=
  c = op ∧ s.Executes e ws b ∧ s.Finds e slot size r w ∨
    c = .farLoadResponse e ∧ s.Waits e .load ws b ∧ (s.eng e).got = [] ∧ (s.eng e).reply = .words [w] ∧ ∃ l, s.Loads e slot size r l

/-- The word that the operand `r` names as a destination lies at `a` in a memory of the engine's clutch, and is written at once: the ring
may write it, and it is no word of a parameter page and not one that a feed has written in this tick. -/
structure State.Stores (s : State) (e : Nat) (r : Ref) (a : Nat) : Prop where
  place : ∃ n, r = .near n ∧ s.place e n = some (.mem a) ∧ s.mayStore e n = true
  plain : pageOf a = none
  unfed : (s.cyc.at s.tb).fed.contains a = false

/-- A store of a word to the destination `r` goes into the far-store buffer, as a store of kind `k` to `a`: of a far operand, of a near
word of a Skink, or of a word of a bound window. -/
structure State.Posts (s : State) (e : Nat) (r : Ref) (k : StoreKind) (a : Nat) : Prop where
  room : (s.eng e).buf.length < bufCap e
  dest : r = .far a ∧ a % 4 = 0 ∧ s.mpuMay e a 1 = true ∧ k = .far ∨
    ∃ n, r = .near n ∧ (s.place e n = some (.global a) ∧ s.mpuMay e a 1 = true ∧ k = .far ∨
      ∃ b, s.place e n = some (.window a b) ∧ s.ring e ≤ 2 ∧ k = .near b)

/-- The entry of the buffer that it is, with the word `v`. -/
def State.posted (s : State) (e : Nat) (k : StoreKind) (a : Nat) (v : Word) : Store :=
  { kind := k, addr := a, data := v, size := 0, ring := s.ring e, rom := s.inRom e }

/-- Nothing but the block move of `n` words stands in the bundle `ws`, its first word or a later one is next, and no transfer is taken
behind it. -/
structure State.Moving (s : State) (e : Nat) (ws : List Word) (df sf : Bool) (n : Nat) : Prop
    extends State.Spells s e ws { t := some (.bmov df sf n), len := ws.length } where
  follows : (s.eng e).resumePc.getD none = none

/-- Engine `e` executes the next word of that move. -/
structure State.Moves (s : State) (e : Nat) (ws : List Word) (df sf : Bool) (n : Nat) : Prop extends State.Moving s e ws df sf n where
  runs : s.mayRun e = true
  fetch : s.fetch e = (s, .words ws)
  sound : s.beginCe e { t := some (.bmov df sf n), len := ws.length } ws = s

/-- Source, destination and count of a block move before its next word: X, Y and the syllable's, or, with resume = 1, TS, TD and TC. -/
def State.moveTs (s : State) (e : Nat) : Word := if s.on (aENG_S e) ENG_S.resume then (s.eng e).ts else (s.eng e).x
def State.moveTd (s : State) (e : Nat) : Word := if s.on (aENG_S e) ENG_S.resume then (s.eng e).td else (s.eng e).y
def State.moveTc (s : State) (e n : Nat) : Word := if s.on (aENG_S e) ENG_S.resume then (s.eng e).tc else BitVec.ofNat 32 n

/-- The next word `w` of that block move is here: `BMOV` finds it, or the response that the bundle in E waits for brings it. -/
def State.MoveSupplied (s : State) (e : Eng) (c : Instr) (ws : List Word) (df sf : Bool) (n : Nat) (w : Word) : Prop :=
  c = .bmov e ∧ s.Moves e ws df sf n ∧ s.Finds e 2 0 (blockRef sf (s.moveTs e)) w ∨
    c = .farLoadResponse e ∧ s.Moving e ws df sf n ∧ (s.eng e).wait = .load ∧ (s.eng e).cur = ws ∧ s.goesOn e = true ∧
      (s.eng e).got = [] ∧ (s.eng e).reply = .words [w] ∧ ∃ l, s.Loads e 2 0 (blockRef sf (s.moveTs e)) l

/-- The transfer that such a request is. -/
def State.askXfer (s : State) (e a size : Nat) : Xfer :=
  { eng := e, st := { kind := .op, addr := a, data := 0, size := size, ring := s.ring e }, cg := s.rsel e }

/-- Nothing goes before a request of engine `e` to island `i`, and both go on: the request can cross and its answer be taken. -/
structure State.Crosses (s : State) (e i : Nat) : Prop where
  reply : (s.eng e).reply = .none
  reach : s.reach i = true
  held : s.held i = false
  first : s.fifo (engIsl e) i = []
  goesOn : s.goesOn e = true

/-- The instruction `c` of engine `e` asks something of island `i`, the request crosses into it, and the answer `r` brings the engine on:
the three commands take `s` to `t`. -/
def AskedAt (s t : State) (e : Eng) (i : Nat) (c r : Instr) : Prop :=
  ∃ u v, exec c s = .next u ∧ exec (.handshakeFifoDelivery (Fin.ofNat 26 (engIsl e)) (Fin.ofNat 26 i)) u = .next v ∧
    exec r v = .next t

/-- The words of gate descriptor `n` are `d` and `w`: they stand in a Newt's operand store without an error, or a Skink's loads have
returned them (R236, R244). -/
def State.GateWords (s : State) (e n : Nat) (d w : Word) : Prop :=
  if isNewt e then s.word (s.gateAt e n) = d ∧ s.word (s.gateAt e n + 4) = w ∧
    ∀ a ∈ [s.gateAt e n, s.gateAt e n + 4], s.ue.contains a = false ∧ s.ce.contains a = false
  else (s.eng e).got = [d, w]

/-- No feed has written the operand-store word at `a` in the present tick (R72). -/
def State.Unfed (s : State) (a : Nat) : Prop := (s.cyc.at s.tb).fed.contains a = false

/-- No word that an operation on queue `d` reads holds an error. -/
def State.QClean (s : State) (d : Nat) : Prop := ∀ a ∈ s.qWords d true, s.ue.contains a = false ∧ s.ce.contains a = false

/-- A write that reaches slice `n` now is captured two ticks later, alone: no other write waits there, no commit is due by then and no
synchronisation or start, and the present period lasts until then (R278, R292). -/
structure State.WriteAlone (s : State) (n : Nat) : Prop where
  writes : (s.slice n).writes = []
  commits : s.commitOwed (s.tb + 1) = false
  acts : ∀ a ∈ s.fab.acts, a.input ≠ 2192 + n ∧ a.input ≠ 3000 + n
  period : (s.slice n).counting = true → s.slMode n ≠ 2 →
    (s.tb + 2 : Int) ≤ if s.stopping n then (s.slice n).endTick (s.slMode n) else s.nextStart n / 128

/-- The same state `k` ticks later, nothing having happened in between. -/
def State.later (s : State) (k : Nat) : State := { s with tb := s.tb + k }

/-- A command access of requester `q` acts at once in island `isl`: the island takes it, and nothing keeps it in a FIFO (R16 to R18). -/
def State.Reaches (s : State) (q : Req) (isl : Nat) : Prop := s.admits q isl = true ∧ s.waits q isl = false

/-- Engine `e` has completed the bundle at its PC and goes on at `next`. -/
structure Completed (s t : State) (e next : Nat) : Prop where
  pc : (t.eng e).pc = next
  cur : (t.eng e).cur = []
  got : (t.eng e).got = []
  wait : (t.eng e).wait = .none
  stack : t.get (aENG_STATUS e) ENG_STATUS.ctx_used = s.get (aENG_STATUS e) ENG_STATUS.ctx_used
  shown : t.get (aENG_STATUS e) ENG_STATUS.pc = (s.eng e).pc % 65536

/-- X or Y after an access by the form `f` (R126, R127). -/
def State.stepped (s : State) (e : Nat) (y : Bool) : Form → Word
  | .post z d => if z = y then s.index e y + BitVec.ofInt 32 d else s.index e y
  | .modulo z => if z = y then s.modStep e y else s.index e y
  | _ => s.index e y

/-- The index register that a form steps: true for Y. -/
def Form.steps : Form → Option Bool
  | .post y _ | .modulo y => some y
  | _ => none

/-- S of engine `e`, its flags with it, is as it was. -/
def SameFlags (s t : State) (e : Nat) : Prop := t.reg (aENG_S e) = s.reg (aENG_S e)

/-- An arithmetic operation of engine `e` has completed with the result `r`: A, E, the flags that it gives and the sticky flags that
it raises; the index register that its form steps; everything else of S, of the engine and of the device is as it was. -/
structure AluDone (s t : State) (e : Nat) (f : Form) (r : ARes) : Prop where
  accA : (t.eng e).a = r.a.getD (s.eng e).a
  accE : (t.eng e).e = r.e.getD (s.eng e).e
  x : (t.eng e).x = s.stepped e false f
  y : (t.eng e).y = s.stepped e true f
  z : t.on (aENG_S e) ENG_S.z = r.z.getD (s.on (aENG_S e) ENG_S.z)
  n : t.on (aENG_S e) ENG_S.n = r.n.getD (s.on (aENG_S e) ENG_S.n)
  c : t.on (aENG_S e) ENG_S.c = r.c.getD (s.on (aENG_S e) ENG_S.c)
  v : t.on (aENG_S e) ENG_S.v = r.v.getD (s.on (aENG_S e) ENG_S.v)
  iv : t.on (aENG_S e) ENG_S.iv = (s.on (aENG_S e) ENG_S.iv || r.raised.iv)
  dz : t.on (aENG_S e) ENG_S.dz = (s.on (aENG_S e) ENG_S.dz || r.raised.dz)
  of : t.on (aENG_S e) ENG_S.of = (s.on (aENG_S e) ENG_S.of || r.raised.of)
  uf : t.on (aENG_S e) ENG_S.uf = (s.on (aENG_S e) ENG_S.uf || r.raised.uf)
  ix : t.on (aENG_S e) ENG_S.ix = (s.on (aENG_S e) ENG_S.ix || r.raised.ix)
  rest : ∀ f ∈ [ENG_S.resume, ENG_S.ct, ENG_S.ring, ENG_S.iel, ENG_S.rm, ENG_S.te_iv, ENG_S.te_dz, ENG_S.te_of, ENG_S.te_uf,
    ENG_S.te_ix], t.get (aENG_S e) f = s.get (aENG_S e) f
  buf : (t.eng e).buf = (s.eng e).buf
  stack : (t.eng e).stack = (s.eng e).stack
  frame : SameBut s t [aENG_S e, aENG_STATUS e] [e]

/-! ### Entries -/

/-- The entry word of vector `v`, as engine `e` reads it when it takes the vector. -/
def State.vecWord (s : State) (e v : Nat) : Word := match ((s.giveWay e).readVec e v).2 with
  | .word w => w
  | _ => 0

/-- Vector `v` can be entered: its entry word is read without an error, from memory or from a line, the context goes to a bank, and no
stop is due. -/
structure State.Enterable (s : State) (e v : Nat) : Prop where
  entry : ((s.giveWay e).readVec e v).2 = .word (s.vecWord e v)
  still : ((s.giveWay e).readVec e v).1 = s.giveWay e ∨ ((s.giveWay e).readVec e v).1 = (s.giveWay e).touch e false (s.vecAddr e v)
  goes : (s.eng e).halting = false
  level : s.get (aENG_STATUS e) ENG_STATUS.ctx_used < 4

/-- Engine `e` has entered vector `v` (R251, R254): the context, the handler's ring and PC, iel (none: as it was), the loop counts, the
reservation, and the bank that bank_sel names; the registers of the engine, the rest of S and the call stack are as they were, and so is
everything outside the registers `rs`, the status, the context bank and, where a bank swap was pending, the shown mode. -/
structure Entered (s t : State) (e v : Nat) (iel : Option Nat) (rs : List Nat) : Prop where
  context : ∀ i, i < 12 → t.reg (aCTX e (s.get (aENG_STATUS e) ENG_STATUS.ctx_used) i) = (s.context e).getD i 0
  used : t.get (aENG_STATUS e) ENG_STATUS.ctx_used = s.get (aENG_STATUS e) ENG_STATUS.ctx_used + 1
  ring : t.ring e = vecRing v (s.vecWord e v)
  iel : t.get (aENG_S e) ENG_S.iel = iel.getD (s.get (aENG_S e) ENG_S.iel)
  resume : t.on (aENG_S e) ENG_S.resume = false
  rest : ∀ f ∈ [ENG_S.z, ENG_S.n, ENG_S.c, ENG_S.v, ENG_S.ct, ENG_S.rm, ENG_S.te_iv, ENG_S.te_dz, ENG_S.te_of, ENG_S.te_uf, ENG_S.te_ix],
    t.get (aENG_S e) f = s.get (aENG_S e) f
  counts : t.reg (aLC0 e) = 0 ∧ t.reg (aLC1 e) = 0
  rsv : (t.eng e).rsv = none ∧ ∀ r ∈ t.rsv.held, r.eng ≠ e
  pc : (t.eng e).pc = vecPc (s.vecWord e v)
  bank : isNewt e = true → t.on (aENG_STATUS e) ENG_STATUS.active_bank = t.on (aENG_CTRL e) ENG_CTRL.bank_sel
  goes : (t.eng e).wait = .none ∧ (t.eng e).cur = []
  regs : (t.eng e).a = (s.eng e).a ∧ (t.eng e).e = (s.eng e).e ∧ (t.eng e).x = (s.eng e).x ∧ (t.eng e).y = (s.eng e).y
  stack : (t.eng e).stack = (s.eng e).stack
  frame : SameBut s t ([aENG_S e, aENG_STATUS e, aLC0 e, aLC1 e] ++
    (List.range 12).map (aCTX e (s.get (aENG_STATUS e) ENG_STATUS.ctx_used)) ++
    (if s.on (aENG_STATUS e) ENG_STATUS.active_bank = s.on (aENG_CTRL e) ENG_CTRL.bank_sel then [] else [aMODE]) ++ rs) [e]

/-- The registers that record an exception. -/
def excRegs (e : Nat) : List Nat := [aEXC_INFO e, aEXC_ADDR e]

/-- Engine `e` has taken the precise exception `v` of slot `slot` (R248, R251). -/
structure Excepted (s t : State) (e v slot : Nat) : Prop extends Entered s t e v (if v = 18 then some 8 else none) (excRegs e) where
  valid : t.on (aEXC_INFO e) EXC_INFO.valid = true
  vector : t.get (aEXC_INFO e) EXC_INFO.vector = v
  from_ : t.get (aEXC_INFO e) EXC_INFO.from_ring = s.ring e
  slot : t.on (aEXC_INFO e) EXC_INFO.slot_valid = true ∧ t.get (aEXC_INFO e) EXC_INFO.slot = slot

end Sys2Proof.Machine
end

