-- ==== Sys2Proof/Certificates/Slice0/Obligations.lean ====
section
/-!
DEFINITION. The statements for the provers, chapter by chapter.
-/

open Sys2Proof Sys2Proof.Machine

/-- A step takes the command at the front of the queue and is that command's effect on the state with the queue's rest. -/
def Obligations.StepIsFrontCommand : Prop :=
  ∀ (c : Instr) (rest : List Instr) (s : State), s.pending = c :: rest → step s = exec c { s with pending := rest }

/-- With no command waiting the block idles for one step of TB: TB advances by 1 while the PLL is locked and by 40 otherwise, and memory,
the mode and the queue are as they were. Where no write to a stagger group reaches its capture edge (R278) and no entry to FROST goes on
(R480), nothing but watchdog counts, and the trip state of zones that a zero tick of another timing island reaches, changes among the
registers and the engines (DESIGN CHOICE, log entry 1). -/
def Obligations.IdleStepAdvancesTime : Prop :=
  ∀ s : State, s.pending = [] → ∃ t, step s = .next t ∧ t.tb = s.tb + (if s.locked then 1 else 40) ∧ t.pending = [] ∧
    (∀ a, t.byte a = s.byte a) ∧ t.mode = s.mode ∧
    ((∀ w ∈ s.pwm.stg, s.tb + (if s.locked then 1 else 40) < w.arrive + 2) → s.rst.stopDue = false →
      (∀ a, a ≠ aSYS_WDT_STATUS → (∀ n, n < 256 → a ≠ aWDT_STATUS n) → (∀ x ∈ s.trip.zeros, a ≠ aTZ_STATUS x.1) →
        t.reg a = s.reg a) ∧ ∀ e, t.eng e = s.eng e)

/-- Every command answers a next state, whatever the state and its operands, and leaves the commands that wait alone. -/
def Obligations.EveryCommandAnswers : Prop :=
  ∀ (c : Instr) (s : State), ∃ t, exec c s = .next t ∧ t.pending = s.pending

/-- Every step keeps memory and the register file in their canonical form. -/
def Obligations.EveryStepKeepsCanonical : Prop :=
  ∀ s t : State, s.Canonical → step s = .next t → t.Canonical

/-- R34: only the end of a power-on reset returns TB to 0. Every other end of a reset and every other command leaves TB at least where it
was, and only a join of the shared timebase moves it; and no command writes TB. -/
def Obligations.OnlyPorReturnsTb : Prop :=
  (∀ (c : Instr) (s t : State), exec c s = .next t → s.tb ≤ t.tb ∨ (∃ p d v r x, c = .resetEnd p d v r x ∧ s.rst.por = true ∧ t.tb = 0)) ∧
    (∀ (c : Instr) (s t : State), exec c s = .next t → (∀ p d v r x, c ≠ .resetEnd p d v r x) → (∀ b p, c ≠ .timebaseJoin b p) →
      t.tb = s.tb) ∧
    (∀ s t : State, s.pending = [] → step s = .next t → s.tb < t.tb)

/-- R36: in the step in which counting changes from 40 ns steps to 1 ns ticks, TB keeps the value it has reached; and the PLL's lock makes
that change. -/
def Obligations.TbContinuesAtLock : Prop :=
  (∀ (c : Instr) (s t : State), exec c s = .next t → s.locked = false → t.locked = true → t.tb = s.tb) ∧
    (∀ s : State, s.pllRuns = true → s.locked = false →
      ∃ t, exec .pllLock s = .next t ∧ t.locked = true ∧ t.tb = s.tb ∧ t.tickLen = 1 ∧ s.tickLen = 40)

/-- Crossings and the clutch clock: a write of a valid code to CLUTCH_CLK from ring 0 of an engine or from debug takes it and starts a
relock, one of a reserved code changes nothing, one from another ring or requester is refused and changes nothing, and one to a clutch that
relocks already waits in the handshake FIFO; the relock ends; a store at the head of a handshake FIFO lands in system SRAM and is
acknowledged; an access that nothing takes is answered with an error. R7, R8, R10, R11: a write to one of these registers stores the field
of access RW whose code is legal, clears a field of access W1C where a 1 is written, unless hardware has set it in the same tick, and leaves
a reserved code's and a read-only field as they were; ring 2 or 3 gets an error response. A write to a word of system SRAM stores the word,
and one that the map does not list, or that is not aligned, gets an error response. -/
def Obligations.AccessesAndClutchClock : Prop :=
  ((∀ (q : Req) (c : Fin 16) (w : Word) (s : State), s.waits q (islCLU c) = false → s.admits q (islCLU c) = true →
     coreOrDebug q = true → s.ringOf q = 0 → getBits w CLUTCH_CLK.freq_code ≤ 0x28 →
     ∃ t, exec (.clutchClkWrite q c w) s = .next t ∧
       t.get (aCLUTCH_CLK c) CLUTCH_CLK.freq_code = getBits w CLUTCH_CLK.freq_code ∧ t.relocking c = true ∧
       t.respOf q = { err := false, val := 0 } ∧ SameBut s t [aCLUTCH_CLK c] []) ∧
   (∀ (q : Req) (c : Fin 16) (w : Word) (s : State), s.waits q (islCLU c) = false → s.admits q (islCLU c) = true →
     coreOrDebug q = true → s.ringOf q = 0 → 0x28 < getBits w CLUTCH_CLK.freq_code →
     ∃ t, exec (.clutchClkWrite q c w) s = .next t ∧ t.respOf q = { err := false, val := 0 } ∧ SameBut s t [] []) ∧
   (∀ (q : Req) (c : Fin 16) (w : Word) (s : State), s.waits q (islCLU c) = false → 0 < s.ringOf q ∨ coreOrDebug q = false →
     ∃ t, exec (.clutchClkWrite q c w) s = .next t ∧ t.respOf q = { err := true, val := 0 } ∧ SameBut s t [] []) ∧
   (∀ (q : Req) (c : Fin 16) (w : Word) (s : State), s.admits q (islCLU c) = true → s.waits q (islCLU c) = true →
     ∃ t, exec (.clutchClkWrite q c w) s = .next t ∧
       t.fifo (reqIsl q) (islCLU c) =
         s.fifo (reqIsl q) (islCLU c) ++ [s.accessXfer q true (aCLUTCH_CLK c) w] ∧ SameBut s t [] []) ∧
   (∀ (c : Fin 16) (s : State), s.relocking c = true → s.cc.relockWords = [] → s.cc.relockPages = [] → s.mode ≠ .watch →
     (∀ n ∈ newtsOf c, (s.eng n).halting = false) →
     ∃ t, exec (.clutchRelockDone c) s = .next t ∧ t.relocking c = false ∧
       t.get (aCLUTCH_CLK c) CLUTCH_CLK.freq_code = s.get (aCLUTCH_CLK c) CLUTCH_CLK.freq_code ∧
       SameBut s t [aCLUTCH_CLK c, aMODE] []) ∧
   (∀ (src dst : Fin 26) (x : Xfer) (rest : List Xfer) (s : State), s.fifo src dst = x :: rest → dst.val = islSYS →
     s.alive islSYS = true → s.initAt x.st.addr = false → x.st.kind = .far → x.st.size = 0 → 0x10000000 ≤ x.st.addr → x.st.addr < 0x107FFFFD →
     x.st.addr % 4 = 0 → x.eng < 258 →
     ∃ t, exec (.handshakeFifoDelivery src dst) s = .next t ∧ t.fifo src dst = rest ∧ t.word x.st.addr = x.st.data ∧
       (t.eng x.eng).acks = (s.eng x.eng).acks - 1 ∧ SameButMem s t [] [x.eng] x.st.addr 4) ∧
   (∀ (q : Req) (write : Bool) (a v : Word) (s : State), s.noAccess q a.toNat = true →
     ∃ t, exec (.accessErrorResponse q write a v) s = .next t ∧ t.respOf q = { err := true, val := 0 } ∧ SameBut s t [] [])) ∧
  ((∀ (q : Req) (a w : Word) (s : State),
     a.toNat ∈ [aECC_DEV, aECC_CFG, aECC_NVM_FIX, aFAULT_CFG, aSYS_WDT_STATUS, aOTP_PADDR, aOTP_PDATA, aNVM_WADDR, aNVM_WDATA, aNVM_STATUS] →
     s.Reaches q (s.islandOf a.toNat) →
     (s.ringOf q = 0 →
       ∃ t, exec (.registerWrite q a w) s = .next t ∧ t.respOf q = { err := false, val := 0 } ∧ SameBut s t [a.toNat] [] ∧
         ∀ f ∈ fldsAt a.toNat,
           (f.acc = .rw → s.hwNow a.toNat = 0 →
             t.get a.toNat f = if f.legal (getBits w f) then getBits w f else s.get a.toNat f) ∧
           (f.acc = .w1c → s.hwNow a.toNat = 0 → t.get a.toNat f = if getBits w f = 0 then s.get a.toNat f else 0) ∧
           (f.acc = .w1c → getBits (s.hwNow a.toNat) f = 2 ^ f.width - 1 → t.get a.toNat f = s.get a.toNat f) ∧
           (f.acc = .ro → t.get a.toNat f = s.get a.toNat f)) ∧
     (1 < s.ringOf q →
       ∃ t, exec (.registerWrite q a w) s = .next t ∧ t.respOf q = { err := true, val := 0 } ∧ SameBut s t [] [])) ∧
   (∀ (q : Req) (a w : Word) (s : State), 0x10000000 ≤ a.toNat → a.toNat < 0x10800000 → a.toNat % 4 = 0 → s.Reaches q islSYS →
     s.initAt a.toNat = false →
     ∃ t, exec (.registerWrite q a w) s = .next t ∧ t.word a.toNat = w ∧ t.respOf q = { err := false, val := 0 } ∧
       (∀ r ∈ t.rsv.held, r.granule ≠ a.toNat / 8) ∧ a.toNat ∉ t.ue ∧ SameButMem s t [] [] a.toNat 4) ∧
   (∀ (q : Req) (a w : Word) (s : State), a.toNat % 4 ≠ 0 ∨ inWindow a.toNat = false ∧ s.target a.toNat = none →
     ∃ t, exec (.registerWrite q a w) s = .next t ∧ t.respOf q = { err := true, val := 0 } ∧ SameBut s t [] []))

/-- What reset leaves (R464, R470): memory and the register file in canonical form with nothing listed but READY word 22, which shows the
AON island alone released, so that every other register holds its table's reset value; the mode BRINGUP, TB 0, no command waiting, every
engine as it is before its start. The reset values that the spec leaves open are the model's own choice (log entry 2). -/
def Obligations.ResetState : Prop :=
  State.reset.Canonical ∧ (∀ a, a ≠ aREADY 22 → State.reset.reg a = resetWord a) ∧
    (∀ i, State.reset.alive i = true ↔ i = islAON) ∧ (∀ a, 0x10000000 ≤ a → State.reset.byte a = 0) ∧
    State.reset.mode = .bringup ∧ State.reset.tb = 0 ∧ State.reset.pending = [] ∧ (∀ g, State.reset.armedOf g = none) ∧
    (∀ e, State.reset.eng e = {})

/-- The timebase's commands: a lock sets pll_locked, the cause bit of every interval that ends and tb_lossy with any of them; the lock of
all PLLs makes the three READY bits 1; a marker whose tick has come and is not a commit's still to be applied sends an edge to every input
that selects it and takes its boundaries; a device behind the master, after 16 exchanges with a parent that has joined or is the master,
steps to the value that their average gives, records the step and has joined; one ahead stays where it is, sets tb_ahead and has not joined.
Two-word reads: a read of the low word of a 64-bit counter answers the low word and latches the high word of the same tick into the
requester's shadow and nobody else's; a read of the high word returns that shadow (R40, R41). A read of a capture register's low word also
marks it read; one in the tick of a capture takes effect before the capture. R44, R493: the session counter's increment is two pulses, of
copy A and then of copy B, and the number is the session's once the second is done; a counter at its end stays there and sets session_full.
The model's choices in it: a value at which a forward step ends counts as passed (log entry 50), and the upper bits of the TB that a joining
device takes (log entry 48). -/
def Obligations.TimebaseAndTwoWordReads : Prop :=
  ((∀ s : State, s.pllRuns = true → s.locked = false →
     ∃ t, exec .pllLock s = .next t ∧ t.locked = true ∧ t.isReady 21 10 = true ∧
       t.on aTB_STATUS TB_STATUS.cause_startup = (s.on aTB_STATUS TB_STATUS.cause_startup || s.time.startup) ∧
       t.on aTB_STATUS TB_STATUS.cause_frost = (s.on aTB_STATUS TB_STATUS.cause_frost || s.time.frost) ∧
       t.on aTB_STATUS TB_STATUS.cause_refclk = (s.on aTB_STATUS TB_STATUS.cause_refclk || s.time.refclk) ∧
       t.on aTB_STATUS TB_STATUS.cause_sys = (s.on aTB_STATUS TB_STATUS.cause_sys || s.time.sys) ∧
       t.on aTB_STATUS TB_STATUS.tb_lossy =
         (s.on aTB_STATUS TB_STATUS.tb_lossy || s.time.startup || s.time.frost || s.time.refclk || s.time.sys) ∧
       SameBut s t [aTB_STATUS, aREADY 21, aMODE] []) ∧
   (∀ s : State, s.pllRuns = true →
     ∃ t, exec .pllLockedAll s = .next t ∧ t.isReady 21 11 = true ∧ t.isReady 21 12 = true ∧
       (s.locked = false → t.locked = true ∧ t.isReady 21 10 = true) ∧ SameBut s t [aTB_STATUS, aREADY 21, aMODE] []) ∧
   (∀ (m : Fin 14) (u : Nat) (s : State), s.on (aTBMARK_CFG m) TBMARK_CFG.en = true → s.alive islAON = true →
     s.markTick (s.get (aTBMARK_CFG m) TBMARK_CFG.k) (sget 0 s.time.markSeen m) = some u → s.commitOwed u = false → s.mode ≠ .frost →
     ∃ t, exec (.tbmarkFire m) s = .next t ∧ sget 0 t.time.markSeen m = s.tb ∧
       t.fab.edges = s.fab.edges ++ s.pulses (2032 + m) u ∧ SameBut s t [] []) ∧
   (∀ (b : BitVec 64) (s : State), s.on aSWL_TM SWL_TM.tm_en = true → s.isMaster = false → s.swlUp s.parentPort = true →
     16 ≤ s.swl.offs.length → s.tb < s.joinTb b.toNat →
     ∃ t, exec (.timebaseJoin b true) s = .next t ∧ t.tb = s.joinTb b.toNat ∧ t.on aTB_STATUS TB_STATUS.stepped = true ∧
       t.reg aTB_STEP = BitVec.ofNat 32 (min (s.joinTb b.toNat - s.tb) 0xFFFFFFFF) ∧ t.on aTB_STATUS TB_STATUS.tb_ahead = false ∧
       t.on aSWL_TMSTAT SWL_TMSTAT.joined = true ∧ t.on aSWL_TMSTAT SWL_TMSTAT.holdover = false ∧ t.swl.offs = [] ∧
       (∀ a, a ∉ [aTB_STATUS, aTB_STEP, aSWL_TMSTAT] ++ (List.range 64).map aSL_STATUS ++ (List.range 32).map aBW_STATUS →
         t.reg a = s.reg a) ∧ (∀ a, t.byte a = s.byte a) ∧ ∀ e, t.eng e = s.eng e) ∧
   (∀ (b : BitVec 64) (s : State), s.on aSWL_TM SWL_TM.tm_en = true → s.isMaster = false → s.swlUp s.parentPort = true →
     16 ≤ s.swl.offs.length → s.joinTb b.toNat < s.tb →
     ∃ t, exec (.timebaseJoin b true) s = .next t ∧ t.on aTB_STATUS TB_STATUS.tb_ahead = true ∧
       t.on aSWL_TMSTAT SWL_TMSTAT.joined = false ∧ t.on aSWL_TMSTAT SWL_TMSTAT.holdover = false ∧ t.swl.offs = [] ∧
       SameBut s t ([aTB_STATUS, aSWL_TMSTAT] ++ (List.range 64).map aSL_STATUS ++ (List.range 32).map aBW_STATUS) []) ∧
   (∀ (b : BitVec 64) (s : State), s.on aSWL_TM SWL_TM.tm_en = true → s.isMaster = false → s.swlUp s.parentPort = true →
     16 ≤ s.swl.offs.length → s.joinTb b.toNat = s.tb →
     ∃ t, exec (.timebaseJoin b true) s = .next t ∧ t.on aTB_STATUS TB_STATUS.tb_ahead = false ∧
       t.on aSWL_TMSTAT SWL_TMSTAT.joined = true ∧ t.on aSWL_TMSTAT SWL_TMSTAT.holdover = false ∧ t.swl.offs = [] ∧
       SameBut s t ([aTB_STATUS, aSWL_TMSTAT] ++ (List.range 64).map aSL_STATUS ++ (List.range 32).map aBW_STATUS) []) ∧
   (∀ (b : BitVec 64) (p : Bool) (s : State), p = false ∨ s.swl.offs.length < 16 ∨ s.on aSWL_TM SWL_TM.tm_en = false →
     ∃ t, exec (.timebaseJoin b p) s = .next t ∧ SameBut s t [] []) ∧
   (∀ s : State, s.alive islSYS = true → s.nvm.sessDone = false → s.nvm.pulse = none → s.mode ≠ .frost → s.nvm.sess = none →
     s.noteAll 0x100000 2 = s → s.sessCopy = some 0xFFFFFFFF →
     ∃ t, exec .sessionIncrement s = .next t ∧ t.sessionWord = 0xFFFFFFFF#32 ∧ t.on aTB_STATUS TB_STATUS.session_valid = true ∧
       t.on aTB_STATUS TB_STATUS.session_full = true ∧ SameBut s t [aSESSION, aTB_STATUS] []) ∧
   (∀ (c : Nat) (s : State), s.alive islSYS = true → s.nvm.sessDone = false → s.nvm.pulse = none → s.mode ≠ .frost →
     s.nvm.sess = none → s.noteAll 0x100000 2 = s → s.sessCopy = some c → c < 0xFFFFFFFF →
     ∃ t, exec .sessionIncrement s = .next t ∧
       t.nvm.pulse = some { addr := 0x100000, data := BitVec.ofNat 32 (c + 1), start := s.tb } ∧
       t.nvm.sess = some (BitVec.ofNat 32 (c + 1)) ∧ t.on aNVM_STATUS NVM_STATUS.busy = true ∧
       t.sessionWord = BitVec.ofNat 32 c ∧ SameBut s t [aNVM_STATUS] []) ∧
   (∀ (v : Word) (s : State), s.alive islSYS = true → s.nvm.sessDone = false → s.nvm.pulse = none → s.mode ≠ .frost →
     s.nvm.sess = some v →
     ∃ t, exec .sessionIncrement s = .next t ∧ t.nvm.pulse = some { addr := 0x100004, data := v, start := s.tb } ∧
       t.on aNVM_STATUS NVM_STATUS.busy = true ∧ SameBut s t [aNVM_STATUS] []) ∧
   (∀ (p : Pulse) (v : Word) (s : State), s.nvm.pulse = some p → s.nvm.sess = some v → p.start + 1200 ≤ s.tb → s.alive islSYS = true →
     p.addr = 0x100004 →
     ∃ t, exec .nvmPulseDone s = .next t ∧ t.word 0x100004 = p.data ∧ t.nvm.pulse = none ∧ t.sessionWord = v ∧
       t.on aTB_STATUS TB_STATUS.session_valid = true ∧
       t.on aTB_STATUS TB_STATUS.session_full = s.on aTB_STATUS TB_STATUS.session_full ∧
       SameButMem s t [aSESSION, aTB_STATUS, aNVM_STATUS] [] 0x100004 4)) ∧
  ((∀ (q : Req) (c : Counter64) (s : State), s.Reaches q (ctrIsl c) → s.ringOf q ≤ 3 → s.paired c = true →
     ∃ t, exec (.lowWordRead q c) s = .next t ∧ t.respOf q = { err := false, val := s.lowWord c } ∧
       t.shadow (ctrHi c) q = s.highWord c ∧
       (∀ (a : Nat) (p : Req), reqNum p ≠ reqNum q → t.shadow a p = s.shadow a p) ∧
       (∀ a, a ∉ (List.range 32).map aCAP_STATUS → t.reg a = s.reg a) ∧ (∀ a, t.byte a = s.byte a) ∧ (∀ e, t.eng e = s.eng e)) ∧
   (∀ (q : Req) (c : Fin 32) (s : State), s.Reaches q (islTIM (c / 8)) → s.ringOf q ≤ 3 → s.capOld c = none →
     ∃ t, exec (.capLoRead q c) s = .next t ∧ t.respOf q = { err := false, val := s.reg (aCAP_LO c) } ∧
       t.shadow (aCAP_HI c) q = s.reg (aCAP_HI c) ∧ t.on (aCAP_STATUS c) CAP_STATUS.unread = false ∧
       SameBut s t [aCAP_STATUS c] []) ∧
   (∀ (q : Req) (c : Fin 32) (x : CapOld) (s : State), s.Reaches q (islTIM (c / 8)) → s.ringOf q ≤ 3 → s.capOld c = some x →
     ∃ t, exec (.capLoRead q c) s = .next t ∧ t.respOf q = { err := false, val := x.lo } ∧ t.shadow (aCAP_HI c) q = x.hi ∧
       t.on (aCAP_STATUS c) CAP_STATUS.unread = s.on (aCAP_STATUS c) CAP_STATUS.unread ∧
       t.on (aCAP_STATUS c) CAP_STATUS.ovr = x.ovr ∧ SameBut s t [aCAP_STATUS c] []) ∧
   (∀ (q : Req) (s : State), (s.regRead q aTB_HI).2 = s.shadow aTB_HI q ∧ (s.regRead q aTB_LO).2 = s.tbLo))

/-- R66, R69: a raw code is corrected exactly, rounded once to nearest with ties away from zero, and saturated to its format; range is 1
when the raw code is at either end of its scale or the saturation changes the rounded value. -/
def Obligations.ConversionValue : Prop :=
  ∀ (mux : Nat) (raw : BitVec 16) (of ou : Int) (gf gu : Nat),
    let x : Rat := ((rawValue mux raw - (of : Rat) / 16) * ((gf : Rat) / 65536) - (ou : Rat) / 16) * ((gu : Rat) / 65536)
    let lo : Int := if mux = 3 then -32768 else 0
    let hi : Int := if mux = 3 then 32767 else 65535
    ∃ r : Int, |(r : Rat) - x| ≤ 1 / 2 ∧ (|(r : Rat) - x| = 1 / 2 → |x| < |(r : Rat)|) ∧
      (convValue mux raw of ou gf gu).1 = max lo (min hi r) ∧
      ((convValue mux raw of ou gf gu).2 = true ↔
        (mux = 3 ∧ (raw = 0x8000#16 ∨ raw = 0x7FFF#16)) ∨ (mux ≠ 3 ∧ (raw = 0x0000#16 ∨ raw = 0xFFFF#16)) ∨
          max lo (min hi r) ≠ r)

/-- References and sampling: a change of a reference's source takes effect and clears the READY bits of that reference and its converters,
those of the others staying; a settled reference sets them again; a trigger of an enabled group that is not busy takes the next sequence
number and every member that takes it is busy, one while the group is busy is an overrun; at the sampling instant every member that samples
holds what it latched. Delivery: a result that is due stands in the mailbox as the word of R65, ends the conversion, and joins the FIFO, or
is discarded from the FIFO alone and sets fifo_ovf when the FIFO holds 32 words; a feed write leaves for the operand-store word it names and
writes nothing else, or waits in the handshake FIFO behind a relock or for an operand store that is being initialised; a read of CONV_FIFO
pops the oldest word, or answers 0 and sets fifo_unf when there is none, and in the tick of a result's push it takes effect first. -/
def Obligations.ConversionCommands : Prop :=
  ((∀ (q : Req) (w : Word) (s : State), s.Reaches q islANA → s.ringOf q ≤ 3 → s.hwNow aREF_CFG = 0 →
     ∃ t, exec (.refCfgWrite q w) s = .next t ∧ t.get aREF_CFG REF_CFG.int_en = getBits w REF_CFG.int_en ∧
       t.respOf q = { err := false, val := 0 } ∧
       (∀ g j, g < 4 → j < 8 → (s.get aREF_CFG REF_CFG.int_en).testBit g ≠ (getBits w REF_CFG.int_en).testBit g →
         t.isReady 8 (8 * g + j) = false ∧ t.isReady 21 (16 + g) = false) ∧
       (∀ g j, g < 4 → j < 8 → (s.get aREF_CFG REF_CFG.int_en).testBit g = (getBits w REF_CFG.int_en).testBit g →
         t.isReady 8 (8 * g + j) = s.isReady 8 (8 * g + j)) ∧
       SameBut s t [aREF_CFG, aREADY 8, aREADY 21, aMODE] []) ∧
   (∀ (g : Fin 4) (s : State), s.alive islANA = true → s.isReady 21 (16 + g) = false → s.trimBad 21 (16 + g) = false →
     ∃ t, exec (.vrefSettled g) s = .next t ∧ t.isReady 21 (16 + g) = true ∧
       (∀ j, j < 8 → s.anaUsable 8 (8 * g + j) = true → t.isReady 8 (8 * g + j) = true) ∧
       SameBut s t [aREADY 8, aREADY 21, aMODE] []) ∧
   (∀ (g : Fin 16) (a : Act) (s : State), s.actFor (2080 + g) = some a → s.on (aSG_CTRL g) SG_CTRL.en = true →
     s.commitOwed a.take = false → s.joins (2080 + g) a.arr = false → (s.group g).busyUntil ≤ a.take →
     ∃ t, exec (.sgTriggerTick g) s = .next t ∧
       t.get (aSG_STATUS g) SG_STATUS.last_seq = s.get (aSG_SEQ g) SG_SEQ.next_seq ∧
       t.get (aSG_SEQ g) SG_SEQ.next_seq = (s.get (aSG_SEQ g) SG_SEQ.next_seq + 1) % 256 ∧
       (∀ k ∈ s.members g, s.lpBusyAt k a.take = false → t.on (aCONV_STATUS k) CONV_STATUS.busy = true) ∧
       (t.group g).trig.map (fun x => (x.tick, x.sample, x.seq)) =
         some (a.take, a.take + s.get (aSG_DELAY g) SG_DELAY.delay, s.get (aSG_SEQ g) SG_SEQ.next_seq) ∧
       SameBut s t ([aFAB_CTL (2080 + g), aSG_SEQ g, aSG_STATUS g] ++ (s.members g).map aCONV_STATUS) []) ∧
   (∀ (g : Fin 16) (a : Act) (s : State), s.actFor (2080 + g) = some a → s.commitOwed a.take = false →
     s.joins (2080 + g) a.arr = false → a.take < (s.group g).busyUntil →
     ∃ t, exec (.sgTriggerTick g) s = .next t ∧ t.on (aSG_STATUS g) SG_STATUS.ovr = true ∧
       t.on (aFAB_CTL (2080 + g)) FAB_CTL.ovr = true ∧ t.group g = s.group g ∧
       SameBut s t [aFAB_CTL (2080 + g), aSG_STATUS g, aFAB_ERR] []) ∧
   (∀ (g : Fin 16) (x : Trig) (s : State), (s.group g).trig = some x → x.sampled = false → x.sample ≤ s.tb →
     (x.members.map (·.1)).Nodup →
     ∃ t, exec (.samplingInstant g) s = .next t ∧ t.reg (aSG_STAMP g) = BitVec.ofNat 32 x.sample ∧
       (∀ m ∈ x.members, (t.conv m.1).cur = some m.2) ∧ SameBut s t [aSG_STAMP g] []) ∧
   (∀ (k : Fin 32) (b : Nat) (s : State), (s.conv k).lpBusy = some b → b ≤ s.tb →
     ∃ t, exec (.lpBusyEnd k) s = .next t ∧ (t.conv k).lpBusy = none ∧ t.on (aCONV_STATUS k) CONV_STATUS.busy = false ∧
       SameBut s t [aCONV_STATUS k] [])) ∧
  ((∀ (k : Fin 32) (raw : BitVec 16) (c : Convn) (s : State), (s.conv k).cur = some c →
     c.sample + (if c.lp then 760 else 45) ≤ s.tb →
     ∃ t, exec (.conversionDone k raw) s = .next t ∧
       (let v := convValue c.mux raw (signed 20 (s.get (aCONV_OF k) CONV_OF.of)) (signed 20 c.ou) (s.get (aCONV_GF k) CONV_GF.gf) c.gu
        t.reg (aCONV_MBOX k) = resultWord c.seq (inputNumber k c.mux) v.2 v.1) ∧
       (t.conv k).cur = none ∧ t.on (aCONV_STATUS k) CONV_STATUS.busy = false ∧
       (t.conv k).fifo = (if (s.conv k).fifo.length < 32 then (s.conv k).fifo ++ [t.reg (aCONV_MBOX k)] else (s.conv k).fifo) ∧
       (32 ≤ (s.conv k).fifo.length → t.on (aCONV_STATUS k) CONV_STATUS.fifo_ovf = true) ∧
       SameBut s t [aCONV_MBOX k, aCONV_STATUS k] []) ∧
   (∀ (k : Fin 32) (f : Feed) (s : State), (s.conv k).feed = some f → f.ready ≤ s.tb → s.reach (engIsl f.eng) = true →
     s.relocking (f.eng / 16) = false → s.initAt (storeAddr f.eng f.word) = false → s.fifo islANA (engIsl f.eng) = [] →
     ∃ t, exec (.feedWrite false k) s = .next t ∧ t.word (storeAddr f.eng f.word) = f.val ∧ (t.conv k).feed = none ∧
       SameButMem s t [] [] (storeAddr f.eng f.word) 4) ∧
   (∀ (k : Fin 32) (f : Feed) (s : State), (s.conv k).feed = some f → f.ready ≤ s.tb → s.reach (engIsl f.eng) = true →
     s.relocking (f.eng / 16) = true ∨ s.initAt (storeAddr f.eng f.word) = true ∨ s.fifo islANA (engIsl f.eng) ≠ [] → s.feedFull f = false →
     ∃ t, exec (.feedWrite false k) s = .next t ∧ t.fifo islANA (engIsl f.eng) = s.fifo islANA (engIsl f.eng) ++ [feedXfer false k f] ∧
       (t.conv k).feed = none ∧ SameBut s t [] []) ∧
   (∀ (k : Fin 32) (f : Feed) (s : State), (s.sdm k).feed = some f → f.ready ≤ s.tb → s.reach (engIsl f.eng) = true →
     s.relocking (f.eng / 16) = false → s.initAt (storeAddr f.eng f.word) = false → s.fifo islANA (engIsl f.eng) = [] →
     ∃ t, exec (.feedWrite true k) s = .next t ∧ t.word (storeAddr f.eng f.word) = f.val ∧ (t.sdm k).feed = none ∧
       SameButMem s t [] [] (storeAddr f.eng f.word) 4) ∧
   (∀ (q : Req) (k : Fin 32) (w : Word) (ws : List Word) (s : State), s.Reaches q islANA → s.ringOf q ≤ 3 →
     (∀ p, (s.conv k).push = some p → p.tick ≠ s.tb) → (s.conv k).fifo = w :: ws →
     ∃ t, exec (.convFifoPop q k) s = .next t ∧ t.respOf q = { err := false, val := w } ∧ (t.conv k).fifo = ws ∧
       SameBut s t [aCONV_STATUS k] []) ∧
   (∀ (q : Req) (k : Fin 32) (p : Push) (w : Word) (ws : List Word) (s : State), s.Reaches q islANA → s.ringOf q ≤ 3 →
     (s.conv k).push = some p → p.tick = s.tb → p.before = w :: ws →
     ∃ t, exec (.convFifoPop q k) s = .next t ∧ t.respOf q = { err := false, val := w } ∧ (t.conv k).fifo = ws ++ [p.word] ∧
       SameBut s t [aCONV_STATUS k] []) ∧
   (∀ (q : Req) (k : Fin 32) (s : State), s.Reaches q islANA → s.ringOf q ≤ 3 →
     (∀ p, (s.conv k).push = some p → p.tick ≠ s.tb) → (s.conv k).fifo = [] →
     ∃ t, exec (.convFifoPop q k) s = .next t ∧ t.respOf q = { err := false, val := 0 } ∧
       t.on (aCONV_STATUS k) CONV_STATUS.fifo_unf = true ∧ SameBut s t [aCONV_STATUS k] []))

/-- Sigma-delta inputs: bits are sampled one after another, and a bit that completes a result of the data filter leaves it in SD_DATA,
shifted, and its producer fires; the fast levels are 1 exactly where the sinc2 output lies beyond the fast thresholds; the 64th bit of one
value sets stuck. Window monitors: an enabled, READY comparator puts out the level that its threshold, hysteresis and reference give for its
input, and a selected edge that no window hides fires its producer, once for a pulse shorter than 2 ns; one microsecond after its enable it
starts to follow; a threshold write with ld_imm = 1 is in force at once, one with ld_imm = 0 is staged in the group that the write carries
and leaves the register; a window that has been open for max_len closes and sets forced. That a pulse shorter than 2 ns fires once, and not
never, is the model's choice (log entry 38); so is how the filters of a sigma-delta input start (log entry 35). -/
def Obligations.SigmaDeltaAndMonitors : Prop :=
  ((∀ (k : Fin 32) (l₁ l₂ : List Bool) (s : State), s.sdBits k (l₁ ++ l₂) = (s.sdBits k l₁).sdBits k l₂) ∧
   (∀ (k : Fin 32) (b : Bool) (s : State), s.sdRuns k = true → s.mode ≠ .frost →
     s.sdEdge k (s.sdm k).next + s.get (aSD_CTRL k) SD_CTRL.skew ≤ s.tb →
     let x := (s.sdm k).restart (s.sdEdge k (s.sdm k).next)
     let y : Sdm := { x with
       next := s.sdEdge k (s.sdm k).next + 1, bits := (b :: x.bits).take 766, n := min (x.n + 1) 766, cnt := min (x.cnt + 1) 768 }
     (s.setSdm k y).sdDue k = true →
     ∃ t, exec (.sdDataResult k [b]) s = .next t ∧
       t.reg (aSD_DATA k) =
         BitVec.ofInt 32 (sinc3 (s.get (aSD_CTRL k) SD_CTRL.osr) (y.bits.take y.n) / 2 ^ s.get (aSD_CTRL k) SD_CTRL.shift) ∧
       (t.sdm k).cnt = 0 ∧ (t.sdm k).bits = y.bits ∧ Fires s t (768 + k) s.tb ∧ SameBut s t [aSD_DATA k, aSD_STATUS k] []) ∧
   (∀ (k : Fin 32) (b : Bool) (s : State), s.sdRuns k = true → s.on (aSD_FAST k) SD_FAST.fast_en = true →
     s.sdEdge k (s.sdm k).next + s.get (aSD_CTRL k) SD_CTRL.skew ≤ s.tb →
     ∃ t, exec (.sdFastLevelChange k [b]) s = .next t ∧
       t.sdfH k = decide (s.get (aSD_FAST k) SD_FAST.fast_hi <
         sinc2 (s.get (aSD_FAST k) SD_FAST.fosr) ((b :: (s.sdm k).bits).take 766)) ∧
       t.sdfL k = decide (sinc2 (s.get (aSD_FAST k) SD_FAST.fosr) ((b :: (s.sdm k).bits).take 766) <
         s.get (aSD_FAST k) SD_FAST.fast_lo) ∧ SameBut s t [aSD_DATA k, aSD_STATUS k] []) ∧
   (∀ (k : Fin 32) (b : Bool) (s : State), s.sdRuns k = true →
     s.sdEdge k (s.sdm k).next + s.get (aSD_CTRL k) SD_CTRL.skew ≤ s.tb → (s.sdm k).lastBit = some b → 63 ≤ (s.sdm k).same →
     ∃ t, exec (.sdStuck k [b]) s = .next t ∧ t.on (aSD_STATUS k) SD_STATUS.stuck = true ∧
       SameBut s t [aSD_DATA k, aSD_STATUS k] [])) ∧
  ((∀ (nn : Fin 96) (low : Bool) (x : WmInput) (s : State), s.wmEnabled (compIdx nn low) = true → s.wmReady nn = true →
     (s.comp (compIdx nn low)).settle = none → s.wmWithin (compIdx nn low) x = true →
     ∃ t, exec (.wmOutputChange nn low x) s = .next t ∧ (t.comp (compIdx nn low)).level = s.wmOut (compIdx nn low) x ∧
       ((s.comp (compIdx nn low)).level ≠ s.wmOut (compIdx nn low) x →
         s.wmEdge (compIdx nn low) (s.wmOut (compIdx nn low) x) = true → s.wmBlanked (compIdx nn low) = false →
         s.shortPulse (compIdx nn low) = false → Fires s t (512 + compIdx nn low) s.tb) ∧
       SameBut s t [] []) ∧
   (∀ (nn : Fin 96) (low : Bool) (x : WmInput) (u : Nat) (s : State), (s.comp (compIdx nn low)).settle = some u → u ≤ s.tb →
     s.wmEnabled (compIdx nn low) = true → s.wmReady nn = true → s.wmWithin (compIdx nn low) x = true →
     ∃ t, exec (.wmEnableSettled nn low x) s = .next t ∧ (t.comp (compIdx nn low)).settle = none ∧
       (t.comp (compIdx nn low)).level = s.wmOut (compIdx nn low) x ∧ SameBut s t [] []) ∧
   (∀ (q : Req) (nn : Fin 96) (w : Word) (s : State), s.Reaches q islAON → s.on (aWM_CFG nn) WM_CFG.ld_imm = true →
     s.hwNow (aWM_THR nn) = 0 →
     ∃ t, exec (.wmThrWrite q nn w) s = .next t ∧ t.get (aWM_THR nn) WM_THR.thr_h = getBits w WM_THR.thr_h ∧
       t.get (aWM_THR nn) WM_THR.thr_l = getBits w WM_THR.thr_l ∧ t.respOf q = { err := false, val := 0 } ∧
       SameBut s t [aWM_THR nn, aWM_STATUS nn] []) ∧
   (∀ (q : Req) (nn : Fin 96) (w : Word) (s : State), s.Reaches q islAON → s.on (aWM_CFG nn) WM_CFG.ld_imm = false →
     s.StagesIn (s.rsel (reqNum q)) (aWM_THR nn) →
     ∃ t, exec (.wmThrWrite q nn w) s = .next t ∧
       (∃ v, t.stagedAt (aWM_THR nn) = some { grp := s.rsel (reqNum q), val := v } ∧
         getBits v WM_THR.thr_h = getBits w WM_THR.thr_h ∧ getBits v WM_THR.thr_l = getBits w WM_THR.thr_l) ∧
       t.respOf q = { err := false, val := 0 } ∧ SameBut s t [aCG_STATUS (s.rsel (reqNum q))] []) ∧
   (∀ (w : Fin 32) (o : Nat) (s : State), (s.win w).openTick = some o → s.get (aBW_CFG w) BW_CFG.max_len ≠ 0 →
     o + s.get (aBW_CFG w) BW_CFG.max_len ≤ s.tb →
     ∃ t, exec (.bwMaxLenExpiry w) s = .next t ∧ (t.win w).openTick = none ∧ t.on (aBW_STATUS w) BW_STATUS.forced = true ∧
       SameBut s t [aBW_STATUS w] []))

/-- The event fabric: an edge that reaches a free input is counted and opens its merge window, and at an engine's sets its event flag;
within 2 ns of the last activation it merges; at a busy input it is an overrun; an edge that the input's settings do not let pass only
disappears; at a trigger input of a sampling group it will be judged 4 ns after its source tick; a write of sw_trig presents one edge, which
no gate judges. -/
def Obligations.FabricCommands : Prop :=
  (∀ (i : Fin 3072) (e : Edge) (s : State), s.edgeFor i = some e → s.passes e = true → s.takes i = true →
    s.within i 2 = false → s.inputBusy i = false → (i.val < 2080 ∨ 2096 ≤ i.val) →
    ∃ t, exec (.fabricActivation i) s = .next t ∧
      t.get (aFAB_CTL i) FAB_CTL.act_cnt = (s.get (aFAB_CTL i) FAB_CTL.act_cnt + 1) % 2 ^ FAB_CTL.act_cnt.width ∧
      t.fab.edges = s.fab.edges.erase e ∧ sget none t.fab.last i = some s.tb) ∧
  (∀ (i : Fin 3072) (e : Edge) (s : State), s.edgeFor i = some e → s.passes e = true → s.takes i = true →
    s.within i 2 = false → s.inputBusy i = false → i.val < 2080 →
    ∃ t, exec (.fabricActivation i) s = .next t ∧ t.bit (aEVF (evfOf i).1) (evfOf i).2 = true ∧
      t.get (aFAB_CTL i) FAB_CTL.act_cnt = (s.get (aFAB_CTL i) FAB_CTL.act_cnt + 1) % 2 ^ FAB_CTL.act_cnt.width ∧
      t.fab.edges = s.fab.edges.erase e ∧ sget none t.fab.last i = some s.tb ∧
      SameBut s t [aFAB_CTL i, aEVF (evfOf i).1] []) ∧
  (∀ (i : Fin 3072) (e : Edge) (s : State), s.edgeFor i = some e → s.passes e = true → s.takes i = true →
    s.within i 2 = true → (i.val < 2080 ∨ 2096 ≤ i.val) →
    ∃ t, exec (.fabricActivation i) s = .next t ∧ t.on (aFAB_CTL i) FAB_CTL.merge = true ∧ t.fab.edges = s.fab.edges.erase e ∧
      SameBut s t [aFAB_CTL i] []) ∧
  (∀ (i : Fin 3072) (e : Edge) (s : State), s.edgeFor i = some e → s.passes e = true → s.takes i = true →
    s.within i 2 = false → s.inputBusy i = true → (i.val < 2080 ∨ 2096 ≤ i.val) →
    ∃ t, exec (.fabricActivation i) s = .next t ∧ t.on (aFAB_CTL i) FAB_CTL.ovr = true ∧ t.fab.edges = s.fab.edges.erase e ∧
      SameBut s t [aFAB_CTL i, aFAB_ERR] []) ∧
  (∀ (i : Fin 3072) (e : Edge) (s : State), s.edgeFor i = some e → s.passes e = false →
    ∃ t, exec (.fabricActivation i) s = .next t ∧ t.fab.edges = s.fab.edges.erase e ∧ SameBut s t [] []) ∧
  (∀ (i : Fin 3072) (e : Edge) (s : State), s.edgeFor i = some e → s.passes e = true → s.takes i = true →
    2080 ≤ i.val → i.val < 2096 →
    ∃ t, exec (.fabricActivation i) s = .next t ∧
      t.fab.acts = s.fab.acts ++ [{ input := i, take := e.tick + 4, src := e.tick, arr := s.tb }] ∧
      t.fab.edges = s.fab.edges.erase e ∧ SameBut s t [] []) ∧
  (∀ (q : Req) (i : Fin 3072) (w : Word) (s : State), s.Reaches q islAON → s.ringOf q ≤ 3 → getBits w FAB_CTL.sw_trig = 1 →
    ∃ t, exec (.swTrig q i w) s = .next t ∧
      t.fab.edges = s.fab.edges ++ [{ input := i, tick := s.tb, producer := 2046 }] ∧
      t.respOf q = { err := false, val := 0 } ∧ SameBut s t [aFAB_CTL i] [])

/-- Every integer and fixed-point instruction completes when its operands are here and no trap is taken, whatever its operand form: A, E and
the flags take the result of R193 to R199, a form's step its index register, the PC goes on to the next bundle, and nothing else changes.
The same of every floating-point instruction, with the results of R200 to R205. -/
def Obligations.ArithmeticInstructionsComplete : Prop :=
  (∀ (e : Eng) (c : Instr) (op : AOp),
     (c, op) ∈ [(Instr.add e, AOp.add), (.sub e, .sub), (.cmp e, .cmp), (.and_ e, .and_), (.or_ e, .or_), (.xor e, .xor_),
       (.shl e, .shl), (.shr e, .shr), (.asr e, .asr), (.mul e, .mul), (.mulu e, .mulu), (.mac e, .mac), (.macs e, .macs),
       (.div e, .div), (.divu e, .divu), (.rem e, .rem), (.abs e, .abs), (.neg e, .neg), (.sat e, .sat), (.clamp e, .clamp)] →
     ∀ (s : State) (ws g h i : List Word) (k : ASlot) (b w : Word), s.Executes e ws { a := some k, len := ws.length } →
       k.op = op → (s.eng e).got = g → s.readRef e 0 0 (s.refOf e k.form) g = .ok b h →
       (op.usesW = true → s.nearRead e 0 (nearWord (s.eng e).y) h = .ok w i) →
       s.trapOf e op (aluRes op (s.get (aENG_S e) ENG_S.rm) (s.eng e).a (s.eng e).e b w).raised = none →
       ∃ t, exec c s = .next t ∧ Completed s t e (((s.eng e).pc + 4 * ws.length) % 2 ^ 32) ∧
         AluDone s t e k.form (aluRes op (s.get (aENG_S e) ENG_S.rm) (s.eng e).a (s.eng e).e b w)) ∧
  (∀ (e : Eng) (c : Instr) (op : AOp),
     (c, op) ∈ [(Instr.fadd e, AOp.fadd), (.fsub e, .fsub), (.fmul e, .fmul), (.fmac e, .fmac), (.fdiv e, .fdiv), (.fsqrt e, .fsqrt),
       (.fmin e, .fmin), (.fmax e, .fmax), (.fcmp e, .fcmp), (.fcvtI2f e, .i2f), (.fcvtU2f e, .u2f), (.fcvtF2i e, .f2i),
       (.fcvtF2u e, .f2u)] →
     ∀ (s : State) (ws g h i : List Word) (k : ASlot) (b w : Word), s.Executes e ws { a := some k, len := ws.length } →
       k.op = op → (s.eng e).got = g → s.readRef e 0 0 (s.refOf e k.form) g = .ok b h →
       (op.usesW = true → s.nearRead e 0 (nearWord (s.eng e).y) h = .ok w i) →
       s.trapOf e op (aluRes op (s.get (aENG_S e) ENG_S.rm) (s.eng e).a (s.eng e).e b w).raised = none →
       ∃ t, exec c s = .next t ∧ Completed s t e (((s.eng e).pc + 4 * ws.length) % 2 ^ 32) ∧
         AluDone s t e k.form (aluRes op (s.get (aENG_S e) ENG_S.rm) (s.eng e).a (s.eng e).e b w))

/-- LD and ST. `LD` writes A, or E, with its operand's word: one that is near, in the far-store buffer or in a line of the D-cache at once;
any other it asks of its target and waits for in E, and the response completes it. `ST` writes A, or E, to the word of its clutch's memory
that it names and to no other byte, or enters the far-store buffer with its ring. None changes a flag, and a form steps its index register.
LDRSV, STCND and the end of a reservation, each over the request that crosses to the target and its answer. `LDRSV` of a word of system SRAM
writes A with it, and both the engine and the target hold its reservation; `STCND` writes the word, sets z and clears the reservation where
the engine's reservation is the oldest on the granule, and otherwise writes nothing and clears z and the reservation; an engine that has its
answer completes at once; after 2 µs the target holds the reservation no more. -/
def Obligations.LoadsStoresAndAtomicsComplete : Prop :=
  ((∀ (e : Eng) (c : Instr) (s : State) (ws : List Word) (k : ASlot) (w : Word),
     s.Supplied e c (.ld e) ws { a := some k, len := ws.length } 0 (sizeCode k.size) (s.refOf e k.form) w → k.op = .ld →
     ∃ t, exec c s = .next t ∧ Completed s t e (((s.eng e).pc + 4 * ws.length) % 2 ^ 32) ∧
       (t.eng e).a = (if k.e then (s.eng e).a else w) ∧ (t.eng e).e = (if k.e then w else (s.eng e).e) ∧
       (t.eng e).x = s.stepped e false k.form ∧ (t.eng e).y = s.stepped e true k.form ∧ SameFlags s t e ∧
       SameBut s t [aENG_STATUS e] [e]) ∧
   (∀ (e : Eng) (s : State) (ws : List Word) (k : ASlot) (l : Load), s.Executes e ws { a := some k, len := ws.length } →
     k.op = .ld → (s.eng e).got = [] → s.Loads e 0 (sizeCode k.size) (s.refOf e k.form) l →
     ∀ i, s.crossing l.addr = some i → s.CanAsk e i →
     ∃ t, exec (.ld e) s = .next t ∧ (t.eng e).wait = .load ∧ (t.eng e).cur = ws ∧ (t.eng e).pc = (s.eng e).pc ∧
       (t.eng e).a = (s.eng e).a ∧ t.fifo (engIsl e) i = s.fifo (engIsl e) i ++ [s.askXfer e l.addr l.size] ∧
       SameBut s t [] [e]) ∧
   (∀ (e : Eng) (s : State) (ws : List Word) (k : ASlot) (a : Nat), s.Executes e ws { a := some k, len := ws.length } →
     k.op = .st → s.Stores e (s.refOf e k.form) a →
     ∃ t, exec (.st e) s = .next t ∧ Completed s t e (((s.eng e).pc + 4 * ws.length) % 2 ^ 32) ∧
       t.word a = (if k.e then (s.eng e).e else (s.eng e).a) ∧
       (t.eng e).x = s.stepped e false k.form ∧ (t.eng e).y = s.stepped e true k.form ∧ (t.eng e).a = (s.eng e).a ∧
       (t.eng e).e = (s.eng e).e ∧ SameFlags s t e ∧ SameButMem s t [aENG_STATUS e] [e] a 4) ∧
   (∀ (e : Eng) (s : State) (ws : List Word) (k : ASlot) (d : StoreKind) (n a : Nat), s.Executes e ws { a := some k, len := ws.length } →
     k.op = .st → s.refOf e k.form = .near n → s.Posts e (.near n) d a →
     ∃ t, exec (.st e) s = .next t ∧ Completed s t e (((s.eng e).pc + 4 * ws.length) % 2 ^ 32) ∧
       (t.eng e).buf = (s.eng e).buf ++ [s.posted e d a (if k.e then (s.eng e).e else (s.eng e).a)] ∧
       SameFlags s t e ∧ SameBut s t [aENG_STATUS e] [e]) ∧
   (∀ (e : Eng) (s : State) (ws : List Word) (k : ASlot) (a : Nat), s.Executes e ws { a := some k, len := ws.length } →
     k.op = .st → s.refOf e k.form = .far a → a % sizeLen (sizeCode k.size) = 0 → s.mpuMay e a 1 = true →
     (s.eng e).buf.length < bufCap e →
     ∃ t, exec (.st e) s = .next t ∧ Completed s t e (((s.eng e).pc + 4 * ws.length) % 2 ^ 32) ∧
       (∃ v, v = sized (sizeCode k.size) (if k.e then (s.eng e).e else (s.eng e).a) ∧ (t.eng e).buf = (s.eng e).buf ++
         [{ kind := .far, addr := a, data := v, size := sizeCode k.size, ring := s.ring e, rom := s.inRom e }]) ∧
       SameFlags s t e ∧ SameBut s t [aENG_STATUS e] [e])) ∧
  ((∀ (e : Eng) (s : State) (ws : List Word) (k : ASlot) (a : Nat), s.Executes e ws { a := some k, len := ws.length } → k.op = .ldrsv →
     (s.eng e).got = [] → s.refOf e k.form = .far a → a % 4 = 0 → s.mpuMay e a 0 = true → inSram a 4 = true → (s.eng e).buf = [] →
     s.Crosses e islSYS → s.initAt a = false → s.ue.contains a = false → s.ce.contains a = false →
     ∃ t, AskedAt s t e islSYS (.ldrsv e) (.farLoadResponse e) ∧ Completed s t e (((s.eng e).pc + 4 * ws.length) % 2 ^ 32) ∧ (t.eng e).a = s.word a ∧
       (t.eng e).rsv = some (a / 8) ∧ (∃ r ∈ t.rsv.held, r.eng = e.val ∧ r.granule = a / 8 ∧ r.tick = s.tb) ∧
       (∀ r ∈ t.rsv.held, r.eng = e.val → r.granule = a / 8) ∧ SameFlags s t e ∧ SameBut s t [aENG_STATUS e] [e]) ∧
   (∀ (e : Eng) (s : State) (ws : List Word) (k : ASlot) (a : Nat) (w : Word), s.Executes e ws { a := some k, len := ws.length } →
     k.op = .ldrsv → (s.eng e).got = [w] → s.refOf e k.form = .far a → a % 4 = 0 → s.mpuMay e a 0 = true → holdsRsv a = true →
     (s.eng e).buf = [] →
     ∃ t, exec (.ldrsv e) s = .next t ∧ Completed s t e (((s.eng e).pc + 4 * ws.length) % 2 ^ 32) ∧ (t.eng e).a = w ∧
       (t.eng e).rsv = some (a / 8) ∧ SameFlags s t e ∧ SameBut s t [aENG_STATUS e] [e]) ∧
   (∀ (e : Eng) (s : State) (ws : List Word) (k : ASlot) (a : Nat), s.Executes e ws { a := some k, len := ws.length } → k.op = .stcnd →
     s.refOf e k.form = .far a → a % 4 = 0 → s.mpuMay e a 1 = true → holdsRsv a = true → (s.eng e).buf = [] →
     s.Crosses e (s.islandOf a) → s.initAt a = false → s.mayStcnd e (a / 8) = true →
     ∃ t, AskedAt s t e (s.islandOf a) (.stcnd e) (.farLoadResponse e) ∧ Completed s t e (((s.eng e).pc + 4 * ws.length) % 2 ^ 32) ∧ t.word a = (s.eng e).a ∧
       t.on (aENG_S e) ENG_S.z = true ∧ (t.eng e).rsv = none ∧ (∀ r ∈ t.rsv.held, r.eng ≠ e.val) ∧
       (∀ f ∈ [ENG_S.n, ENG_S.c, ENG_S.v, ENG_S.ring], t.get (aENG_S e) f = s.get (aENG_S e) f) ∧
       SameButMem s t [aENG_S e, aENG_STATUS e] [e] a 4) ∧
   (∀ (e : Eng) (s : State) (ws : List Word) (k : ASlot) (a : Nat), s.Executes e ws { a := some k, len := ws.length } → k.op = .stcnd →
     s.refOf e k.form = .far a → a % 4 = 0 → s.mpuMay e a 1 = true → holdsRsv a = true → (s.eng e).buf = [] →
     s.Crosses e (s.islandOf a) → s.initAt a = false → s.mayStcnd e (a / 8) = false →
     ∃ t, AskedAt s t e (s.islandOf a) (.stcnd e) (.farLoadResponse e) ∧
       Completed s t e (((s.eng e).pc + 4 * ws.length) % 2 ^ 32) ∧
       t.on (aENG_S e) ENG_S.z = false ∧ (t.eng e).rsv = none ∧ SameBut s t [aENG_S e, aENG_STATUS e] [e]) ∧
   (∀ (e : Eng) (s : State) (ws : List Word) (k : ASlot) (a : Nat) (r : Word), s.Executes e ws { a := some k, len := ws.length } →
     k.op = .stcnd → s.refOf e k.form = .far a → a % 4 = 0 → s.mpuMay e a 1 = true → holdsRsv a = true → (s.eng e).buf = [] →
     (s.eng e).reply = .words [r] →
     ∃ t, exec (.stcnd e) s = .next t ∧ Completed s t e (((s.eng e).pc + 4 * ws.length) % 2 ^ 32) ∧
       t.on (aENG_S e) ENG_S.z = (r == 1) ∧ (t.eng e).rsv = none ∧ SameBut s t [aENG_S e, aENG_STATUS e] [e]) ∧
   (∀ (e : Eng) (s : State), ∃ t, exec (.reservationExpiry e) s = .next t ∧
     (∀ r, r ∈ t.rsv.held ↔ r ∈ s.rsv.held ∧ ¬(r.eng = e.val ∧ r.tick + 2000 ≤ s.tb)) ∧ SameBut s t [] []))

/-- The index instructions: `LDX` and `LDY` write the index register with the operand's word, `ADDX` and `ADDY` add it modulo 2^32, `STX`
and `STY` store the register to the engine's clutch or into the far-store buffer, `MODX` and `MODY` write the modulo register; the other
index register, A, E and the flags are as they were. MOV and BMOV. `MOV` copies its source's word to the clutch's memory, or into the
far-store buffer; where both operands step one index register, the destination's step stands. `BMOV` copies its words one at a time in
ascending order, from X to Y, or from TS to TD where S.resume = 1: a word that is not the last leaves S.resume = 1, TS and TD past the word
and TC at what is left, and the bundle in E; the last one completes the bundle with S.resume = 0, and so does a count of 0, which copies
nothing. X, Y, A and E do not change. A word that is not here each of them asks of its target, and waits for in E; the response goes on with
it (`Supplied`, `MoveSupplied`). All of it holds of Newts and of Skinks. -/
def Obligations.IndexInstructionsAndMovesComplete : Prop :=
  (∀ (e : Eng) (c : Instr) (s : State) (ws : List Word) (k : XSlot) (w : Word),
     let next := ((s.eng e).pc + 4 * ws.length) % 2 ^ 32
     let b : Bundle := { x := some k, len := ws.length }
     let r := s.refOf e k.form
     (∀ op y, (op, y) ∈ [(Instr.ldx e, false), (.ldy e, true)] → k.op = .ld → k.y = y → s.Supplied e c op ws b 1 0 r w →
       ∃ t, exec c s = .next t ∧ Completed s t e next ∧ t.index e y = w ∧
         t.index e (!y) = s.index e (!y) ∧ (t.eng e).a = (s.eng e).a ∧ (t.eng e).e = (s.eng e).e ∧ SameFlags s t e ∧
         SameBut s t [aENG_STATUS e] [e]) ∧
     (∀ op y, (op, y) ∈ [(Instr.addx e, false), (.addy e, true)] → k.op = .add → k.y = y → s.Supplied e c op ws b 1 0 r w →
       ∃ t, exec c s = .next t ∧ Completed s t e next ∧ t.index e y = s.index e y + w ∧
         t.index e (!y) = s.index e (!y) ∧ (t.eng e).a = (s.eng e).a ∧ (t.eng e).e = (s.eng e).e ∧ SameFlags s t e ∧
         SameBut s t [aENG_STATUS e] [e]) ∧
     (∀ op y, (op, y) ∈ [(Instr.modx e, false), (.mody e, true)] → k.op = .mod → k.y = y → s.Supplied e c op ws b 1 0 r w →
       ∃ t, exec c s = .next t ∧ Completed s t e next ∧
         t.reg (if y then aYMOD e else aXMOD e) = modWord w ∧ (t.eng e).x = (s.eng e).x ∧ (t.eng e).y = (s.eng e).y ∧
         SameFlags s t e ∧ SameBut s t [aENG_STATUS e, if y then aYMOD e else aXMOD e] [e]) ∧
     (∀ l i, c ∈ [Instr.ldx e, .addx e, .modx e, .ldy e, .addy e, .mody e] → s.Executes e ws b →
       (c, k.op, k.y) ∈ [(Instr.ldx e, XOp.ld, false), (.addx e, .add, false), (.modx e, .mod, false), (.ldy e, .ld, true),
         (.addy e, .add, true), (.mody e, .mod, true)] → (s.eng e).got = [] → s.Loads e 1 0 r l → s.crossing l.addr = some i →
       s.CanAsk e i →
       ∃ t, exec c s = .next t ∧ (t.eng e).wait = .load ∧ (t.eng e).cur = ws ∧ (t.eng e).pc = (s.eng e).pc ∧
         (∀ y, t.index e y = s.index e y) ∧ t.fifo (engIsl e) i = s.fifo (engIsl e) i ++ [s.askXfer e l.addr l.size] ∧
         SameBut s t [] [e]) ∧
     (∀ y a, (c, y) ∈ [(Instr.stx e, false), (.sty e, true)] → k.op = .st → k.y = y → s.Executes e ws b → s.Stores e r a →
       ∃ t, exec c s = .next t ∧ Completed s t e next ∧
         t.word a = s.index e y ∧ (t.eng e).x = (s.eng e).x ∧ (t.eng e).y = (s.eng e).y ∧
         (t.eng e).a = (s.eng e).a ∧ (t.eng e).e = (s.eng e).e ∧ SameFlags s t e ∧
         SameButMem s t [aENG_STATUS e] [e] a 4) ∧
     (∀ y d a, (c, y) ∈ [(Instr.stx e, false), (.sty e, true)] → k.op = .st → k.y = y → s.Executes e ws b → s.Posts e r d a →
       ∃ t, exec c s = .next t ∧ Completed s t e next ∧
         (t.eng e).buf = (s.eng e).buf ++ [s.posted e d a (s.index e y)] ∧
         SameFlags s t e ∧ SameBut s t [aENG_STATUS e] [e])) ∧
  ((∀ (e : Eng) (c : Instr) (s : State) (ws : List Word) (dst src : Form) (w : Word),
     let next := ((s.eng e).pc + 4 * ws.length) % 2 ^ 32
     s.Supplied e c (.mov e) ws { t := some (.mov dst src), len := ws.length } 2 0 (s.refOf e src) w →
     (∀ a, s.Stores e (s.refOf e dst) a →
       ∃ t, exec c s = .next t ∧ Completed s t e next ∧ t.word a = w ∧
         (∀ y, t.index e y = s.stepped e y (if dst.steps = some y then dst else src)) ∧ (t.eng e).a = (s.eng e).a ∧
         (t.eng e).e = (s.eng e).e ∧ SameFlags s t e ∧ SameButMem s t [aENG_STATUS e] [e] a 4) ∧
     (∀ d a, s.Posts e (s.refOf e dst) d a →
       ∃ t, exec c s = .next t ∧ Completed s t e next ∧ (t.eng e).buf = (s.eng e).buf ++ [s.posted e d a w] ∧
         (∀ y, t.index e y = s.stepped e y (if dst.steps = some y then dst else src)) ∧ (t.eng e).a = (s.eng e).a ∧
         (t.eng e).e = (s.eng e).e ∧ SameFlags s t e ∧ SameBut s t [aENG_STATUS e] [e])) ∧
   (∀ (e : Eng) (s : State) (ws : List Word) (dst src : Form) (l : Load) (i : Nat),
     s.Executes e ws { t := some (.mov dst src), len := ws.length } → (s.eng e).got = [] → s.Loads e 2 0 (s.refOf e src) l →
     s.crossing l.addr = some i → s.CanAsk e i →
     ∃ t, exec (.mov e) s = .next t ∧ (t.eng e).wait = .load ∧ (t.eng e).cur = ws ∧ (t.eng e).pc = (s.eng e).pc ∧
       t.fifo (engIsl e) i = s.fifo (engIsl e) i ++ [s.askXfer e l.addr l.size] ∧ SameBut s t [] [e])) ∧
  ((∀ (e : Eng) (c : Instr) (s : State) (ws : List Word) (df sf : Bool) (n : Nat) (w : Word),
     let ts := s.moveTs e
     let td := s.moveTd e
     let tc := s.moveTc e n
     let step (far : Bool) : Word := if far then 4 else 1
     let past (t : State) : Prop := (t.eng e).ts = ts + step sf ∧ (t.eng e).td = td + step df ∧ (t.eng e).tc = tc - 1 ∧
       (t.eng e).x = (s.eng e).x ∧ (t.eng e).y = (s.eng e).y ∧ (t.eng e).a = (s.eng e).a ∧ (t.eng e).e = (s.eng e).e
     let goesOn (t : State) : Prop := t.on (aENG_S e) ENG_S.resume = true ∧ (t.eng e).cur = ws ∧ (t.eng e).wait = .none ∧
       (t.eng e).pc = (s.eng e).pc
     let ends (t : State) : Prop := t.on (aENG_S e) ENG_S.resume = false ∧
       Completed s t e (((s.eng e).pc + 4 * ws.length) % 2 ^ 32)
     s.MoveSupplied e c ws df sf n w → tc ≠ 0 →
     (∀ a, s.Stores e (blockRef df td) a →
       ∃ t, exec c s = .next t ∧ t.word a = w ∧ past t ∧ (tc ≠ 1 → goesOn t) ∧ (tc = 1 → ends t) ∧
         SameButMem s t [aENG_S e, aENG_STATUS e] [e] a 4) ∧
     (∀ d a, s.Posts e (blockRef df td) d a →
       ∃ t, exec c s = .next t ∧ (t.eng e).buf = (s.eng e).buf ++ [s.posted e d a w] ∧ past t ∧ (tc ≠ 1 → goesOn t) ∧
         (tc = 1 → ends t) ∧ SameBut s t [aENG_S e, aENG_STATUS e] [e])) ∧
   (∀ (e : Eng) (s : State) (ws : List Word) (df sf : Bool) (n : Nat), s.Moves e ws df sf n →
     (s.moveTc e n = 0 →
       ∃ t, exec (.bmov e) s = .next t ∧ Completed s t e (((s.eng e).pc + 4 * ws.length) % 2 ^ 32) ∧
         t.on (aENG_S e) ENG_S.resume = false ∧ (t.eng e).tc = 0 ∧ (t.eng e).x = (s.eng e).x ∧ (t.eng e).y = (s.eng e).y ∧
         SameBut s t [aENG_S e, aENG_STATUS e] [e]) ∧
     (∀ l i, s.moveTc e n ≠ 0 → (s.eng e).got = [] → s.Loads e 2 0 (blockRef sf (s.moveTs e)) l → s.crossing l.addr = some i →
       s.CanAsk e i →
       ∃ t, exec (.bmov e) s = .next t ∧ (t.eng e).wait = .load ∧ (t.eng e).cur = ws ∧ (t.eng e).pc = (s.eng e).pc ∧
         t.fifo (engIsl e) i = s.fifo (engIsl e) i ++ [s.askXfer e l.addr l.size] ∧ SameBut s t [] [e])))

/-- R216: a branch is taken exactly on its flags, as the bundle before left them, and goes to the target of R186, else to the next bundle;
either way it completes and changes nothing else. R143: the bundle that a taken branch kills raises nothing; an uncorrectable word of its
fetch is counted. -/
def Obligations.BranchesComplete : Prop :=
  ∀ (e : Eng) (s : State) (c : Instr) (k : Cond) (taken : Bool),
    (let z := s.on (aENG_S e) ENG_S.z
     let n := s.on (aENG_S e) ENG_S.n
     (c, k, taken) ∈ [(Instr.br e, Cond.always, true), (.bz e, .z, z), (.bnz e, .nz, !z), (.bn e, .n, n), (.bp e, .p, !n && !z),
       (.bc e, .c, s.on (aENG_S e) ENG_S.c), (.bv e, .v, s.on (aENG_S e) ENG_S.v)]) →
    ∀ (ws : List Word) (g : Tgt), s.Executes e ws { c := some (.br k g), len := ws.length } →
      (taken = true → isNewt e = false → s.Quiet e ws) →
      ∃ t, exec c s = .next t ∧
        Completed s t e (if taken then (match g with
          | .rel d => (((s.eng e).pc : Int) + 4 * d).emod (2 ^ 32) |>.toNat
          | .abs a => a) else ((s.eng e).pc + 4 * ws.length) % 2 ^ 32) ∧
        (t.eng e).a = (s.eng e).a ∧ (t.eng e).e = (s.eng e).e ∧ (t.eng e).x = (s.eng e).x ∧ (t.eng e).y = (s.eng e).y ∧
        (t.eng e).stack = (s.eng e).stack ∧ SameFlags s t e ∧ ((taken = true → s.Quiet e ws) → SameBut s t [aENG_STATUS e] [e]) ∧
        (taken = true → isNewt e = true → ∀ f w, s.fetchNewt e (((s.eng e).pc + 4 * ws.length) % 2 ^ 32) = .fault f → f.ue = some w →
          t.get (aECC_CNT e) ECC_CNT.ue_cnt = min (s.get (aECC_CNT e) ECC_CNT.ue_cnt + 1) 65535)

/-- R218: `CALL` pushes the next bundle's address with the current ring and kind CALL, and goes to its target; `RET` pops the top entry and
goes on at its return address when it is a CALL entry of the current ring. A `CALL` at 16 entries, a `RET` on an empty stack and a `RET` on
any other entry raise vector 4, and the call stack does not change. -/
def Obligations.CallsAndReturns : Prop :=
  (∀ (e : Eng) (s : State) (ws : List Word) (g : Tgt), s.Executes e ws { c := some (.call g), len := ws.length } →
    (s.eng e).stack.length < 16 → (isNewt e = false → s.Quiet e ws) →
    ∃ t, exec (.call e) s = .next t ∧ Completed s t e (s.targetOf e g) ∧
      (t.eng e).stack = { ret := ((s.eng e).pc + 4 * ws.length) % 2 ^ 32, retRing := s.ring e, owner := s.ring e, gate := false } ::
        (s.eng e).stack ∧ (t.eng e).a = (s.eng e).a ∧ SameFlags s t e ∧ (s.Quiet e ws → SameBut s t [aENG_STATUS e] [e])) ∧
  (∀ (e : Eng) (s : State) (ws : List Word) (x : CallEntry) (l : List CallEntry),
    s.Executes e ws { c := some .ret, len := ws.length } → (s.eng e).stack = x :: l → x.gate = false → x.owner = s.ring e →
    (isNewt e = false → s.Quiet e ws) →
    ∃ t, exec (.ret e) s = .next t ∧ Completed s t e x.ret ∧ (t.eng e).stack = l ∧ (t.eng e).a = (s.eng e).a ∧ SameFlags s t e ∧
      (s.Quiet e ws → SameBut s t [aENG_STATUS e] [e])) ∧
  (∀ (e : Eng) (s : State) (ws : List Word) (g : Tgt), s.Executes e ws { c := some (.call g), len := ws.length } →
    16 ≤ (s.eng e).stack.length → s.Enterable e 4 → ∃ t, exec (.call e) s = .next t ∧ Excepted s t e 4 3) ∧
  (∀ (e : Eng) (s : State) (ws : List Word), s.Executes e ws { c := some .ret, len := ws.length } →
    (∀ x, (s.eng e).stack.head? = some x → x.gate = true ∨ x.owner ≠ s.ring e) → s.Enterable e 4 →
    ∃ t, exec (.ret e) s = .next t ∧ Excepted s t e 4 3)

/-- R220: `LOOP` writes LSn with the address of the next bundle, LEn with PC + 4·end and LCn with the count, from the syllable or from the
operand store, and changes no flag, no other loop set and nothing else. R144, R145: at the end of a loop the armed set counts down, and
above 1 the next bundle is the one at LSn; with both sets armed on one bundle, set 1 acts first and set 0 only when set 1 exits. Nothing but
the counts changes. -/
def Obligations.Loops : Prop :=
  (∀ (e : Eng) (s : State) (ws g h : List Word) (one src : Bool) (v n : Nat) (c : Word),
     s.Executes e ws { c := some (.loop one src v n), len := ws.length } → (s.eng e).got = g →
     (src = true → s.nearRead e 3 v g = .ok c h) → (src = false → c = BitVec.ofNat 32 v) →
     ∃ t, exec (.loop e) s = .next t ∧ Completed s t e (((s.eng e).pc + 4 * ws.length) % 2 ^ 32) ∧
       t.reg (if one then aLS1 e else aLS0 e) = BitVec.ofNat 32 ((s.eng e).pc + 4 * ws.length) ∧
       t.reg (if one then aLE1 e else aLE0 e) = BitVec.ofNat 32 ((s.eng e).pc + 4 * n) ∧
       t.reg (if one then aLC1 e else aLC0 e) = c ∧ (t.eng e).a = (s.eng e).a ∧ SameFlags s t e ∧
       SameBut s t ([aENG_STATUS e] ++ (if one then [aLS1 e, aLE1 e, aLC1 e] else [aLS0 e, aLE0 e, aLC0 e])) [e]) ∧
  (∀ (s : State) (e seq : Nat),
     let back (one : Bool) : Nat := (s.reg (if one then aLS1 e else aLS0 e)).toNat / 4 * 4
     let r := s.loopEnd e seq
     (s.loopAt e true = true → 1 < (s.reg (aLC1 e)).toNat →
       r.2 = back true ∧ r.1.reg (aLC1 e) = s.reg (aLC1 e) - 1 ∧ r.1.reg (aLC0 e) = s.reg (aLC0 e)) ∧
     (s.loopAt e true = true → s.reg (aLC1 e) = 1 → s.loopAt e false = false →
       r.2 = seq ∧ r.1.reg (aLC1 e) = 0 ∧ r.1.reg (aLC0 e) = s.reg (aLC0 e)) ∧
     (s.loopAt e true = true → s.reg (aLC1 e) = 1 → s.loopAt e false = true →
       r.2 = (if 1 < (s.reg (aLC0 e)).toNat then back false else seq) ∧ r.1.reg (aLC1 e) = 0 ∧
         r.1.reg (aLC0 e) = s.reg (aLC0 e) - 1) ∧
     (s.loopAt e true = false → s.loopAt e false = true →
       r.2 = (if 1 < (s.reg (aLC0 e)).toNat then back false else seq) ∧ r.1.reg (aLC0 e) = s.reg (aLC0 e) - 1 ∧
         r.1.reg (aLC1 e) = s.reg (aLC1 e)) ∧
     (s.loopAt e true = false → s.loopAt e false = false → r = (s, seq)) ∧ SameBut s r.1 [aLC0 e, aLC1 e] [])

/-- R229: with F = EVF AND mask not 0, `WAITEV` writes A ← F, clears the flags of F and completes; otherwise the engine sleeps with waiting
= 1 and nothing else changed, and a flag that is set later completes it in the same way. Signals and posts: `SIGEV` fires the engine's
producer, 928 + n of Newt n and 1824 and 1825 of the Skinks unless a regrow gave the engine another (R231); `SNAP` presents a software edge
at 2320 + u; `COMMIT` puts an arm request behind the stores in the far-store buffer. Each completes in the rings that may execute it. Fences
and the rest of the C-slot: `FENCE` completes once the buffer is empty and every far write is acknowledged, and waits in E until then;
`ISYNC` completes once the stores to the engine's banks are written, and stays in E until then; `TBRD` writes A and E with the two words of
TB; `CTMODE` sets S.ct to its operand and changes nothing else of S. -/
def Obligations.WaitsSignalsAndFencesComplete : Prop :=
  ((∀ (e : Eng) (c : Instr) (s : State) (ws : List Word) (m : Nat),
     (c = .waitev e ∧ s.Executes e ws { c := some (.waitev m), len := ws.length } ∨
       c = .waitevWake e ∧ s.Waits e .sleep ws { c := some (.waitev m), len := ws.length } ∧ s.engRuns e = true) →
     s.reg (aEVF e) &&& BitVec.ofNat 32 m ≠ 0 →
     ∃ t, exec c s = .next t ∧ Completed s t e (((s.eng e).pc + 4 * ws.length) % 2 ^ 32) ∧
       (t.eng e).a = s.reg (aEVF e) &&& BitVec.ofNat 32 m ∧
       t.reg (aEVF e) = s.reg (aEVF e) &&& ~~~(s.reg (aEVF e) &&& BitVec.ofNat 32 m) ∧ t.on (aENG_STATUS e) ENG_STATUS.waiting = false ∧
       (t.eng e).e = (s.eng e).e ∧ (t.eng e).x = (s.eng e).x ∧ (t.eng e).y = (s.eng e).y ∧ SameFlags s t e ∧
       SameBut s t [aENG_STATUS e, aEVF e] [e]) ∧
   (∀ (e : Eng) (s : State) (ws : List Word) (m : Nat), s.Executes e ws { c := some (.waitev m), len := ws.length } →
     s.reg (aEVF e) &&& BitVec.ofNat 32 m = 0 →
     ∃ t, exec (.waitev e) s = .next t ∧ (t.eng e).wait = .sleep ∧ t.on (aENG_STATUS e) ENG_STATUS.waiting = true ∧
       (t.eng e).pc = (s.eng e).pc ∧ (t.eng e).cur = ws ∧ (t.eng e).a = (s.eng e).a ∧ SameFlags s t e ∧
       SameBut s t [aENG_STATUS e] [e])) ∧
  ((∀ (e : Eng) (s : State) (ws : List Word), s.Executes e ws { c := some .sigev, len := ws.length } → s.mode ≠ .frost →
     sget none s.av.sigev e = none →
     ∃ t, exec (.sigev e) s = .next t ∧ Completed s t e (((s.eng e).pc + 4 * ws.length) % 2 ^ 32) ∧
       (let p := if e.val < 256 then 928 + e.val else 1824 + (e.val - 256)
        Fires s t p s.tb) ∧
       (t.eng e).a = (s.eng e).a ∧ SameFlags s t e ∧ SameBut s t [aENG_STATUS e] [e]) ∧
   (∀ (e : Eng) (s : State) (ws : List Word) (u : Nat), s.Executes e ws { c := some (.snap u), len := ws.length } → s.ring e ≠ 3 →
     ∃ t, exec (.snap e) s = .next t ∧ Completed s t e (((s.eng e).pc + 4 * ws.length) % 2 ^ 32) ∧
       s.fab.edges ++ [{ input := 2320 + u, tick := s.tb, producer := 2046 }] <+: t.fab.edges ∧
       (t.eng e).a = (s.eng e).a ∧ SameFlags s t e ∧ SameBut s t [aENG_STATUS e] [e]) ∧
   (∀ (e : Eng) (s : State) (ws : List Word) (g : Nat), s.Executes e ws { c := some (.commit g), len := ws.length } → s.ring e ≠ 3 →
     (s.eng e).buf.length < bufCap e →
     ∃ t, exec (.commit e) s = .next t ∧ Completed s t e (((s.eng e).pc + 4 * ws.length) % 2 ^ 32) ∧
       (∃ b : Store, b.kind = .arm g ∧ b.ring = s.ring e ∧ (t.eng e).buf = (s.eng e).buf ++ [b]) ∧ (t.eng e).a = (s.eng e).a ∧
       SameFlags s t e ∧ SameBut s t [aENG_STATUS e] [e]) ∧
   (∀ (e : Eng) (c : Instr) (s : State) (ws : List Word) (g : Nat),
     (c = .snap e ∧ s.Executes e ws { c := some (.snap g), len := ws.length } ∨
       c = .commit e ∧ s.Executes e ws { c := some (.commit g), len := ws.length }) → s.ring e = 3 → s.Enterable e 3 →
     ∃ t, exec c s = .next t ∧ Excepted s t e 3 3)) ∧
  ((∀ (e : Eng) (c : Instr) (s : State) (ws : List Word),
     (c = .fence e ∧ s.Executes e ws { c := some .fence, len := ws.length } ∨
       c = .fenceComplete e ∧ s.Waits e .fence ws { c := some .fence, len := ws.length }) →
     (s.eng e).buf = [] → (s.eng e).acks = 0 →
     ∃ t, exec c s = .next t ∧ Completed s t e (((s.eng e).pc + 4 * ws.length) % 2 ^ 32) ∧ (t.eng e).a = (s.eng e).a ∧
       SameFlags s t e ∧ SameBut s t [aENG_STATUS e] [e]) ∧
   (∀ (e : Eng) (s : State) (ws : List Word), s.Executes e ws { c := some .fence, len := ws.length } →
     ((s.eng e).buf ≠ [] ∨ (s.eng e).acks ≠ 0) →
     ∃ t, exec (.fence e) s = .next t ∧ (t.eng e).wait = .fence ∧ (t.eng e).cur = ws ∧ (t.eng e).pc = (s.eng e).pc ∧ SameBut s t [] [e]) ∧
   (∀ (e : Eng) (s : State) (ws : List Word), s.Executes e ws { c := some .isync, len := ws.length } → s.banksWritten e = true →
     ∃ t, exec (.isync e) s = .next t ∧ Completed s t e (((s.eng e).pc + 4 * ws.length) % 2 ^ 32) ∧ (t.eng e).a = (s.eng e).a ∧
       SameFlags s t e ∧ SameBut s t [aENG_STATUS e] [e]) ∧
   (∀ (e : Eng) (s : State) (ws : List Word), s.Executes e ws { c := some .isync, len := ws.length } → s.banksWritten e = false →
     ∃ t, exec (.isync e) s = .next t ∧ (t.eng e).cur = ws ∧ (t.eng e).pc = (s.eng e).pc ∧ SameBut s t [] [e]) ∧
   (∀ (e : Eng) (s : State) (ws : List Word), s.Executes e ws { c := some .tbrd, len := ws.length } →
     ∃ t, exec (.tbrd e) s = .next t ∧ Completed s t e (((s.eng e).pc + 4 * ws.length) % 2 ^ 32) ∧ (t.eng e).a = BitVec.ofNat 32 s.tb ∧
       (t.eng e).e = BitVec.ofNat 32 (s.tb / 2 ^ 32) ∧ (t.eng e).x = (s.eng e).x ∧ (t.eng e).y = (s.eng e).y ∧ SameFlags s t e ∧
       SameBut s t [aENG_STATUS e] [e]) ∧
   (∀ (e : Eng) (s : State) (ws : List Word) (b : Bool), s.Executes e ws { c := some (.ctmode b), len := ws.length } →
     ∃ t, exec (.ctmode e) s = .next t ∧ Completed s t e (((s.eng e).pc + 4 * ws.length) % 2 ^ 32) ∧ t.on (aENG_S e) ENG_S.ct = b ∧
       (∀ f ∈ [ENG_S.z, ENG_S.n, ENG_S.c, ENG_S.v, ENG_S.ring, ENG_S.iel, ENG_S.rm, ENG_S.iv, ENG_S.dz, ENG_S.of, ENG_S.uf, ENG_S.ix,
         ENG_S.resume, ENG_S.te_iv, ENG_S.te_dz, ENG_S.te_of, ENG_S.te_uf, ENG_S.te_ix],
         t.get (aENG_S e) f = s.get (aENG_S e) f) ∧ (t.eng e).a = (s.eng e).a ∧ SameBut s t [aENG_S e, aENG_STATUS e] [e]))

/-- A queue instruction of a Newt asks the queue manager, its request crosses to it, and the answer ends the wait. `QPUT` into a queue with
room appends the four near words as one record and clears c; `QGET` from a queue that holds a record, and on which no put waits, takes the
oldest into its four near words; `QPEEK` leaves it; `QCOUNT` writes A with the count, and z from it; a get or peek of an empty queue sets c
alone; a queue that is not enabled, or owned by a more privileged ring, raises vector 16, and nothing moves. A put to a full queue: under
policy 0 it is rejected, counted, and sets c; under policy 1 the oldest record goes, which is counted, and the new one is appended; under
policy 2 it waits in E, with the queue manager. The answer by itself: a put, and a get or peek of an empty queue, write c alone; a get or
peek that moved a record clears c and writes its four words to the four near words; a count clears c and writes A, and z from it; a fault
raises vector 16. -/
def Obligations.QueueInstructions : Prop :=
  (∀ (e : Eng) (s : State) (ws : List Word) (y : Bool) (q : Nat), isNewt e = true → q < 16384 → nearWord (s.index e y) ≤ 0x0FFC → (s.eng e).got = [] →
     (s.eng e).seen = [] → s.Crosses e islSYS → s.qInit q = false →
     (let op (k : QOp) : Prop := s.Executes e ws { c := some (.queue k y q), len := ws.length }
      let b := nearWord (s.index e y)
      let next := ((s.eng e).pc + 4 * ws.length) % 2 ^ 32
      let kept (t : State) (l : List Fld) : Prop := ∀ f ∈ l, t.get (aENG_S e) f = s.get (aENG_S e) f
      (op .put → (∀ j, j < 4 → s.ue.contains (engRam e + 4 * (b + j)) = false) → s.qMay q (s.ring e) = true → s.qMeet q false = s →
         s.qCount q < s.qSize q → s.qSize q ≤ 65536 →
         ∃ t, AskedAt s t e islSYS (.qput e) (.queueResponse e) ∧ Completed s t e next ∧ t.on (aENG_S e) ENG_S.c = false ∧
           (∀ j, j < 4 → t.word (s.qRec q (s.qTail q) + 4 * j) = s.word (engRam e + 4 * (b + j))) ∧ t.qCount q = s.qCount q + 1 ∧
           (t.eng e).a = (s.eng e).a ∧ kept t [ENG_S.z, ENG_S.n, ENG_S.v, ENG_S.ring] ∧
           SameButMem s t [aENG_S e, aENG_STATUS e, aQD_PTR q, aQD_CNT q, aQW_LINE (s.qLine q)] [e] (s.qRec q (s.qTail q)) 16) ∧
      (op .get → s.deniedWord e (rcdWords b) = none → s.qMay q (s.ring e) = true → s.qSound q true = true → s.qMeet q true = s →
         0 < s.qCount q → (∀ w ∈ s.qm.waits, w.queue ≠ q) → (∀ j, j < 4 → s.Unfed (engRam e + 4 * (b + j))) →
         ∃ t, AskedAt s t e islSYS (.qget e) (.queueResponse e) ∧ Completed s t e next ∧ t.on (aENG_S e) ENG_S.c = false ∧
           (∀ j, j < 4 → t.word (engRam e + 4 * (b + j)) = (s.qFront q).getD j 0) ∧ t.qCount q = s.qCount q - 1 ∧
           (t.eng e).a = (s.eng e).a ∧ kept t [ENG_S.z, ENG_S.n, ENG_S.v, ENG_S.ring] ∧
           SameButMem s t [aENG_S e, aENG_STATUS e, aQD_PTR q, aQD_CNT q, aQW_LINE (s.qLine q)] [e] (engRam e + 4 * b) 16) ∧
      (op .peek → s.deniedWord e (rcdWords b) = none → s.qMay q (s.ring e) = true → s.qSound q true = true → s.qMeet q true = s →
         0 < s.qCount q → (∀ j, j < 4 → s.Unfed (engRam e + 4 * (b + j))) →
         ∃ t, AskedAt s t e islSYS (.qpeek e) (.queueResponse e) ∧ Completed s t e next ∧ t.on (aENG_S e) ENG_S.c = false ∧
           (∀ j, j < 4 → t.word (engRam e + 4 * (b + j)) = (s.qFront q).getD j 0) ∧ (t.eng e).a = (s.eng e).a ∧
           kept t [ENG_S.z, ENG_S.n, ENG_S.v, ENG_S.ring] ∧
           SameButMem s t [aENG_S e, aENG_STATUS e] [e] (engRam e + 4 * b) 16) ∧
      (op .count → s.qMay q (s.ring e) = true → s.qMeet q false = s →
         ∃ t, AskedAt s t e islSYS (.qcount e) (.queueResponse e) ∧ Completed s t e next ∧ t.on (aENG_S e) ENG_S.c = false ∧
           (t.eng e).a = BitVec.ofNat 32 (s.qCount q) ∧ t.on (aENG_S e) ENG_S.z = (BitVec.ofNat 32 (s.qCount q) == 0#32) ∧
           kept t [ENG_S.n, ENG_S.v, ENG_S.ring] ∧ SameBut s t [aENG_S e, aENG_STATUS e] [e]) ∧
      (∀ c k, (c, k) ∈ [(Instr.qget e, QOp.get), (.qpeek e, .peek)] → op k → s.deniedWord e (rcdWords b) = none →
         s.qMay q (s.ring e) = true → s.qSound q true = true → s.qMeet q true = s → s.qCount q = 0 →
         ∃ t, AskedAt s t e islSYS c (.queueResponse e) ∧ Completed s t e next ∧ t.on (aENG_S e) ENG_S.c = true ∧
           (t.eng e).a = (s.eng e).a ∧ kept t [ENG_S.z, ENG_S.n, ENG_S.v, ENG_S.ring] ∧ SameBut s t [aENG_S e, aENG_STATUS e] [e]) ∧
      (∀ c k, (c, k) ∈ [(Instr.qput e, QOp.put), (.qget e, .get), (.qpeek e, .peek), (.qcount e, .count)] → op k →
         (k = .put → ∀ j, j < 4 → s.ue.contains (engRam e + 4 * (b + j)) = false) →
         (k ≠ .put → s.deniedWord e (rcdWords b) = none) → s.qMay q (s.ring e) = false → s.qMeet q true = s → s.qMeet q false = s →
         s.Enterable e 16 →
         ∃ t, AskedAt s t e islSYS c (.queueResponse e) ∧ Excepted s t e 16 3) ∧
      (op .put → (∀ j, j < 4 → s.ue.contains (engRam e + 4 * (b + j)) = false) → s.qMay q (s.ring e) = true → s.qMeet q false = s →
         s.qSize q ≤ s.qCount q → s.qCount q ≤ 65536 →
         (s.get (aQD_CFG q) QD_CFG.policy = 0 →
           ∃ t, AskedAt s t e islSYS (.qput e) (.queueResponse e) ∧ Completed s t e next ∧ t.on (aENG_S e) ENG_S.c = true ∧
             t.qCount q = s.qCount q ∧ t.get (aQD_CNT q) QD_CNT.drops = min (s.get (aQD_CNT q) QD_CNT.drops + 1) (2 ^ QD_CNT.drops.width - 1) ∧
             (t.eng e).a = (s.eng e).a ∧ kept t [ENG_S.z, ENG_S.n, ENG_S.v, ENG_S.ring] ∧
             SameBut s t [aENG_S e, aENG_STATUS e, aQD_CNT q] [e]) ∧
         (s.get (aQD_CFG q) QD_CFG.policy = 1 →
           ∃ t, AskedAt s t e islSYS (.qput e) (.queueResponse e) ∧ Completed s t e next ∧ t.on (aENG_S e) ENG_S.c = false ∧
             (∀ j, j < 4 → t.word (s.qRec q (s.qTail q) + 4 * j) = s.word (engRam e + 4 * (b + j))) ∧ t.qCount q = s.qCount q ∧
             t.qHead q = (s.qHead q + 1) % s.qSize q % 2 ^ QD_PTR.head.width ∧
             t.qTail q = (s.qTail q + 1) % s.qSize q % 2 ^ QD_PTR.tail.width ∧
             t.get (aQD_CNT q) QD_CNT.drops = min (s.get (aQD_CNT q) QD_CNT.drops + 1) (2 ^ QD_CNT.drops.width - 1) ∧
             (t.eng e).a = (s.eng e).a ∧ kept t [ENG_S.z, ENG_S.n, ENG_S.v, ENG_S.ring] ∧
             SameButMem s t [aENG_S e, aENG_STATUS e, aQD_PTR q, aQD_CNT q, aQW_LINE (s.qLine q)] [e] (s.qRec q (s.qTail q)) 16) ∧
         (s.get (aQD_CFG q) QD_CFG.policy = 2 →
           ∃ u t, exec (.qput e) s = .next u ∧
             exec (.handshakeFifoDelivery (Fin.ofNat 26 (engIsl e)) (Fin.ofNat 26 islSYS)) u = .next t ∧
             t.qm.waits = s.qm.waits ++ [{ queue := q, who := .eng e, words := (List.range 4).map (fun j => s.word (engRam e + 4 * (b + j))) }] ∧
             (t.eng e).wait = .queue none ∧ (t.eng e).cur = ws ∧ (t.eng e).pc = (s.eng e).pc ∧ SameBut s t [] [e])))) ∧
  (∀ (e : Eng) (s : State) (ws : List Word) (y : Bool) (q : Nat) (k : QOp) (cf fault : Bool) (r : List Word),
     s.Waits e (.queue (some (fault, cf, r))) ws { c := some (.queue k y q), len := ws.length } →
     isNewt e = true → nearWord (s.index e y) ≤ 0x0FFC → (s.eng e).got = [] →
     (let b := nearWord (s.index e y)
      let next := ((s.eng e).pc + 4 * ws.length) % 2 ^ 32
      (fault = false → (k = .put ∨ (k = .get ∨ k = .peek) ∧ cf = true) →
         ∃ t, exec (.queueResponse e) s = .next t ∧ Completed s t e next ∧ t.on (aENG_S e) ENG_S.c = cf ∧ (t.eng e).a = (s.eng e).a ∧
           (∀ f ∈ [ENG_S.z, ENG_S.n, ENG_S.v, ENG_S.ring], t.get (aENG_S e) f = s.get (aENG_S e) f) ∧
           SameBut s t [aENG_S e, aENG_STATUS e] [e]) ∧
      (fault = false → (k = .get ∨ k = .peek) → cf = false → (∀ j, j < 4 → s.mayStore e (b + j) = true ∧ s.Unfed (engRam e + 4 * (b + j))) → r.length = 4 →
         ∃ t, exec (.queueResponse e) s = .next t ∧ Completed s t e next ∧ t.on (aENG_S e) ENG_S.c = false ∧
           (∀ j, j < 4 → t.word (engRam e + 4 * (b + j)) = r.getD j 0) ∧ (t.eng e).a = (s.eng e).a ∧
           (∀ f ∈ [ENG_S.z, ENG_S.n, ENG_S.v, ENG_S.ring], t.get (aENG_S e) f = s.get (aENG_S e) f) ∧
           SameButMem s t [aENG_S e, aENG_STATUS e] [e] (engRam e + 4 * b) 16) ∧
      (fault = false → k = .count → cf = false → ∀ n, r = [n] →
         ∃ t, exec (.queueResponse e) s = .next t ∧ Completed s t e next ∧ (t.eng e).a = n ∧ t.on (aENG_S e) ENG_S.z = (n == 0) ∧
           t.on (aENG_S e) ENG_S.c = false ∧ (∀ f ∈ [ENG_S.n, ENG_S.v, ENG_S.ring], t.get (aENG_S e) f = s.get (aENG_S e) f) ∧
           SameBut s t [aENG_S e, aENG_STATUS e] [e]) ∧
      (fault = true → s.Enterable e 16 → ∃ t, exec (.queueResponse e) s = .next t ∧ Excepted s t e 16 3)))

/-- R239, and R248 of vector 14: `TRAP`, and `BKPT` where debug has not armed breakpoint halting, raise vector 14 precisely: the bundle
writes nothing, and the context holds its own PC. Where debug has armed it, the engine halts before the `BKPT` bundle and writes nothing.
R236, R237: a `GATE` that its descriptor allows pushes the next bundle with the current ring, owned by the target ring, sets the ring to the
target ring and goes to the target; iel and ct do not change. One that it does not, or at 16 entries, raises vector 4. `GRET` pops a GATE
entry of the current ring and restores its ring; any other top entry, or none, raises vector 4. -/
def Obligations.TrapsAndGates : Prop :=
  ((∀ (e : Eng) (c : Instr) (s : State) (ws : List Word) (n : Nat),
     (c = .trap e ∧ s.Executes e ws { c := some (.trap n), len := ws.length } ∨
       c = .bkpt e ∧ s.Executes e ws { c := some (.bkpt n), len := ws.length } ∧ s.bkptArmed e = false) → s.Enterable e 14 →
     ∃ t, exec c s = .next t ∧ Excepted s t e 14 3 ∧
       t.reg (aCTX e (s.get (aENG_STATUS e) ENG_STATUS.ctx_used) 5) = BitVec.ofNat 32 (s.eng e).pc) ∧
   (∀ (e : Eng) (s : State) (ws : List Word) (n : Nat), s.Executes e ws { c := some (.bkpt n), len := ws.length } →
     s.bkptArmed e = true →
     ∃ t, exec (.bkpt e) s = .next t ∧ (t.eng e).dbg = true ∧ (t.eng e).pc = (s.eng e).pc ∧ (t.eng e).cur = [] ∧
       (t.eng e).a = (s.eng e).a ∧ SameFlags s t e ∧ SameBut s t [aENG_STATUS e] [e])) ∧
  ((∀ (e : Eng) (c : Instr) (s : State) (ws : List Word) (n : Nat) (d v : Word),
     (let l : Load := { addr := s.gateAt e n + 4, size := 0, slot := 3, exc := s.gateAt e n + 4 }
      c = .gate e ∧ s.Executes e ws { c := some (.gate n), len := ws.length } ∧ s.GateWords e n d v ∨
        c = .farLoadResponse e ∧ s.Waits e .load ws { c := some (.gate n), len := ws.length } ∧ isNewt e = false ∧
          (s.eng e).got = [d] ∧ (s.eng e).reply = .words [v] ∧ s.ahead e l = .free ∧ s.cached e l.addr = none) →
     (let w := v.toNat
      (s.ring e ≤ w / 16 % 4 → w % 4 ≤ s.ring e → (s.eng e).stack.length < 16 → (isNewt e = false → s.Quiet e ws) →
         ∃ t, exec c s = .next t ∧ Completed s t e (d.toNat / 4 * 4) ∧ t.ring e = w % 4 ∧
           (t.eng e).stack = { ret := ((s.eng e).pc + 4 * ws.length) % 2 ^ 32, retRing := s.ring e, owner := w % 4, gate := true } ::
             (s.eng e).stack ∧ (t.eng e).rsv = none ∧ (t.eng e).a = (s.eng e).a ∧
           (∀ f ∈ [ENG_S.iel, ENG_S.ct, ENG_S.z, ENG_S.n, ENG_S.c, ENG_S.v], t.get (aENG_S e) f = s.get (aENG_S e) f) ∧
           (s.Quiet e ws → SameBut s t [aENG_S e, aENG_STATUS e] [e])) ∧
      ((w / 16 % 4 < s.ring e ∨ s.ring e < w % 4 ∨ 16 ≤ (s.eng e).stack.length) → s.Enterable e 4 →
         ∃ t, exec c s = .next t ∧ Excepted s t e 4 3))) ∧
   (∀ (e : Eng) (s : State) (ws : List Word) (x : CallEntry) (l : List CallEntry),
     s.Executes e ws { c := some .gret, len := ws.length } → (s.eng e).stack = x :: l → x.gate = true → x.owner = s.ring e → x.retRing < 4 →
     (isNewt e = false → s.Quiet e ws) →
     ∃ t, exec (.gret e) s = .next t ∧ Completed s t e x.ret ∧ (t.eng e).stack = l ∧ t.ring e = x.retRing ∧ (t.eng e).rsv = none ∧
       (∀ f ∈ [ENG_S.iel, ENG_S.ct, ENG_S.z, ENG_S.n, ENG_S.c, ENG_S.v], t.get (aENG_S e) f = s.get (aENG_S e) f) ∧
       (t.eng e).a = (s.eng e).a ∧ (s.Quiet e ws → SameBut s t [aENG_S e, aENG_STATUS e] [e])) ∧
   (∀ (e : Eng) (s : State) (ws : List Word), s.Executes e ws { c := some .gret, len := ws.length } →
     (∀ x, (s.eng e).stack.head? = some x → x.gate = false ∨ x.owner ≠ s.ring e) → s.Enterable e 4 →
     ∃ t, exec (.gret e) s = .next t ∧ Excepted s t e 4 3))

/-- R238, R258: with no frame spilled, `ERET` restores A, E, X, Y, S, PC, the loop counts and the block move's registers from the newest
bank and frees the bank, when the stacked ring is not more privileged than ORIG_RING. When it is, the context stays, and vector 18 is taken
in ring 0 with the attempted ring recorded. With no context at all, no_context is recorded. Where a Newt's context was spilled, the frame at
SPILL_PTR is restored in the same way, SPILL_PTR rises by a frame and spill_depth falls by 1. -/
def Obligations.EretRestores : Prop :=
  (∀ (e : Eng) (s : State) (ws : List Word) (d : Nat), s.Executes e ws { c := some .eret, len := ws.length } →
    s.get (aLIC_STATUS e) LIC_STATUS.spill_depth = 0 → s.get (aENG_STATUS e) ENG_STATUS.ctx_used = d + 1 →
    (∀ i, i < 12 → s.ue.contains (aCTX e d i) = false ∧ s.ce.contains (aCTX e d i) = false) →
    (let c (i : Nat) : Word := s.reg (aCTX e d i)
     (c 11).toNat % 4 ≤ getBits (c 4) ENG_S.ring → (isNewt e = false → s.Quiet e ws) →
     ∃ t, exec (.eret e) s = .next t ∧ t.get (aENG_STATUS e) ENG_STATUS.ctx_used = d ∧
      (t.eng e).a = c 0 ∧ (t.eng e).e = c 1 ∧ (t.eng e).x = c 2 ∧ (t.eng e).y = c 3 ∧ (t.eng e).pc = (c 5).toNat / 4 * 4 ∧
      (∀ f ∈ fENG_S, t.get (aENG_S e) f = getBits (c 4) f) ∧ t.reg (aLC0 e) = c 6 ∧ t.reg (aLC1 e) = c 7 ∧
      (t.eng e).ts = c 8 ∧ (t.eng e).td = c 9 ∧ (t.eng e).tc = c 10 ∧ (t.eng e).rsv = none ∧ (t.eng e).stack = (s.eng e).stack ∧
      (s.Quiet e ws → SameBut s t [aENG_S e, aENG_STATUS e, aLC0 e, aLC1 e] [e]))) ∧
  (∀ (e : Eng) (s : State) (ws : List Word), s.Executes e ws { c := some .eret, len := ws.length } → isNewt e = true →
    s.get (aLIC_STATUS e) LIC_STATUS.spill_depth ≠ 0 →
    (let p := (s.reg (aSPILL_PTR e)).toNat
     let c (i : Nat) : Word := s.word (engRam e + 4 * p + 4 * i)
     (∀ i, i < 16 → s.ue.contains (engRam e + 4 * p + 4 * i) = false ∧ s.ce.contains (engRam e + 4 * p + 4 * i) = false) →
     (c 11).toNat % 4 ≤ getBits (c 4) ENG_S.ring →
     ∃ t, exec (.eret e) s = .next t ∧ t.get (aENG_STATUS e) ENG_STATUS.ctx_used = s.get (aENG_STATUS e) ENG_STATUS.ctx_used ∧
      t.reg (aSPILL_PTR e) = BitVec.ofNat 32 (p + 16) ∧
      t.get (aLIC_STATUS e) LIC_STATUS.spill_depth = s.get (aLIC_STATUS e) LIC_STATUS.spill_depth - 1 ∧
      (t.eng e).a = c 0 ∧ (t.eng e).e = c 1 ∧ (t.eng e).x = c 2 ∧ (t.eng e).y = c 3 ∧ (t.eng e).pc = (c 5).toNat / 4 * 4 ∧
      (∀ f ∈ fENG_S, t.get (aENG_S e) f = getBits (c 4) f) ∧ t.reg (aLC0 e) = c 6 ∧ t.reg (aLC1 e) = c 7 ∧
      (t.eng e).ts = c 8 ∧ (t.eng e).td = c 9 ∧ (t.eng e).tc = c 10 ∧ (t.eng e).rsv = none ∧ (t.eng e).stack = (s.eng e).stack ∧
      (s.Quiet e ws → SameBut s t [aENG_S e, aENG_STATUS e, aLC0 e, aLC1 e, aSPILL_PTR e, aLIC_STATUS e] [e]))) ∧
  (∀ (e : Eng) (s : State) (ws : List Word) (d : Nat), s.Executes e ws { c := some .eret, len := ws.length } →
    s.get (aLIC_STATUS e) LIC_STATUS.spill_depth = 0 → s.get (aENG_STATUS e) ENG_STATUS.ctx_used = d + 1 →
    (∀ i, i < 12 → s.ue.contains (aCTX e d i) = false) → s.Enterable e 18 →
    (let c (i : Nat) : Word := s.reg (aCTX e d i)
     getBits (c 4) ENG_S.ring < (c 11).toNat % 4 →
     ∃ t, exec (.eret e) s = .next t ∧ Entered s t e 18 (some 8) (aRPF_INFO e :: excRegs e) ∧ t.ring e = 0 ∧
      t.on (aRPF_INFO e) RPF_INFO.valid = true ∧ t.on (aRPF_INFO e) RPF_INFO.no_context = false ∧
      t.get (aRPF_INFO e) RPF_INFO.attempted_ring = getBits (c 4) ENG_S.ring ∧
      t.get (aRPF_INFO e) RPF_INFO.orig_ring = (c 11).toNat % 4 ∧ t.get (aRPF_INFO e) RPF_INFO.eret_ring = s.ring e ∧
      ∀ i, i < 12 → t.reg (aCTX e d i) = c i)) ∧
  (∀ (e : Eng) (s : State) (ws : List Word), s.Executes e ws { c := some .eret, len := ws.length } →
    s.get (aLIC_STATUS e) LIC_STATUS.spill_depth = 0 → s.get (aENG_STATUS e) ENG_STATUS.ctx_used = 0 → s.Enterable e 18 →
    (∀ n, ({ s with fresh := n } : State).vecWord e 18 = s.vecWord e 18) →
    ∃ t, exec (.eret e) s = .next t ∧ Entered s t e 18 (some 8) (aRPF_INFO e :: excRegs e) ∧
      t.on (aRPF_INFO e) RPF_INFO.no_context = true)

/-- R254, R255: with four levels in banks, an entry spills its context: twelve words and four words of 0 as one frame below SPILL_PTR, which
falls by a frame while spill_depth rises; where the frame does not fit above SPILL_LIM, the engine takes vector 15 in ring 0 with iel 8,
stacks nothing, and records the vector that is lost. -/
def Obligations.FifthEntrySpills : Prop :=
  (∀ (s : State) (e v : Nat) (iel lic : Option Nat) (x : Exc), isNewt e = true → s.ue.contains (s.vecAddr e v) = false →
    (∀ i, lic = some i → i < 64 ∧ vecRing v (s.vecWord e v) ≤ s.ring e) → s.get (aENG_STATUS e) ENG_STATUS.ctx_used = 4 →
    (s.reg (aSPILL_LIM e)).toNat + 16 ≤ (s.reg (aSPILL_PTR e)).toNat → s.get (aLIC_STATUS e) LIC_STATUS.spill_depth < 31 →
    (let p := (s.reg (aSPILL_PTR e)).toNat - 16
     let t := s.takeVec e v iel x lic
     (∀ i, i < 16 → t.word (engRam e + 4 * p + 4 * i) = (s.context e).getD i 0) ∧
      (t.reg (aSPILL_PTR e)).toNat = p ∧ t.get (aENG_STATUS e) ENG_STATUS.ctx_used = 4 ∧
      t.get (aLIC_STATUS e) LIC_STATUS.spill_depth = s.get (aLIC_STATUS e) LIC_STATUS.spill_depth + 1 ∧
      (t.eng e).pc = vecPc (s.vecWord e v) ∧ (∀ a, a < engRam e + 4 * p ∨ engRam e + 4 * p + 64 ≤ a → t.byte a = s.byte a))) ∧
  (∀ (s : State) (e v : Nat) (iel lic : Option Nat) (x : Exc), (s.giveWay e).readVec e v = (s.giveWay e, .word (s.vecWord e v)) →
    (s.giveWay e).readVec e 15 = (s.giveWay e, .word (s.vecWord e 15)) → s.frameRoom e = true →
    (lic.isSome = true → vecRing v (s.vecWord e v) ≤ s.ring e) → 4 ≤ s.get (aENG_STATUS e) ENG_STATUS.ctx_used →
    (s.reg (aSPILL_PTR e)).toNat < (s.reg (aSPILL_LIM e)).toNat + frameLen e → v < 64 →
    (let t := s.takeVec e v iel x lic
     t.ring e = 0 ∧ t.get (aENG_S e) ENG_S.iel = 8 ∧ (t.eng e).pc = vecPc (s.vecWord e 15) ∧
      t.get (aENG_STATUS e) ENG_STATUS.ctx_used = s.get (aENG_STATUS e) ENG_STATUS.ctx_used ∧
      t.reg (aSPILL_PTR e) = s.reg (aSPILL_PTR e) ∧ t.on (aLIC_STATUS e) LIC_STATUS.spill_fault = true ∧
      t.get (aLIC_STATUS e) LIC_STATUS.lost_vector = v ∧ ∀ a, t.byte a = s.byte a))

/-- R263, R249: at a boundary where no asynchronous exception is pending, the takeable LIC input that is due is entered: iel becomes its
priority plus 1, its software pending bit clears, LIC_TAKEN names it, and the moderation of its vector's inputs starts; a pending vector 13,
10 or 17 is entered first, in that order, with iel 8, and is pending no more. An input whose entry word, once it is read, names a ring below
the present one is not entered (R262). R256: when the read of a vector entry meets an uncorrectable error, the engine halts, sets halted and
entry_fail, and records the vector in fail_vector; so does a handler whose first bundle raises an exception of order 1 to 3. Software
pending bits, routing and the levels of router sources: LIC_SWP takes the written bits from rings 0 and 1; a legal write to ROUTE_CFG steers
its source as it says; a source's level reaches the engines as it stands. -/
def Obligations.EntriesAndRouting : Prop :=
  ((∀ (e : Eng) (s : State) (i : Nat), s.canEnter e = true → nextAsync (s.eng e).pend = none → s.licBest e = some i →
     s.Enterable e (32 + i % 32) → vecRing (32 + i % 32) (s.vecWord e (32 + i % 32)) ≤ s.ring e →
     (s.swNow (aLIC_SWP0 e + i / 32 * 4)).getLsbD (i % 32) = false →
     ∃ t, exec (.interruptEntry e) s = .next t ∧
       Entered s t e (32 + i % 32) (some (s.licPrio e i + 1)) [aLIC_TAKEN e, aLIC_SWP0 e + i / 32 * 4] ∧
       t.swp e i = false ∧ t.on (aLIC_TAKEN e) LIC_TAKEN.valid = true ∧ t.get (aLIC_TAKEN e) LIC_TAKEN.input = i ∧
       t.get (aLIC_TAKEN e) LIC_TAKEN.prio = s.licPrio e i ∧
       sget none (t.eng e).moder (i % 32) = some s.tb ∧ (isNewt e = false → sget none (t.eng e).moder (i % 32 + 32) = some s.tb)) ∧
   (∀ (e : Eng) (s : State) (i : Nat) (iel : Option Nat) (x : Exc) (w : Word), isNewt e = false →
     (s.eng e).wait = .entry (32 + i % 32) iel x (some i) → s.goesOn e = true → s.frameRoom e = true →
     (s.readVec e (32 + i % 32)).2 = .word w → s.ring e < vecRing (32 + i % 32) w →
     ∃ t, exec (.farLoadResponse e) s = .next t ∧ i ∈ (t.eng e).skip ∧ (t.eng e).wait = .none ∧ (t.eng e).pc = (s.eng e).pc ∧
       t.ring e = s.ring e ∧ SameFlags s t e ∧ SameBut s t [aENG_STATUS e] [e]) ∧
   (∀ (e : Eng) (s : State) (v : Nat), s.canEnter e = true → nextAsync (s.eng e).pend = some v → s.Enterable e v →
     ∃ t, exec (.asyncExceptionEntry e) s = .next t ∧ Entered s t e v (some 8) (excRegs e) ∧ (t.eng e).pend = (s.eng e).pend.erase v ∧
       t.get (aEXC_INFO e) EXC_INFO.vector = v ∧ t.on (aEXC_INFO e) EXC_INFO.async = true ∧
       (v = 13 ∨ v = 10 ∧ 13 ∉ (s.eng e).pend ∨ v = 17 ∧ 13 ∉ (s.eng e).pend ∧ 10 ∉ (s.eng e).pend)) ∧
   (∀ (e : Eng) (i : Fin 64) (u : Nat) (s : State), sget none (s.eng e).moder i = some u →
     u + s.get (aLIC_CFG e i) LIC_CFG.mod_ns ≤ s.tb →
     ∃ t, exec (.moderationExpiry e i) s = .next t ∧ sget none (t.eng e).moder i = none ∧ SameBut s t [] [e])) ∧
  (∀ (s : State) (e v : Nat) (iel lic : Option Nat) (x : Exc), v < 64 →
     (((s.giveWay e).readVec e v).2 = .bad true → s.frameRoom e = true →
       (let t := s.takeVec e v iel x lic
       t.halted e = true ∧ t.on (aLIC_STATUS e) LIC_STATUS.entry_fail = true ∧ t.get (aLIC_STATUS e) LIC_STATUS.fail_vector = v ∧
       (isNewt e = true → (t.eng e).pc = (s.eng e).pc ∧
         t.get (aECC_CNT e) ECC_CNT.ue_cnt = min (s.get (aECC_CNT e) ECC_CNT.ue_cnt + 1) 65535 ∧ ∀ a, t.byte a = s.byte a))) ∧
     (∀ n, (s.eng e).first = some v → (let t := s.except e n true x
       t.halted e = true ∧ t.on (aLIC_STATUS e) LIC_STATUS.entry_fail = true ∧ t.get (aLIC_STATUS e) LIC_STATUS.fail_vector = v ∧
       (t.eng e).pc = (s.eng e).pc ∧ ∀ a, t.byte a = s.byte a))) ∧
  ((∀ (q : Req) (e : Eng) (w : Word) (s : State), e.val < 256 → s.admits q (islCLU (e.val / 16)) = true → s.ctlFar q = true →
     s.waits q (islCLU (e.val / 16)) = false → s.hwNow (aLIC_SWP0 e) = 0 →
     ∃ t, exec (.licSwpWrite q e false w) s = .next t ∧ t.reg (aLIC_SWP0 e) = w ∧ t.respOf q = { err := false, val := 0 } ∧
       SameBut s t [aLIC_SWP0 e] []) ∧
   (∀ (q : Req) (p : Fin 2) (hi : Bool) (w : Word) (s : State), s.Reaches q (islSUP p) →
     (q = .skink p ∧ s.ringOf q ≤ 1 ∨ q = .debug) → s.hwNow (aLIC_SWP0 (256 + p) + if hi then 4 else 0) = 0 →
     ∃ t, exec (.licSwpWrite q ⟨256 + p, by omega⟩ hi w) s = .next t ∧ t.reg (aLIC_SWP0 (256 + p) + if hi then 4 else 0) = w ∧
       t.respOf q = { err := false, val := 0 } ∧ SameBut s t [aLIC_SWP0 (256 + p) + if hi then 4 else 0] []) ∧
   (∀ (q : Req) (i : Fin 512) (w : Word) (s : State), s.Reaches q islAON → s.ringOf q ≤ 1 → getBits w ROUTE_CFG.engine < 258 →
     (getBits w ROUTE_CFG.engine < 256 → getBits w ROUTE_CFG.input < 32) →
     ∃ t, exec (.routeCfgWrite q i w) s = .next t ∧
       (∀ e n, t.steered i e n = (getBits w ROUTE_CFG.en != 0 && getBits w ROUTE_CFG.engine == e && getBits w ROUTE_CFG.input == n)) ∧
       t.respOf q = { err := false, val := 0 } ∧ SameBut s t [aROUTE_CFG i] []) ∧
   (∀ (q : Req) (i : Fin 512) (w : Word) (s : State), 1 < s.ringOf q →
     ∃ t, exec (.routeCfgWrite q i w) s = .next t ∧ t.respOf q = { err := true, val := 0 } ∧ SameBut s t [] []) ∧
   (∀ (i : Fin 512) (s : State), s.alive islAON = true →
     ∃ t, exec (.routerSourceChange i) s = .next t ∧ (i.val ∈ t.routed ↔ s.routerLevel i = true) ∧
       (∀ j, j ≠ i.val → (j ∈ t.routed ↔ j ∈ s.routed)) ∧ SameBut s t [] []))

/-- R161, R162: run going from 0 to 1 starts a READY Newt at vector 0: A = 0, S at its reset values but for the ring of entry 0, the loop
counts and the call stack empty, no context stacked, halted = 0. run going from 1 to 0 halts a Newt that is between bundles and whose clock
runs at once, with its state kept, and any other at the end of its bundle or once its clock runs again. R158, R159: a kick with key 0xA5
reloads the count, any other value sets bad_key and reloads nothing. At 0 the first expiry sets first_expiry, reloads and makes vector 13
pending; with first_expiry still set a failure of cause 1 is reported: the Newt is failed and out of READY, stops at its bundle boundary,
and waits for its regrow (R516). -/
def Obligations.NewtControl : Prop :=
  (∀ (q : Req) (n : Fin 256) (w : Word) (s : State), s.admits q (islCLU (n.val / 16)) = true → s.ctlFar q = true →
     s.waits q (islCLU (n.val / 16)) = false → s.hwNow (aENG_CTRL n) = 0 → s.StagesIn (s.rsel (reqNum q)) (aENG_CTRL n) →
     (s.on (aENG_CTRL n) ENG_CTRL.run = false → getBits w ENG_CTRL.run = 1 → s.newtReady n = true →
       s.ue.contains (s.vecAddr n 0) = false → s.ce.contains (s.vecAddr n 0) = false →
       ∃ t, exec (.newtRunStart q n w) s = .next t ∧ t.on (aENG_CTRL n) ENG_CTRL.run = true ∧ t.halted n = false ∧
         (t.eng n).pc = vecPc (s.vecWord n 0) ∧ (t.eng n).a = 0 ∧ t.ring n = vecRing 0 (s.vecWord n 0) ∧
         (∀ f ∈ fENG_S, f ≠ ENG_S.ring → t.get (aENG_S n) f = f.rst) ∧ t.reg (aLC0 n) = 0 ∧ t.reg (aLC1 n) = 0 ∧
         (t.eng n).stack = [] ∧ t.get (aENG_STATUS n) ENG_STATUS.ctx_used = s.get (aENG_STATUS n) ENG_STATUS.ctx_used ∧
         t.respOf q = { err := false, val := 0 } ∧
         SameBut s t [aENG_CTRL n, aENG_S n, aENG_STATUS n, aLC0 n, aLC1 n, aREGROW_CFG (n.val / 16), aCG_STATUS (s.rsel (reqNum q)), aMODE] [n]) ∧
     (s.on (aENG_CTRL n) ENG_CTRL.run = true → getBits w ENG_CTRL.run = 0 → s.halted n = false →
       ∃ t, exec (.newtRunStop q n w) s = .next t ∧ t.on (aENG_CTRL n) ENG_CTRL.run = false ∧
         (s.atRest n = true → s.clocked n = true → t.halted n = true ∧ (t.eng n).rsv = none) ∧
         (s.atRest n = false ∨ s.clocked n = false → (t.eng n).halting = true) ∧
         (t.eng n).pc = (s.eng n).pc ∧ (t.eng n).a = (s.eng n).a ∧ (t.eng n).buf = (s.eng n).buf ∧ t.respOf q = { err := false, val := 0 } ∧
         SameBut s t [aENG_CTRL n, aENG_STATUS n, aCG_STATUS (s.rsel (reqNum q)), aMODE] [n])) ∧
  ((∀ (q : Req) (n : Fin 256) (w : Word) (s : State),
     (q = .newt n ∧ s.reach (islCLU (n.val / 16)) = true ∨ s.admits q (islCLU (n.val / 16)) = true ∧ s.ctlFar q = true) →
     s.relocking (n.val / 16) = false → s.waits q (islCLU (n.val / 16)) = false →
     (getBits w WDT_KICK.key = 0xA5 →
       ∃ t, exec (.wdtKick q n w) s = .next t ∧ t.get (aWDT_STATUS n) WDT_STATUS.remaining = s.get (aWDT_CTRL n) WDT_CTRL.timeout ∧
         t.on (aWDT_STATUS n) WDT_STATUS.first_expiry = s.on (aWDT_STATUS n) WDT_STATUS.first_expiry ∧
         t.respOf q = { err := false, val := 0 } ∧ SameBut s t [aWDT_STATUS n] []) ∧
     (getBits w WDT_KICK.key ≠ 0xA5 →
       ∃ t, exec (.wdtKick q n w) s = .next t ∧ t.on (aWDT_STATUS n) WDT_STATUS.bad_key = true ∧
         t.get (aWDT_STATUS n) WDT_STATUS.remaining = s.get (aWDT_STATUS n) WDT_STATUS.remaining ∧
         t.respOf q = { err := false, val := 0 } ∧ SameBut s t [aWDT_STATUS n] [])) ∧
   (∀ (n : Fin 256) (s : State), s.wdtCounts n = true → s.get (aWDT_STATUS n) WDT_STATUS.remaining = 0 →
     (s.on (aWDT_STATUS n) WDT_STATUS.first_expiry = false →
       ∃ t, exec (.wdtExpiry n) s = .next t ∧ t.on (aWDT_STATUS n) WDT_STATUS.first_expiry = true ∧
         t.get (aWDT_STATUS n) WDT_STATUS.remaining = s.get (aWDT_CTRL n) WDT_CTRL.timeout ∧ 13 ∈ (t.eng n).pend ∧
         SameBut s t [aWDT_STATUS n] [n]) ∧
     (s.on (aWDT_STATUS n) WDT_STATUS.first_expiry = true → s.MayFail n →
       ∃ t, exec (.wdtExpiry n) s = .next t ∧ s.Reported t n 1 ∧
         (t.rgClu (n.val / 16)).waiting = (s.rgClu (n.val / 16)).waiting ++ [s.failure n 1] ∧
         SameBut s t (reportRegs n) [n])))

/-- R154, R156: the oldest entry of the far-store buffer leaves it in program order into the FIFO of its target island, with its ring and
the commit group in force, or, where it hits a write-back line of a Skink's D-cache, into that line; an arm request leaves only when every
far write before it is acknowledged; an error response is recorded in FAR_ADDR, FAR_DATA and FAR_STAT with vector 10 pending, or counted
when one is recorded already. R165, R167: CACHE_OP of ring 0 invalidates, cleans, or cleans and invalidates the lines that it names in the
caches that it names; a clean puts dirty lines into the store buffer as it has room, and the pair waits until all have left it; their
sixteen words land at their place. A line fill's request brings back the sixteen words of the line, and they end the wait in the way that
the set gives. The replacement of lines, and that a line is written back as one entry, are the model's choices (log entry 45). -/
def Obligations.FarStoresAndCaches : Prop :=
  ((∀ (e : Eng) (b : Store) (l : Line) (rest : List Store) (s : State), (s.eng e).buf = b :: rest → b.kind = .far →
     s.clocked e = true → s.drainOver e = false → (s.eng e).cop = none → s.cached e b.addr = some true →
     lineOf (s.eng e).dcache b.addr = some l →
     ∃ t, exec (.farStoreDrain e) s = .next t ∧ (t.eng e).buf = rest ∧ (t.eng e).acks = (s.eng e).acks ∧
       lineOf (t.eng e).dcache b.addr =
         some { l with words := l.words.set (b.addr % 64 / 4) (mergeStore (l.word b.addr) b), dirty := true } ∧
       (∀ i, t.fifo (engIsl e) i = s.fifo (engIsl e) i) ∧ SameBut s t [] [e]) ∧
   (∀ (e : Eng) (b : Store) (rest : List Store) (i : Nat) (s : State), (s.eng e).buf = b :: rest → b.kind = .far →
     s.cached e b.addr = none ∨ lineOf (s.eng e).dcache b.addr = none →
     s.clocked e = true → s.drainOver e = false → (s.eng e).cop = none → s.crossing b.addr = some i → s.reach i = true →
     (s.fifo (engIsl e) i).length < 8 →
     ∃ t, exec (.farStoreDrain e) s = .next t ∧ (t.eng e).buf = rest ∧ (t.eng e).acks = (s.eng e).acks + 1 ∧
       t.fifo (engIsl e) i = s.fifo (engIsl e) i ++ [{ eng := e, st := b, cg := s.rsel e }] ∧ SameBut s t [] [e]) ∧
   (∀ (p : Fin 2) (w : Word) (b : Store) (rest : List Store) (ws : List Word) (i : Nat) (s : State),
     (let e := 256 + p.val
      (s.eng e).buf = b :: rest → rest.length < 8 → b.kind = .line ws → (s.eng e).cop = some w → s.clocked e = true →
      inWindow b.addr = false → s.crossing b.addr = some i → s.reach i = true → (s.fifo (engIsl e) i).length < 8 →
      ∃ t, exec (.farStoreDrain ⟨e, by omega⟩) s = .next t ∧ (t.eng e).acks = (s.eng e).acks + 1 ∧
        t.fifo (engIsl e) i = s.fifo (engIsl e) i ++ [{ eng := e, st := b, cg := s.rsel e }] ∧
        (t.eng e).buf = rest ++ ((s.opDirty e w).take (8 - rest.length)).map
          (fun l => { kind := .line l.words, addr := l.addr, data := 0, size := 0, ring := 0 }) ∧
        (t.eng e).cop = (if rest = [] ∧ s.opDirty e w = [] then none else some w) ∧ SameBut s t [] [e])) ∧
   (∀ (e : Eng) (b : Store) (rest : List Store) (g : Nat) (s : State), (s.eng e).buf = b :: rest → b.kind = .arm g →
     s.clocked e = true → s.drainOver e = false → (s.eng e).cop = none → (s.eng e).acks = 0 → s.reach islSYS = true → (s.fifo (engIsl e) islSYS).length < 8 →
     ∃ t, exec (.farStoreDrain e) s = .next t ∧ (t.eng e).buf = rest ∧
       t.fifo (engIsl e) islSYS = s.fifo (engIsl e) islSYS ++ [{ eng := e, st := b, cg := s.rsel e }] ∧ SameBut s t [] [e]) ∧
   (∀ (src dst : Fin 26) (x : Xfer) (rest : List Xfer) (g : Nat) (s : State), s.fifo src dst = x :: rest → dst.val = islSYS →
     s.alive islSYS = true → s.initAt x.st.addr = false → x.st.kind = .arm g → x.eng < 258 →
     ∃ t, exec (.handshakeFifoDelivery src dst) s = .next t ∧ t.fifo src dst = rest ∧ t.cc.armReqs = s.cc.armReqs ++ [g] ∧
       SameBut s t [] []) ∧
   (∀ (e : Eng) (r : StoreErr) (rest : List StoreErr) (s : State), (s.eng e).errs = r :: rest →
     s.clocked e = true → s.on (aFAR_STAT e) FAR_STAT.valid = false → r.size ≤ 2 → r.cause < 4 → r.ring < 4 →
     ∃ t, exec (.impreciseStoreFault e) s = .next t ∧ t.reg (aFAR_ADDR e) = BitVec.ofNat 32 r.addr ∧ t.reg (aFAR_DATA e) = r.data ∧
       t.on (aFAR_STAT e) FAR_STAT.valid = true ∧ t.get (aFAR_STAT e) FAR_STAT.size = 2 - r.size ∧
       t.get (aFAR_STAT e) FAR_STAT.cause = r.cause ∧ t.get (aFAR_STAT e) FAR_STAT.ring = r.ring ∧ 10 ∈ (t.eng e).pend ∧
       (t.eng e).errs = rest ∧ (t.eng e).acks = (s.eng e).acks - 1 ∧ SameBut s t [aFAR_ADDR e, aFAR_DATA e, aFAR_STAT e] [e]) ∧
   (∀ (e : Eng) (r : StoreErr) (rest : List StoreErr) (s : State), (s.eng e).errs = r :: rest →
     s.clocked e = true → s.on (aFAR_STAT e) FAR_STAT.valid = true →
     ∃ t, exec (.impreciseStoreFault e) s = .next t ∧
       t.get (aFAR_STAT e) FAR_STAT.ovf_count = min (s.get (aFAR_STAT e) FAR_STAT.ovf_count + 1) 0xFFFF ∧
       (t.eng e).pend = (s.eng e).pend ∧ SameBut s t [aFAR_STAT e] [e])) ∧
  ((∀ (p : Fin 2) (w : Word) (s : State),
     (let e := 256 + p.val
      let c := getBits w SK_CACHE_OP.cache
      let hit (l : Line) : Bool := getBits w SK_CACHE_OP.all == 1 || l.addr == (s.reg (aSK_CACHE_ADDR e)).toNat / 64 * 64
      let d := (s.eng e).dcache
      let out (l : Line) : Store := { kind := .line l.words, addr := l.addr, data := 0, size := 0, ring := 0 }
      let dirty := d.filter (fun l => hit l && l.dirty)
      s.clocked e = true → s.ring e = 0 → (s.eng e).buf = [] → (s.eng e).cop = none →
      (getBits w SK_CACHE_OP.op = 0 →
         ∃ t, exec (.cacheInvalidate p w) s = .next t ∧ (t.eng e).cop = none ∧
           (t.eng e).icache = (if c % 2 = 1 then (s.eng e).icache.filter (fun l => !hit l) else (s.eng e).icache) ∧
           (t.eng e).dcache = (if 2 ≤ c then d.filter (fun l => !hit l) else d) ∧ SameBut s t [] [e]) ∧
      (getBits w SK_CACHE_OP.op = 1 → 2 ≤ c →
         ∃ t, exec (.cacheClean p w) s = .next t ∧ (t.eng e).buf = (dirty.take 8).map out ∧
           (t.eng e).icache = (s.eng e).icache ∧
           (t.eng e).dcache = d.map (fun l => if (dirty.take 8).contains l then { l with dirty := false } else l) ∧
           (t.eng e).cop = (if dirty = [] then none else some w) ∧ SameBut s t [] [e]) ∧
      (getBits w SK_CACHE_OP.op = 2 → 2 ≤ c → dirty = [] →
         ∃ t, exec (.cacheCleanInvalidate p w) s = .next t ∧ (t.eng e).buf = [] ∧ (t.eng e).cop = none ∧
           (t.eng e).icache = (if c % 2 = 1 then (s.eng e).icache.filter (fun l => !hit l) else (s.eng e).icache) ∧
           (t.eng e).dcache = d.filter (fun l => !hit l) ∧ SameBut s t [] [e]) ∧
      (getBits w SK_CACHE_OP.op = 2 → 2 ≤ c → dirty ≠ [] →
         ∃ t, exec (.cacheCleanInvalidate p w) s = .next t ∧ (t.eng e).buf = (dirty.take 8).map out ∧ (t.eng e).cop = some w ∧
           (t.eng e).icache = (s.eng e).icache ∧
           (t.eng e).dcache = d.map (fun l => if (dirty.take 8).contains l then { l with dirty := false } else l) ∧
           SameBut s t [] [e]))) ∧
   (∀ (src dst : Fin 26) (x : Xfer) (rest : List Xfer) (ws : List Word) (s : State), s.fifo src dst = x :: rest → dst.val = islSYS →
     s.alive islSYS = true → s.initAt x.st.addr = false → x.st.kind = .line ws → ws.length = 16 → 0x10000000 ≤ x.st.addr → x.st.addr < 0x107FFFC1 →
     x.st.addr % 64 = 0 → x.eng < 258 →
     ∃ t, exec (.handshakeFifoDelivery src dst) s = .next t ∧ t.fifo src dst = rest ∧
       (∀ i, i < 16 → t.word (x.st.addr + 4 * i) = ws.getD i 0) ∧ (t.eng x.eng).acks = (s.eng x.eng).acks - 1 ∧
       SameButMem s t [] [x.eng] x.st.addr 64) ∧
   (∀ (src dst : Fin 26) (x : Xfer) (rest : List Xfer) (p : Fin 2) (ic : Bool) (line : Nat) (s : State), s.fifo src dst = x :: rest →
     dst.val = islSYS → s.alive islSYS = true → s.initAt x.st.addr = false → x.st.kind = .op → x.st.size = 3 → x.st.addr = line →
     x.eng = 256 + p.val → (s.eng x.eng).wait = .fill ic line →
     line % 64 = 0 → 0x10000000 ≤ line → line < 0x10800000 →
     (∀ i, i < 16 → s.ue.contains (line + 4 * i) = false ∧ s.ce.contains (line + 4 * i) = false) →
     ∃ t, exec (.handshakeFifoDelivery src dst) s = .next t ∧ t.fifo src dst = rest ∧
       (t.eng x.eng).reply = .words ((List.range 16).map (fun i => s.word (line + 4 * i))) ∧ SameBut s t [] [x.eng]) ∧
   (∀ (p : Fin 2) (ic : Bool) (line : Nat) (ws : List Word) (s : State),
     (let e := 256 + p.val
      (s.eng e).wait = .fill ic line → s.goesOn e = true → s.lineDue e line = false → s.lineRoom e ic line = true → line % 64 = 0 →
      inWindow line = false → (s.eng e).reply = .words ws →
      ∃ t, exec (.cacheLineFill p) s = .next t ∧ (t.eng e).wait = .none ∧
       lineOf (if ic then (t.eng e).icache else (t.eng e).dcache) line =
         some { addr := line, words := ws, dirty := false, way := (s.eng e).wayFor ic line } ∧ SameBut s t [] [e])))

/-- R283: a compare value (v, fc) acts in the up sweep exactly for v < p, in the tick with count v at offset fc; in the down sweep of a
whole period its edge lies 2p ns − (128·v + fc) steps after the start of the period, whether fc is 0 or not, exactly for values above 0 and
at most p ns; outside these ranges it never acts. -/
def Obligations.CompareActionTicks : Prop :=
  ∀ (x : Slice) (v fc : Nat), x.downFrom = none → fc < 128 →
    (∀ t f, x.upAction v fc = some (t, f) ↔ v < x.p ∧ t = x.s / 128 + v ∧ f = fc) ∧
    (∀ t f, x.downAction v fc = some (t, f) → 128 * t + f + x.phi = x.s + 256 * x.p - (128 * v + fc) ∧ 0 ≤ f ∧ f < 128) ∧
    (x.downAction v fc = none ↔ 128 * v + fc = 0 ∨ 128 * x.p < 128 * v + fc)

/-- R280: the position that a synchronisation sets is PHS mod the period length, or in UPDOWN with sync_dir = 1 (256·p − PHS) mod that
length; it lies in the period. An activation of the input, or sw_sync, sets S = 128·ts − pos and neither starts nor stops the slice (of a
ONESHOT that it sets past count p − 1 nothing is said: log 40); at a stagger member it is discarded and sets stg_err. R281, R282: run coming
to govern starts a slice as if synchronised, with its outputs at 0, or arms a ONESHOT slice; a start of an armed ONESHOT slice that does not
count makes it count once; any other start is discarded and sets sovr; a slice that must stop does so at the end of its period, and its
balls take their idle levels. Where a rule leaves a corner of it open, the model's choices are log entries 20, 40 and 50. -/
def Obligations.SlicesSynchroniseAndStart : Prop :=
  ((∀ (s : State) (n p fp : Nat), 0 < p →
     s.position n p fp = ((if s.slMode n = 1 ∧ s.on (aSL_CTRL n) SL_CTRL.sync_dir = true then (256 * p : Int) - (s.reg (aPHS n)).toNat
       else (s.reg (aPHS n)).toNat) % (periodLen (s.slMode n) p fp : Int)) ∧
     0 ≤ s.position n p fp ∧ s.position n p fp < periodLen (s.slMode n) p fp) ∧
   (∀ (n : Fin 64) (a : Act) (s : State), s.actFor (2192 + n) = some a → s.captureOwed n a.take = false →
     (s.member n = false →
       ∃ t, exec (.sliceSync n) s = .next t ∧
         (t.slice n).s = 128 * (a.take : Int) - s.position n (s.periodOf n).1 (s.periodOf n).2 ∧
         (t.slice n).p = (s.periodOf n).1 ∧ (t.slice n).fp = (s.periodOf n).2 ∧
         (s.slMode n ≠ 2 ∨ s.position n (s.periodOf n).1 (s.periodOf n).2 ≤ 128 * (((s.periodOf n).1 : Int) - 1) →
           (t.slice n).counting = (s.slice n).counting) ∧
         t.fab.acts = s.fab.acts.erase a ∧ (∀ m, m ≠ n.val → t.slice m = s.slice m) ∧ SameBut s t [] []) ∧
     (s.member n = true →
       ∃ t, exec (.sliceSync n) s = .next t ∧ t.on (aSL_STATUS n) SL_STATUS.stg_err = true ∧ (t.slice n).s = (s.slice n).s ∧
         (t.slice n).counting = (s.slice n).counting ∧ (∀ m, m ≠ n.val → t.slice m = s.slice m) ∧ SameBut s t [aSL_STATUS n] [])) ∧
   (∀ (q : Req) (n : Fin 64) (w : Word) (s : State), s.Reaches q (islTIM (n.val / 16)) → s.carried = none →
     getBits w SL_CTRL.sw_sync = 1 → getBits w SL_CTRL.sw_start = 0 → s.StagesIn (s.rsel (reqNum q)) (aSL_CTRL n) →
     s.member n = false → s.WriteAlone n →
     ∃ u t, exec (.swSync q n w) s = .next u ∧ SameBut s u [] [] ∧ (u.slice n).s = (s.slice n).s ∧
       exec (.sliceWriteCapture n) (u.later 2) = .next t ∧
       (t.slice n).s = 128 * (s.tb + 2 : Int) - s.position n (s.periodOf n).1 (s.periodOf n).2 ∧
       (s.slMode n ≠ 2 ∨ s.position n (s.periodOf n).1 (s.periodOf n).2 ≤ 128 * (((s.periodOf n).1 : Int) - 1) →
         (t.slice n).counting = (s.slice n).counting) ∧ (t.slice n).writes = [] ∧ t.respOf q = { err := false, val := 0 } ∧
       (∀ m, m ≠ n.val → t.slice m = s.slice m) ∧ SameBut (s.later 2) t [aCG_STATUS (s.rsel (reqNum q))] [])) ∧
  ((∀ (n : Fin 64) (u : Nat) (s : State), (s.slice n).runPend = some u → u ≤ s.tb → s.sliceHeld n u = false →
     s.on (aSL_CTRL n) SL_CTRL.run = true →
     s.isReady (13 + n.val / 32) (n.val % 32) = true → s.chained n = false → s.member n = false →
     ∃ t, exec (.sliceRunStart n) s = .next t ∧ (t.slice n).runPend = none ∧ (t.slice n).wave = {} ∧ (t.slice n).acts = [] ∧
       (s.slMode n = 2 → (t.slice n).armed = true ∧ (t.slice n).counting = (s.slice n).counting) ∧
       (s.slMode n ≠ 2 → (t.slice n).counting = true ∧
         (t.slice n).s = 128 * (u : Int) - s.position n (s.periodOf n).1 (s.periodOf n).2) ∧
       (∀ m, m ≠ n.val → t.slice m = s.slice m) ∧ SameBut s t [] []) ∧
   (∀ (n : Fin 64) (a : Act) (s : State), s.actFor (3000 + n) = some a → s.captureOwed n a.take = false → s.member n = false →
     (s.slMode n = 2 → (s.slice n).armed = true → (s.slice n).counting = false →
       (let pos := s.position n (s.periodOf n).1 (s.periodOf n).2
        ∃ t, exec (.sliceStart n) s = .next t ∧
         (t.slice n).counting = decide (pos ≤ 128 * (((s.periodOf n).1 : Int) - 1)) ∧ (t.slice n).started = true ∧
         (t.slice n).armed = true ∧ (t.slice n).s = 128 * (a.take : Int) - pos ∧ (t.slice n).p = (s.periodOf n).1 ∧
         t.fab.acts = s.fab.acts.erase a ∧ (∀ m, m ≠ n.val → t.slice m = s.slice m) ∧ SameBut s t [] [])) ∧
     (s.slMode n ≠ 2 ∨ (s.slice n).armed = false ∨ (s.slice n).counting = true →
       ∃ t, exec (.sliceStart n) s = .next t ∧ t.on (aSL_STATUS n) SL_STATUS.sovr = true ∧ (t.slice n).s = (s.slice n).s ∧
         (t.slice n).counting = (s.slice n).counting ∧ (∀ m, m ≠ n.val → t.slice m = s.slice m) ∧ SameBut s t [aSL_STATUS n] [])) ∧
   (∀ (q : Req) (n : Fin 64) (w : Word) (s : State), s.Reaches q (islTIM (n.val / 16)) → s.carried = none →
     getBits w SL_CTRL.sw_start = 1 → getBits w SL_CTRL.sw_sync = 0 → s.StagesIn (s.rsel (reqNum q)) (aSL_CTRL n) →
     s.member n = false → s.WriteAlone n → s.slMode n = 2 → (s.slice n).armed = true → (s.slice n).counting = false →
     (let pos := s.position n (s.periodOf n).1 (s.periodOf n).2
      ∃ u t, exec (.swStart q n w) s = .next u ∧ SameBut s u [] [] ∧ (u.slice n).counting = false ∧
       exec (.sliceWriteCapture n) (u.later 2) = .next t ∧
       (t.slice n).counting = decide (pos ≤ 128 * (((s.periodOf n).1 : Int) - 1)) ∧ (t.slice n).started = true ∧
       (t.slice n).s = 128 * (s.tb + 2 : Int) - pos ∧ (t.slice n).writes = [] ∧ t.respOf q = { err := false, val := 0 } ∧
       (∀ m, m ≠ n.val → t.slice m = s.slice m) ∧ SameBut (s.later 2) t [aCG_STATUS (s.rsel (reqNum q))] [])) ∧
   (∀ (n : Fin 64) (s : State), (s.slice n).counting = true → s.stopping n = true → (s.slice n).endTick (s.slMode n) ≤ s.tb →
     s.sliceHeld n ((s.slice n).endTick (s.slMode n)) = false →
     ∃ t, exec (.sliceStop n) s = .next t ∧ (t.slice n).counting = false ∧ (t.slice n).armed = false ∧ (t.slice n).wave = {} ∧
       (t.slice n).acts = [] ∧ t.sliceOut n false = s.on (aSL_OUT n) SL_OUT.idle_a ∧ t.sliceOut n true = s.on (aSL_OUT n) SL_OUT.idle_b ∧
       SameBut s t ((List.range 32).map aBW_STATUS) []))

/-- R276 to R279: at its zero tick a slice fires its zero event and sets zero_f; a new period starts at S + len with PER, or, where a
forward step of TB passed that tick, in the first tick after the step (R48), and the shadows whose load point is ZERO have loaded; the
period event fires in its own tick, or likewise in the first after such a step, after which a ONESHOT slice counts no more. Compares and
edge lists: the action tick of a compare value fires its event once, sets its flag and acts on the outputs; that of an edge-list entry acts,
and with ev = 1 fires the edge-list event; the recalibration of the fine-delay tables, every 1 ms, changes nothing that can be read (R298).
R278, R279: the first captured write of a slice governs from the tick after its edge: a compare, PHS or edge-list value with load point
IMMEDIATE, or while the slice does not count, becomes the active register; with a later load point it waits in the shadow, and the active
register is as it was. Where a rule leaves a corner of it open, the model's choices are log entries 20, 40 and 50. -/
def Obligations.SlicePeriodsAndActions : Prop :=
  ((∀ (n : Fin 64) (s : State), s.mode ≠ .frost → s.chained n = false → (s.slice n).counting = true → (s.slice n).zeroPend = true →
     (s.slice n).z ≤ s.tb → s.sliceHeld n (s.slice n).z = false →
     ∃ t, exec (.sliceZero n) s = .next t ∧ (t.slice n).zeroPend = false ∧ (t.slice n).s = (s.slice n).s ∧
       (t.slice n).counting = true ∧ t.on (aSL_STATUS n) SL_STATUS.zero_f = true ∧ Fires s t (8 * n) (s.slice n).z.toNat ∧
       SameBut s t ([aSL_STATUS n] ++ loadAddrs n ++ (List.range 32).map aTZ_STATUS) []) ∧
   (∀ (n : Fin 64) (s : State), s.mode ≠ .frost → s.chained n = false → (s.slice n).counting = true → (s.slice n).zeroPend = false →
     (s.slice n).perPend = false → s.stopping n = false → s.slMode n ≠ 2 → s.member n = false → (s.slice n).noFine = false →
     (let st := s.dueStart ((s.slice n).s + periodLen (s.slMode n) (s.slice n).p (s.slice n).fp)
      st / 128 ≤ s.tb → s.sliceHeld n (st / 128) = false →
      ∃ t, exec (.sliceZero n) s = .next t ∧ (t.slice n).s = st ∧ (t.slice n).counting = true ∧ (t.slice n).perPend = true ∧
       (t.slice n).p = timeNs (t.reg (aPER n)) ∧ (t.slice n).fp = timeFine (t.reg (aPER n)) ∧
       t.on (aSL_STATUS n) SL_STATUS.zero_f = true ∧ Fires s t (8 * n) (st / 128).toNat ∧
       ((s.slice n).writes = [] →
         (∀ c v, c < 4 → sget none (s.slice n).shadow (aCMP n c) = some v → s.loadPoint n (aCMP n c) = 1 → t.reg (aCMP n c) = v) ∧
         (∀ a, a ∈ loadAddrs n → sget none (s.slice n).shadow a = none → t.reg a = s.reg a)) ∧
       SameBut s t ([aSL_STATUS n] ++ loadAddrs n ++ (List.range 32).map aTZ_STATUS) [])) ∧
   (∀ (n : Fin 64) (s : State), s.mode ≠ .frost → s.chained n = false → (s.slice n).counting = true → (s.slice n).perPend = true →
     (let u := s.dueEvent ((s.slice n).perTick (s.slMode n))
      u ≤ s.tb → s.sliceHeld n u = false →
      ∃ t, exec (.slicePeriod n) s = .next t ∧ (t.slice n).perPend = false ∧ t.on (aSL_STATUS n) SL_STATUS.per_f = true ∧
       (t.slice n).counting = (s.slMode n != 2) ∧ Fires s t (8 * n + 1) u.toNat ∧
       SameBut s t ([aSL_STATUS n] ++
         if s.slMode n = 1 then loadAddrs n else if s.slMode n = 2 then (List.range 32).map aBW_STATUS else []) []))) ∧
  ((∀ (n : Fin 64) (c : Fin 4) (s : State) (u f : Int) (down : Bool) (k : Nat), s.mode ≠ .frost → s.slCounting n = true →
     s.cmpDue n c = some (u, f, down, k) → s.sliceHeld n u = false →
     ∃ t, exec (.compareMatch n c) s = .next t ∧ s.ActedOn t n k ∧ t.on (aSL_STATUS n) (cmpFlag c) = true ∧
       Fires s t (8 * n + 2 + c) u.toNat ∧ (t.slice n).s = (s.slice n).s ∧
       SameBut s t ([aSL_STATUS n] ++ (List.range 32).map aBW_STATUS) []) ∧
   (∀ (n : Fin 64) (outB : Bool) (j : Fin 8) (s : State) (u : Int), s.mode ≠ .frost → s.slCounting n = true → s.slMode n = 3 →
     s.elDue n (elToken outB j) (s.reg (aEL n outB j)) = some u → s.sliceHeld n u = false →
     ∃ t, exec (.edgeListEntry n outB j) s = .next t ∧ s.ActedOn t n (elToken outB j) ∧
       (getBits (s.reg (aEL n outB j)) ELA.ev = 1 → (s.slice n).elTick ≠ some u →
         t.on (aSL_STATUS n) SL_STATUS.el_f = true ∧ Fires s t (8 * n + 6) u.toNat) ∧
       (getBits (s.reg (aEL n outB j)) ELA.ev = 0 → t.reg (aSL_STATUS n) = s.reg (aSL_STATUS n)) ∧
       (t.slice n).s = (s.slice n).s ∧ SameBut s t [aSL_STATUS n] []) ∧
   (∀ s : State, s.pwm.recal + 1000000 ≤ s.tb →
     ∃ t, exec .fineDelayRecal s = .next t ∧ t.pwm.recal = s.tb ∧ t.pwm.slice = s.pwm.slice ∧ t.fab = s.fab ∧ SameBut s t [] [])) ∧
  (∀ (n : Fin 64) (q : Req) (w : SWrite) (s : State), (s.slice n).nextWrite n = some w → s.captures n (w.arrive + 2) = true →
     w.xfer.eng = reqNum q → w.xfer.st.kind = .cmd true → w.addr ∈ loadAddrs n → w.addr ≠ aPER n → s.loadPoint n w.addr ≠ 4 →
     (s.loadPoint n w.addr = 0 ∨ (s.slice n).counting = false →
       ∃ t, exec (.sliceWriteCapture n) s = .next t ∧ t.reg w.addr = loadMask (w.addr - aSL_CTRL n) w.val ∧
         (t.slice n).writes = (s.slice n).writes.erase w ∧ (t.slice n).shadow = (s.slice n).shadow ∧
         t.respOf q = { err := false, val := 0 } ∧ SameBut s t [w.addr] []) ∧
     (s.loadPoint n w.addr ≠ 0 → (s.slice n).counting = true →
       ∃ t, exec (.sliceWriteCapture n) s = .next t ∧
         sget none (t.slice n).shadow w.addr = some (loadMask (w.addr - aSL_CTRL n) w.val) ∧
         (t.slice n).writes = (s.slice n).writes.erase w ∧ t.respOf q = { err := false, val := 0 } ∧ SameBut s t [] []))

/-- R304, R309, R316: the trip state of an enabled zone sets with its flag while the zone input is 1; its producer fires, and producer 8n +
7 of every slice on which it acts; an escalating zone takes the device to TRIPPED with hold = 1 and is recorded. R304, R305: a write of 1 to
tripped clears the trip state exactly while the zone input is 0; and in a zero tick of its slice a CBC trip clears with its input at 0, a
HOLD trip counts down and clears at 0, and an OST trip stays. R317: an activation of an enabled capture channel in tick ta writes ta − 4
into its 64-bit register, counts, marks it unread, fires producer 864 + c in ta, and sets ovr where it was unread. -/
def Obligations.TripsAndCapture : Prop :=
  (∀ (z : Fin 32) (s : State), s.zoneActs z = true → s.zoneInput z = true → s.tripped z = false →
     (s.on (aTZ_CFG z) TZ_CFG.escalate = false ∨ s.canTrip = false →
       ∃ t, exec (.tripStateSet z) s = .next t ∧ t.tripped z = true ∧ t.on (aTZ_STATUS z) TZ_STATUS.flag = true ∧
         (s.get (aTZ_CFG z) TZ_CFG.mode = 2 → t.get (aTZ_STATUS z) TZ_STATUS.hold_left = s.get (aTZ_CFG z) TZ_CFG.hold_n) ∧
         Fires s t (800 + z) s.tb ∧ (∀ n ∈ s.actedSlices z, Fires s t (8 * n + 7) s.tb) ∧ SameBut s t [aTZ_STATUS z] []) ∧
     (s.on (aTZ_CFG z) TZ_CFG.escalate = true → s.canTrip = true →
       ∃ t, exec (.tripStateSet z) s = .next t ∧ t.tripped z = true ∧ t.mode = .tripped ∧ t.safe = true ∧
         t.get aSAFE_CTRL SAFE_CTRL.esc_zone = z ∧ t.on aSAFE_CTRL SAFE_CTRL.hold = true ∧
         t.on aSAFE_CTRL SAFE_CTRL.dev_tripped = true ∧ Fires s t 1891 s.tb ∧ (∀ a, t.byte a = s.byte a) ∧ ∀ e, t.eng e = s.eng e)) ∧
  ((∀ (q : Req) (z : Fin 32) (w : Word) (s : State), s.Reaches q (islTIM (z.val / 8)) → s.ringOf q ≤ 3 →
     getBits w TZ_STATUS.tripped = 1 → s.hwNow (aTZ_STATUS z) = 0 →
     ∃ t, exec (.trippedWrite q z w) s = .next t ∧ t.tripped z = (s.tripped z && s.zoneInput z) ∧
       t.respOf q = { err := false, val := 0 } ∧ SameBut s t [aTZ_STATUS z] []) ∧
   (∀ (z : Nat) (s : State), s.tripped z = true →
     (let m := s.get (aTZ_CFG z) TZ_CFG.mode
      let left := s.get (aTZ_STATUS z) TZ_STATUS.hold_left
      (s.zoneZero z).tripped z = (m == 1 || m == 3 || s.zoneInput z || m == 2 && decide (1 < left)) ∧
      (m = 2 → (s.zoneZero z).get (aTZ_STATUS z) TZ_STATUS.hold_left =
         if s.zoneInput z then s.get (aTZ_CFG z) TZ_CFG.hold_n else left - 1) ∧
      SameBut s (s.zoneZero z) [aTZ_STATUS z] []))) ∧
  (∀ (c : Fin 32) (a : Act) (s : State), s.actFor (2160 + c) = some a → s.on (aCAP_CFG c) CAP_CFG.en = true → s.isReady 16 c = true →
     s.mode ≠ .frost →
     ∃ t, exec (.capture c) s = .next t ∧ t.reg (aCAP_LO c) = BitVec.ofNat 32 (a.take - 4) ∧
       t.reg (aCAP_HI c) = BitVec.ofNat 32 ((a.take - 4) / 2 ^ 32) ∧ t.on (aCAP_STATUS c) CAP_STATUS.unread = true ∧
       t.on (aCAP_STATUS c) CAP_STATUS.ovr = (s.on (aCAP_STATUS c) CAP_STATUS.ovr || s.on (aCAP_STATUS c) CAP_STATUS.unread) ∧
       t.get (aCAP_STATUS c) CAP_STATUS.cnt = (s.get (aCAP_STATUS c) CAP_STATUS.cnt + 1) % 256 ∧ Fires s t (864 + c) a.take ∧
       t.fab.acts = s.fab.acts.erase a ∧ SameBut s t [aCAP_LO c, aCAP_HI c, aCAP_STATUS c] [])

/-- TRIPIN and SAFEn, release and trip_clr: the deglitched level follows the ball and an assertion fires the producer (R311); SAFEn low sets
hold and takes every ball safe, and leaves the run family and LULL for SAFEHOLD; a ring-0 release clears hold only with SAFEn high in
SAFEHOLD, else it sets rel_refused and changes nothing; trip_clr leaves TRIPPED for SAFEHOLD with hold = 1 only while no escalating zone is
tripped (R314, R316). R306, R313: outside RESET, the safe state gives every output its safe level; else a BLK reset of its slice drives it
low; else an overriding zone acts, drive low before drive high before release, whatever the zones' numbers; else the slice's output shows.
The clamp of a power loss and boundary scan stand outside. -/
def Obligations.SafeStateAndOutputOrder : Prop :=
  ((∀ (i : Fin 32) (high : Bool) (since : Nat) (s : State), s.alive islAON = true → since + s.deglitch i ≤ s.tb →
     (let level := high == s.on (aTRIPIN_CFG i) TRIPIN_CFG.pol
      s.on (aTRIPIN_CFG i) TRIPIN_CFG.lvl ≠ level →
      ∃ t, exec (.tripinChange i high since) s = .next t ∧ t.on (aTRIPIN_CFG i) TRIPIN_CFG.lvl = level ∧
       (level = true → s.mode ≠ .frost → Fires s t (832 + i) s.tb) ∧ SameBut s t [aTRIPIN_CFG i] [])) ∧
   (∀ s : State, s.mode ≠ .reset →
     ∃ t, exec .safenLow s = .next t ∧ t.safe = true ∧ t.on aSAFE_CTRL SAFE_CTRL.hold = true ∧
       t.on aSAFE_CTRL SAFE_CTRL.safen_seen = true ∧ t.mode = (if s.mode = .run ∨ s.mode = .lull then .safehold else s.mode) ∧
       (∀ a, t.byte a = s.byte a) ∧ ∀ e, t.eng e = s.eng e) ∧
   (∀ (q : Req) (w : Word) (high : Bool) (s : State), s.Reaches q islAON → s.ringOf q = 0 → getBits w SAFE_CTRL.release = 1 →
     getBits w SAFE_CTRL.trip_clr = 0 →
     (high = true → s.mode = .safehold →
       ∃ t, exec (.safeRelease q w high) s = .next t ∧ t.on aSAFE_CTRL SAFE_CTRL.hold = false ∧ t.mode = .run ∧
         t.respOf q = { err := false, val := 0 } ∧ (∀ a, t.byte a = s.byte a) ∧ ∀ e, t.eng e = s.eng e) ∧
     (high = false ∨ s.mode ≠ .safehold → high = true ∨ s.trip.safenLow = true →
       ∃ t, exec (.safeRelease q w high) s = .next t ∧ t.on aSAFE_CTRL SAFE_CTRL.rel_refused = true ∧
         t.on aSAFE_CTRL SAFE_CTRL.hold = s.on aSAFE_CTRL SAFE_CTRL.hold ∧ SameBut s t [aSAFE_CTRL] []) ∧
     (high = false → s.trip.safenLow = false → s.mode ≠ .reset →
       ∃ t, exec (.safeRelease q w high) s = .next t ∧ t.on aSAFE_CTRL SAFE_CTRL.rel_refused = true ∧
         t.on aSAFE_CTRL SAFE_CTRL.hold = true ∧ t.safe = true ∧ (∀ a, t.byte a = s.byte a) ∧ ∀ e, t.eng e = s.eng e)) ∧
   (∀ (q : Req) (w : Word) (s : State), s.Reaches q islAON → s.ringOf q = 0 → getBits w SAFE_CTRL.release = 0 →
     getBits w SAFE_CTRL.trip_clr = 1 →
     (s.mode = .tripped → s.escTripped = false →
       ∃ t, exec (.tripClr q w) s = .next t ∧ t.mode = .safehold ∧ t.on aSAFE_CTRL SAFE_CTRL.hold = true ∧
         t.on aSAFE_CTRL SAFE_CTRL.dev_tripped = false ∧ t.respOf q = { err := false, val := 0 } ∧ (∀ a, t.byte a = s.byte a) ∧
         ∀ e, t.eng e = s.eng e) ∧
     (s.mode = .tripped → s.escTripped = true →
       ∃ t, exec (.tripClr q w) s = .next t ∧ t.on aSAFE_CTRL SAFE_CTRL.rel_refused = true ∧ SameBut s t [aSAFE_CTRL] []) ∧
     (s.mode ≠ .tripped →
       ∃ t, exec (.tripClr q w) s = .next t ∧ t.respOf q = { err := false, val := 0 } ∧ SameBut s t [aSAFE_CTRL] []))) ∧
  (∀ (s : State) (o : Nat), s.mode ≠ .reset →
     (s.safe = true → s.driven o = match (s.reg (aSAFE_CFG (o / 16))).toNat / 2 ^ (2 * (o % 16)) % 4 with
       | 1 => some false
       | 2 => some true
       | _ => none) ∧
     (s.safe = false → (s.slice (o / 2)).blkLow = true → s.driven o = some false) ∧
     (s.safe = false → (s.slice (o / 2)).blkLow = false → s.alive (islTIM (o / 32)) = true →
       ((∃ z, z < 32 ∧ s.zoneNow z o = 1) → s.driven o = some false) ∧
       ((∃ z, z < 32 ∧ s.zoneNow z o = 2) → (∀ z, z < 32 → s.zoneNow z o ≠ 1) → s.driven o = some true) ∧
       ((∃ z, z < 32 ∧ s.zoneNow z o = 3) → (∀ z, z < 32 → s.zoneNow z o ≠ 1 ∧ s.zoneNow z o ≠ 2) → s.driven o = none) ∧
       ((∀ z, z < 32 → s.zoneNow z o = 0) → s.driven o = some (s.sliceOut (o / 2) (o % 2 == 1))))) ∧
  (∀ (s : State) (z o : Nat), s.mode ≠ .frost →
    (s.tripped z = true → s.zoneAct z o ≠ 0 → s.zoneNow z o = s.zoneAct z o) ∧
    (s.tripped z = false → ∀ a u, sget none (s.zone z).acts o = some (a, u) → s.zoneNow z o = if s.tb < u + 2 then a else 0) ∧
    (s.tripped z = false → sget none (s.zone z).acts o = none → s.zoneNow z o = 0))

/-- R329 to R331: an arm request that reaches the controller arms a local group at ta = now, with tc = ta + 200 for IMMEDIATE and max(T, ta
+ 200) for ABS, and none yet for the other triggers; an arm request for an armed group only sets dbl_arm. A write to CG_ARM sends an arm
request; a cancel at least 200 ns before tc disarms the group and discards what it has staged, and a later one only sets wr_ignored. -/
def Obligations.ArmsAndCancels : Prop :=
  (∀ (g : Fin 32) (s : State), s.cc.armReqs.contains g.val = true → s.alive islSYS = true →
    (s.armedOf g = none → s.on (aCG_CFG g) CG_CFG.shared = false →
      ∃ t x, exec (.armRequestArrival g) s = .next t ∧ t.armedOf g = some x ∧ x.ta = s.tb ∧ x.shared = false ∧
        (s.get (aCG_CFG g) CG_CFG.trig = 0 → x.tc = some (s.tb + 200)) ∧
        (s.get (aCG_CFG g) CG_CFG.trig = 2 → x.tc = some (max (s.get64 (aCG_TIME_LO g) (aCG_TIME_HI g)) (s.tb + 200))) ∧
        (s.get (aCG_CFG g) CG_CFG.trig ≠ 0 → s.get (aCG_CFG g) CG_CFG.trig ≠ 2 → x.tc = none) ∧
        t.on (aCG_STATUS g) CG_STATUS.armed = true ∧ t.cc.armReqs = s.cc.armReqs.erase g ∧
        (∀ h, h ≠ g.val → t.armedOf h = s.armedOf h) ∧ t.cc.staged = s.cc.staged ∧ SameBut s t [aCG_STATUS g] []) ∧
    ((s.armedOf g).isSome = true →
      ∃ t, exec (.armRequestArrival g) s = .next t ∧ t.on (aCG_STATUS g) CG_STATUS.dbl_arm = true ∧ t.cc.armed = s.cc.armed ∧
        t.cc.staged = s.cc.staged ∧ SameBut s t [aCG_STATUS g] [])) ∧
  (∀ (q : Req) (g : Fin 32) (w : Word) (s : State), s.Reaches q islSYS → s.ringOf q ≤ 3 →
    getBits w CG_ARM.arm = 1 → getBits w CG_ARM.cancel = 0 →
    ∃ t, exec (.cgArm q g w) s = .next t ∧ t.cc.armReqs = s.cc.armReqs ++ [g.val] ∧ t.cc.armed = s.cc.armed ∧
      t.respOf q = { err := false, val := 0 } ∧ SameBut s t [] []) ∧
  (∀ (q : Req) (g : Fin 32) (w : Word) (x : Armed) (s : State), s.Reaches q islSYS → s.ringOf q ≤ 3 →
    getBits w CG_ARM.arm = 0 → getBits w CG_ARM.cancel = 1 → s.armedOf g = some x → s.cc.late = [] →
    ((∀ tc, s.tcOf x = some tc → s.tb + 200 ≤ tc) →
      ∃ t, exec (.cgCancel q g w) s = .next t ∧ t.armedOf g = none ∧ (∀ a v, t.stagedAt a = some v → v.grp ≠ g) ∧
        t.on (aCG_STATUS g) CG_STATUS.armed = false ∧ t.get (aCG_STATUS g) CG_STATUS.staged_cnt = 0 ∧
        t.respOf q = { err := false, val := 0 } ∧ SameBut s t (discardRegs g) []) ∧
    (∀ tc, s.tcOf x = some tc → tc < s.tb + 200 →
      ∃ t, exec (.cgCancel q g w) s = .next t ∧ t.on (aCG_STATUS g) CG_STATUS.wr_ignored = true ∧ t.cc = s.cc ∧
        t.respOf q = { err := false, val := 0 } ∧ SameBut s t [aCG_STATUS g] []))

/-- R322 to R328, R335: a write to a word that holds a field of access RWS, whichever register it is, stages its legal fields in the group
that it carries and leaves the active ones; a word staged in another group gives an error response and sets conflict. Those of a slice and
of a stagger group do so at their capture (R278), and so does a register whose load point is COMMIT (R279). A write to a parameter page
stores into the staged copy and makes the page dirty; CC_RSEL selects the group; and CC_SRD_DATA shows the staged value of a staged word,
else the active one. -/
def Obligations.StagedWrites : Prop :=
  (∀ (q : Req) (a w : Word) (s : State), s.StagedWord a.toNat → sliceOf a.toNat = none → stgWord a.toNat = none →
    s.Reaches q (s.islandOf a.toNat) → s.held (s.islandOf a.toNat) = false → s.MayStage q a.toNat → s.rsel (reqNum q) < 32 →
    (let b := a.toNat
     let g := s.rsel (reqNum q)
     (s.StagesIn g b →
      ∃ t v, exec (.stagedWrite q a w) s = .next t ∧ t.stagedAt b = some v ∧ v.grp = g ∧ s.StagedAs t b w v.val ∧
        t.get (aCG_STATUS g) CG_STATUS.staged_cnt = s.get (aCG_STATUS g) CG_STATUS.staged_cnt + 1 ∧
        (∀ c, c ≠ b → t.stagedAt c = s.stagedAt c) ∧ t.respOf q = { err := false, val := 0 } ∧
        (s.KeepsDirect b w → SameBut s t (stagingRegs g b) [])) ∧
     (∀ v, s.stagedAt b = some v → v.grp ≠ g → v.grp < 32 →
      ∃ t, exec (.stagedWrite q a w) s = .next t ∧ t.on (aCG_STATUS v.grp) CG_STATUS.conflict = true ∧ t.cc.staged = s.cc.staged ∧
        t.respOf q = { err := true, val := 0 } ∧ (s.KeepsDirect b w → SameBut s t (stagingRegs v.grp b) [])))) ∧
  ((∀ (q : Req) (n : Fin 64) (a w : Word) (s : State), s.StagedWord a.toNat → sliceOf a.toNat = some n.val →
     s.Reaches q (islTIM (n.val / 16)) → s.carried = none →
     ∃ t, exec (.stagedWrite q a w) s = .next t ∧
       (t.slice n).writes = (s.slice n).writes ++ [{ arrive := s.tb, addr := a.toNat, val := w, xfer := s.accessXfer q true a.toNat w }] ∧
       t.cc = s.cc ∧ SameBut s t [] []) ∧
   (∀ (n : Fin 64) (q : Req) (x : SWrite) (s : State), (s.slice n).nextWrite n = some x → s.captures n (x.arrive + 2) = true →
     x.xfer.eng = reqNum q → x.xfer.st.kind = .cmd true → x.xfer.cg < 32 → sliceOf x.addr = some n.val →
     s.StagesIn x.xfer.cg x.addr →
     (s.StagedWord x.addr → (x.addr = aSL_CTRL n → getBits x.val SL_CTRL.sw_sync = 0 ∧ getBits x.val SL_CTRL.sw_start = 0) →
       ∃ t v, exec (.sliceWriteCapture n) s = .next t ∧ t.stagedAt x.addr = some v ∧ v.grp = x.xfer.cg ∧ s.StagedAs t x.addr x.val v.val ∧
         (∀ c, c ≠ x.addr → t.stagedAt c = s.stagedAt c) ∧ t.respOf q = { err := false, val := 0 } ∧
         SameBut s t [aCG_STATUS x.xfer.cg, x.addr] []) ∧
     (x.addr ∈ loadAddrs n → s.loadPoint n x.addr = 4 → (x.addr = aPER n → 64 ≤ timeNs x.val) →
       ∃ t v, exec (.sliceWriteCapture n) s = .next t ∧ t.stagedAt x.addr = some v ∧ v.grp = x.xfer.cg ∧
         v.val = loadMask (x.addr - aSL_CTRL n) x.val ∧ (∀ c, c ≠ x.addr → t.stagedAt c = s.stagedAt c) ∧
         t.respOf q = { err := false, val := 0 } ∧ SameBut s t [aCG_STATUS x.xfer.cg] [])) ∧
   (∀ (q : Req) (a w : Word) (s : State), (stgWord a.toNat).isSome = true → s.Reaches q (islTIM 0) → s.carried = none →
     ∃ t, exec (.stagedWrite q a w) s = .next t ∧
       t.pwm.stg = s.pwm.stg ++ [{ arrive := s.tb, addr := a.toNat, val := w, xfer := s.accessXfer q true a.toNat w }] ∧
       t.cc = s.cc ∧ SameBut s t [] []) ∧
   (∀ (k : Fin 16) (x : SWrite) (u : Nat) (s : State), x.addr = aSTG_CFG k ∨ x.addr = aSTG_PER k → x.xfer.cg < 32 →
     s.StagesIn x.xfer.cg x.addr → s.KeepsDirect x.addr x.val →
     (let t := (s.captureStg x u).1
      (s.captureStg x u).2 = false ∧ (∃ v, t.stagedAt x.addr = some v ∧ v.grp = x.xfer.cg ∧ s.StagedAs t x.addr x.val v.val) ∧
      (∀ c, c ≠ x.addr → t.stagedAt c = s.stagedAt c) ∧
      SameBut s t ([aCG_STATUS x.xfer.cg, x.addr] ++
        if x.addr = aSTG_PER k ∧ x.val.toNat < 0x2000 then (List.range 64).map aSL_STATUS else []) []))) ∧
  (∀ (q : Req) (p : Nat) (a w : Word) (s : State), pageOf a.toNat = some p → a.toNat % 4 = 0 →
    s.admits q (islCLU (p / 64)) = true → s.relocking (p / 64) = false → s.waits q (islCLU (p / 64)) = false →
    s.pageClosed p = false → s.initAt a.toNat = false →
    ∃ t, exec (.stagedWrite q a w) s = .next t ∧ t.word (stagedCopy a.toNat) = w ∧ t.dirty p = true ∧
      t.word a.toNat = s.word a.toNat ∧ t.respOf q = { err := false, val := 0 } ∧
      SameButMem s t [pgCfg p] [] (stagedCopy a.toNat) 4) ∧
  (∀ (q : Req) (r : Fin 331) (w : Word) (s : State), s.Reaches q islSYS → s.ringOf q ≤ 3 → s.carried = none →
    ∃ t, exec (.ccRselWrite q r w) s = .next t ∧ t.rsel r = getBits w CC_RSEL.cg ∧ t.get (aCC_RSEL r) CC_RSEL.cg = getBits w CC_RSEL.cg ∧
      t.respOf q = { err := false, val := 0 } ∧ SameBut s t [aCC_RSEL r] []) ∧
  (∀ (q : Req) (s : State), s.Reaches q islSYS → s.ringOf q ≤ 3 →
    ∃ t, exec (.ccSrdRead q) s = .next t ∧ SameBut s t [] [] ∧
      (let a := (s.reg aCC_SRD_ADDR).toNat
       (∀ v, s.stagedAt a = some v → t.respOf q = { err := false, val := v.val }) ∧
       (s.stagedAt a = none → (pageOf a).isNone = true → t.respOf q = { err := false, val := s.shows a }) ∧
       (∀ p, s.stagedAt a = none → pageOf a = some p →
         t.respOf q = { err := false, val := if s.dirty p then s.word (stagedCopy a) else s.word a })))

/-- R332 to R334, R336, R528: at its commit tick a group without an overflow applies: it is armed no longer and CG_LAST holds tc; its
producer fires in tc; a staged word of a zone's actions is active, and a dirty page has exchanged its copies. A group with an overflow is
refused: nothing becomes active, what it has staged is discarded, refused sets and producer 1898 fires. -/
def Obligations.CommitsApply : Prop :=
  ∀ (g : Fin 32) (x : Armed) (tc : Nat) (s : State), s.armedOf g = some x → x.shared = false → x.tc = some tc → x.target = some tc →
    tc ≤ s.tb → s.dueTick tc = tc → s.captureLeft tc = false → (∀ c, c < 16 → (s.rgClu c).cur = none) →
    (s.cc.ovf.contains g.val = false →
      ∃ t, exec (.commitApply g) s = .next t ∧ t.armedOf g = none ∧ t.on (aCG_STATUS g) CG_STATUS.armed = false ∧
        t.reg (aCG_LAST_LO g) = BitVec.ofNat 32 tc ∧ t.reg (aCG_LAST_HI g) = BitVec.ofNat 32 (tc / 2 ^ 32)) ∧
    (∀ (z : Fin 32) (j : Fin 8) (w : Word), s.cc.ovf.contains g.val = false → s.mode ≠ .frost → s.wordsOf g = [(aTZ_ACT z j, w)] →
      s.dirtyPages g = [] → s.alive (islTIM (z.val / 8)) = true →
      ∃ t, exec (.commitApply g) s = .next t ∧ t.reg (aTZ_ACT z j) = w ∧ t.stagedAt (aTZ_ACT z j) = none ∧
        t.get (aCG_STATUS g) CG_STATUS.staged_cnt = 0 ∧ Fires s t (2000 + g) tc ∧
        SameBut s t ([aCG_STATUS g, aCG_LAST_LO g, aCG_LAST_HI g, aTZ_ACT z j, aMODE] ++ (List.range 32).map aTZ_STATUS) []) ∧
    (∀ p, s.cc.ovf.contains g.val = false → s.mode ≠ .frost → s.wordsOf g = [] → s.dirtyPages g = [p] → s.alive (islCLU (p / 64)) = true →
      s.relocking (p / 64) = false → s.refillOf p = none → s.cc.late = [] →
      ∃ t, exec (.commitApply g) s = .next t ∧ t.dirty p = false ∧ Fires s t (2000 + g) tc ∧
        (∀ a ∈ pageWords p, t.word a = s.word (stagedCopy a) ∧ t.word (stagedCopy a) = s.word a) ∧
        (∀ a, (a < pageBase p ∨ pageBase p + 1024 ≤ a) → (a < stagedCopy (pageBase p) ∨ stagedCopy (pageBase p) + 1024 ≤ a) →
          t.byte a = s.byte a) ∧
        (∀ a, a ∉ [aCG_STATUS g, aCG_LAST_LO g, aCG_LAST_HI g, pgCfg p, aMODE] ++ (List.range 32).map aTZ_STATUS → t.reg a = s.reg a) ∧ ∀ e, t.eng e = s.eng e) ∧
    (s.cc.ovf.contains g.val = true → s.mode ≠ .frost → s.cc.late = [] →
      ∃ t, exec (.commitApply g) s = .next t ∧ t.armedOf g = none ∧ (∀ a v, t.stagedAt a = some v → v.grp ≠ g) ∧
        t.on (aCG_STATUS g) CG_STATUS.refused = true ∧ t.get (aCG_STATUS g) CG_STATUS.staged_cnt = 0 ∧ Fires s t 1898 s.tb ∧
        SameBut s t (discardRegs g) [])

/-- R328, R338 to R340: a refill ends with every word that was not written since the flip copied from the active copy, and the others as
they were. A message of a shared commit is kept until its group is armed; with all of them in agreement the commit tick is max(T, the latest
ta + 1000), and on a difference in T or CRC, or 10,000 ns after T with one missing, the participant refuses. R341 to R343: an activation of
an enabled idle unit takes TB and every live source in the activation tick, and shows busy; the page of 4 + n words is written at SNAP_DST
in system SRAM with done, or nothing is written and err sets where it does not lie there. -/
def Obligations.RefillsSharedCommitsAndSnapshots : Prop :=
  ((∀ (c : Fin 16) (p : Fin 64) (l : List Nat) (s : State), s.refillOf (64 * c.val + p.val) = some l →
     ∃ t, exec (.pageRefreshDone c p) s = .next t ∧ t.refillOf (64 * c.val + p.val) = none ∧
       (∀ a ∈ pageWords (64 * c.val + p.val), t.word (stagedCopy a) = if a ∈ l then s.word (stagedCopy a) else s.word a) ∧
       SameButMem s t [] [] (stagedCopy (pageBase (64 * c.val + p.val))) 1024) ∧
   (∀ (l : Fin 8) (p : SwlPkt) (n : SwlCmt) (s : State), s.Takes l 7 p →
     (let g := n.g
      let m : CcMsg := { dev := pktSrc p, t := n.t.toNat, crc := n.crc, ta := n.ta.toNat, ovf := n.ovf }
      (s.armedOf g = none →
        ∃ t, exec (.sharedCommitMessage l p n) s = .next t ∧ t.cc.early = s.cc.early ++ [(g.val, m)] ∧
          t.cc.armed = s.cc.armed ∧ SameBut s t [] []) ∧
      (∀ x T, s.armedOf g = some x → x.shared = true → x.tc = none → x.target = some T → x.ovf = false →
        ((n.t.toNat ≠ T ∨ n.crc ≠ x.crc) → s.mode ≠ .frost → s.cc.late = [] →
          ∃ t, exec (.sharedCommitMessage l p n) s = .next t ∧ t.armedOf g = none ∧
            t.on (aCG_STATUS g) CG_STATUS.refused = true ∧ t.on (aCG_STATUS g) CG_STATUS.mismatch = true ∧
            (∀ a v, t.stagedAt a = some v → v.grp ≠ g) ∧ Fires s t 1898 s.tb ∧ SameBut s t (discardRegs g) []) ∧
        ((∀ k ∈ x.msgs ++ [m], k.t = T ∧ k.crc = x.crc ∧ k.ovf = false) →
          (∀ d ∈ s.participants, d = s.devNum ∨ ∃ k ∈ x.msgs ++ [m], k.dev = d) →
          ∃ t y tc, exec (.sharedCommitMessage l p n) s = .next t ∧ t.armedOf g = some y ∧ y.tc = some tc ∧
            T ≤ tc ∧ x.ta + 1000 ≤ tc ∧ (∀ k ∈ x.msgs ++ [m], k.ta + 1000 ≤ tc) ∧
            (tc = T ∨ tc = x.ta + 1000 ∨ ∃ k ∈ x.msgs ++ [m], tc = k.ta + 1000) ∧ y.words = x.words ∧ SameBut s t [] [])))) ∧
   (∀ (g : Fin 32) (x : Armed) (T : Nat) (s : State), s.armedOf g = some x → x.shared = true → x.tc = none → x.target = some T →
     T + 10000 ≤ s.tb → s.mode ≠ .frost → s.cc.late = [] →
     ∃ t, exec (.sharedCommitAbsent g) s = .next t ∧ t.armedOf g = none ∧ t.on (aCG_STATUS g) CG_STATUS.refused = true ∧
       t.on (aCG_STATUS g) CG_STATUS.absent = true ∧ (∀ a v, t.stagedAt a = some v → v.grp ≠ g) ∧ Fires s t 1898 s.tb ∧
       SameBut s t (discardRegs g) [])) ∧
  ((∀ (u : Fin 8) (a : Act) (s : State), s.actFor (2320 + u) = some a → s.on (aSNAP_CFG u) SNAP_CFG.en = true → s.alive islSYS = true →
     sget none s.cc.snap u = none → s.commitOwed a.take = false →
     ∃ t x, exec (.snapshot u) s = .next t ∧ sget none t.cc.snap u = some x ∧ x.ts = a.take ∧
       x.words.length = 4 + s.get (aSNAP_CFG u) SNAP_CFG.n ∧ x.words[0]? = some (BitVec.ofNat 32 a.take) ∧
       x.words[1]? = some (BitVec.ofNat 32 (a.take / 2 ^ 32)) ∧
       (∀ i, i < s.get (aSNAP_CFG u) SNAP_CFG.n →
         (let src := ({ s with tb := a.take } : State).snapSource (s.get (aSNAP_SRC u i) SNAP_SRC.code)
          x.words[4 + i]? = some (if s.alive src.1 then src.2 else 0))) ∧
       t.on (aSNAP_STATUS u) SNAP_STATUS.busy = true ∧ SameBut s t [aSNAP_STATUS u] []) ∧
   (∀ (u : Fin 8) (x : Snap) (s : State), sget none s.cc.snap u = some x →
     (let d := (s.reg (aSNAP_DST u)).toNat
      (0x10000000 ≤ d → d + 4 * x.words.length ≤ 0x10800000 →
        ∃ t, exec (.snapshotComplete u) s = .next t ∧ (∀ i w, x.words[i]? = some w → t.word (d + 4 * i) = w) ∧
          t.on (aSNAP_STATUS u) SNAP_STATUS.done = true ∧ t.on (aSNAP_STATUS u) SNAP_STATUS.busy = false ∧
          sget none t.cc.snap u = none ∧ SameButMem s t [aSNAP_STATUS u] [] d (4 * x.words.length)) ∧
      (d < 0x10000000 ∨ 0x10800000 < d + 4 * x.words.length →
        ∃ t, exec (.snapshotComplete u) s = .next t ∧ t.on (aSNAP_STATUS u) SNAP_STATUS.err = true ∧
          t.on (aSNAP_STATUS u) SNAP_STATUS.busy = false ∧ SameBut s t [aSNAP_STATUS u] []))))

/-- R361 to R364: a word written to the port of a queue that the requester's ring owns goes to the requester's put buffer; word 3 appends
the three words and itself as one record at the tail, or sets port_err where they were not all written through that port; a get takes the
record at the head, a peek leaves it, and both latch it; a count reads the count; an empty queue answers 0 and result 2. A queue that is not
enabled, or owned by a more privileged ring, answers with an error and nothing changes. -/
def Obligations.PortsMoveRecords : Prop :=
  ∀ (q : Req) (d : Fin 16384) (s : State), s.Reaches q islSYS → s.QClean d → s.qInit d = false →
    (s.qMay d (s.ringOf q) = true →
      (∀ (j : Fin 3) (w : Word), ∃ t, exec (.portPutWord q d j w) s = .next t ∧
        (t.portBuf q).put = (s.portBuf q).put.set j w ∧
        (∀ x, x ∈ (t.portBuf q).by_ ↔ x = (j.val, d.val) ∨ j ≠ 0 ∧ x ∈ (s.portBuf q).by_) ∧
        t.respOf q = { err := false, val := 0 } ∧ SameBut s t [] []) ∧
      (∀ w0 w1 w2 w3 : Word, (s.portBuf q).put = [w0, w1, w2] → (∀ j, j < 3 → (j, d.val) ∈ (s.portBuf q).by_) →
        s.qCount d < s.qSize d → s.qSize d ≤ 65536 →
        ∃ t, exec (.portPutAppend q d w3) s = .next t ∧
          (∀ i w, [w0, w1, w2, w3][i]? = some w → t.word (s.qRec d (s.qTail d) + 4 * i) = w) ∧ t.qCount d = s.qCount d + 1 ∧
          t.qTail d = (s.qTail d + 1) % s.qSize d ∧ t.qHead d = s.qHead d ∧ (t.portBuf q).res = 0 ∧
          t.respOf q = { err := false, val := 0 } ∧
          SameButMem s t [aQD_PTR d, aQD_CNT d, aQW_LINE (s.qLine d)] [] (s.qRec d (s.qTail d)) 16) ∧
      (∀ (j : Nat) (w : Word), j < 3 → (j, d.val) ∉ (s.portBuf q).by_ →
        ∃ t, exec (.portPutAppend q d w) s = .next t ∧ (t.portBuf q).res = 4 ∧ t.respOf q = { err := false, val := 0 } ∧
          SameBut s t [] []) ∧
      (0 < s.qCount d → (∀ w ∈ s.qm.waits, w.queue ≠ d) → s.qSize d ≤ 65536 →
        ∃ t, exec (.portGet q d) s = .next t ∧ t.respOf q = { err := false, val := (s.qFront d).headD 0 } ∧
          (t.portBuf q).get_ = (s.qFront d).drop 1 ∧ (t.portBuf q).res = 0 ∧ t.qCount d = s.qCount d - 1 ∧
          t.qHead d = (s.qHead d + 1) % s.qSize d ∧ t.qTail d = s.qTail d ∧
          SameBut s t [aQD_PTR d, aQD_CNT d, aQW_LINE (s.qLine d)] []) ∧
      (0 < s.qCount d →
        ∃ t, exec (.portPeek q d) s = .next t ∧ t.respOf q = { err := false, val := (s.qFront d).headD 0 } ∧
          (t.portBuf q).get_ = (s.qFront d).drop 1 ∧ (t.portBuf q).res = 0 ∧ SameBut s t [] []) ∧
      (s.qCount d = 0 → ∀ c ∈ [Instr.portGet q d, .portPeek q d],
        ∃ t, exec c s = .next t ∧ t.respOf q = { err := false, val := 0 } ∧ (t.portBuf q).res = 2 ∧ SameBut s t [] []) ∧
      (∃ t, exec (.portCount q d) s = .next t ∧ t.respOf q = { err := false, val := BitVec.ofNat 32 (s.qCount d) } ∧
        (t.portBuf q).res = 0 ∧ SameBut s t [] [])) ∧
    (s.qMay d (s.ringOf q) = false → ∀ (j : Fin 3) (w : Word),
      ∀ c ∈ [Instr.portPutWord q d j w, .portPutAppend q d w, .portGet q d, .portPeek q d, .portCount q d],
        ∃ t, exec c s = .next t ∧ t.respOf q = { err := true, val := 0 } ∧ t.qm = s.qm ∧ SameBut s t [] [])

/-- R356, R364: a put to a full queue is rejected and counted (policy 0), takes the place of the oldest record (policy 1), or waits (policy
2); the oldest waiting put completes as soon as a get makes room; one that a port has held for 10 µs ends with an error and counts as
dropped. R353, R354, R359: an enable whose checks hold stores its fields, and one whose checks fail is an access error; a disable ends every
put that an engine waits with on the queue with the queue fault, and keeps its records; at the end of its initialisation the queue manager
is ready and every descriptor is in its reset state. -/
def Obligations.QueuePoliciesAndDescriptors : Prop :=
  ((∀ (q : Req) (d : Fin 16384) (w0 w1 w2 w3 : Word) (s : State), s.Reaches q islSYS → s.QClean d →
     s.qInit d = false → s.qMay d (s.ringOf q) = true → (s.portBuf q).put = [w0, w1, w2] → (∀ j, j < 3 → (j, d.val) ∈ (s.portBuf q).by_) →
     s.qCount d = s.qSize d → s.qSize d ≤ 65536 →
     (s.get (aQD_CFG d) QD_CFG.policy = 0 →
       ∃ t, exec (.portPutAppend q d w3) s = .next t ∧ (t.portBuf q).res = 1 ∧
         t.get (aQD_CNT d) QD_CNT.drops = min (s.get (aQD_CNT d) QD_CNT.drops + 1) 4095 ∧ t.qCount d = s.qCount d ∧
         t.respOf q = { err := false, val := 0 } ∧ SameBut s t [aQD_CNT d] []) ∧
     (s.get (aQD_CFG d) QD_CFG.policy = 1 →
       ∃ t, exec (.portPutAppend q d w3) s = .next t ∧ (t.portBuf q).res = 0 ∧
         t.get (aQD_CNT d) QD_CNT.drops = min (s.get (aQD_CNT d) QD_CNT.drops + 1) 4095 ∧ t.qCount d = s.qCount d ∧
         t.qHead d = (s.qHead d + 1) % s.qSize d ∧ t.qTail d = (s.qTail d + 1) % s.qSize d ∧
         (∀ i w, [w0, w1, w2, w3][i]? = some w → t.word (s.qRec d (s.qTail d) + 4 * i) = w) ∧
         t.respOf q = { err := false, val := 0 } ∧
         SameButMem s t [aQD_PTR d, aQD_CNT d, aQW_LINE (s.qLine d)] [] (s.qRec d (s.qTail d)) 16) ∧
     (s.get (aQD_CFG d) QD_CFG.policy = 2 →
       ∃ t, exec (.portPutAppend q d w3) s = .next t ∧
         (let who : Waiter := .write (s.accessXfer q true (0x5100000C + 0x40 * d) w3) s.tb
          t.qm.waits = s.qm.waits ++ [{ queue := d, who := who, words := [w0, w1, w2, w3] }]) ∧
         t.respOf q = s.respOf q ∧ SameBut s t [] [])) ∧
   (∀ (q r : Req) (d : Fin 16384) (x : Xfer) (u : Nat) (w0 w1 w2 w3 : Word) (l : List QWait) (s : State), s.Reaches q islSYS →
     s.QClean d → s.qInit d = false → s.qMay d (s.ringOf q) = true → s.qCount d = s.qSize d → s.qSize d ≤ 65536 → reqNum r ≠ reqNum q →
     x.eng = reqNum r → x.st.kind = .cmd true →
     s.qm.waits = { queue := d, who := .write x u, words := [w0, w1, w2, w3] } :: l →
     ∃ t, exec (.portGet q d) s = .next t ∧ t.qm.waits = l ∧ t.respOf q = { err := false, val := (s.qFront d).headD 0 } ∧
       t.respOf r = { err := false, val := 0 } ∧ t.qCount d = s.qCount d ∧
       (∀ i w, [w0, w1, w2, w3][i]? = some w → t.word (s.qRec d (s.qTail d) + 4 * i) = w) ∧
       SameButMem s t [aQD_PTR d, aQD_CNT d, aQW_LINE (s.qLine d)] [] (s.qRec d (s.qTail d)) 16) ∧
   (∀ (q : Req) (x : QWait) (y : Xfer) (l : List QWait) (u : Nat) (s : State), s.qm.waits = x :: l → x.who = .write y u →
     y.eng = reqNum q → y.st.kind = .cmd true → u + 10000 ≤ s.tb →
     ∃ t, exec (.portPutTimeout q) s = .next t ∧ t.qm.waits = l ∧ t.respOf q = { err := true, val := 0 } ∧
       t.get (aQD_CNT x.queue) QD_CNT.drops = min (s.get (aQD_CNT x.queue) QD_CNT.drops + 1) 4095 ∧ SameBut s t [aQD_CNT x.queue] [])) ∧
  ((∀ (q : Req) (d : Fin 16384) (w : Word) (s : State), s.Reaches q islSYS → s.ringOf q ≤ 1 →
     s.on aQM_STATUS QM_STATUS.ready = true → s.on (aQD_CFG d) QD_CFG.en = false → getBits w QD_CFG.en = 1 →
     s.hwNow (aQD_CFG d) = 0 →
     (s.enableOk d w = true →
       ∃ t, exec (.queueEnable q d w) s = .next t ∧ (∀ f ∈ fQD_CFG, t.get (aQD_CFG d) f = getBits w f) ∧ t.qOn d = true ∧
         t.respOf q = { err := false, val := 0 } ∧ SameBut s t [aQD_CFG d, aQW_LINE (getBits w QD_CFG.line)] []) ∧
     (s.enableOk d w = false →
       ∃ t, exec (.queueEnable q d w) s = .next t ∧ t.respOf q = { err := true, val := 0 } ∧ SameBut s t [] [])) ∧
   (∀ (q : Req) (d : Fin 16384) (w : Word) (s : State), s.Reaches q islSYS → s.ringOf q ≤ 1 →
     s.on aQM_STATUS QM_STATUS.ready = true → s.on (aQD_CFG d) QD_CFG.en = true → getBits w QD_CFG.en = 0 →
     getBits w QD_CFG.lsz = s.get (aQD_CFG d) QD_CFG.lsz → s.hwNow (aQD_CFG d) = 0 →
     ∃ t, exec (.queueDisable q d w) s = .next t ∧ t.on (aQD_CFG d) QD_CFG.en = false ∧
       (∀ x ∈ s.qm.waits, ∀ e, x.queue = d → x.who = .eng e → (t.eng e).wait = .queue (some (true, false, []))) ∧
       (∀ e, (∀ x ∈ s.qm.waits, x.queue = d → x.who ≠ .eng e) → t.eng e = s.eng e) ∧ t.respOf q = { err := false, val := 0 } ∧
       (∀ a, t.byte a = s.byte a) ∧ (∀ a, a ≠ aQD_CFG d → a ≠ aQW_LINE (s.qLine d) → t.reg a = s.reg a)) ∧
   (∀ s : State, s.alive islSYS = true → s.on aQM_STATUS QM_STATUS.ready = false →
     ∃ t, exec .qmInitDone s = .next t ∧ t.on aQM_STATUS QM_STATUS.ready = true ∧ t.isReady 21 0 = true ∧
       (∀ a, 0x50000000 ≤ a → a < 0x50040000 → t.reg a = resetWord a) ∧
       (∀ a, (a < 0x50000000 ∨ 0x50040000 ≤ a) → a ∉ [aQM_STATUS, aREADY 21, aMODE] → t.reg a = s.reg a) ∧
       (∀ a, t.byte a = s.byte a) ∧ ∀ e, t.eng e = s.eng e))

/-- R365 to R367, R379: a start of an enabled idle channel makes it busy and fetches the TD that DMA_TD names; a start of a busy or disabled
channel only sets start_ign; an abort of a channel that fetches ends it with status 4, and one that waits for its queue with its record
lost; a TD in system SRAM that is not bad starts to run, and a bad one, or one outside system SRAM, ends with status 3. R369 to R371: the
arbiter grants the ready channel of the highest priority, the first in round-robin order among equals, at a burst boundary; the reads of its
burst leave as far as 64 of all channels are outstanding, and the request ends with the first; each source word that returns is written to
the destination that the mode gives its index; a read of an address that nothing takes stops the channel with status 1 and records it. -/
def Obligations.DmaChannels : Prop :=
  ((∀ (q : Req) (c : Fin 64) (w : Word) (s : State), s.Reaches q islSYS → s.ringOf q ≤ 1 → getBits w DMA_CTRL.start = 1 →
     getBits w DMA_CTRL.abort = 0 →
     (s.on (aDMA_STAT c) DMA_STAT.busy = false → s.on (aDMA_CFG c) DMA_CFG.en = true →
       ∃ t, exec (.dmaStart q c w) s = .next t ∧ t.on (aDMA_STAT c) DMA_STAT.busy = true ∧ t.reg (aDMA_CUR c) = s.reg (aDMA_TD c) ∧
         (t.dmaCh c).phase = .fetch ∧ (∀ b, b ≠ c.val → t.dmaCh b = s.dmaCh b) ∧ t.respOf q = { err := false, val := 0 } ∧
         SameBut s t [aDMA_STAT c, aDMA_CUR c] []) ∧
     (s.on (aDMA_STAT c) DMA_STAT.busy = true ∨ s.on (aDMA_CFG c) DMA_CFG.en = false →
       ∃ t, exec (.dmaStart q c w) s = .next t ∧ t.on (aDMA_STAT c) DMA_STAT.start_ign = true ∧ t.dma = s.dma ∧
         t.respOf q = { err := false, val := 0 } ∧ SameBut s t [aDMA_STAT c] [])) ∧
   (∀ (q : Req) (c : Fin 64) (w : Word) (s : State), s.Reaches q islSYS → s.ringOf q ≤ 1 → getBits w DMA_CTRL.start = 0 →
     getBits w DMA_CTRL.abort = 1 → s.on (aDMA_STAT c) DMA_STAT.busy = true →
     ((s.dmaCh c).phase = .fetch ∨ (s.dmaCh c).phase = .run →
       ∃ t, exec (.dmaAbort q c w) s = .next t ∧ (t.dmaCh c).phase = .finish 4 ∧ (t.dmaCh c).written = (s.dmaCh c).written ∧
         t.respOf q = { err := false, val := 0 } ∧ SameBut s t [] []) ∧
     (∀ n, (s.dmaCh c).phase = .waitq n →
       ∃ t, exec (.dmaAbort q c w) s = .next t ∧ t.on (aDMA_STAT c) DMA_STAT.busy = false ∧
         t.on (aDMA_STAT c) DMA_STAT.rec_lost = true ∧ t.on (aDMA_STAT c) DMA_STAT.waitq = false ∧
         t.get (aDMA_STAT c) DMA_STAT.last_status = 4 ∧ t.on (aDMA_STAT c) DMA_STAT.err = true ∧ (t.dmaCh c).phase = .idle ∧
         (∀ x ∈ t.qm.waits, x.who ≠ .dma c) ∧ t.respOf q = { err := false, val := 0 } ∧ SameBut s t [aDMA_STAT c] [])) ∧
   (∀ (c : Fin 64) (s : State), (s.dmaCh c).phase = .fetch → s.reach islSYS = true → s.initAt (s.reg (aDMA_CUR c)).toNat = false →
     (let a := (s.reg (aDMA_CUR c)).toNat
      let td := (List.range 8).map (fun i => s.word (a + 4 * i))
      (inSram a 32 = true → (∀ i, i < 8 → s.ue.contains (a + 4 * i) = false) → s.noteUe a 32 = s → tdBad td = false →
        ∃ t, exec (.dmaTdFetch c) s = .next t ∧ (t.dmaCh c).phase = .run ∧ (t.dmaCh c).td = td ∧ (t.dmaCh c).issued = 0 ∧
          (t.dmaCh c).answered = 0 ∧ (t.dmaCh c).written = 0 ∧ SameBut s t [] []) ∧
      (inSram a 32 = false ∨ (∀ i, i < 8 → s.ue.contains (a + 4 * i) = false) ∧ s.noteUe a 32 = s ∧ tdBad td = true →
        ∃ t, exec (.dmaTdFetch c) s = .next t ∧ (t.dmaCh c).phase = .finish 3 ∧ SameBut s t [] [])))) ∧
  ((∀ (c : Nat) (s : State), s.dmaGrant = some c →
     c < 64 ∧ s.burstReady c = true ∧ (∀ b, b < 64 → s.burstReady b = true →
       s.get (aDMA_CFG b) DMA_CFG.prio < s.get (aDMA_CFG c) DMA_CFG.prio ∨
       s.get (aDMA_CFG b) DMA_CFG.prio = s.get (aDMA_CFG c) DMA_CFG.prio ∧
         (c + 64 - (s.dma.last + 1) % 64) % 64 ≤ (b + 64 - (s.dma.last + 1) % 64) % 64)) ∧
   (∀ (c : Nat) (s : State), s.dmaGrant = some c → s.reach islSYS = true → s.burstOver = true →
     ∃ t, exec .dmaBurstGrant s = .next t ∧ (t.dmaCh c).issued = (s.dmaCh c).issued + s.burstLen c ∧
       s.burstLen c ≤ s.get (aDMA_CFG c) DMA_CFG.burst ∧ t.dma.last = c ∧ (∀ b, b ≠ c → t.dmaCh b = s.dmaCh b) ∧
       ((s.dmaCh c).answered ≤ (s.dmaCh c).sent → (s.dmaCh c).sent = (s.dmaCh c).issued →
         1 ≤ s.burstLen c → s.dmaOutstanding + s.burstLen c ≤ 64 →
         (∀ i, i < s.burstLen c → s.dmaCross (tdFrom (s.dmaCh c).td ((s.dmaCh c).issued + i)) = none) →
         (t.dmaCh c).sent = (t.dmaCh c).issued ∧ t.fab.held = s.fab.held.filter (fun i => i != 2096 + c)) ∧
       SameBut s t [] []) ∧
   (∀ (c : Fin 64) (s : State), (s.dmaCh c).phase = .run → (s.dmaCh c).answered < (s.dmaCh c).sent →
     (s.dmaCh c).sent ≤ (s.dmaCh c).issued → s.reach islSYS = true →
     (let a := tdFrom (s.dmaCh c).td (s.dmaCh c).answered
      let b := tdTo (s.dmaCh c).td (s.dmaCh c).answered
      a % 4 = 0 → b % 4 = 0 → inSram b 4 = true → s.initAt a = false → s.initAt b = false →
      (inSram a 4 = true → s.ue.contains a = false → s.ce.contains a = false →
        ∃ t, exec (.dmaReadResponse c) s = .next t ∧ t.word b = s.word a ∧ (t.dmaCh c).answered = (s.dmaCh c).answered + 1 ∧
          (t.dmaCh c).written = (s.dmaCh c).written + 1 ∧ (t.dmaCh c).phase = .run ∧ SameButMem s t [] [] b 4) ∧
      (s.target a = none → inWindow a = false →
        ∃ t, exec (.dmaReadResponse c) s = .next t ∧ (t.dmaCh c).phase = .finish 1 ∧ t.reg (aDMA_ERRADDR c) = BitVec.ofNat 32 a ∧
          (t.dmaCh c).written = (s.dmaCh c).written ∧ SameBut s t [aDMA_ERRADDR c] []))))

/-- R368: the destination index of each mode, for a TD that is not bad: the interleaves, the deinterleave and the transpose are one-to-one
onto 0 to count − 1. -/
def Obligations.DmaModesArePermutations : Prop :=
  ∀ td : List Word, tdBad td = false →
    (∀ i, i < tdCount td → tdMap td i < tdCount td) ∧
    (∀ i j, i < tdCount td → j < tdCount td → tdMap td i = tdMap td j → i = j) ∧
    (tdMode td = 0 → ∀ i, tdMap td i = i) ∧
    (tdMode td = 1 → ∀ l k, l * tdNway td = tdCount td → k < tdNway td → ∀ i, i < l → tdMap td (k * l + i) = i * tdNway td + k) ∧
    (tdMode td = 2 → ∀ l k, l * tdNway td = tdCount td → k < tdNway td → ∀ i, i < l → tdMap td (i * tdNway td + k) = k * l + i) ∧
    (tdMode td = 3 → ∀ r c, r < tdRows td → c < tdCols td → tdMap td (r * tdCols td + c) = c * tdRows td + r)

/-- R372 to R378: a channel that can complete takes its status; done or err sets, seq advances and its producer fires; with status 0 and
stop = 0 it goes on to the next TD, else it is idle. A record that the TD asks for is appended to its queue first; one that the queue
refuses is lost and sets rec_lost; one that finds a backpressure queue full makes the channel wait. An error response to a write whose
record went before it sets late_err, and ERRADDR holds its address where no error stood. -/
def Obligations.DmaCompletes : Prop :=
  (∀ (c : Fin 64) (st : Nat) (s : State), s.dmaStatus c = some st → st ≤ 5 → s.mode ≠ .frost →
    (let d := s.dmaCh c
     let q := tdQueue d.td
     let ended (t : State) : Prop := t.get (aDMA_STAT c) DMA_STAT.last_status = st ∧
       (st = 0 → t.on (aDMA_STAT c) DMA_STAT.done = true) ∧ (st ≠ 0 → t.on (aDMA_STAT c) DMA_STAT.err = true) ∧
       t.get (aDMA_STAT c) DMA_STAT.seq = (s.get (aDMA_STAT c) DMA_STAT.seq + 1) % 256 ∧ Fires s t (1248 + c) s.tb ∧
       (st = 0 ∧ (tdWord d.td 4).getLsbD 0 = false → (t.dmaCh c).phase = .fetch ∧ t.reg (aDMA_CUR c) = tdWord d.td 4 &&& 0xFFFFFFE0#32) ∧
       (st ≠ 0 ∨ (tdWord d.td 4).getLsbD 0 = true → (t.dmaCh c).phase = .idle ∧ t.on (aDMA_STAT c) DMA_STAT.busy = false)
     let rs := [aDMA_STAT c, aDMA_CUR c, aDMA_ERRADDR c]
     (tdRec d.td = false →
       ∃ t, exec (.dmaCompletion c) s = .next t ∧ ended t ∧ t.on (aDMA_STAT c) DMA_STAT.rec_lost = s.on (aDMA_STAT c) DMA_STAT.rec_lost ∧
         SameBut s t rs []) ∧
     (tdRec d.td = true → s.QClean q → s.qInit q = false → s.qMay q (s.get (aDMA_CFG c) DMA_CFG.ring) = false →
       ∃ t, exec (.dmaCompletion c) s = .next t ∧ ended t ∧ t.on (aDMA_STAT c) DMA_STAT.rec_lost = true ∧ SameBut s t rs []) ∧
     (tdRec d.td = true → s.QClean q → s.qInit q = false → s.qMay q (s.get (aDMA_CFG c) DMA_CFG.ring) = true → s.qCount q < s.qSize q →
       s.qSize q ≤ 65536 →
       ∃ t, exec (.dmaCompletion c) s = .next t ∧ ended t ∧ t.qCount q = s.qCount q + 1 ∧
         (∀ i w, [BitVec.ofNat 32 (st * 2 ^ 24 + s.get (aDMA_STAT c) DMA_STAT.seq * 2 ^ 8 + c), s.reg (aDMA_CUR c),
            BitVec.ofNat 32 (4 * d.written), s.tbLo][i]? = some w → t.word (s.qRec q (s.qTail q) + 4 * i) = w) ∧
         SameButMem s t (rs ++ [aQD_PTR q, aQD_CNT q, aQW_LINE (s.qLine q)]) [] (s.qRec q (s.qTail q)) 16) ∧
     (tdRec d.td = true → s.QClean q → s.qInit q = false → s.qMay q (s.get (aDMA_CFG c) DMA_CFG.ring) = true → s.qSize q ≤ s.qCount q →
       s.get (aQD_CFG q) QD_CFG.policy = 2 →
       ∃ t, exec (.dmaCompletion c) s = .next t ∧ t.on (aDMA_STAT c) DMA_STAT.waitq = true ∧ (t.dmaCh c).phase = .waitq st ∧
         t.qm.waits = s.qm.waits ++ [{ queue := q, who := .dma c, words := s.dmaRecord c st }] ∧ SameBut s t [aDMA_STAT c] []))) ∧
  (∀ (c : Fin 64) (x : Nat) (xs : List Nat) (s : State), (s.dmaCh c).late = x :: xs →
    ∃ t, exec (.dmaLateError c) s = .next t ∧ t.on (aDMA_STAT c) DMA_STAT.late_err = true ∧ (t.dmaCh c).late = xs ∧
      (s.on (aDMA_STAT c) DMA_STAT.late_err = false → s.on (aDMA_STAT c) DMA_STAT.err = false →
        t.reg (aDMA_ERRADDR c) = BitVec.ofNat 32 x) ∧
      (s.on (aDMA_STAT c) DMA_STAT.late_err = true ∨ s.on (aDMA_STAT c) DMA_STAT.err = true →
        t.reg (aDMA_ERRADDR c) = s.reg (aDMA_ERRADDR c)) ∧
      SameBut s t [aDMA_STAT c, aDMA_ERRADDR c] [])

/-- R385, R403, R407, R408, R414: the states of a port that holds no request. An enabled READY port starts in SYNC; a disabled one is in OFF
with its state clear; lock takes SYNC to ENUM where auto_enum = 1, and BROKEN to SYNC; a lost lock or a FAULT set takes ENUM, CHECK and RUN
to BROKEN, and the first FAULT address is kept; an ENUM that returns with the expected number of nodes takes the port to RUN, its schedule
in force from now, and with another number to CHECK; one that has not returned after 100 µs takes it to SYNC. A write of enum starts an
enumeration, in RUN once no request is outstanding; a kick makes its node pending. -/
def Obligations.FieldringPortStates : Prop :=
  ∀ (p : Fin 48) (s : State), (s.frPort p).outs = [] → (s.frPort p).retry = [] →
    (∀ (q : Req) (w : Word), s.Reaches q islLNK → s.ringOf q ≤ 1 → s.hwNow (aFR_CFG p) = 0 →
      (s.on (aFR_CFG p) FR_CFG.en = false → getBits w FR_CFG.en = 1 → s.frReady p = true → s.frState p = frOFF →
        ((s.frPort p).lock = false ∨ getBits w FR_CFG.auto_enum = 0) →
        ∃ t, exec (.frCfgEnWrite q p w) s = .next t ∧ t.frState p = frSYNC ∧ t.reg (aFR_CFG p) = directWrite fFR_CFG (s.reg (aFR_CFG p)) w ∧
          t.respOf q = { err := false, val := 0 } ∧ SameBut s t [aFR_CFG p, aFR_STATUS p] []) ∧
      (s.on (aFR_CFG p) FR_CFG.en = true → getBits w FR_CFG.en = 0 →
        ∃ t, exec (.frCfgEnWrite q p w) s = .next t ∧ t.frState p = frOFF ∧ t.frPort p = {} ∧
          (∀ j, j < 4 → t.reg (aFR_PEND p j) = 0) ∧ t.get (aFR_CFG p) FR_CFG.rate = s.get (aFR_CFG p) FR_CFG.rate ∧
          t.respOf q = { err := false, val := 0 } ∧ SameBut s t ([aFR_CFG p, aFR_STATUS p] ++ (List.range 4).map (aFR_PEND p)) []) ∧
      (getBits w FR_CTRL.enum = 1 → getBits w FR_CTRL.kick = 0 →
        s.frState p = frCHECK ∨ s.frState p = frRUN ∨ s.frState p = frSYNC ∧ (s.frPort p).lock = true →
        ∃ t, exec (.frEnum q p w) s = .next t ∧ t.frState p = frENUM ∧
          (t.frPort p).enumLeft = some (s.frEnd p (s.frChar p (max s.tb (s.frPort p).free)) 2) ∧
          t.respOf q = { err := false, val := 0 } ∧ SameBut s t [aFR_STATUS p] []) ∧
      (getBits w FR_CTRL.enum = 0 → getBits w FR_CTRL.kick = 1 → 1 ≤ getBits w FR_CTRL.node → getBits w FR_CTRL.node ≤ 126 →
        ∃ t, exec (.frKick q p w) s = .next t ∧ t.frPending p (getBits w FR_CTRL.node) = true ∧
          (∀ n, n < 128 → n ≠ getBits w FR_CTRL.node → t.frPending p n = s.frPending p n) ∧
          t.respOf q = { err := false, val := 0 } ∧ SameBut s t [aFR_PEND p (getBits w FR_CTRL.node / 32)] [])) ∧
    (s.frState p = frSYNC → s.on (aFR_CFG p) FR_CFG.auto_enum = false →
      ∃ t, exec (.frLockGained p) s = .next t ∧ (t.frPort p).lock = true ∧ t.frState p = frSYNC ∧ SameBut s t [] []) ∧
    (s.frState p = frSYNC → s.on (aFR_CFG p) FR_CFG.auto_enum = true →
      ∃ t, exec (.frLockGained p) s = .next t ∧ (t.frPort p).lock = true ∧ t.frState p = frENUM ∧ SameBut s t [aFR_STATUS p] []) ∧
    (s.frState p = frBROKEN → s.on (aFR_CFG p) FR_CFG.auto_enum = false →
      ∃ t, exec (.frLockGained p) s = .next t ∧ (t.frPort p).lock = true ∧ t.frState p = frSYNC ∧ SameBut s t [aFR_STATUS p] []) ∧
    (s.frLive p = true →
      ∃ t, exec (.frLockLost p) s = .next t ∧ (t.frPort p).lock = false ∧ t.frState p = frBROKEN ∧
        t.on (aFR_STATUS p) FR_STATUS.lock_lost = true ∧ SameBut s t [aFR_STATUS p] []) ∧
    (∀ node : BitVec 7, s.frState p ≠ frOFF →
      ∃ t, exec (.frFaultReceived p node) s = .next t ∧ t.on (aFR_STATUS p) FR_STATUS.fault_seen = true ∧
        t.frState p = (if s.frLive p then frBROKEN else s.frState p) ∧
        t.get (aFR_STATUS p) FR_STATUS.fault_node =
          (if s.frState p = frRUN ∨ s.get (aFR_STATUS p) FR_STATUS.fault_node = 0 then node.toNat
           else s.get (aFR_STATUS p) FR_STATUS.fault_node) ∧ SameBut s t [aFR_STATUS p] []) ∧
    (∀ (hop : BitVec 7) (dr : BitVec 20), s.frState p = frENUM → (s.frPort p).enumLeft.isSome = true →
      (let ex := s.get (aFR_CFG p) FR_CFG.expect
       (1 ≤ hop.toNat → hop.toNat ≤ 126 → (ex = 0 ∨ hop.toNat = ex) →
         ∃ t, exec (.frEnumReturn p hop dr) s = .next t ∧ t.frState p = frRUN ∧ t.get (aFR_STATUS p) FR_STATUS.nodes = hop.toNat ∧
           t.get (aFR_RING p) FR_RING.dr = dr.toNat ∧ (t.frPort p).since = s.tb ∧
           (∀ k, s.get (aPT_MAP k) PT_MAP.port = p → t.frSeq k 0 = 0 ∧ t.frSeq k 2 = 0) ∧ SameBut s t [aFR_STATUS p, aFR_RING p] []) ∧
       (hop.toNat = 127 ∨ ex ≠ 0 ∧ hop.toNat ≠ ex →
         ∃ t, exec (.frEnumReturn p hop dr) s = .next t ∧ t.frState p = frCHECK ∧ t.on (aFR_STATUS p) FR_STATUS.cnt_err = true ∧
           t.get (aFR_STATUS p) FR_STATUS.nodes = hop.toNat ∧ SameBut s t [aFR_STATUS p, aFR_RING p] []))) ∧
    (∀ te, (s.frPort p).enumLeft = some te → s.frState p = frENUM → te + 100000 ≤ s.tb →
      ((s.frPort p).lock = false ∨ s.on (aFR_CFG p) FR_CFG.auto_enum = false) →
      ∃ t, exec (.frEnumTimeout p) s = .next t ∧ t.frState p = frSYNC ∧ t.on (aFR_STATUS p) FR_STATUS.enum_to = true ∧
        (t.frPort p).enumLeft = none ∧ SameBut s t [aFR_STATUS p] [])

/-- R393, R401, R405, R409 to R412: on a free line the next pending node's command record leaves its queue and goes out from the next
character boundary, with the partner's next seq, if it keeps clear of the next poll; DROP goes to all nodes and awaits no answer; a cycle
starts at its time, and keeps the polls of the last one that the line has held up; a due entry, and on an activation every triggered one,
sends its poll, late where the line is not free. R391, R394, R395, R400, R405: the valid answer to the one outstanding request completes it
with a record of its stamp and payload in the partner's queue; a frame that breaks the character rules or the CRC is counted as such, and a
valid one that matches no request as stray; a request that times out is counted, goes to its retries while it has any, and else completes
with status 2. -/
def Obligations.FieldringTraffic : Prop :=
  ((∀ (p : Fin 48) (n k : Nat) (ns : List Nat) (ws : List Word) (pay : List Byte) (s : State), s.frState p = frRUN →
     (s.frPort p).free ≤ s.tb → (s.frPort p).retry = [] → (s.frPort p).enumWait = false → s.frNodes p = n :: ns → s.partner p n = some k →
     s.frHead (4 * k) = some ws → s.frRecord ws = some pay → (∀ x ∈ s.qm.waits, x.queue ≠ 4 * k) → s.qSize (4 * k) ≤ 65536 →
     s.QClean (4 * k) → (∀ a len, frExt ws = some (a, len) → ∀ x ∈ s.ce, x + 4 ≤ a ∨ a + len ≤ x) →
     (let w0 := ws.getD 0 0
      let b := s.frChar p s.tb
      (frDrop (w0.getLsbD 31) pay = true → s.frFits p b pay.length (6 * s.frTc p) = true →
       ∃ t, exec (.frCommandStart p) s = .next t ∧ (t.frPort p).outs = (s.frPort p).outs ∧
        (t.frPort p).free = s.frEnd p b pay.length + 6 * s.frTc p ∧ t.qCount (4 * k) = s.qCount (4 * k) - 1 ∧
        SameBut s t [aQD_PTR (4 * k), aQD_CNT (4 * k), aQW_LINE (s.qLine (4 * k))] []) ∧
      (frDrop (w0.getLsbD 31) pay = false →
       s.frFits p b pay.length (s.frTans k + (24 + w0.toNat / 2 ^ 8 % 128) * s.frTc p) = true →
       ∃ t r, exec (.frCommandStart p) s = .next t ∧ (t.frPort p).outs = (s.frPort p).outs ++ [r] ∧ r.partner = k ∧ r.node = n ∧ r.cls = 0 ∧
        r.seq = s.frSeq k 0 ∧ r.payload = pay ∧ r.tag = w0.toNat % 256 ∧ r.te = s.frEnd p b pay.length ∧
        r.rmax = w0.toNat / 2 ^ 8 % 128 ∧ (t.frPort p).free = r.te + s.frTans k + (24 + r.rmax) * s.frTc p ∧ t.frSeq k 0 = (s.frSeq k 0 + 1) % 16 ∧
        t.qCount (4 * k) = s.qCount (4 * k) - 1 ∧
        SameBut s t [aQD_PTR (4 * k), aQD_CNT (4 * k), aQW_LINE (s.qLine (4 * k))] []))) ∧
   (∀ (p : Fin 48) (n k : Nat) (s : State), s.frState p = frRUN → (s.frPort p).free ≤ s.tb → (s.frPort p).retry = [] →
     (s.frPort p).enumWait = false → s.frNodes p = [n] → s.partner p n = some k → s.frHead (4 * k) = none → n < 128 →
     s.QClean (4 * k) →
     ∃ t, exec (.frCommandStart p) s = .next t ∧ t.frPending p n = false ∧ (t.frPort p).outs = (s.frPort p).outs ∧
       t.on (aFR_STATUS p) FR_STATUS.q_err = (s.on (aFR_STATUS p) FR_STATUS.q_err || !s.qMay (4 * k) 0) ∧
       SameBut s t [aFR_STATUS p, aFR_PEND p (n / 32)] []) ∧
   (∀ (p : Fin 48) (s : State), s.frSched p = true →
     (let j := match (s.frPort p).cycle with
       | some i => i + 1
       | none => s.frFirst p
      s.dueTick (s.frAnchor p + j * s.frTcyc p) ≤ s.tb →
      ∃ t, exec (.frCycleStart p) s = .next t ∧ (t.frPort p).cycle = some j ∧ (t.frPort p).done = [] ∧
        (t.frPort p).behind = (s.frPort p).behind ++ ((s.frPort p).cycle.map (s.frLeft p)).getD [] ∧
        t.on (aFR_STATUS p) FR_STATUS.sched_err = (s.on (aFR_STATUS p) FR_STATUS.sched_err || (List.range 256).any (fun e => s.frBadEntry p e)) ∧
        SameBut s t [aFR_STATUS p] [])) ∧
   (∀ (p : Fin 48) (i : Fin 256) (d k : Nat) (s : State), s.frIsDue p i = some d →
     (∀ e d', e < 256 → s.frIsDue p e = some d' → d < d' ∨ d = d' ∧ i.val ≤ e) → (∀ y ∈ (s.frPort p).trig, y.1 ≠ i.val) →
     s.frPolls p i k d →
     ∃ t, exec (.frPollDue p i) s = .next t ∧ FrPolled s t p i k d ∧
       ((∀ y ∈ (s.frPort p).behind, y.1 ≠ i.val) → (t.frPort p).done = (s.frPort p).done ++ [i.val]) ∧
       (∀ y, (s.frPort p).behind.find? (fun y => y.1 == i.val) = some y →
         (t.frPort p).behind = (s.frPort p).behind.erase y ∧ (t.frPort p).done = (s.frPort p).done) ∧ SameBut s t [] []) ∧
   (∀ (p : Fin 48) (i : Fin 256) (a : Act) (k : Nat) (s : State), s.actFor (2328 + p) = some a → s.frSched p = true →
     (List.range 256).filter (fun e => s.on (aFR_SE0 p e) FR_SE0.en && s.on (aFR_SE0 p e) FR_SE0.trig) = [i.val] → s.frPolls p i k a.take →
     ∃ t, exec (.frPollTrigger p) s = .next t ∧ FrPolled s t p i k a.take ∧ t.fab.acts = s.fab.acts.erase a ∧ SameBut s t [] [])) ∧
  ((∀ (p : Fin 48) (f : FrFrame) (r : FrReq) (s : State), s.frState p ≠ frOFF → frWhole f = true → frCrcOk f = true →
     (s.frPort p).outs = [r] → (s.frPort p).enumWait = false → frMatch f.bytes r = .answer → f.bytes.length ≤ 18 →
     (f.bytes.getD 2 0).getLsbD 0 = false →
     (let q := 4 * r.partner + if r.cls = 0 then 1 else 2
      let pay := (f.bytes.drop 6).take (f.bytes.length - 10)
      s.QClean q → s.qMay q 0 = true → s.qCount q < s.qSize q → s.qSize q ≤ 65536 →
      ∃ t, exec (.frFrameReceived p f) s = .next t ∧ (t.frPort p).outs = [] ∧ t.qCount q = s.qCount q + 1 ∧
        (∀ i w, [BitVec.ofNat 32 (r.tag % 256 * 2 ^ 16 + r.seq % 16 * 2 ^ 12 + r.late.toNat * 2 ^ 9 + (decide (0 < r.tries)).toNat * 2 ^ 8 +
             pay.length), f.sof.setWidth 32, payWord pay 0, payWord pay 1][i]? = some w →
           t.word (s.qRec q (s.qTail q) + 4 * i) = w) ∧
        t.on (aPT_MAP r.partner) PT_MAP.alm_seen = false ∧
        SameButMem s t [aPT_MAP r.partner, aQD_PTR q, aQD_CNT q, aQW_LINE (s.qLine q)] [] (s.qRec q (s.qTail q)) 16)) ∧
   (∀ (p : Fin 48) (f : FrFrame) (s : State), s.frState p ≠ frOFF → (s.frPort p).outs = [] →
     (let fld := if frWhole f = false then FR_ERRCNT.code_err else if frCrcOk f = false then FR_ERRCNT.crc_err else FR_ERRCNT.stray
      ∃ t, exec (.frFrameReceived p f) s = .next t ∧ t.get (aFR_ERRCNT p) fld = min (s.get (aFR_ERRCNT p) fld + 1) 255 ∧
        t.fr = s.fr ∧ SameBut s t [aFR_ERRCNT p] [])) ∧
   (∀ (p : Fin 48) (r : FrReq) (s : State), (s.frPort p).outs = [r] →
     r.te + s.get (aFR_RING p) FR_RING.dr + s.frTans r.partner + 400 ≤ s.tb →
     (r.cls = 0 → r.tries < s.get (aPT_MAP r.partner) PT_MAP.max_retry →
       ∃ t, exec (.frTimeout p) s = .next t ∧ (t.frPort p).outs = [] ∧
         (t.frPort p).retry = (s.frPort p).retry ++ [{ r with tries := r.tries + 1 }] ∧
         t.get (aFR_ERRCNT p) FR_ERRCNT.timeouts = min (s.get (aFR_ERRCNT p) FR_ERRCNT.timeouts + 1) 255 ∧
         SameBut s t [aFR_ERRCNT p] []) ∧
     (r.cls ≠ 0 ∨ s.get (aPT_MAP r.partner) PT_MAP.max_retry ≤ r.tries → (s.frPort p).enumWait = false →
       (let q := 4 * r.partner + if r.cls = 0 then 1 else 2
        s.QClean q → s.qMay q 0 = true → s.qCount q < s.qSize q → s.qSize q ≤ 65536 →
        ∃ t, exec (.frTimeout p) s = .next t ∧ (t.frPort p).outs = [] ∧ t.qCount q = s.qCount q + 1 ∧
          (∀ i w, [BitVec.ofNat 32 (2 * 2 ^ 24 + r.tag % 256 * 2 ^ 16 + r.seq % 16 * 2 ^ 12 + r.late.toNat * 2 ^ 9 +
               (decide (0 < r.tries)).toNat * 2 ^ 8), s.tbLo, 0, 0][i]? = some w → t.word (s.qRec q (s.qTail q) + 4 * i) = w) ∧
          t.get (aFR_ERRCNT p) FR_ERRCNT.timeouts = min (s.get (aFR_ERRCNT p) FR_ERRCNT.timeouts + 1) 255 ∧
          SameButMem s t [aFR_ERRCNT p, aQD_PTR q, aQD_CNT q, aQW_LINE (s.qLine q)] [] (s.qRec q (s.qTail q)) 16))))

/-- R417 to R425: the states of a Swimlink port. An enabled port that has been DOWN for 10 µs trains; with both lanes locked it aligns, and
once the lanes are deskewed it sends its IDENT packet in IDENT; an IDENT packet of a device of this tandem with another address takes it to
UP, with the peer's address, port and depth, and any other only sets its flag; a packet in order is acknowledged, and one with a bad CRC
answered with a nak; a lane that loses lock ends with an error every command that waits on the port; a link that has failed and a disabled
port are DOWN; a credit block frees what it acknowledges and brings credits back, and one with nak has the rest sent again; a block of no
known kind is counted. -/
def Obligations.SwimlinkPortStates : Prop :=
  (∀ (q : Req) (l : Fin 8) (w : Word) (s : State), s.Reaches q islLNK → s.ringOf q ≤ 1 → s.hwNow (aSWL_CFG l) = 0 →
    (s.on (aSWL_CFG l) SWL_CFG.en = false → getBits w SWL_CFG.en = 1 →
      ∃ t, exec (.swlCfgEnWrite q l w) s = .next t ∧ t.on (aSWL_CFG l) SWL_CFG.en = true ∧ (t.swlPort l).downAt = s.tb ∧
        t.swlState l = s.swlState l ∧ t.respOf q = { err := false, val := 0 } ∧ SameBut s t [aSWL_CFG l] []) ∧
    (s.on (aSWL_CFG l) SWL_CFG.en = true → getBits w SWL_CFG.en = 0 → (∀ o ∈ s.swl.outs, o.port ≠ l) →
      ∃ t, exec (.swlCfgEnWrite q l w) s = .next t ∧ t.on (aSWL_CFG l) SWL_CFG.en = false ∧ t.swlState l = swlDOWN ∧
        t.swlPort l = { downAt := s.tb } ∧ t.respOf q = { err := false, val := 0 } ∧
        SameBut s t [aSWL_CFG l, aSWL_STATUS l, aSWL_TMSTAT] [])) ∧
  (∀ (l : Fin 8) (s : State), s.swlOn l = true → s.swlState l = swlDOWN → (s.swlPort l).downAt + 10000 ≤ s.tb →
    ∃ t, exec (.swlTrainStart l) s = .next t ∧ t.swlState l = swlTRAIN ∧ SameBut s t [aSWL_STATUS l] []) ∧
  (∀ (l : Fin 8) (lane : Fin 2) (skew : Option Nat) (s : State), s.swlState l ≠ swlDOWN →
    (let l0 := (s.swlPort l).lock0 || lane == 0
     let l1 := (s.swlPort l).lock1 || lane == 1
     let aligns := l0 && l1 && (s.swlState l == swlTRAIN || s.swlState l == swlALIGN)
     let deskewed := skew.any (fun n => decide (n ≤ 4))
     ∃ t, exec (.swlBlockLock l lane skew) s = .next t ∧ (t.swlPort l).lock0 = l0 ∧ (t.swlPort l).lock1 = l1 ∧
       t.swlState l = (if aligns then (if deskewed then swlIDENT else swlALIGN) else s.swlState l) ∧
       (aligns = true → deskewed = true → t.Sent l (s.identPkt l)) ∧ SameBut s t [aSWL_STATUS l] []) ∧
    (∃ t, exec (.blockLockLost l lane) s = .next t ∧ (t.swlPort l).lock0 = ((s.swlPort l).lock0 && lane != 0) ∧
       (t.swlPort l).lock1 = ((s.swlPort l).lock1 && lane != 1) ∧ t.swlState l = s.swlState l ∧
       (t.swlPort l).unlockAt = some ((s.swlPort l).unlockAt.getD s.tb) ∧
       (∀ o ∈ s.swl.outs, ∀ x w, o.port = l → o.who = .access x → x.st.kind = .cmd w →
         t.respOf (reqAt x.eng x.st.ring) = { err := true, val := 0 }) ∧
       ((∀ o ∈ s.swl.outs, o.port ≠ l) → SameBut s t [] [] ∧
         (t.swlPort l).waiting = (s.swlPort l).waiting.filter (fun p => p.src == s.devaddr && pktClass p.type != 0)))) ∧
  (∀ (l : Fin 8) (f : SwlFail) (s : State), s.swlState l = swlIDENT ∨ s.swlState l = swlUP →
    (s.swlFailed l f = true → (∀ o ∈ s.swl.outs, o.port ≠ l) →
      ∃ t, exec (.swlLinkFail l f) s = .next t ∧ t.swlState l = swlDOWN ∧ t.on (aSWL_STATUS l) SWL_STATUS.link_fail = true ∧
        t.swlPort l = { downAt := s.tb } ∧ SameBut s t [aSWL_STATUS l, aSWL_TMSTAT] []) ∧
    (s.swlFailed l f = false → exec (.swlLinkFail l f) s = .next s)) ∧
  (∀ (l : Fin 8) (p : SwlPkt) (m : SwlIdent) (s : State), s.swlState l = swlIDENT →
    (s.Arrives l 9 p → m.dev.toNat ≠ s.devaddr → m.tandem.toNat = s.get aSWL_DEV SWL_DEV.tandem_id →
      ∃ t, exec (.swlIdent l p m) s = .next t ∧ t.swlState l = swlUP ∧ t.get (aSWL_STATUS l) SWL_STATUS.peer_dev = m.dev.toNat ∧
        t.get (aSWL_STATUS l) SWL_STATUS.peer_port = m.port.toNat ∧ t.get (aSWL_STATUS l) SWL_STATUS.peer_depth = m.depth.toNat ∧
        (t.swlPort l).rxSeq = ((s.swlPort l).rxSeq + 1) % 256 ∧ CrdSent t l (s.swlPort l).rxSeq false 0 0 ∧ SameBut s t [aSWL_STATUS l] []) ∧
    (s.Arrives l 9 p → m.dev.toNat = s.devaddr ∨ m.tandem.toNat ≠ s.get aSWL_DEV SWL_DEV.tandem_id →
      ∃ t, exec (.swlIdent l p m) s = .next t ∧ t.swlState l = swlIDENT ∧
        (m.dev.toNat = s.devaddr → t.on (aSWL_STATUS l) SWL_STATUS.dup_addr = true) ∧
        (m.tandem.toNat ≠ s.get aSWL_DEV SWL_DEV.tandem_id → t.on (aSWL_STATUS l) SWL_STATUS.id_err = true) ∧
        CrdSent t l (s.swlPort l).rxSeq false 0 0 ∧ SameBut s t [aSWL_STATUS l] []) ∧
    (pktCrcOk p = false →
      ∃ t, exec (.swlIdent l p m) s = .next t ∧ t.swlState l = swlIDENT ∧ (t.swlPort l).nakDue = true ∧
        (t.swlPort l).rxSeq = (s.swlPort l).rxSeq ∧ CrdSent t l ((s.swlPort l).rxSeq + 255) true 0 0 ∧ SameBut s t [aSWL_ERRCNT l] [])) ∧
  (∀ (l : Fin 8) (b : SwlBlk) (s : State), s.swlState l = swlIDENT ∨ s.swlState l = swlUP →
    (blkIs b 0x55 = true → (s.swlPort l).waiting = [] →
      ∃ t, exec (.swlCrd l b) s = .next t ∧ (t.swlPort l).reqCr = min 32 ((s.swlPort l).reqCr + crdReq b) ∧
        (t.swlPort l).rspCr = min 32 ((s.swlPort l).rspCr + crdRsp b) ∧
        (t.swlPort l).replay.map (fun x => (x.1, x.2.1)) = (ackTo (crdAck b) (s.swlPort l).replay).map (fun x => (x.1, x.2.1)) ∧
        (crdNak b = false → t.reg (aSWL_ERRCNT l) = s.reg (aSWL_ERRCNT l)) ∧ SameBut s t [aSWL_ERRCNT l] []) ∧
    (blkBad b = true →
      ∃ t, exec (.swlCrd l b) s = .next t ∧
        t.get (aSWL_ERRCNT l) SWL_ERRCNT.bad_blk = min (s.get (aSWL_ERRCNT l) SWL_ERRCNT.bad_blk + 1) 255 ∧ t.swl = s.swl ∧
        SameBut s t [aSWL_ERRCNT l] []))

/-- R422 to R429: a whole read request for this device crosses to the island that its window names and is answered with the word there, and
a write is done there and acknowledged; one that no window lists is answered with ERRRSP; a packet for another device goes on along its
route; a packet with a bad CRC is counted and answered with a nak. A response ends the request whose tag it carries: the requester that
waits for it gets its answer; a request without a response for 20 µs ends with an error. R429, R430, R441: a record from another device is
put into its queue under the effective ring and answered; an RRST packet of effective ring 0 starts a SYS reset where rrst_en = 1, and is
answered with ERRRSP elsewhere; a ring-0 write of the key to SWL_RRST sends one. A forwarding entry sends the record at the head of its
queue, which stays there, and sends it again: 1 µs after it was last sent, where the target's queue was full, and after another failure once
its route is UP. -/
def Obligations.SwimlinkPackets : Prop :=
  ((∀ (l : Fin 8) (p : SwlPkt) (d : Nat) (s : State), s.Routes (pktSrc p) d → s.carried = none →
     (let rsp (type : Nat) (data : List Byte) : Pkt := { s.ownPkt type (pktSrc p) (pktTag p) data with down := !s.upLink d }
      (∀ a, reqAddr p = some a → inSram (a / 4 * 4) 4 = true → s.reach islSYS = true → s.fifo islLNK islSYS = [] →
        s.initAt a = false → s.ue.contains (a / 4 * 4) = false → s.ce.contains (a / 4 * 4) = false →
        (s.Takes l 1 p →
          ∃ u t, exec (.swlRdreq l p) s = .next u ∧ SameBut s u [] [] ∧
           exec (.handshakeFifoDelivery (Fin.ofNat 26 islLNK) (Fin.ofNat 26 islSYS)) u = .next t ∧
           t.Sent d (rsp 3 (wordBytes (pick a (pktSize p) (s.word (a / 4 * 4))))) ∧ t.fifo islLNK islSYS = [] ∧ SameBut s t [] []) ∧
        (s.Takes l 2 p →
          ∃ u t, exec (.swlWrreq l p) s = .next u ∧ SameBut s u [] [] ∧
           exec (.handshakeFifoDelivery (Fin.ofNat 26 islLNK) (Fin.ofNat 26 islSYS)) u = .next t ∧ t.Sent d (rsp 4 []) ∧
           (∀ i, i < sizeLen (pktSize p) → t.byte (a + i) = byteOf (BitVec.ofNat 32 (leNat ((pktData p).take 4))) i) ∧
           SameButMem s t [] [] a (sizeLen (pktSize p)))) ∧
      (reqAddr p = none → ∀ c type, (c, type) ∈ [(Instr.swlRdreq l p, 1), (.swlWrreq l p, 2)] → s.Takes l type p →
        ∃ t, exec c s = .next t ∧ t.Sent d (rsp 10 []) ∧ SameBut s t [] []))) ∧
   (∀ (l : Fin 8) (p : SwlPkt) (r : BitVec 2) (m : SwlHb) (n : SwlCmt) (d : Nat) (s : State), s.swlUp l = true →
     pktDst p ≠ s.devaddr → s.Routes (pktDst p) d → (pktOn p).down = false ∨ s.upLink d = false →
     ∀ c type, (c, type) ∈ [(Instr.swlRdreq l p, 1), (.swlWrreq l p, 2), (.swlRdrsp l p, 3), (.swlWrack l p r, 4), (.swlQrec l p, 5),
       (.swlHb l p m, 6), (.sharedCommitMessage l p n, 7), (.swlRrst l p, 8), (.swlErrrsp l p, 10)] → s.Arrives l type p →
     ∃ t, exec c s = .next t ∧ t.Sent d { pktOn p with down := (pktOn p).down || !s.upLink d } ∧ SameBut s t [] []) ∧
   (∀ (l : Fin 8) (p : SwlPkt) (r : BitVec 2) (s : State), s.swlUp l = true → pktCrcOk p = false →
     ∀ c ∈ [Instr.swlRdreq l p, .swlWrreq l p, .swlRdrsp l p, .swlWrack l p r, .swlQrec l p, .swlRrst l p, .swlErrrsp l p],
     ∃ t, exec c s = .next t ∧ t.get (aSWL_ERRCNT l) SWL_ERRCNT.crc_err = min (s.get (aSWL_ERRCNT l) SWL_ERRCNT.crc_err + 1) 255 ∧
       (t.swlPort l).nakDue = true ∧ CrdSent t l ((s.swlPort l).rxSeq + 255) true 0 0 ∧ SameBut s t [aSWL_ERRCNT l] []) ∧
   (∀ (l : Fin 8) (p : SwlPkt) (r : BitVec 2) (o : SwlOut) (s : State),
     s.swl.outs.find? (fun x => x.tag == pktTag p) = some o →
     ∀ c type err, (c, type, err) ∈ [(Instr.swlRdrsp l p, 3, false), (.swlWrack l p r, 4, false), (.swlErrrsp l p, 10, true)] →
     s.Takes l type p →
     (∀ x, o.who = .access x →
       (let w := sized x.st.size (payWord (pktData p) 0)
        (∀ v, x.st.kind = .cmd v →
          ∃ t, exec c s = .next t ∧ t.respOf (reqAt x.eng x.st.ring) = { err := err, val := if err then 0 else w } ∧
            t.swl.outs = s.swl.outs.erase o ∧ SameBut s t [] []) ∧
        (x.st.kind = .op →
          ∃ t, exec c s = .next t ∧ (t.eng x.eng).reply = (if err then .err x.st.addr false else .words [w]) ∧
            t.swl.outs = s.swl.outs.erase o ∧ SameBut s t [] [x.eng])))) ∧
   (∀ (o : SwlOut) (os : List SwlOut) (x : Xfer) (u : Nat) (w : Bool) (s : State), s.swl.outs = o :: os → o.left = some u →
     u + 20000 ≤ s.tb → o.who = .access x → x.st.kind = .cmd w →
     ∃ t, exec .swlRequestTimeout s = .next t ∧ t.respOf (reqAt x.eng x.st.ring) = { err := true, val := 0 } ∧ t.swl.outs = os ∧
       SameBut s t [] [])) ∧
  ((∀ (l : Fin 8) (p : SwlPkt) (d : Nat) (s : State), s.Routes (pktSrc p) d →
     (let rsp (type : Nat) (data : List Byte) : Pkt := { s.ownPkt type (pktSrc p) (pktTag p) data with down := !s.upLink d }
      let q := pktAddr p % 16384
      let ring := s.effRing (pktRing p)
      (s.Takes l 5 p → s.QClean q → s.qMay q ring = true → s.qCount q < s.qSize q → s.qSize q ≤ 65536 →
        ∃ t, exec (.swlQrec l p) s = .next t ∧ t.Sent d (rsp 4 (Config.msgBytes (.result 0))) ∧ t.qCount q = s.qCount q + 1 ∧
          (∀ i w, (bytesWords (pktData p) 4)[i]? = some w → t.word (s.qRec q (s.qTail q) + 4 * i) = w) ∧
          SameButMem s t [aQD_PTR q, aQD_CNT q, aQW_LINE (s.qLine q)] [] (s.qRec q (s.qTail q)) 16) ∧
      (s.Takes l 5 p → s.QClean q → s.qMay q ring = false →
        ∃ t, exec (.swlQrec l p) s = .next t ∧ t.Sent d (rsp 10 []) ∧ SameBut s t [] []) ∧
      (s.Takes l 8 p → s.on aSWL_DEV SWL_DEV.rrst_en = true → ring = 0 → s.Unreset →
        ∃ t, exec (.swlRrst l p) s = .next t ∧ BeganReset s t false 0xA) ∧
      (s.Takes l 8 p → s.on aSWL_DEV SWL_DEV.rrst_en = false ∨ ring ≠ 0 →
        ∃ t, exec (.swlRrst l p) s = .next t ∧ t.Sent d (rsp 10 []) ∧ SameBut s t [] []))) ∧
   (∀ (q : Req) (w : Word) (d : Nat) (s : State), s.Reaches q islLNK → s.ringOf q = 0 → getBits w SWL_RRST.key = 0x5A →
     s.Routes (getBits w SWL_RRST.target) d →
     ∃ t, exec (.swlRrstSend q w) s = .next t ∧ t.respOf q = { err := false, val := 0 } ∧ SameBut s t [] [] ∧
       t.Sent d { s.ownPkt 8 (getBits w SWL_RRST.target) s.swl.nextTag [] with down := !s.upLink d }) ∧
   (∀ (k : Fin 64) (d : Nat) (ws : List Word) (s : State), s.alive islLNK = true → s.on (aSWL_QFWD k) SWL_QFWD.en = true →
     s.qOn (s.get (aSWL_QFWD k) SWL_QFWD.lq) = true → s.QClean (s.get (aSWL_QFWD k) SWL_QFWD.lq) →
     s.qPeek (s.get (aSWL_QFWD k) SWL_QFWD.lq) = some ws → s.Routes (s.get (aSWL_QFWD k) SWL_QFWD.d) d →
     (let sent (t : State) : Prop := t.fwdOf k = some (s.tb, true) ∧ t.swl.nextTag = (s.swl.nextTag + 1) % 256 ∧ SameBut s t [] [] ∧
        t.Sent d { s.ownPkt 5 (s.get (aSWL_QFWD k) SWL_QFWD.d) s.swl.nextTag (ws.flatMap wordBytes) with
                   addr := s.get (aSWL_QFWD k) SWL_QFWD.rq, down := !s.upLink d }
      (s.fwdOf k = none → ∃ t, exec (.qfwdSend k) s = .next t ∧ sent t) ∧
      (∀ u, s.fwdOf k = some (u, false) → u ≤ s.tb → ∃ t, exec (.qfwdResend k) s = .next t ∧ sent t))) ∧
   (∀ (l : Fin 8) (p : SwlPkt) (r : BitVec 2) (o : SwlOut) (k u : Nat) (s : State), s.Takes l 4 p →
     s.swl.outs.find? (fun x => x.tag == pktTag p) = some o → o.who = .qfwd k → s.fwdOf k = some (u, true) →
     (r = 2 → ∃ t, exec (.swlWrack l p r) s = .next t ∧ t.fwdOf k = some (u + 1000, false) ∧ SameBut s t [] []) ∧
     (r = 3 → ∃ t, exec (.swlWrack l p r) s = .next t ∧ t.fwdOf k = some (s.tb, false) ∧
       t.on (aSWL_STATUS l) SWL_STATUS.fwd_err = true ∧ SameBut s t [aSWL_STATUS l] [])))

/-- R431 to R436: a good event block of a device on this timebase makes an import wait for every bit of its mask, 40 ns after its stamp, and
each fires its producer at that tick; while the two devices do not share the timebase it waits no longer than 40 ns from the block's
arrival, and 8 ns at least; two bad copies lose the events; the exchanges with the parent give the offset, up to the rounding of half a
step, and a neighbour's request is answered; holdover ends after 10 ms with the device no longer joined; a lost TBSYNC is recorded; and
after the loss of the time master the lowest device still up takes its place. R438 to R442: a heartbeat goes out every 2 µs on every port
that is UP, and one that arrives is noted; a partner that has not been heard for 6,600 ns is lost, and with takeover the device that may own
then owns; the sensed OWNERn takes ownership away from the device that is not preferred; with no owner for 4 µs the preferred one owns; ring
0 claims, yields and starts a handoff, which at tick T moves ownership where go was exchanged in time and sets hand_fail elsewhere. Every
change of own fires its producer. How long an import waits without a shared timebase rests on the measured delay, a free value (log entry
48). -/
def Obligations.SwimlinkTimeAndOwnership : Prop :=
  ((∀ (l : Fin 8) (a b : SwlBlk) (s : State), s.swlUp l = true → blkBad a = false → blkBad b = false →
     (let u := s.stampTick (evtStamp a) + 40
      let ev (i : Nat) : Nat := i + if blkIs a 0x33 then 32 else 0
      (evtGood a = true → s.inTandem = true → s.tb ≤ u →
        ∃ t, exec (.swlEvtBlock l a b true) s = .next t ∧ SameBut s t [] [] ∧
          (∀ i, i < 32 → evtHas a i = true → (ev i, u) ∈ (t.swlPort l).imports)) ∧
      (∀ joined, evtGood a = true → (s.inTandem && joined) = false →
        ∃ t v, exec (.swlEvtBlock l a b joined) s = .next t ∧ s.tb + 8 ≤ v ∧ v ≤ s.tb + 40 ∧ SameBut s t [] [] ∧
          (∀ i, i < 32 → evtHas a i = true → (ev i, v) ∈ (t.swlPort l).imports)) ∧
      (∀ joined, evtGood a = true ∧ s.inTandem = true ∧ joined = true ∧ u < s.tb ∨ evtGood a = false ∧ evtGood b = false →
        ∃ t, exec (.swlEvtBlock l a b joined) s = .next t ∧ t.on (aSWL_STATUS l) SWL_STATUS.ev_lost = true ∧
          (t.swlPort l).imports = (s.swlPort l).imports ∧ SameBut s t [aSWL_STATUS l] []))) ∧
   (∀ (l : Fin 8) (ev : Fin 64) (u : Nat) (rest : List (Nat × Nat)) (s : State), (s.swlPort l).imports = (ev.val, u) :: rest → u ≤ s.tb →
     s.dueTick u = u → s.swlUp l = true → s.mode ≠ .frost →
     ∃ t, exec (.swlImportFire l ev) s = .next t ∧ Fires s t (1312 + 64 * l + ev) u ∧ (t.swlPort l).imports = rest ∧ SameBut s t [] []) ∧
   (∀ (l : Fin 8) (seq : BitVec 7) (t1 t2 t3 t4 : BitVec 48) (s : State), s.swlUp l = true → s.tsyncDue l = true →
     s.on aSWL_TMSTAT SWL_TMSTAT.joined = false →
     ∃ t r d, exec (.tsyncExchange l (.ask seq t1 t2 t3 t4)) s = .next t ∧ (r = 0 ∨ r = 1) ∧
       d = (stampDiff t2 t1 - stampDiff t4 t3 + r) / 2 - signed 8 (s.get (aSWL_CFG l) SWL_CFG.asym) ∧
       (t.get aSWL_TMSTAT SWL_TMSTAT.offset : Int) = d % 65536 ∧ t.swl.offs = d :: s.swl.offs.take 15 ∧ t.swl.exchAt = s.tb ∧ tsyncBlk false seq t1 ∈ (t.swlPort l).out ∧ SameBut s t [aSWL_TMSTAT] []) ∧
   (∀ (l : Fin 8) (seq : BitVec 7) (stamp : BitVec 48) (s : State), s.swlUp l = true →
     ∃ t, exec (.tsyncExchange l (.answer seq stamp)) s = .next t ∧ tsyncBlk true seq stamp ∈ (t.swlPort l).out ∧ SameBut s t [] []) ∧
   (∀ (u : Nat) (s : State), s.swl.holdAt = some u → u + 10000000 ≤ s.tb →
     ∃ t, exec .holdoverExpiry s = .next t ∧ t.on aSWL_TMSTAT SWL_TMSTAT.joined = false ∧ t.on aSWL_TMSTAT SWL_TMSTAT.holdover = false ∧
       t.swl.holdAt = none ∧ SameBut s t ([aSWL_TMSTAT] ++ (List.range 64).map aSL_STATUS ++ (List.range 32).map aBW_STATUS) []) ∧
   (∀ s : State, s.alive islLNK = true → s.on aSWL_TM SWL_TM.tbsync_en = true →
     ∃ t, exec .tbsyncLost s = .next t ∧ t.on aSWL_TMSTAT SWL_TMSTAT.tbsync_lost = true ∧ SameBut s t [aSWL_TMSTAT] []) ∧
   (∀ (m : Nat) (s : State), s.alive islLNK = true → s.on aSWL_TM SWL_TM.tm_en = true → s.isMaster = false → s.hears s.timeMaster = false →
     s.swl.masterAt + 6600 ≤ s.tb → m < 8 → (m = s.devaddr ∨ s.hears m = true) → (∀ d, d < m → d ≠ s.devaddr ∧ s.hears d = false) →
     (m ≠ s.devaddr ∨ s.on aSWL_TM SWL_TM.backup_tm = true) →
     ∃ t, exec .masterLost s = .next t ∧ t.timeMaster = m ∧ (m ≠ s.devaddr → t.parentPort = s.get (aSWL_ROUTE m) SWL_ROUTE.port) ∧
       SameBut s t ([aSWL_TMSTAT] ++ (List.range 64).map aSL_STATUS ++ (List.range 32).map aBW_STATUS) [])) ∧
  ((∀ s : State, s.alive islLNK = true → s.swl.hbSent + 2000 ≤ s.tb →
     ∃ t hb, exec .hbSend s = .next t ∧ t.swl.hbOut = some hb ∧ hb.own = s.on aSWL_OWN SWL_OWN.own ∧ hb.dev.toNat = s.devaddr ∧
       hb.count.toNat = s.swl.hbCount % 65536 ∧ t.swl.hbSent = s.tb ∧ t.swl.hbCount = (s.swl.hbCount + 1) % 65536 ∧
       (∀ l, l < 8 → s.swlUp l = true → t.Sent l { s.ownPkt 6 (s.get (aSWL_STATUS l) SWL_STATUS.peer_dev) 0 (Config.msgBytes (.hb hb)) with
         down := !s.upLink l }) ∧ SameBut s t [] []) ∧
   (∀ (l : Fin 8) (p : SwlPkt) (m : SwlHb) (s : State), s.Takes l 6 p →
     ∃ t, exec (.swlHb l p m) s = .next t ∧ t.hears m.dev.toNat = true ∧
       (m.dev.toNat = s.pairDev → t.swl.partnerOwn = m.own ∧ t.on aSWL_OWN SWL_OWN.lost = false) ∧
       t.on aSWL_OWN SWL_OWN.own = s.on aSWL_OWN SWL_OWN.own ∧ SameBut s t [aSWL_OWN] []) ∧
   (∀ s : State, s.alive islLNK = true → s.pairDev ≠ s.devaddr → s.on aSWL_OWN SWL_OWN.lost = false → s.heardAt + 6600 ≤ s.tb →
     s.mode ≠ .frost →
     ∃ t, exec .partnerLost s = .next t ∧ t.on aSWL_OWN SWL_OWN.lost = true ∧ t.on aSWL_OWN SWL_OWN.partner_lost = true ∧
       t.on aSWL_OWN SWL_OWN.own = (s.on aSWL_OWN SWL_OWN.own ||
         s.on aSWL_PAIR SWL_PAIR.takeover && (s.isPrio || !s.on aSWL_PAIR SWL_PAIR.sense_en)) ∧
       (t.on aSWL_OWN SWL_OWN.own ≠ s.on aSWL_OWN SWL_OWN.own → Fires s t 1896 s.tb) ∧ SameBut s t [aSWL_OWN] []) ∧
   (∀ s : State, s.alive islLNK = true → s.on aSWL_PAIR SWL_PAIR.sense_en = true → s.swl.senseAt + 1000 ≤ s.tb → s.isPrio = false →
     s.mode ≠ .frost →
     (s.on (aGPIO_CFG (s.get aSWL_PAIR SWL_PAIR.sense_gpio)) GPIO_CFG.in_ = false → s.on aSWL_OWN SWL_OWN.own = true →
       ∃ t, exec (.ownerSense false) s = .next t ∧ t.on aSWL_OWN SWL_OWN.own = false ∧ t.on aSWL_OWN SWL_OWN.displaced = true ∧
         Fires s t 1896 s.tb ∧ SameBut s t [aSWL_OWN] []) ∧
     (s.on (aGPIO_CFG (s.get aSWL_PAIR SWL_PAIR.sense_gpio)) GPIO_CFG.in_ = true → s.on aSWL_PAIR SWL_PAIR.takeover = true →
       s.on aSWL_OWN SWL_OWN.lost = true →
       ∃ t, exec (.ownerSense true) s = .next t ∧ t.on aSWL_OWN SWL_OWN.own = true ∧ SameBut s t [aSWL_OWN] [])) ∧
   (∀ (u : Nat) (s : State), s.swl.noOwnAt = some u → u + 4000 ≤ s.tb → s.isPrio = true → s.alive islLNK = true →
     ∃ t, exec .noOwnerTimeout s = .next t ∧ t.on aSWL_OWN SWL_OWN.own = true ∧ SameBut s t [aSWL_OWN] []) ∧
   (∀ (q : Req) (w : Word) (s : State), s.Reaches q islLNK → s.ringOf q = 0 →
     (getBits w SWL_OWN.claim = 1 → getBits w SWL_OWN.yield = 0 → getBits w SWL_OWN.handoff = 0 →
       ∃ t, exec (.swlClaim q w) s = .next t ∧ t.on aSWL_OWN SWL_OWN.own = true ∧ t.respOf q = { err := false, val := 0 } ∧
         SameBut s t [aSWL_OWN] []) ∧
     (getBits w SWL_OWN.claim = 0 → getBits w SWL_OWN.yield = 1 → getBits w SWL_OWN.handoff = 0 →
       ∃ t, exec (.swlYield q w) s = .next t ∧ t.on aSWL_OWN SWL_OWN.own = false ∧ t.respOf q = { err := false, val := 0 } ∧
         SameBut s t [aSWL_OWN] []) ∧
     (getBits w SWL_OWN.claim = 0 → getBits w SWL_OWN.yield = 0 → getBits w SWL_OWN.handoff = 1 → s.on aSWL_OWN SWL_OWN.own = true →
       ∃ t, exec (.swlHandoff q w) s = .next t ∧
         t.swl.hand = some { t := s.get64 aSWL_HAND_LO aSWL_HAND_HI, owner := true } ∧ t.on aSWL_OWN SWL_OWN.own = true ∧
         t.respOf q = { err := false, val := 0 } ∧ SameBut s t [aSWL_OWN] [])) ∧
   (∀ (x : Hand) (s : State), s.swl.hand = some x → s.dueTick x.t ≤ s.tb →
     (∀ g, x.goAt = some g → g + (if x.owner then 2000 else 500) < x.t →
       ∃ t, exec .handoffTick s = .next t ∧ t.on aSWL_OWN SWL_OWN.own = !x.owner ∧ t.swl.hand = none ∧ SameBut s t [aSWL_OWN] []) ∧
     (x.goAt = none →
       ∃ t, exec .handoffTick s = .next t ∧ t.on aSWL_OWN SWL_OWN.hand_fail = true ∧ t.swl.hand = none ∧
         t.on aSWL_OWN SWL_OWN.own = s.on aSWL_OWN SWL_OWN.own ∧ SameBut s t [aSWL_OWN] [])))

/-- R445 to R451: a link change shows; a MAC takes the frame of a tx record, stamped in one step where the record asks for it, and puts the
completion record with the transmit stamp; a frame that arrives goes to the buffer of the next free record, with an rx record, but a PAUSE
that keeps the MAC from sending; an xSPI command starts unless one runs, and ends with the bytes that it read in the buffer. The padding of
a frame and the form of a PAUSE are presumed from IEEE 802.3 (log entry 26). -/
def Obligations.EthernetAndXspiCommands : Prop :=
  (∀ (m : Fin 2) (up : Bool) (s : State), s.macOn m = true →
    ∃ t, exec (.ethernetLinkChange m up) s = .next t ∧ t.on (aMAC_STAT m) MAC_STAT.link = up ∧ SameBut s t [aMAC_STAT m] []) ∧
  (∀ (m : Fin 2) (sfd : BitVec 64) (fine : BitVec 7) (ws : List Word) (s : State), s.macOn m = true →
    s.on (aMAC_STAT m) MAC_STAT.link = true → sfd.toNat ≤ s.tb → sget 0 s.std.pause m ≤ sfd.toNat → s.commitOwed sfd.toNat = false →
    (let q := s.get (aMAC_QCFG m) MAC_QCFG.tx
     let a := (ws.getD 0 0).toNat
     let w := ws.getD 1 0
     let len := w.toNat % 2 ^ 14
     let f := s.bytesAt a (len - 4)
     q + 1 < 16384 → s.QClean q → s.QClean (q + 1) → s.firstUe a (len - 4) = none →
     (∀ x ∈ s.ce, x + 4 ≤ a ∨ a + (len - 4) ≤ x) →
     s.qMay q 0 = true → s.qPeek q = some ws → (∀ x ∈ s.qm.waits, x.queue ≠ q) → s.qMay (q + 1) 0 = true →
     s.qCount (q + 1) < s.qSize (q + 1) → s.qSize (q + 1) ≤ 65536 → inSram a len = true → len ≤ s.get (aMAC_CFG m) MAC_CFG.maxlen →
     ∃ t, exec (.macTxFrame m sfd fine) s = .next t ∧ t.qCount q = s.qCount q - 1 ∧ t.qCount (q + 1) = s.qCount (q + 1) + 1 ∧
       sget [] t.std.sent m =
         macFrame (if w.getLsbD 30 then oneStep f ((sfd.toNat + s.ptpOfs sfd.toNat) % 2 ^ 64) fine.toNat else f) ∧
       (∀ i v, [BitVec.ofNat 32 (w.toNat / 2 ^ 16 % 2 ^ 14), BitVec.ofNat 32 (fine.toNat * 2 ^ 16), sfd.setWidth 32,
          (sfd >>> 32).setWidth 32][i]? = some v → t.word (s.qRec (q + 1) (s.qTail (q + 1)) + 4 * i) = v) ∧
       SameButMem s t [aQD_PTR q, aQD_CNT q, aQW_LINE (s.qLine q), aQD_PTR (q + 1), aQD_CNT (q + 1), aQW_LINE (s.qLine (q + 1))] []
         (s.qRec (q + 1) (s.qTail (q + 1))) 16)) ∧
  (∀ (m : Fin 2) (frame : List Byte) (ok : Bool) (sfd : BitVec 64) (fine : BitVec 7) (ws : List Word) (s : State), s.macOn m = true →
    s.on (aMAC_STAT m) MAC_STAT.link = true → 64 ≤ frame.length → sfd.toNat ≤ s.tb →
    (ok = true → isPause frame = true →
      ∃ t, exec (.macRxFrame m frame ok sfd fine) s = .next t ∧
        sget 0 t.std.pause m = s.tb + s.macBits m (512 * beNat ((frame.drop 16).take 2)) ∧ SameBut s t [] []) ∧
    (let q := s.get (aMAC_QCFG m) MAC_QCFG.rx
     let a := (ws.getD 0 0).toNat
     let r := s.qRec q (s.qTail q)
     (ok = true → isPause frame = false) → s.on (aMAC_CFG m) MAC_CFG.vlan_strip = false → q + 1 < 16384 → s.QClean q → s.QClean (q + 1) →
     s.qMay (q + 1) 0 = true → s.qPeek (q + 1) = some ws → (∀ x ∈ s.qm.waits, x.queue ≠ q + 1) → s.qMay q 0 = true →
     s.qCount q < s.qSize q → s.qSize q ≤ 65536 → inSram a frame.length = true → frame.length ≤ s.get (aMAC_CFG m) MAC_CFG.maxlen →
     a + frame.length ≤ r ∨ r + 16 ≤ a →
     ∃ t, exec (.macRxFrame m frame ok sfd fine) s = .next t ∧ t.qCount (q + 1) = s.qCount (q + 1) - 1 ∧ t.qCount q = s.qCount q + 1 ∧
       (∀ i b, frame[i]? = some b → t.byte (a + i) = b) ∧
       (∀ i v, [BitVec.ofNat 32 a, BitVec.ofNat 32 ((if ok then 0 else 1) * 2 ^ 24 + fine.toNat * 2 ^ 16 + frame.length % 2 ^ 14),
          sfd.setWidth 32, (sfd >>> 32).setWidth 32][i]? = some v → t.word (r + 4 * i) = v) ∧
       (∀ b, (b < a ∨ a + frame.length ≤ b) → (b < r ∨ r + 16 ≤ b) → t.byte b = s.byte b) ∧
       (∀ b, b ∉ [aQD_PTR q, aQD_CNT q, aQW_LINE (s.qLine q), aQD_PTR (q + 1), aQD_CNT (q + 1), aQW_LINE (s.qLine (q + 1))] →
         t.reg b = s.reg b) ∧ ∀ e, t.eng e = s.eng e)) ∧
  (∀ (q : Req) (x : Fin 2) (w : Word) (s : State), s.Reaches q islLNK → s.ringOf q ≤ 1 → getBits w XSPI_CCTL.go = 1 →
    (s.on (aXSPI_CSTAT x) XSPI_CSTAT.busy = false → s.hwNow (aXSPI_CCTL x) = 0 → (∀ f ∈ fXSPI_CCTL, f.legal (getBits w f) = true) →
      s.on (aXSPI_CFG x) XSPI_CFG.en = true → s.isReady 19 (10 + x.val) = true →
      ∃ t c, exec (.xspiCommand q x w) s = .next t ∧ t.on (aXSPI_CSTAT x) XSPI_CSTAT.busy = true ∧ t.xspiCmd x = some c ∧
        c.addr = s.reg (aXSPI_CADDR x) ∧ c.after = s.std.xwait.any (fun y => y.1 == x.val) ∧
        (getBits w XSPI_CCTL.dir = 1 → c.data = s.bufBytes x (getBits w XSPI_CCTL.nbytes)) ∧
        (∀ f ∈ fXSPI_CCTL, f.acc = .rw → getBits c.cmd f = getBits w f) ∧
        (∀ f ∈ fXSPI_CCTL, f.acc = .rw → t.get (aXSPI_CCTL x) f = getBits w f) ∧ t.respOf q = { err := false, val := 0 } ∧
        SameBut s t [aXSPI_CCTL x, aXSPI_CSTAT x] []) ∧
    (s.on (aXSPI_CSTAT x) XSPI_CSTAT.busy = true →
      ∃ t, exec (.xspiCommand q x w) s = .next t ∧ t.on (aXSPI_CSTAT x) XSPI_CSTAT.err = true ∧
        t.on (aXSPI_CSTAT x) XSPI_CSTAT.busy = true ∧ t.respOf q = { err := false, val := 0 } ∧ SameBut s t [aXSPI_CSTAT x] [])) ∧
  (∀ (x : Fin 2) (data : List Byte) (c : Xspi) (s : State), s.xspiCmd x = some c → c.after = false →
    (getBits c.cmd XSPI_CCTL.dir = 1 →
      ∃ t, exec (.xspiCommandDone x data) s = .next t ∧ t.on (aXSPI_CSTAT x) XSPI_CSTAT.busy = false ∧
        t.on (aXSPI_CSTAT x) XSPI_CSTAT.done = true ∧ SameBut s t [aXSPI_CSTAT x] []) ∧
    (getBits c.cmd XSPI_CCTL.dir = 0 → data.length = getBits c.cmd XSPI_CCTL.nbytes →
      ∃ t, exec (.xspiCommandDone x data) s = .next t ∧ t.on (aXSPI_CSTAT x) XSPI_CSTAT.busy = false ∧
        t.on (aXSPI_CSTAT x) XSPI_CSTAT.done = true ∧
        (∀ i b, data[i]? = some b → byteOf (t.reg (aXSPI_BUF x (i / 4))) (i % 4) = b) ∧
        SameBut s t (aXSPI_CSTAT x :: (List.range 128).map (aXSPI_BUF x)) []))

/-- R452: an I2C command starts a transaction, whose write takes its bytes from the transmit FIFO; the end of the transaction shows done,
and what became of it; a read's bytes enter the receive FIFO. A target notes that it is addressed, and a repeated START that addresses it
again, like a STOP, which also frees the bus, brings the bytes written to the target; the SMBus timeout ends what runs. R453: a push appends
to the transmit FIFO, or sets tx_ovf where it holds 32 words; a pop takes the oldest received word, or answers 0 and sets rx_unf; an idle
UART takes what is pushed at once. A word that SPI has shifted enters its receive FIFO, and the next one follows or the controller is done;
cs_end gives CSn up after the word in progress; a received character enters its FIFO with its status, or sets rx_ovf. When the bytes of a
target transfer are taken is the model's choice (log entry 26). -/
def Obligations.SerialInterfaces : Prop :=
  (∀ (i : Fin 12) (s : State),
     (∀ (q : Req) (w : Word), s.Reaches q islLNK → s.ringOf q ≤ 1 → getBits w I2C_CMD.go = 1 → 1 ≤ getBits w I2C_CMD.nbytes →
       s.serOn (.i2c i) = true → s.on (aI2C_CFG i) I2C_CFG.target = false → s.on (aI2C_STAT i) I2C_STAT.busy = false →
       s.hwNow (aI2C_CMD i) = 0 →
       (let rd := getBits w I2C_CMD.dir = 1
        let n := getBits w I2C_CMD.nbytes
        ∃ t, exec (.i2cGo q i w) s = .next t ∧ t.on (aI2C_STAT i) I2C_STAT.busy = true ∧ t.on (aI2C_STAT i) I2C_STAT.bus_busy = true ∧
          (rd → (t.serial i).left = 0 ∧ (t.serial i).tx = (s.serial i).tx) ∧
          (¬rd → (t.serial i).left = n - (s.serial i).tx.length ∧ (t.serial i).tx = (s.serial i).tx.drop n) ∧
          getBits (t.serial i).cmd I2C_CMD.addr = getBits w I2C_CMD.addr ∧ (t.serial i).rx = (s.serial i).rx ∧
          t.respOf q = { err := false, val := 0 } ∧ SameBut s t [aI2C_CMD i, aI2C_STAT i] [])) ∧
     (s.on (aI2C_STAT i) I2C_STAT.busy = true → (s.serial i).inb = none →
       (let ended (t : State) : Prop := t.on (aI2C_STAT i) I2C_STAT.busy = false ∧ t.on (aI2C_STAT i) I2C_STAT.done = true ∧
          SameBut s t [aI2C_STAT i] []
        (∃ t, exec (.i2cTransactionDone i .nak) s = .next t ∧ ended t ∧ t.on (aI2C_STAT i) I2C_STAT.nak = true ∧
          t.on (aI2C_STAT i) I2C_STAT.bus_busy = false) ∧
        (∃ t, exec (.i2cTransactionDone i .arbLost) s = .next t ∧ ended t ∧ t.on (aI2C_STAT i) I2C_STAT.arb_lost = true) ∧
        (∀ bs, getBits (s.serial i).cmd I2C_CMD.dir = 0 → (s.serial i).left = 0 →
          ∃ t, exec (.i2cTransactionDone i (.done bs)) s = .next t ∧ ended t ∧
            (t.serial i).kept = (getBits (s.serial i).cmd I2C_CMD.stop != 1)) ∧
        (∀ bs, getBits (s.serial i).cmd I2C_CMD.dir = 1 → s.on (aI2C_CFG i) I2C_CFG.pec_en = false →
          bs.length = getBits (s.serial i).cmd I2C_CMD.nbytes → (s.serial i).rx.length + bs.length ≤ 32 →
          ∃ t, exec (.i2cTransactionDone i (.done bs)) s = .next t ∧ ended t ∧
            (t.serial i).rx = (s.serial i).rx ++ bs.map (fun b => b.setWidth 32) ∧
            t.get (aI2C_STAT i) I2C_STAT.rx_level = (s.serial i).rx.length + bs.length))) ∧
     (s.serOn (.i2c i) = true → s.on (aI2C_CFG i) I2C_CFG.smbus = true →
       ∃ t, exec (.i2cTimeout i) s = .next t ∧ t.on (aI2C_STAT i) I2C_STAT.timeout = true ∧ t.on (aI2C_STAT i) I2C_STAT.busy = false ∧
         t.on (aI2C_STAT i) I2C_STAT.bus_busy = false ∧ SameBut s t [aI2C_STAT i] []) ∧
     (∀ (addr : BitVec 7) (read : Bool) (data : List Byte) (taken : BitVec 8), s.serOn (.i2c i) = true → s.answers i addr.toNat = true →
       ∃ t, exec (.i2cAddressed i addr read data taken) s = .next t ∧ t.on (aI2C_STAT i) I2C_STAT.addressed = true ∧
         t.on (aI2C_STAT i) I2C_STAT.bus_busy = true ∧ (t.serial i).sends = read ∧ (t.serial i).kept = true ∧
         ((s.serial i).kept = false → (t.serial i).rx = (s.serial i).rx ∧ (t.serial i).tx = (s.serial i).tx) ∧
         ((s.serial i).kept = true → (s.serial i).sends = false → (s.serial i).rx.length + data.length ≤ 32 →
           (t.serial i).rx = (s.serial i).rx ++ data.map (fun b => b.setWidth 32)) ∧
         ((s.serial i).kept = true → (s.serial i).sends = true → (t.serial i).tx = (s.serial i).tx.drop taken.toNat) ∧
         SameBut s t [aI2C_STAT i] []) ∧
     (∀ (data : List Byte) (taken : BitVec 8), s.serOn (.i2c i) = true →
       (s.on (aI2C_CFG i) I2C_CFG.target = false →
         ∃ t, exec (.i2cStopSeen i data taken) s = .next t ∧ t.on (aI2C_STAT i) I2C_STAT.stop_seen = true ∧
           t.on (aI2C_STAT i) I2C_STAT.bus_busy = false ∧ t.serial i = s.serial i ∧ SameBut s t [aI2C_STAT i] []) ∧
       (s.on (aI2C_CFG i) I2C_CFG.target = true → (s.serial i).kept = true → (s.serial i).sends = false →
         s.on (aI2C_CFG i) I2C_CFG.pec_en = false → (s.serial i).rx.length + data.length ≤ 32 →
         ∃ t, exec (.i2cStopSeen i data taken) s = .next t ∧ (t.serial i).rx = (s.serial i).rx ++ data.map (fun b => b.setWidth 32) ∧
           (t.serial i).kept = false ∧ t.on (aI2C_STAT i) I2C_STAT.stop_seen = true ∧ SameBut s t [aI2C_STAT i] []) ∧
       (s.on (aI2C_CFG i) I2C_CFG.target = true → (s.serial i).kept = true → (s.serial i).sends = true →
         ∃ t, exec (.i2cStopSeen i data taken) s = .next t ∧ (t.serial i).tx = (s.serial i).tx.drop taken.toNat ∧
           (t.serial i).kept = false ∧ t.on (aI2C_STAT i) I2C_STAT.stop_seen = true ∧ SameBut s t [aI2C_STAT i] []))) ∧
  ((∀ (q : Req) (f : SerialIf) (s : State), s.Reaches q islLNK → s.ringOf q ≤ 1 → s.SerQuiet f →
     (∀ w : Word, (s.ser f).tx.length < 32 →
       ∃ t, exec (.dataPush q f w) s = .next t ∧ (t.ser f).tx = (s.ser f).tx ++ [serMask f w] ∧ (t.ser f).rx = (s.ser f).rx ∧
         t.respOf q = { err := false, val := 0 } ∧ SameBut s t [serStat f] []) ∧
     (∀ w : Word, 32 ≤ (s.ser f).tx.length →
       ∃ t, exec (.dataPush q f w) s = .next t ∧ t.on (serStat f) (txOvf f) = true ∧ t.std = s.std ∧
         t.respOf q = { err := false, val := 0 } ∧ SameBut s t [serStat f] []) ∧
     (∀ w ws, (s.ser f).rx = w :: ws →
       ∃ t, exec (.dataPop q f) s = .next t ∧ t.respOf q = { err := false, val := w } ∧ (t.ser f).rx = ws ∧ (t.ser f).tx = (s.ser f).tx ∧
         SameBut s t [serStat f] []) ∧
     ((s.ser f).rx = [] →
       ∃ t, exec (.dataPop q f) s = .next t ∧ t.respOf q = { err := false, val := 0 } ∧ t.on (serStat f) (rxUnf f) = true ∧
         t.std = s.std ∧ SameBut s t [serStat f] [])) ∧
   (∀ (q : Req) (u : Fin 8) (w : Word) (s : State), s.Reaches q islLNK → s.ringOf q ≤ 1 → s.serOn (.uart u) = true →
     (s.ser (.uart u)).tx = [] → (s.ser (.uart u)).shift = none →
     ∃ t, exec (.dataPush q (.uart u) w) s = .next t ∧ (t.ser (.uart u)).shift = some (w &&& 0x1FF#32) ∧ (t.ser (.uart u)).tx = [] ∧
       t.on (aUART_STAT u) UART_STAT.tx_busy = true ∧ SameBut s t [aUART_STAT u] []) ∧
   (∀ (i : Fin 8) (w : Word) (s : State), s.serOn (.spi i) = true → s.on (aSPI_CFG i) SPI_CFG.target = false →
     (s.ser (.spi i)).shift.isSome = true → (s.ser (.spi i)).rx.length < 32 →
     (let v := BitVec.ofNat 32 (w.toNat % 2 ^ (s.get (aSPI_CFG i) SPI_CFG.wlen + 1))
      ∃ t, exec (.spiWordDone i w) s = .next t ∧ (t.ser (.spi i)).rx = (s.ser (.spi i)).rx ++ [v] ∧
        ((s.ser (.spi i)).tx = [] → (t.ser (.spi i)).shift = none ∧ t.on (aSPI_STAT i) SPI_STAT.busy = false ∧
          t.on (aSPI_STAT i) SPI_STAT.done = true) ∧
        (∀ x xs, (s.ser (.spi i)).tx = x :: xs → (t.ser (.spi i)).shift = some x ∧ (t.ser (.spi i)).tx = xs ∧
          t.on (aSPI_STAT i) SPI_STAT.busy = true) ∧ SameBut s t [aSPI_STAT i] [])) ∧
   (∀ (q : Req) (i : Fin 8) (w : Word) (s : State), s.Reaches q islLNK → s.ringOf q ≤ 1 → getBits w SPI_CTRL.cs_end = 1 →
     ∃ t, exec (.csEnd q i w) s = .next t ∧ ((s.ser (.spi i)).shift = none → (t.ser (.spi i)).cs = false) ∧
       ((s.ser (.spi i)).shift.isSome = true → (t.ser (.spi i)).csEnd = true ∧ (t.ser (.spi i)).cs = (s.ser (.spi i)).cs) ∧
       (t.ser (.spi i)).tx = (s.ser (.spi i)).tx ∧ (t.ser (.spi i)).rx = (s.ser (.spi i)).rx ∧ t.respOf q = { err := false, val := 0 } ∧
       SameBut s t [aSPI_CTRL i] []) ∧
   (∀ (u : Fin 8) (ch : BitVec 9) (fe : Bool) (s : State), s.serOn (.uart u) = true →
     ((s.ser (.uart u)).rx.length < 32 →
       ∃ t, exec (.uartRxChar u ch fe false) s = .next t ∧ (t.ser (.uart u)).rx = (s.ser (.uart u)).rx ++
           [BitVec.ofNat 32 (fe.toNat * 2 ^ 11 + ch.toNat % 2 ^ s.get (aUART_CFG u) UART_CFG.dbits)] ∧
         (fe = true → t.on (aUART_STAT u) UART_STAT.fe = true) ∧ SameBut s t [aUART_STAT u] []) ∧
     (32 ≤ (s.ser (.uart u)).rx.length →
       ∃ t, exec (.uartRxChar u ch fe false) s = .next t ∧ t.on (aUART_STAT u) UART_STAT.rx_ovf = true ∧ t.std = s.std ∧
         SameBut s t [aUART_STAT u] [])) ∧
   (∀ (u : Fin 8) (s : State), (s.ser (.uart u)).shift.isSome = true →
     ((s.ser (.uart u)).tx = [] →
       ∃ t, exec (.uartTxChar u) s = .next t ∧ (t.ser (.uart u)).shift = none ∧ t.on (aUART_STAT u) UART_STAT.tx_busy = false ∧
         SameBut s t [aUART_STAT u] []) ∧
     (∀ x xs, (s.ser (.uart u)).tx = x :: xs → s.serOn (.uart u) = true →
       ∃ t, exec (.uartTxChar u) s = .next t ∧ (t.ser (.uart u)).shift = some x ∧ (t.ser (.uart u)).tx = xs ∧
         t.on (aUART_STAT u) UART_STAT.tx_busy = true ∧ SameBut s t [aUART_STAT u] [])))

/-- R454, R458: a request names the transmit buffers that may be sent, and a refused one sets err; an abort takes requests back; a frame
sent is that of the requested buffer of the highest priority, is stamped and no longer requested, unless it may not be sent any more; the
error counters stand as bus errors and frames have left them; a received frame enters the receive buffer, or sets rx_lost where 64 wait, and
a pop removes the oldest. Bus-off is recorded, and a recovery that was asked for ends it with both counters at 0. R443, R455 to R457, R474,
R499: a changed level at a GPIO ball shows, and fires its producer on the edge that is selected; an activation applies the ball's output
action. The JTAG instructions take force, but while debug is locked EXTEST, CLAMP and HIGHZ select the bypass register. A debug halt stops
its engines and takes the device to HALT, and a resume lets them go on in the mode before it; a cross-trigger halts the engines that it
names, or marks the trace. The model's choices in it: a refused buffer whose turn comes (log entry 26), a pulse shorter than 2 ns at a GPIO
ball (log entry 38), the form of a trace mark (log entry 27). -/
def Obligations.CanGpioJtagAndDebug : Prop :=
  (∀ (c : Fin 8) (s : State),
     (∀ (q : Req) (w : Word), s.Reaches q islLNK → s.ringOf q ≤ 1 →
       (∃ t, exec (.canTxreq q c w) s = .next t ∧
         (∀ b, b < 32 → t.bit (aCAN_TXREQ c) b = (s.bit (aCAN_TXREQ c) b || w.getLsbD b && s.canValid c b)) ∧
         (∀ b, b < 32 → w.getLsbD b = true → s.bit (aCAN_TXREQ c) b = false → s.canValid c b = false →
           t.on (aCAN_STAT c) CAN_STAT.err = true) ∧
         t.respOf q = { err := false, val := 0 } ∧ SameBut s t [aCAN_TXREQ c, aCAN_STAT c] []) ∧
       (∃ t, exec (.canTxabort q c w) s = .next t ∧ t.reg (aCAN_TXREQ c) = s.reg (aCAN_TXREQ c) &&& ~~~(w &&& ~~~s.swNow (aCAN_TXREQ c)) ∧
         t.respOf q = { err := false, val := 0 } ∧ SameBut s t [aCAN_TXREQ c] []) ∧
       (getBits w CAN_RXPOP.pop = 1 → (s.can c).rx.length ≤ 64 →
         ∃ t, exec (.canRxpop q c w) s = .next t ∧ (t.can c).rx = (s.can c).rx.drop 1 ∧
           t.get (aCAN_RXLVL c) CAN_RXLVL.level = (s.can c).rx.length - 1 ∧ t.respOf q = { err := false, val := 0 } ∧
           SameBut s t [aCAN_RXLVL c] []) ∧
       (getBits w CAN_CTRL.recover = 1 → s.on (aCAN_STAT c) CAN_STAT.bus_off = true →
         ∃ t, exec (.canRecover q c w) s = .next t ∧ (t.can c).recover = true ∧ (t.can c).rx = (s.can c).rx ∧
           t.respOf q = { err := false, val := 0 } ∧ SameBut s t [] [])) ∧
     (∀ (b : Fin 32) (sof : BitVec 64) (e : CanErr), s.canOn c = true → s.on (aCAN_CFG c) CAN_CFG.silent = false → s.canNext c b = true →
       sof.toNat ≤ s.tb → (s.swNow (aCAN_TXREQ c)).getLsbD b = false →
       (let cleared (t : State) : Prop := ∀ j, j < 32 → t.bit (aCAN_TXREQ c) j = (s.bit (aCAN_TXREQ c) j && j != b.val)
        (s.canValid c b = true →
          ∃ t, exec (.canTxFrame c b sof e) s = .next t ∧ t.reg (aCAN_TXB c b 2) = sof.setWidth 32 ∧
            t.reg (aCAN_TXB c b 3) = (sof >>> 32).setWidth 32 ∧ cleared t ∧ t.on (aCAN_STAT c) CAN_STAT.tx_done = true ∧
            t.get (aCAN_STAT c) CAN_STAT.tec = e.tec.toNat ∧ t.get (aCAN_STAT c) CAN_STAT.rec = e.rx.toNat ∧
            SameBut s t [aCAN_TXB c b 2, aCAN_TXB c b 3, aCAN_TXREQ c, aCAN_STAT c] []) ∧
        (s.canValid c b = false →
          ∃ t, exec (.canTxFrame c b sof e) s = .next t ∧ cleared t ∧ t.on (aCAN_STAT c) CAN_STAT.err = true ∧
            SameBut s t [aCAN_TXREQ c, aCAN_STAT c] []))) ∧
     (∀ (f : List Word) (sof : BitVec 64) (e : CanErr), s.canOn c = true → sof.toNat ≤ s.tb →
       ((f.getD 0 0).getLsbD 30 = false ∨ s.on (aCAN_CFG c) CAN_CFG.fd_en = true → (s.can c).rx.length < 64 →
         ∃ t, exec (.canRxFrame c f sof e) s = .next t ∧ (t.can c).rx = (s.can c).rx ++ [canFrame f sof] ∧
           t.on (aCAN_STAT c) CAN_STAT.rx = true ∧ t.get (aCAN_STAT c) CAN_STAT.tec = e.tec.toNat ∧
           t.get (aCAN_STAT c) CAN_STAT.rec = e.rx.toNat ∧ t.get (aCAN_RXLVL c) CAN_RXLVL.level = (s.can c).rx.length + 1 ∧
           SameBut s t [aCAN_STAT c, aCAN_RXLVL c] []) ∧
       ((f.getD 0 0).getLsbD 30 = false ∨ s.on (aCAN_CFG c) CAN_CFG.fd_en = true → 64 ≤ (s.can c).rx.length →
         ∃ t, exec (.canRxFrame c f sof e) s = .next t ∧ t.on (aCAN_STAT c) CAN_STAT.rx_lost = true ∧ t.std = s.std ∧
           SameBut s t [aCAN_STAT c] [])) ∧
     (s.canOn c = true →
       ∃ t, exec (.canBusOff c) s = .next t ∧ t.on (aCAN_STAT c) CAN_STAT.bus_off = true ∧
         t.on (aCAN_STAT c) CAN_STAT.bus_off_seen = true ∧ t.canOn c = false ∧ SameBut s t [aCAN_STAT c] []) ∧
     (s.on (aCAN_STAT c) CAN_STAT.bus_off = true → (s.can c).recover = true →
       ∃ t, exec (.busOffRecoveryDone c) s = .next t ∧ t.on (aCAN_STAT c) CAN_STAT.bus_off = false ∧
         t.get (aCAN_STAT c) CAN_STAT.tec = 0 ∧ t.get (aCAN_STAT c) CAN_STAT.rec = 0 ∧ SameBut s t [aCAN_STAT c] [])) ∧
  ((∀ (i : Fin 32) (b : Bool) (s : State), s.alive islAON = true → s.on (aGPIO_CFG i) GPIO_CFG.in_ ≠ b →
     ∃ t, exec (.gpioInputChange i b) s = .next t ∧ t.on (aGPIO_CFG i) GPIO_CFG.in_ = b ∧
       (s.gpioOn = true → s.gpioShort i = false → s.get (aGPIO_CFG i) GPIO_CFG.edge = 3 ∨ s.get (aGPIO_CFG i) GPIO_CFG.edge = (if b then 1 else 2) →
         Fires s t (896 + i) s.tb) ∧ SameBut s t [aGPIO_CFG i] []) ∧
   (∀ (i : Fin 32) (a : Act) (s : State), s.actFor (2904 + i) = some a → s.gpioOn = true →
     ∃ t, exec (.gpioOutputAction i) s = .next t ∧
       t.on (aGPIO_CFG i) GPIO_CFG.out = gpioAct (s.get (aGPIO_CFG i) GPIO_CFG.action) (s.on (aGPIO_CFG i) GPIO_CFG.out) ∧
       (s.on (aGPIO_CFG i) GPIO_CFG.oe = true → t.on (aGPIO_CFG i) GPIO_CFG.in_ = t.on (aGPIO_CFG i) GPIO_CFG.out) ∧
       t.fab.acts = s.fab.acts.erase a ∧ SameBut s t [aGPIO_CFG i] []) ∧
   (∀ s : State,
     (∀ c i, (c, i) ∈ [(Instr.bypass, JInst.bypass), (.idcode, .idcode), (.samplePreload [], .sample)] →
       ∃ t, exec c s = .next t ∧ t.std.jtag.inst = i ∧ SameBut s t [] []) ∧
     (∀ bits, ∃ t, exec (.samplePreload bits) s = .next t ∧ t.std.jtag.inst = .sample ∧
       t.std.jtag.latch = bits ++ s.std.jtag.latch.drop bits.length ∧ SameBut s t [] []) ∧
     (∀ c i, (c, i) ∈ [(Instr.extest, JInst.extest), (.jtagClamp, .clamp), (.highz, .highz)] →
       ∃ t, exec c s = .next t ∧ t.std.jtag.inst = (if s.dbgOpen 1 then i else .bypass) ∧ SameBut s t [] [])) ∧
   (∀ (set : List Eng) (s : State), s.dbgOpen 0 = true → s.mode.canHalt = true →
     ∃ t, exec (.debugHalt set) s = .next t ∧ t.mode = .halt ∧ t.rst.beforeHalt = s.mode ∧ (∀ e ∈ set, (t.eng e).dbg = true) ∧
       (∀ e, (∀ x ∈ set, x.val ≠ e) → t.eng e = s.eng e) ∧ (∀ a, a ∉ modeRegs → t.reg a = s.reg a) ∧ ∀ a, t.byte a = s.byte a) ∧
   (∀ s : State, s.dbgOpen 0 = true → s.mode = .halt → s.rst.haltHold = false →
     ∃ t, exec .debugResume s = .next t ∧
       (t.mode = s.rst.beforeHalt ∨ s.rst.beforeHalt = .watch ∧ s.rst.leaving = true ∧ t.mode = .safehold) ∧ (∀ e, (t.eng e).dbg = false) ∧
       (∀ a, a ∉ modeRegs → t.reg a = s.reg a) ∧ ∀ a, t.byte a = s.byte a) ∧
   (∀ (d : Fin 8) (a : Act) (s : State), s.actFor (3064 + d) = some a →
     (s.bit (aDBG_XTR8 d) 31 = true → s.dbgOpen 0 = true → s.mode.canHalt = true →
       ∃ t, exec (.crossTrigger d) s = .next t ∧ t.mode = .halt ∧ (∀ e ∈ s.xtrEngines d, (t.eng e).dbg = true) ∧
         t.fab.acts = s.fab.acts.erase a ∧ (∀ b, t.byte b = s.byte b)) ∧
     (s.bit (aDBG_XTR8 d) 31 = false →
       ∃ t, exec (.crossTrigger d) s = .next t ∧ t.fab.acts = s.fab.acts.erase a ∧ t.std.marks = s.std.marks ++ [(d.val, s.tb)] ∧
         SameBut s t [] [])))

/-- R459 to R462, R532, R538: each cause starts a reset of its class: a rail below its power-on threshold for 1 µs, and a brown-out, a POR,
and neither a fall of less than 100 ns; thermal shutdown, RESETn low for 200 ns, and never one of less than 50 ns, the loss of the chosen
reference, ring 0's key in SW_RST and an unlocked debug reset a SYS reset. Every field that lists the class takes its reset value, the cause
is recorded, and a SYS reset keeps TB and stamps it. A wrong key sets bad_req and a locked debug reset does nothing. What begins between
those lengths is free (log entry 28). -/
def Obligations.ResetsBegin : Prop :=
  ∀ s : State,
    (s.Unreset →
      (∀ r ns dead, 1000 ≤ ns →
        ∃ t, exec (.powerOn r ns dead) s = .next t ∧ BeganReset s t true 1 ∧ r ∈ t.rst.powLow ∧ 1 ∈ t.rst.causes) ∧
      (∀ vaon ns, 1000 ≤ ns → ∃ t, exec (.brownOut vaon ns) s = .next t ∧ BeganReset s t true 2 ∧ 2 ∈ t.rst.causes ∧
        t.rst.vaonLow = (s.rst.vaonLow || vaon) ∧ t.rst.vcoreLow = (s.rst.vcoreLow || !vaon)) ∧
      (∃ t, exec .thermalShutdown s = .next t ∧ BeganReset s t false 3 ∧ 3 ∈ t.rst.causes) ∧
      (∀ ns goesOn, 200 ≤ ns → 4 ∉ s.rst.causes →
        ∃ t, exec (.resetnLow ns goesOn) s = .next t ∧ BeganReset s t false 4 ∧ (goesOn = true → 4 ∈ t.rst.causes)) ∧
      (∀ xtal, xtal = s.rst.crystal →
        ∃ t, exec (.refclkLoss xtal) s = .next t ∧ BeganReset s t false 6 ∧ 6 ∈ t.rst.causes ∧ t.rst.refLost = true) ∧
      (∀ (q : Req) (w : Word), s.Reaches q islAON → s.ringOf q = 0 → getBits w SW_RST.key = 0x96 →
        ∃ t, exec (.swRst q w) s = .next t ∧ BeganReset s t false 8 ∧ t.respOf q = { err := false, val := 0 }) ∧
      (s.dbgOpen 0 = true → ∃ t, exec .debugReset s = .next t ∧ BeganReset s t false 9)) ∧
    (∀ r ns dead, ns < 100 → ∃ t, exec (.powerOn r ns dead) s = .next t ∧ t.mode = s.mode ∧ t.rst.active = s.rst.active ∧
      t.rst.causes = s.rst.causes ∧ r ∈ t.rst.powLow ∧ SameBut s t [] []) ∧
    (∀ vaon ns, ns < 100 → ∃ t, exec (.brownOut vaon ns) s = .next t ∧ t.mode = s.mode ∧ t.rst.active = s.rst.active ∧
      t.rst.causes = s.rst.causes ∧ SameBut s t [] []) ∧
    (∀ ns, ns < 50 → exec (.resetnLow ns true) s = .next s) ∧
    (∀ xtal, xtal ≠ s.rst.crystal → exec (.refclkLoss xtal) s = .next s) ∧
    (∀ (q : Req) (w : Word), s.Reaches q islAON → s.ringOf q = 0 → getBits w SW_RST.key ≠ 0x96 →
      ∃ t, exec (.swRst q w) s = .next t ∧ t.on aRST_STATUS RST_STATUS.bad_req = true ∧ t.respOf q = { err := false, val := 0 } ∧
        SameBut s t [aRST_STATUS] []) ∧
    (s.dbgOpen 0 = false → exec .debugReset s = .next s)

/-- R460, R464 to R469, R485, R488, R529: the causes that last end with what made them; 640 ns after the last one the reset ends in BRINGUP
with the AON island released and the straps sampled, and after a POR with TB 0, DEVADDR and the voltages of the VIO banks sampled, VIO4 at
3.3 V, the reference chosen, REFCLK where it has edges, and a new nonce; the loader applies the factory trims and then the user calibration;
the islands are released one after another, a clutch with its memory 0, and the last step shows SAFEHOLD; a memory that is initialised makes
its bank READY, or the Newts of its clutch that have not failed; and the bit of any other function sets once nothing keeps it from being
used. Which reference a POR takes where both have edges is the model's choice (log entry 28). -/
def Obligations.ResetsEndAndIslandsRelease : Prop :=
  ∀ s : State,
    (∀ r, (∀ x ∈ s.rst.powLow, x = r) → (s.rst.vcoreLow = false ∨ r = .vcore) → (s.rst.vaonLow = false ∨ r = .vaon) →
      ∃ t, exec (.railGood r true) s = .next t ∧ t.rst.powLow = [] ∧ t.rst.causes = (s.rst.causes.erase 1).erase 2 ∧ SameBut s t [] []) ∧
    (∀ r, (∀ x ∈ s.rst.powLow, x = r) → s.rst.vcoreLow = true ∨ s.rst.vaonLow = true →
      ∃ t, exec (.railGood r false) s = .next t ∧ t.rst.powLow = [] ∧ t.rst.causes = s.rst.causes.erase 1 ∧ SameBut s t [] []) ∧
    (∀ r x b, x ∈ s.rst.powLow → x ≠ r → s.rst.vcoreLow = true → r ≠ .vcore →
      ∃ t, exec (.railGood r b) s = .next t ∧ x ∈ t.rst.powLow ∧ t.rst.causes = s.rst.causes ∧ SameBut s t [] []) ∧
    (∃ t, exec .thermalShutdownRelease s = .next t ∧ t.rst.causes = s.rst.causes.erase 3 ∧ SameBut s t [] []) ∧
    (∀ xtal, xtal = s.rst.crystal →
      ∃ t, exec (.refclkReturn xtal) s = .next t ∧ t.rst.causes = s.rst.causes.erase 6 ∧ t.rst.refLost = false ∧ SameBut s t [] []) ∧
    (∀ (p : BitVec 2) (d : BitVec 3) (v : BitVec 6) (ref xt : Bool), s.rst.active = true → s.rst.causes = [] → s.rst.quiet + 640 ≤ s.tb →
      s.nvm.pulse = none →
      ∃ t, exec (.resetEnd p d v ref xt) s = .next t ∧ t.mode = .bringup ∧ t.rst.active = false ∧ t.alive islAON = true ∧ t.rst.step = 1 ∧
        t.get aMODE MODE.strap = p.toNat ∧ t.tb = (if s.rst.por then 0 else s.tb) ∧
        (s.rst.por = true → t.get aSWL_DEV SWL_DEV.devaddr = d.toNat ∧ t.rst.vio = v ||| 0x10#6 ∧ t.rst.crystal = !ref ∧
          t.rst.refLost = (!ref && !xt) ∧ t.nvm.nonces = s.nvm.nonces + 1) ∧
        (s.rst.por = false → t.reg aSWL_DEV = s.reg aSWL_DEV ∧ t.rst.vio = s.rst.vio ∧ t.rst.crystal = s.rst.crystal ∧ t.nvm = s.nvm) ∧
        (∀ a, a ∉ [aREADY 22, aMODE, aSWL_DEV] → t.reg a = s.reg a) ∧ (∀ a, t.byte a = s.byte a) ∧ ∀ e, t.eng e = s.eng e) ∧
    (s.loadDue 1 = true → s.rst.wake = false →
      ∃ t, exec .trimLoadDone s = .next t ∧ t.on aLOAD_STATUS LOAD_STATUS.trim_done = true ∧ t.rst.step = 2 ∧ t.rst.stepTick = s.tb ∧
        (∀ i d single, i < 32 → trimOf s.trimCopies 1 i = .value d single →
          t.get (aCONV_OF i) CONV_OF.of = (d.getD 0 0).toNat % 2 ^ 20) ∧
        t.mode = s.mode ∧ (∀ a, t.byte a = s.byte a) ∧ ∀ e, t.eng e = s.eng e) ∧
    (s.loadDue 2 = true →
      ∃ t, exec .calLoadDone s = .next t ∧ t.on aLOAD_STATUS LOAD_STATUS.cal_done = true ∧ t.isReady 21 21 = true ∧ t.rst.step = 3 ∧
        t.rst.stepTick = s.tb ∧
        (∀ r d single, r < 32 → chooseCal (s.calCopy 0 r) (s.calCopy 1 r) = .value d single →
          t.get (aCONV_OU r) CONV_OU.ou = (d.getD 1 0).toNat % 2 ^ 20) ∧
        t.mode = s.mode ∧ (∀ a, t.byte a = s.byte a) ∧ ∀ e, t.eng e = s.eng e) ∧
    (s.rst.isl = none → s.releaseDue = true → (s.rst.step = 10 → s.pairFailed 0 = false) → (s.rst.step = 11 → s.pairFailed 1 = false) →
      ∃ t, exec .islandRelease s = .next t ∧ t.alive (s.rst.step - 2) = true ∧ t.rst.step = s.rst.step + 1 ∧
        t.mode = (if s.rst.step = 27 then .safehold else .bringup) ∧
        (12 ≤ s.rst.step → s.rst.wake = false → ∀ a, 0x20000000 + (s.rst.step - 12) * 0x200000 ≤ a →
          a < 0x20200000 + (s.rst.step - 12) * 0x200000 → t.byte a = 0)) ∧
    (∀ x, s.rst.isl = some x → x.held = true → x.start + 640 ≤ s.tb → x.isl < 26 →
      ∃ t, exec .islandRelease s = .next t ∧ t.alive x.isl = true ∧ t.rst.isl = none ∧
        t.on aRST_STATUS RST_STATUS.isl_busy = false ∧ t.mode = s.mode) ∧
    (∀ k : Fin 8, s.initing (16 + k.val) = true →
      ∃ t, exec (.memoryInitDone (.sram k)) s = .next t ∧ t.isReady 21 (24 + k) = true ∧ t.rst.init = s.rst.init.erase (16 + k.val) ∧
        SameBut s t [aREADY 21, aMODE] []) ∧
    (∀ c : Fin 16, s.initing c = true →
      ∃ t, exec (.memoryInitDone (.clutch c)) s = .next t ∧ t.rst.init = s.rst.init.erase c.val ∧
        ∀ k : Nat, k < 16 → s.newtFailed (16 * c.val + k) = false →
          t.isReady ((16 * c.val + k) / 32) ((16 * c.val + k) % 32) = true) ∧
    (∀ (w : Fin 64) (b : Fin 32), s.canReady w b = true → s.isReady w b = false →
      ∃ t, exec (.blockReady w b) s = .next t ∧ t.isReady w b = true ∧ t.on aMODE MODE.ready_chg = true ∧
        (w.val ≠ 17 → w.val ≠ 18 → ∀ a, t.byte a = s.byte a))

/-- R471, R472: go in ISL_RST asks a released island to become idle, and a second request, or one for an island that is not released, sets
bad_req; when the island is idle, or the wait is over, it is held: no longer released, its fields of class ISL at their reset values. A
block reset takes the block out of READY at once, for 16 AON cycles. R468, R549, R476: ring 0 starts SK1, which waits halted, at the boot
ROM entry in ring 0; a reading of the temperature sensor shows Tj + 64, warns once when it rises above warn_c, and with trip_en takes the
device to TRIPPED. -/
def Obligations.IslandsAndBlocksReset : Prop :=
  ((∀ (q : Req) (w : Word) (s : State), s.Reaches q islAON → s.ringOf q = 0 → getBits w ISL_RST.go = 1 →
     (∀ i, islOfCode (getBits w ISL_RST.island) = some i → s.rst.isl = none → s.alive i = true →
       ∃ t, exec (.islRst q w) s = .next t ∧ t.rst.isl = some { isl := i, held := false, start := s.tb } ∧
         t.on aRST_STATUS RST_STATUS.isl_busy = true ∧ t.get aRST_STATUS RST_STATUS.last_island = getBits w ISL_RST.island ∧
         t.respOf q = { err := false, val := 0 } ∧ SameBut s t [aISL_RST, aRST_STATUS] []) ∧
     (s.rst.isl.isSome = true ∨ (∀ i, islOfCode (getBits w ISL_RST.island) = some i → s.alive i = false) →
       ∃ t, exec (.islRst q w) s = .next t ∧ t.on aRST_STATUS RST_STATUS.bad_req = true ∧ t.rst = s.rst ∧
         t.respOf q = { err := false, val := 0 } ∧ SameBut s t [aISL_RST, aRST_STATUS] [])) ∧
   (∀ (i : Fin 26) (x : IslRst) (s : State), s.rst.isl = some x → x.isl = i.val → x.held = false →
     (s.islIdle i = true ∨ x.start + 1000 * s.get aISL_RST ISL_RST.timeout ≤ s.tb) → i.val ≠ islAON →
     ∃ t, exec (.islIdleDone i) s = .next t ∧ t.alive i = false ∧ t.rst.isl = some { x with held := true, start := s.tb } ∧
       (10 ≤ i.val → ∀ n ∈ newtsOf (i.val - 10), t.eng n = {}) ∧
       (2 ≤ i.val → i.val < 6 → ∀ j f, j < 8 → f ∈ fTZ_CFG → t.get (aTZ_CFG (8 * (i.val - 2) + j)) f = f.rst) ∧ t.tb = s.tb) ∧
   (∀ (q : Req) (w : Word) (s : State), s.Reaches q islAON → s.ringOf q = 0 → getBits w BLK_RST.go = 1 →
     (let kind := getBits w BLK_RST.kind
      let k := getBits w BLK_RST.index
      (k < blkCount kind →
        ∃ t, exec (.blkRst q w) s = .next t ∧ t.isReady (blkReady kind k).1 (blkReady kind k).2 = false ∧
          { kind := kind, index := k, ends := s.tb + 640 } ∈ t.rst.blk ∧ t.respOf q = { err := false, val := 0 } ∧ t.mode = s.mode) ∧
      (blkCount kind ≤ k →
        ∃ t, exec (.blkRst q w) s = .next t ∧ t.on aRST_STATUS RST_STATUS.bad_req = true ∧ t.respOf q = { err := false, val := 0 } ∧
          SameBut s t [aBLK_RST, aRST_STATUS] [])))) ∧
  ((∀ (q : Req) (w : Word) (s : State), s.Reaches q islAON → s.ringOf q = 0 → getBits w SK_RUN.sk1_run = 1 →
     s.alive (islSUP 1) = true → s.halted 257 = true →
     ∃ t, exec (.sk1Run q w) s = .next t ∧ (t.eng 257).pc = 0 ∧ t.ring 257 = 0 ∧ t.halted 257 = false ∧
       t.respOf q = { err := false, val := 0 } ∧ SameBut s t [aSK_RUN, aENG_S 257, aENG_STATUS 257] [257]) ∧
   (∀ (tj : Int) (s : State), s.alive islAON = true → s.on aLOAD_STATUS LOAD_STATUS.trim_done = true →
     (sget [] s.trims (256 * 6)).isEmpty = false → s.mode ≠ .frost →
     (let code := (saturateTo 1 255 (tj + 64)).toNat
      let c := s.get aTHERM THERM.warn_c
      (code ≤ c ∨ s.on aTHERM THERM.trip_en = false →
        ∃ t, exec (.thermReading tj) s = .next t ∧ t.get aTHERM THERM.tj = code ∧
          (c < code → s.av.hot = false → t.on aTHERM THERM.warn = true ∧ (s.on aTHERM THERM.warn = false → Fires s t 1897 s.tb)) ∧
          (code ≤ c → t.on aTHERM THERM.warn = s.on aTHERM THERM.warn) ∧ SameBut s t [aTHERM] []) ∧
      (c < code → s.on aTHERM THERM.trip_en = true → s.canTrip = true →
        ∃ t, exec (.thermReading tj) s = .next t ∧ t.get aTHERM THERM.tj = code ∧ t.mode = .tripped ∧
          t.get aMODE MODE.trip_cause = 2 ∧ t.on aSAFE_CTRL SAFE_CTRL.hold = true ∧ SameButMode s t [aTHERM, aSAFE_CTRL]))))

/-- R473 to R482: ring 0 asks for LULL, WATCH, the run family, FROST and TRIPPED; a mode that cannot be entered from the present one, and a
FROST whose conditions do not hold, is refused with its cause. Once the AON cycle of its request is over FROST empties the commit groups and
stops the DMA mover and the ports of Fieldring and Swimlink; once its entry is complete, which the transfers on their way into AON precede,
every island but AON is dark and memory holds only what is retained; a wake goes to BRINGUP and is stamped, or waits for the entry. When the
entry to FROST stops these is the model's choice (log entry 30). -/
def Obligations.ModesAreRequested : Prop :=
  (∀ (q : Req) (w : Word) (s : State), s.Reaches q islAON → s.ringOf q = 0 →
    (let m := getBits w MODE_REQ.target
     let ok (t : State) : Prop := t.respOf q = { err := false, val := 0 }
     (m = 7 → s.mode = .run → s.shownMode ≠ 7 →
       ∃ t, exec (.modeReqLull q w) s = .next t ∧ t.mode = .lull ∧
         (∀ c, c < 16 → s.alive (islCLU c) = true → t.on (aCLUTCH_CLK c) CLUTCH_CLK.relocking = true) ∧ ok t ∧
         SameButMode s t [aMODE_REQ]) ∧
     (m = 8 → s.mode = .run ∨ s.mode = .lull → s.shownMode ≠ 8 → s.hwNow aMODE_REQ = 0 →
       ∃ t, exec (.modeReqWatch q w) s = .next t ∧ t.mode = .watch ∧ t.on aSAFE_CTRL SAFE_CTRL.hold = true ∧
         t.rst.kept = getBits w MODE_REQ.watch_keep ∧ ok t ∧ SameButMode s t [aMODE_REQ, aSAFE_CTRL]) ∧
     (m = 4 → s.mode = .lull → ∃ t, exec (.modeReqRun q w) s = .next t ∧ t.mode = .run ∧ ok t ∧ SameButMode s t [aMODE_REQ]) ∧
     (m = 4 → s.mode = .watch → s.rst.leaving = false → (∃ c, c < 16 ∧ s.alive (islCLU c) = true) →
       ∃ t, exec (.modeReqRun q w) s = .next t ∧ t.mode = .watch ∧ t.rst.leaving = true ∧
         (∀ c, c < 16 → s.alive (islCLU c) = true → t.on (aCLUTCH_CLK c) CLUTCH_CLK.relocking = true) ∧ ok t ∧
         SameButMode s t [aMODE_REQ]) ∧
     (m = 9 → s.mode = .safehold ∨ s.mode = .run ∨ s.mode = .lull ∨ s.mode = .watch →
       (s.frostBar = none →
         ∃ t, exec (.modeReqFrost q w) s = .next t ∧ t.mode = .frost ∧ t.rst.entry = some s.tb ∧
           t.on aSAFE_CTRL SAFE_CTRL.hold = true ∧ t.rst.stopDue = true ∧ ok t ∧ SameButMode s t [aMODE_REQ, aSAFE_CTRL]) ∧
       (∀ c, s.frostBar = some c →
         ∃ t, exec (.modeReqFrost q w) s = .next t ∧ t.on aMODE MODE.req_refused = true ∧ t.get aMODE MODE.req_cause = c ∧ ok t ∧
           SameBut s t [aMODE_REQ, aMODE] [])) ∧
     (m = 11 → s.mode.canTrip = true →
       ∃ t, exec (.modeReqTripped q w) s = .next t ∧ t.mode = .tripped ∧ t.get aMODE MODE.trip_cause = 1 ∧
         t.on aSAFE_CTRL SAFE_CTRL.hold = true ∧ Fires s t 1891 s.tb ∧ ok t ∧ SameButMode s t [aMODE_REQ, aSAFE_CTRL]) ∧
     (m = 7 → s.shownMode ≠ 7 → s.mode ≠ .run →
       ∃ t, exec (.modeReqLull q w) s = .next t ∧ t.on aMODE MODE.req_refused = true ∧ t.get aMODE MODE.req_cause = 1 ∧ ok t ∧
         SameBut s t [aMODE_REQ, aMODE] []))) ∧
  (∀ s : State, s.rst.stopDue = true → s.reqNow = false →
    (∀ g, s.frostEntry.armedOf g = none) ∧ (∀ a, s.frostEntry.stagedAt a = none) ∧ (∀ c, (s.frostEntry.dmaCh c).phase = .idle) ∧
    (∀ p, p < 48 → s.frostEntry.frState p = frOFF) ∧ (∀ l, l < 8 → s.frostEntry.swlState l = swlDOWN) ∧
    s.frostEntry.rst.stopDue = false ∧ s.frostEntry.mode = s.mode ∧ ∀ a, s.frostEntry.byte a = s.byte a) ∧
  (∀ s : State, s.rst.stopDue = false ∨ s.reqNow = true → s.frostEntry = s) ∧
  (∀ (u : Nat) (s : State), s.mode = .frost → s.rst.entry = some u → s.nvm.pulse = none → s.reqNow = false → s.toAon = false →
    ∃ t, exec .frostEntryComplete s = .next t ∧ t.rst.entry = none ∧ (∀ i, 1 ≤ i → i < 26 → t.alive i = false) ∧
      (∀ a, t.byte a = if s.frostMem a then s.byte a else 0) ∧ (s.rst.wakePend = none → t.mode = .frost) ∧
      (s.rst.wakePend.isSome = true → t.mode = .bringup) ∧ t.tb = s.tb) ∧
  (∀ (w : Fin 16) (a : Act) (s : State), s.actFor (2376 + w) = some a → s.mode = .frost → s.bit aWAKE_CFG w = true →
    (s.rst.entry = none →
      ∃ t, exec (.wake w) s = .next t ∧ t.mode = .bringup ∧ t.rst.wake = true ∧ t.rst.step = 1 ∧
        t.on aWAKE_STATUS WAKE_STATUS.woke = true ∧ t.get aWAKE_STATUS WAKE_STATUS.input = w ∧
        t.reg aWAKE_TB_LO = BitVec.ofNat 32 ((sget none s.fab.last (2376 + w)).getD s.tb) ∧ t.fab.acts = s.fab.acts.erase a ∧
        SameButMode s t [aWAKE_TB_LO, aWAKE_TB_HI, aWAKE_STATUS]) ∧
    (s.rst.entry.isSome = true → s.rst.wakePend = none →
      ∃ t, exec (.wake w) s = .next t ∧ t.rst.wakePend.isSome = true ∧ t.on aWAKE_STATUS WAKE_STATUS.in_entry = true ∧
        SameBut s t [aWAKE_STATUS] []))

/-- R490 to R492, R495: a go with the key, with no pulse in progress and at a word that R490 lets the ring write, starts a pulse of the word
in NVM_WADDR with the data in NVM_WDATA; any other go sets cmd_err and starts none. 1.2 µs after its start the word is written, busy clears
and done sets. Ring 0's go with the key in OTP_PCMD starts the programming of the addressed word, or sets prog_err; it sets the 1 bits of
the data and never clears a bit. R498 to R501: the unlock service, which ring 0 of SK0 has called or which waits in strap mode 0b10, judges
the token that memory, or UART0, gives: a good one opens its scope, any other counts a failure, eight of which lock it out; either way the
nonce is renewed. Locked out, it judges nothing. It returns to its caller, and in strap mode 0b10 waits on. Ring 0's relock locks debug
again while the device is provisioned, and a write to DBG_CTRL that the boot ROM does not make grants nothing. A token that cannot be read
counts as a failed one by the model's choice (log entry 31). -/
def Obligations.NvmOtpAndDebugLock : Prop :=
  ((∀ (q : Req) (w : Word) (s : State), s.Reaches q islSYS → s.ringOf q ≤ 1 → getBits w NVM_CMD.go = 1 →
     (let o := 4 * s.get aNVM_WADDR NVM_WADDR.word
      let may : Prop := (0x1000 ≤ o ∨ s.ringOf q = 0 ∧ s.on aNVM_STATUS NVM_STATUS.sess_bad = true) ∧
        (0x10000 ≤ o → o < 0x80000 → s.on aNVM_PROT NVM_PROT.lock_img0 = false) ∧
        (0x80000 ≤ o → o < 0xF0000 → s.on aNVM_PROT NVM_PROT.lock_img1 = false)
      (s.nvm.pulse = none → getBits w NVM_CMD.key = 0xC3 → may →
        ∃ t, exec (.nvmWriteCmd q w) s = .next t ∧
          t.nvm.pulse = some { addr := 0x100000 + o, data := s.reg aNVM_WDATA, start := s.tb } ∧
          t.on aNVM_STATUS NVM_STATUS.busy = true ∧ t.respOf q = { err := false, val := 0 } ∧ SameBut s t [aNVM_STATUS] []) ∧
      (s.nvm.pulse.isSome = true ∨ getBits w NVM_CMD.key ≠ 0xC3 ∨ ¬ may →
        ∃ t, exec (.nvmWriteCmd q w) s = .next t ∧ t.nvm = s.nvm ∧ t.on aNVM_STATUS NVM_STATUS.cmd_err = true ∧
          t.respOf q = { err := false, val := 0 } ∧ SameBut s t [aNVM_STATUS] []))) ∧
   (∀ (p : Pulse) (s : State), s.nvm.pulse = some p → p.start + 1200 ≤ s.tb → s.alive islSYS = true → s.nvm.sess = none →
     ∃ t, exec .nvmPulseDone s = .next t ∧ t.word p.addr = p.data ∧ p.addr ∉ t.ue ∧ (∀ a, a ≠ p.addr → (a ∈ t.ue ↔ a ∈ s.ue)) ∧
       t.nvm.pulse = none ∧ t.on aNVM_STATUS NVM_STATUS.busy = false ∧ t.on aNVM_STATUS NVM_STATUS.done = true ∧
       SameButMem s t [aNVM_STATUS] [] p.addr 4) ∧
   (∀ (q : Req) (w : Word) (s : State), s.Reaches q islAON → s.ringOf q = 0 → getBits w OTP_PCMD.go = 1 →
     (let o := 4 * s.get aOTP_PADDR OTP_PADDR.word
      let may : Prop := if s.provisioned then 0xD0 ≤ o ∧ o < 0xDC ∨ 0xE0 ≤ o ∧ o < 0x140 else o < 0x170
      (s.nvm.otp = none → getBits w OTP_PCMD.key = 0x3C → may →
        ∃ t, exec (.otpProgram q w) s = .next t ∧ t.nvm.otp = some (0x0F00C000 + o, s.reg aOTP_PDATA) ∧
          t.on aOTP_PCMD OTP_PCMD.busy = true ∧ t.respOf q = { err := false, val := 0 } ∧ SameBut s t [aOTP_PCMD] []) ∧
      (s.nvm.otp.isSome = true ∨ getBits w OTP_PCMD.key ≠ 0x3C ∨ ¬ may →
        ∃ t, exec (.otpProgram q w) s = .next t ∧ t.nvm = s.nvm ∧ t.on aOTP_PCMD OTP_PCMD.prog_err = true ∧
          t.respOf q = { err := false, val := 0 } ∧ SameBut s t [aOTP_PCMD] []))) ∧
   (∀ (a : Nat) (w : Word) (s : State), s.nvm.otp = some (a, w) →
     ∃ t, exec .otpProgramDone s = .next t ∧ t.word a = s.word a ||| w ∧ t.nvm.otp = none ∧
       t.on aOTP_PCMD OTP_PCMD.busy = false ∧ SameButMem s t [aOTP_PCMD] [] a 4)) ∧
  ((∀ (a : Word) (uart : List Byte) (s : State), s.unlocks = true → s.alive islAON = true →
     (let tok := s.token a.toNat uart
      (s.on aDBG_CTRL DBG_CTRL.locked_out = false →
        ∃ t, exec (.debugUnlock a uart) s = .next t ∧ t.nvm.nonces = s.nvm.nonces + 1 ∧ SameBut s t [aDBG_CTRL] [256] ∧
          (s.tokenGood tok = true → t.nvm.lock = .unlocked (leNat (tok.take 4) % 4) ∧
            t.get aDBG_CTRL DBG_CTRL.unlock = leNat (tok.take 4) % 4 ∧
            t.get aDBG_CTRL DBG_CTRL.fails = s.get aDBG_CTRL DBG_CTRL.fails) ∧
          (s.tokenGood tok = false → t.nvm.lock = s.nvm.lock ∧
            t.get aDBG_CTRL DBG_CTRL.fails = min (s.get aDBG_CTRL DBG_CTRL.fails + 1) 15 ∧
            (t.on aDBG_CTRL DBG_CTRL.locked_out = true ↔ 8 ≤ t.get aDBG_CTRL DBG_CTRL.fails))) ∧
      (s.on aDBG_CTRL DBG_CTRL.locked_out = true →
        ∃ t, exec (.debugUnlock a uart) s = .next t ∧ t.nvm = s.nvm ∧ SameBut s t [] [256]) ∧
      (s.get aMODE MODE.strap ≠ 2 → ∀ x rest, (s.eng 256).stack = x :: rest →
        ∃ t, exec (.debugUnlock a uart) s = .next t ∧ (t.eng 256).pc = x.ret ∧ (t.eng 256).stack = rest) ∧
      (s.get aMODE MODE.strap = 2 → ∃ t, exec (.debugUnlock a uart) s = .next t ∧ t.eng 256 = s.eng 256))) ∧
   (∀ (q : Req) (w : Word) (s : State), s.Reaches q islAON → s.ringOf q ≤ 3 → s.romWrite q = false →
     (getBits w DBG_CTRL.relock = 1 → s.ringOf q = 0 →
       ∃ t, exec (.relock q w) s = .next t ∧ t.nvm.lock = .again ∧ t.dbgLocked = s.provisioned ∧
         t.get aDBG_CTRL DBG_CTRL.unlock = 0 ∧ t.respOf q = { err := false, val := 0 } ∧ SameBut s t [aDBG_CTRL] []) ∧
     (getBits w DBG_CTRL.relock = 0 ∨ s.ringOf q ≠ 0 →
       ∃ t, exec (.relock q w) s = .next t ∧ t.nvm = s.nvm ∧ t.respOf q = { err := false, val := 0 } ∧ SameBut s t [] [])))

/-- R494, R496 to R498: the boot ROM starts an image in ring 0 at its entry, and only one that is a candidate, whose fields and key pass the
checks, and whose signature verifies over its header and the copy that stands in system SRAM; nothing below system SRAM changes. With
rom_done 0 before, the start sets ok and rom_done and writes the image's version to BOOT_VER; with rom_done 1 before, BOOT_STATUS and
BOOT_VER stay as they were, whatever boots. When no image starts, SK0 waits asleep and ok stays as it was. -/
def Obligations.BootStartsOnlySignedImages : Prop :=
  ∀ s : State, s.atBoot = true →
    ∃ t, exec .boot s = .next t ∧ t.mode = s.mode ∧ (∀ a, a < 0x10000000 → t.byte a = s.byte a) ∧
      (s.on aBOOT_STATUS BOOT_STATUS.rom_done = true → t.reg aBOOT_STATUS = s.reg aBOOT_STATUS ∧ t.reg aBOOT_VER = s.reg aBOOT_VER) ∧
      ((s.bootAll (bootSources (s.get aMODE MODE.strap))).2 = true →
        t.ring 256 = 0 ∧ t.get (aENG_S 256) ENG_S.iel = 8 ∧
        (s.on aBOOT_STATUS BOOT_STATUS.rom_done = false →
          t.on aBOOT_STATUS BOOT_STATUS.ok = true ∧ t.on aBOOT_STATUS BOOT_STATUS.rom_done = true) ∧
        ∃ h, s.isCandidate h = true ∧ hdrGood h = true ∧ s.keyGood h = true ∧ t.signed h = true ∧ (t.eng 256).pc = hdrNum h 0x14 4 ∧
          (s.on aBOOT_STATUS BOOT_STATUS.rom_done = false → t.reg aBOOT_VER = BitVec.ofNat 32 (hdrNum h 8 4))) ∧
      ((s.bootAll (bootSources (s.get aMODE MODE.strap))).2 = false →
        (t.eng 256).wait = .sleep ∧ t.on (aENG_STATUS 256) ENG_STATUS.waiting = true ∧
        t.on aBOOT_STATUS BOOT_STATUS.ok = s.on aBOOT_STATUS BOOT_STATUS.ok)

/-- R503 to R507: a correctable word that the scrubber finds counts in ce_total and fires EV1894. An uncorrectable one counts in ue_total,
fires EV1895 and is recorded when nothing is recorded yet, else it counts in later_cnt; it is left uncorrectable, one in the active bank of
a Newt reports that Newt's failure, and a clean line of a Skink's cache is invalidated. It visits the memories, the staged copies of the
parameter pages, the caches and the context banks of Newts and Skink pairs. The NVM is read and never written. -/
def Obligations.ScrubberReportsErrors : Prop :=
  ∀ s : State, s.on aECC_CFG ECC_CFG.scrub_en = true → s.mode ≠ .reset → s.mode ≠ .frost →
    (let ce (t : State) : Prop :=
       t.get aECC_DEV ECC_DEV.ce_total = min (s.get aECC_DEV ECC_DEV.ce_total + 1) 65535 ∧ Fires s t 1894 s.tb ∧ t.ue = s.ue ∧
         t.get aECC_DEV ECC_DEV.ue_total = s.get aECC_DEV ECC_DEV.ue_total
     let ue (t : State) (w m : Nat) : Prop :=
       t.get aECC_DEV ECC_DEV.ue_total = min (s.get aECC_DEV ECC_DEV.ue_total + 1) 65535 ∧ Fires s t 1895 s.tb ∧
         t.on aECC_UE_INFO ECC_UE_INFO.valid = true ∧
         (s.on aECC_UE_INFO ECC_UE_INFO.valid = false → t.on aECC_UE_INFO ECC_UE_INFO.by_scrub = true ∧
           t.get aECC_UE_INFO ECC_UE_INFO.mem = m ∧ t.reg aECC_UE_ADDR = BitVec.ofNat 32 w) ∧
         (s.on aECC_UE_INFO ECC_UE_INFO.valid = true → t.reg aECC_UE_ADDR = s.reg aECC_UE_ADDR ∧
           t.get aECC_UE_INFO ECC_UE_INFO.later_cnt = min (s.get aECC_UE_INFO ECC_UE_INFO.later_cnt + 1) 65535)
     let rs := [aECC_DEV, aECC_UE_INFO, aECC_UE_ADDR]
     (∀ a : Word,
       (let w := a.toNat / 4 * 4
        let n := (w - 0x20000000) / 0x200000 * 16 + w % 0x200000 / 0x10000
        s.scrubs w = true →
        (w ∉ s.ue → w ∉ s.ce → exec (.scrubVisit .map a .clean) s = .next s) ∧
        (w ∉ s.ue → w ∈ s.ce → ∃ t, exec (.scrubVisit .map a .clean) s = .next t ∧ ce t ∧ w ∉ t.ce ∧ SameBut s t [aECC_DEV] []) ∧
        (w ∉ s.ue → ∃ t, exec (.scrubVisit .map a .single) s = .next t ∧ ce t ∧ w ∉ t.ce ∧ SameBut s t [aECC_DEV] []) ∧
        (s.eccMem w ≠ 3 → ∃ t, exec (.scrubVisit .map a .double) s = .next t ∧ ue t w (s.eccMem w) ∧ w ∈ t.ue ∧ SameBut s t rs []) ∧
        (s.eccMem w ≠ 3 → w ∈ s.ue → ∀ u, ∃ t, exec (.scrubVisit .map a u) s = .next t ∧ ue t w (s.eccMem w) ∧ t.ue = s.ue ∧
          SameBut s t rs []) ∧
        (s.eccMem w = 3 → s.MayFail n → ∀ u, u = .double ∨ w ∈ s.ue →
          ∃ t, exec (.scrubVisit .map a u) s = .next t ∧ ue t w 3 ∧ w ∈ t.ue ∧ s.Reported t n 3 ∧
            (t.rgClu (n / 16)).waiting = (s.rgClu (n / 16)).waiting ++ [s.failure n 3] ∧ SameBut s t (rs ++ reportRegs n) [n]) ∧
        (s.eccMem w = 3 → s.newtFailed n = true → ∀ u, u = .double ∨ w ∈ s.ue →
          ∃ t, exec (.scrubVisit .map a u) s = .next t ∧ ue t w 3 ∧ w ∈ t.ue ∧ t.av = s.av ∧ SameBut s t rs []) ∧
        ((pageOf w).isSome = true →
          (stagedCopy w ∉ s.ue → ∃ t, exec (.scrubVisit .staged a .single) s = .next t ∧ ce t ∧ SameBut s t [aECC_DEV] []) ∧
          (∀ u, u = .double ∨ stagedCopy w ∈ s.ue →
            ∃ t, exec (.scrubVisit .staged a u) s = .next t ∧ ue t w 6 ∧ stagedCopy w ∈ t.ue ∧ SameBut s t rs [])))) ∧
     (∀ (p : Fin 2) (a : Word),
       (let w := engBase (256 + p) + a.toNat / 4 * 4 % 0x1000
        s.scrubs w = true →
        (w ∉ s.ue → ∃ t, exec (.scrubVisit (.ctx p) a .single) s = .next t ∧ ce t ∧ w ∉ t.ce ∧ SameBut s t [aECC_DEV] []) ∧
        (∀ u, u = .double ∨ w ∈ s.ue →
          ∃ t, exec (.scrubVisit (.ctx p) a u) s = .next t ∧ ue t w 9 ∧ w ∈ t.ue ∧ SameBut s t rs []))) ∧
     (∀ (p : Fin 2) (a : Word) (l : Line),
       (let e := 256 + p.val
        let w := a.toNat / 4 * 4
        s.alive (islSUP p) = true →
        (lineOf (s.eng e).icache w = some l →
          (∃ t, exec (.scrubVisit (.icache p) a .single) s = .next t ∧ ce t ∧ SameBut s t [aECC_DEV] []) ∧
          (∃ t, exec (.scrubVisit (.icache p) a .double) s = .next t ∧ ue t w 7 ∧
            (t.eng e).icache = (s.eng e).icache.filter (fun y => y.addr != l.addr) ∧ (t.eng e).dcache = (s.eng e).dcache ∧
            SameBut s t rs [e])) ∧
        (lineOf (s.eng e).dcache w = some l →
          (∃ t, exec (.scrubVisit (.dcache p) a .single) s = .next t ∧ ce t ∧ SameBut s t [aECC_DEV] []) ∧
          (l.dirty = false → ∃ t, exec (.scrubVisit (.dcache p) a .double) s = .next t ∧ ue t w 7 ∧
            (t.eng e).dcache = (s.eng e).dcache.filter (fun y => y.addr != l.addr) ∧ (t.eng e).icache = (s.eng e).icache ∧
            SameBut s t rs [e]) ∧
          (l.dirty = true → s.pairFailed 0 = false → s.pairFailed 1 = false →
            ∃ t, exec (.scrubVisit (.dcache p) a .double) s = .next t ∧ t.pairFailed p = true ∧
              t.get aLOCKSTEP LOCKSTEP.cause = 3 ∧ t.alive (islSUP p) = false)))) ∧
     (∀ a : Word,
       (let w := a.toNat / 4 * 4
        0x100000 ≤ w → w < 0x200000 → s.alive islSYS = true →
        (w ∉ s.ue →
          (∃ t, exec (.nvmScrubVisit a .single) s = .next t ∧ ce t ∧ t.on aECC_NVM_FIX ECC_NVM_FIX.valid = true ∧
            (s.on aECC_NVM_FIX ECC_NVM_FIX.valid = false → t.get aECC_NVM_FIX ECC_NVM_FIX.word = (w - 0x100000) / 4) ∧
            (s.on aECC_NVM_FIX ECC_NVM_FIX.valid = true → t.reg aECC_NVM_FIX = s.reg aECC_NVM_FIX) ∧
            SameBut s t [aECC_DEV, aECC_NVM_FIX] [])) ∧
        (∃ t, exec (.nvmScrubVisit a .double) s = .next t ∧ ue t w 8 ∧ w ∈ t.ue ∧ SameBut s t rs []))))

/-- R509 to R511: when a Skink pair fails while the other has not, its island is held in reset, the other pair becomes primary, every router
source steered to the failed pair goes to the same input of the other, source 493 to fo_input, EV1892 fires, fo and degraded set, and a
halted survivor starts at the boot ROM. When the survivor fails in turn, a SYS reset with cause lockstep begins. R513: key 0x5C from ring 0
of the primary pair reloads the system watchdog, any other kick sets bad_kick and reloads nothing. At 0 the first expiry sets pre_expiry and
reloads, and with trip_en enters TRIPPED with cause 0b11; with pre_expiry still set a SYS reset with cause system watchdog begins. -/
def Obligations.PairsAndSystemWatchdog : Prop :=
  (∀ (p : Fin 2) (c : Fin 4) (s : State), s.pairCause p c = true → s.pairFailed p = false →
    (s.pairFailed (1 - p.val) = false → s.mode ≠ .frost →
      ∃ t, exec (.pairFailure p c) s = .next t ∧ t.pairFailed p = true ∧ t.pairFailed (1 - p.val) = false ∧
        t.get aLOCKSTEP LOCKSTEP.cause = c ∧ t.get aLOCKSTEP LOCKSTEP.primary = 1 - p.val ∧ t.on aLOCKSTEP LOCKSTEP.fo = true ∧
        t.alive (islSUP p) = false ∧ t.eng (256 + p.val) = {} ∧ Fires s t 1892 s.tb ∧ t.on aMODE MODE.degraded = true ∧ t.mode = s.mode ∧
        (∀ i : Nat, i < 493 ∨ 493 < i ∧ i < 512 →
          t.get (aROUTE_CFG i) ROUTE_CFG.engine = (if s.get (aROUTE_CFG i) ROUTE_CFG.engine = 256 + p.val ∧
            s.on (aROUTE_CFG i) ROUTE_CFG.en = true then 256 + (1 - p.val) else s.get (aROUTE_CFG i) ROUTE_CFG.engine) ∧
          t.get (aROUTE_CFG i) ROUTE_CFG.input = s.get (aROUTE_CFG i) ROUTE_CFG.input ∧
          t.on (aROUTE_CFG i) ROUTE_CFG.en = s.on (aROUTE_CFG i) ROUTE_CFG.en) ∧
        t.get (aROUTE_CFG 493) ROUTE_CFG.engine = 256 + (1 - p.val) ∧
        t.get (aROUTE_CFG 493) ROUTE_CFG.input = s.get aLOCKSTEP LOCKSTEP.fo_input ∧ t.on (aROUTE_CFG 493) ROUTE_CFG.en = true ∧
        (s.alive (islSUP (1 - p.val)) = true → s.halted (256 + (1 - p.val)) = true →
          t.halted (256 + (1 - p.val)) = false ∧ (t.eng (256 + (1 - p.val))).pc = 0 ∧ t.ring (256 + (1 - p.val)) = 0) ∧
        (s.halted (256 + (1 - p.val)) = false →
          t.halted (256 + (1 - p.val)) = false ∧ (t.eng (256 + (1 - p.val))).pc = (s.eng (256 + (1 - p.val))).pc)) ∧
    (s.pairFailed (1 - p.val) = true → s.Unreset →
      ∃ t, exec (.pairFailure p c) s = .next t ∧ BeganReset s t false 5)) ∧
  ((∀ (q : Req) (w : Word) (s : State), s.Reaches q islAON → s.ringOf q ≤ 3 →
     (let good : Prop := getBits w SYS_WDT_KICK.key = 0x5C ∧ reqNum q = 256 + s.get aLOCKSTEP LOCKSTEP.primary ∧ s.ringOf q = 0
      (good → ∃ t, exec (.sysWdtKick q w) s = .next t ∧
        t.get aSYS_WDT_STATUS SYS_WDT_STATUS.remaining = s.get aSYS_WDT_CTRL SYS_WDT_CTRL.timeout ∧
        t.on aSYS_WDT_STATUS SYS_WDT_STATUS.pre_expiry = s.on aSYS_WDT_STATUS SYS_WDT_STATUS.pre_expiry ∧
        t.respOf q = { err := false, val := 0 } ∧ SameBut s t [aSYS_WDT_STATUS] []) ∧
      (¬ good → ∃ t, exec (.sysWdtKick q w) s = .next t ∧
        t.get aSYS_WDT_STATUS SYS_WDT_STATUS.remaining = s.get aSYS_WDT_STATUS SYS_WDT_STATUS.remaining ∧
        t.on aSYS_WDT_STATUS SYS_WDT_STATUS.bad_kick = true ∧ t.respOf q = { err := false, val := 0 } ∧
        SameBut s t [aSYS_WDT_STATUS] []))) ∧
   (∀ s : State, s.sysWdtCounts = true → s.get aSYS_WDT_STATUS SYS_WDT_STATUS.remaining = 0 →
     (s.on aSYS_WDT_STATUS SYS_WDT_STATUS.pre_expiry = false →
       ∃ t, exec .sysWdtExpiry s = .next t ∧ t.on aSYS_WDT_STATUS SYS_WDT_STATUS.pre_expiry = true ∧
         t.get aSYS_WDT_STATUS SYS_WDT_STATUS.remaining = s.get aSYS_WDT_CTRL SYS_WDT_CTRL.timeout ∧
         (s.on aSYS_WDT_CTRL SYS_WDT_CTRL.trip_en = false → SameBut s t [aSYS_WDT_STATUS] []) ∧
         (s.on aSYS_WDT_CTRL SYS_WDT_CTRL.trip_en = true → s.canTrip = true →
           t.mode = .tripped ∧ t.get aMODE MODE.trip_cause = 3 ∧ t.on aSAFE_CTRL SAFE_CTRL.hold = true ∧
             SameButMode s t [aSYS_WDT_STATUS, aSAFE_CTRL])) ∧
     (s.on aSYS_WDT_STATUS SYS_WDT_STATUS.pre_expiry = true → s.Unreset →
       ∃ t, exec .sysWdtExpiry s = .next t ∧ BeganReset s t false 7)))

/-- R512: a write of 1 to switch in LOCKSTEP, by ring 0 of the primary pair, while neither pair is failed and the other pair is running,
makes the other pair primary; it moves no router source and fires nothing. A write without it, or from another requester, leaves the primary
pair as it was. -/
def Obligations.SwitchMakesTheOtherPairPrimary : Prop :=
  ∀ (q : Req) (w : Word) (s : State), s.Reaches q islAON → s.ringOf q = 0 →
   (let p := s.get aLOCKSTEP LOCKSTEP.primary
    (getBits w LOCKSTEP.switch = 1 → reqNum q = 256 + p → s.pairFailed 0 = false → s.pairFailed 1 = false →
      s.alive (islSUP (1 - p)) = true → s.halted (256 + (1 - p)) = false →
      ∃ t, exec (.lockstepSwitch q w) s = .next t ∧ t.get aLOCKSTEP LOCKSTEP.primary = 1 - p ∧ t.fab = s.fab ∧
        t.respOf q = { err := false, val := 0 } ∧ SameBut s t [aLOCKSTEP] []) ∧
    (getBits w LOCKSTEP.switch = 0 ∨ reqNum q ≠ 256 + p →
      ∃ t, exec (.lockstepSwitch q w) s = .next t ∧ t.get aLOCKSTEP LOCKSTEP.primary = p ∧
        t.respOf q = { err := false, val := 0 } ∧ SameBut s t [aLOCKSTEP] []))

/-- R514 to R516, R518, R519: ring 0's report stops its Newt, marks it failed and takes it out of READY at once, and the failure waits for
its regrow with the tick of the report; the failure of a spare begins no regrow, that of the chosen spare restarts with the next. When its
turn comes, with regrow enabled and a spare in the clutch the regrow begins with the lowest-numbered spare; otherwise no_spare and degraded
set, with ns_trip also TRIPPED with cause 0b11. A self-test of a Newt that is halted, not failed and no spare begins, any other sets
bad_cmd. R516, R517: when the failed Newt's buffer is empty, or 1 µs after the report, what it still holds is discarded and the copy begins;
when the copy ends the spare holds the failed Newt's operand store, its banks or the image's, the registers of R517's table and its staged
bank, its other registers are at their reset values, and the rebinding is armed with the clutch's group. How the staged bank passes to the
spare is the model's reading (log entry 32). -/
def Obligations.NewtFailuresAndRegrow : Prop :=
  ((∀ (n : Fin 256) (v : Fin 8) (x : Failed) (s : State),
     (let c := n.val / 16
      let k := n.val % 16
      s.clocked n = true → (s.rgClu c).cur = none → s.rgNext c = some x → x.k = k → x.cause = v.val →
      (s.on (aREGROW_CFG c) REGROW_CFG.en = true → ∀ j, s.spareOf c = some j →
        ∃ t, exec (.newtFailure n v) s = .next t ∧ t.on (aREGROW_STATUS c) REGROW_STATUS.busy = true ∧
          t.get (aREGROW_STATUS c) REGROW_STATUS.spare_k = j ∧ (t.rgClu c).waiting = (s.rgClu c).waiting.erase x ∧
          (t.rgClu c).cur = some { k := k, spare := j, phase := .drain, start := x.tick, ran := x.ran } ∧
          SameBut s t [aREGROW_STATUS c] []) ∧
      (s.on (aREGROW_CFG c) REGROW_CFG.en = false ∨ s.spareOf c = none →
        ∃ t, exec (.newtFailure n v) s = .next t ∧ t.on (aREGROW_STATUS c) REGROW_STATUS.no_spare = true ∧
          t.on aMODE MODE.degraded = true ∧ (t.rgClu c).cur = none ∧ (t.rgClu c).waiting = (s.rgClu c).waiting.erase x ∧
          (s.on (aREGROW_CFG c) REGROW_CFG.ns_trip = false → SameBut s t [aREGROW_STATUS c, aMODE] []) ∧
          (s.on (aREGROW_CFG c) REGROW_CFG.ns_trip = true → s.canTrip = true →
            t.mode = .tripped ∧ t.get aMODE MODE.trip_cause = 3)))) ∧
   (∀ (q : Req) (c : Fin 16) (w : Word) (s : State), s.admits q (islCLU c) = true → s.waits q (islCLU c) = false →
     s.ringOf q = 0 → getBits w REGROW_CMD.go = 1 →
     (let k := getBits w REGROW_CMD.newt
      let n := 16 * c.val + k
      let can : Prop := s.halted n = true ∧ s.newtFailed n = false ∧ s.isSpare c k = false ∧ (s.rgClu c).test = none
      (getBits w REGROW_CMD.op = 1 →
        (s.MayFail n → ∃ t, exec (.regrowReportFailure q c w) s = .next t ∧ s.Reported t n 5 ∧
          t.rgClu c = { s.rgClu c with waiting := (s.rgClu c).waiting ++ [s.failure n 5] } ∧
          (∀ d, d ≠ c.val → t.rgClu d = s.rgClu d) ∧ t.respOf q = { err := false, val := 0 } ∧ SameBut s t (reportRegs n) [n]) ∧
        (s.newtFailed n = true → ∃ t, exec (.regrowReportFailure q c w) s = .next t ∧ t.av = s.av ∧
          t.respOf q = { err := false, val := 0 } ∧ SameBut s t [] []) ∧
        (s.isSpare c k = true → (∀ r, (s.rgClu c).cur = some r → r.spare ≠ k) →
          ∃ t, exec (.regrowReportFailure q c w) s = .next t ∧ s.Reported t n 5 ∧ t.av = s.av ∧
            t.respOf q = { err := false, val := 0 } ∧ SameBut s t (reportRegs n) [n]) ∧
        (∀ (r : Regrow) (j : Nat), (s.rgClu c).cur = some r → r.spare = k → s.newtFailed n = false → j < 16 → j ≠ k →
          s.isSpare c j = true → (∀ i, i < j → i ≠ k → s.isSpare c i = false) →
          ∃ t, exec (.regrowReportFailure q c w) s = .next t ∧ s.Reported t n 5 ∧
            t.get (aREGROW_STATUS c) REGROW_STATUS.spare_k = j ∧
            t.rgClu c = { s.rgClu c with cur := some { r with spare := j, phase := if r.phase = .drain then .drain else .copy } } ∧
            t.respOf q = { err := false, val := 0 } ∧ SameBut s t (reportRegs n) [n])) ∧
      (getBits w REGROW_CMD.op = 2 → can →
        ∃ t, exec (.selfTest q c w) s = .next t ∧ (t.rgClu c).test = some k ∧ t.on (aREGROW_STATUS c) REGROW_STATUS.busy = true ∧
          t.respOf q = { err := false, val := 0 } ∧ SameBut s t [aREGROW_STATUS c] []) ∧
      (getBits w REGROW_CMD.op = 2 → ¬ can →
        ∃ t, exec (.selfTest q c w) s = .next t ∧ t.av = s.av ∧ t.on (aREGROW_STATUS c) REGROW_STATUS.bad_cmd = true ∧
          t.respOf q = { err := false, val := 0 } ∧ SameBut s t [aREGROW_STATUS c] []))) ∧
   (∀ (c : Fin 16) (k : Nat) (pass : Bool) (s : State), (s.rgClu c).test = some k → k < 16 → s.clocked (16 * c.val) = true →
     (let n := 16 * c.val + k
      ∃ t, exec (.selfTestDone c pass) s = .next t ∧ (t.rgClu c).test = none ∧
        (∀ a, blkHas 0 n a = true → t.reg a = resetWord a) ∧ (∀ a, t.byte a = s.byte a) ∧
        (pass = true → t.eng n = {} ∧ t.on (aREGROW_STATUS c) REGROW_STATUS.st_pass = true ∧
          (t.rgClu c).waiting = (s.rgClu c).waiting) ∧
        (pass = false → s.MayFail n → t.newtFailed n = true ∧ t.newtReady n = false ∧
          t.get (aREGROW_STATUS c) REGROW_STATUS.cause = 4 ∧
          (t.rgClu c).waiting = (s.rgClu c).waiting ++ [{ k := k, cause := 4, tick := s.tb, ran := false }])))) ∧
  ((∀ (c : Fin 16) (r : Regrow) (s : State), (s.rgClu c).cur = some r → r.phase = .drain →
     (let n := 16 * c.val + r.k
      s.clocked n = true → (s.eng n).buf = [] ∧ (s.eng n).acks = 0 ∨ r.start + 1000 ≤ s.tb →
      ∃ t, exec (.regrowDrainDone c) s = .next t ∧ (t.rgClu c).cur = some { r with phase := .copy } ∧ t.halted n = true ∧
        (t.eng n).buf = [] ∧
        SameBut s t [aENG_STATUS n, aMODE] [n])) ∧
   (∀ (c : Fin 16) (r : Regrow) (s : State), (s.rgClu c).cur = some r → r.phase = .copy → r.k < 16 → r.spare < 16 → r.k ≠ r.spare →
     s.clocked (16 * c.val) = true → s.alive islSYS = true →
     (s.on (aREGROW_CFG c) REGROW_CFG.img_src = true → inSram (s.reg (aREGROW_IMG c)).toNat 0x8000 = true) →
     (let n := 16 * c.val + r.k
      let j := 16 * c.val + r.spare
      let g := s.get (aREGROW_CFG c) REGROW_CFG.cg
      let code := if s.on (aREGROW_CFG c) REGROW_CFG.img_src then (s.reg (aREGROW_IMG c)).toNat else engRam n + 0x4000
      let kept := [aVBR j, aGTB j, aENG_PROT j, aSPILL_LIM j, aENG_CTRL j, aENG_STATUS j, aWDT_CTRL j, aWDT_STATUS j] ++
        (List.range 32).map (aLIC_CFG j)
      ∃ t, exec (.regrowCopyDone c) s = .next t ∧
        (∀ i, i < 4096 → t.word (engRam j + 4 * i) = s.word (engRam n + 4 * i)) ∧
        (∀ i, i < 8192 → t.word (engRam j + 0x4000 + 4 * i) = s.word (code + 4 * i)) ∧
        (∀ i, i < 4096 → engRam n + 4 * i ∈ s.ue → engRam j + 4 * i ∈ t.ue) ∧
        t.reg (aVBR j) = s.reg (aVBR n) ∧ t.reg (aGTB j) = s.reg (aGTB n) ∧ t.reg (aENG_PROT j) = s.reg (aENG_PROT n) ∧
        t.reg (aSPILL_LIM j) = s.reg (aSPILL_LIM n) ∧ (∀ i, i < 32 → t.reg (aLIC_CFG j i) = s.reg (aLIC_CFG n i)) ∧
        t.on (aENG_CTRL j) ENG_CTRL.sh_half = s.on (aENG_CTRL n) ENG_CTRL.sh_half ∧
        t.get (aWDT_CTRL j) WDT_CTRL.timeout = s.get (aWDT_CTRL n) WDT_CTRL.timeout ∧
        t.on (aWDT_CTRL j) WDT_CTRL.en = s.on (aWDT_CTRL n) WDT_CTRL.en ∧
        t.get (aWDT_STATUS j) WDT_STATUS.remaining =
          (if s.on (aWDT_CTRL n) WDT_CTRL.en = true ∧ s.on (aWDT_CTRL j) WDT_CTRL.en = false then s.get (aWDT_CTRL n) WDT_CTRL.timeout
           else WDT_STATUS.remaining.rst) ∧
        (match s.stagedAt (aENG_CTRL n) with
          | some x => ∃ y, t.stagedAt (aENG_CTRL j) = some y ∧ y.grp = x.grp ∧
              getBits y.val ENG_CTRL.bank_sel = getBits x.val ENG_CTRL.bank_sel
          | none => t.stagedAt (aENG_CTRL j) = none) ∧
        (∀ a, blkHas 0 j a = true → a ∉ kept → t.reg a = resetWord a) ∧
        (∀ a, blkHas 0 j a = false → a ≠ aMODE → a ≠ aCG_STATUS g →
          (∀ b x, s.stagedAt b = some x → a ≠ aCG_STATUS x.grp) → t.reg a = s.reg a) ∧
        (∀ a, a < engRam j ∨ engRam j + 0xC000 ≤ a → t.byte a = s.byte a) ∧ (t.armedOf g).isSome = true ∧
        (s.armedOf g = none → s.on (aREGROW_CFG c) REGROW_CFG.slice_en = false → ∃ x, t.armedOf g = some x ∧ x.ta = s.tb ∧
          x.tc = some (s.tb + 200)) ∧
        (∃ x, (t.rgClu c).cur = some x ∧ x.phase = .commit ∧ x.k = r.k ∧ x.spare = r.spare ∧ x.grp = g) ∧ t.mode = s.mode)))
end

