-- ==== Sys2Proof/Laws/SMap.lean ====
section
/-!
SUPPORT. The laws of sparse maps: what a read gives after a write, and that deleting, storing and filtering keep the canonical
form.
-/

namespace Sys2Proof.Machine

/-- The canonical form, in the words of a proof: keys rise pairwise, and no entry is its key's unlisted value. -/
def swf' {α : Type} (d : Nat → α) (m : SMap α) : Prop := m.Pairwise (fun p q => p.1 < q.1) ∧ ∀ p ∈ m, p.2 ≠ d p.1

theorem swf_iff {α : Type} [DecidableEq α] (d : Nat → α) (m : SMap α) : swf d m = true ↔ swf' d m := by
  induction m with
  | nil => simp [swf, swf']
  | cons p m ih =>
    obtain ⟨k, v⟩ := p
    cases m with
    | nil => simp [swf, swf']
    | cons q m =>
      obtain ⟨k', v'⟩ := q
      simp only [swf, Bool.and_eq_true, decide_eq_true_eq, ih]
      simp only [swf', List.pairwise_cons, List.mem_cons, forall_eq_or_imp]
      constructor
      · rintro ⟨⟨h1, h2⟩, ⟨h3, h4⟩, h5, h6⟩
        refine ⟨⟨⟨h2, fun a ha => ?_⟩, h3, h4⟩, h1, h5, h6⟩
        exact lt_trans h2 (h3 a ha)
      · rintro ⟨⟨⟨h2, _⟩, h3, h4⟩, h1, h5, h6⟩
        exact ⟨⟨h1, h2⟩, ⟨h3, h4⟩, h5, h6⟩

theorem swf_filter {α : Type} [DecidableEq α] (d : Nat → α) (m : SMap α) (f : Nat × α → Bool) (h : swf d m = true) :
    swf d (m.filter f) = true := by
  rw [swf_iff] at *
  exact ⟨h.1.filter _, fun p hp => h.2 p (List.mem_of_mem_filter hp)⟩

theorem mem_sins {α : Type} (k : Nat) (v : α) (m : SMap α) (p : Nat × α) : p ∈ sins k v m ↔ p = (k, v) ∨ p ∈ m := by
  induction m with
  | nil => simp [sins]
  | cons q m ih =>
    obtain ⟨k', v'⟩ := q
    simp only [sins]
    split
    · simp
    · simp only [List.mem_cons, ih]; tauto

theorem sins_sorted {α : Type} (k : Nat) (v : α) (m : SMap α) (h : m.Pairwise (fun p q => p.1 < q.1)) (hk : ∀ p ∈ m, p.1 ≠ k) :
    (sins k v m).Pairwise (fun p q => p.1 < q.1) := by
  induction m with
  | nil => simp [sins]
  | cons q m ih =>
    obtain ⟨k', v'⟩ := q
    rw [List.pairwise_cons] at h
    simp only [sins]
    split
    · rename_i hlt
      refine List.pairwise_cons.2 ⟨fun p hp => ?_, List.pairwise_cons.2 h⟩
      rcases List.mem_cons.1 hp with rfl | hp
      · exact hlt
      · exact lt_trans hlt (h.1 p hp)
    · rename_i hge
      refine List.pairwise_cons.2 ⟨fun p hp => ?_, ih h.2 (fun p hp => hk p (List.mem_cons_of_mem _ hp))⟩
      rcases (mem_sins k v m p).1 hp with rfl | hp
      · have := hk (k', v') (List.mem_cons_self ..); simp only at this ⊢; omega
      · exact h.1 p hp

theorem swf_sput {α : Type} [DecidableEq α] (d : Nat → α) (k : Nat) (v : α) (m : SMap α) (h : swf d m = true) :
    swf d (sput (d k) k v m) = true := by
  have hd : swf d (sdel k m) = true := swf_filter d m _ h
  unfold sput
  split
  · exact hd
  · rename_i hv
    rw [swf_iff] at hd ⊢
    have hne : ∀ p ∈ sdel k m, p.1 ≠ k := fun p hp => by simpa using (List.mem_filter.1 hp).2
    refine ⟨sins_sorted k v _ hd.1 hne, fun p hp => ?_⟩
    rcases (mem_sins k v _ p).1 hp with rfl | hp
    · exact hv
    · exact hd.2 p hp

theorem swf_filterMap {α : Type} [DecidableEq α] (d : Nat → α) (m : SMap α) (f : Nat × α → Option (Nat × α))
    (hf : ∀ x y, f x = some y → y.1 = x.1 ∧ (x.2 ≠ d x.1 → y.2 ≠ d y.1)) (h : swf d m = true) :
    swf d (m.filterMap f) = true := by
  rw [swf_iff] at *
  refine ⟨List.Pairwise.filterMap f (fun x y hxy a ha b hb => ?_) h.1, fun p hp => ?_⟩
  · rw [(hf x a ha).1, (hf y b hb).1]
    exact hxy
  · obtain ⟨x, hx, hp⟩ := List.mem_filterMap.1 hp
    exact (hf x p hp).2 (h.2 x hx)

@[simp] theorem sget_nil {α : Type} (d : α) (k : Nat) : sget d [] k = d := rfl

theorem sget_sdel_self {α : Type} (d : α) (k : Nat) (m : SMap α) : sget d (sdel k m) k = d := by
  induction m with
  | nil => rfl
  | cons p m ih =>
    obtain ⟨k', v⟩ := p
    by_cases h : k' = k
    · subst h; simpa [sdel] using ih
    · have : sdel k ((k', v) :: m) = (k', v) :: sdel k m := by simp [sdel, h]
      rw [this, sget, if_neg (fun e => h e.symm), ih]

theorem sget_sdel_ne {α : Type} (d : α) {k j : Nat} (m : SMap α) (h : j ≠ k) : sget d (sdel k m) j = sget d m j := by
  induction m with
  | nil => rfl
  | cons p m ih =>
    obtain ⟨k', v⟩ := p
    by_cases hk : k' = k
    · subst hk
      have : sdel k' ((k', v) :: m) = sdel k' m := by simp [sdel]
      rw [this, ih, sget, if_neg h]
    · have : sdel k ((k', v) :: m) = (k', v) :: sdel k m := by simp [sdel, hk]
      rw [this, sget, sget, ih]

theorem sget_sins_self {α : Type} (d : α) (k : Nat) (v : α) (m : SMap α) (h : ∀ p ∈ m, p.1 ≠ k) : sget d (sins k v m) k = v := by
  induction m with
  | nil => simp [sins, sget]
  | cons p m ih =>
    obtain ⟨k', v'⟩ := p
    have hk : k' ≠ k := h _ (List.mem_cons_self ..)
    rw [sins]
    split
    · simp [sget]
    · rw [sget, if_neg (fun e => hk e.symm), ih (fun p hp => h p (List.mem_cons_of_mem _ hp))]

theorem sget_sins_ne {α : Type} (d : α) {k j : Nat} (v : α) (m : SMap α) (h : j ≠ k) : sget d (sins k v m) j = sget d m j := by
  induction m with
  | nil => simp [sins, sget, h]
  | cons p m ih =>
    obtain ⟨k', v'⟩ := p
    rw [sins]
    split
    · rw [sget, if_neg h]
    · rw [sget, sget, ih]

/-- A read after a write to the same key gives the value written. -/
@[simp] theorem sget_sput_self {α : Type} [DecidableEq α] (d : α) (k : Nat) (v : α) (m : SMap α) : sget d (sput d k v m) k = v := by
  unfold sput
  split
  · rename_i h
    rw [sget_sdel_self, h]
  · exact sget_sins_self d k v _ (fun p hp => by simpa using (List.mem_filter.1 hp).2)

/-- A write leaves every other key alone. -/
theorem sget_sput_ne {α : Type} [DecidableEq α] (d e : α) {k j : Nat} (v : α) (m : SMap α) (h : j ≠ k) :
    sget d (sput e k v m) j = sget d m j := by
  unfold sput
  split
  · exact sget_sdel_ne d m h
  · rw [sget_sins_ne d v _ h, sget_sdel_ne d m h]

end Sys2Proof.Machine
end

