-- ==== Sys2Proof/Laws/State.lean ====
section
/-!
SUPPORT. What each update of the state leaves alone: one lemma per field per update, true by unfolding.
-/

namespace Sys2Proof.Machine

variable (s : State)

/-! ### setReg -/

@[simp] theorem State.setReg_pending (a : Nat) (w : Word) : (s.setReg a w).pending = s.pending := rfl
@[simp] theorem State.setReg_tb (a : Nat) (w : Word) : (s.setReg a w).tb = s.tb := rfl
@[simp] theorem State.setReg_mem (a : Nat) (w : Word) : (s.setReg a w).mem = s.mem := rfl
@[simp] theorem State.setReg_resp (a : Nat) (w : Word) : (s.setReg a w).resp = s.resp := rfl
@[simp] theorem State.setReg_shadows (a : Nat) (w : Word) : (s.setReg a w).shadows = s.shadows := rfl
@[simp] theorem State.setReg_mode (a : Nat) (w : Word) : (s.setReg a w).mode = s.mode := rfl
@[simp] theorem State.setReg_time (a : Nat) (w : Word) : (s.setReg a w).time = s.time := rfl
@[simp] theorem State.setReg_cv (a : Nat) (w : Word) : (s.setReg a w).cv = s.cv := rfl
@[simp] theorem State.setReg_mon (a : Nat) (w : Word) : (s.setReg a w).mon = s.mon := rfl
@[simp] theorem State.setReg_fab (a : Nat) (w : Word) : (s.setReg a w).fab = s.fab := rfl
@[simp] theorem State.setReg_engs (a : Nat) (w : Word) : (s.setReg a w).engs = s.engs := rfl
@[simp] theorem State.setReg_rsv (a : Nat) (w : Word) : (s.setReg a w).rsv = s.rsv := rfl
@[simp] theorem State.setReg_fifos (a : Nat) (w : Word) : (s.setReg a w).fifos = s.fifos := rfl
@[simp] theorem State.setReg_routed (a : Nat) (w : Word) : (s.setReg a w).routed = s.routed := rfl
@[simp] theorem State.setReg_ue (a : Nat) (w : Word) : (s.setReg a w).ue = s.ue := rfl
@[simp] theorem State.setReg_carried (a : Nat) (w : Word) : (s.setReg a w).carried = s.carried := rfl
@[simp] theorem State.setReg_fresh (a : Nat) (w : Word) : (s.setReg a w).fresh = s.fresh := rfl
@[simp] theorem State.setReg_pwm (a : Nat) (w : Word) : (s.setReg a w).pwm = s.pwm := rfl
@[simp] theorem State.setReg_trip (a : Nat) (w : Word) : (s.setReg a w).trip = s.trip := rfl
@[simp] theorem State.setReg_cc (a : Nat) (w : Word) : (s.setReg a w).cc = s.cc := rfl
@[simp] theorem State.setReg_qm (a : Nat) (w : Word) : (s.setReg a w).qm = s.qm := rfl
@[simp] theorem State.setReg_dma (a : Nat) (w : Word) : (s.setReg a w).dma = s.dma := rfl
@[simp] theorem State.setReg_fr (a : Nat) (w : Word) : (s.setReg a w).fr = s.fr := rfl
@[simp] theorem State.setReg_swl (a : Nat) (w : Word) : (s.setReg a w).swl = s.swl := rfl
@[simp] theorem State.setReg_std (a : Nat) (w : Word) : (s.setReg a w).std = s.std := rfl
@[simp] theorem State.setReg_nvm (a : Nat) (w : Word) : (s.setReg a w).nvm = s.nvm := rfl
@[simp] theorem State.setReg_av (a : Nat) (w : Word) : (s.setReg a w).av = s.av := rfl
@[simp] theorem State.setReg_rst (a : Nat) (w : Word) : (s.setReg a w).rst = s.rst := rfl
@[simp] theorem State.setReg_trimConflicts (a : Nat) (w : Word) : (s.setReg a w).trimConflicts = s.trimConflicts := rfl
@[simp] theorem State.setReg_trims (a : Nat) (w : Word) : (s.setReg a w).trims = s.trims := rfl
@[simp] theorem State.setReg_cyc (a : Nat) (w : Word) : (s.setReg a w).cyc = s.cyc := rfl
@[simp] theorem State.setReg_ce (a : Nat) (w : Word) : (s.setReg a w).ce = s.ce := rfl

/-! ### set -/

@[simp] theorem State.set_pending (a : Nat) (f : Fld) (v : Nat) : (s.set a f v).pending = s.pending := rfl
@[simp] theorem State.set_tb (a : Nat) (f : Fld) (v : Nat) : (s.set a f v).tb = s.tb := rfl
@[simp] theorem State.set_mem (a : Nat) (f : Fld) (v : Nat) : (s.set a f v).mem = s.mem := rfl
@[simp] theorem State.set_resp (a : Nat) (f : Fld) (v : Nat) : (s.set a f v).resp = s.resp := rfl
@[simp] theorem State.set_shadows (a : Nat) (f : Fld) (v : Nat) : (s.set a f v).shadows = s.shadows := rfl
@[simp] theorem State.set_mode (a : Nat) (f : Fld) (v : Nat) : (s.set a f v).mode = s.mode := rfl
@[simp] theorem State.set_time (a : Nat) (f : Fld) (v : Nat) : (s.set a f v).time = s.time := rfl
@[simp] theorem State.set_cv (a : Nat) (f : Fld) (v : Nat) : (s.set a f v).cv = s.cv := rfl
@[simp] theorem State.set_mon (a : Nat) (f : Fld) (v : Nat) : (s.set a f v).mon = s.mon := rfl
@[simp] theorem State.set_fab (a : Nat) (f : Fld) (v : Nat) : (s.set a f v).fab = s.fab := rfl
@[simp] theorem State.set_engs (a : Nat) (f : Fld) (v : Nat) : (s.set a f v).engs = s.engs := rfl
@[simp] theorem State.set_rsv (a : Nat) (f : Fld) (v : Nat) : (s.set a f v).rsv = s.rsv := rfl
@[simp] theorem State.set_fifos (a : Nat) (f : Fld) (v : Nat) : (s.set a f v).fifos = s.fifos := rfl
@[simp] theorem State.set_routed (a : Nat) (f : Fld) (v : Nat) : (s.set a f v).routed = s.routed := rfl
@[simp] theorem State.set_ue (a : Nat) (f : Fld) (v : Nat) : (s.set a f v).ue = s.ue := rfl
@[simp] theorem State.set_carried (a : Nat) (f : Fld) (v : Nat) : (s.set a f v).carried = s.carried := rfl
@[simp] theorem State.set_fresh (a : Nat) (f : Fld) (v : Nat) : (s.set a f v).fresh = s.fresh := rfl
@[simp] theorem State.set_pwm (a : Nat) (f : Fld) (v : Nat) : (s.set a f v).pwm = s.pwm := rfl
@[simp] theorem State.set_trip (a : Nat) (f : Fld) (v : Nat) : (s.set a f v).trip = s.trip := rfl
@[simp] theorem State.set_cc (a : Nat) (f : Fld) (v : Nat) : (s.set a f v).cc = s.cc := rfl
@[simp] theorem State.set_qm (a : Nat) (f : Fld) (v : Nat) : (s.set a f v).qm = s.qm := rfl
@[simp] theorem State.set_dma (a : Nat) (f : Fld) (v : Nat) : (s.set a f v).dma = s.dma := rfl
@[simp] theorem State.set_fr (a : Nat) (f : Fld) (v : Nat) : (s.set a f v).fr = s.fr := rfl
@[simp] theorem State.set_swl (a : Nat) (f : Fld) (v : Nat) : (s.set a f v).swl = s.swl := rfl
@[simp] theorem State.set_std (a : Nat) (f : Fld) (v : Nat) : (s.set a f v).std = s.std := rfl
@[simp] theorem State.set_nvm (a : Nat) (f : Fld) (v : Nat) : (s.set a f v).nvm = s.nvm := rfl
@[simp] theorem State.set_av (a : Nat) (f : Fld) (v : Nat) : (s.set a f v).av = s.av := rfl
@[simp] theorem State.set_rst (a : Nat) (f : Fld) (v : Nat) : (s.set a f v).rst = s.rst := rfl
@[simp] theorem State.set_trimConflicts (a : Nat) (f : Fld) (v : Nat) : (s.set a f v).trimConflicts = s.trimConflicts := rfl
@[simp] theorem State.set_trims (a : Nat) (f : Fld) (v : Nat) : (s.set a f v).trims = s.trims := rfl
@[simp] theorem State.set_ce (a : Nat) (f : Fld) (v : Nat) : (s.set a f v).ce = s.ce := rfl

/-! ### setB -/

@[simp] theorem State.setB_pending (a : Nat) (f : Fld) (b : Bool) : (s.setB a f b).pending = s.pending := rfl
@[simp] theorem State.setB_tb (a : Nat) (f : Fld) (b : Bool) : (s.setB a f b).tb = s.tb := rfl
@[simp] theorem State.setB_mem (a : Nat) (f : Fld) (b : Bool) : (s.setB a f b).mem = s.mem := rfl
@[simp] theorem State.setB_resp (a : Nat) (f : Fld) (b : Bool) : (s.setB a f b).resp = s.resp := rfl
@[simp] theorem State.setB_shadows (a : Nat) (f : Fld) (b : Bool) : (s.setB a f b).shadows = s.shadows := rfl
@[simp] theorem State.setB_mode (a : Nat) (f : Fld) (b : Bool) : (s.setB a f b).mode = s.mode := rfl
@[simp] theorem State.setB_time (a : Nat) (f : Fld) (b : Bool) : (s.setB a f b).time = s.time := rfl
@[simp] theorem State.setB_cv (a : Nat) (f : Fld) (b : Bool) : (s.setB a f b).cv = s.cv := rfl
@[simp] theorem State.setB_mon (a : Nat) (f : Fld) (b : Bool) : (s.setB a f b).mon = s.mon := rfl
@[simp] theorem State.setB_fab (a : Nat) (f : Fld) (b : Bool) : (s.setB a f b).fab = s.fab := rfl
@[simp] theorem State.setB_engs (a : Nat) (f : Fld) (b : Bool) : (s.setB a f b).engs = s.engs := rfl
@[simp] theorem State.setB_rsv (a : Nat) (f : Fld) (b : Bool) : (s.setB a f b).rsv = s.rsv := rfl
@[simp] theorem State.setB_fifos (a : Nat) (f : Fld) (b : Bool) : (s.setB a f b).fifos = s.fifos := rfl
@[simp] theorem State.setB_routed (a : Nat) (f : Fld) (b : Bool) : (s.setB a f b).routed = s.routed := rfl
@[simp] theorem State.setB_ue (a : Nat) (f : Fld) (b : Bool) : (s.setB a f b).ue = s.ue := rfl
@[simp] theorem State.setB_carried (a : Nat) (f : Fld) (b : Bool) : (s.setB a f b).carried = s.carried := rfl
@[simp] theorem State.setB_fresh (a : Nat) (f : Fld) (b : Bool) : (s.setB a f b).fresh = s.fresh := rfl
@[simp] theorem State.setB_pwm (a : Nat) (f : Fld) (b : Bool) : (s.setB a f b).pwm = s.pwm := rfl
@[simp] theorem State.setB_trip (a : Nat) (f : Fld) (b : Bool) : (s.setB a f b).trip = s.trip := rfl
@[simp] theorem State.setB_cc (a : Nat) (f : Fld) (b : Bool) : (s.setB a f b).cc = s.cc := rfl
@[simp] theorem State.setB_qm (a : Nat) (f : Fld) (b : Bool) : (s.setB a f b).qm = s.qm := rfl
@[simp] theorem State.setB_dma (a : Nat) (f : Fld) (b : Bool) : (s.setB a f b).dma = s.dma := rfl
@[simp] theorem State.setB_fr (a : Nat) (f : Fld) (b : Bool) : (s.setB a f b).fr = s.fr := rfl
@[simp] theorem State.setB_swl (a : Nat) (f : Fld) (b : Bool) : (s.setB a f b).swl = s.swl := rfl
@[simp] theorem State.setB_std (a : Nat) (f : Fld) (b : Bool) : (s.setB a f b).std = s.std := rfl
@[simp] theorem State.setB_nvm (a : Nat) (f : Fld) (b : Bool) : (s.setB a f b).nvm = s.nvm := rfl
@[simp] theorem State.setB_av (a : Nat) (f : Fld) (b : Bool) : (s.setB a f b).av = s.av := rfl
@[simp] theorem State.setB_rst (a : Nat) (f : Fld) (b : Bool) : (s.setB a f b).rst = s.rst := rfl
@[simp] theorem State.setB_trimConflicts (a : Nat) (f : Fld) (b : Bool) : (s.setB a f b).trimConflicts = s.trimConflicts := rfl
@[simp] theorem State.setB_trims (a : Nat) (f : Fld) (b : Bool) : (s.setB a f b).trims = s.trims := rfl
@[simp] theorem State.setB_ce (a : Nat) (f : Fld) (b : Bool) : (s.setB a f b).ce = s.ce := rfl

/-! ### setBit -/

@[simp] theorem State.setBit_pending (a i : Nat) (b : Bool) : (s.setBit a i b).pending = s.pending := rfl
@[simp] theorem State.setBit_tb (a i : Nat) (b : Bool) : (s.setBit a i b).tb = s.tb := rfl
@[simp] theorem State.setBit_mem (a i : Nat) (b : Bool) : (s.setBit a i b).mem = s.mem := rfl
@[simp] theorem State.setBit_resp (a i : Nat) (b : Bool) : (s.setBit a i b).resp = s.resp := rfl
@[simp] theorem State.setBit_shadows (a i : Nat) (b : Bool) : (s.setBit a i b).shadows = s.shadows := rfl
@[simp] theorem State.setBit_mode (a i : Nat) (b : Bool) : (s.setBit a i b).mode = s.mode := rfl
@[simp] theorem State.setBit_time (a i : Nat) (b : Bool) : (s.setBit a i b).time = s.time := rfl
@[simp] theorem State.setBit_cv (a i : Nat) (b : Bool) : (s.setBit a i b).cv = s.cv := rfl
@[simp] theorem State.setBit_mon (a i : Nat) (b : Bool) : (s.setBit a i b).mon = s.mon := rfl
@[simp] theorem State.setBit_fab (a i : Nat) (b : Bool) : (s.setBit a i b).fab = s.fab := rfl
@[simp] theorem State.setBit_engs (a i : Nat) (b : Bool) : (s.setBit a i b).engs = s.engs := rfl
@[simp] theorem State.setBit_rsv (a i : Nat) (b : Bool) : (s.setBit a i b).rsv = s.rsv := rfl
@[simp] theorem State.setBit_fifos (a i : Nat) (b : Bool) : (s.setBit a i b).fifos = s.fifos := rfl
@[simp] theorem State.setBit_routed (a i : Nat) (b : Bool) : (s.setBit a i b).routed = s.routed := rfl
@[simp] theorem State.setBit_ue (a i : Nat) (b : Bool) : (s.setBit a i b).ue = s.ue := rfl
@[simp] theorem State.setBit_carried (a i : Nat) (b : Bool) : (s.setBit a i b).carried = s.carried := rfl
@[simp] theorem State.setBit_fresh (a i : Nat) (b : Bool) : (s.setBit a i b).fresh = s.fresh := rfl
@[simp] theorem State.setBit_pwm (a i : Nat) (b : Bool) : (s.setBit a i b).pwm = s.pwm := rfl
@[simp] theorem State.setBit_trip (a i : Nat) (b : Bool) : (s.setBit a i b).trip = s.trip := rfl
@[simp] theorem State.setBit_cc (a i : Nat) (b : Bool) : (s.setBit a i b).cc = s.cc := rfl
@[simp] theorem State.setBit_qm (a i : Nat) (b : Bool) : (s.setBit a i b).qm = s.qm := rfl
@[simp] theorem State.setBit_dma (a i : Nat) (b : Bool) : (s.setBit a i b).dma = s.dma := rfl
@[simp] theorem State.setBit_fr (a i : Nat) (b : Bool) : (s.setBit a i b).fr = s.fr := rfl
@[simp] theorem State.setBit_swl (a i : Nat) (b : Bool) : (s.setBit a i b).swl = s.swl := rfl
@[simp] theorem State.setBit_std (a i : Nat) (b : Bool) : (s.setBit a i b).std = s.std := rfl
@[simp] theorem State.setBit_nvm (a i : Nat) (b : Bool) : (s.setBit a i b).nvm = s.nvm := rfl
@[simp] theorem State.setBit_av (a i : Nat) (b : Bool) : (s.setBit a i b).av = s.av := rfl
@[simp] theorem State.setBit_rst (a i : Nat) (b : Bool) : (s.setBit a i b).rst = s.rst := rfl
@[simp] theorem State.setBit_trimConflicts (a i : Nat) (b : Bool) : (s.setBit a i b).trimConflicts = s.trimConflicts := rfl
@[simp] theorem State.setBit_trims (a i : Nat) (b : Bool) : (s.setBit a i b).trims = s.trims := rfl
@[simp] theorem State.setBit_cyc (a i : Nat) (b : Bool) : (s.setBit a i b).cyc = s.cyc := rfl
@[simp] theorem State.setBit_ce (a i : Nat) (b : Bool) : (s.setBit a i b).ce = s.ce := rfl

/-! ### putByte -/

@[simp] theorem State.putByte_pending (a : Nat) (b : Byte) : (s.putByte a b).pending = s.pending := rfl
@[simp] theorem State.putByte_tb (a : Nat) (b : Byte) : (s.putByte a b).tb = s.tb := rfl
@[simp] theorem State.putByte_regs (a : Nat) (b : Byte) : (s.putByte a b).regs = s.regs := rfl
@[simp] theorem State.putByte_resp (a : Nat) (b : Byte) : (s.putByte a b).resp = s.resp := rfl
@[simp] theorem State.putByte_shadows (a : Nat) (b : Byte) : (s.putByte a b).shadows = s.shadows := rfl
@[simp] theorem State.putByte_mode (a : Nat) (b : Byte) : (s.putByte a b).mode = s.mode := rfl
@[simp] theorem State.putByte_time (a : Nat) (b : Byte) : (s.putByte a b).time = s.time := rfl
@[simp] theorem State.putByte_cv (a : Nat) (b : Byte) : (s.putByte a b).cv = s.cv := rfl
@[simp] theorem State.putByte_mon (a : Nat) (b : Byte) : (s.putByte a b).mon = s.mon := rfl
@[simp] theorem State.putByte_fab (a : Nat) (b : Byte) : (s.putByte a b).fab = s.fab := rfl
@[simp] theorem State.putByte_engs (a : Nat) (b : Byte) : (s.putByte a b).engs = s.engs := rfl
@[simp] theorem State.putByte_rsv (a : Nat) (b : Byte) : (s.putByte a b).rsv = s.rsv := rfl
@[simp] theorem State.putByte_fifos (a : Nat) (b : Byte) : (s.putByte a b).fifos = s.fifos := rfl
@[simp] theorem State.putByte_routed (a : Nat) (b : Byte) : (s.putByte a b).routed = s.routed := rfl
@[simp] theorem State.putByte_ue (a : Nat) (b : Byte) : (s.putByte a b).ue = s.ue := rfl
@[simp] theorem State.putByte_carried (a : Nat) (b : Byte) : (s.putByte a b).carried = s.carried := rfl
@[simp] theorem State.putByte_fresh (a : Nat) (b : Byte) : (s.putByte a b).fresh = s.fresh := rfl
@[simp] theorem State.putByte_pwm (a : Nat) (b : Byte) : (s.putByte a b).pwm = s.pwm := rfl
@[simp] theorem State.putByte_trip (a : Nat) (b : Byte) : (s.putByte a b).trip = s.trip := rfl
@[simp] theorem State.putByte_cc (a : Nat) (b : Byte) : (s.putByte a b).cc = s.cc := rfl
@[simp] theorem State.putByte_qm (a : Nat) (b : Byte) : (s.putByte a b).qm = s.qm := rfl
@[simp] theorem State.putByte_dma (a : Nat) (b : Byte) : (s.putByte a b).dma = s.dma := rfl
@[simp] theorem State.putByte_fr (a : Nat) (b : Byte) : (s.putByte a b).fr = s.fr := rfl
@[simp] theorem State.putByte_swl (a : Nat) (b : Byte) : (s.putByte a b).swl = s.swl := rfl
@[simp] theorem State.putByte_std (a : Nat) (b : Byte) : (s.putByte a b).std = s.std := rfl
@[simp] theorem State.putByte_nvm (a : Nat) (b : Byte) : (s.putByte a b).nvm = s.nvm := rfl
@[simp] theorem State.putByte_av (a : Nat) (b : Byte) : (s.putByte a b).av = s.av := rfl
@[simp] theorem State.putByte_rst (a : Nat) (b : Byte) : (s.putByte a b).rst = s.rst := rfl
@[simp] theorem State.putByte_trimConflicts (a : Nat) (b : Byte) : (s.putByte a b).trimConflicts = s.trimConflicts := rfl
@[simp] theorem State.putByte_trims (a : Nat) (b : Byte) : (s.putByte a b).trims = s.trims := rfl
@[simp] theorem State.putByte_cyc (a : Nat) (b : Byte) : (s.putByte a b).cyc = s.cyc := rfl
@[simp] theorem State.putByte_ce (a : Nat) (b : Byte) : (s.putByte a b).ce = s.ce := rfl

/-! ### reply -/

@[simp] theorem State.reply_pending (q : Req) (err : Bool) (v : Word) : (s.reply q err v).pending = s.pending := rfl
@[simp] theorem State.reply_tb (q : Req) (err : Bool) (v : Word) : (s.reply q err v).tb = s.tb := rfl
@[simp] theorem State.reply_regs (q : Req) (err : Bool) (v : Word) : (s.reply q err v).regs = s.regs := rfl
@[simp] theorem State.reply_mem (q : Req) (err : Bool) (v : Word) : (s.reply q err v).mem = s.mem := rfl
@[simp] theorem State.reply_shadows (q : Req) (err : Bool) (v : Word) : (s.reply q err v).shadows = s.shadows := rfl
@[simp] theorem State.reply_mode (q : Req) (err : Bool) (v : Word) : (s.reply q err v).mode = s.mode := rfl
@[simp] theorem State.reply_time (q : Req) (err : Bool) (v : Word) : (s.reply q err v).time = s.time := rfl
@[simp] theorem State.reply_cv (q : Req) (err : Bool) (v : Word) : (s.reply q err v).cv = s.cv := rfl
@[simp] theorem State.reply_mon (q : Req) (err : Bool) (v : Word) : (s.reply q err v).mon = s.mon := rfl
@[simp] theorem State.reply_fab (q : Req) (err : Bool) (v : Word) : (s.reply q err v).fab = s.fab := rfl
@[simp] theorem State.reply_engs (q : Req) (err : Bool) (v : Word) : (s.reply q err v).engs = s.engs := rfl
@[simp] theorem State.reply_rsv (q : Req) (err : Bool) (v : Word) : (s.reply q err v).rsv = s.rsv := rfl
@[simp] theorem State.reply_fifos (q : Req) (err : Bool) (v : Word) : (s.reply q err v).fifos = s.fifos := rfl
@[simp] theorem State.reply_routed (q : Req) (err : Bool) (v : Word) : (s.reply q err v).routed = s.routed := rfl
@[simp] theorem State.reply_ue (q : Req) (err : Bool) (v : Word) : (s.reply q err v).ue = s.ue := rfl
@[simp] theorem State.reply_carried (q : Req) (err : Bool) (v : Word) : (s.reply q err v).carried = s.carried := rfl
@[simp] theorem State.reply_fresh (q : Req) (err : Bool) (v : Word) : (s.reply q err v).fresh = s.fresh := rfl
@[simp] theorem State.reply_pwm (q : Req) (err : Bool) (v : Word) : (s.reply q err v).pwm = s.pwm := rfl
@[simp] theorem State.reply_trip (q : Req) (err : Bool) (v : Word) : (s.reply q err v).trip = s.trip := rfl
@[simp] theorem State.reply_cc (q : Req) (err : Bool) (v : Word) : (s.reply q err v).cc = s.cc := rfl
@[simp] theorem State.reply_qm (q : Req) (err : Bool) (v : Word) : (s.reply q err v).qm = s.qm := rfl
@[simp] theorem State.reply_dma (q : Req) (err : Bool) (v : Word) : (s.reply q err v).dma = s.dma := rfl
@[simp] theorem State.reply_fr (q : Req) (err : Bool) (v : Word) : (s.reply q err v).fr = s.fr := rfl
@[simp] theorem State.reply_swl (q : Req) (err : Bool) (v : Word) : (s.reply q err v).swl = s.swl := rfl
@[simp] theorem State.reply_std (q : Req) (err : Bool) (v : Word) : (s.reply q err v).std = s.std := rfl
@[simp] theorem State.reply_nvm (q : Req) (err : Bool) (v : Word) : (s.reply q err v).nvm = s.nvm := rfl
@[simp] theorem State.reply_av (q : Req) (err : Bool) (v : Word) : (s.reply q err v).av = s.av := rfl
@[simp] theorem State.reply_rst (q : Req) (err : Bool) (v : Word) : (s.reply q err v).rst = s.rst := rfl
@[simp] theorem State.reply_trimConflicts (q : Req) (err : Bool) (v : Word) : (s.reply q err v).trimConflicts = s.trimConflicts := rfl
@[simp] theorem State.reply_trims (q : Req) (err : Bool) (v : Word) : (s.reply q err v).trims = s.trims := rfl
@[simp] theorem State.reply_cyc (q : Req) (err : Bool) (v : Word) : (s.reply q err v).cyc = s.cyc := rfl
@[simp] theorem State.reply_ce (q : Req) (err : Bool) (v : Word) : (s.reply q err v).ce = s.ce := rfl

/-! ### latch -/

@[simp] theorem State.latch_pending (a : Nat) (q : Req) (w : Word) : (s.latch a q w).pending = s.pending := rfl
@[simp] theorem State.latch_tb (a : Nat) (q : Req) (w : Word) : (s.latch a q w).tb = s.tb := rfl
@[simp] theorem State.latch_regs (a : Nat) (q : Req) (w : Word) : (s.latch a q w).regs = s.regs := rfl
@[simp] theorem State.latch_mem (a : Nat) (q : Req) (w : Word) : (s.latch a q w).mem = s.mem := rfl
@[simp] theorem State.latch_resp (a : Nat) (q : Req) (w : Word) : (s.latch a q w).resp = s.resp := rfl
@[simp] theorem State.latch_mode (a : Nat) (q : Req) (w : Word) : (s.latch a q w).mode = s.mode := rfl
@[simp] theorem State.latch_time (a : Nat) (q : Req) (w : Word) : (s.latch a q w).time = s.time := rfl
@[simp] theorem State.latch_cv (a : Nat) (q : Req) (w : Word) : (s.latch a q w).cv = s.cv := rfl
@[simp] theorem State.latch_mon (a : Nat) (q : Req) (w : Word) : (s.latch a q w).mon = s.mon := rfl
@[simp] theorem State.latch_fab (a : Nat) (q : Req) (w : Word) : (s.latch a q w).fab = s.fab := rfl
@[simp] theorem State.latch_engs (a : Nat) (q : Req) (w : Word) : (s.latch a q w).engs = s.engs := rfl
@[simp] theorem State.latch_rsv (a : Nat) (q : Req) (w : Word) : (s.latch a q w).rsv = s.rsv := rfl
@[simp] theorem State.latch_fifos (a : Nat) (q : Req) (w : Word) : (s.latch a q w).fifos = s.fifos := rfl
@[simp] theorem State.latch_routed (a : Nat) (q : Req) (w : Word) : (s.latch a q w).routed = s.routed := rfl
@[simp] theorem State.latch_ue (a : Nat) (q : Req) (w : Word) : (s.latch a q w).ue = s.ue := rfl
@[simp] theorem State.latch_carried (a : Nat) (q : Req) (w : Word) : (s.latch a q w).carried = s.carried := rfl
@[simp] theorem State.latch_fresh (a : Nat) (q : Req) (w : Word) : (s.latch a q w).fresh = s.fresh := rfl
@[simp] theorem State.latch_pwm (a : Nat) (q : Req) (w : Word) : (s.latch a q w).pwm = s.pwm := rfl
@[simp] theorem State.latch_trip (a : Nat) (q : Req) (w : Word) : (s.latch a q w).trip = s.trip := rfl
@[simp] theorem State.latch_cc (a : Nat) (q : Req) (w : Word) : (s.latch a q w).cc = s.cc := rfl
@[simp] theorem State.latch_qm (a : Nat) (q : Req) (w : Word) : (s.latch a q w).qm = s.qm := rfl
@[simp] theorem State.latch_dma (a : Nat) (q : Req) (w : Word) : (s.latch a q w).dma = s.dma := rfl
@[simp] theorem State.latch_fr (a : Nat) (q : Req) (w : Word) : (s.latch a q w).fr = s.fr := rfl
@[simp] theorem State.latch_swl (a : Nat) (q : Req) (w : Word) : (s.latch a q w).swl = s.swl := rfl
@[simp] theorem State.latch_std (a : Nat) (q : Req) (w : Word) : (s.latch a q w).std = s.std := rfl
@[simp] theorem State.latch_nvm (a : Nat) (q : Req) (w : Word) : (s.latch a q w).nvm = s.nvm := rfl
@[simp] theorem State.latch_av (a : Nat) (q : Req) (w : Word) : (s.latch a q w).av = s.av := rfl
@[simp] theorem State.latch_rst (a : Nat) (q : Req) (w : Word) : (s.latch a q w).rst = s.rst := rfl
@[simp] theorem State.latch_trimConflicts (a : Nat) (q : Req) (w : Word) : (s.latch a q w).trimConflicts = s.trimConflicts := rfl
@[simp] theorem State.latch_trims (a : Nat) (q : Req) (w : Word) : (s.latch a q w).trims = s.trims := rfl
@[simp] theorem State.latch_cyc (a : Nat) (q : Req) (w : Word) : (s.latch a q w).cyc = s.cyc := rfl
@[simp] theorem State.latch_ce (a : Nat) (q : Req) (w : Word) : (s.latch a q w).ce = s.ce := rfl

/-! ### setEng -/

@[simp] theorem State.setEng_pending (e : Nat) (x : Engine) : (s.setEng e x).pending = s.pending := rfl
@[simp] theorem State.setEng_tb (e : Nat) (x : Engine) : (s.setEng e x).tb = s.tb := rfl
@[simp] theorem State.setEng_regs (e : Nat) (x : Engine) : (s.setEng e x).regs = s.regs := rfl
@[simp] theorem State.setEng_mem (e : Nat) (x : Engine) : (s.setEng e x).mem = s.mem := rfl
@[simp] theorem State.setEng_resp (e : Nat) (x : Engine) : (s.setEng e x).resp = s.resp := rfl
@[simp] theorem State.setEng_shadows (e : Nat) (x : Engine) : (s.setEng e x).shadows = s.shadows := rfl
@[simp] theorem State.setEng_mode (e : Nat) (x : Engine) : (s.setEng e x).mode = s.mode := rfl
@[simp] theorem State.setEng_time (e : Nat) (x : Engine) : (s.setEng e x).time = s.time := rfl
@[simp] theorem State.setEng_cv (e : Nat) (x : Engine) : (s.setEng e x).cv = s.cv := rfl
@[simp] theorem State.setEng_mon (e : Nat) (x : Engine) : (s.setEng e x).mon = s.mon := rfl
@[simp] theorem State.setEng_fab (e : Nat) (x : Engine) : (s.setEng e x).fab = s.fab := rfl
@[simp] theorem State.setEng_rsv (e : Nat) (x : Engine) : (s.setEng e x).rsv = s.rsv := rfl
@[simp] theorem State.setEng_fifos (e : Nat) (x : Engine) : (s.setEng e x).fifos = s.fifos := rfl
@[simp] theorem State.setEng_routed (e : Nat) (x : Engine) : (s.setEng e x).routed = s.routed := rfl
@[simp] theorem State.setEng_ue (e : Nat) (x : Engine) : (s.setEng e x).ue = s.ue := rfl
@[simp] theorem State.setEng_carried (e : Nat) (x : Engine) : (s.setEng e x).carried = s.carried := rfl
@[simp] theorem State.setEng_fresh (e : Nat) (x : Engine) : (s.setEng e x).fresh = s.fresh := rfl
@[simp] theorem State.setEng_pwm (e : Nat) (x : Engine) : (s.setEng e x).pwm = s.pwm := rfl
@[simp] theorem State.setEng_trip (e : Nat) (x : Engine) : (s.setEng e x).trip = s.trip := rfl
@[simp] theorem State.setEng_cc (e : Nat) (x : Engine) : (s.setEng e x).cc = s.cc := rfl
@[simp] theorem State.setEng_qm (e : Nat) (x : Engine) : (s.setEng e x).qm = s.qm := rfl
@[simp] theorem State.setEng_dma (e : Nat) (x : Engine) : (s.setEng e x).dma = s.dma := rfl
@[simp] theorem State.setEng_fr (e : Nat) (x : Engine) : (s.setEng e x).fr = s.fr := rfl
@[simp] theorem State.setEng_swl (e : Nat) (x : Engine) : (s.setEng e x).swl = s.swl := rfl
@[simp] theorem State.setEng_std (e : Nat) (x : Engine) : (s.setEng e x).std = s.std := rfl
@[simp] theorem State.setEng_nvm (e : Nat) (x : Engine) : (s.setEng e x).nvm = s.nvm := rfl
@[simp] theorem State.setEng_av (e : Nat) (x : Engine) : (s.setEng e x).av = s.av := rfl
@[simp] theorem State.setEng_rst (e : Nat) (x : Engine) : (s.setEng e x).rst = s.rst := rfl
@[simp] theorem State.setEng_trimConflicts (e : Nat) (x : Engine) : (s.setEng e x).trimConflicts = s.trimConflicts := rfl
@[simp] theorem State.setEng_trims (e : Nat) (x : Engine) : (s.setEng e x).trims = s.trims := rfl
@[simp] theorem State.setEng_cyc (e : Nat) (x : Engine) : (s.setEng e x).cyc = s.cyc := rfl
@[simp] theorem State.setEng_ce (e : Nat) (x : Engine) : (s.setEng e x).ce = s.ce := rfl

/-! ### setFifo -/

@[simp] theorem State.setFifo_pending (i j : Nat) (l : List Xfer) : (s.setFifo i j l).pending = s.pending := rfl
@[simp] theorem State.setFifo_tb (i j : Nat) (l : List Xfer) : (s.setFifo i j l).tb = s.tb := rfl
@[simp] theorem State.setFifo_regs (i j : Nat) (l : List Xfer) : (s.setFifo i j l).regs = s.regs := rfl
@[simp] theorem State.setFifo_mem (i j : Nat) (l : List Xfer) : (s.setFifo i j l).mem = s.mem := rfl
@[simp] theorem State.setFifo_resp (i j : Nat) (l : List Xfer) : (s.setFifo i j l).resp = s.resp := rfl
@[simp] theorem State.setFifo_shadows (i j : Nat) (l : List Xfer) : (s.setFifo i j l).shadows = s.shadows := rfl
@[simp] theorem State.setFifo_mode (i j : Nat) (l : List Xfer) : (s.setFifo i j l).mode = s.mode := rfl
@[simp] theorem State.setFifo_time (i j : Nat) (l : List Xfer) : (s.setFifo i j l).time = s.time := rfl
@[simp] theorem State.setFifo_cv (i j : Nat) (l : List Xfer) : (s.setFifo i j l).cv = s.cv := rfl
@[simp] theorem State.setFifo_mon (i j : Nat) (l : List Xfer) : (s.setFifo i j l).mon = s.mon := rfl
@[simp] theorem State.setFifo_fab (i j : Nat) (l : List Xfer) : (s.setFifo i j l).fab = s.fab := rfl
@[simp] theorem State.setFifo_rsv (i j : Nat) (l : List Xfer) : (s.setFifo i j l).rsv = s.rsv := rfl
@[simp] theorem State.setFifo_routed (i j : Nat) (l : List Xfer) : (s.setFifo i j l).routed = s.routed := rfl
@[simp] theorem State.setFifo_ue (i j : Nat) (l : List Xfer) : (s.setFifo i j l).ue = s.ue := rfl
@[simp] theorem State.setFifo_carried (i j : Nat) (l : List Xfer) : (s.setFifo i j l).carried = s.carried := rfl
@[simp] theorem State.setFifo_fresh (i j : Nat) (l : List Xfer) : (s.setFifo i j l).fresh = s.fresh := rfl
@[simp] theorem State.setFifo_pwm (i j : Nat) (l : List Xfer) : (s.setFifo i j l).pwm = s.pwm := rfl
@[simp] theorem State.setFifo_trip (i j : Nat) (l : List Xfer) : (s.setFifo i j l).trip = s.trip := rfl
@[simp] theorem State.setFifo_cc (i j : Nat) (l : List Xfer) : (s.setFifo i j l).cc = s.cc := rfl
@[simp] theorem State.setFifo_qm (i j : Nat) (l : List Xfer) : (s.setFifo i j l).qm = s.qm := rfl
@[simp] theorem State.setFifo_dma (i j : Nat) (l : List Xfer) : (s.setFifo i j l).dma = s.dma := rfl
@[simp] theorem State.setFifo_fr (i j : Nat) (l : List Xfer) : (s.setFifo i j l).fr = s.fr := rfl
@[simp] theorem State.setFifo_swl (i j : Nat) (l : List Xfer) : (s.setFifo i j l).swl = s.swl := rfl
@[simp] theorem State.setFifo_std (i j : Nat) (l : List Xfer) : (s.setFifo i j l).std = s.std := rfl
@[simp] theorem State.setFifo_nvm (i j : Nat) (l : List Xfer) : (s.setFifo i j l).nvm = s.nvm := rfl
@[simp] theorem State.setFifo_av (i j : Nat) (l : List Xfer) : (s.setFifo i j l).av = s.av := rfl
@[simp] theorem State.setFifo_rst (i j : Nat) (l : List Xfer) : (s.setFifo i j l).rst = s.rst := rfl
@[simp] theorem State.setFifo_trimConflicts (i j : Nat) (l : List Xfer) : (s.setFifo i j l).trimConflicts = s.trimConflicts := rfl
@[simp] theorem State.setFifo_trims (i j : Nat) (l : List Xfer) : (s.setFifo i j l).trims = s.trims := rfl
@[simp] theorem State.setFifo_cyc (i j : Nat) (l : List Xfer) : (s.setFifo i j l).cyc = s.cyc := rfl
@[simp] theorem State.setFifo_ce (i j : Nat) (l : List Xfer) : (s.setFifo i j l).ce = s.ce := rfl
@[simp] theorem State.setFifo_engs (i j : Nat) (l : List Xfer) : (s.setFifo i j l).engs = s.engs := rfl

/-! ### setConv -/

@[simp] theorem State.setConv_pending (k : Nat) (x : Conv) : (s.setConv k x).pending = s.pending := rfl
@[simp] theorem State.setConv_tb (k : Nat) (x : Conv) : (s.setConv k x).tb = s.tb := rfl
@[simp] theorem State.setConv_regs (k : Nat) (x : Conv) : (s.setConv k x).regs = s.regs := rfl
@[simp] theorem State.setConv_mem (k : Nat) (x : Conv) : (s.setConv k x).mem = s.mem := rfl
@[simp] theorem State.setConv_resp (k : Nat) (x : Conv) : (s.setConv k x).resp = s.resp := rfl
@[simp] theorem State.setConv_shadows (k : Nat) (x : Conv) : (s.setConv k x).shadows = s.shadows := rfl
@[simp] theorem State.setConv_mode (k : Nat) (x : Conv) : (s.setConv k x).mode = s.mode := rfl
@[simp] theorem State.setConv_time (k : Nat) (x : Conv) : (s.setConv k x).time = s.time := rfl
@[simp] theorem State.setConv_mon (k : Nat) (x : Conv) : (s.setConv k x).mon = s.mon := rfl
@[simp] theorem State.setConv_fab (k : Nat) (x : Conv) : (s.setConv k x).fab = s.fab := rfl
@[simp] theorem State.setConv_engs (k : Nat) (x : Conv) : (s.setConv k x).engs = s.engs := rfl
@[simp] theorem State.setConv_rsv (k : Nat) (x : Conv) : (s.setConv k x).rsv = s.rsv := rfl
@[simp] theorem State.setConv_fifos (k : Nat) (x : Conv) : (s.setConv k x).fifos = s.fifos := rfl
@[simp] theorem State.setConv_routed (k : Nat) (x : Conv) : (s.setConv k x).routed = s.routed := rfl
@[simp] theorem State.setConv_ue (k : Nat) (x : Conv) : (s.setConv k x).ue = s.ue := rfl
@[simp] theorem State.setConv_carried (k : Nat) (x : Conv) : (s.setConv k x).carried = s.carried := rfl
@[simp] theorem State.setConv_fresh (k : Nat) (x : Conv) : (s.setConv k x).fresh = s.fresh := rfl
@[simp] theorem State.setConv_pwm (k : Nat) (x : Conv) : (s.setConv k x).pwm = s.pwm := rfl
@[simp] theorem State.setConv_trip (k : Nat) (x : Conv) : (s.setConv k x).trip = s.trip := rfl
@[simp] theorem State.setConv_cc (k : Nat) (x : Conv) : (s.setConv k x).cc = s.cc := rfl
@[simp] theorem State.setConv_qm (k : Nat) (x : Conv) : (s.setConv k x).qm = s.qm := rfl
@[simp] theorem State.setConv_dma (k : Nat) (x : Conv) : (s.setConv k x).dma = s.dma := rfl
@[simp] theorem State.setConv_fr (k : Nat) (x : Conv) : (s.setConv k x).fr = s.fr := rfl
@[simp] theorem State.setConv_swl (k : Nat) (x : Conv) : (s.setConv k x).swl = s.swl := rfl
@[simp] theorem State.setConv_std (k : Nat) (x : Conv) : (s.setConv k x).std = s.std := rfl
@[simp] theorem State.setConv_nvm (k : Nat) (x : Conv) : (s.setConv k x).nvm = s.nvm := rfl
@[simp] theorem State.setConv_av (k : Nat) (x : Conv) : (s.setConv k x).av = s.av := rfl
@[simp] theorem State.setConv_rst (k : Nat) (x : Conv) : (s.setConv k x).rst = s.rst := rfl
@[simp] theorem State.setConv_trimConflicts (k : Nat) (x : Conv) : (s.setConv k x).trimConflicts = s.trimConflicts := rfl
@[simp] theorem State.setConv_trims (k : Nat) (x : Conv) : (s.setConv k x).trims = s.trims := rfl
@[simp] theorem State.setConv_cyc (k : Nat) (x : Conv) : (s.setConv k x).cyc = s.cyc := rfl
@[simp] theorem State.setConv_ce (k : Nat) (x : Conv) : (s.setConv k x).ce = s.ce := rfl

/-! ### setGroup -/

@[simp] theorem State.setGroup_pending (g : Nat) (x : Group) : (s.setGroup g x).pending = s.pending := rfl
@[simp] theorem State.setGroup_tb (g : Nat) (x : Group) : (s.setGroup g x).tb = s.tb := rfl
@[simp] theorem State.setGroup_regs (g : Nat) (x : Group) : (s.setGroup g x).regs = s.regs := rfl
@[simp] theorem State.setGroup_mem (g : Nat) (x : Group) : (s.setGroup g x).mem = s.mem := rfl
@[simp] theorem State.setGroup_resp (g : Nat) (x : Group) : (s.setGroup g x).resp = s.resp := rfl
@[simp] theorem State.setGroup_shadows (g : Nat) (x : Group) : (s.setGroup g x).shadows = s.shadows := rfl
@[simp] theorem State.setGroup_mode (g : Nat) (x : Group) : (s.setGroup g x).mode = s.mode := rfl
@[simp] theorem State.setGroup_time (g : Nat) (x : Group) : (s.setGroup g x).time = s.time := rfl
@[simp] theorem State.setGroup_mon (g : Nat) (x : Group) : (s.setGroup g x).mon = s.mon := rfl
@[simp] theorem State.setGroup_fab (g : Nat) (x : Group) : (s.setGroup g x).fab = s.fab := rfl
@[simp] theorem State.setGroup_engs (g : Nat) (x : Group) : (s.setGroup g x).engs = s.engs := rfl
@[simp] theorem State.setGroup_rsv (g : Nat) (x : Group) : (s.setGroup g x).rsv = s.rsv := rfl
@[simp] theorem State.setGroup_fifos (g : Nat) (x : Group) : (s.setGroup g x).fifos = s.fifos := rfl
@[simp] theorem State.setGroup_routed (g : Nat) (x : Group) : (s.setGroup g x).routed = s.routed := rfl
@[simp] theorem State.setGroup_ue (g : Nat) (x : Group) : (s.setGroup g x).ue = s.ue := rfl
@[simp] theorem State.setGroup_carried (g : Nat) (x : Group) : (s.setGroup g x).carried = s.carried := rfl
@[simp] theorem State.setGroup_fresh (g : Nat) (x : Group) : (s.setGroup g x).fresh = s.fresh := rfl
@[simp] theorem State.setGroup_pwm (g : Nat) (x : Group) : (s.setGroup g x).pwm = s.pwm := rfl
@[simp] theorem State.setGroup_trip (g : Nat) (x : Group) : (s.setGroup g x).trip = s.trip := rfl
@[simp] theorem State.setGroup_cc (g : Nat) (x : Group) : (s.setGroup g x).cc = s.cc := rfl
@[simp] theorem State.setGroup_qm (g : Nat) (x : Group) : (s.setGroup g x).qm = s.qm := rfl
@[simp] theorem State.setGroup_dma (g : Nat) (x : Group) : (s.setGroup g x).dma = s.dma := rfl
@[simp] theorem State.setGroup_fr (g : Nat) (x : Group) : (s.setGroup g x).fr = s.fr := rfl
@[simp] theorem State.setGroup_swl (g : Nat) (x : Group) : (s.setGroup g x).swl = s.swl := rfl
@[simp] theorem State.setGroup_std (g : Nat) (x : Group) : (s.setGroup g x).std = s.std := rfl
@[simp] theorem State.setGroup_nvm (g : Nat) (x : Group) : (s.setGroup g x).nvm = s.nvm := rfl
@[simp] theorem State.setGroup_av (g : Nat) (x : Group) : (s.setGroup g x).av = s.av := rfl
@[simp] theorem State.setGroup_rst (g : Nat) (x : Group) : (s.setGroup g x).rst = s.rst := rfl
@[simp] theorem State.setGroup_trimConflicts (g : Nat) (x : Group) : (s.setGroup g x).trimConflicts = s.trimConflicts := rfl
@[simp] theorem State.setGroup_trims (g : Nat) (x : Group) : (s.setGroup g x).trims = s.trims := rfl
@[simp] theorem State.setGroup_cyc (g : Nat) (x : Group) : (s.setGroup g x).cyc = s.cyc := rfl
@[simp] theorem State.setGroup_ce (g : Nat) (x : Group) : (s.setGroup g x).ce = s.ce := rfl

/-! ### setSdm -/

@[simp] theorem State.setSdm_pending (k : Nat) (x : Sdm) : (s.setSdm k x).pending = s.pending := rfl
@[simp] theorem State.setSdm_tb (k : Nat) (x : Sdm) : (s.setSdm k x).tb = s.tb := rfl
@[simp] theorem State.setSdm_regs (k : Nat) (x : Sdm) : (s.setSdm k x).regs = s.regs := rfl
@[simp] theorem State.setSdm_mem (k : Nat) (x : Sdm) : (s.setSdm k x).mem = s.mem := rfl
@[simp] theorem State.setSdm_resp (k : Nat) (x : Sdm) : (s.setSdm k x).resp = s.resp := rfl
@[simp] theorem State.setSdm_shadows (k : Nat) (x : Sdm) : (s.setSdm k x).shadows = s.shadows := rfl
@[simp] theorem State.setSdm_mode (k : Nat) (x : Sdm) : (s.setSdm k x).mode = s.mode := rfl
@[simp] theorem State.setSdm_time (k : Nat) (x : Sdm) : (s.setSdm k x).time = s.time := rfl
@[simp] theorem State.setSdm_mon (k : Nat) (x : Sdm) : (s.setSdm k x).mon = s.mon := rfl
@[simp] theorem State.setSdm_fab (k : Nat) (x : Sdm) : (s.setSdm k x).fab = s.fab := rfl
@[simp] theorem State.setSdm_engs (k : Nat) (x : Sdm) : (s.setSdm k x).engs = s.engs := rfl
@[simp] theorem State.setSdm_rsv (k : Nat) (x : Sdm) : (s.setSdm k x).rsv = s.rsv := rfl
@[simp] theorem State.setSdm_fifos (k : Nat) (x : Sdm) : (s.setSdm k x).fifos = s.fifos := rfl
@[simp] theorem State.setSdm_routed (k : Nat) (x : Sdm) : (s.setSdm k x).routed = s.routed := rfl
@[simp] theorem State.setSdm_ue (k : Nat) (x : Sdm) : (s.setSdm k x).ue = s.ue := rfl
@[simp] theorem State.setSdm_carried (k : Nat) (x : Sdm) : (s.setSdm k x).carried = s.carried := rfl
@[simp] theorem State.setSdm_fresh (k : Nat) (x : Sdm) : (s.setSdm k x).fresh = s.fresh := rfl
@[simp] theorem State.setSdm_pwm (k : Nat) (x : Sdm) : (s.setSdm k x).pwm = s.pwm := rfl
@[simp] theorem State.setSdm_trip (k : Nat) (x : Sdm) : (s.setSdm k x).trip = s.trip := rfl
@[simp] theorem State.setSdm_cc (k : Nat) (x : Sdm) : (s.setSdm k x).cc = s.cc := rfl
@[simp] theorem State.setSdm_qm (k : Nat) (x : Sdm) : (s.setSdm k x).qm = s.qm := rfl
@[simp] theorem State.setSdm_dma (k : Nat) (x : Sdm) : (s.setSdm k x).dma = s.dma := rfl
@[simp] theorem State.setSdm_fr (k : Nat) (x : Sdm) : (s.setSdm k x).fr = s.fr := rfl
@[simp] theorem State.setSdm_swl (k : Nat) (x : Sdm) : (s.setSdm k x).swl = s.swl := rfl
@[simp] theorem State.setSdm_std (k : Nat) (x : Sdm) : (s.setSdm k x).std = s.std := rfl
@[simp] theorem State.setSdm_nvm (k : Nat) (x : Sdm) : (s.setSdm k x).nvm = s.nvm := rfl
@[simp] theorem State.setSdm_av (k : Nat) (x : Sdm) : (s.setSdm k x).av = s.av := rfl
@[simp] theorem State.setSdm_rst (k : Nat) (x : Sdm) : (s.setSdm k x).rst = s.rst := rfl
@[simp] theorem State.setSdm_trimConflicts (k : Nat) (x : Sdm) : (s.setSdm k x).trimConflicts = s.trimConflicts := rfl
@[simp] theorem State.setSdm_trims (k : Nat) (x : Sdm) : (s.setSdm k x).trims = s.trims := rfl
@[simp] theorem State.setSdm_cyc (k : Nat) (x : Sdm) : (s.setSdm k x).cyc = s.cyc := rfl
@[simp] theorem State.setSdm_ce (k : Nat) (x : Sdm) : (s.setSdm k x).ce = s.ce := rfl

/-! ### setComp -/

@[simp] theorem State.setComp_pending (i : Nat) (x : Comp) : (s.setComp i x).pending = s.pending := rfl
@[simp] theorem State.setComp_tb (i : Nat) (x : Comp) : (s.setComp i x).tb = s.tb := rfl
@[simp] theorem State.setComp_regs (i : Nat) (x : Comp) : (s.setComp i x).regs = s.regs := rfl
@[simp] theorem State.setComp_mem (i : Nat) (x : Comp) : (s.setComp i x).mem = s.mem := rfl
@[simp] theorem State.setComp_resp (i : Nat) (x : Comp) : (s.setComp i x).resp = s.resp := rfl
@[simp] theorem State.setComp_shadows (i : Nat) (x : Comp) : (s.setComp i x).shadows = s.shadows := rfl
@[simp] theorem State.setComp_mode (i : Nat) (x : Comp) : (s.setComp i x).mode = s.mode := rfl
@[simp] theorem State.setComp_time (i : Nat) (x : Comp) : (s.setComp i x).time = s.time := rfl
@[simp] theorem State.setComp_cv (i : Nat) (x : Comp) : (s.setComp i x).cv = s.cv := rfl
@[simp] theorem State.setComp_fab (i : Nat) (x : Comp) : (s.setComp i x).fab = s.fab := rfl
@[simp] theorem State.setComp_engs (i : Nat) (x : Comp) : (s.setComp i x).engs = s.engs := rfl
@[simp] theorem State.setComp_rsv (i : Nat) (x : Comp) : (s.setComp i x).rsv = s.rsv := rfl
@[simp] theorem State.setComp_fifos (i : Nat) (x : Comp) : (s.setComp i x).fifos = s.fifos := rfl
@[simp] theorem State.setComp_routed (i : Nat) (x : Comp) : (s.setComp i x).routed = s.routed := rfl
@[simp] theorem State.setComp_ue (i : Nat) (x : Comp) : (s.setComp i x).ue = s.ue := rfl
@[simp] theorem State.setComp_carried (i : Nat) (x : Comp) : (s.setComp i x).carried = s.carried := rfl
@[simp] theorem State.setComp_fresh (i : Nat) (x : Comp) : (s.setComp i x).fresh = s.fresh := rfl
@[simp] theorem State.setComp_pwm (i : Nat) (x : Comp) : (s.setComp i x).pwm = s.pwm := rfl
@[simp] theorem State.setComp_trip (i : Nat) (x : Comp) : (s.setComp i x).trip = s.trip := rfl
@[simp] theorem State.setComp_cc (i : Nat) (x : Comp) : (s.setComp i x).cc = s.cc := rfl
@[simp] theorem State.setComp_qm (i : Nat) (x : Comp) : (s.setComp i x).qm = s.qm := rfl
@[simp] theorem State.setComp_dma (i : Nat) (x : Comp) : (s.setComp i x).dma = s.dma := rfl
@[simp] theorem State.setComp_fr (i : Nat) (x : Comp) : (s.setComp i x).fr = s.fr := rfl
@[simp] theorem State.setComp_swl (i : Nat) (x : Comp) : (s.setComp i x).swl = s.swl := rfl
@[simp] theorem State.setComp_std (i : Nat) (x : Comp) : (s.setComp i x).std = s.std := rfl
@[simp] theorem State.setComp_nvm (i : Nat) (x : Comp) : (s.setComp i x).nvm = s.nvm := rfl
@[simp] theorem State.setComp_av (i : Nat) (x : Comp) : (s.setComp i x).av = s.av := rfl
@[simp] theorem State.setComp_rst (i : Nat) (x : Comp) : (s.setComp i x).rst = s.rst := rfl
@[simp] theorem State.setComp_trimConflicts (i : Nat) (x : Comp) : (s.setComp i x).trimConflicts = s.trimConflicts := rfl
@[simp] theorem State.setComp_trims (i : Nat) (x : Comp) : (s.setComp i x).trims = s.trims := rfl
@[simp] theorem State.setComp_cyc (i : Nat) (x : Comp) : (s.setComp i x).cyc = s.cyc := rfl
@[simp] theorem State.setComp_ce (i : Nat) (x : Comp) : (s.setComp i x).ce = s.ce := rfl

/-! ### setWin -/

@[simp] theorem State.setWin_pending (w : Nat) (x : Window) : (s.setWin w x).pending = s.pending := rfl
@[simp] theorem State.setWin_tb (w : Nat) (x : Window) : (s.setWin w x).tb = s.tb := rfl
@[simp] theorem State.setWin_regs (w : Nat) (x : Window) : (s.setWin w x).regs = s.regs := rfl
@[simp] theorem State.setWin_mem (w : Nat) (x : Window) : (s.setWin w x).mem = s.mem := rfl
@[simp] theorem State.setWin_resp (w : Nat) (x : Window) : (s.setWin w x).resp = s.resp := rfl
@[simp] theorem State.setWin_shadows (w : Nat) (x : Window) : (s.setWin w x).shadows = s.shadows := rfl
@[simp] theorem State.setWin_mode (w : Nat) (x : Window) : (s.setWin w x).mode = s.mode := rfl
@[simp] theorem State.setWin_time (w : Nat) (x : Window) : (s.setWin w x).time = s.time := rfl
@[simp] theorem State.setWin_cv (w : Nat) (x : Window) : (s.setWin w x).cv = s.cv := rfl
@[simp] theorem State.setWin_fab (w : Nat) (x : Window) : (s.setWin w x).fab = s.fab := rfl
@[simp] theorem State.setWin_engs (w : Nat) (x : Window) : (s.setWin w x).engs = s.engs := rfl
@[simp] theorem State.setWin_rsv (w : Nat) (x : Window) : (s.setWin w x).rsv = s.rsv := rfl
@[simp] theorem State.setWin_fifos (w : Nat) (x : Window) : (s.setWin w x).fifos = s.fifos := rfl
@[simp] theorem State.setWin_routed (w : Nat) (x : Window) : (s.setWin w x).routed = s.routed := rfl
@[simp] theorem State.setWin_ue (w : Nat) (x : Window) : (s.setWin w x).ue = s.ue := rfl
@[simp] theorem State.setWin_carried (w : Nat) (x : Window) : (s.setWin w x).carried = s.carried := rfl
@[simp] theorem State.setWin_fresh (w : Nat) (x : Window) : (s.setWin w x).fresh = s.fresh := rfl
@[simp] theorem State.setWin_pwm (w : Nat) (x : Window) : (s.setWin w x).pwm = s.pwm := rfl
@[simp] theorem State.setWin_trip (w : Nat) (x : Window) : (s.setWin w x).trip = s.trip := rfl
@[simp] theorem State.setWin_cc (w : Nat) (x : Window) : (s.setWin w x).cc = s.cc := rfl
@[simp] theorem State.setWin_qm (w : Nat) (x : Window) : (s.setWin w x).qm = s.qm := rfl
@[simp] theorem State.setWin_dma (w : Nat) (x : Window) : (s.setWin w x).dma = s.dma := rfl
@[simp] theorem State.setWin_fr (w : Nat) (x : Window) : (s.setWin w x).fr = s.fr := rfl
@[simp] theorem State.setWin_swl (w : Nat) (x : Window) : (s.setWin w x).swl = s.swl := rfl
@[simp] theorem State.setWin_std (w : Nat) (x : Window) : (s.setWin w x).std = s.std := rfl
@[simp] theorem State.setWin_nvm (w : Nat) (x : Window) : (s.setWin w x).nvm = s.nvm := rfl
@[simp] theorem State.setWin_av (w : Nat) (x : Window) : (s.setWin w x).av = s.av := rfl
@[simp] theorem State.setWin_rst (w : Nat) (x : Window) : (s.setWin w x).rst = s.rst := rfl
@[simp] theorem State.setWin_trimConflicts (w : Nat) (x : Window) : (s.setWin w x).trimConflicts = s.trimConflicts := rfl
@[simp] theorem State.setWin_trims (w : Nat) (x : Window) : (s.setWin w x).trims = s.trims := rfl
@[simp] theorem State.setWin_cyc (w : Nat) (x : Window) : (s.setWin w x).cyc = s.cyc := rfl
@[simp] theorem State.setWin_ce (w : Nat) (x : Window) : (s.setWin w x).ce = s.ce := rfl

/-! ### setSlice -/

@[simp] theorem State.setSlice_pending (n : Nat) (x : Slice) : (s.setSlice n x).pending = s.pending := rfl
@[simp] theorem State.setSlice_tb (n : Nat) (x : Slice) : (s.setSlice n x).tb = s.tb := rfl
@[simp] theorem State.setSlice_regs (n : Nat) (x : Slice) : (s.setSlice n x).regs = s.regs := rfl
@[simp] theorem State.setSlice_mem (n : Nat) (x : Slice) : (s.setSlice n x).mem = s.mem := rfl
@[simp] theorem State.setSlice_resp (n : Nat) (x : Slice) : (s.setSlice n x).resp = s.resp := rfl
@[simp] theorem State.setSlice_shadows (n : Nat) (x : Slice) : (s.setSlice n x).shadows = s.shadows := rfl
@[simp] theorem State.setSlice_mode (n : Nat) (x : Slice) : (s.setSlice n x).mode = s.mode := rfl
@[simp] theorem State.setSlice_time (n : Nat) (x : Slice) : (s.setSlice n x).time = s.time := rfl
@[simp] theorem State.setSlice_cv (n : Nat) (x : Slice) : (s.setSlice n x).cv = s.cv := rfl
@[simp] theorem State.setSlice_mon (n : Nat) (x : Slice) : (s.setSlice n x).mon = s.mon := rfl
@[simp] theorem State.setSlice_fab (n : Nat) (x : Slice) : (s.setSlice n x).fab = s.fab := rfl
@[simp] theorem State.setSlice_engs (n : Nat) (x : Slice) : (s.setSlice n x).engs = s.engs := rfl
@[simp] theorem State.setSlice_rsv (n : Nat) (x : Slice) : (s.setSlice n x).rsv = s.rsv := rfl
@[simp] theorem State.setSlice_fifos (n : Nat) (x : Slice) : (s.setSlice n x).fifos = s.fifos := rfl
@[simp] theorem State.setSlice_routed (n : Nat) (x : Slice) : (s.setSlice n x).routed = s.routed := rfl
@[simp] theorem State.setSlice_ue (n : Nat) (x : Slice) : (s.setSlice n x).ue = s.ue := rfl
@[simp] theorem State.setSlice_carried (n : Nat) (x : Slice) : (s.setSlice n x).carried = s.carried := rfl
@[simp] theorem State.setSlice_fresh (n : Nat) (x : Slice) : (s.setSlice n x).fresh = s.fresh := rfl
@[simp] theorem State.setSlice_trip (n : Nat) (x : Slice) : (s.setSlice n x).trip = s.trip := rfl
@[simp] theorem State.setSlice_cc (n : Nat) (x : Slice) : (s.setSlice n x).cc = s.cc := rfl
@[simp] theorem State.setSlice_qm (n : Nat) (x : Slice) : (s.setSlice n x).qm = s.qm := rfl
@[simp] theorem State.setSlice_dma (n : Nat) (x : Slice) : (s.setSlice n x).dma = s.dma := rfl
@[simp] theorem State.setSlice_fr (n : Nat) (x : Slice) : (s.setSlice n x).fr = s.fr := rfl
@[simp] theorem State.setSlice_swl (n : Nat) (x : Slice) : (s.setSlice n x).swl = s.swl := rfl
@[simp] theorem State.setSlice_std (n : Nat) (x : Slice) : (s.setSlice n x).std = s.std := rfl
@[simp] theorem State.setSlice_nvm (n : Nat) (x : Slice) : (s.setSlice n x).nvm = s.nvm := rfl
@[simp] theorem State.setSlice_av (n : Nat) (x : Slice) : (s.setSlice n x).av = s.av := rfl
@[simp] theorem State.setSlice_rst (n : Nat) (x : Slice) : (s.setSlice n x).rst = s.rst := rfl
@[simp] theorem State.setSlice_trimConflicts (n : Nat) (x : Slice) : (s.setSlice n x).trimConflicts = s.trimConflicts := rfl
@[simp] theorem State.setSlice_trims (n : Nat) (x : Slice) : (s.setSlice n x).trims = s.trims := rfl
@[simp] theorem State.setSlice_cyc (n : Nat) (x : Slice) : (s.setSlice n x).cyc = s.cyc := rfl
@[simp] theorem State.setSlice_ce (n : Nat) (x : Slice) : (s.setSlice n x).ce = s.ce := rfl

/-! ### setZone -/

@[simp] theorem State.setZone_pending (z : Nat) (x : Zone) : (s.setZone z x).pending = s.pending := rfl
@[simp] theorem State.setZone_tb (z : Nat) (x : Zone) : (s.setZone z x).tb = s.tb := rfl
@[simp] theorem State.setZone_regs (z : Nat) (x : Zone) : (s.setZone z x).regs = s.regs := rfl
@[simp] theorem State.setZone_mem (z : Nat) (x : Zone) : (s.setZone z x).mem = s.mem := rfl
@[simp] theorem State.setZone_resp (z : Nat) (x : Zone) : (s.setZone z x).resp = s.resp := rfl
@[simp] theorem State.setZone_shadows (z : Nat) (x : Zone) : (s.setZone z x).shadows = s.shadows := rfl
@[simp] theorem State.setZone_mode (z : Nat) (x : Zone) : (s.setZone z x).mode = s.mode := rfl
@[simp] theorem State.setZone_time (z : Nat) (x : Zone) : (s.setZone z x).time = s.time := rfl
@[simp] theorem State.setZone_cv (z : Nat) (x : Zone) : (s.setZone z x).cv = s.cv := rfl
@[simp] theorem State.setZone_mon (z : Nat) (x : Zone) : (s.setZone z x).mon = s.mon := rfl
@[simp] theorem State.setZone_fab (z : Nat) (x : Zone) : (s.setZone z x).fab = s.fab := rfl
@[simp] theorem State.setZone_engs (z : Nat) (x : Zone) : (s.setZone z x).engs = s.engs := rfl
@[simp] theorem State.setZone_rsv (z : Nat) (x : Zone) : (s.setZone z x).rsv = s.rsv := rfl
@[simp] theorem State.setZone_fifos (z : Nat) (x : Zone) : (s.setZone z x).fifos = s.fifos := rfl
@[simp] theorem State.setZone_routed (z : Nat) (x : Zone) : (s.setZone z x).routed = s.routed := rfl
@[simp] theorem State.setZone_ue (z : Nat) (x : Zone) : (s.setZone z x).ue = s.ue := rfl
@[simp] theorem State.setZone_carried (z : Nat) (x : Zone) : (s.setZone z x).carried = s.carried := rfl
@[simp] theorem State.setZone_fresh (z : Nat) (x : Zone) : (s.setZone z x).fresh = s.fresh := rfl
@[simp] theorem State.setZone_pwm (z : Nat) (x : Zone) : (s.setZone z x).pwm = s.pwm := rfl
@[simp] theorem State.setZone_cc (z : Nat) (x : Zone) : (s.setZone z x).cc = s.cc := rfl
@[simp] theorem State.setZone_qm (z : Nat) (x : Zone) : (s.setZone z x).qm = s.qm := rfl
@[simp] theorem State.setZone_dma (z : Nat) (x : Zone) : (s.setZone z x).dma = s.dma := rfl
@[simp] theorem State.setZone_fr (z : Nat) (x : Zone) : (s.setZone z x).fr = s.fr := rfl
@[simp] theorem State.setZone_swl (z : Nat) (x : Zone) : (s.setZone z x).swl = s.swl := rfl
@[simp] theorem State.setZone_std (z : Nat) (x : Zone) : (s.setZone z x).std = s.std := rfl
@[simp] theorem State.setZone_nvm (z : Nat) (x : Zone) : (s.setZone z x).nvm = s.nvm := rfl
@[simp] theorem State.setZone_av (z : Nat) (x : Zone) : (s.setZone z x).av = s.av := rfl
@[simp] theorem State.setZone_rst (z : Nat) (x : Zone) : (s.setZone z x).rst = s.rst := rfl
@[simp] theorem State.setZone_trimConflicts (z : Nat) (x : Zone) : (s.setZone z x).trimConflicts = s.trimConflicts := rfl
@[simp] theorem State.setZone_trims (z : Nat) (x : Zone) : (s.setZone z x).trims = s.trims := rfl
@[simp] theorem State.setZone_cyc (z : Nat) (x : Zone) : (s.setZone z x).cyc = s.cyc := rfl
@[simp] theorem State.setZone_ce (z : Nat) (x : Zone) : (s.setZone z x).ce = s.ce := rfl

/-! ### setFrPort -/

@[simp] theorem State.setFrPort_pending (p : Nat) (x : FrPort) : (s.setFrPort p x).pending = s.pending := rfl
@[simp] theorem State.setFrPort_tb (p : Nat) (x : FrPort) : (s.setFrPort p x).tb = s.tb := rfl
@[simp] theorem State.setFrPort_regs (p : Nat) (x : FrPort) : (s.setFrPort p x).regs = s.regs := rfl
@[simp] theorem State.setFrPort_mem (p : Nat) (x : FrPort) : (s.setFrPort p x).mem = s.mem := rfl
@[simp] theorem State.setFrPort_resp (p : Nat) (x : FrPort) : (s.setFrPort p x).resp = s.resp := rfl
@[simp] theorem State.setFrPort_shadows (p : Nat) (x : FrPort) : (s.setFrPort p x).shadows = s.shadows := rfl
@[simp] theorem State.setFrPort_mode (p : Nat) (x : FrPort) : (s.setFrPort p x).mode = s.mode := rfl
@[simp] theorem State.setFrPort_time (p : Nat) (x : FrPort) : (s.setFrPort p x).time = s.time := rfl
@[simp] theorem State.setFrPort_cv (p : Nat) (x : FrPort) : (s.setFrPort p x).cv = s.cv := rfl
@[simp] theorem State.setFrPort_mon (p : Nat) (x : FrPort) : (s.setFrPort p x).mon = s.mon := rfl
@[simp] theorem State.setFrPort_fab (p : Nat) (x : FrPort) : (s.setFrPort p x).fab = s.fab := rfl
@[simp] theorem State.setFrPort_engs (p : Nat) (x : FrPort) : (s.setFrPort p x).engs = s.engs := rfl
@[simp] theorem State.setFrPort_rsv (p : Nat) (x : FrPort) : (s.setFrPort p x).rsv = s.rsv := rfl
@[simp] theorem State.setFrPort_fifos (p : Nat) (x : FrPort) : (s.setFrPort p x).fifos = s.fifos := rfl
@[simp] theorem State.setFrPort_routed (p : Nat) (x : FrPort) : (s.setFrPort p x).routed = s.routed := rfl
@[simp] theorem State.setFrPort_ue (p : Nat) (x : FrPort) : (s.setFrPort p x).ue = s.ue := rfl
@[simp] theorem State.setFrPort_carried (p : Nat) (x : FrPort) : (s.setFrPort p x).carried = s.carried := rfl
@[simp] theorem State.setFrPort_fresh (p : Nat) (x : FrPort) : (s.setFrPort p x).fresh = s.fresh := rfl
@[simp] theorem State.setFrPort_pwm (p : Nat) (x : FrPort) : (s.setFrPort p x).pwm = s.pwm := rfl
@[simp] theorem State.setFrPort_trip (p : Nat) (x : FrPort) : (s.setFrPort p x).trip = s.trip := rfl
@[simp] theorem State.setFrPort_cc (p : Nat) (x : FrPort) : (s.setFrPort p x).cc = s.cc := rfl
@[simp] theorem State.setFrPort_qm (p : Nat) (x : FrPort) : (s.setFrPort p x).qm = s.qm := rfl
@[simp] theorem State.setFrPort_dma (p : Nat) (x : FrPort) : (s.setFrPort p x).dma = s.dma := rfl
@[simp] theorem State.setFrPort_swl (p : Nat) (x : FrPort) : (s.setFrPort p x).swl = s.swl := rfl
@[simp] theorem State.setFrPort_std (p : Nat) (x : FrPort) : (s.setFrPort p x).std = s.std := rfl
@[simp] theorem State.setFrPort_nvm (p : Nat) (x : FrPort) : (s.setFrPort p x).nvm = s.nvm := rfl
@[simp] theorem State.setFrPort_av (p : Nat) (x : FrPort) : (s.setFrPort p x).av = s.av := rfl
@[simp] theorem State.setFrPort_rst (p : Nat) (x : FrPort) : (s.setFrPort p x).rst = s.rst := rfl
@[simp] theorem State.setFrPort_trimConflicts (p : Nat) (x : FrPort) : (s.setFrPort p x).trimConflicts = s.trimConflicts := rfl
@[simp] theorem State.setFrPort_trims (p : Nat) (x : FrPort) : (s.setFrPort p x).trims = s.trims := rfl
@[simp] theorem State.setFrPort_cyc (p : Nat) (x : FrPort) : (s.setFrPort p x).cyc = s.cyc := rfl
@[simp] theorem State.setFrPort_ce (p : Nat) (x : FrPort) : (s.setFrPort p x).ce = s.ce := rfl

/-! ### setSwlPort -/

@[simp] theorem State.setSwlPort_pending (l : Nat) (x : SwlPort) : (s.setSwlPort l x).pending = s.pending := rfl
@[simp] theorem State.setSwlPort_tb (l : Nat) (x : SwlPort) : (s.setSwlPort l x).tb = s.tb := rfl
@[simp] theorem State.setSwlPort_regs (l : Nat) (x : SwlPort) : (s.setSwlPort l x).regs = s.regs := rfl
@[simp] theorem State.setSwlPort_mem (l : Nat) (x : SwlPort) : (s.setSwlPort l x).mem = s.mem := rfl
@[simp] theorem State.setSwlPort_resp (l : Nat) (x : SwlPort) : (s.setSwlPort l x).resp = s.resp := rfl
@[simp] theorem State.setSwlPort_shadows (l : Nat) (x : SwlPort) : (s.setSwlPort l x).shadows = s.shadows := rfl
@[simp] theorem State.setSwlPort_mode (l : Nat) (x : SwlPort) : (s.setSwlPort l x).mode = s.mode := rfl
@[simp] theorem State.setSwlPort_time (l : Nat) (x : SwlPort) : (s.setSwlPort l x).time = s.time := rfl
@[simp] theorem State.setSwlPort_cv (l : Nat) (x : SwlPort) : (s.setSwlPort l x).cv = s.cv := rfl
@[simp] theorem State.setSwlPort_mon (l : Nat) (x : SwlPort) : (s.setSwlPort l x).mon = s.mon := rfl
@[simp] theorem State.setSwlPort_fab (l : Nat) (x : SwlPort) : (s.setSwlPort l x).fab = s.fab := rfl
@[simp] theorem State.setSwlPort_engs (l : Nat) (x : SwlPort) : (s.setSwlPort l x).engs = s.engs := rfl
@[simp] theorem State.setSwlPort_rsv (l : Nat) (x : SwlPort) : (s.setSwlPort l x).rsv = s.rsv := rfl
@[simp] theorem State.setSwlPort_fifos (l : Nat) (x : SwlPort) : (s.setSwlPort l x).fifos = s.fifos := rfl
@[simp] theorem State.setSwlPort_routed (l : Nat) (x : SwlPort) : (s.setSwlPort l x).routed = s.routed := rfl
@[simp] theorem State.setSwlPort_ue (l : Nat) (x : SwlPort) : (s.setSwlPort l x).ue = s.ue := rfl
@[simp] theorem State.setSwlPort_carried (l : Nat) (x : SwlPort) : (s.setSwlPort l x).carried = s.carried := rfl
@[simp] theorem State.setSwlPort_fresh (l : Nat) (x : SwlPort) : (s.setSwlPort l x).fresh = s.fresh := rfl
@[simp] theorem State.setSwlPort_pwm (l : Nat) (x : SwlPort) : (s.setSwlPort l x).pwm = s.pwm := rfl
@[simp] theorem State.setSwlPort_trip (l : Nat) (x : SwlPort) : (s.setSwlPort l x).trip = s.trip := rfl
@[simp] theorem State.setSwlPort_cc (l : Nat) (x : SwlPort) : (s.setSwlPort l x).cc = s.cc := rfl
@[simp] theorem State.setSwlPort_qm (l : Nat) (x : SwlPort) : (s.setSwlPort l x).qm = s.qm := rfl
@[simp] theorem State.setSwlPort_dma (l : Nat) (x : SwlPort) : (s.setSwlPort l x).dma = s.dma := rfl
@[simp] theorem State.setSwlPort_fr (l : Nat) (x : SwlPort) : (s.setSwlPort l x).fr = s.fr := rfl
@[simp] theorem State.setSwlPort_std (l : Nat) (x : SwlPort) : (s.setSwlPort l x).std = s.std := rfl
@[simp] theorem State.setSwlPort_nvm (l : Nat) (x : SwlPort) : (s.setSwlPort l x).nvm = s.nvm := rfl
@[simp] theorem State.setSwlPort_av (l : Nat) (x : SwlPort) : (s.setSwlPort l x).av = s.av := rfl
@[simp] theorem State.setSwlPort_rst (l : Nat) (x : SwlPort) : (s.setSwlPort l x).rst = s.rst := rfl
@[simp] theorem State.setSwlPort_trimConflicts (l : Nat) (x : SwlPort) : (s.setSwlPort l x).trimConflicts = s.trimConflicts := rfl
@[simp] theorem State.setSwlPort_trims (l : Nat) (x : SwlPort) : (s.setSwlPort l x).trims = s.trims := rfl
@[simp] theorem State.setSwlPort_cyc (l : Nat) (x : SwlPort) : (s.setSwlPort l x).cyc = s.cyc := rfl
@[simp] theorem State.setSwlPort_ce (l : Nat) (x : SwlPort) : (s.setSwlPort l x).ce = s.ce := rfl

/-! ### setSerial -/

@[simp] theorem State.setSerial_pending (k : Nat) (x : Serial) : (s.setSerial k x).pending = s.pending := rfl
@[simp] theorem State.setSerial_tb (k : Nat) (x : Serial) : (s.setSerial k x).tb = s.tb := rfl
@[simp] theorem State.setSerial_regs (k : Nat) (x : Serial) : (s.setSerial k x).regs = s.regs := rfl
@[simp] theorem State.setSerial_mem (k : Nat) (x : Serial) : (s.setSerial k x).mem = s.mem := rfl
@[simp] theorem State.setSerial_resp (k : Nat) (x : Serial) : (s.setSerial k x).resp = s.resp := rfl
@[simp] theorem State.setSerial_shadows (k : Nat) (x : Serial) : (s.setSerial k x).shadows = s.shadows := rfl
@[simp] theorem State.setSerial_mode (k : Nat) (x : Serial) : (s.setSerial k x).mode = s.mode := rfl
@[simp] theorem State.setSerial_time (k : Nat) (x : Serial) : (s.setSerial k x).time = s.time := rfl
@[simp] theorem State.setSerial_cv (k : Nat) (x : Serial) : (s.setSerial k x).cv = s.cv := rfl
@[simp] theorem State.setSerial_mon (k : Nat) (x : Serial) : (s.setSerial k x).mon = s.mon := rfl
@[simp] theorem State.setSerial_fab (k : Nat) (x : Serial) : (s.setSerial k x).fab = s.fab := rfl
@[simp] theorem State.setSerial_engs (k : Nat) (x : Serial) : (s.setSerial k x).engs = s.engs := rfl
@[simp] theorem State.setSerial_rsv (k : Nat) (x : Serial) : (s.setSerial k x).rsv = s.rsv := rfl
@[simp] theorem State.setSerial_fifos (k : Nat) (x : Serial) : (s.setSerial k x).fifos = s.fifos := rfl
@[simp] theorem State.setSerial_routed (k : Nat) (x : Serial) : (s.setSerial k x).routed = s.routed := rfl
@[simp] theorem State.setSerial_ue (k : Nat) (x : Serial) : (s.setSerial k x).ue = s.ue := rfl
@[simp] theorem State.setSerial_carried (k : Nat) (x : Serial) : (s.setSerial k x).carried = s.carried := rfl
@[simp] theorem State.setSerial_fresh (k : Nat) (x : Serial) : (s.setSerial k x).fresh = s.fresh := rfl
@[simp] theorem State.setSerial_pwm (k : Nat) (x : Serial) : (s.setSerial k x).pwm = s.pwm := rfl
@[simp] theorem State.setSerial_trip (k : Nat) (x : Serial) : (s.setSerial k x).trip = s.trip := rfl
@[simp] theorem State.setSerial_cc (k : Nat) (x : Serial) : (s.setSerial k x).cc = s.cc := rfl
@[simp] theorem State.setSerial_qm (k : Nat) (x : Serial) : (s.setSerial k x).qm = s.qm := rfl
@[simp] theorem State.setSerial_dma (k : Nat) (x : Serial) : (s.setSerial k x).dma = s.dma := rfl
@[simp] theorem State.setSerial_fr (k : Nat) (x : Serial) : (s.setSerial k x).fr = s.fr := rfl
@[simp] theorem State.setSerial_swl (k : Nat) (x : Serial) : (s.setSerial k x).swl = s.swl := rfl
@[simp] theorem State.setSerial_nvm (k : Nat) (x : Serial) : (s.setSerial k x).nvm = s.nvm := rfl
@[simp] theorem State.setSerial_av (k : Nat) (x : Serial) : (s.setSerial k x).av = s.av := rfl
@[simp] theorem State.setSerial_rst (k : Nat) (x : Serial) : (s.setSerial k x).rst = s.rst := rfl
@[simp] theorem State.setSerial_trimConflicts (k : Nat) (x : Serial) : (s.setSerial k x).trimConflicts = s.trimConflicts := rfl
@[simp] theorem State.setSerial_trims (k : Nat) (x : Serial) : (s.setSerial k x).trims = s.trims := rfl
@[simp] theorem State.setSerial_cyc (k : Nat) (x : Serial) : (s.setSerial k x).cyc = s.cyc := rfl
@[simp] theorem State.setSerial_ce (k : Nat) (x : Serial) : (s.setSerial k x).ce = s.ce := rfl

/-! ### setCan -/

@[simp] theorem State.setCan_pending (c : Nat) (x : Can) : (s.setCan c x).pending = s.pending := rfl
@[simp] theorem State.setCan_tb (c : Nat) (x : Can) : (s.setCan c x).tb = s.tb := rfl
@[simp] theorem State.setCan_regs (c : Nat) (x : Can) : (s.setCan c x).regs = s.regs := rfl
@[simp] theorem State.setCan_mem (c : Nat) (x : Can) : (s.setCan c x).mem = s.mem := rfl
@[simp] theorem State.setCan_resp (c : Nat) (x : Can) : (s.setCan c x).resp = s.resp := rfl
@[simp] theorem State.setCan_shadows (c : Nat) (x : Can) : (s.setCan c x).shadows = s.shadows := rfl
@[simp] theorem State.setCan_mode (c : Nat) (x : Can) : (s.setCan c x).mode = s.mode := rfl
@[simp] theorem State.setCan_time (c : Nat) (x : Can) : (s.setCan c x).time = s.time := rfl
@[simp] theorem State.setCan_cv (c : Nat) (x : Can) : (s.setCan c x).cv = s.cv := rfl
@[simp] theorem State.setCan_mon (c : Nat) (x : Can) : (s.setCan c x).mon = s.mon := rfl
@[simp] theorem State.setCan_fab (c : Nat) (x : Can) : (s.setCan c x).fab = s.fab := rfl
@[simp] theorem State.setCan_engs (c : Nat) (x : Can) : (s.setCan c x).engs = s.engs := rfl
@[simp] theorem State.setCan_rsv (c : Nat) (x : Can) : (s.setCan c x).rsv = s.rsv := rfl
@[simp] theorem State.setCan_fifos (c : Nat) (x : Can) : (s.setCan c x).fifos = s.fifos := rfl
@[simp] theorem State.setCan_routed (c : Nat) (x : Can) : (s.setCan c x).routed = s.routed := rfl
@[simp] theorem State.setCan_ue (c : Nat) (x : Can) : (s.setCan c x).ue = s.ue := rfl
@[simp] theorem State.setCan_carried (c : Nat) (x : Can) : (s.setCan c x).carried = s.carried := rfl
@[simp] theorem State.setCan_fresh (c : Nat) (x : Can) : (s.setCan c x).fresh = s.fresh := rfl
@[simp] theorem State.setCan_pwm (c : Nat) (x : Can) : (s.setCan c x).pwm = s.pwm := rfl
@[simp] theorem State.setCan_trip (c : Nat) (x : Can) : (s.setCan c x).trip = s.trip := rfl
@[simp] theorem State.setCan_cc (c : Nat) (x : Can) : (s.setCan c x).cc = s.cc := rfl
@[simp] theorem State.setCan_qm (c : Nat) (x : Can) : (s.setCan c x).qm = s.qm := rfl
@[simp] theorem State.setCan_dma (c : Nat) (x : Can) : (s.setCan c x).dma = s.dma := rfl
@[simp] theorem State.setCan_fr (c : Nat) (x : Can) : (s.setCan c x).fr = s.fr := rfl
@[simp] theorem State.setCan_swl (c : Nat) (x : Can) : (s.setCan c x).swl = s.swl := rfl
@[simp] theorem State.setCan_nvm (c : Nat) (x : Can) : (s.setCan c x).nvm = s.nvm := rfl
@[simp] theorem State.setCan_av (c : Nat) (x : Can) : (s.setCan c x).av = s.av := rfl
@[simp] theorem State.setCan_rst (c : Nat) (x : Can) : (s.setCan c x).rst = s.rst := rfl
@[simp] theorem State.setCan_trimConflicts (c : Nat) (x : Can) : (s.setCan c x).trimConflicts = s.trimConflicts := rfl
@[simp] theorem State.setCan_trims (c : Nat) (x : Can) : (s.setCan c x).trims = s.trims := rfl
@[simp] theorem State.setCan_cyc (c : Nat) (x : Can) : (s.setCan c x).cyc = s.cyc := rfl
@[simp] theorem State.setCan_ce (c : Nat) (x : Can) : (s.setCan c x).ce = s.ce := rfl

/-! ### setXspi -/

@[simp] theorem State.setXspi_pending (c : Nat) (x : Option Xspi) : (s.setXspi c x).pending = s.pending := rfl
@[simp] theorem State.setXspi_tb (c : Nat) (x : Option Xspi) : (s.setXspi c x).tb = s.tb := rfl
@[simp] theorem State.setXspi_regs (c : Nat) (x : Option Xspi) : (s.setXspi c x).regs = s.regs := rfl
@[simp] theorem State.setXspi_mem (c : Nat) (x : Option Xspi) : (s.setXspi c x).mem = s.mem := rfl
@[simp] theorem State.setXspi_resp (c : Nat) (x : Option Xspi) : (s.setXspi c x).resp = s.resp := rfl
@[simp] theorem State.setXspi_shadows (c : Nat) (x : Option Xspi) : (s.setXspi c x).shadows = s.shadows := rfl
@[simp] theorem State.setXspi_mode (c : Nat) (x : Option Xspi) : (s.setXspi c x).mode = s.mode := rfl
@[simp] theorem State.setXspi_time (c : Nat) (x : Option Xspi) : (s.setXspi c x).time = s.time := rfl
@[simp] theorem State.setXspi_cv (c : Nat) (x : Option Xspi) : (s.setXspi c x).cv = s.cv := rfl
@[simp] theorem State.setXspi_mon (c : Nat) (x : Option Xspi) : (s.setXspi c x).mon = s.mon := rfl
@[simp] theorem State.setXspi_fab (c : Nat) (x : Option Xspi) : (s.setXspi c x).fab = s.fab := rfl
@[simp] theorem State.setXspi_engs (c : Nat) (x : Option Xspi) : (s.setXspi c x).engs = s.engs := rfl
@[simp] theorem State.setXspi_rsv (c : Nat) (x : Option Xspi) : (s.setXspi c x).rsv = s.rsv := rfl
@[simp] theorem State.setXspi_fifos (c : Nat) (x : Option Xspi) : (s.setXspi c x).fifos = s.fifos := rfl
@[simp] theorem State.setXspi_routed (c : Nat) (x : Option Xspi) : (s.setXspi c x).routed = s.routed := rfl
@[simp] theorem State.setXspi_ue (c : Nat) (x : Option Xspi) : (s.setXspi c x).ue = s.ue := rfl
@[simp] theorem State.setXspi_carried (c : Nat) (x : Option Xspi) : (s.setXspi c x).carried = s.carried := rfl
@[simp] theorem State.setXspi_fresh (c : Nat) (x : Option Xspi) : (s.setXspi c x).fresh = s.fresh := rfl
@[simp] theorem State.setXspi_pwm (c : Nat) (x : Option Xspi) : (s.setXspi c x).pwm = s.pwm := rfl
@[simp] theorem State.setXspi_trip (c : Nat) (x : Option Xspi) : (s.setXspi c x).trip = s.trip := rfl
@[simp] theorem State.setXspi_cc (c : Nat) (x : Option Xspi) : (s.setXspi c x).cc = s.cc := rfl
@[simp] theorem State.setXspi_qm (c : Nat) (x : Option Xspi) : (s.setXspi c x).qm = s.qm := rfl
@[simp] theorem State.setXspi_dma (c : Nat) (x : Option Xspi) : (s.setXspi c x).dma = s.dma := rfl
@[simp] theorem State.setXspi_fr (c : Nat) (x : Option Xspi) : (s.setXspi c x).fr = s.fr := rfl
@[simp] theorem State.setXspi_swl (c : Nat) (x : Option Xspi) : (s.setXspi c x).swl = s.swl := rfl
@[simp] theorem State.setXspi_nvm (c : Nat) (x : Option Xspi) : (s.setXspi c x).nvm = s.nvm := rfl
@[simp] theorem State.setXspi_av (c : Nat) (x : Option Xspi) : (s.setXspi c x).av = s.av := rfl
@[simp] theorem State.setXspi_rst (c : Nat) (x : Option Xspi) : (s.setXspi c x).rst = s.rst := rfl
@[simp] theorem State.setXspi_trimConflicts (c : Nat) (x : Option Xspi) : (s.setXspi c x).trimConflicts = s.trimConflicts := rfl
@[simp] theorem State.setXspi_trims (c : Nat) (x : Option Xspi) : (s.setXspi c x).trims = s.trims := rfl
@[simp] theorem State.setXspi_cyc (c : Nat) (x : Option Xspi) : (s.setXspi c x).cyc = s.cyc := rfl
@[simp] theorem State.setXspi_ce (c : Nat) (x : Option Xspi) : (s.setXspi c x).ce = s.ce := rfl

/-! ### setRgClu -/

@[simp] theorem State.setRgClu_pending (c : Nat) (x : RgClu) : (s.setRgClu c x).pending = s.pending := rfl
@[simp] theorem State.setRgClu_tb (c : Nat) (x : RgClu) : (s.setRgClu c x).tb = s.tb := rfl
@[simp] theorem State.setRgClu_regs (c : Nat) (x : RgClu) : (s.setRgClu c x).regs = s.regs := rfl
@[simp] theorem State.setRgClu_mem (c : Nat) (x : RgClu) : (s.setRgClu c x).mem = s.mem := rfl
@[simp] theorem State.setRgClu_resp (c : Nat) (x : RgClu) : (s.setRgClu c x).resp = s.resp := rfl
@[simp] theorem State.setRgClu_shadows (c : Nat) (x : RgClu) : (s.setRgClu c x).shadows = s.shadows := rfl
@[simp] theorem State.setRgClu_mode (c : Nat) (x : RgClu) : (s.setRgClu c x).mode = s.mode := rfl
@[simp] theorem State.setRgClu_time (c : Nat) (x : RgClu) : (s.setRgClu c x).time = s.time := rfl
@[simp] theorem State.setRgClu_cv (c : Nat) (x : RgClu) : (s.setRgClu c x).cv = s.cv := rfl
@[simp] theorem State.setRgClu_mon (c : Nat) (x : RgClu) : (s.setRgClu c x).mon = s.mon := rfl
@[simp] theorem State.setRgClu_fab (c : Nat) (x : RgClu) : (s.setRgClu c x).fab = s.fab := rfl
@[simp] theorem State.setRgClu_engs (c : Nat) (x : RgClu) : (s.setRgClu c x).engs = s.engs := rfl
@[simp] theorem State.setRgClu_rsv (c : Nat) (x : RgClu) : (s.setRgClu c x).rsv = s.rsv := rfl
@[simp] theorem State.setRgClu_fifos (c : Nat) (x : RgClu) : (s.setRgClu c x).fifos = s.fifos := rfl
@[simp] theorem State.setRgClu_routed (c : Nat) (x : RgClu) : (s.setRgClu c x).routed = s.routed := rfl
@[simp] theorem State.setRgClu_ue (c : Nat) (x : RgClu) : (s.setRgClu c x).ue = s.ue := rfl
@[simp] theorem State.setRgClu_carried (c : Nat) (x : RgClu) : (s.setRgClu c x).carried = s.carried := rfl
@[simp] theorem State.setRgClu_fresh (c : Nat) (x : RgClu) : (s.setRgClu c x).fresh = s.fresh := rfl
@[simp] theorem State.setRgClu_pwm (c : Nat) (x : RgClu) : (s.setRgClu c x).pwm = s.pwm := rfl
@[simp] theorem State.setRgClu_trip (c : Nat) (x : RgClu) : (s.setRgClu c x).trip = s.trip := rfl
@[simp] theorem State.setRgClu_cc (c : Nat) (x : RgClu) : (s.setRgClu c x).cc = s.cc := rfl
@[simp] theorem State.setRgClu_qm (c : Nat) (x : RgClu) : (s.setRgClu c x).qm = s.qm := rfl
@[simp] theorem State.setRgClu_dma (c : Nat) (x : RgClu) : (s.setRgClu c x).dma = s.dma := rfl
@[simp] theorem State.setRgClu_fr (c : Nat) (x : RgClu) : (s.setRgClu c x).fr = s.fr := rfl
@[simp] theorem State.setRgClu_swl (c : Nat) (x : RgClu) : (s.setRgClu c x).swl = s.swl := rfl
@[simp] theorem State.setRgClu_std (c : Nat) (x : RgClu) : (s.setRgClu c x).std = s.std := rfl
@[simp] theorem State.setRgClu_nvm (c : Nat) (x : RgClu) : (s.setRgClu c x).nvm = s.nvm := rfl
@[simp] theorem State.setRgClu_rst (c : Nat) (x : RgClu) : (s.setRgClu c x).rst = s.rst := rfl
@[simp] theorem State.setRgClu_trimConflicts (c : Nat) (x : RgClu) : (s.setRgClu c x).trimConflicts = s.trimConflicts := rfl
@[simp] theorem State.setRgClu_trims (c : Nat) (x : RgClu) : (s.setRgClu c x).trims = s.trims := rfl
@[simp] theorem State.setRgClu_cyc (c : Nat) (x : RgClu) : (s.setRgClu c x).cyc = s.cyc := rfl
@[simp] theorem State.setRgClu_ce (c : Nat) (x : RgClu) : (s.setRgClu c x).ce = s.ce := rfl

/-! ### setDma -/

@[simp] theorem State.setDma_pending (c : Nat) (x : Dma) : (s.setDma c x).pending = s.pending := rfl
@[simp] theorem State.setDma_tb (c : Nat) (x : Dma) : (s.setDma c x).tb = s.tb := rfl
@[simp] theorem State.setDma_regs (c : Nat) (x : Dma) : (s.setDma c x).regs = s.regs := rfl
@[simp] theorem State.setDma_mem (c : Nat) (x : Dma) : (s.setDma c x).mem = s.mem := rfl
@[simp] theorem State.setDma_resp (c : Nat) (x : Dma) : (s.setDma c x).resp = s.resp := rfl
@[simp] theorem State.setDma_shadows (c : Nat) (x : Dma) : (s.setDma c x).shadows = s.shadows := rfl
@[simp] theorem State.setDma_mode (c : Nat) (x : Dma) : (s.setDma c x).mode = s.mode := rfl
@[simp] theorem State.setDma_time (c : Nat) (x : Dma) : (s.setDma c x).time = s.time := rfl
@[simp] theorem State.setDma_cv (c : Nat) (x : Dma) : (s.setDma c x).cv = s.cv := rfl
@[simp] theorem State.setDma_mon (c : Nat) (x : Dma) : (s.setDma c x).mon = s.mon := rfl
@[simp] theorem State.setDma_fab (c : Nat) (x : Dma) : (s.setDma c x).fab = s.fab := rfl
@[simp] theorem State.setDma_engs (c : Nat) (x : Dma) : (s.setDma c x).engs = s.engs := rfl
@[simp] theorem State.setDma_rsv (c : Nat) (x : Dma) : (s.setDma c x).rsv = s.rsv := rfl
@[simp] theorem State.setDma_fifos (c : Nat) (x : Dma) : (s.setDma c x).fifos = s.fifos := rfl
@[simp] theorem State.setDma_routed (c : Nat) (x : Dma) : (s.setDma c x).routed = s.routed := rfl
@[simp] theorem State.setDma_ue (c : Nat) (x : Dma) : (s.setDma c x).ue = s.ue := rfl
@[simp] theorem State.setDma_carried (c : Nat) (x : Dma) : (s.setDma c x).carried = s.carried := rfl
@[simp] theorem State.setDma_fresh (c : Nat) (x : Dma) : (s.setDma c x).fresh = s.fresh := rfl
@[simp] theorem State.setDma_pwm (c : Nat) (x : Dma) : (s.setDma c x).pwm = s.pwm := rfl
@[simp] theorem State.setDma_trip (c : Nat) (x : Dma) : (s.setDma c x).trip = s.trip := rfl
@[simp] theorem State.setDma_cc (c : Nat) (x : Dma) : (s.setDma c x).cc = s.cc := rfl
@[simp] theorem State.setDma_qm (c : Nat) (x : Dma) : (s.setDma c x).qm = s.qm := rfl
@[simp] theorem State.setDma_fr (c : Nat) (x : Dma) : (s.setDma c x).fr = s.fr := rfl
@[simp] theorem State.setDma_swl (c : Nat) (x : Dma) : (s.setDma c x).swl = s.swl := rfl
@[simp] theorem State.setDma_std (c : Nat) (x : Dma) : (s.setDma c x).std = s.std := rfl
@[simp] theorem State.setDma_nvm (c : Nat) (x : Dma) : (s.setDma c x).nvm = s.nvm := rfl
@[simp] theorem State.setDma_av (c : Nat) (x : Dma) : (s.setDma c x).av = s.av := rfl
@[simp] theorem State.setDma_rst (c : Nat) (x : Dma) : (s.setDma c x).rst = s.rst := rfl
@[simp] theorem State.setDma_trimConflicts (c : Nat) (x : Dma) : (s.setDma c x).trimConflicts = s.trimConflicts := rfl
@[simp] theorem State.setDma_trims (c : Nat) (x : Dma) : (s.setDma c x).trims = s.trims := rfl
@[simp] theorem State.setDma_cyc (c : Nat) (x : Dma) : (s.setDma c x).cyc = s.cyc := rfl
@[simp] theorem State.setDma_ce (c : Nat) (x : Dma) : (s.setDma c x).ce = s.ce := rfl

/-! ### setStaged -/

@[simp] theorem State.setStaged_pending (a : Nat) (x : Option Staged) : (s.setStaged a x).pending = s.pending := rfl
@[simp] theorem State.setStaged_tb (a : Nat) (x : Option Staged) : (s.setStaged a x).tb = s.tb := rfl
@[simp] theorem State.setStaged_regs (a : Nat) (x : Option Staged) : (s.setStaged a x).regs = s.regs := rfl
@[simp] theorem State.setStaged_mem (a : Nat) (x : Option Staged) : (s.setStaged a x).mem = s.mem := rfl
@[simp] theorem State.setStaged_resp (a : Nat) (x : Option Staged) : (s.setStaged a x).resp = s.resp := rfl
@[simp] theorem State.setStaged_shadows (a : Nat) (x : Option Staged) : (s.setStaged a x).shadows = s.shadows := rfl
@[simp] theorem State.setStaged_mode (a : Nat) (x : Option Staged) : (s.setStaged a x).mode = s.mode := rfl
@[simp] theorem State.setStaged_time (a : Nat) (x : Option Staged) : (s.setStaged a x).time = s.time := rfl
@[simp] theorem State.setStaged_cv (a : Nat) (x : Option Staged) : (s.setStaged a x).cv = s.cv := rfl
@[simp] theorem State.setStaged_mon (a : Nat) (x : Option Staged) : (s.setStaged a x).mon = s.mon := rfl
@[simp] theorem State.setStaged_fab (a : Nat) (x : Option Staged) : (s.setStaged a x).fab = s.fab := rfl
@[simp] theorem State.setStaged_engs (a : Nat) (x : Option Staged) : (s.setStaged a x).engs = s.engs := rfl
@[simp] theorem State.setStaged_rsv (a : Nat) (x : Option Staged) : (s.setStaged a x).rsv = s.rsv := rfl
@[simp] theorem State.setStaged_fifos (a : Nat) (x : Option Staged) : (s.setStaged a x).fifos = s.fifos := rfl
@[simp] theorem State.setStaged_routed (a : Nat) (x : Option Staged) : (s.setStaged a x).routed = s.routed := rfl
@[simp] theorem State.setStaged_ue (a : Nat) (x : Option Staged) : (s.setStaged a x).ue = s.ue := rfl
@[simp] theorem State.setStaged_carried (a : Nat) (x : Option Staged) : (s.setStaged a x).carried = s.carried := rfl
@[simp] theorem State.setStaged_fresh (a : Nat) (x : Option Staged) : (s.setStaged a x).fresh = s.fresh := rfl
@[simp] theorem State.setStaged_pwm (a : Nat) (x : Option Staged) : (s.setStaged a x).pwm = s.pwm := rfl
@[simp] theorem State.setStaged_trip (a : Nat) (x : Option Staged) : (s.setStaged a x).trip = s.trip := rfl
@[simp] theorem State.setStaged_qm (a : Nat) (x : Option Staged) : (s.setStaged a x).qm = s.qm := rfl
@[simp] theorem State.setStaged_dma (a : Nat) (x : Option Staged) : (s.setStaged a x).dma = s.dma := rfl
@[simp] theorem State.setStaged_fr (a : Nat) (x : Option Staged) : (s.setStaged a x).fr = s.fr := rfl
@[simp] theorem State.setStaged_swl (a : Nat) (x : Option Staged) : (s.setStaged a x).swl = s.swl := rfl
@[simp] theorem State.setStaged_std (a : Nat) (x : Option Staged) : (s.setStaged a x).std = s.std := rfl
@[simp] theorem State.setStaged_nvm (a : Nat) (x : Option Staged) : (s.setStaged a x).nvm = s.nvm := rfl
@[simp] theorem State.setStaged_av (a : Nat) (x : Option Staged) : (s.setStaged a x).av = s.av := rfl
@[simp] theorem State.setStaged_rst (a : Nat) (x : Option Staged) : (s.setStaged a x).rst = s.rst := rfl
@[simp] theorem State.setStaged_trimConflicts (a : Nat) (x : Option Staged) : (s.setStaged a x).trimConflicts = s.trimConflicts := rfl
@[simp] theorem State.setStaged_trims (a : Nat) (x : Option Staged) : (s.setStaged a x).trims = s.trims := rfl
@[simp] theorem State.setStaged_cyc (a : Nat) (x : Option Staged) : (s.setStaged a x).cyc = s.cyc := rfl
@[simp] theorem State.setStaged_ce (a : Nat) (x : Option Staged) : (s.setStaged a x).ce = s.ce := rfl

/-! ### settle -/

@[simp] theorem settle_pending (t : State) : (settle s t).pending = t.pending := rfl
@[simp] theorem settle_tb (t : State) : (settle s t).tb = t.tb := rfl
@[simp] theorem settle_regs (t : State) : (settle s t).regs = t.regs := rfl
@[simp] theorem settle_mem (t : State) : (settle s t).mem = t.mem := rfl
@[simp] theorem settle_resp (t : State) : (settle s t).resp = t.resp := rfl
@[simp] theorem settle_shadows (t : State) : (settle s t).shadows = t.shadows := rfl
@[simp] theorem settle_mode (t : State) : (settle s t).mode = t.mode := rfl
@[simp] theorem settle_time (t : State) : (settle s t).time = t.time := rfl
@[simp] theorem settle_cv (t : State) : (settle s t).cv = t.cv := rfl
@[simp] theorem settle_mon (t : State) : (settle s t).mon = t.mon := rfl
@[simp] theorem settle_engs (t : State) : (settle s t).engs = t.engs := rfl
@[simp] theorem settle_rsv (t : State) : (settle s t).rsv = t.rsv := rfl
@[simp] theorem settle_fifos (t : State) : (settle s t).fifos = t.fifos := rfl
@[simp] theorem settle_routed (t : State) : (settle s t).routed = t.routed := rfl
@[simp] theorem settle_ue (t : State) : (settle s t).ue = t.ue := rfl
@[simp] theorem settle_carried (t : State) : (settle s t).carried = t.carried := rfl
@[simp] theorem settle_fresh (t : State) : (settle s t).fresh = t.fresh := rfl
@[simp] theorem settle_pwm (t : State) : (settle s t).pwm = t.pwm := rfl
@[simp] theorem settle_trip (t : State) : (settle s t).trip = t.trip := rfl
@[simp] theorem settle_cc (t : State) : (settle s t).cc = t.cc := rfl
@[simp] theorem settle_qm (t : State) : (settle s t).qm = t.qm := rfl
@[simp] theorem settle_dma (t : State) : (settle s t).dma = t.dma := rfl
@[simp] theorem settle_fr (t : State) : (settle s t).fr = t.fr := rfl
@[simp] theorem settle_swl (t : State) : (settle s t).swl = t.swl := rfl
@[simp] theorem settle_std (t : State) : (settle s t).std = t.std := rfl
@[simp] theorem settle_nvm (t : State) : (settle s t).nvm = t.nvm := rfl
@[simp] theorem settle_av (t : State) : (settle s t).av = t.av := rfl
@[simp] theorem settle_rst (t : State) : (settle s t).rst = t.rst := rfl
@[simp] theorem settle_trimConflicts (t : State) : (settle s t).trimConflicts = t.trimConflicts := rfl
@[simp] theorem settle_trims (t : State) : (settle s t).trims = t.trims := rfl
@[simp] theorem settle_ce (t : State) : (settle s t).ce = t.ce := rfl
@[simp] theorem settle_cyc (t : State) : (settle s t).cyc = t.cyc := rfl

end Sys2Proof.Machine
end

