-- ==== Sys2Proof/Laws/Ops.lean ====
section
/-!
SUPPORT. What a read gives after a write: registers and their fields, memory, engines, responses.
-/

namespace Sys2Proof.Machine

variable (s : State)

/-! ### A field of a word -/

theorem getBits_lt (w : Word) (f : Fld) : getBits w f < 2 ^ f.width := Nat.mod_lt _ (Nat.two_pow_pos _)

theorem putBits_toNat {w : Word} {f : Fld} {v : Nat} (hf : f.lo ≤ f.hi) (h32 : f.hi < 32) :
    (putBits w f v).toNat = w.toNat / 2 ^ (f.hi + 1) * 2 ^ (f.hi + 1) + v % 2 ^ f.width * 2 ^ f.lo + w.toNat % 2 ^ f.lo := by
  have hw := w.isLt
  have e1 : f.hi + 1 = f.lo + f.width := by unfold Fld.width; omega
  have e2 : (2 : Nat) ^ (f.hi + 1) = 2 ^ f.lo * 2 ^ f.width := by rw [e1, pow_add]
  have d1 : w.toNat / 2 ^ (f.hi + 1) = w.toNat / 2 ^ f.lo / 2 ^ f.width := by rw [e2, Nat.div_div_eq_div_mul]
  have m1 := Nat.div_add_mod w.toNat (2 ^ f.lo)
  have m2 := Nat.div_add_mod (w.toNat / 2 ^ f.lo) (2 ^ f.width)
  have hv : v % 2 ^ f.width < 2 ^ f.width := Nat.mod_lt _ (Nat.two_pow_pos _)
  have hr : w.toNat % 2 ^ f.lo < 2 ^ f.lo := Nat.mod_lt _ (Nat.two_pow_pos _)
  have hq : w.toNat / 2 ^ (f.hi + 1) < 2 ^ (32 - (f.hi + 1)) := by
    rw [Nat.div_lt_iff_lt_mul (Nat.two_pow_pos _), ← pow_add]
    have : 32 - (f.hi + 1) + (f.hi + 1) = 32 := by omega
    rw [this]; exact hw
  have split32 : (2 : Nat) ^ 32 = 2 ^ (32 - (f.hi + 1)) * 2 ^ (f.hi + 1) := by rw [← pow_add]; congr 1; omega
  unfold putBits getBits
  rw [BitVec.toNat_ofNat]
  generalize hA : w.toNat / 2 ^ f.lo = A at *
  generalize hP : (2 : Nat) ^ f.lo = P at *
  generalize hQ : (2 : Nat) ^ f.width = Q at *
  have wv : w.toNat = A / Q * (P * Q) + A % Q * P + w.toNat % P := by
    conv_lhs => rw [← m1, ← m2]
    ring
  have eq : w.toNat - A % Q * P + v % Q * P = w.toNat / 2 ^ (f.hi + 1) * 2 ^ (f.hi + 1) + v % Q * P + w.toNat % P := by
    rw [d1, e2]
    omega
  rw [eq, Nat.mod_eq_of_lt]
  rw [split32]
  have h1 : v % Q * P + w.toNat % P < 2 ^ (f.hi + 1) := by
    rw [e2]
    calc v % Q * P + w.toNat % P < v % Q * P + P := by omega
      _ = (v % Q + 1) * P := by ring
      _ ≤ Q * P := Nat.mul_le_mul_right _ hv
      _ = P * Q := Nat.mul_comm _ _
  calc w.toNat / 2 ^ (f.hi + 1) * 2 ^ (f.hi + 1) + v % Q * P + w.toNat % P
      < w.toNat / 2 ^ (f.hi + 1) * 2 ^ (f.hi + 1) + 2 ^ (f.hi + 1) := by omega
    _ = (w.toNat / 2 ^ (f.hi + 1) + 1) * 2 ^ (f.hi + 1) := by ring
    _ ≤ 2 ^ (32 - (f.hi + 1)) * 2 ^ (f.hi + 1) := Nat.mul_le_mul_right _ hq

/-- A field reads as it was written. -/
theorem getBits_putBits {w : Word} {f : Fld} {v : Nat} (hf : f.lo ≤ f.hi) (h32 : f.hi < 32) :
    getBits (putBits w f v) f = v % 2 ^ f.width := by
  have e2 : (2 : Nat) ^ (f.hi + 1) = 2 ^ f.width * 2 ^ f.lo := by
    rw [← pow_add]; congr 1; unfold Fld.width; omega
  have hr : w.toNat % 2 ^ f.lo < 2 ^ f.lo := Nat.mod_lt _ (Nat.two_pow_pos _)
  have hv : v % 2 ^ f.width < 2 ^ f.width := Nat.mod_lt _ (Nat.two_pow_pos _)
  unfold getBits
  rw [putBits_toNat hf h32, e2]
  have : w.toNat / (2 ^ f.width * 2 ^ f.lo) * (2 ^ f.width * 2 ^ f.lo) + v % 2 ^ f.width * 2 ^ f.lo + w.toNat % 2 ^ f.lo =
      w.toNat % 2 ^ f.lo + 2 ^ f.lo * (v % 2 ^ f.width + 2 ^ f.width * (w.toNat / (2 ^ f.width * 2 ^ f.lo))) := by ring
  rw [this, Nat.add_mul_div_left _ _ (Nat.two_pow_pos _), Nat.div_eq_of_lt hr, Nat.zero_add, Nat.add_mul_mod_self_left,
    Nat.mod_eq_of_lt hv]

/-- A write of a field leaves a field of other bits alone. -/
theorem getBits_putBits_ne {w : Word} {f g : Fld} {v : Nat} (hf : f.lo ≤ f.hi) (h32 : f.hi < 32) (hg : g.lo ≤ g.hi)
    (h : f.hi < g.lo ∨ g.hi < f.lo) : getBits (putBits w f v) g = getBits w g := by
  have hr : w.toNat % 2 ^ f.lo < 2 ^ f.lo := Nat.mod_lt _ (Nat.two_pow_pos _)
  have hv : v % 2 ^ f.width < 2 ^ f.width := Nat.mod_lt _ (Nat.two_pow_pos _)
  have e2 : (2 : Nat) ^ (f.hi + 1) = 2 ^ f.width * 2 ^ f.lo := by
    rw [← pow_add]; congr 1; unfold Fld.width; omega
  have hlow : v % 2 ^ f.width * 2 ^ f.lo + w.toNat % 2 ^ f.lo < 2 ^ (f.hi + 1) := by
    rw [e2]
    calc v % 2 ^ f.width * 2 ^ f.lo + w.toNat % 2 ^ f.lo < v % 2 ^ f.width * 2 ^ f.lo + 2 ^ f.lo := by omega
      _ = (v % 2 ^ f.width + 1) * 2 ^ f.lo := by ring
      _ ≤ 2 ^ f.width * 2 ^ f.lo := Nat.mul_le_mul_right _ hv
  unfold getBits
  rw [putBits_toNat hf h32]
  rcases h with h | h
  · have hd : ∀ x, x < 2 ^ (f.hi + 1) → (w.toNat / 2 ^ (f.hi + 1) * 2 ^ (f.hi + 1) + x) / 2 ^ g.lo = w.toNat / 2 ^ g.lo := by
      intro x hx
      have e : (2 : Nat) ^ g.lo = 2 ^ (f.hi + 1) * 2 ^ (g.lo - (f.hi + 1)) := by rw [← pow_add]; congr 1; omega
      rw [e, ← Nat.div_div_eq_div_mul, ← Nat.div_div_eq_div_mul]
      congr 1
      rw [Nat.add_comm, Nat.add_mul_div_right _ _ (Nat.two_pow_pos _), Nat.div_eq_of_lt hx, Nat.zero_add]
    rw [Nat.add_assoc, hd _ hlow]
  · have e1 : (2 : Nat) ^ f.lo = 2 ^ (g.hi + 1) * 2 ^ (f.lo - (g.hi + 1)) := by rw [← pow_add]; congr 1; omega
    have e3 : (2 : Nat) ^ (f.hi + 1) = 2 ^ (g.hi + 1) * 2 ^ (f.hi + 1 - (g.hi + 1)) := by rw [← pow_add]; congr 1; omega
    have e4 : (2 : Nat) ^ (g.hi + 1) = 2 ^ g.lo * 2 ^ g.width := by
      rw [← pow_add]; congr 1; unfold Fld.width; omega
    have key : ∀ x y : Nat, x % 2 ^ (g.hi + 1) = y % 2 ^ (g.hi + 1) → x / 2 ^ g.lo % 2 ^ g.width = y / 2 ^ g.lo % 2 ^ g.width := by
      intro x y hxy
      rw [e4] at hxy
      rw [← Nat.mod_mul_right_div_self, ← Nat.mod_mul_right_div_self, hxy]
    refine key _ _ ?_
    have : w.toNat / 2 ^ (f.hi + 1) * 2 ^ (f.hi + 1) + v % 2 ^ f.width * 2 ^ f.lo + w.toNat % 2 ^ f.lo =
        w.toNat % 2 ^ f.lo + 2 ^ (g.hi + 1) * (w.toNat / 2 ^ (f.hi + 1) * 2 ^ (f.hi + 1 - (g.hi + 1)) +
          v % 2 ^ f.width * 2 ^ (f.lo - (g.hi + 1))) := by
      conv_lhs => rw [e3, e1]
      conv_rhs => rw [e3, e1]
      ring
    rw [this, Nat.add_mul_mod_self_left, e1, Nat.mod_mul_right_mod]

/-! ### Registers -/

@[simp] theorem State.reg_setReg_self (a : Nat) (w : Word) : (s.setReg a w).reg a = w := sget_sput_self _ _ _ _

theorem State.reg_setReg_ne {a b : Nat} (w : Word) (h : b ≠ a) : (s.setReg a w).reg b = s.reg b := sget_sput_ne _ _ _ _ h

@[simp] theorem State.reg_set_self (a : Nat) (f : Fld) (v : Nat) : (s.set a f v).reg a = putBits (s.reg a) f v :=
  s.reg_setReg_self a _

theorem State.reg_set_ne {a b : Nat} (f : Fld) (v : Nat) (h : b ≠ a) : (s.set a f v).reg b = s.reg b := s.reg_setReg_ne _ h

theorem State.get_set_self {a : Nat} {f : Fld} (v : Nat) (hf : f.lo ≤ f.hi) (h32 : f.hi < 32) :
    (s.set a f v).get a f = v % 2 ^ f.width := by
  rw [State.get, State.reg_set_self, getBits_putBits hf h32]

theorem State.get_set_ne {a b : Nat} {f g : Fld} (v : Nat) (h : b ≠ a) : (s.set a f v).get b g = s.get b g := by
  rw [State.get, State.get, State.reg_set_ne s f v h]

/-- Fields of one register that share no bit. -/
theorem State.get_set_other {a : Nat} {f g : Fld} (v : Nat) (hf : f.lo ≤ f.hi) (h32 : f.hi < 32) (hg : g.lo ≤ g.hi)
    (h : f.hi < g.lo ∨ g.hi < f.lo) : (s.set a f v).get a g = s.get a g := by
  rw [State.get, State.get, State.reg_set_self, getBits_putBits_ne hf h32 hg h]

/-! ### Memory and engines -/

@[simp] theorem State.byte_putByte_self (a : Nat) (b : Byte) : (s.putByte a b).byte a = b := sget_sput_self _ _ _ _

theorem State.byte_putByte_ne {a c : Nat} (b : Byte) (h : c ≠ a) : (s.putByte a b).byte c = s.byte c := sget_sput_ne _ _ _ _ h

/-- A store of `n` bytes leaves every byte outside them alone. -/
theorem State.byte_putBytes_ne {a c : Nat} (w : Word) (n : Nat) (h : c < a ∨ a + n ≤ c) : (s.putBytes a w n).byte c = s.byte c := by
  induction n with
  | zero => rfl
  | succ n ih =>
    rw [State.putBytes, State.byte_putByte_ne _ _ (by omega), ih (by omega)]

@[simp] theorem State.eng_setEng_self (e : Nat) (x : Engine) : (s.setEng e x).eng e = x := sget_sput_self _ _ _ _

theorem State.eng_setEng_ne {e d : Nat} (x : Engine) (h : d ≠ e) : (s.setEng e x).eng d = s.eng d := sget_sput_ne _ _ _ _ h

/-! ### Responses and shadows -/

@[simp] theorem State.resp_reply_self (q : Req) (err : Bool) (v : Word) :
    sget {} (s.reply q err v).resp (reqNum q) = { err := err, val := v } := sget_sput_self _ _ _ _

@[simp] theorem State.shadow_latch_self (a : Nat) (q : Req) (w : Word) : (s.latch a q w).shadow a q = w := sget_sput_self _ _ _ _

/-! ### Reads that an update does not reach -/

@[simp] theorem State.eng_setReg (a : Nat) (w : Word) (b : Nat) : (s.setReg a w).eng b = s.eng b := rfl
@[simp] theorem State.byte_setReg (a : Nat) (w : Word) (b : Nat) : (s.setReg a w).byte b = s.byte b := rfl
@[simp] theorem State.word_setReg (a : Nat) (w : Word) (b : Nat) : (s.setReg a w).word b = s.word b := rfl
@[simp] theorem State.eng_set (a : Nat) (f : Fld) (v : Nat) (b : Nat) : (s.set a f v).eng b = s.eng b := rfl
@[simp] theorem State.byte_set (a : Nat) (f : Fld) (v : Nat) (b : Nat) : (s.set a f v).byte b = s.byte b := rfl
@[simp] theorem State.word_set (a : Nat) (f : Fld) (v : Nat) (b : Nat) : (s.set a f v).word b = s.word b := rfl
@[simp] theorem State.eng_setB (a : Nat) (f : Fld) (v : Bool) (b : Nat) : (s.setB a f v).eng b = s.eng b := rfl
@[simp] theorem State.byte_setB (a : Nat) (f : Fld) (v : Bool) (b : Nat) : (s.setB a f v).byte b = s.byte b := rfl
@[simp] theorem State.word_setB (a : Nat) (f : Fld) (v : Bool) (b : Nat) : (s.setB a f v).word b = s.word b := rfl
@[simp] theorem State.eng_setBit (a i : Nat) (v : Bool) (b : Nat) : (s.setBit a i v).eng b = s.eng b := rfl
@[simp] theorem State.byte_setBit (a i : Nat) (v : Bool) (b : Nat) : (s.setBit a i v).byte b = s.byte b := rfl
@[simp] theorem State.word_setBit (a i : Nat) (v : Bool) (b : Nat) : (s.setBit a i v).word b = s.word b := rfl
@[simp] theorem State.reg_putByte (a : Nat) (v : Byte) (b : Nat) : (s.putByte a v).reg b = s.reg b := rfl
@[simp] theorem State.eng_putByte (a : Nat) (v : Byte) (b : Nat) : (s.putByte a v).eng b = s.eng b := rfl
@[simp] theorem State.get_putByte (a : Nat) (v : Byte) (b : Nat) (g : Fld) : (s.putByte a v).get b g = s.get b g := rfl
@[simp] theorem State.on_putByte (a : Nat) (v : Byte) (b : Nat) (g : Fld) : (s.putByte a v).on b g = s.on b g := rfl
@[simp] theorem State.bit_putByte (a : Nat) (v : Byte) (b j : Nat) : (s.putByte a v).bit b j = s.bit b j := rfl
@[simp] theorem State.reg_reply (q : Req) (err : Bool) (v : Word) (b : Nat) : (s.reply q err v).reg b = s.reg b := rfl
@[simp] theorem State.eng_reply (q : Req) (err : Bool) (v : Word) (b : Nat) : (s.reply q err v).eng b = s.eng b := rfl
@[simp] theorem State.byte_reply (q : Req) (err : Bool) (v : Word) (b : Nat) : (s.reply q err v).byte b = s.byte b := rfl
@[simp] theorem State.word_reply (q : Req) (err : Bool) (v : Word) (b : Nat) : (s.reply q err v).word b = s.word b := rfl
@[simp] theorem State.get_reply (q : Req) (err : Bool) (v : Word) (b : Nat) (g : Fld) : (s.reply q err v).get b g = s.get b g := rfl
@[simp] theorem State.on_reply (q : Req) (err : Bool) (v : Word) (b : Nat) (g : Fld) : (s.reply q err v).on b g = s.on b g := rfl
@[simp] theorem State.bit_reply (q : Req) (err : Bool) (v : Word) (b j : Nat) : (s.reply q err v).bit b j = s.bit b j := rfl
@[simp] theorem State.reg_latch (a : Nat) (q : Req) (w : Word) (b : Nat) : (s.latch a q w).reg b = s.reg b := rfl
@[simp] theorem State.eng_latch (a : Nat) (q : Req) (w : Word) (b : Nat) : (s.latch a q w).eng b = s.eng b := rfl
@[simp] theorem State.byte_latch (a : Nat) (q : Req) (w : Word) (b : Nat) : (s.latch a q w).byte b = s.byte b := rfl
@[simp] theorem State.word_latch (a : Nat) (q : Req) (w : Word) (b : Nat) : (s.latch a q w).word b = s.word b := rfl
@[simp] theorem State.get_latch (a : Nat) (q : Req) (w : Word) (b : Nat) (g : Fld) : (s.latch a q w).get b g = s.get b g := rfl
@[simp] theorem State.on_latch (a : Nat) (q : Req) (w : Word) (b : Nat) (g : Fld) : (s.latch a q w).on b g = s.on b g := rfl
@[simp] theorem State.bit_latch (a : Nat) (q : Req) (w : Word) (b j : Nat) : (s.latch a q w).bit b j = s.bit b j := rfl
@[simp] theorem State.reg_setEng (e : Nat) (x : Engine) (b : Nat) : (s.setEng e x).reg b = s.reg b := rfl
@[simp] theorem State.byte_setEng (e : Nat) (x : Engine) (b : Nat) : (s.setEng e x).byte b = s.byte b := rfl
@[simp] theorem State.word_setEng (e : Nat) (x : Engine) (b : Nat) : (s.setEng e x).word b = s.word b := rfl
@[simp] theorem State.get_setEng (e : Nat) (x : Engine) (b : Nat) (g : Fld) : (s.setEng e x).get b g = s.get b g := rfl
@[simp] theorem State.on_setEng (e : Nat) (x : Engine) (b : Nat) (g : Fld) : (s.setEng e x).on b g = s.on b g := rfl
@[simp] theorem State.bit_setEng (e : Nat) (x : Engine) (b j : Nat) : (s.setEng e x).bit b j = s.bit b j := rfl
@[simp] theorem State.reg_setConv (k : Nat) (x : Conv) (b : Nat) : (s.setConv k x).reg b = s.reg b := rfl
@[simp] theorem State.eng_setConv (k : Nat) (x : Conv) (b : Nat) : (s.setConv k x).eng b = s.eng b := rfl
@[simp] theorem State.byte_setConv (k : Nat) (x : Conv) (b : Nat) : (s.setConv k x).byte b = s.byte b := rfl
@[simp] theorem State.word_setConv (k : Nat) (x : Conv) (b : Nat) : (s.setConv k x).word b = s.word b := rfl
@[simp] theorem State.get_setConv (k : Nat) (x : Conv) (b : Nat) (g : Fld) : (s.setConv k x).get b g = s.get b g := rfl
@[simp] theorem State.on_setConv (k : Nat) (x : Conv) (b : Nat) (g : Fld) : (s.setConv k x).on b g = s.on b g := rfl
@[simp] theorem State.bit_setConv (k : Nat) (x : Conv) (b j : Nat) : (s.setConv k x).bit b j = s.bit b j := rfl
@[simp] theorem State.reg_setGroup (k : Nat) (x : Group) (b : Nat) : (s.setGroup k x).reg b = s.reg b := rfl
@[simp] theorem State.eng_setGroup (k : Nat) (x : Group) (b : Nat) : (s.setGroup k x).eng b = s.eng b := rfl
@[simp] theorem State.byte_setGroup (k : Nat) (x : Group) (b : Nat) : (s.setGroup k x).byte b = s.byte b := rfl
@[simp] theorem State.word_setGroup (k : Nat) (x : Group) (b : Nat) : (s.setGroup k x).word b = s.word b := rfl
@[simp] theorem State.get_setGroup (k : Nat) (x : Group) (b : Nat) (g : Fld) : (s.setGroup k x).get b g = s.get b g := rfl
@[simp] theorem State.on_setGroup (k : Nat) (x : Group) (b : Nat) (g : Fld) : (s.setGroup k x).on b g = s.on b g := rfl
@[simp] theorem State.bit_setGroup (k : Nat) (x : Group) (b j : Nat) : (s.setGroup k x).bit b j = s.bit b j := rfl
@[simp] theorem State.reg_setSdm (k : Nat) (x : Sdm) (b : Nat) : (s.setSdm k x).reg b = s.reg b := rfl
@[simp] theorem State.eng_setSdm (k : Nat) (x : Sdm) (b : Nat) : (s.setSdm k x).eng b = s.eng b := rfl
@[simp] theorem State.byte_setSdm (k : Nat) (x : Sdm) (b : Nat) : (s.setSdm k x).byte b = s.byte b := rfl
@[simp] theorem State.word_setSdm (k : Nat) (x : Sdm) (b : Nat) : (s.setSdm k x).word b = s.word b := rfl
@[simp] theorem State.get_setSdm (k : Nat) (x : Sdm) (b : Nat) (g : Fld) : (s.setSdm k x).get b g = s.get b g := rfl
@[simp] theorem State.on_setSdm (k : Nat) (x : Sdm) (b : Nat) (g : Fld) : (s.setSdm k x).on b g = s.on b g := rfl
@[simp] theorem State.bit_setSdm (k : Nat) (x : Sdm) (b j : Nat) : (s.setSdm k x).bit b j = s.bit b j := rfl
@[simp] theorem State.reg_setComp (i : Nat) (x : Comp) (b : Nat) : (s.setComp i x).reg b = s.reg b := rfl
@[simp] theorem State.eng_setComp (i : Nat) (x : Comp) (b : Nat) : (s.setComp i x).eng b = s.eng b := rfl
@[simp] theorem State.byte_setComp (i : Nat) (x : Comp) (b : Nat) : (s.setComp i x).byte b = s.byte b := rfl
@[simp] theorem State.word_setComp (i : Nat) (x : Comp) (b : Nat) : (s.setComp i x).word b = s.word b := rfl
@[simp] theorem State.get_setComp (i : Nat) (x : Comp) (b : Nat) (g : Fld) : (s.setComp i x).get b g = s.get b g := rfl
@[simp] theorem State.on_setComp (i : Nat) (x : Comp) (b : Nat) (g : Fld) : (s.setComp i x).on b g = s.on b g := rfl
@[simp] theorem State.bit_setComp (i : Nat) (x : Comp) (b j : Nat) : (s.setComp i x).bit b j = s.bit b j := rfl
@[simp] theorem State.reg_setWin (w : Nat) (x : Window) (b : Nat) : (s.setWin w x).reg b = s.reg b := rfl
@[simp] theorem State.eng_setWin (w : Nat) (x : Window) (b : Nat) : (s.setWin w x).eng b = s.eng b := rfl
@[simp] theorem State.byte_setWin (w : Nat) (x : Window) (b : Nat) : (s.setWin w x).byte b = s.byte b := rfl
@[simp] theorem State.word_setWin (w : Nat) (x : Window) (b : Nat) : (s.setWin w x).word b = s.word b := rfl
@[simp] theorem State.get_setWin (w : Nat) (x : Window) (b : Nat) (g : Fld) : (s.setWin w x).get b g = s.get b g := rfl
@[simp] theorem State.on_setWin (w : Nat) (x : Window) (b : Nat) (g : Fld) : (s.setWin w x).on b g = s.on b g := rfl
@[simp] theorem State.bit_setWin (w : Nat) (x : Window) (b j : Nat) : (s.setWin w x).bit b j = s.bit b j := rfl
@[simp] theorem State.reg_setSlice (n : Nat) (x : Slice) (b : Nat) : (s.setSlice n x).reg b = s.reg b := rfl
@[simp] theorem State.eng_setSlice (n : Nat) (x : Slice) (b : Nat) : (s.setSlice n x).eng b = s.eng b := rfl
@[simp] theorem State.byte_setSlice (n : Nat) (x : Slice) (b : Nat) : (s.setSlice n x).byte b = s.byte b := rfl
@[simp] theorem State.word_setSlice (n : Nat) (x : Slice) (b : Nat) : (s.setSlice n x).word b = s.word b := rfl
@[simp] theorem State.get_setSlice (n : Nat) (x : Slice) (b : Nat) (g : Fld) : (s.setSlice n x).get b g = s.get b g := rfl
@[simp] theorem State.on_setSlice (n : Nat) (x : Slice) (b : Nat) (g : Fld) : (s.setSlice n x).on b g = s.on b g := rfl
@[simp] theorem State.bit_setSlice (n : Nat) (x : Slice) (b j : Nat) : (s.setSlice n x).bit b j = s.bit b j := rfl
@[simp] theorem State.reg_setZone (z : Nat) (x : Zone) (b : Nat) : (s.setZone z x).reg b = s.reg b := rfl
@[simp] theorem State.eng_setZone (z : Nat) (x : Zone) (b : Nat) : (s.setZone z x).eng b = s.eng b := rfl
@[simp] theorem State.byte_setZone (z : Nat) (x : Zone) (b : Nat) : (s.setZone z x).byte b = s.byte b := rfl
@[simp] theorem State.word_setZone (z : Nat) (x : Zone) (b : Nat) : (s.setZone z x).word b = s.word b := rfl
@[simp] theorem State.get_setZone (z : Nat) (x : Zone) (b : Nat) (g : Fld) : (s.setZone z x).get b g = s.get b g := rfl
@[simp] theorem State.on_setZone (z : Nat) (x : Zone) (b : Nat) (g : Fld) : (s.setZone z x).on b g = s.on b g := rfl
@[simp] theorem State.bit_setZone (z : Nat) (x : Zone) (b j : Nat) : (s.setZone z x).bit b j = s.bit b j := rfl
@[simp] theorem State.reg_setFrPort (p : Nat) (x : FrPort) (b : Nat) : (s.setFrPort p x).reg b = s.reg b := rfl
@[simp] theorem State.eng_setFrPort (p : Nat) (x : FrPort) (b : Nat) : (s.setFrPort p x).eng b = s.eng b := rfl
@[simp] theorem State.byte_setFrPort (p : Nat) (x : FrPort) (b : Nat) : (s.setFrPort p x).byte b = s.byte b := rfl
@[simp] theorem State.word_setFrPort (p : Nat) (x : FrPort) (b : Nat) : (s.setFrPort p x).word b = s.word b := rfl
@[simp] theorem State.get_setFrPort (p : Nat) (x : FrPort) (b : Nat) (g : Fld) : (s.setFrPort p x).get b g = s.get b g := rfl
@[simp] theorem State.on_setFrPort (p : Nat) (x : FrPort) (b : Nat) (g : Fld) : (s.setFrPort p x).on b g = s.on b g := rfl
@[simp] theorem State.bit_setFrPort (p : Nat) (x : FrPort) (b j : Nat) : (s.setFrPort p x).bit b j = s.bit b j := rfl
@[simp] theorem State.reg_setSwlPort (l : Nat) (x : SwlPort) (b : Nat) : (s.setSwlPort l x).reg b = s.reg b := rfl
@[simp] theorem State.eng_setSwlPort (l : Nat) (x : SwlPort) (b : Nat) : (s.setSwlPort l x).eng b = s.eng b := rfl
@[simp] theorem State.byte_setSwlPort (l : Nat) (x : SwlPort) (b : Nat) : (s.setSwlPort l x).byte b = s.byte b := rfl
@[simp] theorem State.word_setSwlPort (l : Nat) (x : SwlPort) (b : Nat) : (s.setSwlPort l x).word b = s.word b := rfl
@[simp] theorem State.get_setSwlPort (l : Nat) (x : SwlPort) (b : Nat) (g : Fld) : (s.setSwlPort l x).get b g = s.get b g := rfl
@[simp] theorem State.on_setSwlPort (l : Nat) (x : SwlPort) (b : Nat) (g : Fld) : (s.setSwlPort l x).on b g = s.on b g := rfl
@[simp] theorem State.bit_setSwlPort (l : Nat) (x : SwlPort) (b j : Nat) : (s.setSwlPort l x).bit b j = s.bit b j := rfl
@[simp] theorem State.reg_setSerial (k : Nat) (x : Serial) (b : Nat) : (s.setSerial k x).reg b = s.reg b := rfl
@[simp] theorem State.eng_setSerial (k : Nat) (x : Serial) (b : Nat) : (s.setSerial k x).eng b = s.eng b := rfl
@[simp] theorem State.byte_setSerial (k : Nat) (x : Serial) (b : Nat) : (s.setSerial k x).byte b = s.byte b := rfl
@[simp] theorem State.word_setSerial (k : Nat) (x : Serial) (b : Nat) : (s.setSerial k x).word b = s.word b := rfl
@[simp] theorem State.get_setSerial (k : Nat) (x : Serial) (b : Nat) (g : Fld) : (s.setSerial k x).get b g = s.get b g := rfl
@[simp] theorem State.on_setSerial (k : Nat) (x : Serial) (b : Nat) (g : Fld) : (s.setSerial k x).on b g = s.on b g := rfl
@[simp] theorem State.bit_setSerial (k : Nat) (x : Serial) (b j : Nat) : (s.setSerial k x).bit b j = s.bit b j := rfl
@[simp] theorem State.reg_setCan (c : Nat) (x : Can) (b : Nat) : (s.setCan c x).reg b = s.reg b := rfl
@[simp] theorem State.eng_setCan (c : Nat) (x : Can) (b : Nat) : (s.setCan c x).eng b = s.eng b := rfl
@[simp] theorem State.byte_setCan (c : Nat) (x : Can) (b : Nat) : (s.setCan c x).byte b = s.byte b := rfl
@[simp] theorem State.word_setCan (c : Nat) (x : Can) (b : Nat) : (s.setCan c x).word b = s.word b := rfl
@[simp] theorem State.get_setCan (c : Nat) (x : Can) (b : Nat) (g : Fld) : (s.setCan c x).get b g = s.get b g := rfl
@[simp] theorem State.on_setCan (c : Nat) (x : Can) (b : Nat) (g : Fld) : (s.setCan c x).on b g = s.on b g := rfl
@[simp] theorem State.bit_setCan (c : Nat) (x : Can) (b j : Nat) : (s.setCan c x).bit b j = s.bit b j := rfl
@[simp] theorem State.reg_setRgClu (c : Nat) (x : RgClu) (b : Nat) : (s.setRgClu c x).reg b = s.reg b := rfl
@[simp] theorem State.eng_setRgClu (c : Nat) (x : RgClu) (b : Nat) : (s.setRgClu c x).eng b = s.eng b := rfl
@[simp] theorem State.byte_setRgClu (c : Nat) (x : RgClu) (b : Nat) : (s.setRgClu c x).byte b = s.byte b := rfl
@[simp] theorem State.word_setRgClu (c : Nat) (x : RgClu) (b : Nat) : (s.setRgClu c x).word b = s.word b := rfl
@[simp] theorem State.get_setRgClu (c : Nat) (x : RgClu) (b : Nat) (g : Fld) : (s.setRgClu c x).get b g = s.get b g := rfl
@[simp] theorem State.on_setRgClu (c : Nat) (x : RgClu) (b : Nat) (g : Fld) : (s.setRgClu c x).on b g = s.on b g := rfl
@[simp] theorem State.bit_setRgClu (c : Nat) (x : RgClu) (b j : Nat) : (s.setRgClu c x).bit b j = s.bit b j := rfl
@[simp] theorem State.reg_setDma (c : Nat) (x : Dma) (b : Nat) : (s.setDma c x).reg b = s.reg b := rfl
@[simp] theorem State.eng_setDma (c : Nat) (x : Dma) (b : Nat) : (s.setDma c x).eng b = s.eng b := rfl
@[simp] theorem State.byte_setDma (c : Nat) (x : Dma) (b : Nat) : (s.setDma c x).byte b = s.byte b := rfl
@[simp] theorem State.word_setDma (c : Nat) (x : Dma) (b : Nat) : (s.setDma c x).word b = s.word b := rfl
@[simp] theorem State.get_setDma (c : Nat) (x : Dma) (b : Nat) (g : Fld) : (s.setDma c x).get b g = s.get b g := rfl
@[simp] theorem State.on_setDma (c : Nat) (x : Dma) (b : Nat) (g : Fld) : (s.setDma c x).on b g = s.on b g := rfl
@[simp] theorem State.bit_setDma (c : Nat) (x : Dma) (b j : Nat) : (s.setDma c x).bit b j = s.bit b j := rfl
@[simp] theorem State.reg_setStaged (a : Nat) (x : Option Staged) (b : Nat) : (s.setStaged a x).reg b = s.reg b := rfl
@[simp] theorem State.eng_setStaged (a : Nat) (x : Option Staged) (b : Nat) : (s.setStaged a x).eng b = s.eng b := rfl
@[simp] theorem State.byte_setStaged (a : Nat) (x : Option Staged) (b : Nat) : (s.setStaged a x).byte b = s.byte b := rfl
@[simp] theorem State.word_setStaged (a : Nat) (x : Option Staged) (b : Nat) : (s.setStaged a x).word b = s.word b := rfl
@[simp] theorem State.get_setStaged (a : Nat) (x : Option Staged) (b : Nat) (g : Fld) : (s.setStaged a x).get b g = s.get b g := rfl
@[simp] theorem State.on_setStaged (a : Nat) (x : Option Staged) (b : Nat) (g : Fld) : (s.setStaged a x).on b g = s.on b g := rfl
@[simp] theorem State.bit_setStaged (a : Nat) (x : Option Staged) (b j : Nat) : (s.setStaged a x).bit b j = s.bit b j := rfl
@[simp] theorem settle_reg_at (t : State) (b : Nat) : (settle s t).reg b = t.reg b := rfl
@[simp] theorem settle_eng_at (t : State) (b : Nat) : (settle s t).eng b = t.eng b := rfl
@[simp] theorem settle_byte_at (t : State) (b : Nat) : (settle s t).byte b = t.byte b := rfl
@[simp] theorem settle_word_at (t : State) (b : Nat) : (settle s t).word b = t.word b := rfl
@[simp] theorem settle_get_at (t : State) (b : Nat) (g : Fld) : (settle s t).get b g = t.get b g := rfl
@[simp] theorem settle_on_at (t : State) (b : Nat) (g : Fld) : (settle s t).on b g = t.on b g := rfl
@[simp] theorem settle_bit_at (t : State) (b j : Nat) : (settle s t).bit b j = t.bit b j := rfl

end Sys2Proof.Machine
end

