-- ==== Sys2Proof/Laws/Frame.lean ====
section
/-!
SUPPORT. `SameButMem` through the named operations: what a meaning leaves as it was follows from what each operation that it is
built of leaves as it was.
-/

namespace Sys2Proof.Machine

variable {s t : State} {rs es : List Nat} {m n : Nat}

theorem SameButMem.refl (s : State) (rs es : List Nat) (m n : Nat) : SameButMem s s rs es m n :=
  ⟨fun _ _ => rfl, fun _ _ => rfl, fun _ _ => rfl, rfl, rfl, rfl⟩

/-- An update of fields outside the register file, the engines, memory, TB, the mode and the queue. -/
theorem SameButMem.upd {u : State} (h : SameButMem s t rs es m n) (hr : u.regs = t.regs) (he : u.engs = t.engs)
    (hm : u.mem = t.mem) (ht : u.tb = t.tb) (ho : u.mode = t.mode) (hp : u.pending = t.pending) : SameButMem s u rs es m n :=
  ⟨fun a ha => (by rw [State.reg, hr]; exact h.regs a ha), fun e h' => (by rw [State.eng, he]; exact h.engs e h'),
   fun a ha => (by rw [State.byte, hm]; exact h.mem a ha), ht.trans h.tb, ho.trans h.mode, hp.trans h.pending⟩

theorem SameButMem.setReg (h : SameButMem s t rs es m n) (a : Nat) (w : Word) (ha : a ∈ rs) : SameButMem s (t.setReg a w) rs es m n :=
  ⟨fun b hb => (State.reg_setReg_ne t w (fun e => hb (by rw [e]; exact ha))).trans (h.regs b hb), h.engs, h.mem, h.tb, h.mode, h.pending⟩

theorem SameButMem.set (h : SameButMem s t rs es m n) (a : Nat) (f : Fld) (v : Nat) (ha : a ∈ rs) : SameButMem s (t.set a f v) rs es m n :=
  (h.setReg a _ ha).upd rfl rfl rfl rfl rfl rfl

theorem SameButMem.setB (h : SameButMem s t rs es m n) (a : Nat) (f : Fld) (v : Bool) (ha : a ∈ rs) : SameButMem s (t.setB a f v) rs es m n :=
  h.set a f _ ha

theorem SameButMem.setBit (h : SameButMem s t rs es m n) (a i : Nat) (v : Bool) (ha : a ∈ rs) : SameButMem s (t.setBit a i v) rs es m n :=
  h.setReg a _ ha

theorem SameButMem.flagIf (h : SameButMem s t rs es m n) (c : Bool) (a : Nat) (f : Fld) (ha : a ∈ rs) : SameButMem s (t.flagIf c a f) rs es m n := by
  unfold State.flagIf; split
  · exact h.set a f _ ha
  · exact h

theorem SameButMem.reply (h : SameButMem s t rs es m n) (q : Req) (b : Bool) (v : Word) : SameButMem s (t.reply q b v) rs es m n :=
  h.upd rfl rfl rfl rfl rfl rfl

theorem SameButMem.settle (h : SameButMem s t rs es m n) (s0 : State) : SameButMem s (settle s0 t) rs es m n :=
  h.upd rfl rfl rfl rfl rfl rfl

theorem SameButMem.setEng (h : SameButMem s t rs es m n) (e : Nat) (x : Engine) (he : e ∈ es) : SameButMem s (t.setEng e x) rs es m n :=
  ⟨h.regs, fun d hd => (State.eng_setEng_ne t x (fun q => hd (by rw [q]; exact he))).trans (h.engs d hd), h.mem, h.tb, h.mode, h.pending⟩

theorem SameButMem.pendVec (h : SameButMem s t rs es m n) (e v : Nat) (he : e ∈ es) : SameButMem s (t.pendVec e v) rs es m n := by
  unfold State.pendVec; dsimp only; split
  · exact h
  · exact h.setEng e _ he

theorem SameButMem.fireAt (h : SameButMem s t rs es m n) (p u : Nat) : SameButMem s (t.fireAt p u) rs es m n := by
  unfold State.fireAt; split
  · exact h.upd rfl rfl rfl rfl rfl rfl
  · exact h

theorem SameButMem.fireIf (h : SameButMem s t rs es m n) (c : Bool) (p : Nat) : SameButMem s (t.fireIf c p) rs es m n := by
  unfold State.fireIf; split
  · exact h.fireAt _ _
  · exact h

theorem SameButMem.setReady (h : SameButMem s t rs es m n) (w b : Nat) (v : Bool) (hw : aREADY w ∈ rs) (hm : aMODE ∈ rs) :
    SameButMem s (t.setReady w b v) rs es m n := by
  unfold State.setReady; split
  · exact h
  · have h' := (h.setBit (aREADY w) b v hw).set aMODE MODE.ready_chg 1 hm
    dsimp only
    split
    · exact h'
    · unfold State.fire
      exact SameButMem.fireAt (h'.upd (by with_reducible rfl) (by with_reducible rfl) (by with_reducible rfl) (by with_reducible rfl)
        (by with_reducible rfl) (by with_reducible rfl)) _ _

theorem SameButMem.each (l : List Nat) (f : State → Nat → State) (hf : ∀ u k, k ∈ l → SameButMem s u rs es m n → SameButMem s (f u k) rs es m n)
    (h : SameButMem s t rs es m n) : SameButMem s (t.each l f) rs es m n := by
  unfold State.each
  induction l generalizing t with
  | nil => exact h
  | cons a l ih => exact ih (fun u k hk => hf u k (List.mem_cons_of_mem _ hk)) (hf _ _ (List.mem_cons_self ..) h)

theorem SameButMem.putByte (h : SameButMem s t rs es m n) (a : Nat) (b : Byte) (ha : m ≤ a) (hn : a < m + n) : SameButMem s (t.putByte a b) rs es m n :=
  ⟨h.regs, h.engs, fun c hc => (State.byte_putByte_ne t b (by omega)).trans (h.mem c hc), h.tb, h.mode, h.pending⟩

theorem SameButMem.putBytes (h : SameButMem s t rs es m n) (a : Nat) (w : Word) (k : Nat) (ha : m ≤ a) (hn : a + k ≤ m + n) :
    SameButMem s (t.putBytes a w k) rs es m n := by
  induction k with
  | zero => exact h
  | succ k ih => exact (ih (by omega)).putByte _ _ (by omega) (by omega)

/-! ### Bits of a register -/

theorem putBit_getLsbD (w : Word) (i j : Nat) (b : Bool) (hi : i < 32) :
    (putBit w i b).getLsbD j = if j = i then b else w.getLsbD j := by
  unfold putBit
  by_cases h : j = i
  · subst h
    cases b <;> simp [hi]
  · rw [if_neg h]
    cases b
    · simp only [Bool.false_eq_true, if_false, BitVec.getLsbD_and, BitVec.getLsbD_not, BitVec.getLsbD_shiftLeft, BitVec.getLsbD_ofNat]
      by_cases hj : j < 32
      · rcases Nat.lt_or_ge j i with hlt | hge
        · simp [hlt, hj]
        · have : j - i ≠ 0 := by omega
          obtain ⟨d, hd⟩ : ∃ d, j - i = d + 1 := ⟨j - i - 1, by omega⟩
          simp [hd, hj, Nat.testBit_succ]
      · simp [hj, BitVec.getLsbD_of_ge w j (by omega)]
    · simp only [if_true, BitVec.getLsbD_or, BitVec.getLsbD_shiftLeft, BitVec.getLsbD_ofNat]
      by_cases hj : j < 32
      · rcases Nat.lt_or_ge j i with hlt | hge
        · simp [hlt]
        · obtain ⟨d, hd⟩ : ∃ d, j - i = d + 1 := ⟨j - i - 1, by omega⟩
          simp [hd, Nat.testBit_succ]
      · simp [hj]

theorem State.bit_setBit_self (s : State) (a i : Nat) (b : Bool) (hi : i < 32) : (s.setBit a i b).bit a i = b := by
  rw [State.bit, State.setBit, State.reg_setReg_self, putBit_getLsbD _ _ _ _ hi, if_pos rfl]

theorem State.bit_setBit_ne (s : State) {a c i j : Nat} (b : Bool) (hi : i < 32) (h : c ≠ a ∨ j ≠ i) :
    (s.setBit a i b).bit c j = s.bit c j := by
  rw [State.bit, State.setBit]
  by_cases hc : c = a
  · subst hc
    rw [State.reg_setReg_self, putBit_getLsbD _ _ _ _ hi, if_neg (h.resolve_left (fun x => x rfl))]; rfl
  · rw [State.reg_setReg_ne _ _ hc]; rfl

/-! ### Responses and words -/

@[simp] theorem State.respOf_reply (s : State) (q : Req) (b : Bool) (v : Word) : (s.reply q b v).respOf q = { err := b, val := v } :=
  s.resp_reply_self q b v

@[simp] theorem State.respOf_refuse (s : State) (q : Req) : (s.refuse q).respOf q = { err := true, val := 0 } := s.resp_reply_self q _ _

/-- A stored word reads back. -/
theorem State.word_putWord (s : State) (a : Nat) (w : Word) : (s.putWord a w).word a = w := by
  have h1 (t : State) (i : Nat) (b : Byte) (j : Nat) (h : j ≠ i) : (t.putByte (a + i) b).byte (a + j) = t.byte (a + j) :=
    State.byte_putByte_ne t b (by omega)
  have key (t : State) (i : Nat) (b : Byte) : (t.putByte (a + i) b).byte (a + i) = b := State.byte_putByte_self t _ b
  have e : s.putWord a w = (((s.putByte (a + 0) (byteOf w 0)).putByte (a + 1) (byteOf w 1)).putByte (a + 2) (byteOf w 2)).putByte (a + 3) (byteOf w 3) := rfl
  have b3 : (s.putWord a w).byte (a + 3) = byteOf w 3 := by rw [e, key]
  have b2 : (s.putWord a w).byte (a + 2) = byteOf w 2 := by rw [e, h1 _ _ _ _ (by decide), key]
  have b1 : (s.putWord a w).byte (a + 1) = byteOf w 1 := by rw [e, h1 _ _ _ _ (by decide), h1 _ _ _ _ (by decide), key]
  have b0 : (s.putWord a w).byte a = byteOf w 0 := by
    have := h1 (((s.putByte (a + 0) (byteOf w 0)).putByte (a + 1) (byteOf w 1)).putByte (a + 2) (byteOf w 2)) 3 (byteOf w 3) 0 (by decide)
    rw [e]
    exact this.trans ((h1 _ 2 _ 0 (by decide)).trans ((h1 _ 1 _ 0 (by decide)).trans (key s 0 _)))
  rw [State.word, b3, b2, b1, b0]
  unfold byteOf
  ext i hi
  simp only [BitVec.getElem_append, BitVec.getElem_setWidth, BitVec.getLsbD_ushiftRight]
  repeat' split
  all_goals (rw [← BitVec.getLsbD_eq_getElem]; congr 1; omega)

end Sys2Proof.Machine
end

