-- ==== Sys2Proof/Laws/Bundle.lean ====
section
/-!
SUPPORT. What the execution of a bundle comes to: the evaluation of a bundle of one slot is that of the slot; a bundle that
evaluates to its writes makes them and goes on at the next bundle or at its target.
-/

namespace Sys2Proof.Machine

@[simp] theorem Put.then_nil (p : Put) : p.then {} = p := by
  cases p with
  | mk room act cnd more next eret => cases cnd <;> simp [Put.then]

@[simp] theorem Put.nil_then (p : Put) : Put.then {} p = p := by
  cases p with
  | mk room act cnd more next eret => cases next <;> cases eret <;> simp [Put.then]

variable {s : State} {e : Nat} {p : Put} {ws g h : List Word} {n : Nat}

/-- A bundle whose only slot is the A-slot. -/
theorem State.evalBundle_a {k : ASlot} (hr : s.on (aENG_S e) ENG_S.resume = false) (hp : s.slotA e k g = .ok p h) :
    s.evalBundle e { a := some k, len := n } g = .ok p h := by
  have h1 : (s.slotA e k).bind (fun p => (Run.ret ({} : Put)).bind (fun q => (Run.ret ({} : Put)).bind (fun r => (Run.ret ({} : Put)).bind
      (fun u => .ret (((p.then q).then r).then u))))) g = .ok p h := by
    simp [Run.bind, hp, Run.ret]
  simpa [State.evalBundle, hr, State.allSlots, slot] using h1

/-- A bundle whose only slot is the X-slot. -/
theorem State.evalBundle_x {k : XSlot} (hr : s.on (aENG_S e) ENG_S.resume = false) (hp : s.slotX e k g = .ok p h) :
    s.evalBundle e { x := some k, len := n } g = .ok p h := by
  have h1 : (Run.ret ({} : Put)).bind (fun p => (s.slotX e k).bind (fun q => (Run.ret ({} : Put)).bind (fun r => (Run.ret ({} : Put)).bind
      (fun u => .ret (((p.then q).then r).then u))))) g = .ok p h := by
    simp [Run.bind, hp, Run.ret]
  simpa [State.evalBundle, hr, State.allSlots, slot] using h1

/-- A bundle whose only slot is the T-slot. -/
theorem State.evalBundle_t {k : TSlot} (hr : s.on (aENG_S e) ENG_S.resume = false) (hp : s.slotT e k g = .ok p h) :
    s.evalBundle e { t := some k, len := n } g = .ok p h := by
  have h1 : (Run.ret ({} : Put)).bind (fun p => (Run.ret ({} : Put)).bind (fun q => (s.slotT e k).bind (fun r => (Run.ret ({} : Put)).bind
      (fun u => .ret (((p.then q).then r).then u))))) g = .ok p h := by
    simp [Run.bind, hp, Run.ret]
  simpa [State.evalBundle, hr, State.allSlots, slot] using h1

/-- A bundle whose only slot is the C-slot, with an instruction that its ring may execute. -/
theorem State.evalBundle_c {k : COp} (hr : s.on (aENG_S e) ENG_S.resume = false) (hb : s.ring e ≠ 3 ∨ k.barred = false) :
    s.evalBundle e { c := some k, len := n } g = s.slotC e { c := some k, len := n } k g := by
  have h1 : (Run.ret ({} : Put)).bind (fun p => (Run.ret ({} : Put)).bind (fun q => (Run.ret ({} : Put)).bind (fun r => (s.slotC e { c := some k, len := n } k).bind
      (fun u => .ret (((p.then q).then r).then u))))) g = s.slotC e { c := some k, len := n } k g := by
    simp only [Run.bind, Run.ret]
    cases s.slotC e { c := some k, len := n } k g <;> simp
  have h2 : (s.ring e == 3 && k.barred) = false := by rcases hb with hb | hb <;> simp [hb]
  simpa [State.evalBundle, hr, State.allSlots, slot, h2] using h1

/-- An engine that executes a bundle of the kind asked for goes through it. -/
theorem State.Executes.runOp {b : Bundle} (he : s.Executes e ws b) {P : Bundle → Bool} (hP : P b = true) :
    s.runOp e P = State.go e b ws maxLoads s := by
  simp [State.runOp, he.runs, he.fetch, he.decode, hP, he.sound]

/-- A bundle that evaluates to writes without a conditional store, a block move that goes on or an `ERET` makes them, and goes on; a
transfer that it takes kills a bundle whose fetch leaves no trace. -/
theorem State.Executes.completes {b : Bundle} (he : s.Executes e ws b) (hv : s.evalBundle e b (s.eng e).got = .ok p h)
    (hc : p.cnd = none) (hm : p.more = false) (ht : p.eret = none) (hr : (s.eng e).buf.length + p.room ≤ bufCap e)
    (hk : p.next = none ∨ s.killed e (s.seqPc e b) = s) :
    State.go e b ws maxLoads s = (p.act s).retire e (s.eng e).pc (p.next.getD (s.seqPc e b)) := by
  have hl : s.loopEnd e (s.seqPc e b) = (s, s.seqPc e b) := by simp [State.loopEnd, he.loop1, he.loop0]
  have hcap : ¬ bufCap e < (s.eng e).buf.length + p.room := by omega
  simp only [maxLoads, State.go, hv, State.complete, hcap, if_false, hc, State.commitBundle, hm, ht, he.resumePc, Option.isSome_none,
    Bool.false_eq_true]
  cases hn : p.next with
  | none => simp [hl]
  | some a => simp [hk.resolve_left (by simp [hn])]

/-- A bundle that evaluates to an exception raises it. -/
theorem State.Executes.raises {b : Bundle} {f : Flt} (hv : s.evalBundle e b (s.eng e).got = .fault f) :
    State.go e b ws maxLoads s = s.raise e f := by simp [maxLoads, State.go, hv]

/-- A bundle that evaluates to a wait enters it. -/
theorem State.Executes.waits {b : Bundle} {w : Wait} (hv : s.evalBundle e b (s.eng e).got = .wait w) :
    State.go e b ws maxLoads s = s.enterWait e ws w := by simp [maxLoads, State.go, hv]

/-! ### The end of a bundle -/

/-- ENG_STATUS as the end of a bundle leaves it hides neither its own other fields nor another register. -/
theorem State.on_after_set2 (t : State) {a b : Nat} {f g k l : Fld} (v w : Nat) (hne : b ≠ a) (hf : f.lo ≤ f.hi ∧ f.hi < 32)
    (hg : g.lo ≤ g.hi ∧ g.hi < 32) (hk : k.lo ≤ k.hi) (h1 : f.hi < k.lo ∨ k.hi < f.lo) (h2 : g.hi < k.lo ∨ k.hi < g.lo) :
    ((t.set a f v).set a g w).on a k = t.on a k ∧ ((t.set a f v).set a g w).on b l = t.on b l := by
  constructor
  · rw [State.on, State.get_set_other _ _ hg.1 hg.2 hk h2, State.get_set_other _ _ hf.1 hf.2 hk h1, State.on]
  · rw [State.on, State.get_set_ne _ _ hne, State.get_set_ne _ _ hne, State.on]

/-- A Newt whose shown bank is the one that bank_sel names keeps it. -/
theorem State.bankBoundary_eq (t : State) (hb : isNewt e = true → t.on (aENG_STATUS e) ENG_STATUS.active_bank = t.on (aENG_CTRL e) ENG_CTRL.bank_sel) :
    t.bankBoundary e = t := by
  unfold State.bankBoundary
  by_cases hn : e < 256
  · have := hb (by simpa [isNewt] using hn)
    rw [this]; simp
  · simp [hn]

theorem ctrl_ne_status (e : Nat) : aENG_CTRL e ≠ aENG_STATUS e := by
  unfold aENG_CTRL aENG_STATUS
  generalize engBase e = b
  omega

/-- The end of a bundle, on the state in which the engine has its new PC. -/
theorem State.retire_end {u : State} {pc : Nat}
    (hb : isNewt e = true → u.on (aENG_STATUS e) ENG_STATUS.active_bank = u.on (aENG_CTRL e) ENG_CTRL.bank_sel)
    (hh : (u.eng e).halting = false) :
    (let v := ((u.set (aENG_STATUS e) ENG_STATUS.waiting 0).set (aENG_STATUS e) ENG_STATUS.pc (pc % 65536)).bankBoundary e
     if (v.eng e).halting then v.haltNow e else v) =
      (u.set (aENG_STATUS e) ENG_STATUS.waiting 0).set (aENG_STATUS e) ENG_STATUS.pc (pc % 65536) := by
  have hs := State.on_after_set2 u (k := ENG_STATUS.active_bank) (l := ENG_CTRL.bank_sel) (f := ENG_STATUS.waiting) (g := ENG_STATUS.pc)
    0 (pc % 65536) (ctrl_ne_status e) (by decide) (by decide) (by decide) (by decide) (by decide)
  have hbb := State.bankBoundary_eq (e := e) ((u.set (aENG_STATUS e) ENG_STATUS.waiting 0).set (aENG_STATUS e) ENG_STATUS.pc (pc % 65536))
    (fun hn => by rw [hs.1, hs.2]; exact hb hn)
  rw [hbb]
  have hx : (((u.set (aENG_STATUS e) ENG_STATUS.waiting 0).set (aENG_STATUS e) ENG_STATUS.pc (pc % 65536)).eng e).halting = false := by
    rw [State.eng_set, State.eng_set]; exact hh
  show (if _ then _ else _) = _
  rw [if_neg (by rw [hx]; exact Bool.false_ne_true)]

/-- The engine after its bundle: at `next`, with nothing of a bundle left. -/
def Engine.after (x : Engine) (next : Nat) : Engine :=
  { x with pc := next, cur := [], got := [], seen := [], wait := .none, resumePc := none, first := none, reply := .none, part := [], skip := [] }

/-- Where no bank swap and no stop is due, the end of a bundle is the engine's new PC and what ENG_STATUS shows. -/
theorem State.retire_eq {t : State} {pc next : Nat}
    (hb : isNewt e = true → t.on (aENG_STATUS e) ENG_STATUS.active_bank = t.on (aENG_CTRL e) ENG_CTRL.bank_sel)
    (hh : (t.eng e).halting = false) :
    t.retire e pc next = ((t.setEng e ((t.eng e).after next)).set (aENG_STATUS e) ENG_STATUS.waiting 0).set (aENG_STATUS e) ENG_STATUS.pc
      (pc % 65536) :=
  State.retire_end (fun hn => by rw [State.on_setEng, State.on_setEng]; exact hb hn) (by rw [State.eng_setEng_self]; exact hh)

end Sys2Proof.Machine
end

