-- ==== Sys2Proof/Laws/Keeps.lean ====
section
/-!
SUPPORT. What every operation of the machine keeps: the queue of commands, the canonical form of memory, the canonical form of
the register file. `Keeps` composes, so that a lemma per operation (KeepsCore to KeepsExec) carries it through any meaning: the
lemma `f_keeps` says that `f` keeps it from wherever its argument has kept it.
-/

namespace Sys2Proof.Machine

set_option linter.unusedTactic false
set_option linter.unreachableTactic false

/-- From `s` to `t` the queue of commands is untouched, and memory and the register file stay in their canonical form. -/
structure Keeps (s t : State) : Prop where
  pending : t.pending = s.pending
  tb : t.tb = s.tb
  mem : Memory.wf s.mem → Memory.wf t.mem
  regs : Regs.wf s.regs → Regs.wf t.regs

theorem Keeps.refl (s : State) : Keeps s s := ⟨rfl, rfl, id, id⟩

theorem Keeps.upd {s0 s t : State} (h : Keeps s0 s) (hp : t.pending = s.pending) (ht : t.tb = s.tb) (hm : t.mem = s.mem) (hr : t.regs = s.regs) : Keeps s0 t :=
  ⟨hp.trans h.pending, ht.trans h.tb, fun x => hm ▸ h.mem x, fun x => hr ▸ h.regs x⟩

theorem ite_keeps {s0 a b : State} {c : Prop} [Decidable c] (ha : Keeps s0 a) (hb : Keeps s0 b) : Keeps s0 (if c then a else b) := by
  split <;> assumption

theorem foldl_keeps {α : Type} {s0 : State} {f : State → α → State} {l : List α} {s : State} (h : Keeps s0 s)
    (hf : ∀ t x, Keeps s0 t → Keeps s0 (f t x)) : Keeps s0 (l.foldl f s) := by
  induction l generalizing s with
  | nil => exact h
  | cons a l ih => exact ih (hf _ _ h)

theorem pair_keeps {α : Type} {s0 t : State} {x : α} {p : State × α} (h : Keeps s0 p.1) (e : p = (t, x)) : Keeps s0 t := by
  subst e; exact h

theorem pair_keeps2 {α : Type} {s0 t : State} {x : α} {p : α × State} (h : Keeps s0 p.2) (e : p = (x, t)) : Keeps s0 t := by
  subst e; exact h

theorem mk_keeps {s0 s : State} (h : Keeps s0 s) (resp : SMap Resp) (shadows : SMap Word) (mode : Mode) (time : TimeSt) (cv : ConvSt) (mon
    : MonSt) (fab : FabSt) (engs : SMap Engine) (rsv : RsvSt) (fifos : SMap (List Xfer)) (routed : List Nat) (ue : List Nat) (ce : List
    Nat) (carried : Option Xfer) (fresh : Nat) (pwm : PwmSt) (trip : TripSt) (cc : CommitSt) (qm : QmSt) (dma : DmaSt) (fr : FrSt) (swl :
    SwlSt) (std : StdSt) (nvm : NvmSt) (av : AvailSt) (rst : RstSt) (trimConflicts : List Nat) (cyc : Cycle) (trims : SMap (List Word)) :
    Keeps s0 (State.mk s.pending s.tb s.regs s.mem resp shadows mode time cv mon fab engs rsv fifos routed ue ce carried fresh pwm trip cc
    qm dma fr swl std nvm av rst trimConflicts cyc trims) := ⟨h.pending, h.tb, h.mem, h.regs⟩

/-- An operation that may answer nothing keeps what `Keeps` says whenever it answers. -/
def OKeeps (s0 : State) (o : Option State) : Prop := ∀ t, o = some t → Keeps s0 t

theorem some_okeeps {s0 s : State} (h : Keeps s0 s) : OKeeps s0 (some s) := fun _ e => Option.some.inj e ▸ h

theorem none_okeeps {s0 : State} : OKeeps s0 none := fun _ e => nomatch e

theorem opt_keeps {s0 t : State} {o : Option State} (h : OKeeps s0 o) (e : o = some t) : Keeps s0 t := h t e

theorem getD_keeps {s0 d : State} {o : Option State} (h : OKeeps s0 o) (hd : Keeps s0 d) : Keeps s0 (o.getD d) := by
  cases o with
  | none => exact hd
  | some t => exact h t rfl

theorem oite_keeps {s0 : State} {a b : Option State} {c : Prop} [Decidable c] (ha : OKeeps s0 a) (hb : OKeeps s0 b) : OKeeps s0 (if c then a else b) := by
  split <;> assumption

theorem omap_keeps {s0 : State} {o : Option State} {f : State → State} (h : OKeeps s0 o) (hf : ∀ t, Keeps s0 t → Keeps s0 (f t)) :
    OKeeps s0 (o.map f) := by
  cases o with
  | none => exact none_okeeps
  | some t => exact some_okeeps (hf t (h t rfl))

theorem id_keeps {s0 s : State} (h : Keeps s0 s) : Keeps s0 (id s) := h

theorem pite_keeps {α : Type} {s0 : State} {a b : State × α} {c : Prop} [Decidable c] (ha : Keeps s0 a.1) (hb : Keeps s0 b.1) :
    Keeps s0 (if c then a else b).1 := by
  split <;> assumption

theorem State.setReg_keeps {s0 : State} (s : State) (a : Nat) (w : Word) (hk : Keeps s0 s) : Keeps s0 (s.setReg a w) :=
  ⟨hk.pending, hk.tb, hk.mem, fun h => swf_sput resetWord a w s.regs (hk.regs h)⟩

theorem State.putByte_keeps {s0 : State} (s : State) (a : Nat) (w : Byte) (hk : Keeps s0 s) : Keeps s0 (s.putByte a w) :=
  ⟨hk.pending, hk.tb, fun h => swf_sput initByte a w s.mem (hk.mem h), hk.regs⟩

theorem State.putBytes_keeps {s0 : State} (s : State) (a : Nat) (w : Word) (n : Nat) (hk : Keeps s0 s) : Keeps s0 (s.putBytes a w n) := by
  induction n with
  | zero => exact hk
  | succ n ih => exact State.putByte_keeps _ _ _ ih

theorem State.clearMem_keeps {s0 : State} (s : State) (a n : Nat) (hk : Keeps s0 s) : Keeps s0 (s.clearMem a n) :=
  ⟨hk.pending, hk.tb, fun h => swf_filter initByte s.mem _ (hk.mem h), hk.regs⟩

theorem settleAt_keeps {s0 : State} (u : Nat) (s t : State) (hk : Keeps s0 t) : Keeps s0 (settleAt u s t) := hk.upd rfl rfl rfl rfl

theorem settle_keeps {s0 : State} (s t : State) (hk : Keeps s0 t) : Keeps s0 (settle s t) := hk.upd rfl rfl rfl rfl

end Sys2Proof.Machine
end

