-- ==== Sys2Proof/Laws/KeepsCore.lean ====
section
/-!
SUPPORT. What `Keeps` says, one lemma per operation: the operations of Ops, RegWrite, Levels, Fabric, Ecc, Timebase.
-/

namespace Sys2Proof.Machine

set_option linter.unusedTactic false
set_option linter.unreachableTactic false

theorem State.set_keeps {b0 : State} (s : State) (a : ℕ) (f : Fld) (v : ℕ) (hs : Keeps b0 s) :
    Keeps b0 (State.set s a f v) := by
  unfold State.set
  repeat' (first
    | with_reducible first
      | assumption | apply State.setReg_keeps | refine foldl_keeps ?_ ?_ | refine ite_keeps ?_ ?_ | refine pite_keeps ?_ ?_
      | exact none_okeeps | apply some_okeeps | refine oite_keeps ?_ ?_ | refine getD_keeps ?_ ?_ | refine omap_keeps ?_ ?_
      | apply id_keeps
    | intro _ _ _
    | intro _ _
    | split
    | with_reducible first
      | refine pair_keeps ?_ (by assumption) | refine pair_keeps2 ?_ (by assumption)
      | refine opt_keeps ?_ (by assumption)
    | dsimp only
    | fail_if_no_progress with_reducible apply mk_keeps)

theorem State.setB_keeps {b0 : State} (s : State) (a : ℕ) (f : Fld) (b : Bool) (hs : Keeps b0 s) :
    Keeps b0 (State.setB s a f b) := by
  unfold State.setB
  repeat' (first
    | with_reducible first
      | assumption | apply State.set_keeps | refine foldl_keeps ?_ ?_ | refine ite_keeps ?_ ?_ | refine pite_keeps ?_ ?_
      | exact none_okeeps | apply some_okeeps | refine oite_keeps ?_ ?_ | refine getD_keeps ?_ ?_ | refine omap_keeps ?_ ?_
      | apply id_keeps
    | intro _ _ _
    | intro _ _
    | split
    | with_reducible first
      | refine pair_keeps ?_ (by assumption) | refine pair_keeps2 ?_ (by assumption)
      | refine opt_keeps ?_ (by assumption)
    | dsimp only
    | fail_if_no_progress with_reducible apply mk_keeps)

theorem State.flagIf_keeps {b0 : State} (s : State) (c : Bool) (a : ℕ) (f : Fld) (hs : Keeps b0 s) :
    Keeps b0 (State.flagIf s c a f)
    := by
  unfold State.flagIf
  repeat' (first
    | with_reducible first
      | assumption | apply State.set_keeps | refine foldl_keeps ?_ ?_ | refine ite_keeps ?_ ?_ | refine pite_keeps ?_ ?_
      | exact none_okeeps | apply some_okeeps | refine oite_keeps ?_ ?_ | refine getD_keeps ?_ ?_ | refine omap_keeps ?_ ?_
      | apply id_keeps
    | intro _ _ _
    | intro _ _
    | split
    | with_reducible first
      | refine pair_keeps ?_ (by assumption) | refine pair_keeps2 ?_ (by assumption)
      | refine opt_keeps ?_ (by assumption)
    | dsimp only
    | fail_if_no_progress with_reducible apply mk_keeps)

theorem State.setBit_keeps {b0 : State} (s : State) (a : ℕ) (i : ℕ) (b : Bool) (hs : Keeps b0 s) :
    Keeps b0 (State.setBit s a i b)
    := by
  unfold State.setBit
  repeat' (first
    | with_reducible first
      | assumption | apply State.setReg_keeps | refine foldl_keeps ?_ ?_ | refine ite_keeps ?_ ?_ | refine pite_keeps ?_ ?_
      | exact none_okeeps | apply some_okeeps | refine oite_keeps ?_ ?_ | refine getD_keeps ?_ ?_ | refine omap_keeps ?_ ?_
      | apply id_keeps
    | intro _ _ _
    | intro _ _
    | split
    | with_reducible first
      | refine pair_keeps ?_ (by assumption) | refine pair_keeps2 ?_ (by assumption)
      | refine opt_keeps ?_ (by assumption)
    | dsimp only
    | fail_if_no_progress with_reducible apply mk_keeps)

theorem State.lowerBit_keeps {b0 : State} (s : State) (a : ℕ) (i : ℕ) (hs : Keeps b0 s) :
    Keeps b0 (State.lowerBit s a i) := by
  unfold State.lowerBit
  repeat' (first
    | with_reducible first
      | assumption | apply State.setBit_keeps | refine foldl_keeps ?_ ?_ | refine ite_keeps ?_ ?_ | refine pite_keeps ?_ ?_
      | exact none_okeeps | apply some_okeeps | refine oite_keeps ?_ ?_ | refine getD_keeps ?_ ?_ | refine omap_keeps ?_ ?_
      | apply id_keeps
    | intro _ _ _
    | intro _ _
    | split
    | with_reducible first
      | refine pair_keeps ?_ (by assumption) | refine pair_keeps2 ?_ (by assumption)
      | refine opt_keeps ?_ (by assumption)
    | dsimp only
    | fail_if_no_progress with_reducible apply mk_keeps)

theorem State.raiseBit_keeps {b0 : State} (s : State) (a : ℕ) (i : ℕ) (hs : Keeps b0 s) :
    Keeps b0 (State.raiseBit s a i) := by
  unfold State.raiseBit
  repeat' (first
    | with_reducible first
      | assumption | apply State.setBit_keeps | refine foldl_keeps ?_ ?_ | refine ite_keeps ?_ ?_ | refine pite_keeps ?_ ?_
      | exact none_okeeps | apply some_okeeps | refine oite_keeps ?_ ?_ | refine getD_keeps ?_ ?_ | refine omap_keeps ?_ ?_
      | apply id_keeps
    | intro _ _ _
    | intro _ _
    | split
    | with_reducible first
      | refine pair_keeps ?_ (by assumption) | refine pair_keeps2 ?_ (by assumption)
      | refine opt_keeps ?_ (by assumption)
    | dsimp only
    | fail_if_no_progress with_reducible apply mk_keeps)

theorem State.raiseBits_keeps {b0 : State} (s : State) (a : ℕ) (f : Fld) (m : ℕ) (hs : Keeps b0 s) :
    Keeps b0 (State.raiseBits s a f m) := by
  unfold State.raiseBits
  repeat' (first
    | with_reducible first
      | assumption | apply State.setReg_keeps | refine foldl_keeps ?_ ?_ | refine ite_keeps ?_ ?_ | refine pite_keeps ?_ ?_
      | exact none_okeeps | apply some_okeeps | refine oite_keeps ?_ ?_ | refine getD_keeps ?_ ?_ | refine omap_keeps ?_ ?_
      | apply id_keeps
    | intro _ _ _
    | intro _ _
    | split
    | with_reducible first
      | refine pair_keeps ?_ (by assumption) | refine pair_keeps2 ?_ (by assumption)
      | refine opt_keeps ?_ (by assumption)
    | dsimp only
    | fail_if_no_progress with_reducible apply mk_keeps)

theorem State.incSat_keeps {b0 : State} (s : State) (a : ℕ) (f : Fld) (hs : Keeps b0 s) :
    Keeps b0 (State.incSat s a f) := by
  unfold State.incSat
  repeat' (first
    | with_reducible first
      | assumption | apply State.set_keeps | refine foldl_keeps ?_ ?_ | refine ite_keeps ?_ ?_ | refine pite_keeps ?_ ?_
      | exact none_okeeps | apply some_okeeps | refine oite_keeps ?_ ?_ | refine getD_keeps ?_ ?_ | refine omap_keeps ?_ ?_
      | apply id_keeps
    | intro _ _ _
    | intro _ _
    | split
    | with_reducible first
      | refine pair_keeps ?_ (by assumption) | refine pair_keeps2 ?_ (by assumption)
      | refine opt_keeps ?_ (by assumption)
    | dsimp only
    | fail_if_no_progress with_reducible apply mk_keeps)

theorem State.incWrap_keeps {b0 : State} (s : State) (a : ℕ) (f : Fld) (hs : Keeps b0 s) :
    Keeps b0 (State.incWrap s a f) := by
  unfold State.incWrap
  repeat' (first
    | with_reducible first
      | assumption | apply State.set_keeps | refine foldl_keeps ?_ ?_ | refine ite_keeps ?_ ?_ | refine pite_keeps ?_ ?_
      | exact none_okeeps | apply some_okeeps | refine oite_keeps ?_ ?_ | refine getD_keeps ?_ ?_ | refine omap_keeps ?_ ?_
      | apply id_keeps
    | intro _ _ _
    | intro _ _
    | split
    | with_reducible first
      | refine pair_keeps ?_ (by assumption) | refine pair_keeps2 ?_ (by assumption)
      | refine opt_keeps ?_ (by assumption)
    | dsimp only
    | fail_if_no_progress with_reducible apply mk_keeps)

theorem State.putWord_keeps {b0 : State} (s : State) (a : ℕ) (w : Word) (hs : Keeps b0 s) :
    Keeps b0 (State.putWord s a w) := by
  unfold State.putWord
  repeat' (first
    | with_reducible first
      | assumption | apply State.putBytes_keeps | refine foldl_keeps ?_ ?_ | refine ite_keeps ?_ ?_ | refine pite_keeps ?_ ?_
      | exact none_okeeps | apply some_okeeps | refine oite_keeps ?_ ?_ | refine getD_keeps ?_ ?_ | refine omap_keeps ?_ ?_
      | apply id_keeps
    | intro _ _ _
    | intro _ _
    | split
    | with_reducible first
      | refine pair_keeps ?_ (by assumption) | refine pair_keeps2 ?_ (by assumption)
      | refine opt_keeps ?_ (by assumption)
    | dsimp only
    | fail_if_no_progress with_reducible apply mk_keeps)

theorem State.dropRsv_keeps {b0 : State} (s : State) (a : ℕ) (hs : Keeps b0 s) :
    Keeps b0 (State.dropRsv s a) := by
  unfold State.dropRsv
  repeat' (first
    | with_reducible first
      | assumption | refine foldl_keeps ?_ ?_ | refine ite_keeps ?_ ?_ | refine pite_keeps ?_ ?_ | exact none_okeeps
      | apply some_okeeps | refine oite_keeps ?_ ?_ | refine getD_keeps ?_ ?_ | refine omap_keeps ?_ ?_ | apply id_keeps
    | intro _ _ _
    | intro _ _
    | split
    | with_reducible first
      | refine pair_keeps ?_ (by assumption) | refine pair_keeps2 ?_ (by assumption)
      | refine opt_keeps ?_ (by assumption)
    | dsimp only
    | fail_if_no_progress with_reducible apply mk_keeps)

theorem State.keepErrs_keeps {b0 : State} (s : State) (p : ℕ → Bool) (hs : Keeps b0 s) :
    Keeps b0 (State.keepErrs s p) := by
  unfold State.keepErrs
  repeat' (first
    | with_reducible first
      | assumption | refine foldl_keeps ?_ ?_ | refine ite_keeps ?_ ?_ | refine pite_keeps ?_ ?_ | exact none_okeeps
      | apply some_okeeps | refine oite_keeps ?_ ?_ | refine getD_keeps ?_ ?_ | refine omap_keeps ?_ ?_ | apply id_keeps
    | intro _ _ _
    | intro _ _
    | split
    | with_reducible first
      | refine pair_keeps ?_ (by assumption) | refine pair_keeps2 ?_ (by assumption)
      | refine opt_keeps ?_ (by assumption)
    | dsimp only
    | fail_if_no_progress with_reducible apply mk_keeps)

theorem State.memWrite_keeps {b0 : State} (s : State) (a : ℕ) (n : ℕ) (w : Word) (hs : Keeps b0 s) :
    Keeps b0
    (State.memWrite s a n w) := by
  unfold State.memWrite
  repeat' (first
    | with_reducible first
      | assumption | apply State.dropRsv_keeps | apply State.keepErrs_keeps | apply State.putBytes_keeps
      | refine foldl_keeps ?_ ?_ | refine ite_keeps ?_ ?_ | refine pite_keeps ?_ ?_ | exact none_okeeps | apply some_okeeps
      | refine oite_keeps ?_ ?_ | refine getD_keeps ?_ ?_ | refine omap_keeps ?_ ?_ | apply id_keeps
    | intro _ _ _
    | intro _ _
    | split
    | with_reducible first
      | refine pair_keeps ?_ (by assumption) | refine pair_keeps2 ?_ (by assumption)
      | refine opt_keeps ?_ (by assumption)
    | dsimp only
    | fail_if_no_progress with_reducible apply mk_keeps)

theorem State.memWords_keeps {b0 : State} (s : State) (a : Nat) (ws : List Word) (hs : Keeps b0 s) :
    Keeps b0 (s.memWords a ws) := by
  induction ws generalizing s a with
  | nil => exact hs
  | cons w ws ih => exact ih _ _ (State.memWrite_keeps _ _ _ _ hs)

theorem State.reply_keeps {b0 : State} (s : State) (q : Req) (err : Bool) (v : Word) (hs : Keeps b0 s) :
    Keeps b0
    (State.reply s q err v) := by
  unfold State.reply
  repeat' (first
    | with_reducible first
      | assumption | refine foldl_keeps ?_ ?_ | refine ite_keeps ?_ ?_ | refine pite_keeps ?_ ?_ | exact none_okeeps
      | apply some_okeeps | refine oite_keeps ?_ ?_ | refine getD_keeps ?_ ?_ | refine omap_keeps ?_ ?_ | apply id_keeps
    | intro _ _ _
    | intro _ _
    | split
    | with_reducible first
      | refine pair_keeps ?_ (by assumption) | refine pair_keeps2 ?_ (by assumption)
      | refine opt_keeps ?_ (by assumption)
    | dsimp only
    | fail_if_no_progress with_reducible apply mk_keeps)

theorem State.refuse_keeps {b0 : State} (s : State) (q : Req) (hs : Keeps b0 s) :
    Keeps b0 (State.refuse s q) := by
  unfold State.refuse
  repeat' (first
    | with_reducible first
      | assumption | apply State.reply_keeps | refine foldl_keeps ?_ ?_ | refine ite_keeps ?_ ?_ | refine pite_keeps ?_ ?_
      | exact none_okeeps | apply some_okeeps | refine oite_keeps ?_ ?_ | refine getD_keeps ?_ ?_ | refine omap_keeps ?_ ?_
      | apply id_keeps
    | intro _ _ _
    | intro _ _
    | split
    | with_reducible first
      | refine pair_keeps ?_ (by assumption) | refine pair_keeps2 ?_ (by assumption)
      | refine opt_keeps ?_ (by assumption)
    | dsimp only
    | fail_if_no_progress with_reducible apply mk_keeps)

theorem State.respond_keeps {b0 : State} (s : State) (q : Req) (r : Acc.Res) (hs : Keeps b0 s) :
    Keeps b0 (State.respond s q r) := by
  unfold State.respond
  repeat' (first
    | with_reducible first
      | assumption | apply State.refuse_keeps | apply State.reply_keeps | refine foldl_keeps ?_ ?_ | refine ite_keeps ?_ ?_
      | refine pite_keeps ?_ ?_ | exact none_okeeps | apply some_okeeps | refine oite_keeps ?_ ?_ | refine getD_keeps ?_ ?_
      | refine omap_keeps ?_ ?_ | apply id_keeps
    | intro _ _ _
    | intro _ _
    | split
    | with_reducible first
      | refine pair_keeps ?_ (by assumption) | refine pair_keeps2 ?_ (by assumption)
      | refine opt_keeps ?_ (by assumption)
    | dsimp only
    | fail_if_no_progress with_reducible apply mk_keeps)

theorem State.write_keeps {b0 : State} (s : State) (q : Req) (isl : ℕ) (maxRing : ℕ) (eff : State → State) (hs : Keeps b0 s) (heff
    : ∀ x0, Keeps b0 x0 → Keeps b0 (eff x0)) :
    Keeps b0 (State.write s q isl maxRing eff) := by
  unfold State.write
  repeat' (first
    | with_reducible first
      | assumption | apply heff | apply State.refuse_keeps | apply State.reply_keeps | refine foldl_keeps ?_ ?_
      | refine ite_keeps ?_ ?_ | refine pite_keeps ?_ ?_ | exact none_okeeps | apply some_okeeps | refine oite_keeps ?_ ?_
      | refine getD_keeps ?_ ?_ | refine omap_keeps ?_ ?_ | apply id_keeps
    | intro _ _ _
    | intro _ _
    | split
    | with_reducible first
      | refine pair_keeps ?_ (by assumption) | refine pair_keeps2 ?_ (by assumption)
      | refine opt_keeps ?_ (by assumption)
    | dsimp only
    | fail_if_no_progress with_reducible apply mk_keeps)

theorem State.read_keeps {b0 : State} (s : State) (q : Req) (isl : ℕ) (maxRing : ℕ) (val : State → Word) (eff : State → State) (hs
    : Keeps b0 s) (heff : ∀ x0, Keeps b0 x0 → Keeps b0 (eff x0)) :
    Keeps b0 (State.read s q isl maxRing val eff) := by
  unfold State.read
  repeat' (first
    | with_reducible first
      | assumption | apply heff | apply State.refuse_keeps | apply State.reply_keeps | refine foldl_keeps ?_ ?_
      | refine ite_keeps ?_ ?_ | refine pite_keeps ?_ ?_ | exact none_okeeps | apply some_okeeps | refine oite_keeps ?_ ?_
      | refine getD_keeps ?_ ?_ | refine omap_keeps ?_ ?_ | apply id_keeps
    | intro _ _ _
    | intro _ _
    | split
    | with_reducible first
      | refine pair_keeps ?_ (by assumption) | refine pair_keeps2 ?_ (by assumption)
      | refine opt_keeps ?_ (by assumption)
    | dsimp only
    | fail_if_no_progress with_reducible apply mk_keeps)

theorem State.latch_keeps {b0 : State} (s : State) (a : ℕ) (q : Req) (w : Word) (hs : Keeps b0 s) :
    Keeps b0 (State.latch s a q w)
    := by
  unfold State.latch
  repeat' (first
    | with_reducible first
      | assumption | refine foldl_keeps ?_ ?_ | refine ite_keeps ?_ ?_ | refine pite_keeps ?_ ?_ | exact none_okeeps
      | apply some_okeeps | refine oite_keeps ?_ ?_ | refine getD_keeps ?_ ?_ | refine omap_keeps ?_ ?_ | apply id_keeps
    | intro _ _ _
    | intro _ _
    | split
    | with_reducible first
      | refine pair_keeps ?_ (by assumption) | refine pair_keeps2 ?_ (by assumption)
      | refine opt_keeps ?_ (by assumption)
    | dsimp only
    | fail_if_no_progress with_reducible apply mk_keeps)

theorem State.put64_keeps {b0 : State} (s : State) (lo : ℕ) (hi : ℕ) (v : ℕ) (hs : Keeps b0 s) :
    Keeps b0 (State.put64 s lo hi v)
    := by
  unfold State.put64
  repeat' (first
    | with_reducible first
      | assumption | apply State.setReg_keeps | refine foldl_keeps ?_ ?_ | refine ite_keeps ?_ ?_ | refine pite_keeps ?_ ?_
      | exact none_okeeps | apply some_okeeps | refine oite_keeps ?_ ?_ | refine getD_keeps ?_ ?_ | refine omap_keeps ?_ ?_
      | apply id_keeps
    | intro _ _ _
    | intro _ _
    | split
    | with_reducible first
      | refine pair_keeps ?_ (by assumption) | refine pair_keeps2 ?_ (by assumption)
      | refine opt_keeps ?_ (by assumption)
    | dsimp only
    | fail_if_no_progress with_reducible apply mk_keeps)

theorem State.fireAt_keeps {b0 : State} (s : State) (p : ℕ) (t : ℕ) (hs : Keeps b0 s) :
    Keeps b0 (State.fireAt s p t) := by
  unfold State.fireAt
  repeat' (first
    | with_reducible first
      | assumption | refine foldl_keeps ?_ ?_ | refine ite_keeps ?_ ?_ | refine pite_keeps ?_ ?_ | exact none_okeeps
      | apply some_okeeps | refine oite_keeps ?_ ?_ | refine getD_keeps ?_ ?_ | refine omap_keeps ?_ ?_ | apply id_keeps
    | intro _ _ _
    | intro _ _
    | split
    | with_reducible first
      | refine pair_keeps ?_ (by assumption) | refine pair_keeps2 ?_ (by assumption)
      | refine opt_keeps ?_ (by assumption)
    | dsimp only
    | fail_if_no_progress with_reducible apply mk_keeps)

theorem State.fire_keeps {b0 : State} (s : State) (p : ℕ) (hs : Keeps b0 s) :
    Keeps b0 (State.fire s p) := by
  unfold State.fire
  repeat' (first
    | with_reducible first
      | assumption | apply State.fireAt_keeps | refine foldl_keeps ?_ ?_ | refine ite_keeps ?_ ?_ | refine pite_keeps ?_ ?_
      | exact none_okeeps | apply some_okeeps | refine oite_keeps ?_ ?_ | refine getD_keeps ?_ ?_ | refine omap_keeps ?_ ?_
      | apply id_keeps
    | intro _ _ _
    | intro _ _
    | split
    | with_reducible first
      | refine pair_keeps ?_ (by assumption) | refine pair_keeps2 ?_ (by assumption)
      | refine opt_keeps ?_ (by assumption)
    | dsimp only
    | fail_if_no_progress with_reducible apply mk_keeps)

theorem State.fireIf_keeps {b0 : State} (s : State) (c : Bool) (p : ℕ) (hs : Keeps b0 s) :
    Keeps b0 (State.fireIf s c p) := by
  unfold State.fireIf
  repeat' (first
    | with_reducible first
      | assumption | apply State.fire_keeps | refine foldl_keeps ?_ ?_ | refine ite_keeps ?_ ?_ | refine pite_keeps ?_ ?_
      | exact none_okeeps | apply some_okeeps | refine oite_keeps ?_ ?_ | refine getD_keeps ?_ ?_ | refine omap_keeps ?_ ?_
      | apply id_keeps
    | intro _ _ _
    | intro _ _
    | split
    | with_reducible first
      | refine pair_keeps ?_ (by assumption) | refine pair_keeps2 ?_ (by assumption)
      | refine opt_keeps ?_ (by assumption)
    | dsimp only
    | fail_if_no_progress with_reducible apply mk_keeps)

theorem State.setReady_keeps {b0 : State} (s : State) (w : ℕ) (b : ℕ) (v : Bool) (hs : Keeps b0 s) :
    Keeps b0
    (State.setReady s w b v) := by
  unfold State.setReady
  repeat' (first
    | with_reducible first
      | assumption | apply State.fire_keeps | apply State.set_keeps | apply State.setBit_keeps | refine foldl_keeps ?_ ?_
      | refine ite_keeps ?_ ?_ | refine pite_keeps ?_ ?_ | exact none_okeeps | apply some_okeeps | refine oite_keeps ?_ ?_
      | refine getD_keeps ?_ ?_ | refine omap_keeps ?_ ?_ | apply id_keeps
    | intro _ _ _
    | intro _ _
    | split
    | with_reducible first
      | refine pair_keeps ?_ (by assumption) | refine pair_keeps2 ?_ (by assumption)
      | refine opt_keeps ?_ (by assumption)
    | dsimp only
    | fail_if_no_progress with_reducible apply mk_keeps)

theorem State.setEng_keeps {b0 : State} (s : State) (e : ℕ) (x : Engine) (hs : Keeps b0 s) :
    Keeps b0 (State.setEng s e x) := by
  unfold State.setEng
  repeat' (first
    | with_reducible first
      | assumption | refine foldl_keeps ?_ ?_ | refine ite_keeps ?_ ?_ | refine pite_keeps ?_ ?_ | exact none_okeeps
      | apply some_okeeps | refine oite_keeps ?_ ?_ | refine getD_keeps ?_ ?_ | refine omap_keeps ?_ ?_ | apply id_keeps
    | intro _ _ _
    | intro _ _
    | split
    | with_reducible first
      | refine pair_keeps ?_ (by assumption) | refine pair_keeps2 ?_ (by assumption)
      | refine opt_keeps ?_ (by assumption)
    | dsimp only
    | fail_if_no_progress with_reducible apply mk_keeps)

theorem State.giveUp_keeps {b0 : State} (s : State) (r : ℕ) (hs : Keeps b0 s) :
    Keeps b0 (State.giveUp s r) := by
  unfold State.giveUp
  repeat' (first
    | with_reducible first
      | assumption | refine foldl_keeps ?_ ?_ | refine ite_keeps ?_ ?_ | refine pite_keeps ?_ ?_ | exact none_okeeps
      | apply some_okeeps | refine oite_keeps ?_ ?_ | refine getD_keeps ?_ ?_ | refine omap_keeps ?_ ?_ | apply id_keeps
    | intro _ _ _
    | intro _ _
    | split
    | with_reducible first
      | refine pair_keeps ?_ (by assumption) | refine pair_keeps2 ?_ (by assumption)
      | refine opt_keeps ?_ (by assumption)
    | dsimp only
    | fail_if_no_progress with_reducible apply mk_keeps)

theorem State.pendVec_keeps {b0 : State} (s : State) (e : ℕ) (v : ℕ) (hs : Keeps b0 s) :
    Keeps b0 (State.pendVec s e v) := by
  unfold State.pendVec
  repeat' (first
    | with_reducible first
      | assumption | apply State.setEng_keeps | refine foldl_keeps ?_ ?_ | refine ite_keeps ?_ ?_ | refine pite_keeps ?_ ?_
      | exact none_okeeps | apply some_okeeps | refine oite_keeps ?_ ?_ | refine getD_keeps ?_ ?_ | refine omap_keeps ?_ ?_
      | apply id_keeps
    | intro _ _ _
    | intro _ _
    | split
    | with_reducible first
      | refine pair_keeps ?_ (by assumption) | refine pair_keeps2 ?_ (by assumption)
      | refine opt_keeps ?_ (by assumption)
    | dsimp only
    | fail_if_no_progress with_reducible apply mk_keeps)

theorem State.setFifo_keeps {b0 : State} (s : State) (src : ℕ) (dst : ℕ) (l : List Xfer) (hs : Keeps b0 s) :
    Keeps b0
    (State.setFifo s src dst l) := by
  unfold State.setFifo
  repeat' (first
    | with_reducible first
      | assumption | refine foldl_keeps ?_ ?_ | refine ite_keeps ?_ ?_ | refine pite_keeps ?_ ?_ | exact none_okeeps
      | apply some_okeeps | refine oite_keeps ?_ ?_ | refine getD_keeps ?_ ?_ | refine omap_keeps ?_ ?_ | apply id_keeps
    | intro _ _ _
    | intro _ _
    | split
    | with_reducible first
      | refine pair_keeps ?_ (by assumption) | refine pair_keeps2 ?_ (by assumption)
      | refine opt_keeps ?_ (by assumption)
    | dsimp only
    | fail_if_no_progress with_reducible apply mk_keeps)

theorem State.setConv_keeps {b0 : State} (s : State) (k : ℕ) (c : Conv) (hs : Keeps b0 s) :
    Keeps b0 (State.setConv s k c) := by
  unfold State.setConv
  repeat' (first
    | with_reducible first
      | assumption | refine foldl_keeps ?_ ?_ | refine ite_keeps ?_ ?_ | refine pite_keeps ?_ ?_ | exact none_okeeps
      | apply some_okeeps | refine oite_keeps ?_ ?_ | refine getD_keeps ?_ ?_ | refine omap_keeps ?_ ?_ | apply id_keeps
    | intro _ _ _
    | intro _ _
    | split
    | with_reducible first
      | refine pair_keeps ?_ (by assumption) | refine pair_keeps2 ?_ (by assumption)
      | refine opt_keeps ?_ (by assumption)
    | dsimp only
    | fail_if_no_progress with_reducible apply mk_keeps)

theorem State.setGroup_keeps {b0 : State} (s : State) (g : ℕ) (x : Group) (hs : Keeps b0 s) :
    Keeps b0 (State.setGroup s g x) := by
  unfold State.setGroup
  repeat' (first
    | with_reducible first
      | assumption | refine foldl_keeps ?_ ?_ | refine ite_keeps ?_ ?_ | refine pite_keeps ?_ ?_ | exact none_okeeps
      | apply some_okeeps | refine oite_keeps ?_ ?_ | refine getD_keeps ?_ ?_ | refine omap_keeps ?_ ?_ | apply id_keeps
    | intro _ _ _
    | intro _ _
    | split
    | with_reducible first
      | refine pair_keeps ?_ (by assumption) | refine pair_keeps2 ?_ (by assumption)
      | refine opt_keeps ?_ (by assumption)
    | dsimp only
    | fail_if_no_progress with_reducible apply mk_keeps)

theorem State.setSdm_keeps {b0 : State} (s : State) (k : ℕ) (x : Sdm) (hs : Keeps b0 s) :
    Keeps b0 (State.setSdm s k x) := by
  unfold State.setSdm
  repeat' (first
    | with_reducible first
      | assumption | refine foldl_keeps ?_ ?_ | refine ite_keeps ?_ ?_ | refine pite_keeps ?_ ?_ | exact none_okeeps
      | apply some_okeeps | refine oite_keeps ?_ ?_ | refine getD_keeps ?_ ?_ | refine omap_keeps ?_ ?_ | apply id_keeps
    | intro _ _ _
    | intro _ _
    | split
    | with_reducible first
      | refine pair_keeps ?_ (by assumption) | refine pair_keeps2 ?_ (by assumption)
      | refine opt_keeps ?_ (by assumption)
    | dsimp only
    | fail_if_no_progress with_reducible apply mk_keeps)

theorem State.setComp_keeps {b0 : State} (s : State) (i : ℕ) (x : Comp) (hs : Keeps b0 s) :
    Keeps b0 (State.setComp s i x) := by
  unfold State.setComp
  repeat' (first
    | with_reducible first
      | assumption | refine foldl_keeps ?_ ?_ | refine ite_keeps ?_ ?_ | refine pite_keeps ?_ ?_ | exact none_okeeps
      | apply some_okeeps | refine oite_keeps ?_ ?_ | refine getD_keeps ?_ ?_ | refine omap_keeps ?_ ?_ | apply id_keeps
    | intro _ _ _
    | intro _ _
    | split
    | with_reducible first
      | refine pair_keeps ?_ (by assumption) | refine pair_keeps2 ?_ (by assumption)
      | refine opt_keeps ?_ (by assumption)
    | dsimp only
    | fail_if_no_progress with_reducible apply mk_keeps)

theorem State.setWin_keeps {b0 : State} (s : State) (w : ℕ) (x : Window) (hs : Keeps b0 s) :
    Keeps b0 (State.setWin s w x) := by
  unfold State.setWin
  repeat' (first
    | with_reducible first
      | assumption | refine foldl_keeps ?_ ?_ | refine ite_keeps ?_ ?_ | refine pite_keeps ?_ ?_ | exact none_okeeps
      | apply some_okeeps | refine oite_keeps ?_ ?_ | refine getD_keeps ?_ ?_ | refine omap_keeps ?_ ?_ | apply id_keeps
    | intro _ _ _
    | intro _ _
    | split
    | with_reducible first
      | refine pair_keeps ?_ (by assumption) | refine pair_keeps2 ?_ (by assumption)
      | refine opt_keeps ?_ (by assumption)
    | dsimp only
    | fail_if_no_progress with_reducible apply mk_keeps)

theorem State.setSlice_keeps {b0 : State} (s : State) (n : ℕ) (x : Slice) (hs : Keeps b0 s) :
    Keeps b0 (State.setSlice s n x) := by
  unfold State.setSlice
  repeat' (first
    | with_reducible first
      | assumption | refine foldl_keeps ?_ ?_ | refine ite_keeps ?_ ?_ | refine pite_keeps ?_ ?_ | exact none_okeeps
      | apply some_okeeps | refine oite_keeps ?_ ?_ | refine getD_keeps ?_ ?_ | refine omap_keeps ?_ ?_ | apply id_keeps
    | intro _ _ _
    | intro _ _
    | split
    | with_reducible first
      | refine pair_keeps ?_ (by assumption) | refine pair_keeps2 ?_ (by assumption)
      | refine opt_keeps ?_ (by assumption)
    | dsimp only
    | fail_if_no_progress with_reducible apply mk_keeps)

theorem State.setZone_keeps {b0 : State} (s : State) (z : ℕ) (x : Zone) (hs : Keeps b0 s) :
    Keeps b0 (State.setZone s z x) := by
  unfold State.setZone
  repeat' (first
    | with_reducible first
      | assumption | refine foldl_keeps ?_ ?_ | refine ite_keeps ?_ ?_ | refine pite_keeps ?_ ?_ | exact none_okeeps
      | apply some_okeeps | refine oite_keeps ?_ ?_ | refine getD_keeps ?_ ?_ | refine omap_keeps ?_ ?_ | apply id_keeps
    | intro _ _ _
    | intro _ _
    | split
    | with_reducible first
      | refine pair_keeps ?_ (by assumption) | refine pair_keeps2 ?_ (by assumption)
      | refine opt_keeps ?_ (by assumption)
    | dsimp only
    | fail_if_no_progress with_reducible apply mk_keeps)

theorem State.setFrPort_keeps {b0 : State} (s : State) (p : ℕ) (x : FrPort) (hs : Keeps b0 s) :
    Keeps b0 (State.setFrPort s p x) := by
  unfold State.setFrPort
  repeat' (first
    | with_reducible first
      | assumption | refine foldl_keeps ?_ ?_ | refine ite_keeps ?_ ?_ | refine pite_keeps ?_ ?_ | exact none_okeeps
      | apply some_okeeps | refine oite_keeps ?_ ?_ | refine getD_keeps ?_ ?_ | refine omap_keeps ?_ ?_ | apply id_keeps
    | intro _ _ _
    | intro _ _
    | split
    | with_reducible first
      | refine pair_keeps ?_ (by assumption) | refine pair_keeps2 ?_ (by assumption)
      | refine opt_keeps ?_ (by assumption)
    | dsimp only
    | fail_if_no_progress with_reducible apply mk_keeps)

theorem State.setSwlPort_keeps {b0 : State} (s : State) (l : ℕ) (x : SwlPort) (hs : Keeps b0 s) :
    Keeps b0 (State.setSwlPort s l x)
    := by
  unfold State.setSwlPort
  repeat' (first
    | with_reducible first
      | assumption | refine foldl_keeps ?_ ?_ | refine ite_keeps ?_ ?_ | refine pite_keeps ?_ ?_ | exact none_okeeps
      | apply some_okeeps | refine oite_keeps ?_ ?_ | refine getD_keeps ?_ ?_ | refine omap_keeps ?_ ?_ | apply id_keeps
    | intro _ _ _
    | intro _ _
    | split
    | with_reducible first
      | refine pair_keeps ?_ (by assumption) | refine pair_keeps2 ?_ (by assumption)
      | refine opt_keeps ?_ (by assumption)
    | dsimp only
    | fail_if_no_progress with_reducible apply mk_keeps)

theorem State.setSerial_keeps {b0 : State} (s : State) (k : ℕ) (x : Serial) (hs : Keeps b0 s) :
    Keeps b0 (State.setSerial s k x) := by
  unfold State.setSerial
  repeat' (first
    | with_reducible first
      | assumption | refine foldl_keeps ?_ ?_ | refine ite_keeps ?_ ?_ | refine pite_keeps ?_ ?_ | exact none_okeeps
      | apply some_okeeps | refine oite_keeps ?_ ?_ | refine getD_keeps ?_ ?_ | refine omap_keeps ?_ ?_ | apply id_keeps
    | intro _ _ _
    | intro _ _
    | split
    | with_reducible first
      | refine pair_keeps ?_ (by assumption) | refine pair_keeps2 ?_ (by assumption)
      | refine opt_keeps ?_ (by assumption)
    | dsimp only
    | fail_if_no_progress with_reducible apply mk_keeps)

theorem State.setCan_keeps {b0 : State} (s : State) (c : ℕ) (x : Can) (hs : Keeps b0 s) :
    Keeps b0 (State.setCan s c x) := by
  unfold State.setCan
  repeat' (first
    | with_reducible first
      | assumption | refine foldl_keeps ?_ ?_ | refine ite_keeps ?_ ?_ | refine pite_keeps ?_ ?_ | exact none_okeeps
      | apply some_okeeps | refine oite_keeps ?_ ?_ | refine getD_keeps ?_ ?_ | refine omap_keeps ?_ ?_ | apply id_keeps
    | intro _ _ _
    | intro _ _
    | split
    | with_reducible first
      | refine pair_keeps ?_ (by assumption) | refine pair_keeps2 ?_ (by assumption)
      | refine opt_keeps ?_ (by assumption)
    | dsimp only
    | fail_if_no_progress with_reducible apply mk_keeps)

theorem State.setRgClu_keeps {b0 : State} (s : State) (c : ℕ) (x : RgClu) (hs : Keeps b0 s) :
    Keeps b0 (State.setRgClu s c x) := by
  unfold State.setRgClu
  repeat' (first
    | with_reducible first
      | assumption | refine foldl_keeps ?_ ?_ | refine ite_keeps ?_ ?_ | refine pite_keeps ?_ ?_ | exact none_okeeps
      | apply some_okeeps | refine oite_keeps ?_ ?_ | refine getD_keeps ?_ ?_ | refine omap_keeps ?_ ?_ | apply id_keeps
    | intro _ _ _
    | intro _ _
    | split
    | with_reducible first
      | refine pair_keeps ?_ (by assumption) | refine pair_keeps2 ?_ (by assumption)
      | refine opt_keeps ?_ (by assumption)
    | dsimp only
    | fail_if_no_progress with_reducible apply mk_keeps)

theorem State.freeWord_keeps {b0 : State} (s : State) (hs : Keeps b0 s) :
    Keeps b0 (State.freeWord s).2 := by
  unfold State.freeWord
  repeat' (first
    | with_reducible first
      | assumption | refine foldl_keeps ?_ ?_ | refine ite_keeps ?_ ?_ | refine pite_keeps ?_ ?_ | exact none_okeeps
      | apply some_okeeps | refine oite_keeps ?_ ?_ | refine getD_keeps ?_ ?_ | refine omap_keeps ?_ ?_ | apply id_keeps
    | intro _ _ _
    | intro _ _
    | split
    | with_reducible first
      | refine pair_keeps ?_ (by assumption) | refine pair_keeps2 ?_ (by assumption)
      | refine opt_keeps ?_ (by assumption)
    | dsimp only
    | fail_if_no_progress with_reducible apply mk_keeps)

theorem State.setDma_keeps {b0 : State} (s : State) (c : ℕ) (x : Dma) (hs : Keeps b0 s) :
    Keeps b0 (State.setDma s c x) := by
  unfold State.setDma
  repeat' (first
    | with_reducible first
      | assumption | refine foldl_keeps ?_ ?_ | refine ite_keeps ?_ ?_ | refine pite_keeps ?_ ?_ | exact none_okeeps
      | apply some_okeeps | refine oite_keeps ?_ ?_ | refine getD_keeps ?_ ?_ | refine omap_keeps ?_ ?_ | apply id_keeps
    | intro _ _ _
    | intro _ _
    | split
    | with_reducible first
      | refine pair_keeps ?_ (by assumption) | refine pair_keeps2 ?_ (by assumption)
      | refine opt_keeps ?_ (by assumption)
    | dsimp only
    | fail_if_no_progress with_reducible apply mk_keeps)

theorem State.startActs_keeps {b0 : State} (s : State) (z : ℕ) (t : ℕ) (os : List ℕ) (hs : Keeps b0 s) :
    Keeps b0
    (State.startActs s z t os) := by
  unfold State.startActs
  repeat' (first
    | with_reducible first
      | assumption | apply State.setZone_keeps | refine foldl_keeps ?_ ?_ | refine ite_keeps ?_ ?_ | refine pite_keeps ?_ ?_
      | exact none_okeeps | apply some_okeeps | refine oite_keeps ?_ ?_ | refine getD_keeps ?_ ?_ | refine omap_keeps ?_ ?_
      | apply id_keeps
    | intro _ _ _
    | intro _ _
    | split
    | with_reducible first
      | refine pair_keeps ?_ (by assumption) | refine pair_keeps2 ?_ (by assumption)
      | refine opt_keeps ?_ (by assumption)
    | dsimp only
    | fail_if_no_progress with_reducible apply mk_keeps)

theorem State.setStaged_keeps {b0 : State} (s : State) (a : ℕ) (x : Option Staged) (hs : Keeps b0 s) :
    Keeps b0
    (State.setStaged s a x) := by
  unfold State.setStaged
  repeat' (first
    | with_reducible first
      | assumption | refine foldl_keeps ?_ ?_ | refine ite_keeps ?_ ?_ | refine pite_keeps ?_ ?_ | exact none_okeeps
      | apply some_okeeps | refine oite_keeps ?_ ?_ | refine getD_keeps ?_ ?_ | refine omap_keeps ?_ ?_ | apply id_keeps
    | intro _ _ _
    | intro _ _
    | split
    | with_reducible first
      | refine pair_keeps ?_ (by assumption) | refine pair_keeps2 ?_ (by assumption)
      | refine opt_keeps ?_ (by assumption)
    | dsimp only
    | fail_if_no_progress with_reducible apply mk_keeps)

theorem State.portSelect_keeps {b0 : State} (s : State) (r : ℕ) (a : ℕ) (v : Word) (hs : Keeps b0 s) :
    Keeps b0 (State.portSelect s r a v) := by
  unfold State.portSelect
  repeat' (first
    | with_reducible first
      | assumption | refine foldl_keeps ?_ ?_ | refine ite_keeps ?_ ?_ | refine pite_keeps ?_ ?_ | exact none_okeeps
      | apply some_okeeps | refine oite_keeps ?_ ?_ | refine getD_keeps ?_ ?_ | refine omap_keeps ?_ ?_ | apply id_keeps
    | intro _ _ _
    | intro _ _
    | split
    | with_reducible first
      | refine pair_keeps ?_ (by assumption) | refine pair_keeps2 ?_ (by assumption)
      | refine opt_keeps ?_ (by assumption)
    | dsimp only
    | fail_if_no_progress with_reducible apply mk_keeps)

theorem State.cross_keeps {b0 : State} (s : State) (q : Req) (isl : ℕ) (write : Bool) (a : ℕ) (w : Word) (eff : State → State) (hs
    : Keeps b0 s) (heff : ∀ x0, Keeps b0 x0 → Keeps b0 (eff x0)) :
    Keeps b0 (State.cross s q isl write a w eff) := by
  unfold State.cross
  repeat' (first
    | with_reducible first
      | assumption | apply heff | apply State.portSelect_keeps | apply State.setFifo_keeps | refine foldl_keeps ?_ ?_
      | refine ite_keeps ?_ ?_ | refine pite_keeps ?_ ?_ | exact none_okeeps | apply some_okeeps | refine oite_keeps ?_ ?_
      | refine getD_keeps ?_ ?_ | refine omap_keeps ?_ ?_ | apply id_keeps
    | intro _ _ _
    | intro _ _
    | split
    | with_reducible first
      | refine pair_keeps ?_ (by assumption) | refine pair_keeps2 ?_ (by assumption)
      | refine opt_keeps ?_ (by assumption)
    | dsimp only
    | fail_if_no_progress with_reducible apply mk_keeps)

theorem State.crossTo_keeps {b0 : State} (s : State) (q : Req) (write : Bool) (a : ℕ) (w : Word) (eff : State → State) (hs :
    Keeps b0 s) (heff : ∀ x0, Keeps b0 x0 → Keeps b0 (eff x0)) :
    Keeps b0 (State.crossTo s q write a w eff) := by
  unfold State.crossTo
  repeat' (first
    | with_reducible first
      | assumption | apply heff | apply State.cross_keeps | refine foldl_keeps ?_ ?_ | refine ite_keeps ?_ ?_
      | refine pite_keeps ?_ ?_ | exact none_okeeps | apply some_okeeps | refine oite_keeps ?_ ?_ | refine getD_keeps ?_ ?_
      | refine omap_keeps ?_ ?_ | apply id_keeps
    | intro _ _ _
    | intro _ _
    | split
    | with_reducible first
      | refine pair_keeps ?_ (by assumption) | refine pair_keeps2 ?_ (by assumption)
      | refine opt_keeps ?_ (by assumption)
    | dsimp only
    | fail_if_no_progress with_reducible apply mk_keeps)

theorem State.noteOverflow_keeps {b0 : State} (s : State) (r : ℕ) (g : ℕ) (hs : Keeps b0 s) :
    Keeps b0 (State.noteOverflow s r g)
    := by
  unfold State.noteOverflow
  repeat' (first
    | with_reducible first
      | assumption | apply State.pendVec_keeps | apply State.set_keeps | refine foldl_keeps ?_ ?_ | refine ite_keeps ?_ ?_
      | refine pite_keeps ?_ ?_ | exact none_okeeps | apply some_okeeps | refine oite_keeps ?_ ?_ | refine getD_keeps ?_ ?_
      | refine omap_keeps ?_ ?_ | apply id_keeps
    | intro _ _ _
    | intro _ _
    | split
    | with_reducible first
      | refine pair_keeps ?_ (by assumption) | refine pair_keeps2 ?_ (by assumption)
      | refine opt_keeps ?_ (by assumption)
    | dsimp only
    | fail_if_no_progress with_reducible apply mk_keeps)

theorem State.stage_keeps {b0 : State} (s : State) (r : ℕ) (g : ℕ) (a : ℕ) (v : Word) (hs : Keeps b0 s) :
    Keeps b0
    (State.stage s r g a v).1 := by
  unfold State.stage
  repeat' (first
    | with_reducible first
      | assumption | apply State.noteOverflow_keeps | apply State.set_keeps | apply State.setStaged_keeps
      | refine foldl_keeps ?_ ?_ | refine ite_keeps ?_ ?_ | refine pite_keeps ?_ ?_ | exact none_okeeps | apply some_okeeps
      | refine oite_keeps ?_ ?_ | refine getD_keeps ?_ ?_ | refine omap_keeps ?_ ?_ | apply id_keeps
    | intro _ _ _
    | intro _ _
    | split
    | with_reducible first
      | refine pair_keeps ?_ (by assumption) | refine pair_keeps2 ?_ (by assumption)
      | refine opt_keeps ?_ (by assumption)
    | dsimp only
    | fail_if_no_progress with_reducible apply mk_keeps)

theorem State.storeDirect_keeps {b0 : State} (s : State) (a : ℕ) (fs : List Fld) (v : Word) (hs : Keeps b0 s) :
    Keeps b0
    (State.storeDirect s a fs v) := by
  unfold State.storeDirect
  repeat' (first
    | with_reducible first
      | assumption | apply State.setReg_keeps | refine foldl_keeps ?_ ?_ | refine ite_keeps ?_ ?_ | refine pite_keeps ?_ ?_
      | exact none_okeeps | apply some_okeeps | refine oite_keeps ?_ ?_ | refine getD_keeps ?_ ?_ | refine omap_keeps ?_ ?_
      | apply id_keeps
    | intro _ _ _
    | intro _ _
    | split
    | with_reducible first
      | refine pair_keeps ?_ (by assumption) | refine pair_keeps2 ?_ (by assumption)
      | refine opt_keeps ?_ (by assumption)
    | dsimp only
    | fail_if_no_progress with_reducible apply mk_keeps)

theorem State.storeFields_keeps {b0 : State} (s : State) (r : ℕ) (g : ℕ) (a : ℕ) (fs : List Fld) (v : Word) (hs : Keeps b0 s)
    :
    Keeps b0 (State.storeFields s r g a fs v).1 := by
  unfold State.storeFields
  repeat' (first
    | with_reducible first
      | assumption | apply State.stage_keeps | apply State.storeDirect_keeps | refine foldl_keeps ?_ ?_ | refine ite_keeps ?_ ?_
      | refine pite_keeps ?_ ?_ | exact none_okeeps | apply some_okeeps | refine oite_keeps ?_ ?_ | refine getD_keeps ?_ ?_
      | refine omap_keeps ?_ ?_ | apply id_keeps
    | intro _ _ _
    | intro _ _
    | split
    | with_reducible first
      | refine pair_keeps ?_ (by assumption) | refine pair_keeps2 ?_ (by assumption)
      | refine opt_keeps ?_ (by assumption)
    | dsimp only
    | fail_if_no_progress with_reducible apply mk_keeps)

theorem State.writeFields_keeps {b0 : State} (s : State) (q : Req) (isl : ℕ) (maxRing : ℕ) (a : ℕ) (fs : List Fld) (v : Word)
    (eff : State → State) (hs : Keeps b0 s) (heff : ∀ x0, Keeps b0 x0 → Keeps b0 (eff x0)) :
    Keeps b0 (State.writeFields s q isl maxRing a fs v eff) := by
  unfold State.writeFields
  repeat' (first
    | with_reducible first
      | assumption | apply heff | apply State.refuse_keeps | apply State.reply_keeps | apply State.storeFields_keeps
      | refine foldl_keeps ?_ ?_ | refine ite_keeps ?_ ?_ | refine pite_keeps ?_ ?_ | exact none_okeeps | apply some_okeeps
      | refine oite_keeps ?_ ?_ | refine getD_keeps ?_ ?_ | refine omap_keeps ?_ ?_ | apply id_keeps
    | intro _ _ _
    | intro _ _
    | split
    | with_reducible first
      | refine pair_keeps ?_ (by assumption) | refine pair_keeps2 ?_ (by assumption)
      | refine opt_keeps ?_ (by assumption)
    | dsimp only
    | fail_if_no_progress with_reducible apply mk_keeps)

theorem State.unhold_keeps {b0 : State} (s : State) (i : ℕ) (hs : Keeps b0 s) :
    Keeps b0 (State.unhold s i) := by
  unfold State.unhold
  repeat' (first
    | with_reducible first
      | assumption | refine foldl_keeps ?_ ?_ | refine ite_keeps ?_ ?_ | refine pite_keeps ?_ ?_ | exact none_okeeps
      | apply some_okeeps | refine oite_keeps ?_ ?_ | refine getD_keeps ?_ ?_ | refine omap_keeps ?_ ?_ | apply id_keeps
    | intro _ _ _
    | intro _ _
    | split
    | with_reducible first
      | refine pair_keeps ?_ (by assumption) | refine pair_keeps2 ?_ (by assumption)
      | refine opt_keeps ?_ (by assumption)
    | dsimp only
    | fail_if_no_progress with_reducible apply mk_keeps)

theorem State.hold_keeps {b0 : State} (s : State) (i : ℕ) (hs : Keeps b0 s) :
    Keeps b0 (State.hold s i) := by
  unfold State.hold
  repeat' (first
    | with_reducible first
      | assumption | refine foldl_keeps ?_ ?_ | refine ite_keeps ?_ ?_ | refine pite_keeps ?_ ?_ | exact none_okeeps
      | apply some_okeeps | refine oite_keeps ?_ ?_ | refine getD_keeps ?_ ?_ | refine omap_keeps ?_ ?_ | apply id_keeps
    | intro _ _ _
    | intro _ _
    | split
    | with_reducible first
      | refine pair_keeps ?_ (by assumption) | refine pair_keeps2 ?_ (by assumption)
      | refine opt_keeps ?_ (by assumption)
    | dsimp only
    | fail_if_no_progress with_reducible apply mk_keeps)

theorem State.overrun_keeps {b0 : State} (s : State) (i : ℕ) (hs : Keeps b0 s) :
    Keeps b0 (State.overrun s i) := by
  unfold State.overrun
  repeat' (first
    | with_reducible first
      | assumption | apply State.incSat_keeps | apply State.set_keeps | refine foldl_keeps ?_ ?_ | refine ite_keeps ?_ ?_
      | refine pite_keeps ?_ ?_ | exact none_okeeps | apply some_okeeps | refine oite_keeps ?_ ?_ | refine getD_keeps ?_ ?_
      | refine omap_keeps ?_ ?_ | apply id_keeps
    | intro _ _ _
    | intro _ _
    | split
    | with_reducible first
      | refine pair_keeps ?_ (by assumption) | refine pair_keeps2 ?_ (by assumption)
      | refine opt_keeps ?_ (by assumption)
    | dsimp only
    | fail_if_no_progress with_reducible apply mk_keeps)

theorem State.pushAct_keeps {b0 : State} (s : State) (i : ℕ) (take : ℕ) (src : ℕ) (hs : Keeps b0 s) :
    Keeps b0
    (State.pushAct s i take src) := by
  unfold State.pushAct
  repeat' (first
    | with_reducible first
      | assumption | refine foldl_keeps ?_ ?_ | refine ite_keeps ?_ ?_ | refine pite_keeps ?_ ?_ | exact none_okeeps
      | apply some_okeeps | refine oite_keeps ?_ ?_ | refine getD_keeps ?_ ?_ | refine omap_keeps ?_ ?_ | apply id_keeps
    | intro _ _ _
    | intro _ _
    | split
    | with_reducible first
      | refine pair_keeps ?_ (by assumption) | refine pair_keeps2 ?_ (by assumption)
      | refine opt_keeps ?_ (by assumption)
    | dsimp only
    | fail_if_no_progress with_reducible apply mk_keeps)

theorem State.resetInputs_keeps {b0 : State} (s : State) (p : ℕ → Bool) (hs : Keeps b0 s) :
    Keeps b0 (State.resetInputs s p) := by
  unfold State.resetInputs
  repeat' (first
    | with_reducible first
      | assumption | refine foldl_keeps ?_ ?_ | refine ite_keeps ?_ ?_ | refine pite_keeps ?_ ?_ | exact none_okeeps
      | apply some_okeeps | refine oite_keeps ?_ ?_ | refine getD_keeps ?_ ?_ | refine omap_keeps ?_ ?_ | apply id_keeps
    | intro _ _ _
    | intro _ _
    | split
    | with_reducible first
      | refine pair_keeps ?_ (by assumption) | refine pair_keeps2 ?_ (by assumption)
      | refine opt_keeps ?_ (by assumption)
    | dsimp only
    | fail_if_no_progress with_reducible apply mk_keeps)

theorem State.setArmed_keeps {b0 : State} (s : State) (g : ℕ) (x : Option Armed) (hs : Keeps b0 s) :
    Keeps b0 (State.setArmed s g x)
    := by
  unfold State.setArmed
  repeat' (first
    | with_reducible first
      | assumption | refine foldl_keeps ?_ ?_ | refine ite_keeps ?_ ?_ | refine pite_keeps ?_ ?_ | exact none_okeeps
      | apply some_okeeps | refine oite_keeps ?_ ?_ | refine getD_keeps ?_ ?_ | refine omap_keeps ?_ ?_ | apply id_keeps
    | intro _ _ _
    | intro _ _
    | split
    | with_reducible first
      | refine pair_keeps ?_ (by assumption) | refine pair_keeps2 ?_ (by assumption)
      | refine opt_keeps ?_ (by assumption)
    | dsimp only
    | fail_if_no_progress with_reducible apply mk_keeps)

theorem State.commitTrigger_keeps {b0 : State} (s : State) (g : ℕ) (ta : ℕ) (hs : Keeps b0 s) :
    Keeps b0 (State.commitTrigger s g ta)
    := by
  unfold State.commitTrigger
  repeat' (first
    | with_reducible first
      | assumption | apply State.hold_keeps | apply State.set_keeps | apply State.setArmed_keeps | refine foldl_keeps ?_ ?_
      | refine ite_keeps ?_ ?_ | refine pite_keeps ?_ ?_ | exact none_okeeps | apply some_okeeps | refine oite_keeps ?_ ?_
      | refine getD_keeps ?_ ?_ | refine omap_keeps ?_ ?_ | apply id_keeps
    | intro _ _ _
    | intro _ _
    | split
    | with_reducible first
      | refine pair_keeps ?_ (by assumption) | refine pair_keeps2 ?_ (by assumption)
      | refine opt_keeps ?_ (by assumption)
    | dsimp only
    | fail_if_no_progress with_reducible apply mk_keeps)

theorem State.loseBlanked_keeps {b0 : State} (s : State) (e : ℕ) (hs : Keeps b0 s) :
    Keeps b0 (State.loseBlanked s e) := by
  unfold State.loseBlanked
  repeat' (first
    | with_reducible first
      | assumption | refine foldl_keeps ?_ ?_ | refine ite_keeps ?_ ?_ | refine pite_keeps ?_ ?_ | exact none_okeeps
      | apply some_okeeps | refine oite_keeps ?_ ?_ | refine getD_keeps ?_ ?_ | refine omap_keeps ?_ ?_ | apply id_keeps
    | intro _ _ _
    | intro _ _
    | split
    | with_reducible first
      | refine pair_keeps ?_ (by assumption) | refine pair_keeps2 ?_ (by assumption)
      | refine opt_keeps ?_ (by assumption)
    | dsimp only
    | fail_if_no_progress with_reducible apply mk_keeps)

theorem State.putEvts_keeps {b0 : State} (s : State) (l : ℕ) (t : ℕ) (hs : Keeps b0 s) :
    Keeps b0 (State.putEvts s l t) := by
  unfold State.putEvts
  repeat' (first
    | with_reducible first
      | assumption | apply State.setSwlPort_keeps | refine foldl_keeps ?_ ?_ | refine ite_keeps ?_ ?_ | refine pite_keeps ?_ ?_
      | exact none_okeeps | apply some_okeeps | refine oite_keeps ?_ ?_ | refine getD_keeps ?_ ?_ | refine omap_keeps ?_ ?_
      | apply id_keeps
    | intro _ _ _
    | intro _ _
    | split
    | with_reducible first
      | refine pair_keeps ?_ (by assumption) | refine pair_keeps2 ?_ (by assumption)
      | refine opt_keeps ?_ (by assumption)
    | dsimp only
    | fail_if_no_progress with_reducible apply mk_keeps)

theorem State.consume_keeps {b0 : State} (s : State) (i : ℕ) (t : ℕ) (hs : Keeps b0 s) :
    Keeps b0 (State.consume s i t) := by
  unfold State.consume
  repeat' (first
    | with_reducible first
      | assumption | apply State.commitTrigger_keeps | apply State.hold_keeps | apply State.loseBlanked_keeps
      | apply State.pushAct_keeps | apply State.putEvts_keeps | apply State.raiseBit_keeps | apply State.set_keeps
      | refine foldl_keeps ?_ ?_ | refine ite_keeps ?_ ?_ | refine pite_keeps ?_ ?_ | exact none_okeeps | apply some_okeeps
      | refine oite_keeps ?_ ?_ | refine getD_keeps ?_ ?_ | refine omap_keeps ?_ ?_ | apply id_keeps
    | intro _ _ _
    | intro _ _
    | split
    | with_reducible first
      | refine pair_keeps ?_ (by assumption) | refine pair_keeps2 ?_ (by assumption)
      | refine opt_keeps ?_ (by assumption)
    | dsimp only
    | fail_if_no_progress with_reducible apply mk_keeps)

theorem State.activate_keeps {b0 : State} (s : State) (i : ℕ) (t : ℕ) (hs : Keeps b0 s) :
    Keeps b0 (State.activate s i t) := by
  unfold State.activate
  repeat' (first
    | with_reducible first
      | assumption | apply State.consume_keeps | apply State.incWrap_keeps | refine foldl_keeps ?_ ?_ | refine ite_keeps ?_ ?_
      | refine pite_keeps ?_ ?_ | exact none_okeeps | apply some_okeeps | refine oite_keeps ?_ ?_ | refine getD_keeps ?_ ?_
      | refine omap_keeps ?_ ?_ | apply id_keeps
    | intro _ _ _
    | intro _ _
    | split
    | with_reducible first
      | refine pair_keeps ?_ (by assumption) | refine pair_keeps2 ?_ (by assumption)
      | refine opt_keeps ?_ (by assumption)
    | dsimp only
    | fail_if_no_progress with_reducible apply mk_keeps)

theorem State.arrive_keeps {b0 : State} (s : State) (i : ℕ) (t : ℕ) (hs : Keeps b0 s) :
    Keeps b0 (State.arrive s i t) := by
  unfold State.arrive
  repeat' (first
    | with_reducible first
      | assumption | apply State.activate_keeps | apply State.overrun_keeps | apply State.pushAct_keeps | apply State.set_keeps
      | refine foldl_keeps ?_ ?_ | refine ite_keeps ?_ ?_ | refine pite_keeps ?_ ?_ | exact none_okeeps | apply some_okeeps
      | refine oite_keeps ?_ ?_ | refine getD_keeps ?_ ?_ | refine omap_keeps ?_ ?_ | apply id_keeps
    | intro _ _ _
    | intro _ _
    | split
    | with_reducible first
      | refine pair_keeps ?_ (by assumption) | refine pair_keeps2 ?_ (by assumption)
      | refine opt_keeps ?_ (by assumption)
    | dsimp only
    | fail_if_no_progress with_reducible apply mk_keeps)

theorem State.reselect_keeps {b0 : State} (s : State) (i : ℕ) (tc : ℕ) (old : Word) (hs : Keeps b0 s) :
    Keeps b0
    (State.reselect s i tc old) := by
  unfold State.reselect
  repeat' (first
    | with_reducible first
      | assumption | refine foldl_keeps ?_ ?_ | refine ite_keeps ?_ ?_ | refine pite_keeps ?_ ?_ | exact none_okeeps
      | apply some_okeeps | refine oite_keeps ?_ ?_ | refine getD_keeps ?_ ?_ | refine omap_keeps ?_ ?_ | apply id_keeps
    | intro _ _ _
    | intro _ _
    | split
    | with_reducible first
      | refine pair_keeps ?_ (by assumption) | refine pair_keeps2 ?_ (by assumption)
      | refine opt_keeps ?_ (by assumption)
    | dsimp only
    | fail_if_no_progress with_reducible apply mk_keeps)

theorem swEdge_keeps {b0 : State} (i : ℕ) (w : Word) (s : State) (hs : Keeps b0 s) :
    Keeps b0 (swEdge i w s) := by
  unfold swEdge
  repeat' (first
    | with_reducible first
      | assumption | refine foldl_keeps ?_ ?_ | refine ite_keeps ?_ ?_ | refine pite_keeps ?_ ?_ | exact none_okeeps
      | apply some_okeeps | refine oite_keeps ?_ ?_ | refine getD_keeps ?_ ?_ | refine omap_keeps ?_ ?_ | apply id_keeps
    | intro _ _ _
    | intro _ _
    | split
    | with_reducible first
      | refine pair_keeps ?_ (by assumption) | refine pair_keeps2 ?_ (by assumption)
      | refine opt_keeps ?_ (by assumption)
    | dsimp only
    | fail_if_no_progress with_reducible apply mk_keeps)

theorem wrFabCtl_keeps {b0 : State} (q : Req) (i : ℕ) (w : Word) (s : State) (hs : Keeps b0 s) :
    Keeps b0 (wrFabCtl q i w s) := by
  unfold wrFabCtl
  repeat' (first
    | with_reducible first
      | assumption | apply State.writeFields_keeps | apply swEdge_keeps | refine foldl_keeps ?_ ?_ | refine ite_keeps ?_ ?_
      | refine pite_keeps ?_ ?_ | exact none_okeeps | apply some_okeeps | refine oite_keeps ?_ ?_ | refine getD_keeps ?_ ?_
      | refine omap_keeps ?_ ?_ | apply id_keeps
    | intro _ _ _
    | intro _ _
    | split
    | with_reducible first
      | refine pair_keeps ?_ (by assumption) | refine pair_keeps2 ?_ (by assumption)
      | refine opt_keeps ?_ (by assumption)
    | dsimp only
    | fail_if_no_progress with_reducible apply mk_keeps)

theorem wrFabErr_keeps {b0 : State} (q : Req) (w : Word) (s : State) (hs : Keeps b0 s) :
    Keeps b0 (wrFabErr q w s) := by
  unfold wrFabErr
  repeat' (first
    | with_reducible first
      | assumption | apply State.set_keeps | apply State.writeFields_keeps | refine foldl_keeps ?_ ?_ | refine ite_keeps ?_ ?_
      | refine pite_keeps ?_ ?_ | exact none_okeeps | apply some_okeeps | refine oite_keeps ?_ ?_ | refine getD_keeps ?_ ?_
      | refine omap_keeps ?_ ?_ | apply id_keeps
    | intro _ _ _
    | intro _ _
    | split
    | with_reducible first
      | refine pair_keeps ?_ (by assumption) | refine pair_keeps2 ?_ (by assumption)
      | refine opt_keeps ?_ (by assumption)
    | dsimp only
    | fail_if_no_progress with_reducible apply mk_keeps)

theorem State.dropAct_keeps {b0 : State} (s : State) (a : Act) (hs : Keeps b0 s) :
    Keeps b0 (State.dropAct s a) := by
  unfold State.dropAct
  repeat' (first
    | with_reducible first
      | assumption | refine foldl_keeps ?_ ?_ | refine ite_keeps ?_ ?_ | refine pite_keeps ?_ ?_ | exact none_okeeps
      | apply some_okeeps | refine oite_keeps ?_ ?_ | refine getD_keeps ?_ ?_ | refine omap_keeps ?_ ?_ | apply id_keeps
    | intro _ _ _
    | intro _ _
    | split
    | with_reducible first
      | refine pair_keeps ?_ (by assumption) | refine pair_keeps2 ?_ (by assumption)
      | refine opt_keeps ?_ (by assumption)
    | dsimp only
    | fail_if_no_progress with_reducible apply mk_keeps)

theorem State.eccUe_keeps {b0 : State} (s : State) (a : ℕ) (mem : ℕ) (scrub : Bool) (hs : Keeps b0 s) :
    Keeps b0
    (State.eccUe s a mem scrub) := by
  unfold State.eccUe
  repeat' (first
    | with_reducible first
      | assumption | apply State.fire_keeps | apply State.incSat_keeps | apply State.set_keeps | apply State.setB_keeps
      | apply State.setReg_keeps | refine foldl_keeps ?_ ?_ | refine ite_keeps ?_ ?_ | refine pite_keeps ?_ ?_
      | exact none_okeeps | apply some_okeeps | refine oite_keeps ?_ ?_ | refine getD_keeps ?_ ?_ | refine omap_keeps ?_ ?_
      | apply id_keeps
    | intro _ _ _
    | intro _ _
    | split
    | with_reducible first
      | refine pair_keeps ?_ (by assumption) | refine pair_keeps2 ?_ (by assumption)
      | refine opt_keeps ?_ (by assumption)
    | dsimp only
    | fail_if_no_progress with_reducible apply mk_keeps)

theorem State.eccCe_keeps {b0 : State} (s : State) (hs : Keeps b0 s) :
    Keeps b0 (State.eccCe s) := by
  unfold State.eccCe
  repeat' (first
    | with_reducible first
      | assumption | apply State.fire_keeps | apply State.incSat_keeps | refine foldl_keeps ?_ ?_ | refine ite_keeps ?_ ?_
      | refine pite_keeps ?_ ?_ | exact none_okeeps | apply some_okeeps | refine oite_keeps ?_ ?_ | refine getD_keeps ?_ ?_
      | refine omap_keeps ?_ ?_ | apply id_keeps
    | intro _ _ _
    | intro _ _
    | split
    | with_reducible first
      | refine pair_keeps ?_ (by assumption) | refine pair_keeps2 ?_ (by assumption)
      | refine opt_keeps ?_ (by assumption)
    | dsimp only
    | fail_if_no_progress with_reducible apply mk_keeps)

theorem State.eccFix_keeps {b0 : State} (s : State) (a : ℕ) (hs : Keeps b0 s) :
    Keeps b0 (State.eccFix s a) := by
  unfold State.eccFix
  repeat' (first
    | with_reducible first
      | assumption | apply State.eccCe_keeps | refine foldl_keeps ?_ ?_ | refine ite_keeps ?_ ?_ | refine pite_keeps ?_ ?_
      | exact none_okeeps | apply some_okeeps | refine oite_keeps ?_ ?_ | refine getD_keeps ?_ ?_ | refine omap_keeps ?_ ?_
      | apply id_keeps
    | intro _ _ _
    | intro _ _
    | split
    | with_reducible first
      | refine pair_keeps ?_ (by assumption) | refine pair_keeps2 ?_ (by assumption)
      | refine opt_keeps ?_ (by assumption)
    | dsimp only
    | fail_if_no_progress with_reducible apply mk_keeps)

theorem State.meet_keeps {b0 : State} (s : State) (a : ℕ) (hs : Keeps b0 s) :
    Keeps b0 (State.meet s a) := by
  unfold State.meet
  repeat' (first
    | with_reducible first
      | assumption | apply State.eccFix_keeps | apply State.eccUe_keeps | refine foldl_keeps ?_ ?_ | refine ite_keeps ?_ ?_
      | refine pite_keeps ?_ ?_ | exact none_okeeps | apply some_okeeps | refine oite_keeps ?_ ?_ | refine getD_keeps ?_ ?_
      | refine omap_keeps ?_ ?_ | apply id_keeps
    | intro _ _ _
    | intro _ _
    | split
    | with_reducible first
      | refine pair_keeps ?_ (by assumption) | refine pair_keeps2 ?_ (by assumption)
      | refine opt_keeps ?_ (by assumption)
    | dsimp only
    | fail_if_no_progress with_reducible apply mk_keeps)

theorem State.meetAll_keeps {b0 : State} (s : State) (l : List ℕ) (hs : Keeps b0 s) :
    Keeps b0 (State.meetAll s l) := by
  unfold State.meetAll
  repeat' (first
    | with_reducible first
      | assumption | apply State.meet_keeps | refine foldl_keeps ?_ ?_ | refine ite_keeps ?_ ?_ | refine pite_keeps ?_ ?_
      | exact none_okeeps | apply some_okeeps | refine oite_keeps ?_ ?_ | refine getD_keeps ?_ ?_ | refine omap_keeps ?_ ?_
      | apply id_keeps
    | intro _ _ _
    | intro _ _
    | split
    | with_reducible first
      | refine pair_keeps ?_ (by assumption) | refine pair_keeps2 ?_ (by assumption)
      | refine opt_keeps ?_ (by assumption)
    | dsimp only
    | fail_if_no_progress with_reducible apply mk_keeps)

theorem State.meetCe_keeps {b0 : State} (s : State) (a : ℕ) (hs : Keeps b0 s) :
    Keeps b0 (State.meetCe s a) := by
  unfold State.meetCe
  repeat' (first
    | with_reducible first
      | assumption | apply State.eccFix_keeps | refine foldl_keeps ?_ ?_ | refine ite_keeps ?_ ?_ | refine pite_keeps ?_ ?_
      | exact none_okeeps | apply some_okeeps | refine oite_keeps ?_ ?_ | refine getD_keeps ?_ ?_ | refine omap_keeps ?_ ?_
      | apply id_keeps
    | intro _ _ _
    | intro _ _
    | split
    | with_reducible first
      | refine pair_keeps ?_ (by assumption) | refine pair_keeps2 ?_ (by assumption)
      | refine opt_keeps ?_ (by assumption)
    | dsimp only
    | fail_if_no_progress with_reducible apply mk_keeps)

theorem State.countCe_keeps {b0 : State} (s : State) (e : ℕ) (a : ℕ) (hs : Keeps b0 s) :
    Keeps b0 (State.countCe s e a) := by
  unfold State.countCe
  repeat' (first
    | with_reducible first
      | assumption | apply State.eccFix_keeps | apply State.incSat_keeps | refine foldl_keeps ?_ ?_ | refine ite_keeps ?_ ?_
      | refine pite_keeps ?_ ?_ | exact none_okeeps | apply some_okeeps | refine oite_keeps ?_ ?_ | refine getD_keeps ?_ ?_
      | refine omap_keeps ?_ ?_ | apply id_keeps
    | intro _ _ _
    | intro _ _
    | split
    | with_reducible first
      | refine pair_keeps ?_ (by assumption) | refine pair_keeps2 ?_ (by assumption)
      | refine opt_keeps ?_ (by assumption)
    | dsimp only
    | fail_if_no_progress with_reducible apply mk_keeps)

theorem State.countUe_keeps {b0 : State} (s : State) (e : ℕ) (a : ℕ) (hs : Keeps b0 s) :
    Keeps b0 (State.countUe s e a) := by
  unfold State.countUe
  repeat' (first
    | with_reducible first
      | assumption | apply State.eccUe_keeps | apply State.incSat_keeps | refine foldl_keeps ?_ ?_ | refine ite_keeps ?_ ?_
      | refine pite_keeps ?_ ?_ | exact none_okeeps | apply some_okeeps | refine oite_keeps ?_ ?_ | refine getD_keeps ?_ ?_
      | refine omap_keeps ?_ ?_ | apply id_keeps
    | intro _ _ _
    | intro _ _
    | split
    | with_reducible first
      | refine pair_keeps ?_ (by assumption) | refine pair_keeps2 ?_ (by assumption)
      | refine opt_keeps ?_ (by assumption)
    | dsimp only
    | fail_if_no_progress with_reducible apply mk_keeps)

theorem State.metCe_keeps {b0 : State} (s : State) (a : ℕ) (hs : Keeps b0 s) :
    Keeps b0 (State.metCe s a) := by
  unfold State.metCe
  repeat' (first
    | with_reducible first
      | assumption | apply State.countCe_keeps | apply State.meetCe_keeps | refine foldl_keeps ?_ ?_ | refine ite_keeps ?_ ?_
      | refine pite_keeps ?_ ?_ | exact none_okeeps | apply some_okeeps | refine oite_keeps ?_ ?_ | refine getD_keeps ?_ ?_
      | refine omap_keeps ?_ ?_ | apply id_keeps
    | intro _ _ _
    | intro _ _
    | split
    | with_reducible first
      | refine pair_keeps ?_ (by assumption) | refine pair_keeps2 ?_ (by assumption)
      | refine opt_keeps ?_ (by assumption)
    | dsimp only
    | fail_if_no_progress with_reducible apply mk_keeps)

theorem State.metUe_keeps {b0 : State} (s : State) (a : ℕ) (hs : Keeps b0 s) :
    Keeps b0 (State.metUe s a) := by
  unfold State.metUe
  repeat' (first
    | with_reducible first
      | assumption | apply State.countUe_keeps | apply State.eccUe_keeps | refine foldl_keeps ?_ ?_ | refine ite_keeps ?_ ?_
      | refine pite_keeps ?_ ?_ | exact none_okeeps | apply some_okeeps | refine oite_keeps ?_ ?_ | refine getD_keeps ?_ ?_
      | refine omap_keeps ?_ ?_ | apply id_keeps
    | intro _ _ _
    | intro _ _
    | split
    | with_reducible first
      | refine pair_keeps ?_ (by assumption) | refine pair_keeps2 ?_ (by assumption)
      | refine opt_keeps ?_ (by assumption)
    | dsimp only
    | fail_if_no_progress with_reducible apply mk_keeps)

theorem State.noteUe_keeps {b0 : State} (s : State) (a : ℕ) (n : ℕ) (hs : Keeps b0 s) :
    Keeps b0 (State.noteUe s a n) := by
  unfold State.noteUe
  repeat' (first
    | with_reducible first
      | assumption | apply State.meet_keeps | apply State.meetAll_keeps | refine foldl_keeps ?_ ?_ | refine ite_keeps ?_ ?_
      | refine pite_keeps ?_ ?_ | exact none_okeeps | apply some_okeeps | refine oite_keeps ?_ ?_ | refine getD_keeps ?_ ?_
      | refine omap_keeps ?_ ?_ | apply id_keeps
    | intro _ _ _
    | intro _ _
    | split
    | with_reducible first
      | refine pair_keeps ?_ (by assumption) | refine pair_keeps2 ?_ (by assumption)
      | refine opt_keeps ?_ (by assumption)
    | dsimp only
    | fail_if_no_progress with_reducible apply mk_keeps)

theorem State.noteAll_keeps {b0 : State} (s : State) (a : ℕ) (n : ℕ) (hs : Keeps b0 s) :
    Keeps b0 (State.noteAll s a n) := by
  unfold State.noteAll
  repeat' (first
    | with_reducible first
      | assumption | apply State.meetAll_keeps | refine foldl_keeps ?_ ?_ | refine ite_keeps ?_ ?_ | refine pite_keeps ?_ ?_
      | exact none_okeeps | apply some_okeeps | refine oite_keeps ?_ ?_ | refine getD_keeps ?_ ?_ | refine omap_keeps ?_ ?_
      | apply id_keeps
    | intro _ _ _
    | intro _ _
    | split
    | with_reducible first
      | refine pair_keeps ?_ (by assumption) | refine pair_keeps2 ?_ (by assumption)
      | refine opt_keeps ?_ (by assumption)
    | dsimp only
    | fail_if_no_progress with_reducible apply mk_keeps)

theorem State.endIntervals_keeps {b0 : State} (s : State) (hs : Keeps b0 s) :
    Keeps b0 (State.endIntervals s) := by
  unfold State.endIntervals
  repeat' (first
    | with_reducible first
      | assumption | apply State.flagIf_keeps | refine foldl_keeps ?_ ?_ | refine ite_keeps ?_ ?_ | refine pite_keeps ?_ ?_
      | exact none_okeeps | apply some_okeeps | refine oite_keeps ?_ ?_ | refine getD_keeps ?_ ?_ | refine omap_keeps ?_ ?_
      | apply id_keeps
    | intro _ _ _
    | intro _ _
    | split
    | with_reducible first
      | refine pair_keeps ?_ (by assumption) | refine pair_keeps2 ?_ (by assumption)
      | refine opt_keeps ?_ (by assumption)
    | dsimp only
    | fail_if_no_progress with_reducible apply mk_keeps)

theorem State.pllLock_keeps {b0 : State} (s : State) (hs : Keeps b0 s) :
    Keeps b0 (State.pllLock s) := by
  unfold State.pllLock
  repeat' (first
    | with_reducible first
      | assumption | apply State.endIntervals_keeps | apply State.set_keeps | apply State.setReady_keeps
      | refine foldl_keeps ?_ ?_ | refine ite_keeps ?_ ?_ | refine pite_keeps ?_ ?_ | exact none_okeeps | apply some_okeeps
      | refine oite_keeps ?_ ?_ | refine getD_keeps ?_ ?_ | refine omap_keeps ?_ ?_ | apply id_keeps
    | intro _ _ _
    | intro _ _
    | split
    | with_reducible first
      | refine pair_keeps ?_ (by assumption) | refine pair_keeps2 ?_ (by assumption)
      | refine opt_keeps ?_ (by assumption)
    | dsimp only
    | fail_if_no_progress with_reducible apply mk_keeps)

theorem State.lowEffect_keeps {b0 : State} (s : State) (q : Req) (c : Counter64) (hs : Keeps b0 s) :
    Keeps b0 (State.lowEffect s q c)
    := by
  unfold State.lowEffect
  repeat' (first
    | with_reducible first
      | assumption | apply State.latch_keeps | apply State.set_keeps | apply State.setB_keeps | refine foldl_keeps ?_ ?_
      | refine ite_keeps ?_ ?_ | refine pite_keeps ?_ ?_ | exact none_okeeps | apply some_okeeps | refine oite_keeps ?_ ?_
      | refine getD_keeps ?_ ?_ | refine omap_keeps ?_ ?_ | apply id_keeps
    | intro _ _ _
    | intro _ _
    | split
    | with_reducible first
      | refine pair_keeps ?_ (by assumption) | refine pair_keeps2 ?_ (by assumption)
      | refine opt_keeps ?_ (by assumption)
    | dsimp only
    | fail_if_no_progress with_reducible apply mk_keeps)

theorem rdLow_keeps {b0 : State} (q : Req) (c : Counter64) (s : State) (hs : Keeps b0 s) :
    Keeps b0 (rdLow q c s) := by
  unfold rdLow
  repeat' (first
    | with_reducible first
      | assumption | apply State.lowEffect_keeps | apply State.read_keeps | refine foldl_keeps ?_ ?_ | refine ite_keeps ?_ ?_
      | refine pite_keeps ?_ ?_ | exact none_okeeps | apply some_okeeps | refine oite_keeps ?_ ?_ | refine getD_keeps ?_ ?_
      | refine omap_keeps ?_ ?_ | apply id_keeps
    | intro _ _ _
    | intro _ _
    | split
    | with_reducible first
      | refine pair_keeps ?_ (by assumption) | refine pair_keeps2 ?_ (by assumption)
      | refine opt_keeps ?_ (by assumption)
    | dsimp only
    | fail_if_no_progress with_reducible apply mk_keeps)

theorem State.markFrom_keeps {b0 : State} (s : State) (m : ℕ) (t : ℕ) (hs : Keeps b0 s) :
    Keeps b0 (State.markFrom s m t) := by
  unfold State.markFrom
  repeat' (first
    | with_reducible first
      | assumption | refine foldl_keeps ?_ ?_ | refine ite_keeps ?_ ?_ | refine pite_keeps ?_ ?_ | exact none_okeeps
      | apply some_okeeps | refine oite_keeps ?_ ?_ | refine getD_keeps ?_ ?_ | refine omap_keeps ?_ ?_ | apply id_keeps
    | intro _ _ _
    | intro _ _
    | split
    | with_reducible first
      | refine pair_keeps ?_ (by assumption) | refine pair_keeps2 ?_ (by assumption)
      | refine opt_keeps ?_ (by assumption)
    | dsimp only
    | fail_if_no_progress with_reducible apply mk_keeps)

end Sys2Proof.Machine
end

