-- ==== Sys2Proof/Laws/KeepsSignal.lean ====
section
/-!
SUPPORT. What `Keeps` says, one lemma per operation: conversion, monitors, slices, modes, trips, packets.
-/

namespace Sys2Proof.Machine

set_option linter.unusedTactic false
set_option linter.unreachableTactic false

theorem State.each_keeps {b0 : State} (s : State) (l : List ℕ) (f : State → ℕ → State) (hs : Keeps b0 s) (hf
    : ∀ x0 x1, Keeps b0 x0 → Keeps b0 (f x0 x1)) :
    Keeps b0 (State.each s l f) := by
  unfold State.each
  repeat' (first
    | with_reducible first
      | assumption | apply hf | refine foldl_keeps ?_ ?_ | refine ite_keeps ?_ ?_ | refine pite_keeps ?_ ?_ | exact none_okeeps
      | apply some_okeeps | refine oite_keeps ?_ ?_ | refine getD_keeps ?_ ?_ | refine omap_keeps ?_ ?_ | apply id_keeps
    | intro _ _ _
    | intro _ _
    | split
    | with_reducible first
      | refine pair_keeps ?_ (by assumption) | refine pair_keeps2 ?_ (by assumption)
      | refine opt_keeps ?_ (by assumption)
    | dsimp only
    | fail_if_no_progress with_reducible apply mk_keeps)

theorem State.refUnsettle_keeps {b0 : State} (s : State) (g : ℕ) (hs : Keeps b0 s) :
    Keeps b0 (State.refUnsettle s g) := by
  unfold State.refUnsettle
  repeat' (first
    | with_reducible first
      | assumption | apply State.each_keeps | apply State.setReady_keeps | refine foldl_keeps ?_ ?_ | refine ite_keeps ?_ ?_
      | refine pite_keeps ?_ ?_ | exact none_okeeps | apply some_okeeps | refine oite_keeps ?_ ?_ | refine getD_keeps ?_ ?_
      | refine omap_keeps ?_ ?_ | apply id_keeps
    | intro _ _ _
    | intro _ _
    | split
    | with_reducible first
      | refine pair_keeps ?_ (by assumption) | refine pair_keeps2 ?_ (by assumption)
      | refine opt_keeps ?_ (by assumption)
    | dsimp only
    | fail_if_no_progress with_reducible apply mk_keeps)

theorem wrRefCfg_keeps {b0 : State} (q : Req) (w : Word) (s : State) (hs : Keeps b0 s) :
    Keeps b0 (wrRefCfg q w s) := by
  unfold wrRefCfg
  repeat' (first
    | with_reducible first
      | assumption | apply State.each_keeps | apply State.refUnsettle_keeps | apply State.writeFields_keeps
      | refine foldl_keeps ?_ ?_ | refine ite_keeps ?_ ?_ | refine pite_keeps ?_ ?_ | exact none_okeeps | apply some_okeeps
      | refine oite_keeps ?_ ?_ | refine getD_keeps ?_ ?_ | refine omap_keeps ?_ ?_ | apply id_keeps
    | intro _ _ _
    | intro _ _
    | split
    | with_reducible first
      | refine pair_keeps ?_ (by assumption) | refine pair_keeps2 ?_ (by assumption)
      | refine opt_keeps ?_ (by assumption)
    | dsimp only
    | fail_if_no_progress with_reducible apply mk_keeps)

theorem State.takeTrigger_keeps {b0 : State} (s : State) (t : ℕ) (k : ℕ) (hs : Keeps b0 s) :
    Keeps b0 (State.takeTrigger s t k) := by
  unfold State.takeTrigger
  repeat' (first
    | with_reducible first
      | assumption | apply State.set_keeps | apply State.setConv_keeps | refine foldl_keeps ?_ ?_ | refine ite_keeps ?_ ?_
      | refine pite_keeps ?_ ?_ | exact none_okeeps | apply some_okeeps | refine oite_keeps ?_ ?_ | refine getD_keeps ?_ ?_
      | refine omap_keeps ?_ ?_ | apply id_keeps
    | intro _ _ _
    | intro _ _
    | split
    | with_reducible first
      | refine pair_keeps ?_ (by assumption) | refine pair_keeps2 ?_ (by assumption)
      | refine opt_keeps ?_ (by assumption)
    | dsimp only
    | fail_if_no_progress with_reducible apply mk_keeps)

theorem State.trigger_keeps {b0 : State} (s : State) (g : ℕ) (t : ℕ) (hs : Keeps b0 s) :
    Keeps b0 (State.trigger s g t) := by
  unfold State.trigger
  repeat' (first
    | with_reducible first
      | assumption | apply State.each_keeps | apply State.incWrap_keeps | apply State.set_keeps | apply State.setGroup_keeps
      | apply State.takeTrigger_keeps | refine foldl_keeps ?_ ?_ | refine ite_keeps ?_ ?_ | refine pite_keeps ?_ ?_
      | exact none_okeeps | apply some_okeeps | refine oite_keeps ?_ ?_ | refine getD_keeps ?_ ?_ | refine omap_keeps ?_ ?_
      | apply id_keeps
    | intro _ _ _
    | intro _ _
    | split
    | with_reducible first
      | refine pair_keeps ?_ (by assumption) | refine pair_keeps2 ?_ (by assumption)
      | refine opt_keeps ?_ (by assumption)
    | dsimp only
    | fail_if_no_progress with_reducible apply mk_keeps)

theorem State.acceptTrigger_keeps {b0 : State} (s : State) (g : ℕ) (a : Act) (hs : Keeps b0 s) :
    Keeps b0 (State.acceptTrigger s g a)
    := by
  unfold State.acceptTrigger
  repeat' (first
    | with_reducible first
      | assumption | apply State.incWrap_keeps | apply State.trigger_keeps | refine foldl_keeps ?_ ?_ | refine ite_keeps ?_ ?_
      | refine pite_keeps ?_ ?_ | exact none_okeeps | apply some_okeeps | refine oite_keeps ?_ ?_ | refine getD_keeps ?_ ?_
      | refine omap_keeps ?_ ?_ | apply id_keeps
    | intro _ _ _
    | intro _ _
    | split
    | with_reducible first
      | refine pair_keeps ?_ (by assumption) | refine pair_keeps2 ?_ (by assumption)
      | refine opt_keeps ?_ (by assumption)
    | dsimp only
    | fail_if_no_progress with_reducible apply mk_keeps)

theorem State.groupDone_keeps {b0 : State} (s : State) (g : ℕ) (k : ℕ) (t : ℕ) (hs : Keeps b0 s) :
    Keeps b0 (State.groupDone s g k t)
    := by
  unfold State.groupDone
  repeat' (first
    | with_reducible first
      | assumption | apply State.fireAt_keeps | apply State.setGroup_keeps | refine foldl_keeps ?_ ?_ | refine ite_keeps ?_ ?_
      | refine pite_keeps ?_ ?_ | exact none_okeeps | apply some_okeeps | refine oite_keeps ?_ ?_ | refine getD_keeps ?_ ?_
      | refine omap_keeps ?_ ?_ | apply id_keeps
    | intro _ _ _
    | intro _ _
    | split
    | with_reducible first
      | refine pair_keeps ?_ (by assumption) | refine pair_keeps2 ?_ (by assumption)
      | refine opt_keeps ?_ (by assumption)
    | dsimp only
    | fail_if_no_progress with_reducible apply mk_keeps)

theorem State.pushFeed_keeps {b0 : State} (s : State) (sd : Bool) (k : ℕ) (f : Feed) (hs : Keeps b0 s) :
    Keeps b0
    (State.pushFeed s sd k f) := by
  unfold State.pushFeed
  repeat' (first
    | with_reducible first
      | assumption | apply State.setFifo_keeps | refine foldl_keeps ?_ ?_ | refine ite_keeps ?_ ?_ | refine pite_keeps ?_ ?_
      | exact none_okeeps | apply some_okeeps | refine oite_keeps ?_ ?_ | refine getD_keeps ?_ ?_ | refine omap_keeps ?_ ?_
      | apply id_keeps
    | intro _ _ _
    | intro _ _
    | split
    | with_reducible first
      | refine pair_keeps ?_ (by assumption) | refine pair_keeps2 ?_ (by assumption)
      | refine opt_keeps ?_ (by assumption)
    | dsimp only
    | fail_if_no_progress with_reducible apply mk_keeps)

theorem State.feedFlag_keeps {b0 : State} (s : State) (sd : Bool) (k : ℕ) (err : Bool) (hs : Keeps b0 s) :
    Keeps b0
    (State.feedFlag s sd k err) := by
  unfold State.feedFlag
  repeat' (first
    | with_reducible first
      | assumption | apply State.set_keeps | refine foldl_keeps ?_ ?_ | refine ite_keeps ?_ ?_ | refine pite_keeps ?_ ?_
      | exact none_okeeps | apply some_okeeps | refine oite_keeps ?_ ?_ | refine getD_keeps ?_ ?_ | refine omap_keeps ?_ ?_
      | apply id_keeps
    | intro _ _ _
    | intro _ _
    | split
    | with_reducible first
      | refine pair_keeps ?_ (by assumption) | refine pair_keeps2 ?_ (by assumption)
      | refine opt_keeps ?_ (by assumption)
    | dsimp only
    | fail_if_no_progress with_reducible apply mk_keeps)

theorem State.flushFeed_keeps {b0 : State} (s : State) (sd : Bool) (k : ℕ) (old : Option Feed) (hs : Keeps b0 s) :
    Keeps b0
    (State.flushFeed s sd k old) := by
  unfold State.flushFeed
  repeat' (first
    | with_reducible first
      | assumption | apply State.feedFlag_keeps | apply State.pushFeed_keeps | refine foldl_keeps ?_ ?_ | refine ite_keeps ?_ ?_
      | refine pite_keeps ?_ ?_ | exact none_okeeps | apply some_okeeps | refine oite_keeps ?_ ?_ | refine getD_keeps ?_ ?_
      | refine omap_keeps ?_ ?_ | apply id_keeps
    | intro _ _ _
    | intro _ _
    | split
    | with_reducible first
      | refine pair_keeps ?_ (by assumption) | refine pair_keeps2 ?_ (by assumption)
      | refine opt_keeps ?_ (by assumption)
    | dsimp only
    | fail_if_no_progress with_reducible apply mk_keeps)

theorem State.feedResult_keeps {b0 : State} (s : State) (k : ℕ) (c : Convn) (w : Word) (t : ℕ) (hs : Keeps b0 s) :
    Keeps b0
    (State.feedResult s k c w t) := by
  unfold State.feedResult
  repeat' (first
    | with_reducible first
      | assumption | apply State.flushFeed_keeps | apply State.set_keeps | apply State.setConv_keeps | refine foldl_keeps ?_ ?_
      | refine ite_keeps ?_ ?_ | refine pite_keeps ?_ ?_ | exact none_okeeps | apply some_okeeps | refine oite_keeps ?_ ?_
      | refine getD_keeps ?_ ?_ | refine omap_keeps ?_ ?_ | apply id_keeps
    | intro _ _ _
    | intro _ _
    | split
    | with_reducible first
      | refine pair_keeps ?_ (by assumption) | refine pair_keeps2 ?_ (by assumption)
      | refine opt_keeps ?_ (by assumption)
    | dsimp only
    | fail_if_no_progress with_reducible apply mk_keeps)

theorem State.deliver_keeps {b0 : State} (s : State) (k : ℕ) (c : Convn) (raw : BitVec 16) (t : ℕ) (hs : Keeps b0 s) :
    Keeps b0
    (State.deliver s k c raw t) := by
  unfold State.deliver
  repeat' (first
    | with_reducible first
      | assumption | apply State.feedResult_keeps | apply State.fireAt_keeps | apply State.flagIf_keeps
      | apply State.groupDone_keeps | apply State.set_keeps | apply State.setConv_keeps | apply State.setReg_keeps
      | refine foldl_keeps ?_ ?_ | refine ite_keeps ?_ ?_ | refine pite_keeps ?_ ?_ | exact none_okeeps | apply some_okeeps
      | refine oite_keeps ?_ ?_ | refine getD_keeps ?_ ?_ | refine omap_keeps ?_ ?_ | apply id_keeps
    | intro _ _ _
    | intro _ _
    | split
    | with_reducible first
      | refine pair_keeps ?_ (by assumption) | refine pair_keeps2 ?_ (by assumption)
      | refine opt_keeps ?_ (by assumption)
    | dsimp only
    | fail_if_no_progress with_reducible apply mk_keeps)

theorem State.feedWord_keeps {b0 : State} (s : State) (a : ℕ) (v : Word) (hs : Keeps b0 s) :
    Keeps b0 (State.feedWord s a v) := by
  unfold State.feedWord
  repeat' (first
    | with_reducible first
      | assumption | apply State.memWrite_keeps | refine foldl_keeps ?_ ?_ | refine ite_keeps ?_ ?_ | refine pite_keeps ?_ ?_
      | exact none_okeeps | apply some_okeeps | refine oite_keeps ?_ ?_ | refine getD_keeps ?_ ?_ | refine omap_keeps ?_ ?_
      | apply id_keeps
    | intro _ _ _
    | intro _ _
    | split
    | with_reducible first
      | refine pair_keeps ?_ (by assumption) | refine pair_keeps2 ?_ (by assumption)
      | refine opt_keeps ?_ (by assumption)
    | dsimp only
    | fail_if_no_progress with_reducible apply mk_keeps)

theorem State.sendFeed_keeps {b0 : State} (s : State) (sd : Bool) (k : ℕ) (f : Feed) (hs : Keeps b0 s) :
    Keeps b0
    (State.sendFeed s sd k f) := by
  unfold State.sendFeed
  repeat' (first
    | with_reducible first
      | assumption | apply State.feedFlag_keeps | apply State.feedWord_keeps | apply State.pushFeed_keeps
      | refine foldl_keeps ?_ ?_ | refine ite_keeps ?_ ?_ | refine pite_keeps ?_ ?_ | exact none_okeeps | apply some_okeeps
      | refine oite_keeps ?_ ?_ | refine getD_keeps ?_ ?_ | refine omap_keeps ?_ ?_ | apply id_keeps
    | intro _ _ _
    | intro _ _
    | split
    | with_reducible first
      | refine pair_keeps ?_ (by assumption) | refine pair_keeps2 ?_ (by assumption)
      | refine opt_keeps ?_ (by assumption)
    | dsimp only
    | fail_if_no_progress with_reducible apply mk_keeps)

theorem State.popAlone_keeps {b0 : State} (s : State) (k : ℕ) (hs : Keeps b0 s) :
    Keeps b0 (State.popAlone s k) := by
  unfold State.popAlone
  repeat' (first
    | with_reducible first
      | assumption | apply State.set_keeps | apply State.setConv_keeps | refine foldl_keeps ?_ ?_ | refine ite_keeps ?_ ?_
      | refine pite_keeps ?_ ?_ | exact none_okeeps | apply some_okeeps | refine oite_keeps ?_ ?_ | refine getD_keeps ?_ ?_
      | refine omap_keeps ?_ ?_ | apply id_keeps
    | intro _ _ _
    | intro _ _
    | split
    | with_reducible first
      | refine pair_keeps ?_ (by assumption) | refine pair_keeps2 ?_ (by assumption)
      | refine opt_keeps ?_ (by assumption)
    | dsimp only
    | fail_if_no_progress with_reducible apply mk_keeps)

theorem State.unfire_keeps {b0 : State} (s : State) (p : ℕ) (t : ℕ) (hs : Keeps b0 s) :
    Keeps b0 (State.unfire s p t) := by
  unfold State.unfire
  repeat' (first
    | with_reducible first
      | assumption | refine foldl_keeps ?_ ?_ | refine ite_keeps ?_ ?_ | refine pite_keeps ?_ ?_ | exact none_okeeps
      | apply some_okeeps | refine oite_keeps ?_ ?_ | refine getD_keeps ?_ ?_ | refine omap_keeps ?_ ?_ | apply id_keeps
    | intro _ _ _
    | intro _ _
    | split
    | with_reducible first
      | refine pair_keeps ?_ (by assumption) | refine pair_keeps2 ?_ (by assumption)
      | refine opt_keeps ?_ (by assumption)
    | dsimp only
    | fail_if_no_progress with_reducible apply mk_keeps)

theorem State.popBefore_keeps {b0 : State} (s : State) (k : ℕ) (p : Push) (hs : Keeps b0 s) :
    Keeps b0 (State.popBefore s k p) := by
  unfold State.popBefore
  repeat' (first
    | with_reducible first
      | assumption | apply State.fireAt_keeps | apply State.set_keeps | apply State.setB_keeps | apply State.setConv_keeps
      | apply State.unfire_keeps | refine foldl_keeps ?_ ?_ | refine ite_keeps ?_ ?_ | refine pite_keeps ?_ ?_
      | exact none_okeeps | apply some_okeeps | refine oite_keeps ?_ ?_ | refine getD_keeps ?_ ?_ | refine omap_keeps ?_ ?_
      | apply id_keeps
    | intro _ _ _
    | intro _ _
    | split
    | with_reducible first
      | refine pair_keeps ?_ (by assumption) | refine pair_keeps2 ?_ (by assumption)
      | refine opt_keeps ?_ (by assumption)
    | dsimp only
    | fail_if_no_progress with_reducible apply mk_keeps)

theorem State.fifoPop_keeps {b0 : State} (s : State) (k : ℕ) (hs : Keeps b0 s) :
    Keeps b0 (State.fifoPop s k) := by
  unfold State.fifoPop
  repeat' (first
    | with_reducible first
      | assumption | apply State.flagIf_keeps | apply State.popAlone_keeps | apply State.popBefore_keeps
      | refine foldl_keeps ?_ ?_ | refine ite_keeps ?_ ?_ | refine pite_keeps ?_ ?_ | exact none_okeeps | apply some_okeeps
      | refine oite_keeps ?_ ?_ | refine getD_keeps ?_ ?_ | refine omap_keeps ?_ ?_ | apply id_keeps
    | intro _ _ _
    | intro _ _
    | split
    | with_reducible first
      | refine pair_keeps ?_ (by assumption) | refine pair_keeps2 ?_ (by assumption)
      | refine opt_keeps ?_ (by assumption)
    | dsimp only
    | fail_if_no_progress with_reducible apply mk_keeps)

theorem rdConvFifo_keeps {b0 : State} (q : Req) (k : ℕ) (s : State) (hs : Keeps b0 s) :
    Keeps b0 (rdConvFifo q k s) := by
  unfold rdConvFifo
  repeat' (first
    | with_reducible first
      | assumption | apply State.fifoPop_keeps | apply State.read_keeps | refine foldl_keeps ?_ ?_ | refine ite_keeps ?_ ?_
      | refine pite_keeps ?_ ?_ | exact none_okeeps | apply some_okeeps | refine oite_keeps ?_ ?_ | refine getD_keeps ?_ ?_
      | refine omap_keeps ?_ ?_ | apply id_keeps
    | intro _ _ _
    | intro _ _
    | split
    | with_reducible first
      | refine pair_keeps ?_ (by assumption) | refine pair_keeps2 ?_ (by assumption)
      | refine opt_keeps ?_ (by assumption)
    | dsimp only
    | fail_if_no_progress with_reducible apply mk_keeps)

theorem State.sdFeed_keeps {b0 : State} (s : State) (k : ℕ) (w : Word) (hs : Keeps b0 s) :
    Keeps b0 (State.sdFeed s k w) := by
  unfold State.sdFeed
  repeat' (first
    | with_reducible first
      | assumption | apply State.flushFeed_keeps | apply State.set_keeps | apply State.setSdm_keeps | refine foldl_keeps ?_ ?_
      | refine ite_keeps ?_ ?_ | refine pite_keeps ?_ ?_ | exact none_okeeps | apply some_okeeps | refine oite_keeps ?_ ?_
      | refine getD_keeps ?_ ?_ | refine omap_keeps ?_ ?_ | apply id_keeps
    | intro _ _ _
    | intro _ _
    | split
    | with_reducible first
      | refine pair_keeps ?_ (by assumption) | refine pair_keeps2 ?_ (by assumption)
      | refine opt_keeps ?_ (by assumption)
    | dsimp only
    | fail_if_no_progress with_reducible apply mk_keeps)

theorem State.sdResult_keeps {b0 : State} (s : State) (k : ℕ) (hs : Keeps b0 s) :
    Keeps b0 (State.sdResult s k) := by
  unfold State.sdResult
  repeat' (first
    | with_reducible first
      | assumption | apply State.fire_keeps | apply State.sdFeed_keeps | apply State.setReg_keeps | apply State.setSdm_keeps
      | refine foldl_keeps ?_ ?_ | refine ite_keeps ?_ ?_ | refine pite_keeps ?_ ?_ | exact none_okeeps | apply some_okeeps
      | refine oite_keeps ?_ ?_ | refine getD_keeps ?_ ?_ | refine omap_keeps ?_ ?_ | apply id_keeps
    | intro _ _ _
    | intro _ _
    | split
    | with_reducible first
      | refine pair_keeps ?_ (by assumption) | refine pair_keeps2 ?_ (by assumption)
      | refine opt_keeps ?_ (by assumption)
    | dsimp only
    | fail_if_no_progress with_reducible apply mk_keeps)

theorem State.sdBit_keeps {b0 : State} (s : State) (k : ℕ) (e : ℕ) (b : Bool) (hs : Keeps b0 s) :
    Keeps b0 (State.sdBit s k e b) := by
  unfold State.sdBit
  repeat' (first
    | with_reducible first
      | assumption | apply State.flagIf_keeps | apply State.sdResult_keeps | apply State.setSdm_keeps | refine foldl_keeps ?_ ?_
      | refine ite_keeps ?_ ?_ | refine pite_keeps ?_ ?_ | exact none_okeeps | apply some_okeeps | refine oite_keeps ?_ ?_
      | refine getD_keeps ?_ ?_ | refine omap_keeps ?_ ?_ | apply id_keeps
    | intro _ _ _
    | intro _ _
    | split
    | with_reducible first
      | refine pair_keeps ?_ (by assumption) | refine pair_keeps2 ?_ (by assumption)
      | refine opt_keeps ?_ (by assumption)
    | dsimp only
    | fail_if_no_progress with_reducible apply mk_keeps)

theorem State.sdBits_keeps {b0 : State} (s : State) (k : Nat) (bits : List Bool) (hs : Keeps b0 s) :
    Keeps b0 (s.sdBits k bits) := by
  induction bits generalizing s with
  | nil => exact hs
  | cons b l ih => exact ite_keeps (ih _ (State.sdBit_keeps _ _ _ _ hs)) hs

theorem State.sdClocks_keeps {b0 : State} (s : State) (k : ℕ) (bits : List Bool) (hs : Keeps b0 s) :
    Keeps b0
    (State.sdClocks s k bits) := by
  unfold State.sdClocks
  repeat' (first
    | with_reducible first
      | assumption | apply State.sdBits_keeps | refine foldl_keeps ?_ ?_ | refine ite_keeps ?_ ?_ | refine pite_keeps ?_ ?_
      | exact none_okeeps | apply some_okeeps | refine oite_keeps ?_ ?_ | refine getD_keeps ?_ ?_ | refine omap_keeps ?_ ?_
      | apply id_keeps
    | intro _ _ _
    | intro _ _
    | split
    | with_reducible first
      | refine pair_keeps ?_ (by assumption) | refine pair_keeps2 ?_ (by assumption)
      | refine opt_keeps ?_ (by assumption)
    | dsimp only
    | fail_if_no_progress with_reducible apply mk_keeps)

theorem State.sdRestart_keeps {b0 : State} (s : State) (k : ℕ) (hs : Keeps b0 s) :
    Keeps b0 (State.sdRestart s k) := by
  unfold State.sdRestart
  repeat' (first
    | with_reducible first
      | assumption | apply State.setSdm_keeps | refine foldl_keeps ?_ ?_ | refine ite_keeps ?_ ?_ | refine pite_keeps ?_ ?_
      | exact none_okeeps | apply some_okeeps | refine oite_keeps ?_ ?_ | refine getD_keeps ?_ ?_ | refine omap_keeps ?_ ?_
      | apply id_keeps
    | intro _ _ _
    | intro _ _
    | split
    | with_reducible first
      | refine pair_keeps ?_ (by assumption) | refine pair_keeps2 ?_ (by assumption)
      | refine opt_keeps ?_ (by assumption)
    | dsimp only
    | fail_if_no_progress with_reducible apply mk_keeps)

theorem State.sdcChanged_keeps {b0 : State} (s : State) (m : ℕ) (hs : Keeps b0 s) :
    Keeps b0 (State.sdcChanged s m) := by
  unfold State.sdcChanged
  repeat' (first
    | with_reducible first
      | assumption | apply State.each_keeps | apply State.sdRestart_keeps | refine foldl_keeps ?_ ?_ | refine ite_keeps ?_ ?_
      | refine pite_keeps ?_ ?_ | exact none_okeeps | apply some_okeeps | refine oite_keeps ?_ ?_ | refine getD_keeps ?_ ?_
      | refine omap_keeps ?_ ?_ | apply id_keeps
    | intro _ _ _
    | intro _ _
    | split
    | with_reducible first
      | refine pair_keeps ?_ (by assumption) | refine pair_keeps2 ?_ (by assumption)
      | refine opt_keeps ?_ (by assumption)
    | dsimp only
    | fail_if_no_progress with_reducible apply mk_keeps)

theorem wrSdcCfg_keeps {b0 : State} (q : Req) (m : ℕ) (w : Word) (s : State) (hs : Keeps b0 s) :
    Keeps b0 (wrSdcCfg q m w s) := by
  unfold wrSdcCfg
  repeat' (first
    | with_reducible first
      | assumption | apply State.sdcChanged_keeps | apply State.writeFields_keeps | apply settle_keeps | apply settleAt_keeps
      | refine foldl_keeps ?_ ?_ | refine ite_keeps ?_ ?_ | refine pite_keeps ?_ ?_ | exact none_okeeps | apply some_okeeps
      | refine oite_keeps ?_ ?_ | refine getD_keeps ?_ ?_ | refine omap_keeps ?_ ?_ | apply id_keeps
    | intro _ _ _
    | intro _ _
    | split
    | with_reducible first
      | refine pair_keeps ?_ (by assumption) | refine pair_keeps2 ?_ (by assumption)
      | refine opt_keeps ?_ (by assumption)
    | dsimp only
    | fail_if_no_progress with_reducible apply mk_keeps)

theorem wrSdCtrl_keeps {b0 : State} (q : Req) (k : ℕ) (w : Word) (s : State) (hs : Keeps b0 s) :
    Keeps b0 (wrSdCtrl q k w s) := by
  unfold wrSdCtrl
  repeat' (first
    | with_reducible first
      | assumption | apply State.sdRestart_keeps | apply State.writeFields_keeps | apply settle_keeps | apply settleAt_keeps
      | refine foldl_keeps ?_ ?_ | refine ite_keeps ?_ ?_ | refine pite_keeps ?_ ?_ | exact none_okeeps | apply some_okeeps
      | refine oite_keeps ?_ ?_ | refine getD_keeps ?_ ?_ | refine omap_keeps ?_ ?_ | apply id_keeps
    | intro _ _ _
    | intro _ _
    | split
    | with_reducible first
      | refine pair_keeps ?_ (by assumption) | refine pair_keeps2 ?_ (by assumption)
      | refine opt_keeps ?_ (by assumption)
    | dsimp only
    | fail_if_no_progress with_reducible apply mk_keeps)

theorem wrSdFast_keeps {b0 : State} (q : Req) (k : ℕ) (w : Word) (s : State) (hs : Keeps b0 s) :
    Keeps b0 (wrSdFast q k w s) := by
  unfold wrSdFast
  repeat' (first
    | with_reducible first
      | assumption | apply State.writeFields_keeps | apply settle_keeps | apply settleAt_keeps | refine foldl_keeps ?_ ?_
      | refine ite_keeps ?_ ?_ | refine pite_keeps ?_ ?_ | exact none_okeeps | apply some_okeeps | refine oite_keeps ?_ ?_
      | refine getD_keeps ?_ ?_ | refine omap_keeps ?_ ?_ | apply id_keeps
    | intro _ _ _
    | intro _ _
    | split
    | with_reducible first
      | refine pair_keeps ?_ (by assumption) | refine pair_keeps2 ?_ (by assumption)
      | refine opt_keeps ?_ (by assumption)
    | dsimp only
    | fail_if_no_progress with_reducible apply mk_keeps)

theorem State.setComparator_keeps {b0 : State} (s : State) (i : ℕ) (l : Bool) (hs : Keeps b0 s) :
    Keeps b0
    (State.setComparator s i l) := by
  unfold State.setComparator
  repeat' (first
    | with_reducible first
      | assumption | apply State.fireIf_keeps | apply State.setComp_keeps | refine foldl_keeps ?_ ?_ | refine ite_keeps ?_ ?_
      | refine pite_keeps ?_ ?_ | exact none_okeeps | apply some_okeeps | refine oite_keeps ?_ ?_ | refine getD_keeps ?_ ?_
      | refine omap_keeps ?_ ?_ | apply id_keeps
    | intro _ _ _
    | intro _ _
    | split
    | with_reducible first
      | refine pair_keeps ?_ (by assumption) | refine pair_keeps2 ?_ (by assumption)
      | refine opt_keeps ?_ (by assumption)
    | dsimp only
    | fail_if_no_progress with_reducible apply mk_keeps)

theorem State.wmEnableChange_keeps {b0 : State} (s : State) (i : ℕ) (was : Bool) (hs : Keeps b0 s) :
    Keeps b0
    (State.wmEnableChange s i was) := by
  unfold State.wmEnableChange
  repeat' (first
    | with_reducible first
      | assumption | apply State.setComp_keeps | apply State.setComparator_keeps | refine foldl_keeps ?_ ?_
      | refine ite_keeps ?_ ?_ | refine pite_keeps ?_ ?_ | exact none_okeeps | apply some_okeeps | refine oite_keeps ?_ ?_
      | refine getD_keeps ?_ ?_ | refine omap_keeps ?_ ?_ | apply id_keeps
    | intro _ _ _
    | intro _ _
    | split
    | with_reducible first
      | refine pair_keeps ?_ (by assumption) | refine pair_keeps2 ?_ (by assumption)
      | refine opt_keeps ?_ (by assumption)
    | dsimp only
    | fail_if_no_progress with_reducible apply mk_keeps)

theorem wrWmCfg_keeps {b0 : State} (q : Req) (nn : ℕ) (w : Word) (s : State) (hs : Keeps b0 s) :
    Keeps b0 (wrWmCfg q nn w s) := by
  unfold wrWmCfg
  repeat' (first
    | with_reducible first
      | assumption | apply State.wmEnableChange_keeps | apply State.writeFields_keeps | apply settle_keeps
      | apply settleAt_keeps | refine foldl_keeps ?_ ?_ | refine ite_keeps ?_ ?_ | refine pite_keeps ?_ ?_ | exact none_okeeps
      | apply some_okeeps | refine oite_keeps ?_ ?_ | refine getD_keeps ?_ ?_ | refine omap_keeps ?_ ?_ | apply id_keeps
    | intro _ _ _
    | intro _ _
    | split
    | with_reducible first
      | refine pair_keeps ?_ (by assumption) | refine pair_keeps2 ?_ (by assumption)
      | refine opt_keeps ?_ (by assumption)
    | dsimp only
    | fail_if_no_progress with_reducible apply mk_keeps)

theorem State.applyThr_keeps {b0 : State} (s : State) (nn : ℕ) (hs : Keeps b0 s) :
    Keeps b0 (State.applyThr s nn) := by
  unfold State.applyThr
  repeat' (first
    | with_reducible first
      | assumption | apply State.flagIf_keeps | refine foldl_keeps ?_ ?_ | refine ite_keeps ?_ ?_ | refine pite_keeps ?_ ?_
      | exact none_okeeps | apply some_okeeps | refine oite_keeps ?_ ?_ | refine getD_keeps ?_ ?_ | refine omap_keeps ?_ ?_
      | apply id_keeps
    | intro _ _ _
    | intro _ _
    | split
    | with_reducible first
      | refine pair_keeps ?_ (by assumption) | refine pair_keeps2 ?_ (by assumption)
      | refine opt_keeps ?_ (by assumption)
    | dsimp only
    | fail_if_no_progress with_reducible apply mk_keeps)

theorem State.thrWrite_keeps {b0 : State} (s : State) (r : ℕ) (g : ℕ) (nn : ℕ) (w : Word) (hs : Keeps b0 s) :
    Keeps b0
    (State.thrWrite s r g nn w).1 := by
  unfold State.thrWrite
  repeat' (first
    | with_reducible first
      | assumption | apply State.applyThr_keeps | apply State.storeFields_keeps | refine foldl_keeps ?_ ?_
      | refine ite_keeps ?_ ?_ | refine pite_keeps ?_ ?_ | exact none_okeeps | apply some_okeeps | refine oite_keeps ?_ ?_
      | refine getD_keeps ?_ ?_ | refine omap_keeps ?_ ?_ | apply id_keeps
    | intro _ _ _
    | intro _ _
    | split
    | with_reducible first
      | refine pair_keeps ?_ (by assumption) | refine pair_keeps2 ?_ (by assumption)
      | refine opt_keeps ?_ (by assumption)
    | dsimp only
    | fail_if_no_progress with_reducible apply mk_keeps)

theorem wrWmThr_keeps {b0 : State} (q : Req) (nn : ℕ) (w : Word) (s : State) (hs : Keeps b0 s) :
    Keeps b0 (wrWmThr q nn w s) := by
  unfold wrWmThr
  repeat' (first
    | with_reducible first
      | assumption | apply State.refuse_keeps | apply State.reply_keeps | apply State.thrWrite_keeps | refine foldl_keeps ?_ ?_
      | refine ite_keeps ?_ ?_ | refine pite_keeps ?_ ?_ | exact none_okeeps | apply some_okeeps | refine oite_keeps ?_ ?_
      | refine getD_keeps ?_ ?_ | refine omap_keeps ?_ ?_ | apply id_keeps
    | intro _ _ _
    | intro _ _
    | split
    | with_reducible first
      | refine pair_keeps ?_ (by assumption) | refine pair_keeps2 ?_ (by assumption)
      | refine opt_keeps ?_ (by assumption)
    | dsimp only
    | fail_if_no_progress with_reducible apply mk_keeps)

theorem State.openWin_keeps {b0 : State} (s : State) (w : ℕ) (t : ℕ) (hs : Keeps b0 s) :
    Keeps b0 (State.openWin s w t) := by
  unfold State.openWin
  repeat' (first
    | with_reducible first
      | assumption | apply State.each_keeps | apply State.set_keeps | apply State.setComp_keeps | apply State.setWin_keeps
      | refine foldl_keeps ?_ ?_ | refine ite_keeps ?_ ?_ | refine pite_keeps ?_ ?_ | exact none_okeeps | apply some_okeeps
      | refine oite_keeps ?_ ?_ | refine getD_keeps ?_ ?_ | refine omap_keeps ?_ ?_ | apply id_keeps
    | intro _ _ _
    | intro _ _
    | split
    | with_reducible first
      | refine pair_keeps ?_ (by assumption) | refine pair_keeps2 ?_ (by assumption)
      | refine opt_keeps ?_ (by assumption)
    | dsimp only
    | fail_if_no_progress with_reducible apply mk_keeps)

theorem State.stageClose_keeps {b0 : State} (s : State) (t : ℕ) (i : ℕ) (hs : Keeps b0 s) :
    Keeps b0 (State.stageClose s t i) := by
  unfold State.stageClose
  repeat' (first
    | with_reducible first
      | assumption | apply State.fireAt_keeps | apply State.setComp_keeps | refine foldl_keeps ?_ ?_ | refine ite_keeps ?_ ?_
      | refine pite_keeps ?_ ?_ | exact none_okeeps | apply some_okeeps | refine oite_keeps ?_ ?_ | refine getD_keeps ?_ ?_
      | refine omap_keeps ?_ ?_ | apply id_keeps
    | intro _ _ _
    | intro _ _
    | split
    | with_reducible first
      | refine pair_keeps ?_ (by assumption) | refine pair_keeps2 ?_ (by assumption)
      | refine opt_keeps ?_ (by assumption)
    | dsimp only
    | fail_if_no_progress with_reducible apply mk_keeps)

theorem State.closeWin_keeps {b0 : State} (s : State) (w : ℕ) (t : ℕ) (hs : Keeps b0 s) :
    Keeps b0 (State.closeWin s w t) := by
  unfold State.closeWin
  repeat' (first
    | with_reducible first
      | assumption | apply State.each_keeps | apply State.set_keeps | apply State.setWin_keeps | apply State.stageClose_keeps
      | refine foldl_keeps ?_ ?_ | refine ite_keeps ?_ ?_ | refine pite_keeps ?_ ?_ | exact none_okeeps | apply some_okeeps
      | refine oite_keeps ?_ ?_ | refine getD_keeps ?_ ?_ | refine omap_keeps ?_ ?_ | apply id_keeps
    | intro _ _ _
    | intro _ _
    | split
    | with_reducible first
      | refine pair_keeps ?_ (by assumption) | refine pair_keeps2 ?_ (by assumption)
      | refine opt_keeps ?_ (by assumption)
    | dsimp only
    | fail_if_no_progress with_reducible apply mk_keeps)

theorem State.closeEvent_keeps {b0 : State} (s : State) (w : ℕ) (t : ℕ) (hs : Keeps b0 s) :
    Keeps b0 (State.closeEvent s w t) := by
  unfold State.closeEvent
  repeat' (first
    | with_reducible first
      | assumption | apply State.closeWin_keeps | apply State.set_keeps | apply State.setWin_keeps | refine foldl_keeps ?_ ?_
      | refine ite_keeps ?_ ?_ | refine pite_keeps ?_ ?_ | exact none_okeeps | apply some_okeeps | refine oite_keeps ?_ ?_
      | refine getD_keeps ?_ ?_ | refine omap_keeps ?_ ?_ | apply id_keeps
    | intro _ _ _
    | intro _ _
    | split
    | with_reducible first
      | refine pair_keeps ?_ (by assumption) | refine pair_keeps2 ?_ (by assumption)
      | refine opt_keeps ?_ (by assumption)
    | dsimp only
    | fail_if_no_progress with_reducible apply mk_keeps)

theorem State.wmReselect_keeps {b0 : State} (s : State) (nn : ℕ) (old : Word) (hs : Keeps b0 s) :
    Keeps b0
    (State.wmReselect s nn old) := by
  unfold State.wmReselect
  repeat' (first
    | with_reducible first
      | assumption | apply State.setComp_keeps | refine foldl_keeps ?_ ?_ | refine ite_keeps ?_ ?_ | refine pite_keeps ?_ ?_
      | exact none_okeeps | apply some_okeeps | refine oite_keeps ?_ ?_ | refine getD_keeps ?_ ?_ | refine omap_keeps ?_ ?_
      | apply id_keeps
    | intro _ _ _
    | intro _ _
    | split
    | with_reducible first
      | refine pair_keeps ?_ (by assumption) | refine pair_keeps2 ?_ (by assumption)
      | refine opt_keeps ?_ (by assumption)
    | dsimp only
    | fail_if_no_progress with_reducible apply mk_keeps)

theorem State.windowEvents_keeps {b0 : State} (s : State) (n : ℕ) (c : ℕ) (t : ℕ) (also : ℕ → Bool) (hs : Keeps b0 s) :
    Keeps b0
    (State.windowEvents s n c t also) := by
  unfold State.windowEvents
  repeat' (first
    | with_reducible first
      | assumption | apply State.closeEvent_keeps | apply State.each_keeps | apply State.openWin_keeps
      | refine foldl_keeps ?_ ?_ | refine ite_keeps ?_ ?_ | refine pite_keeps ?_ ?_ | exact none_okeeps | apply some_okeeps
      | refine oite_keeps ?_ ?_ | refine getD_keeps ?_ ?_ | refine omap_keeps ?_ ?_ | apply id_keeps
    | intro _ _ _
    | intro _ _
    | split
    | with_reducible first
      | refine pair_keeps ?_ (by assumption) | refine pair_keeps2 ?_ (by assumption)
      | refine opt_keeps ?_ (by assumption)
    | dsimp only
    | fail_if_no_progress with_reducible apply mk_keeps)

theorem State.closeWinsOf_keeps {b0 : State} (s : State) (n : ℕ) (t : ℕ) (hs : Keeps b0 s) :
    Keeps b0 (State.closeWinsOf s n t) := by
  unfold State.closeWinsOf
  repeat' (first
    | with_reducible first
      | assumption | apply State.closeWin_keeps | apply State.each_keeps | refine foldl_keeps ?_ ?_ | refine ite_keeps ?_ ?_
      | refine pite_keeps ?_ ?_ | exact none_okeeps | apply some_okeeps | refine oite_keeps ?_ ?_ | refine getD_keeps ?_ ?_
      | refine omap_keeps ?_ ?_ | apply id_keeps
    | intro _ _ _
    | intro _ _
    | split
    | with_reducible first
      | refine pair_keeps ?_ (by assumption) | refine pair_keeps2 ?_ (by assumption)
      | refine opt_keeps ?_ (by assumption)
    | dsimp only
    | fail_if_no_progress with_reducible apply mk_keeps)

theorem wrBwCfg_keeps {b0 : State} (q : Req) (w : ℕ) (v : Word) (s : State) (hs : Keeps b0 s) :
    Keeps b0 (wrBwCfg q w v s) := by
  unfold wrBwCfg
  repeat' (first
    | with_reducible first
      | assumption | apply State.closeWin_keeps | apply State.writeFields_keeps | apply settle_keeps | apply settleAt_keeps
      | refine foldl_keeps ?_ ?_ | refine ite_keeps ?_ ?_ | refine pite_keeps ?_ ?_ | exact none_okeeps | apply some_okeeps
      | refine oite_keeps ?_ ?_ | refine getD_keeps ?_ ?_ | refine omap_keeps ?_ ?_ | apply id_keeps
    | intro _ _ _
    | intro _ _
    | split
    | with_reducible first
      | refine pair_keeps ?_ (by assumption) | refine pair_keeps2 ?_ (by assumption)
      | refine opt_keeps ?_ (by assumption)
    | dsimp only
    | fail_if_no_progress with_reducible apply mk_keeps)

theorem State.act_keeps {b0 : State} (s : State) (n : ℕ) (outB : Bool) (tick : ℤ) (time : ℤ) (prio : ℕ) (code : ℕ) (hs : Keeps b0 s)
    :
    Keeps b0 (State.act s n outB tick time prio code) := by
  unfold State.act
  repeat' (first
    | with_reducible first
      | assumption | apply State.setSlice_keeps | refine foldl_keeps ?_ ?_ | refine ite_keeps ?_ ?_ | refine pite_keeps ?_ ?_
      | exact none_okeeps | apply some_okeeps | refine oite_keeps ?_ ?_ | refine getD_keeps ?_ ?_ | refine omap_keeps ?_ ?_
      | apply id_keeps
    | intro _ _ _
    | intro _ _
    | split
    | with_reducible first
      | refine pair_keeps ?_ (by assumption) | refine pair_keeps2 ?_ (by assumption)
      | refine opt_keeps ?_ (by assumption)
    | dsimp only
    | fail_if_no_progress with_reducible apply mk_keeps)

theorem State.qualify_keeps {b0 : State} (s : State) (n : ℕ) (b : ℕ) (tick : ℤ) (f : ℤ) (prio : ℕ) (hs : Keeps b0 s) :
    Keeps b0
    (State.qualify s n b tick f prio) := by
  unfold State.qualify
  repeat' (first
    | with_reducible first
      | assumption | apply State.act_keeps | refine foldl_keeps ?_ ?_ | refine ite_keeps ?_ ?_ | refine pite_keeps ?_ ?_
      | exact none_okeeps | apply some_okeeps | refine oite_keeps ?_ ?_ | refine getD_keeps ?_ ?_ | refine omap_keeps ?_ ?_
      | apply id_keeps
    | intro _ _ _
    | intro _ _
    | split
    | with_reducible first
      | refine pair_keeps ?_ (by assumption) | refine pair_keeps2 ?_ (by assumption)
      | refine opt_keeps ?_ (by assumption)
    | dsimp only
    | fail_if_no_progress with_reducible apply mk_keeps)

theorem State.sliceFlag_keeps {b0 : State} (s : State) (n : ℕ) (f : Fld) (t : ℤ) (hs : Keeps b0 s) :
    Keeps b0
    (State.sliceFlag s n f t) := by
  unfold State.sliceFlag
  repeat' (first
    | with_reducible first
      | assumption | apply State.set_keeps | apply State.setSlice_keeps | refine foldl_keeps ?_ ?_ | refine ite_keeps ?_ ?_
      | refine pite_keeps ?_ ?_ | exact none_okeeps | apply some_okeeps | refine oite_keeps ?_ ?_ | refine getD_keeps ?_ ?_
      | refine omap_keeps ?_ ?_ | apply id_keeps
    | intro _ _ _
    | intro _ _
    | split
    | with_reducible first
      | refine pair_keeps ?_ (by assumption) | refine pair_keeps2 ?_ (by assumption)
      | refine opt_keeps ?_ (by assumption)
    | dsimp only
    | fail_if_no_progress with_reducible apply mk_keeps)

theorem State.sliceEvent_keeps {b0 : State} (s : State) (n : ℕ) (e : ℕ) (t : ℤ) (f : Fld) (hs : Keeps b0 s) :
    Keeps b0
    (State.sliceEvent s n e t f) := by
  unfold State.sliceEvent
  repeat' (first
    | with_reducible first
      | assumption | apply State.fireAt_keeps | apply State.sliceFlag_keeps | refine foldl_keeps ?_ ?_ | refine ite_keeps ?_ ?_
      | refine pite_keeps ?_ ?_ | exact none_okeeps | apply some_okeeps | refine oite_keeps ?_ ?_ | refine getD_keeps ?_ ?_
      | refine omap_keeps ?_ ?_ | apply id_keeps
    | intro _ _ _
    | intro _ _
    | split
    | with_reducible first
      | refine pair_keeps ?_ (by assumption) | refine pair_keeps2 ?_ (by assumption)
      | refine opt_keeps ?_ (by assumption)
    | dsimp only
    | fail_if_no_progress with_reducible apply mk_keeps)

theorem State.compareEvent_keeps {b0 : State} (s : State) (n : ℕ) (c : ℕ) (down : Bool) (tick : ℤ) (f : ℤ) (also : ℕ → Bool) (hs
    : Keeps b0 s) :
    Keeps b0 (State.compareEvent s n c down tick f also) := by
  unfold State.compareEvent
  repeat' (first
    | with_reducible first
      | assumption | apply State.qualify_keeps | apply State.sliceEvent_keeps | apply State.windowEvents_keeps
      | refine foldl_keeps ?_ ?_ | refine ite_keeps ?_ ?_ | refine pite_keeps ?_ ?_ | exact none_okeeps | apply some_okeeps
      | refine oite_keeps ?_ ?_ | refine getD_keeps ?_ ?_ | refine omap_keeps ?_ ?_ | apply id_keeps
    | intro _ _ _
    | intro _ _
    | split
    | with_reducible first
      | refine pair_keeps ?_ (by assumption) | refine pair_keeps2 ?_ (by assumption)
      | refine opt_keeps ?_ (by assumption)
    | dsimp only
    | fail_if_no_progress with_reducible apply mk_keeps)

theorem State.periodEvent_keeps {b0 : State} (s : State) (n : ℕ) (tick : ℤ) (hs : Keeps b0 s) :
    Keeps b0 (State.periodEvent s n tick)
    := by
  unfold State.periodEvent
  repeat' (first
    | with_reducible first
      | assumption | apply State.qualify_keeps | apply State.sliceEvent_keeps | refine foldl_keeps ?_ ?_
      | refine ite_keeps ?_ ?_ | refine pite_keeps ?_ ?_ | exact none_okeeps | apply some_okeeps | refine oite_keeps ?_ ?_
      | refine getD_keeps ?_ ?_ | refine omap_keeps ?_ ?_ | apply id_keeps
    | intro _ _ _
    | intro _ _
    | split
    | with_reducible first
      | refine pair_keeps ?_ (by assumption) | refine pair_keeps2 ?_ (by assumption)
      | refine opt_keeps ?_ (by assumption)
    | dsimp only
    | fail_if_no_progress with_reducible apply mk_keeps)

theorem State.governsValue_keeps {b0 : State} (s : State) (n : ℕ) (a : ℕ) (v : Word) (g : ℤ) (hs : Keeps b0 s) :
    Keeps b0 (State.governsValue s n a v g) := by
  unfold State.governsValue
  repeat' (first
    | with_reducible first
      | assumption | apply State.setReg_keeps | apply State.setSlice_keeps | refine foldl_keeps ?_ ?_ | refine ite_keeps ?_ ?_
      | refine pite_keeps ?_ ?_ | exact none_okeeps | apply some_okeeps | refine oite_keeps ?_ ?_ | refine getD_keeps ?_ ?_
      | refine omap_keeps ?_ ?_ | apply id_keeps
    | intro _ _ _
    | intro _ _
    | split
    | with_reducible first
      | refine pair_keeps ?_ (by assumption) | refine pair_keeps2 ?_ (by assumption)
      | refine opt_keeps ?_ (by assumption)
    | dsimp only
    | fail_if_no_progress with_reducible apply mk_keeps)

theorem State.dropShadow_keeps {b0 : State} (s : State) (n : ℕ) (a : ℕ) (hs : Keeps b0 s) :
    Keeps b0 (State.dropShadow s n a) := by
  unfold State.dropShadow
  repeat' (first
    | with_reducible first
      | assumption | apply State.setSlice_keeps | refine foldl_keeps ?_ ?_ | refine ite_keeps ?_ ?_ | refine pite_keeps ?_ ?_
      | exact none_okeeps | apply some_okeeps | refine oite_keeps ?_ ?_ | refine getD_keeps ?_ ?_ | refine omap_keeps ?_ ?_
      | apply id_keeps
    | intro _ _ _
    | intro _ _
    | split
    | with_reducible first
      | refine pair_keeps ?_ (by assumption) | refine pair_keeps2 ?_ (by assumption)
      | refine opt_keeps ?_ (by assumption)
    | dsimp only
    | fail_if_no_progress with_reducible apply mk_keeps)

theorem State.reachPeriod_keeps {b0 : State} (s : State) (n : ℕ) (t : ℤ) (hs : Keeps b0 s) :
    Keeps b0 (State.reachPeriod s n t) := by
  unfold State.reachPeriod
  repeat' (first
    | with_reducible first
      | assumption | apply State.dropShadow_keeps | apply State.each_keeps | apply State.governsValue_keeps
      | apply State.periodEvent_keeps | refine foldl_keeps ?_ ?_ | refine ite_keeps ?_ ?_ | refine pite_keeps ?_ ?_
      | exact none_okeeps | apply some_okeeps | refine oite_keeps ?_ ?_ | refine getD_keeps ?_ ?_ | refine omap_keeps ?_ ?_
      | apply id_keeps
    | intro _ _ _
    | intro _ _
    | split
    | with_reducible first
      | refine pair_keeps ?_ (by assumption) | refine pair_keeps2 ?_ (by assumption)
      | refine opt_keeps ?_ (by assumption)
    | dsimp only
    | fail_if_no_progress with_reducible apply mk_keeps)

theorem State.governs_keeps {b0 : State} (s : State) (n : ℕ) (a : ℕ) (v : Word) (g : ℤ) (hs : Keeps b0 s) :
    Keeps b0
    (State.governs s n a v g) := by
  unfold State.governs
  repeat' (first
    | with_reducible first
      | assumption | apply State.governsValue_keeps | apply State.reachPeriod_keeps | apply State.setReg_keeps
      | apply State.setSlice_keeps | refine foldl_keeps ?_ ?_ | refine ite_keeps ?_ ?_ | refine pite_keeps ?_ ?_
      | exact none_okeeps | apply some_okeeps | refine oite_keeps ?_ ?_ | refine getD_keeps ?_ ?_ | refine omap_keeps ?_ ?_
      | apply id_keeps
    | intro _ _ _
    | intro _ _
    | split
    | with_reducible first
      | refine pair_keeps ?_ (by assumption) | refine pair_keeps2 ?_ (by assumption)
      | refine opt_keeps ?_ (by assumption)
    | dsimp only
    | fail_if_no_progress with_reducible apply mk_keeps)

theorem State.loadShadows_keeps {b0 : State} (s : State) (n : ℕ) (g : ℤ) (f : ℕ → Bool → Bool) (hs : Keeps b0 s) :
    Keeps b0
    (State.loadShadows s n g f) := by
  unfold State.loadShadows
  repeat' (first
    | with_reducible first
      | assumption | apply State.dropShadow_keeps | apply State.each_keeps | apply State.governs_keeps
      | refine foldl_keeps ?_ ?_ | refine ite_keeps ?_ ?_ | refine pite_keeps ?_ ?_ | exact none_okeeps | apply some_okeeps
      | refine oite_keeps ?_ ?_ | refine getD_keeps ?_ ?_ | refine omap_keeps ?_ ?_ | apply id_keeps
    | intro _ _ _
    | intro _ _
    | split
    | with_reducible first
      | refine pair_keeps ?_ (by assumption) | refine pair_keeps2 ?_ (by assumption)
      | refine opt_keeps ?_ (by assumption)
    | dsimp only
    | fail_if_no_progress with_reducible apply mk_keeps)

theorem State.synchronise_keeps {b0 : State} (s : State) (n : ℕ) (ts : ℤ) (hs : Keeps b0 s) :
    Keeps b0 (State.synchronise s n ts)
    := by
  unfold State.synchronise
  repeat' (first
    | with_reducible first
      | assumption | apply State.setSlice_keeps | refine foldl_keeps ?_ ?_ | refine ite_keeps ?_ ?_ | refine pite_keeps ?_ ?_
      | exact none_okeeps | apply some_okeeps | refine oite_keeps ?_ ?_ | refine getD_keeps ?_ ?_ | refine omap_keeps ?_ ?_
      | apply id_keeps
    | intro _ _ _
    | intro _ _
    | split
    | with_reducible first
      | refine pair_keeps ?_ (by assumption) | refine pair_keeps2 ?_ (by assumption)
      | refine opt_keeps ?_ (by assumption)
    | dsimp only
    | fail_if_no_progress with_reducible apply mk_keeps)

theorem State.sync_keeps {b0 : State} (s : State) (n : ℕ) (ts : ℤ) (hs : Keeps b0 s) :
    Keeps b0 (State.sync s n ts) := by
  unfold State.sync
  repeat' (first
    | with_reducible first
      | assumption | apply State.sliceFlag_keeps | apply State.synchronise_keeps | refine foldl_keeps ?_ ?_
      | refine ite_keeps ?_ ?_ | refine pite_keeps ?_ ?_ | exact none_okeeps | apply some_okeeps | refine oite_keeps ?_ ?_
      | refine getD_keeps ?_ ?_ | refine omap_keeps ?_ ?_ | apply id_keeps
    | intro _ _ _
    | intro _ _
    | split
    | with_reducible first
      | refine pair_keeps ?_ (by assumption) | refine pair_keeps2 ?_ (by assumption)
      | refine opt_keeps ?_ (by assumption)
    | dsimp only
    | fail_if_no_progress with_reducible apply mk_keeps)

theorem State.runFrom_keeps {b0 : State} (s : State) (n : ℕ) (t : ℤ) (hs : Keeps b0 s) :
    Keeps b0 (State.runFrom s n t) := by
  unfold State.runFrom
  repeat' (first
    | with_reducible first
      | assumption | apply State.setSlice_keeps | apply State.sliceFlag_keeps | apply State.synchronise_keeps
      | refine foldl_keeps ?_ ?_ | refine ite_keeps ?_ ?_ | refine pite_keeps ?_ ?_ | exact none_okeeps | apply some_okeeps
      | refine oite_keeps ?_ ?_ | refine getD_keeps ?_ ?_ | refine omap_keeps ?_ ?_ | apply id_keeps
    | intro _ _ _
    | intro _ _
    | split
    | with_reducible first
      | refine pair_keeps ?_ (by assumption) | refine pair_keeps2 ?_ (by assumption)
      | refine opt_keeps ?_ (by assumption)
    | dsimp only
    | fail_if_no_progress with_reducible apply mk_keeps)

theorem State.stopSlice_keeps {b0 : State} (s : State) (n : ℕ) (t : ℕ) (hs : Keeps b0 s) :
    Keeps b0 (State.stopSlice s n t) := by
  unfold State.stopSlice
  repeat' (first
    | with_reducible first
      | assumption | apply State.closeWinsOf_keeps | apply State.setSlice_keeps | refine foldl_keeps ?_ ?_
      | refine ite_keeps ?_ ?_ | refine pite_keeps ?_ ?_ | exact none_okeeps | apply some_okeeps | refine oite_keeps ?_ ?_
      | refine getD_keeps ?_ ?_ | refine omap_keeps ?_ ?_ | apply id_keeps
    | intro _ _ _
    | intro _ _
    | split
    | with_reducible first
      | refine pair_keeps ?_ (by assumption) | refine pair_keeps2 ?_ (by assumption)
      | refine opt_keeps ?_ (by assumption)
    | dsimp only
    | fail_if_no_progress with_reducible apply mk_keeps)

theorem State.startSlice_keeps {b0 : State} (s : State) (n : ℕ) (ta : ℤ) (hs : Keeps b0 s) :
    Keeps b0 (State.startSlice s n ta) := by
  unfold State.startSlice
  repeat' (first
    | with_reducible first
      | assumption | apply State.setSlice_keeps | apply State.sliceFlag_keeps | apply State.synchronise_keeps
      | refine foldl_keeps ?_ ?_ | refine ite_keeps ?_ ?_ | refine pite_keeps ?_ ?_ | exact none_okeeps | apply some_okeeps
      | refine oite_keeps ?_ ?_ | refine getD_keeps ?_ ?_ | refine omap_keeps ?_ ?_ | apply id_keeps
    | intro _ _ _
    | intro _ _
    | split
    | with_reducible first
      | refine pair_keeps ?_ (by assumption) | refine pair_keeps2 ?_ (by assumption)
      | refine opt_keeps ?_ (by assumption)
    | dsimp only
    | fail_if_no_progress with_reducible apply mk_keeps)

theorem State.zoneZero_keeps {b0 : State} (s : State) (z : ℕ) (hs : Keeps b0 s) :
    Keeps b0 (State.zoneZero s z) := by
  unfold State.zoneZero
  repeat' (first
    | with_reducible first
      | assumption | apply State.set_keeps | refine foldl_keeps ?_ ?_ | refine ite_keeps ?_ ?_ | refine pite_keeps ?_ ?_
      | exact none_okeeps | apply some_okeeps | refine oite_keeps ?_ ?_ | refine getD_keeps ?_ ?_ | refine omap_keeps ?_ ?_
      | apply id_keeps
    | intro _ _ _
    | intro _ _
    | split
    | with_reducible first
      | refine pair_keeps ?_ (by assumption) | refine pair_keeps2 ?_ (by assumption)
      | refine opt_keeps ?_ (by assumption)
    | dsimp only
    | fail_if_no_progress with_reducible apply mk_keeps)

theorem State.zoneSees_keeps {b0 : State} (s : State) (n : ℕ) (t : ℕ) (z : ℕ) (hs : Keeps b0 s) :
    Keeps b0 (State.zoneSees s n t z)
    := by
  unfold State.zoneSees
  repeat' (first
    | with_reducible first
      | assumption | apply State.zoneZero_keeps | refine foldl_keeps ?_ ?_ | refine ite_keeps ?_ ?_ | refine pite_keeps ?_ ?_
      | exact none_okeeps | apply some_okeeps | refine oite_keeps ?_ ?_ | refine getD_keeps ?_ ?_ | refine omap_keeps ?_ ?_
      | apply id_keeps
    | intro _ _ _
    | intro _ _
    | split
    | with_reducible first
      | refine pair_keeps ?_ (by assumption) | refine pair_keeps2 ?_ (by assumption)
      | refine opt_keeps ?_ (by assumption)
    | dsimp only
    | fail_if_no_progress with_reducible apply mk_keeps)

theorem State.zeroArrivals_keeps {b0 : State} (s : State) (hs : Keeps b0 s) :
    Keeps b0 (State.zeroArrivals s) := by
  unfold State.zeroArrivals
  repeat' (first
    | with_reducible first
      | assumption | apply State.zoneZero_keeps | refine foldl_keeps ?_ ?_ | refine ite_keeps ?_ ?_ | refine pite_keeps ?_ ?_
      | exact none_okeeps | apply some_okeeps | refine oite_keeps ?_ ?_ | refine getD_keeps ?_ ?_ | refine omap_keeps ?_ ?_
      | apply id_keeps
    | intro _ _ _
    | intro _ _
    | split
    | with_reducible first
      | refine pair_keeps ?_ (by assumption) | refine pair_keeps2 ?_ (by assumption)
      | refine opt_keeps ?_ (by assumption)
    | dsimp only
    | fail_if_no_progress with_reducible apply mk_keeps)

theorem State.commitZero_keeps {b0 : State} (s : State) (n : ℕ) (t : ℕ) (hs : Keeps b0 s) :
    Keeps b0 (State.commitZero s n t) := by
  unfold State.commitZero
  repeat' (first
    | with_reducible first
      | assumption | apply State.each_keeps | apply State.setArmed_keeps | refine foldl_keeps ?_ ?_ | refine ite_keeps ?_ ?_
      | refine pite_keeps ?_ ?_ | exact none_okeeps | apply some_okeeps | refine oite_keeps ?_ ?_ | refine getD_keeps ?_ ?_
      | refine omap_keeps ?_ ?_ | apply id_keeps
    | intro _ _ _
    | intro _ _
    | split
    | with_reducible first
      | refine pair_keeps ?_ (by assumption) | refine pair_keeps2 ?_ (by assumption)
      | refine opt_keeps ?_ (by assumption)
    | dsimp only
    | fail_if_no_progress with_reducible apply mk_keeps)

theorem State.zeroEvent_keeps {b0 : State} (s : State) (n : ℕ) (t : ℤ) (hs : Keeps b0 s) :
    Keeps b0 (State.zeroEvent s n t) := by
  unfold State.zeroEvent
  repeat' (first
    | with_reducible first
      | assumption | apply State.commitZero_keeps | apply State.each_keeps | apply State.qualify_keeps
      | apply State.setSlice_keeps | apply State.sliceEvent_keeps | apply State.zeroArrivals_keeps | apply State.zoneSees_keeps
      | refine foldl_keeps ?_ ?_ | refine ite_keeps ?_ ?_ | refine pite_keeps ?_ ?_ | exact none_okeeps | apply some_okeeps
      | refine oite_keeps ?_ ?_ | refine getD_keeps ?_ ?_ | refine omap_keeps ?_ ?_ | apply id_keeps
    | intro _ _ _
    | intro _ _
    | split
    | with_reducible first
      | refine pair_keeps ?_ (by assumption) | refine pair_keeps2 ?_ (by assumption)
      | refine opt_keeps ?_ (by assumption)
    | dsimp only
    | fail_if_no_progress with_reducible apply mk_keeps)

theorem State.zeroLoad_keeps {b0 : State} (s : State) (n : ℕ) (z : ℤ) (hs : Keeps b0 s) :
    Keeps b0 (State.zeroLoad s n z) := by
  unfold State.zeroLoad
  repeat' (first
    | with_reducible first
      | assumption | apply State.loadShadows_keeps | refine foldl_keeps ?_ ?_ | refine ite_keeps ?_ ?_ | refine pite_keeps ?_ ?_
      | exact none_okeeps | apply some_okeeps | refine oite_keeps ?_ ?_ | refine getD_keeps ?_ ?_ | refine omap_keeps ?_ ?_
      | apply id_keeps
    | intro _ _ _
    | intro _ _
    | split
    | with_reducible first
      | refine pair_keeps ?_ (by assumption) | refine pair_keeps2 ?_ (by assumption)
      | refine opt_keeps ?_ (by assumption)
    | dsimp only
    | fail_if_no_progress with_reducible apply mk_keeps)

theorem State.newPeriod_keeps {b0 : State} (s : State) (n : ℕ) (st : ℤ) (hs : Keeps b0 s) :
    Keeps b0 (State.newPeriod s n st) := by
  unfold State.newPeriod
  repeat' (first
    | with_reducible first
      | assumption | apply State.setSlice_keeps | apply State.zeroEvent_keeps | apply State.zeroLoad_keeps
      | refine foldl_keeps ?_ ?_ | refine ite_keeps ?_ ?_ | refine pite_keeps ?_ ?_ | exact none_okeeps | apply some_okeeps
      | refine oite_keeps ?_ ?_ | refine getD_keeps ?_ ?_ | refine omap_keeps ?_ ?_ | apply id_keeps
    | intro _ _ _
    | intro _ _
    | split
    | with_reducible first
      | refine pair_keeps ?_ (by assumption) | refine pair_keeps2 ?_ (by assumption)
      | refine opt_keeps ?_ (by assumption)
    | dsimp only
    | fail_if_no_progress with_reducible apply mk_keeps)

theorem State.stepSlice_keeps {b0 : State} (s : State) (d : ℕ) (n : ℕ) (hs : Keeps b0 s) :
    Keeps b0 (State.stepSlice s d n) := by
  unfold State.stepSlice
  repeat' (first
    | with_reducible first
      | assumption | apply State.setSlice_keeps | refine foldl_keeps ?_ ?_ | refine ite_keeps ?_ ?_ | refine pite_keeps ?_ ?_
      | exact none_okeeps | apply some_okeeps | refine oite_keeps ?_ ?_ | refine getD_keeps ?_ ?_ | refine omap_keeps ?_ ?_
      | apply id_keeps
    | intro _ _ _
    | intro _ _
    | split
    | with_reducible first
      | refine pair_keeps ?_ (by assumption) | refine pair_keeps2 ?_ (by assumption)
      | refine opt_keeps ?_ (by assumption)
    | dsimp only
    | fail_if_no_progress with_reducible apply mk_keeps)

theorem State.matchDue_keeps {b0 : State} (s : State) (n : ℕ) (c : ℕ) (hs : Keeps b0 s) :
    Keeps b0 (State.matchDue s n c) := by
  unfold State.matchDue
  repeat' (first
    | with_reducible first
      | assumption | apply State.compareEvent_keeps | apply State.setSlice_keeps | refine foldl_keeps ?_ ?_
      | refine ite_keeps ?_ ?_ | refine pite_keeps ?_ ?_ | exact none_okeeps | apply some_okeeps | refine oite_keeps ?_ ?_
      | refine getD_keeps ?_ ?_ | refine omap_keeps ?_ ?_ | apply id_keeps
    | intro _ _ _
    | intro _ _
    | split
    | with_reducible first
      | refine pair_keeps ?_ (by assumption) | refine pair_keeps2 ?_ (by assumption)
      | refine opt_keeps ?_ (by assumption)
    | dsimp only
    | fail_if_no_progress with_reducible apply mk_keeps)

theorem State.elEvent_keeps {b0 : State} (s : State) (n : ℕ) (t : ℤ) (hs : Keeps b0 s) :
    Keeps b0 (State.elEvent s n t) := by
  unfold State.elEvent
  repeat' (first
    | with_reducible first
      | assumption | apply State.setSlice_keeps | apply State.sliceEvent_keeps | refine foldl_keeps ?_ ?_
      | refine ite_keeps ?_ ?_ | refine pite_keeps ?_ ?_ | exact none_okeeps | apply some_okeeps | refine oite_keeps ?_ ?_
      | refine getD_keeps ?_ ?_ | refine omap_keeps ?_ ?_ | apply id_keeps
    | intro _ _ _
    | intro _ _
    | split
    | with_reducible first
      | refine pair_keeps ?_ (by assumption) | refine pair_keeps2 ?_ (by assumption)
      | refine opt_keeps ?_ (by assumption)
    | dsimp only
    | fail_if_no_progress with_reducible apply mk_keeps)

theorem State.sliceWrite_keeps {b0 : State} (s : State) (n : ℕ) (a : ℕ) (x : Xfer) (v : Word) (hs : Keeps b0 s) :
    Keeps b0
    (State.sliceWrite s n a x v) := by
  unfold State.sliceWrite
  repeat' (first
    | with_reducible first
      | assumption | apply State.setSlice_keeps | refine foldl_keeps ?_ ?_ | refine ite_keeps ?_ ?_ | refine pite_keeps ?_ ?_
      | exact none_okeeps | apply some_okeeps | refine oite_keeps ?_ ?_ | refine getD_keeps ?_ ?_ | refine omap_keeps ?_ ?_
      | apply id_keeps
    | intro _ _ _
    | intro _ _
    | split
    | with_reducible first
      | refine pair_keeps ?_ (by assumption) | refine pair_keeps2 ?_ (by assumption)
      | refine opt_keeps ?_ (by assumption)
    | dsimp only
    | fail_if_no_progress with_reducible apply mk_keeps)

theorem State.sliceStore_keeps {b0 : State} (s : State) (n : ℕ) (o : ℕ) (v : Word) (g : ℤ) (hs : Keeps b0 s) :
    Keeps b0
    (State.sliceStore s n o v g) := by
  unfold State.sliceStore
  repeat' (first
    | with_reducible first
      | assumption | apply State.setReg_keeps | apply State.storeDirect_keeps | refine foldl_keeps ?_ ?_
      | refine ite_keeps ?_ ?_ | refine pite_keeps ?_ ?_ | exact none_okeeps | apply some_okeeps | refine oite_keeps ?_ ?_
      | refine getD_keeps ?_ ?_ | refine omap_keeps ?_ ?_ | apply id_keeps
    | intro _ _ _
    | intro _ _
    | split
    | with_reducible first
      | refine pair_keeps ?_ (by assumption) | refine pair_keeps2 ?_ (by assumption)
      | refine opt_keeps ?_ (by assumption)
    | dsimp only
    | fail_if_no_progress with_reducible apply mk_keeps)

theorem State.ctrlStrobes_keeps {b0 : State} (s : State) (n : ℕ) (v : Word) (g : ℤ) (hs : Keeps b0 s) :
    Keeps b0
    (State.ctrlStrobes s n v g) := by
  unfold State.ctrlStrobes
  repeat' (first
    | with_reducible first
      | assumption | apply State.startSlice_keeps | apply State.sync_keeps | refine foldl_keeps ?_ ?_ | refine ite_keeps ?_ ?_
      | refine pite_keeps ?_ ?_ | exact none_okeeps | apply some_okeeps | refine oite_keeps ?_ ?_ | refine getD_keeps ?_ ?_
      | refine omap_keeps ?_ ?_ | apply id_keeps
    | intro _ _ _
    | intro _ _
    | split
    | with_reducible first
      | refine pair_keeps ?_ (by assumption) | refine pair_keeps2 ?_ (by assumption)
      | refine opt_keeps ?_ (by assumption)
    | dsimp only
    | fail_if_no_progress with_reducible apply mk_keeps)

theorem State.captureWrite_keeps {b0 : State} (s : State) (n : ℕ) (w : SWrite) (g : ℤ) (hs : Keeps b0 s) :
    Keeps b0
    (State.captureWrite s n w g).1 := by
  unfold State.captureWrite
  repeat' (first
    | with_reducible first
      | assumption | apply State.ctrlStrobes_keeps | apply State.governs_keeps | apply State.setSlice_keeps
      | apply State.sliceFlag_keeps | apply State.sliceStore_keeps | apply State.stage_keeps | refine foldl_keeps ?_ ?_
      | refine ite_keeps ?_ ?_ | refine pite_keeps ?_ ?_ | exact none_okeeps | apply some_okeeps | refine oite_keeps ?_ ?_
      | refine getD_keeps ?_ ?_ | refine omap_keeps ?_ ?_ | apply id_keeps
    | intro _ _ _
    | intro _ _
    | split
    | with_reducible first
      | refine pair_keeps ?_ (by assumption) | refine pair_keeps2 ?_ (by assumption)
      | refine opt_keeps ?_ (by assumption)
    | dsimp only
    | fail_if_no_progress with_reducible apply mk_keeps)

theorem wrSlice_keeps {b0 : State} (q : Req) (n : ℕ) (a : ℕ) (v : Word) (s : State) (hs : Keeps b0 s) :
    Keeps b0 (wrSlice q n a v s)
    := by
  unfold wrSlice
  repeat' (first
    | with_reducible first
      | assumption | apply State.refuse_keeps | apply State.sliceWrite_keeps | refine foldl_keeps ?_ ?_ | refine ite_keeps ?_ ?_
      | refine pite_keeps ?_ ?_ | exact none_okeeps | apply some_okeeps | refine oite_keeps ?_ ?_ | refine getD_keeps ?_ ?_
      | refine omap_keeps ?_ ?_ | apply id_keeps
    | intro _ _ _
    | intro _ _
    | split
    | with_reducible first
      | refine pair_keeps ?_ (by assumption) | refine pair_keeps2 ?_ (by assumption)
      | refine opt_keeps ?_ (by assumption)
    | dsimp only
    | fail_if_no_progress with_reducible apply mk_keeps)

theorem State.memberChanged_keeps {b0 : State} (s : State) (n : ℕ) (tc : ℕ) (hs : Keeps b0 s) :
    Keeps b0 (State.memberChanged s n tc)
    := by
  unfold State.memberChanged
  repeat' (first
    | with_reducible first
      | assumption | apply State.setSlice_keeps | apply State.sliceFlag_keeps | apply State.stopSlice_keeps
      | refine foldl_keeps ?_ ?_ | refine ite_keeps ?_ ?_ | refine pite_keeps ?_ ?_ | exact none_okeeps | apply some_okeeps
      | refine oite_keeps ?_ ?_ | refine getD_keeps ?_ ?_ | refine omap_keeps ?_ ?_ | apply id_keeps
    | intro _ _ _
    | intro _ _
    | split
    | with_reducible first
      | refine pair_keeps ?_ (by assumption) | refine pair_keeps2 ?_ (by assumption)
      | refine opt_keeps ?_ (by assumption)
    | dsimp only
    | fail_if_no_progress with_reducible apply mk_keeps)

theorem State.ctrlCommitted_keeps {b0 : State} (s : State) (n : ℕ) (old : Word) (tc : ℕ) (hs : Keeps b0 s) :
    Keeps b0
    (State.ctrlCommitted s n old tc) := by
  unfold State.ctrlCommitted
  repeat' (first
    | with_reducible first
      | assumption | apply State.memberChanged_keeps | apply State.runFrom_keeps | apply State.setSlice_keeps
      | apply State.stopSlice_keeps | apply State.synchronise_keeps | refine foldl_keeps ?_ ?_ | refine ite_keeps ?_ ?_
      | refine pite_keeps ?_ ?_ | exact none_okeeps | apply some_okeeps | refine oite_keeps ?_ ?_ | refine getD_keeps ?_ ?_
      | refine omap_keeps ?_ ?_ | apply id_keeps
    | intro _ _ _
    | intro _ _
    | split
    | with_reducible first
      | refine pair_keeps ?_ (by assumption) | refine pair_keeps2 ?_ (by assumption)
      | refine opt_keeps ?_ (by assumption)
    | dsimp only
    | fail_if_no_progress with_reducible apply mk_keeps)

theorem State.outCommitted_keeps {b0 : State} (s : State) (n : ℕ) (old : Word) (tc : ℕ) (hs : Keeps b0 s) :
    Keeps b0 (State.outCommitted s n old tc) := by
  unfold State.outCommitted
  repeat' (first
    | with_reducible first
      | assumption | apply State.setSlice_keeps | refine foldl_keeps ?_ ?_ | refine ite_keeps ?_ ?_ | refine pite_keeps ?_ ?_
      | exact none_okeeps | apply some_okeeps | refine oite_keeps ?_ ?_ | refine getD_keeps ?_ ?_ | refine omap_keeps ?_ ?_
      | apply id_keeps
    | intro _ _ _
    | intro _ _
    | split
    | with_reducible first
      | refine pair_keeps ?_ (by assumption) | refine pair_keeps2 ?_ (by assumption)
      | refine opt_keeps ?_ (by assumption)
    | dsimp only
    | fail_if_no_progress with_reducible apply mk_keeps)

theorem State.loadCommitted_keeps {b0 : State} (s : State) (n : ℕ) (old : Word) (tc : ℕ) (per : Bool) (hs : Keeps b0 s) :
    Keeps b0
    (State.loadCommitted s n old tc per) := by
  unfold State.loadCommitted
  repeat' (first
    | with_reducible first
      | assumption | apply State.dropShadow_keeps | apply State.each_keeps | apply State.governs_keeps | apply State.set_keeps
      | apply State.setStaged_keeps | refine foldl_keeps ?_ ?_ | refine ite_keeps ?_ ?_ | refine pite_keeps ?_ ?_
      | exact none_okeeps | apply some_okeeps | refine oite_keeps ?_ ?_ | refine getD_keeps ?_ ?_ | refine omap_keeps ?_ ?_
      | apply id_keeps
    | intro _ _ _
    | intro _ _
    | split
    | with_reducible first
      | refine pair_keeps ?_ (by assumption) | refine pair_keeps2 ?_ (by assumption)
      | refine opt_keeps ?_ (by assumption)
    | dsimp only
    | fail_if_no_progress with_reducible apply mk_keeps)

theorem State.membersChanged_keeps {b0 : State} (s : State) (g : ℕ) (tc : ℕ) (hs : Keeps b0 s) :
    Keeps b0
    (State.membersChanged s g tc) := by
  unfold State.membersChanged
  repeat' (first
    | with_reducible first
      | assumption | apply State.each_keeps | apply State.memberChanged_keeps | refine foldl_keeps ?_ ?_
      | refine ite_keeps ?_ ?_ | refine pite_keeps ?_ ?_ | exact none_okeeps | apply some_okeeps | refine oite_keeps ?_ ?_
      | refine getD_keeps ?_ ?_ | refine omap_keeps ?_ ?_ | apply id_keeps
    | intro _ _ _
    | intro _ _
    | split
    | with_reducible first
      | refine pair_keeps ?_ (by assumption) | refine pair_keeps2 ?_ (by assumption)
      | refine opt_keeps ?_ (by assumption)
    | dsimp only
    | fail_if_no_progress with_reducible apply mk_keeps)

theorem State.sharedChanged_keeps {b0 : State} (s : State) (tc : ℕ) (hs : Keeps b0 s) :
    Keeps b0 (State.sharedChanged s tc) := by
  unfold State.sharedChanged
  repeat' (first
    | with_reducible first
      | assumption | apply State.each_keeps | apply State.membersChanged_keeps | refine foldl_keeps ?_ ?_
      | refine ite_keeps ?_ ?_ | refine pite_keeps ?_ ?_ | exact none_okeeps | apply some_okeeps | refine oite_keeps ?_ ?_
      | refine getD_keeps ?_ ?_ | refine omap_keeps ?_ ?_ | apply id_keeps
    | intro _ _ _
    | intro _ _
    | split
    | with_reducible first
      | refine pair_keeps ?_ (by assumption) | refine pair_keeps2 ?_ (by assumption)
      | refine opt_keeps ?_ (by assumption)
    | dsimp only
    | fail_if_no_progress with_reducible apply mk_keeps)

theorem State.stgWrite_keeps {b0 : State} (s : State) (a : ℕ) (x : Xfer) (v : Word) (hs : Keeps b0 s) :
    Keeps b0 (State.stgWrite s a x v) := by
  unfold State.stgWrite
  repeat' (first
    | with_reducible first
      | assumption | refine foldl_keeps ?_ ?_ | refine ite_keeps ?_ ?_ | refine pite_keeps ?_ ?_ | exact none_okeeps
      | apply some_okeeps | refine oite_keeps ?_ ?_ | refine getD_keeps ?_ ?_ | refine omap_keeps ?_ ?_ | apply id_keeps
    | intro _ _ _
    | intro _ _
    | split
    | with_reducible first
      | refine pair_keeps ?_ (by assumption) | refine pair_keeps2 ?_ (by assumption)
      | refine opt_keeps ?_ (by assumption)
    | dsimp only
    | fail_if_no_progress with_reducible apply mk_keeps)

theorem State.captureStg_keeps {b0 : State} (s : State) (w : SWrite) (g : ℕ) (hs : Keeps b0 s) :
    Keeps b0 (State.captureStg s w g).1 := by
  unfold State.captureStg
  repeat' (first
    | with_reducible first
      | assumption | apply State.each_keeps | apply State.membersChanged_keeps | apply State.sliceFlag_keeps
      | apply State.storeFields_keeps | refine foldl_keeps ?_ ?_ | refine ite_keeps ?_ ?_ | refine pite_keeps ?_ ?_
      | exact none_okeeps | apply some_okeeps | refine oite_keeps ?_ ?_ | refine getD_keeps ?_ ?_ | refine omap_keeps ?_ ?_
      | apply id_keeps
    | intro _ _ _
    | intro _ _
    | split
    | with_reducible first
      | refine pair_keeps ?_ (by assumption) | refine pair_keeps2 ?_ (by assumption)
      | refine opt_keeps ?_ (by assumption)
    | dsimp only
    | fail_if_no_progress with_reducible apply mk_keeps)

theorem State.groupChanged_keeps {b0 : State} (s : State) (g : ℕ) (oldCfg : Word) (oldPer : Word) (tc : ℕ) (hs : Keeps b0 s)
    :
    Keeps b0 (State.groupChanged s g oldCfg oldPer tc) := by
  unfold State.groupChanged
  repeat' (first
    | with_reducible first
      | assumption | apply State.membersChanged_keeps | apply State.set_keeps | refine foldl_keeps ?_ ?_
      | refine ite_keeps ?_ ?_ | refine pite_keeps ?_ ?_ | exact none_okeeps | apply some_okeeps | refine oite_keeps ?_ ?_
      | refine getD_keeps ?_ ?_ | refine omap_keeps ?_ ?_ | apply id_keeps
    | intro _ _ _
    | intro _ _
    | split
    | with_reducible first
      | refine pair_keeps ?_ (by assumption) | refine pair_keeps2 ?_ (by assumption)
      | refine opt_keeps ?_ (by assumption)
    | dsimp only
    | fail_if_no_progress with_reducible apply mk_keeps)

theorem State.showMode_keeps {b0 : State} (s : State) (hs : Keeps b0 s) :
    Keeps b0 (State.showMode s) := by
  unfold State.showMode
  repeat' (first
    | with_reducible first
      | assumption | apply State.fire_keeps | apply State.set_keeps | refine foldl_keeps ?_ ?_ | refine ite_keeps ?_ ?_
      | refine pite_keeps ?_ ?_ | exact none_okeeps | apply some_okeeps | refine oite_keeps ?_ ?_ | refine getD_keeps ?_ ?_
      | refine omap_keeps ?_ ?_ | apply id_keeps
    | intro _ _ _
    | intro _ _
    | split
    | with_reducible first
      | refine pair_keeps ?_ (by assumption) | refine pair_keeps2 ?_ (by assumption)
      | refine opt_keeps ?_ (by assumption)
    | dsimp only
    | fail_if_no_progress with_reducible apply mk_keeps)

theorem State.relockAll_keeps {b0 : State} (s : State) (cs : List ℕ) (hs : Keeps b0 s) :
    Keeps b0 (State.relockAll s cs) := by
  unfold State.relockAll
  repeat' (first
    | with_reducible first
      | assumption | apply State.set_keeps | refine foldl_keeps ?_ ?_ | refine ite_keeps ?_ ?_ | refine pite_keeps ?_ ?_
      | exact none_okeeps | apply some_okeeps | refine oite_keeps ?_ ?_ | refine getD_keeps ?_ ?_ | refine omap_keeps ?_ ?_
      | apply id_keeps
    | intro _ _ _
    | intro _ _
    | split
    | with_reducible first
      | refine pair_keeps ?_ (by assumption) | refine pair_keeps2 ?_ (by assumption)
      | refine opt_keeps ?_ (by assumption)
    | dsimp only
    | fail_if_no_progress with_reducible apply mk_keeps)

theorem State.reclock_keeps {b0 : State} (s : State) (old : Mode) (hs : Keeps b0 s) :
    Keeps b0 (State.reclock s old) := by
  unfold State.reclock
  repeat' (first
    | with_reducible first
      | assumption | apply State.relockAll_keeps | refine foldl_keeps ?_ ?_ | refine ite_keeps ?_ ?_ | refine pite_keeps ?_ ?_
      | exact none_okeeps | apply some_okeeps | refine oite_keeps ?_ ?_ | refine getD_keeps ?_ ?_ | refine omap_keeps ?_ ?_
      | apply id_keeps
    | intro _ _ _
    | intro _ _
    | split
    | with_reducible first
      | refine pair_keeps ?_ (by assumption) | refine pair_keeps2 ?_ (by assumption)
      | refine opt_keeps ?_ (by assumption)
    | dsimp only
    | fail_if_no_progress with_reducible apply mk_keeps)

theorem State.enter_keeps {b0 : State} (s : State) (m : Mode) (hs : Keeps b0 s) :
    Keeps b0 (State.enter s m) := by
  unfold State.enter
  repeat' (first
    | with_reducible first
      | assumption | apply State.reclock_keeps | apply State.showMode_keeps | refine foldl_keeps ?_ ?_ | refine ite_keeps ?_ ?_
      | refine pite_keeps ?_ ?_ | exact none_okeeps | apply some_okeeps | refine oite_keeps ?_ ?_ | refine getD_keeps ?_ ?_
      | refine omap_keeps ?_ ?_ | apply id_keeps
    | intro _ _ _
    | intro _ _
    | split
    | with_reducible first
      | refine pair_keeps ?_ (by assumption) | refine pair_keeps2 ?_ (by assumption)
      | refine opt_keeps ?_ (by assumption)
    | dsimp only
    | fail_if_no_progress with_reducible apply mk_keeps)

theorem State.setHold_keeps {b0 : State} (s : State) (hs : Keeps b0 s) :
    Keeps b0 (State.setHold s) := by
  unfold State.setHold
  repeat' (first
    | with_reducible first
      | assumption | apply State.enter_keeps | apply State.set_keeps | refine foldl_keeps ?_ ?_ | refine ite_keeps ?_ ?_
      | refine pite_keeps ?_ ?_ | exact none_okeeps | apply some_okeeps | refine oite_keeps ?_ ?_ | refine getD_keeps ?_ ?_
      | refine omap_keeps ?_ ?_ | apply id_keeps
    | intro _ _ _
    | intro _ _
    | split
    | with_reducible first
      | refine pair_keeps ?_ (by assumption) | refine pair_keeps2 ?_ (by assumption)
      | refine opt_keeps ?_ (by assumption)
    | dsimp only
    | fail_if_no_progress with_reducible apply mk_keeps)

theorem State.relocksOver_keeps {b0 : State} (s : State) (hs : Keeps b0 s) :
    Keeps b0 (State.relocksOver s) := by
  unfold State.relocksOver
  repeat' (first
    | with_reducible first
      | assumption | apply State.enter_keeps | apply State.set_keeps | refine foldl_keeps ?_ ?_ | refine ite_keeps ?_ ?_
      | refine pite_keeps ?_ ?_ | exact none_okeeps | apply some_okeeps | refine oite_keeps ?_ ?_ | refine getD_keeps ?_ ?_
      | refine omap_keeps ?_ ?_ | apply id_keeps
    | intro _ _ _
    | intro _ _
    | split
    | with_reducible first
      | refine pair_keeps ?_ (by assumption) | refine pair_keeps2 ?_ (by assumption)
      | refine opt_keeps ?_ (by assumption)
    | dsimp only
    | fail_if_no_progress with_reducible apply mk_keeps)

theorem State.refuseMode_keeps {b0 : State} (s : State) (cause : ℕ) (hs : Keeps b0 s) :
    Keeps b0 (State.refuseMode s cause) := by
  unfold State.refuseMode
  repeat' (first
    | with_reducible first
      | assumption | apply State.set_keeps | refine foldl_keeps ?_ ?_ | refine ite_keeps ?_ ?_ | refine pite_keeps ?_ ?_
      | exact none_okeeps | apply some_okeeps | refine oite_keeps ?_ ?_ | refine getD_keeps ?_ ?_ | refine omap_keeps ?_ ?_
      | apply id_keeps
    | intro _ _ _
    | intro _ _
    | split
    | with_reducible first
      | refine pair_keeps ?_ (by assumption) | refine pair_keeps2 ?_ (by assumption)
      | refine opt_keeps ?_ (by assumption)
    | dsimp only
    | fail_if_no_progress with_reducible apply mk_keeps)

theorem State.overrule_keeps {b0 : State} (s : State) (hs : Keeps b0 s) :
    Keeps b0 (State.overrule s) := by
  unfold State.overrule
  repeat' (first
    | with_reducible first
      | assumption | apply State.refuseMode_keeps | apply State.set_keeps | refine foldl_keeps ?_ ?_ | refine ite_keeps ?_ ?_
      | refine pite_keeps ?_ ?_ | exact none_okeeps | apply some_okeeps | refine oite_keeps ?_ ?_ | refine getD_keeps ?_ ?_
      | refine omap_keeps ?_ ?_ | apply id_keeps
    | intro _ _ _
    | intro _ _
    | split
    | with_reducible first
      | refine pair_keeps ?_ (by assumption) | refine pair_keeps2 ?_ (by assumption)
      | refine opt_keeps ?_ (by assumption)
    | dsimp only
    | fail_if_no_progress with_reducible apply mk_keeps)

theorem State.tripMode_keeps {b0 : State} (s : State) (cause : ℕ) (hs : Keeps b0 s) :
    Keeps b0 (State.tripMode s cause) := by
  unfold State.tripMode
  repeat' (first
    | with_reducible first
      | assumption | apply State.enter_keeps | apply State.fire_keeps | apply State.overrule_keeps | apply State.set_keeps
      | refine foldl_keeps ?_ ?_ | refine ite_keeps ?_ ?_ | refine pite_keeps ?_ ?_ | exact none_okeeps | apply some_okeeps
      | refine oite_keeps ?_ ?_ | refine getD_keeps ?_ ?_ | refine omap_keeps ?_ ?_ | apply id_keeps
    | intro _ _ _
    | intro _ _
    | split
    | with_reducible first
      | refine pair_keeps ?_ (by assumption) | refine pair_keeps2 ?_ (by assumption)
      | refine opt_keeps ?_ (by assumption)
    | dsimp only
    | fail_if_no_progress with_reducible apply mk_keeps)

theorem State.tripSet_keeps {b0 : State} (s : State) (z : ℕ) (hs : Keeps b0 s) :
    Keeps b0 (State.tripSet s z) := by
  unfold State.tripSet
  repeat' (first
    | with_reducible first
      | assumption | apply State.each_keeps | apply State.fire_keeps | apply State.raiseBits_keeps | apply State.set_keeps
      | apply State.startActs_keeps | apply State.tripMode_keeps | refine foldl_keeps ?_ ?_ | refine ite_keeps ?_ ?_
      | refine pite_keeps ?_ ?_ | exact none_okeeps | apply some_okeeps | refine oite_keeps ?_ ?_ | refine getD_keeps ?_ ?_
      | refine omap_keeps ?_ ?_ | apply id_keeps
    | intro _ _ _
    | intro _ _
    | split
    | with_reducible first
      | refine pair_keeps ?_ (by assumption) | refine pair_keeps2 ?_ (by assumption)
      | refine opt_keeps ?_ (by assumption)
    | dsimp only
    | fail_if_no_progress with_reducible apply mk_keeps)

theorem State.zoneHit_keeps {b0 : State} (s : State) (z : ℕ) (hs : Keeps b0 s) :
    Keeps b0 (State.zoneHit s z) := by
  unfold State.zoneHit
  repeat' (first
    | with_reducible first
      | assumption | apply State.set_keeps | apply State.tripSet_keeps | refine foldl_keeps ?_ ?_ | refine ite_keeps ?_ ?_
      | refine pite_keeps ?_ ?_ | exact none_okeeps | apply some_okeeps | refine oite_keeps ?_ ?_ | refine getD_keeps ?_ ?_
      | refine omap_keeps ?_ ?_ | apply id_keeps
    | intro _ _ _
    | intro _ _
    | split
    | with_reducible first
      | refine pair_keeps ?_ (by assumption) | refine pair_keeps2 ?_ (by assumption)
      | refine opt_keeps ?_ (by assumption)
    | dsimp only
    | fail_if_no_progress with_reducible apply mk_keeps)

theorem wrTzStatus_keeps {b0 : State} (q : Req) (z : ℕ) (w : Word) (s : State) (hs : Keeps b0 s) :
    Keeps b0 (wrTzStatus q z w s) := by
  unfold wrTzStatus
  repeat' (first
    | with_reducible first
      | assumption | apply State.storeDirect_keeps | apply State.write_keeps | apply settle_keeps | apply settleAt_keeps
      | refine foldl_keeps ?_ ?_ | refine ite_keeps ?_ ?_ | refine pite_keeps ?_ ?_ | exact none_okeeps | apply some_okeeps
      | refine oite_keeps ?_ ?_ | refine getD_keeps ?_ ?_ | refine omap_keeps ?_ ?_ | apply id_keeps
    | intro _ _ _
    | intro _ _
    | split
    | with_reducible first
      | refine pair_keeps ?_ (by assumption) | refine pair_keeps2 ?_ (by assumption)
      | refine opt_keeps ?_ (by assumption)
    | dsimp only
    | fail_if_no_progress with_reducible apply mk_keeps)

theorem State.tripinLevel_keeps {b0 : State} (s : State) (i : ℕ) (level : Bool) (hs : Keeps b0 s) :
    Keeps b0
    (State.tripinLevel s i level) := by
  unfold State.tripinLevel
  repeat' (first
    | with_reducible first
      | assumption | apply State.fireIf_keeps | apply State.setB_keeps | refine foldl_keeps ?_ ?_ | refine ite_keeps ?_ ?_
      | refine pite_keeps ?_ ?_ | exact none_okeeps | apply some_okeeps | refine oite_keeps ?_ ?_ | refine getD_keeps ?_ ?_
      | refine omap_keeps ?_ ?_ | apply id_keeps
    | intro _ _ _
    | intro _ _
    | split
    | with_reducible first
      | refine pair_keeps ?_ (by assumption) | refine pair_keeps2 ?_ (by assumption)
      | refine opt_keeps ?_ (by assumption)
    | dsimp only
    | fail_if_no_progress with_reducible apply mk_keeps)

theorem State.tripinCommitted_keeps {b0 : State} (s : State) (i : ℕ) (old : Word) (hs : Keeps b0 s) :
    Keeps b0
    (State.tripinCommitted s i old) := by
  unfold State.tripinCommitted
  repeat' (first
    | with_reducible first
      | assumption | apply State.tripinLevel_keeps | refine foldl_keeps ?_ ?_ | refine ite_keeps ?_ ?_ | refine pite_keeps ?_ ?_
      | exact none_okeeps | apply some_okeeps | refine oite_keeps ?_ ?_ | refine getD_keeps ?_ ?_ | refine omap_keeps ?_ ?_
      | apply id_keeps
    | intro _ _ _
    | intro _ _
    | split
    | with_reducible first
      | refine pair_keeps ?_ (by assumption) | refine pair_keeps2 ?_ (by assumption)
      | refine opt_keeps ?_ (by assumption)
    | dsimp only
    | fail_if_no_progress with_reducible apply mk_keeps)

theorem State.safenFall_keeps {b0 : State} (s : State) (hs : Keeps b0 s) :
    Keeps b0 (State.safenFall s) := by
  unfold State.safenFall
  repeat' (first
    | with_reducible first
      | assumption | apply State.set_keeps | apply State.setHold_keeps | refine foldl_keeps ?_ ?_ | refine ite_keeps ?_ ?_
      | refine pite_keeps ?_ ?_ | exact none_okeeps | apply some_okeeps | refine oite_keeps ?_ ?_ | refine getD_keeps ?_ ?_
      | refine omap_keeps ?_ ?_ | apply id_keeps
    | intro _ _ _
    | intro _ _
    | split
    | with_reducible first
      | refine pair_keeps ?_ (by assumption) | refine pair_keeps2 ?_ (by assumption)
      | refine opt_keeps ?_ (by assumption)
    | dsimp only
    | fail_if_no_progress with_reducible apply mk_keeps)

theorem State.release_keeps {b0 : State} (s : State) (hs : Keeps b0 s) :
    Keeps b0 (State.release s) := by
  unfold State.release
  repeat' (first
    | with_reducible first
      | assumption | apply State.enter_keeps | apply State.set_keeps | refine foldl_keeps ?_ ?_ | refine ite_keeps ?_ ?_
      | refine pite_keeps ?_ ?_ | exact none_okeeps | apply some_okeeps | refine oite_keeps ?_ ?_ | refine getD_keeps ?_ ?_
      | refine omap_keeps ?_ ?_ | apply id_keeps
    | intro _ _ _
    | intro _ _
    | split
    | with_reducible first
      | refine pair_keeps ?_ (by assumption) | refine pair_keeps2 ?_ (by assumption)
      | refine opt_keeps ?_ (by assumption)
    | dsimp only
    | fail_if_no_progress with_reducible apply mk_keeps)

theorem State.tripClear_keeps {b0 : State} (s : State) (hs : Keeps b0 s) :
    Keeps b0 (State.tripClear s) := by
  unfold State.tripClear
  repeat' (first
    | with_reducible first
      | assumption | apply State.enter_keeps | apply State.set_keeps | refine foldl_keeps ?_ ?_ | refine ite_keeps ?_ ?_
      | refine pite_keeps ?_ ?_ | exact none_okeeps | apply some_okeeps | refine oite_keeps ?_ ?_ | refine getD_keeps ?_ ?_
      | refine omap_keeps ?_ ?_ | apply id_keeps
    | intro _ _ _
    | intro _ _
    | split
    | with_reducible first
      | refine pair_keeps ?_ (by assumption) | refine pair_keeps2 ?_ (by assumption)
      | refine opt_keeps ?_ (by assumption)
    | dsimp only
    | fail_if_no_progress with_reducible apply mk_keeps)

theorem State.safeWrite_keeps {b0 : State} (s : State) (w : Word) (hs : Keeps b0 s) :
    Keeps b0 (State.safeWrite s w) := by
  unfold State.safeWrite
  repeat' (first
    | with_reducible first
      | assumption | apply State.release_keeps | apply State.storeDirect_keeps | apply State.tripClear_keeps
      | refine foldl_keeps ?_ ?_ | refine ite_keeps ?_ ?_ | refine pite_keeps ?_ ?_ | exact none_okeeps | apply some_okeeps
      | refine oite_keeps ?_ ?_ | refine getD_keeps ?_ ?_ | refine omap_keeps ?_ ?_ | apply id_keeps
    | intro _ _ _
    | intro _ _
    | split
    | with_reducible first
      | refine pair_keeps ?_ (by assumption) | refine pair_keeps2 ?_ (by assumption)
      | refine opt_keeps ?_ (by assumption)
    | dsimp only
    | fail_if_no_progress with_reducible apply mk_keeps)

theorem wrSafeCtrl_keeps {b0 : State} (q : Req) (w : Word) (s : State) (hs : Keeps b0 s) :
    Keeps b0 (wrSafeCtrl q w s) := by
  unfold wrSafeCtrl
  repeat' (first
    | with_reducible first
      | assumption | apply State.safeWrite_keeps | apply State.write_keeps | apply settle_keeps | apply settleAt_keeps
      | refine foldl_keeps ?_ ?_ | refine ite_keeps ?_ ?_ | refine pite_keeps ?_ ?_ | exact none_okeeps | apply some_okeeps
      | refine oite_keeps ?_ ?_ | refine getD_keeps ?_ ?_ | refine omap_keeps ?_ ?_ | apply id_keeps
    | intro _ _ _
    | intro _ _
    | split
    | with_reducible first
      | refine pair_keeps ?_ (by assumption) | refine pair_keeps2 ?_ (by assumption)
      | refine opt_keeps ?_ (by assumption)
    | dsimp only
    | fail_if_no_progress with_reducible apply mk_keeps)

theorem State.senseSafen_keeps {b0 : State} (s : State) (high : Bool) (hs : Keeps b0 s) :
    Keeps b0 (State.senseSafen s high) := by
  unfold State.senseSafen
  repeat' (first
    | with_reducible first
      | assumption | apply State.safenFall_keeps | apply State.set_keeps | refine foldl_keeps ?_ ?_ | refine ite_keeps ?_ ?_
      | refine pite_keeps ?_ ?_ | exact none_okeeps | apply some_okeeps | refine oite_keeps ?_ ?_ | refine getD_keeps ?_ ?_
      | refine omap_keeps ?_ ?_ | apply id_keeps
    | intro _ _ _
    | intro _ _
    | split
    | with_reducible first
      | refine pair_keeps ?_ (by assumption) | refine pair_keeps2 ?_ (by assumption)
      | refine opt_keeps ?_ (by assumption)
    | dsimp only
    | fail_if_no_progress with_reducible apply mk_keeps)

theorem State.captureAt_keeps {b0 : State} (s : State) (c : ℕ) (ta : ℕ) (hs : Keeps b0 s) :
    Keeps b0 (State.captureAt s c ta) := by
  unfold State.captureAt
  repeat' (first
    | with_reducible first
      | assumption | apply State.fireAt_keeps | apply State.flagIf_keeps | apply State.incWrap_keeps | apply State.put64_keeps
      | apply State.set_keeps | refine foldl_keeps ?_ ?_ | refine ite_keeps ?_ ?_ | refine pite_keeps ?_ ?_ | exact none_okeeps
      | apply some_okeeps | refine oite_keeps ?_ ?_ | refine getD_keeps ?_ ?_ | refine omap_keeps ?_ ?_ | apply id_keeps
    | intro _ _ _
    | intro _ _
    | split
    | with_reducible first
      | refine pair_keeps ?_ (by assumption) | refine pair_keeps2 ?_ (by assumption)
      | refine opt_keeps ?_ (by assumption)
    | dsimp only
    | fail_if_no_progress with_reducible apply mk_keeps)

theorem State.zoneCommitted_keeps {b0 : State} (s : State) (z : ℕ) (old : Word) (hs : Keeps b0 s) :
    Keeps b0
    (State.zoneCommitted s z old) := by
  unfold State.zoneCommitted
  repeat' (first
    | with_reducible first
      | assumption | apply State.set_keeps | apply State.zoneHit_keeps | refine foldl_keeps ?_ ?_ | refine ite_keeps ?_ ?_
      | refine pite_keeps ?_ ?_ | exact none_okeeps | apply some_okeeps | refine oite_keeps ?_ ?_ | refine getD_keeps ?_ ?_
      | refine omap_keeps ?_ ?_ | apply id_keeps
    | intro _ _ _
    | intro _ _
    | split
    | with_reducible first
      | refine pair_keeps ?_ (by assumption) | refine pair_keeps2 ?_ (by assumption)
      | refine opt_keeps ?_ (by assumption)
    | dsimp only
    | fail_if_no_progress with_reducible apply mk_keeps)

theorem State.actsCommitted_keeps {b0 : State} (s : State) (z : ℕ) (j : ℕ) (tc : ℕ) (old : Word) (hs : Keeps b0 s) :
    Keeps b0
    (State.actsCommitted s z j tc old) := by
  unfold State.actsCommitted
  repeat' (first
    | with_reducible first
      | assumption | apply State.startActs_keeps | refine foldl_keeps ?_ ?_ | refine ite_keeps ?_ ?_ | refine pite_keeps ?_ ?_
      | exact none_okeeps | apply some_okeeps | refine oite_keeps ?_ ?_ | refine getD_keeps ?_ ?_ | refine omap_keeps ?_ ?_
      | apply id_keeps
    | intro _ _ _
    | intro _ _
    | split
    | with_reducible first
      | refine pair_keeps ?_ (by assumption) | refine pair_keeps2 ?_ (by assumption)
      | refine opt_keeps ?_ (by assumption)
    | dsimp only
    | fail_if_no_progress with_reducible apply mk_keeps)

theorem State.sendOn_keeps {b0 : State} (s : State) (l : ℕ) (p : Pkt) (hs : Keeps b0 s) :
    Keeps b0 (State.sendOn s l p) := by
  unfold State.sendOn
  repeat' (first
    | with_reducible first
      | assumption | apply State.setSwlPort_keeps | refine foldl_keeps ?_ ?_ | refine ite_keeps ?_ ?_ | refine pite_keeps ?_ ?_
      | exact none_okeeps | apply some_okeeps | refine oite_keeps ?_ ?_ | refine getD_keeps ?_ ?_ | refine omap_keeps ?_ ?_
      | apply id_keeps
    | intro _ _ _
    | intro _ _
    | split
    | with_reducible first
      | refine pair_keeps ?_ (by assumption) | refine pair_keeps2 ?_ (by assumption)
      | refine opt_keeps ?_ (by assumption)
    | dsimp only
    | fail_if_no_progress with_reducible apply mk_keeps)

theorem State.send_keeps {b0 : State} (s : State) (p : Pkt) (hs : Keeps b0 s) :
    Keeps b0 (State.send s p).1 := by
  unfold State.send
  repeat' (first
    | with_reducible first
      | assumption | apply State.sendOn_keeps | apply State.set_keeps | refine foldl_keeps ?_ ?_ | refine ite_keeps ?_ ?_
      | refine pite_keeps ?_ ?_ | exact none_okeeps | apply some_okeeps | refine oite_keeps ?_ ?_ | refine getD_keeps ?_ ?_
      | refine omap_keeps ?_ ?_ | apply id_keeps
    | intro _ _ _
    | intro _ _
    | split
    | with_reducible first
      | refine pair_keeps ?_ (by assumption) | refine pair_keeps2 ?_ (by assumption)
      | refine opt_keeps ?_ (by assumption)
    | dsimp only
    | fail_if_no_progress with_reducible apply mk_keeps)

theorem State.answer_keeps {b0 : State} (s : State) (type : ℕ) (dst : ℕ) (tag : ℕ) (data : List Byte) (hs : Keeps b0 s) :
    Keeps b0
    (State.answer s type dst tag data) := by
  unfold State.answer
  repeat' (first
    | with_reducible first
      | assumption | apply State.send_keeps | refine foldl_keeps ?_ ?_ | refine ite_keeps ?_ ?_ | refine pite_keeps ?_ ?_
      | exact none_okeeps | apply some_okeeps | refine oite_keeps ?_ ?_ | refine getD_keeps ?_ ?_ | refine omap_keeps ?_ ?_
      | apply id_keeps
    | intro _ _ _
    | intro _ _
    | split
    | with_reducible first
      | refine pair_keeps ?_ (by assumption) | refine pair_keeps2 ?_ (by assumption)
      | refine opt_keeps ?_ (by assumption)
    | dsimp only
    | fail_if_no_progress with_reducible apply mk_keeps)

theorem State.await_keeps {b0 : State} (s : State) (o : SwlOut) (hs : Keeps b0 s) :
    Keeps b0 (State.await s o) := by
  unfold State.await
  repeat' (first
    | with_reducible first
      | assumption | refine foldl_keeps ?_ ?_ | refine ite_keeps ?_ ?_ | refine pite_keeps ?_ ?_ | exact none_okeeps
      | apply some_okeeps | refine oite_keeps ?_ ?_ | refine getD_keeps ?_ ?_ | refine omap_keeps ?_ ?_ | apply id_keeps
    | intro _ _ _
    | intro _ _
    | split
    | with_reducible first
      | refine pair_keeps ?_ (by assumption) | refine pair_keeps2 ?_ (by assumption)
      | refine opt_keeps ?_ (by assumption)
    | dsimp only
    | fail_if_no_progress with_reducible apply mk_keeps)

end Sys2Proof.Machine
end

