-- ==== Sys2Proof/Laws/KeepsLink.lean ====
section
/-!
SUPPORT. What `Keeps` says, one lemma per operation: commits, crossing, queues, standard interfaces, Fieldring.
-/

namespace Sys2Proof.Machine

set_option linter.unusedTactic false
set_option linter.unreachableTactic false

theorem State.setRefill_keeps {b0 : State} (s : State) (p : ℕ) (x : Option (List ℕ)) (hs : Keeps b0 s) :
    Keeps b0
    (State.setRefill s p x) := by
  unfold State.setRefill
  repeat' (first
    | with_reducible first
      | assumption | refine foldl_keeps ?_ ?_ | refine ite_keeps ?_ ?_ | refine pite_keeps ?_ ?_ | exact none_okeeps
      | apply some_okeeps | refine oite_keeps ?_ ?_ | refine getD_keeps ?_ ?_ | refine omap_keeps ?_ ?_ | apply id_keeps
    | intro _ _ _
    | intro _ _
    | split
    | with_reducible first
      | refine pair_keeps ?_ (by assumption) | refine pair_keeps2 ?_ (by assumption)
      | refine opt_keeps ?_ (by assumption)
    | dsimp only
    | fail_if_no_progress with_reducible apply mk_keeps)

theorem State.touchPage_keeps {b0 : State} (s : State) (p : ℕ) (a : ℕ) (hs : Keeps b0 s) :
    Keeps b0 (State.touchPage s p a) := by
  unfold State.touchPage
  repeat' (first
    | with_reducible first
      | assumption | apply State.set_keeps | apply State.setRefill_keeps | refine foldl_keeps ?_ ?_ | refine ite_keeps ?_ ?_
      | refine pite_keeps ?_ ?_ | exact none_okeeps | apply some_okeeps | refine oite_keeps ?_ ?_ | refine getD_keeps ?_ ?_
      | refine omap_keeps ?_ ?_ | apply id_keeps
    | intro _ _ _
    | intro _ _
    | split
    | with_reducible first
      | refine pair_keeps ?_ (by assumption) | refine pair_keeps2 ?_ (by assumption)
      | refine opt_keeps ?_ (by assumption)
    | dsimp only
    | fail_if_no_progress with_reducible apply mk_keeps)

theorem State.putStaged_keeps {b0 : State} (s : State) (a : ℕ) (w : Word) (hs : Keeps b0 s) :
    Keeps b0 (State.putStaged s a w) := by
  unfold State.putStaged
  repeat' (first
    | with_reducible first
      | assumption | apply State.keepErrs_keeps | apply State.putWord_keeps | refine foldl_keeps ?_ ?_ | refine ite_keeps ?_ ?_
      | refine pite_keeps ?_ ?_ | exact none_okeeps | apply some_okeeps | refine oite_keeps ?_ ?_ | refine getD_keeps ?_ ?_
      | refine omap_keeps ?_ ?_ | apply id_keeps
    | intro _ _ _
    | intro _ _
    | split
    | with_reducible first
      | refine pair_keeps ?_ (by assumption) | refine pair_keeps2 ?_ (by assumption)
      | refine opt_keeps ?_ (by assumption)
    | dsimp only
    | fail_if_no_progress with_reducible apply mk_keeps)

theorem State.pageWrite_keeps {b0 : State} (s : State) (p : ℕ) (a : ℕ) (n : ℕ) (w : Word) (hs : Keeps b0 s) :
    Keeps b0
    (State.pageWrite s p a n w) := by
  unfold State.pageWrite
  repeat' (first
    | with_reducible first
      | assumption | apply State.putBytes_keeps | apply State.putStaged_keeps | apply State.touchPage_keeps
      | refine foldl_keeps ?_ ?_ | refine ite_keeps ?_ ?_ | refine pite_keeps ?_ ?_ | exact none_okeeps | apply some_okeeps
      | refine oite_keeps ?_ ?_ | refine getD_keeps ?_ ?_ | refine omap_keeps ?_ ?_ | apply id_keeps
    | intro _ _ _
    | intro _ _
    | split
    | with_reducible first
      | refine pair_keeps ?_ (by assumption) | refine pair_keeps2 ?_ (by assumption)
      | refine opt_keeps ?_ (by assumption)
    | dsimp only
    | fail_if_no_progress with_reducible apply mk_keeps)

theorem State.swapWord_keeps {b0 : State} (s : State) (a : ℕ) (hs : Keeps b0 s) :
    Keeps b0 (State.swapWord s a) := by
  unfold State.swapWord
  repeat' (first
    | with_reducible first
      | assumption | apply State.putWord_keeps | refine foldl_keeps ?_ ?_ | refine ite_keeps ?_ ?_ | refine pite_keeps ?_ ?_
      | exact none_okeeps | apply some_okeeps | refine oite_keeps ?_ ?_ | refine getD_keeps ?_ ?_ | refine omap_keeps ?_ ?_
      | apply id_keeps
    | intro _ _ _
    | intro _ _
    | split
    | with_reducible first
      | refine pair_keeps ?_ (by assumption) | refine pair_keeps2 ?_ (by assumption)
      | refine opt_keeps ?_ (by assumption)
    | dsimp only
    | fail_if_no_progress with_reducible apply mk_keeps)

theorem State.refillWord_keeps {b0 : State} (s : State) (a : ℕ) (hs : Keeps b0 s) :
    Keeps b0 (State.refillWord s a) := by
  unfold State.refillWord
  repeat' (first
    | with_reducible first
      | assumption | apply State.putStaged_keeps | refine foldl_keeps ?_ ?_ | refine ite_keeps ?_ ?_ | refine pite_keeps ?_ ?_
      | exact none_okeeps | apply some_okeeps | refine oite_keeps ?_ ?_ | refine getD_keeps ?_ ?_ | refine omap_keeps ?_ ?_
      | apply id_keeps
    | intro _ _ _
    | intro _ _
    | split
    | with_reducible first
      | refine pair_keeps ?_ (by assumption) | refine pair_keeps2 ?_ (by assumption)
      | refine opt_keeps ?_ (by assumption)
    | dsimp only
    | fail_if_no_progress with_reducible apply mk_keeps)

theorem State.endRefill_keeps {b0 : State} (s : State) (p : ℕ) (hs : Keeps b0 s) :
    Keeps b0 (State.endRefill s p) := by
  unfold State.endRefill
  repeat' (first
    | with_reducible first
      | assumption | apply State.each_keeps | apply State.refillWord_keeps | apply State.setRefill_keeps
      | refine foldl_keeps ?_ ?_ | refine ite_keeps ?_ ?_ | refine pite_keeps ?_ ?_ | exact none_okeeps | apply some_okeeps
      | refine oite_keeps ?_ ?_ | refine getD_keeps ?_ ?_ | refine omap_keeps ?_ ?_ | apply id_keeps
    | intro _ _ _
    | intro _ _
    | split
    | with_reducible first
      | refine pair_keeps ?_ (by assumption) | refine pair_keeps2 ?_ (by assumption)
      | refine opt_keeps ?_ (by assumption)
    | dsimp only
    | fail_if_no_progress with_reducible apply mk_keeps)

theorem State.landLate_keeps {b0 : State} (s : State) (p : ℕ) (hs : Keeps b0 s) :
    Keeps b0 (State.landLate s p) := by
  unfold State.landLate
  repeat' (first
    | with_reducible first
      | assumption | apply State.each_keeps | apply State.putStaged_keeps | apply State.touchPage_keeps
      | refine foldl_keeps ?_ ?_ | refine ite_keeps ?_ ?_ | refine pite_keeps ?_ ?_ | exact none_okeeps | apply some_okeeps
      | refine oite_keeps ?_ ?_ | refine getD_keeps ?_ ?_ | refine omap_keeps ?_ ?_ | apply id_keeps
    | intro _ _ _
    | intro _ _
    | split
    | with_reducible first
      | refine pair_keeps ?_ (by assumption) | refine pair_keeps2 ?_ (by assumption)
      | refine opt_keeps ?_ (by assumption)
    | dsimp only
    | fail_if_no_progress with_reducible apply mk_keeps)

theorem State.swapUe_keeps {b0 : State} (s : State) (p : ℕ) (hs : Keeps b0 s) :
    Keeps b0 (State.swapUe s p) := by
  unfold State.swapUe
  repeat' (first
    | with_reducible first
      | assumption | refine foldl_keeps ?_ ?_ | refine ite_keeps ?_ ?_ | refine pite_keeps ?_ ?_ | exact none_okeeps
      | apply some_okeeps | refine oite_keeps ?_ ?_ | refine getD_keeps ?_ ?_ | refine omap_keeps ?_ ?_ | apply id_keeps
    | intro _ _ _
    | intro _ _
    | split
    | with_reducible first
      | refine pair_keeps ?_ (by assumption) | refine pair_keeps2 ?_ (by assumption)
      | refine opt_keeps ?_ (by assumption)
    | dsimp only
    | fail_if_no_progress with_reducible apply mk_keeps)

theorem State.flipPage_keeps {b0 : State} (s : State) (p : ℕ) (hs : Keeps b0 s) :
    Keeps b0 (State.flipPage s p) := by
  unfold State.flipPage
  repeat' (first
    | with_reducible first
      | assumption | apply State.each_keeps | apply State.endRefill_keeps | apply State.landLate_keeps | apply State.set_keeps
      | apply State.setRefill_keeps | apply State.swapUe_keeps | apply State.swapWord_keeps | refine foldl_keeps ?_ ?_
      | refine ite_keeps ?_ ?_ | refine pite_keeps ?_ ?_ | exact none_okeeps | apply some_okeeps | refine oite_keeps ?_ ?_
      | refine getD_keeps ?_ ?_ | refine omap_keeps ?_ ?_ | apply id_keeps
    | intro _ _ _
    | intro _ _
    | split
    | with_reducible first
      | refine pair_keeps ?_ (by assumption) | refine pair_keeps2 ?_ (by assumption)
      | refine opt_keeps ?_ (by assumption)
    | dsimp only
    | fail_if_no_progress with_reducible apply mk_keeps)

theorem State.cleanPage_keeps {b0 : State} (s : State) (p : ℕ) (hs : Keeps b0 s) :
    Keeps b0 (State.cleanPage s p) := by
  unfold State.cleanPage
  repeat' (first
    | with_reducible first
      | assumption | apply State.landLate_keeps | apply State.set_keeps | refine foldl_keeps ?_ ?_ | refine ite_keeps ?_ ?_
      | refine pite_keeps ?_ ?_ | exact none_okeeps | apply some_okeeps | refine oite_keeps ?_ ?_ | refine getD_keeps ?_ ?_
      | refine omap_keeps ?_ ?_ | apply id_keeps
    | intro _ _ _
    | intro _ _
    | split
    | with_reducible first
      | refine pair_keeps ?_ (by assumption) | refine pair_keeps2 ?_ (by assumption)
      | refine opt_keeps ?_ (by assumption)
    | dsimp only
    | fail_if_no_progress with_reducible apply mk_keeps)

theorem State.unstage_keeps {b0 : State} (s : State) (a : ℕ) (hs : Keeps b0 s) :
    Keeps b0 (State.unstage s a) := by
  unfold State.unstage
  repeat' (first
    | with_reducible first
      | assumption | apply State.set_keeps | apply State.setStaged_keeps | refine foldl_keeps ?_ ?_ | refine ite_keeps ?_ ?_
      | refine pite_keeps ?_ ?_ | exact none_okeeps | apply some_okeeps | refine oite_keeps ?_ ?_ | refine getD_keeps ?_ ?_
      | refine omap_keeps ?_ ?_ | apply id_keeps
    | intro _ _ _
    | intro _ _
    | split
    | with_reducible first
      | refine pair_keeps ?_ (by assumption) | refine pair_keeps2 ?_ (by assumption)
      | refine opt_keeps ?_ (by assumption)
    | dsimp only
    | fail_if_no_progress with_reducible apply mk_keeps)

theorem State.swapShown_keeps {b0 : State} (s : State) (n : ℕ) (hs : Keeps b0 s) :
    Keeps b0 (State.swapShown s n) := by
  unfold State.swapShown
  repeat' (first
    | with_reducible first
      | assumption | apply State.setB_keeps | apply State.showMode_keeps | refine foldl_keeps ?_ ?_ | refine ite_keeps ?_ ?_
      | refine pite_keeps ?_ ?_ | exact none_okeeps | apply some_okeeps | refine oite_keeps ?_ ?_ | refine getD_keeps ?_ ?_
      | refine omap_keeps ?_ ?_ | apply id_keeps
    | intro _ _ _
    | intro _ _
    | split
    | with_reducible first
      | refine pair_keeps ?_ (by assumption) | refine pair_keeps2 ?_ (by assumption)
      | refine opt_keeps ?_ (by assumption)
    | dsimp only
    | fail_if_no_progress with_reducible apply mk_keeps)

theorem State.bankBoundary_keeps {b0 : State} (s : State) (n : ℕ) (hs : Keeps b0 s) :
    Keeps b0 (State.bankBoundary s n) := by
  unfold State.bankBoundary
  repeat' (first
    | with_reducible first
      | assumption | apply State.setB_keeps | apply State.swapShown_keeps | refine foldl_keeps ?_ ?_ | refine ite_keeps ?_ ?_
      | refine pite_keeps ?_ ?_ | exact none_okeeps | apply some_okeeps | refine oite_keeps ?_ ?_ | refine getD_keeps ?_ ?_
      | refine omap_keeps ?_ ?_ | apply id_keeps
    | intro _ _ _
    | intro _ _
    | split
    | with_reducible first
      | refine pair_keeps ?_ (by assumption) | refine pair_keeps2 ?_ (by assumption)
      | refine opt_keeps ?_ (by assumption)
    | dsimp only
    | fail_if_no_progress with_reducible apply mk_keeps)

theorem State.unstaged_keeps {b0 : State} (s : State) (a : ℕ) (hs : Keeps b0 s) :
    Keeps b0 (State.unstaged s a) := by
  unfold State.unstaged
  repeat' (first
    | with_reducible first
      | assumption | apply State.swapShown_keeps | refine foldl_keeps ?_ ?_ | refine ite_keeps ?_ ?_ | refine pite_keeps ?_ ?_
      | exact none_okeeps | apply some_okeeps | refine oite_keeps ?_ ?_ | refine getD_keeps ?_ ?_ | refine omap_keeps ?_ ?_
      | apply id_keeps
    | intro _ _ _
    | intro _ _
    | split
    | with_reducible first
      | refine pair_keeps ?_ (by assumption) | refine pair_keeps2 ?_ (by assumption)
      | refine opt_keeps ?_ (by assumption)
    | dsimp only
    | fail_if_no_progress with_reducible apply mk_keeps)

theorem State.discard_keeps {b0 : State} (s : State) (g : ℕ) (hs : Keeps b0 s) :
    Keeps b0 (State.discard s g) := by
  unfold State.discard
  repeat' (first
    | with_reducible first
      | assumption | apply State.cleanPage_keeps | apply State.each_keeps | apply State.set_keeps | apply State.setStaged_keeps
      | apply State.unstaged_keeps | refine foldl_keeps ?_ ?_ | refine ite_keeps ?_ ?_ | refine pite_keeps ?_ ?_
      | exact none_okeeps | apply some_okeeps | refine oite_keeps ?_ ?_ | refine getD_keeps ?_ ?_ | refine omap_keeps ?_ ?_
      | apply id_keeps
    | intro _ _ _
    | intro _ _
    | split
    | with_reducible first
      | refine pair_keeps ?_ (by assumption) | refine pair_keeps2 ?_ (by assumption)
      | refine opt_keeps ?_ (by assumption)
    | dsimp only
    | fail_if_no_progress with_reducible apply mk_keeps)

theorem State.disarm_keeps {b0 : State} (s : State) (g : ℕ) (hs : Keeps b0 s) :
    Keeps b0 (State.disarm s g) := by
  unfold State.disarm
  repeat' (first
    | with_reducible first
      | assumption | apply State.setArmed_keeps | apply State.unhold_keeps | refine foldl_keeps ?_ ?_ | refine ite_keeps ?_ ?_
      | refine pite_keeps ?_ ?_ | exact none_okeeps | apply some_okeeps | refine oite_keeps ?_ ?_ | refine getD_keeps ?_ ?_
      | refine omap_keeps ?_ ?_ | apply id_keeps
    | intro _ _ _
    | intro _ _
    | split
    | with_reducible first
      | refine pair_keeps ?_ (by assumption) | refine pair_keeps2 ?_ (by assumption)
      | refine opt_keeps ?_ (by assumption)
    | dsimp only
    | fail_if_no_progress with_reducible apply mk_keeps)

theorem State.rgShow_keeps {b0 : State} (s : State) (c : ℕ) (hs : Keeps b0 s) :
    Keeps b0 (State.rgShow s c) := by
  unfold State.rgShow
  repeat' (first
    | with_reducible first
      | assumption | apply State.setB_keeps | refine foldl_keeps ?_ ?_ | refine ite_keeps ?_ ?_ | refine pite_keeps ?_ ?_
      | exact none_okeeps | apply some_okeeps | refine oite_keeps ?_ ?_ | refine getD_keeps ?_ ?_ | refine omap_keeps ?_ ?_
      | apply id_keeps
    | intro _ _ _
    | intro _ _
    | split
    | with_reducible first
      | refine pair_keeps ?_ (by assumption) | refine pair_keeps2 ?_ (by assumption)
      | refine opt_keeps ?_ (by assumption)
    | dsimp only
    | fail_if_no_progress with_reducible apply mk_keeps)

theorem State.regrowLost_keeps {b0 : State} (s : State) (g : ℕ) (hs : Keeps b0 s) :
    Keeps b0 (State.regrowLost s g) := by
  unfold State.regrowLost
  repeat' (first
    | with_reducible first
      | assumption | apply State.rgShow_keeps | apply State.set_keeps | apply State.setRgClu_keeps | refine foldl_keeps ?_ ?_
      | refine ite_keeps ?_ ?_ | refine pite_keeps ?_ ?_ | exact none_okeeps | apply some_okeeps | refine oite_keeps ?_ ?_
      | refine getD_keeps ?_ ?_ | refine omap_keeps ?_ ?_ | apply id_keeps
    | intro _ _ _
    | intro _ _
    | split
    | with_reducible first
      | refine pair_keeps ?_ (by assumption) | refine pair_keeps2 ?_ (by assumption)
      | refine opt_keeps ?_ (by assumption)
    | dsimp only
    | fail_if_no_progress with_reducible apply mk_keeps)

theorem State.refuseCommit_keeps {b0 : State} (s : State) (g : ℕ) (cause : Option Fld) (hs : Keeps b0 s) :
    Keeps b0
    (State.refuseCommit s g cause) := by
  unfold State.refuseCommit
  repeat' (first
    | with_reducible first
      | assumption | apply State.disarm_keeps | apply State.discard_keeps | apply State.fire_keeps
      | apply State.regrowLost_keeps | apply State.set_keeps | refine foldl_keeps ?_ ?_ | refine ite_keeps ?_ ?_
      | refine pite_keeps ?_ ?_ | exact none_okeeps | apply some_okeeps | refine oite_keeps ?_ ?_ | refine getD_keeps ?_ ?_
      | refine omap_keeps ?_ ?_ | apply id_keeps
    | intro _ _ _
    | intro _ _
    | split
    | with_reducible first
      | refine pair_keeps ?_ (by assumption) | refine pair_keeps2 ?_ (by assumption)
      | refine opt_keeps ?_ (by assumption)
    | dsimp only
    | fail_if_no_progress with_reducible apply mk_keeps)

theorem State.applyPlain_keeps {b0 : State} (s : State) (x : ℕ × Word) (hs : Keeps b0 s) :
    Keeps b0 (State.applyPlain s x) := by
  unfold State.applyPlain
  repeat' (first
    | with_reducible first
      | assumption | apply State.setReg_keeps | refine foldl_keeps ?_ ?_ | refine ite_keeps ?_ ?_ | refine pite_keeps ?_ ?_
      | exact none_okeeps | apply some_okeeps | refine oite_keeps ?_ ?_ | refine getD_keeps ?_ ?_ | refine omap_keeps ?_ ?_
      | apply id_keeps
    | intro _ _ _
    | intro _ _
    | split
    | with_reducible first
      | refine pair_keeps ?_ (by assumption) | refine pair_keeps2 ?_ (by assumption)
      | refine opt_keeps ?_ (by assumption)
    | dsimp only
    | fail_if_no_progress with_reducible apply mk_keeps)

theorem State.applyLoad_keeps {b0 : State} (s : State) (old : State) (tc : ℕ) (x : ℕ × Word) (hs : Keeps b0 s) :
    Keeps b0 (State.applyLoad s old tc x) := by
  unfold State.applyLoad
  repeat' (first
    | with_reducible first
      | assumption | apply State.governs_keeps | apply State.setReg_keeps | refine foldl_keeps ?_ ?_ | refine ite_keeps ?_ ?_
      | refine pite_keeps ?_ ?_ | exact none_okeeps | apply some_okeeps | refine oite_keeps ?_ ?_ | refine getD_keeps ?_ ?_
      | refine omap_keeps ?_ ?_ | apply id_keeps
    | intro _ _ _
    | intro _ _
    | split
    | with_reducible first
      | refine pair_keeps ?_ (by assumption) | refine pair_keeps2 ?_ (by assumption)
      | refine opt_keeps ?_ (by assumption)
    | dsimp only
    | fail_if_no_progress with_reducible apply mk_keeps)

theorem State.frRestart_keeps {b0 : State} (s : State) (p : ℕ) (tc : ℕ) (hs : Keeps b0 s) :
    Keeps b0 (State.frRestart s p tc) := by
  unfold State.frRestart
  repeat' (first
    | with_reducible first
      | assumption | apply State.setFrPort_keeps | refine foldl_keeps ?_ ?_ | refine ite_keeps ?_ ?_ | refine pite_keeps ?_ ?_
      | exact none_okeeps | apply some_okeeps | refine oite_keeps ?_ ?_ | refine getD_keeps ?_ ?_ | refine omap_keeps ?_ ?_
      | apply id_keeps
    | intro _ _ _
    | intro _ _
    | split
    | with_reducible first
      | refine pair_keeps ?_ (by assumption) | refine pair_keeps2 ?_ (by assumption)
      | refine opt_keeps ?_ (by assumption)
    | dsimp only
    | fail_if_no_progress with_reducible apply mk_keeps)

theorem State.afterCommit_keeps {b0 : State} (s : State) (tc : ℕ) (a : ℕ) (old : Word) (hs : Keeps b0 s) :
    Keeps b0
    (State.afterCommit s tc a old) := by
  unfold State.afterCommit
  repeat' (first
    | with_reducible first
      | assumption | apply State.actsCommitted_keeps | apply State.applyThr_keeps | apply State.bankBoundary_keeps
      | apply State.closeWin_keeps | apply State.ctrlCommitted_keeps | apply State.frRestart_keeps | apply State.markFrom_keeps
      | apply State.memberChanged_keeps | apply State.outCommitted_keeps | apply State.reselect_keeps
      | apply State.swapShown_keeps | apply State.tripinCommitted_keeps | apply State.wmReselect_keeps
      | apply State.zoneCommitted_keeps | apply State.zoneHit_keeps | refine foldl_keeps ?_ ?_ | refine ite_keeps ?_ ?_
      | refine pite_keeps ?_ ?_ | exact none_okeeps | apply some_okeeps | refine oite_keeps ?_ ?_ | refine getD_keeps ?_ ?_
      | refine omap_keeps ?_ ?_ | apply id_keeps
    | intro _ _ _
    | intro _ _
    | split
    | with_reducible first
      | refine pair_keeps ?_ (by assumption) | refine pair_keeps2 ?_ (by assumption)
      | refine opt_keeps ?_ (by assumption)
    | dsimp only
    | fail_if_no_progress with_reducible apply mk_keeps)

theorem State.loadPointsChanged_keeps {b0 : State} (s : State) (t : State) (tc : ℕ) (ws : List (ℕ × Word)) (per : Bool) (hs : Keeps b0 s)
    (ht : Keeps b0 t) :
    Keeps b0 (State.loadPointsChanged s t tc ws per) := by
  unfold State.loadPointsChanged
  repeat' (first
    | with_reducible first
      | assumption | apply State.loadCommitted_keeps | refine foldl_keeps ?_ ?_ | refine ite_keeps ?_ ?_
      | refine pite_keeps ?_ ?_ | exact none_okeeps | apply some_okeeps | refine oite_keeps ?_ ?_ | refine getD_keeps ?_ ?_
      | refine omap_keeps ?_ ?_ | apply id_keeps
    | intro _ _ _
    | intro _ _
    | split
    | with_reducible first
      | refine pair_keeps ?_ (by assumption) | refine pair_keeps2 ?_ (by assumption)
      | refine opt_keeps ?_ (by assumption)
    | dsimp only
    | fail_if_no_progress with_reducible apply mk_keeps)

theorem State.applyWords_keeps {b0 : State} (s : State) (tc : ℕ) (ws : List (ℕ × Word)) (hs : Keeps b0 s) :
    Keeps b0
    (State.applyWords s tc ws) := by
  unfold State.applyWords
  repeat' (first
    | with_reducible first
      | assumption | apply State.afterCommit_keeps | apply State.applyLoad_keeps | apply State.applyPlain_keeps
      | apply State.groupChanged_keeps | apply State.loadPointsChanged_keeps | refine foldl_keeps ?_ ?_ | refine ite_keeps ?_ ?_
      | refine pite_keeps ?_ ?_ | exact none_okeeps | apply some_okeeps | refine oite_keeps ?_ ?_ | refine getD_keeps ?_ ?_
      | refine omap_keeps ?_ ?_ | apply id_keeps
    | intro _ _ _
    | intro _ _
    | split
    | with_reducible first
      | refine pair_keeps ?_ (by assumption) | refine pair_keeps2 ?_ (by assumption)
      | refine opt_keeps ?_ (by assumption)
    | dsimp only
    | fail_if_no_progress with_reducible apply mk_keeps)

theorem State.commit_keeps {b0 : State} (s : State) (g : ℕ) (tc : ℕ) (ws : List (ℕ × Word)) (ps : List ℕ) (hs : Keeps b0 s)
    :
    Keeps b0 (State.commit s g tc ws ps) := by
  unfold State.commit
  repeat' (first
    | with_reducible first
      | assumption | apply State.applyWords_keeps | apply State.cleanPage_keeps | apply State.disarm_keeps
      | apply State.each_keeps | apply State.fireAt_keeps | apply State.flagIf_keeps | apply State.flipPage_keeps
      | apply State.put64_keeps | apply State.set_keeps | apply State.setStaged_keeps | apply State.unstaged_keeps
      | refine foldl_keeps ?_ ?_ | refine ite_keeps ?_ ?_ | refine pite_keeps ?_ ?_ | exact none_okeeps | apply some_okeeps
      | refine oite_keeps ?_ ?_ | refine getD_keeps ?_ ?_ | refine omap_keeps ?_ ?_ | apply id_keeps
    | intro _ _ _
    | intro _ _
    | split
    | with_reducible first
      | refine pair_keeps ?_ (by assumption) | refine pair_keeps2 ?_ (by assumption)
      | refine opt_keeps ?_ (by assumption)
    | dsimp only
    | fail_if_no_progress with_reducible apply mk_keeps)

theorem State.commitDue_keeps {b0 : State} (s : State) (g : ℕ) (hs : Keeps b0 s) :
    Keeps b0 (State.commitDue s g).1 := by
  unfold State.commitDue
  repeat' (first
    | with_reducible first
      | assumption | apply State.commit_keeps | apply State.fireAt_keeps | apply State.flagIf_keeps
      | apply State.refuseCommit_keeps | refine foldl_keeps ?_ ?_ | refine ite_keeps ?_ ?_ | refine pite_keeps ?_ ?_
      | exact none_okeeps | apply some_okeeps | refine oite_keeps ?_ ?_ | refine getD_keeps ?_ ?_ | refine omap_keeps ?_ ?_
      | apply id_keeps
    | intro _ _ _
    | intro _ _
    | split
    | with_reducible first
      | refine pair_keeps ?_ (by assumption) | refine pair_keeps2 ?_ (by assumption)
      | refine opt_keeps ?_ (by assumption)
    | dsimp only
    | fail_if_no_progress with_reducible apply mk_keeps)

theorem State.judge_keeps {b0 : State} (s : State) (g : ℕ) (hs : Keeps b0 s) :
    Keeps b0 (State.judge s g) := by
  unfold State.judge
  repeat' (first
    | with_reducible first
      | assumption | apply State.refuseCommit_keeps | apply State.setArmed_keeps | refine foldl_keeps ?_ ?_
      | refine ite_keeps ?_ ?_ | refine pite_keeps ?_ ?_ | exact none_okeeps | apply some_okeeps | refine oite_keeps ?_ ?_
      | refine getD_keeps ?_ ?_ | refine omap_keeps ?_ ?_ | apply id_keeps
    | intro _ _ _
    | intro _ _
    | split
    | with_reducible first
      | refine pair_keeps ?_ (by assumption) | refine pair_keeps2 ?_ (by assumption)
      | refine opt_keeps ?_ (by assumption)
    | dsimp only
    | fail_if_no_progress with_reducible apply mk_keeps)

theorem State.closeStaging_keeps {b0 : State} (s : State) (g : ℕ) (hs : Keeps b0 s) :
    Keeps b0 (State.closeStaging s g) := by
  unfold State.closeStaging
  repeat' (first
    | with_reducible first
      | assumption | apply State.each_keeps | apply State.setStaged_keeps | refine foldl_keeps ?_ ?_ | refine ite_keeps ?_ ?_
      | refine pite_keeps ?_ ?_ | exact none_okeeps | apply some_okeeps | refine oite_keeps ?_ ?_ | refine getD_keeps ?_ ?_
      | refine omap_keeps ?_ ?_ | apply id_keeps
    | intro _ _ _
    | intro _ _
    | split
    | with_reducible first
      | refine pair_keeps ?_ (by assumption) | refine pair_keeps2 ?_ (by assumption)
      | refine opt_keeps ?_ (by assumption)
    | dsimp only
    | fail_if_no_progress with_reducible apply mk_keeps)

theorem State.sendCmt_keeps {b0 : State} (s : State) (g : ℕ) (m : CcMsg) (hs : Keeps b0 s) :
    Keeps b0 (State.sendCmt s g m) := by
  unfold State.sendCmt
  repeat' (first
    | with_reducible first
      | assumption | apply State.send_keeps | refine foldl_keeps ?_ ?_ | refine ite_keeps ?_ ?_ | refine pite_keeps ?_ ?_
      | exact none_okeeps | apply some_okeeps | refine oite_keeps ?_ ?_ | refine getD_keeps ?_ ?_ | refine omap_keeps ?_ ?_
      | apply id_keeps
    | intro _ _ _
    | intro _ _
    | split
    | with_reducible first
      | refine pair_keeps ?_ (by assumption) | refine pair_keeps2 ?_ (by assumption)
      | refine opt_keeps ?_ (by assumption)
    | dsimp only
    | fail_if_no_progress with_reducible apply mk_keeps)

theorem State.armShared_keeps {b0 : State} (s : State) (g : ℕ) (ta : ℕ) (hs : Keeps b0 s) :
    Keeps b0 (State.armShared s g ta) := by
  unfold State.armShared
  repeat' (first
    | with_reducible first
      | assumption | apply State.closeStaging_keeps | apply State.judge_keeps | apply State.refuseCommit_keeps
      | apply State.sendCmt_keeps | apply State.set_keeps | apply State.setArmed_keeps | refine foldl_keeps ?_ ?_
      | refine ite_keeps ?_ ?_ | refine pite_keeps ?_ ?_ | exact none_okeeps | apply some_okeeps | refine oite_keeps ?_ ?_
      | refine getD_keeps ?_ ?_ | refine omap_keeps ?_ ?_ | apply id_keeps
    | intro _ _ _
    | intro _ _
    | split
    | with_reducible first
      | refine pair_keeps ?_ (by assumption) | refine pair_keeps2 ?_ (by assumption)
      | refine opt_keeps ?_ (by assumption)
    | dsimp only
    | fail_if_no_progress with_reducible apply mk_keeps)

theorem State.armLocal_keeps {b0 : State} (s : State) (g : ℕ) (ta : ℕ) (hs : Keeps b0 s) :
    Keeps b0 (State.armLocal s g ta) := by
  unfold State.armLocal
  repeat' (first
    | with_reducible first
      | assumption | apply State.set_keeps | apply State.setArmed_keeps | refine foldl_keeps ?_ ?_ | refine ite_keeps ?_ ?_
      | refine pite_keeps ?_ ?_ | exact none_okeeps | apply some_okeeps | refine oite_keeps ?_ ?_ | refine getD_keeps ?_ ?_
      | refine omap_keeps ?_ ?_ | apply id_keeps
    | intro _ _ _
    | intro _ _
    | split
    | with_reducible first
      | refine pair_keeps ?_ (by assumption) | refine pair_keeps2 ?_ (by assumption)
      | refine opt_keeps ?_ (by assumption)
    | dsimp only
    | fail_if_no_progress with_reducible apply mk_keeps)

theorem State.arm_keeps {b0 : State} (s : State) (g : ℕ) (hs : Keeps b0 s) :
    Keeps b0 (State.arm s g) := by
  unfold State.arm
  repeat' (first
    | with_reducible first
      | assumption | apply State.armLocal_keeps | apply State.armShared_keeps | apply State.set_keeps | refine foldl_keeps ?_ ?_
      | refine ite_keeps ?_ ?_ | refine pite_keeps ?_ ?_ | exact none_okeeps | apply some_okeeps | refine oite_keeps ?_ ?_
      | refine getD_keeps ?_ ?_ | refine omap_keeps ?_ ?_ | apply id_keeps
    | intro _ _ _
    | intro _ _
    | split
    | with_reducible first
      | refine pair_keeps ?_ (by assumption) | refine pair_keeps2 ?_ (by assumption)
      | refine opt_keeps ?_ (by assumption)
    | dsimp only
    | fail_if_no_progress with_reducible apply mk_keeps)

theorem State.cancel_keeps {b0 : State} (s : State) (g : ℕ) (hs : Keeps b0 s) :
    Keeps b0 (State.cancel s g) := by
  unfold State.cancel
  repeat' (first
    | with_reducible first
      | assumption | apply State.disarm_keeps | apply State.discard_keeps | apply State.regrowLost_keeps | apply State.set_keeps
      | refine foldl_keeps ?_ ?_ | refine ite_keeps ?_ ?_ | refine pite_keeps ?_ ?_ | exact none_okeeps | apply some_okeeps
      | refine oite_keeps ?_ ?_ | refine getD_keeps ?_ ?_ | refine omap_keeps ?_ ?_ | apply id_keeps
    | intro _ _ _
    | intro _ _
    | split
    | with_reducible first
      | refine pair_keeps ?_ (by assumption) | refine pair_keeps2 ?_ (by assumption)
      | refine opt_keeps ?_ (by assumption)
    | dsimp only
    | fail_if_no_progress with_reducible apply mk_keeps)

theorem State.armWrite_keeps {b0 : State} (s : State) (g : ℕ) (w : Word) (hs : Keeps b0 s) :
    Keeps b0 (State.armWrite s g w) := by
  unfold State.armWrite
  repeat' (first
    | with_reducible first
      | assumption | apply State.arm_keeps | apply State.cancel_keeps | refine foldl_keeps ?_ ?_ | refine ite_keeps ?_ ?_
      | refine pite_keeps ?_ ?_ | exact none_okeeps | apply some_okeeps | refine oite_keeps ?_ ?_ | refine getD_keeps ?_ ?_
      | refine omap_keeps ?_ ?_ | apply id_keeps
    | intro _ _ _
    | intro _ _
    | split
    | with_reducible first
      | refine pair_keeps ?_ (by assumption) | refine pair_keeps2 ?_ (by assumption)
      | refine opt_keeps ?_ (by assumption)
    | dsimp only
    | fail_if_no_progress with_reducible apply mk_keeps)

theorem wrCgArm_keeps {b0 : State} (q : Req) (g : ℕ) (w : Word) (s : State) (hs : Keeps b0 s) :
    Keeps b0 (wrCgArm q g w s) := by
  unfold wrCgArm
  repeat' (first
    | with_reducible first
      | assumption | apply State.armWrite_keeps | apply State.write_keeps | apply settle_keeps | apply settleAt_keeps
      | refine foldl_keeps ?_ ?_ | refine ite_keeps ?_ ?_ | refine pite_keeps ?_ ?_ | exact none_okeeps | apply some_okeeps
      | refine oite_keeps ?_ ?_ | refine getD_keeps ?_ ?_ | refine omap_keeps ?_ ?_ | apply id_keeps
    | intro _ _ _
    | intro _ _
    | split
    | with_reducible first
      | refine pair_keeps ?_ (by assumption) | refine pair_keeps2 ?_ (by assumption)
      | refine opt_keeps ?_ (by assumption)
    | dsimp only
    | fail_if_no_progress with_reducible apply mk_keeps)

theorem wrCgSet_keeps {b0 : State} (q : Req) (g : ℕ) (a : ℕ) (fs : List Fld) (w : Word) (s : State) (hs : Keeps b0 s) :
    Keeps b0
    (wrCgSet q g a fs w s) := by
  unfold wrCgSet
  repeat' (first
    | with_reducible first
      | assumption | apply State.set_keeps | apply State.storeDirect_keeps | apply State.write_keeps | refine foldl_keeps ?_ ?_
      | refine ite_keeps ?_ ?_ | refine pite_keeps ?_ ?_ | exact none_okeeps | apply some_okeeps | refine oite_keeps ?_ ?_
      | refine getD_keeps ?_ ?_ | refine omap_keeps ?_ ?_ | apply id_keeps
    | intro _ _ _
    | intro _ _
    | split
    | with_reducible first
      | refine pair_keeps ?_ (by assumption) | refine pair_keeps2 ?_ (by assumption)
      | refine opt_keeps ?_ (by assumption)
    | dsimp only
    | fail_if_no_progress with_reducible apply mk_keeps)

theorem State.takeCmt_keeps {b0 : State} (s : State) (g : ℕ) (m : CcMsg) (hs : Keeps b0 s) :
    Keeps b0 (State.takeCmt s g m) := by
  unfold State.takeCmt
  repeat' (first
    | with_reducible first
      | assumption | apply State.judge_keeps | apply State.setArmed_keeps | refine foldl_keeps ?_ ?_ | refine ite_keeps ?_ ?_
      | refine pite_keeps ?_ ?_ | exact none_okeeps | apply some_okeeps | refine oite_keeps ?_ ?_ | refine getD_keeps ?_ ?_
      | refine omap_keeps ?_ ?_ | apply id_keeps
    | intro _ _ _
    | intro _ _
    | split
    | with_reducible first
      | refine pair_keeps ?_ (by assumption) | refine pair_keeps2 ?_ (by assumption)
      | refine opt_keeps ?_ (by assumption)
    | dsimp only
    | fail_if_no_progress with_reducible apply mk_keeps)

theorem wrCcRsel_keeps {b0 : State} (q : Req) (r : ℕ) (w : Word) (s : State) (hs : Keeps b0 s) :
    Keeps b0 (wrCcRsel q r w s) := by
  unfold wrCcRsel
  repeat' (first
    | with_reducible first
      | assumption | apply State.storeDirect_keeps | apply State.write_keeps | refine foldl_keeps ?_ ?_ | refine ite_keeps ?_ ?_
      | refine pite_keeps ?_ ?_ | exact none_okeeps | apply some_okeeps | refine oite_keeps ?_ ?_ | refine getD_keeps ?_ ?_
      | refine omap_keeps ?_ ?_ | apply id_keeps
    | intro _ _ _
    | intro _ _
    | split
    | with_reducible first
      | refine pair_keeps ?_ (by assumption) | refine pair_keeps2 ?_ (by assumption)
      | refine opt_keeps ?_ (by assumption)
    | dsimp only
    | fail_if_no_progress with_reducible apply mk_keeps)

theorem State.snapshotAt_keeps {b0 : State} (s : State) (u : ℕ) (ts : ℕ) (hs : Keeps b0 s) :
    Keeps b0 (State.snapshotAt s u ts) := by
  unfold State.snapshotAt
  repeat' (first
    | with_reducible first
      | assumption | apply State.flagIf_keeps | apply State.set_keeps | refine foldl_keeps ?_ ?_ | refine ite_keeps ?_ ?_
      | refine pite_keeps ?_ ?_ | exact none_okeeps | apply some_okeeps | refine oite_keeps ?_ ?_ | refine getD_keeps ?_ ?_
      | refine omap_keeps ?_ ?_ | apply id_keeps
    | intro _ _ _
    | intro _ _
    | split
    | with_reducible first
      | refine pair_keeps ?_ (by assumption) | refine pair_keeps2 ?_ (by assumption)
      | refine opt_keeps ?_ (by assumption)
    | dsimp only
    | fail_if_no_progress with_reducible apply mk_keeps)

theorem State.ackStore_keeps {b0 : State} (s : State) (x : Xfer) (hs : Keeps b0 s) :
    Keeps b0 (State.ackStore s x) := by
  unfold State.ackStore
  repeat' (first
    | with_reducible first
      | assumption | apply State.setEng_keeps | refine foldl_keeps ?_ ?_ | refine ite_keeps ?_ ?_ | refine pite_keeps ?_ ?_
      | exact none_okeeps | apply some_okeeps | refine oite_keeps ?_ ?_ | refine getD_keeps ?_ ?_ | refine omap_keeps ?_ ?_
      | apply id_keeps
    | intro _ _ _
    | intro _ _
    | split
    | with_reducible first
      | refine pair_keeps ?_ (by assumption) | refine pair_keeps2 ?_ (by assumption)
      | refine opt_keeps ?_ (by assumption)
    | dsimp only
    | fail_if_no_progress with_reducible apply mk_keeps)

theorem State.nakStore_keeps {b0 : State} (s : State) (x : Xfer) (cause : ℕ) (hs : Keeps b0 s) :
    Keeps b0 (State.nakStore s x cause)
    := by
  unfold State.nakStore
  repeat' (first
    | with_reducible first
      | assumption | apply State.setEng_keeps | refine foldl_keeps ?_ ?_ | refine ite_keeps ?_ ?_ | refine pite_keeps ?_ ?_
      | exact none_okeeps | apply some_okeeps | refine oite_keeps ?_ ?_ | refine getD_keeps ?_ ?_ | refine omap_keeps ?_ ?_
      | apply id_keeps
    | intro _ _ _
    | intro _ _
    | split
    | with_reducible first
      | refine pair_keeps ?_ (by assumption) | refine pair_keeps2 ?_ (by assumption)
      | refine opt_keeps ?_ (by assumption)
    | dsimp only
    | fail_if_no_progress with_reducible apply mk_keeps)

theorem State.dmaAck_keeps {b0 : State} (s : State) (c : ℕ) (a : ℕ) (wait : Bool) (err : Bool) (hs : Keeps b0 s) :
    Keeps b0
    (State.dmaAck s c a wait err) := by
  unfold State.dmaAck
  repeat' (first
    | with_reducible first
      | assumption | apply State.setDma_keeps | refine foldl_keeps ?_ ?_ | refine ite_keeps ?_ ?_ | refine pite_keeps ?_ ?_
      | exact none_okeeps | apply some_okeeps | refine oite_keeps ?_ ?_ | refine getD_keeps ?_ ?_ | refine omap_keeps ?_ ?_
      | apply id_keeps
    | intro _ _ _
    | intro _ _
    | split
    | with_reducible first
      | refine pair_keeps ?_ (by assumption) | refine pair_keeps2 ?_ (by assumption)
      | refine opt_keeps ?_ (by assumption)
    | dsimp only
    | fail_if_no_progress with_reducible apply mk_keeps)

theorem State.endOp_keeps {b0 : State} (s : State) (e : ℕ) (r : Reply) (hs : Keeps b0 s) :
    Keeps b0 (State.endOp s e r) := by
  unfold State.endOp
  repeat' (first
    | with_reducible first
      | assumption | apply State.setEng_keeps | refine foldl_keeps ?_ ?_ | refine ite_keeps ?_ ?_ | refine pite_keeps ?_ ?_
      | exact none_okeeps | apply some_okeeps | refine oite_keeps ?_ ?_ | refine getD_keeps ?_ ?_ | refine omap_keeps ?_ ?_
      | apply id_keeps
    | intro _ _ _
    | intro _ _
    | split
    | with_reducible first
      | refine pair_keeps ?_ (by assumption) | refine pair_keeps2 ?_ (by assumption)
      | refine opt_keeps ?_ (by assumption)
    | dsimp only
    | fail_if_no_progress with_reducible apply mk_keeps)

theorem State.endDmaRead_keeps {b0 : State} (s : State) (c : ℕ) (i : ℕ) (r : DmaAns) (hs : Keeps b0 s) :
    Keeps b0
    (State.endDmaRead s c i r) := by
  unfold State.endDmaRead
  repeat' (first
    | with_reducible first
      | assumption | apply State.setDma_keeps | refine foldl_keeps ?_ ?_ | refine ite_keeps ?_ ?_ | refine pite_keeps ?_ ?_
      | exact none_okeeps | apply some_okeeps | refine oite_keeps ?_ ?_ | refine getD_keeps ?_ ?_ | refine omap_keeps ?_ ?_
      | apply id_keeps
    | intro _ _ _
    | intro _ _
    | split
    | with_reducible first
      | refine pair_keeps ?_ (by assumption) | refine pair_keeps2 ?_ (by assumption)
      | refine opt_keeps ?_ (by assumption)
    | dsimp only
    | fail_if_no_progress with_reducible apply mk_keeps)

theorem State.endXfer_keeps {b0 : State} (s : State) (x : Xfer) (r : Acc.Res) (cause : ℕ) (hs : Keeps b0 s) :
    Keeps b0
    (State.endXfer s x r cause) := by
  unfold State.endXfer
  repeat' (first
    | with_reducible first
      | assumption | apply State.ackStore_keeps | apply State.answer_keeps | apply State.dmaAck_keeps
      | apply State.endDmaRead_keeps | apply State.endOp_keeps | apply State.nakStore_keeps | apply State.respond_keeps
      | refine foldl_keeps ?_ ?_ | refine ite_keeps ?_ ?_ | refine pite_keeps ?_ ?_ | exact none_okeeps | apply some_okeeps
      | refine oite_keeps ?_ ?_ | refine getD_keeps ?_ ?_ | refine omap_keeps ?_ ?_ | apply id_keeps
    | intro _ _ _
    | intro _ _
    | split
    | with_reducible first
      | refine pair_keeps ?_ (by assumption) | refine pair_keeps2 ?_ (by assumption)
      | refine opt_keeps ?_ (by assumption)
    | dsimp only
    | fail_if_no_progress with_reducible apply mk_keeps)

theorem State.dropRemote_keeps {b0 : State} (s : State) (r : ℕ) (hs : Keeps b0 s) :
    Keeps b0 (State.dropRemote s r) := by
  unfold State.dropRemote
  repeat' (first
    | with_reducible first
      | assumption | refine foldl_keeps ?_ ?_ | refine ite_keeps ?_ ?_ | refine pite_keeps ?_ ?_ | exact none_okeeps
      | apply some_okeeps | refine oite_keeps ?_ ?_ | refine getD_keeps ?_ ?_ | refine omap_keeps ?_ ?_ | apply id_keeps
    | intro _ _ _
    | intro _ _
    | split
    | with_reducible first
      | refine pair_keeps ?_ (by assumption) | refine pair_keeps2 ?_ (by assumption)
      | refine opt_keeps ?_ (by assumption)
    | dsimp only
    | fail_if_no_progress with_reducible apply mk_keeps)

theorem State.lostXfer_keeps {b0 : State} (s : State) (x : Xfer) (hs : Keeps b0 s) :
    Keeps b0 (State.lostXfer s x) := by
  unfold State.lostXfer
  repeat' (first
    | with_reducible first
      | assumption | apply State.endXfer_keeps | apply State.feedFlag_keeps | refine foldl_keeps ?_ ?_ | refine ite_keeps ?_ ?_
      | refine pite_keeps ?_ ?_ | exact none_okeeps | apply some_okeeps | refine oite_keeps ?_ ?_ | refine getD_keeps ?_ ?_
      | refine omap_keeps ?_ ?_ | apply id_keeps
    | intro _ _ _
    | intro _ _
    | split
    | with_reducible first
      | refine pair_keeps ?_ (by assumption) | refine pair_keeps2 ?_ (by assumption)
      | refine opt_keeps ?_ (by assumption)
    | dsimp only
    | fail_if_no_progress with_reducible apply mk_keeps)

theorem State.endRemote_keeps {b0 : State} (s : State) (o : SwlOut) (err : Bool) (w : Word) (hs : Keeps b0 s) :
    Keeps b0
    (State.endRemote s o err w) := by
  unfold State.endRemote
  repeat' (first
    | with_reducible first
      | assumption | apply State.endXfer_keeps | refine foldl_keeps ?_ ?_ | refine ite_keeps ?_ ?_ | refine pite_keeps ?_ ?_
      | exact none_okeeps | apply some_okeeps | refine oite_keeps ?_ ?_ | refine getD_keeps ?_ ?_ | refine omap_keeps ?_ ?_
      | apply id_keeps
    | intro _ _ _
    | intro _ _
    | split
    | with_reducible first
      | refine pair_keeps ?_ (by assumption) | refine pair_keeps2 ?_ (by assumption)
      | refine opt_keeps ?_ (by assumption)
    | dsimp only
    | fail_if_no_progress with_reducible apply mk_keeps)

theorem State.request_keeps {b0 : State} (s : State) (who : SwlWho) (type a size ring : Nat) (data : List Byte) (hs : Keeps b0 s) :
    OKeeps b0 (s.request who type a size ring data) := by
  unfold State.request
  extract_lets tag p
  split
  · exact some_okeeps (State.await_keeps _ _ (pair_keeps (State.send_keeps _ _ hs) (by assumption)))
  · exact none_okeeps

theorem State.sendAccess_keeps {b0 : State} (s : State) (x : Xfer) (hs : Keeps b0 s) :
    Keeps b0 (State.sendAccess s x) := by
  unfold State.sendAccess
  repeat' (first
    | with_reducible first
      | assumption | apply State.endXfer_keeps | apply State.request_keeps | refine foldl_keeps ?_ ?_ | refine ite_keeps ?_ ?_
      | refine pite_keeps ?_ ?_ | exact none_okeeps | apply some_okeeps | refine oite_keeps ?_ ?_ | refine getD_keeps ?_ ?_
      | refine omap_keeps ?_ ?_ | apply id_keeps
    | intro _ _ _
    | intro _ _
    | split
    | with_reducible first
      | refine pair_keeps ?_ (by assumption) | refine pair_keeps2 ?_ (by assumption)
      | refine opt_keeps ?_ (by assumption)
    | dsimp only
    | fail_if_no_progress with_reducible apply mk_keeps)

theorem State.qMeet_keeps {b0 : State} (s : State) (q : ℕ) (rec : Bool) (hs : Keeps b0 s) :
    Keeps b0 (State.qMeet s q rec) := by
  unfold State.qMeet
  repeat' (first
    | with_reducible first
      | assumption | apply State.meetAll_keeps | refine foldl_keeps ?_ ?_ | refine ite_keeps ?_ ?_ | refine pite_keeps ?_ ?_
      | exact none_okeeps | apply some_okeeps | refine oite_keeps ?_ ?_ | refine getD_keeps ?_ ?_ | refine omap_keeps ?_ ?_
      | apply id_keeps
    | intro _ _ _
    | intro _ _
    | split
    | with_reducible first
      | refine pair_keeps ?_ (by assumption) | refine pair_keeps2 ?_ (by assumption)
      | refine opt_keeps ?_ (by assumption)
    | dsimp only
    | fail_if_no_progress with_reducible apply mk_keeps)

theorem State.rejudge_keeps {b0 : State} (s : State) (q : ℕ) (was : Bool) (line : ℕ) (hs : Keeps b0 s) :
    Keeps b0
    (State.rejudge s q was line) := by
  unfold State.rejudge
  repeat' (first
    | with_reducible first
      | assumption | apply State.fire_keeps | apply State.set_keeps | refine foldl_keeps ?_ ?_ | refine ite_keeps ?_ ?_
      | refine pite_keeps ?_ ?_ | exact none_okeeps | apply some_okeeps | refine oite_keeps ?_ ?_ | refine getD_keeps ?_ ?_
      | refine omap_keeps ?_ ?_ | apply id_keeps
    | intro _ _ _
    | intro _ _
    | split
    | with_reducible first
      | refine pair_keeps ?_ (by assumption) | refine pair_keeps2 ?_ (by assumption)
      | refine opt_keeps ?_ (by assumption)
    | dsimp only
    | fail_if_no_progress with_reducible apply mk_keeps)

theorem State.qPush_keeps {b0 : State} (s : State) (q : ℕ) (ws : List Word) (hs : Keeps b0 s) :
    Keeps b0 (State.qPush s q ws) := by
  unfold State.qPush
  repeat' (first
    | with_reducible first
      | assumption | apply State.memWords_keeps | apply State.rejudge_keeps | apply State.set_keeps | refine foldl_keeps ?_ ?_
      | refine ite_keeps ?_ ?_ | refine pite_keeps ?_ ?_ | exact none_okeeps | apply some_okeeps | refine oite_keeps ?_ ?_
      | refine getD_keeps ?_ ?_ | refine omap_keeps ?_ ?_ | apply id_keeps
    | intro _ _ _
    | intro _ _
    | split
    | with_reducible first
      | refine pair_keeps ?_ (by assumption) | refine pair_keeps2 ?_ (by assumption)
      | refine opt_keeps ?_ (by assumption)
    | dsimp only
    | fail_if_no_progress with_reducible apply mk_keeps)

theorem State.qDrop_keeps {b0 : State} (s : State) (q : ℕ) (hs : Keeps b0 s) :
    Keeps b0 (State.qDrop s q) := by
  unfold State.qDrop
  repeat' (first
    | with_reducible first
      | assumption | apply State.rejudge_keeps | apply State.set_keeps | refine foldl_keeps ?_ ?_ | refine ite_keeps ?_ ?_
      | refine pite_keeps ?_ ?_ | exact none_okeeps | apply some_okeeps | refine oite_keeps ?_ ?_ | refine getD_keeps ?_ ?_
      | refine omap_keeps ?_ ?_ | apply id_keeps
    | intro _ _ _
    | intro _ _
    | split
    | with_reducible first
      | refine pair_keeps ?_ (by assumption) | refine pair_keeps2 ?_ (by assumption)
      | refine opt_keeps ?_ (by assumption)
    | dsimp only
    | fail_if_no_progress with_reducible apply mk_keeps)

theorem State.countDrop_keeps {b0 : State} (s : State) (q : ℕ) (hs : Keeps b0 s) :
    Keeps b0 (State.countDrop s q) := by
  unfold State.countDrop
  repeat' (first
    | with_reducible first
      | assumption | apply State.incSat_keeps | refine foldl_keeps ?_ ?_ | refine ite_keeps ?_ ?_ | refine pite_keeps ?_ ?_
      | exact none_okeeps | apply some_okeeps | refine oite_keeps ?_ ?_ | refine getD_keeps ?_ ?_ | refine omap_keeps ?_ ?_
      | apply id_keeps
    | intro _ _ _
    | intro _ _
    | split
    | with_reducible first
      | refine pair_keeps ?_ (by assumption) | refine pair_keeps2 ?_ (by assumption)
      | refine opt_keeps ?_ (by assumption)
    | dsimp only
    | fail_if_no_progress with_reducible apply mk_keeps)

theorem State.qPushFrom_keeps {b0 : State} (t : State) (q : ℕ) (ws : List Word) (s0 : State) (ht : Keeps b0 t) (hs0 : Keeps b0 s0)
    :
    Keeps b0 (State.qPushFrom t q ws s0) := by
  unfold State.qPushFrom
  repeat' (first
    | with_reducible first
      | assumption | apply State.memWords_keeps | apply State.rejudge_keeps | apply State.set_keeps | refine foldl_keeps ?_ ?_
      | refine ite_keeps ?_ ?_ | refine pite_keeps ?_ ?_ | exact none_okeeps | apply some_okeeps | refine oite_keeps ?_ ?_
      | refine getD_keeps ?_ ?_ | refine omap_keeps ?_ ?_ | apply id_keeps
    | intro _ _ _
    | intro _ _
    | split
    | with_reducible first
      | refine pair_keeps ?_ (by assumption) | refine pair_keeps2 ?_ (by assumption)
      | refine opt_keeps ?_ (by assumption)
    | dsimp only
    | fail_if_no_progress with_reducible apply mk_keeps)

theorem State.qPut_keeps {b0 : State} (s : State) (q : ℕ) (ws : List Word) (hs : Keeps b0 s) :
    Keeps b0 (State.qPut s q ws).1 := by
  unfold State.qPut
  repeat' (first
    | with_reducible first
      | assumption | apply State.countDrop_keeps | apply State.qPush_keeps | apply State.qPushFrom_keeps | apply State.set_keeps
      | refine foldl_keeps ?_ ?_ | refine ite_keeps ?_ ?_ | refine pite_keeps ?_ ?_ | exact none_okeeps | apply some_okeeps
      | refine oite_keeps ?_ ?_ | refine getD_keeps ?_ ?_ | refine omap_keeps ?_ ?_ | apply id_keeps
    | intro _ _ _
    | intro _ _
    | split
    | with_reducible first
      | refine pair_keeps ?_ (by assumption) | refine pair_keeps2 ?_ (by assumption)
      | refine opt_keeps ?_ (by assumption)
    | dsimp only
    | fail_if_no_progress with_reducible apply mk_keeps)

theorem State.dmaEnd_keeps {b0 : State} (s : State) (c : ℕ) (status : ℕ) (lost : Bool) (hs : Keeps b0 s) :
    Keeps b0
    (State.dmaEnd s c status lost) := by
  unfold State.dmaEnd
  repeat' (first
    | with_reducible first
      | assumption | apply State.fire_keeps | apply State.flagIf_keeps | apply State.incWrap_keeps | apply State.set_keeps
      | apply State.setDma_keeps | apply State.setReg_keeps | refine foldl_keeps ?_ ?_ | refine ite_keeps ?_ ?_
      | refine pite_keeps ?_ ?_ | exact none_okeeps | apply some_okeeps | refine oite_keeps ?_ ?_ | refine getD_keeps ?_ ?_
      | refine omap_keeps ?_ ?_ | apply id_keeps
    | intro _ _ _
    | intro _ _
    | split
    | with_reducible first
      | refine pair_keeps ?_ (by assumption) | refine pair_keeps2 ?_ (by assumption)
      | refine opt_keeps ?_ (by assumption)
    | dsimp only
    | fail_if_no_progress with_reducible apply mk_keeps)

theorem State.endWait_keeps {b0 : State} (s : State) (w : QWait) (fault : Bool) (hs : Keeps b0 s) :
    Keeps b0
    (State.endWait s w fault) := by
  unfold State.endWait
  repeat' (first
    | with_reducible first
      | assumption | apply State.dmaEnd_keeps | apply State.endXfer_keeps | apply State.setEng_keeps | refine foldl_keeps ?_ ?_
      | refine ite_keeps ?_ ?_ | refine pite_keeps ?_ ?_ | exact none_okeeps | apply some_okeeps | refine oite_keeps ?_ ?_
      | refine getD_keeps ?_ ?_ | refine omap_keeps ?_ ?_ | apply id_keeps
    | intro _ _ _
    | intro _ _
    | split
    | with_reducible first
      | refine pair_keeps ?_ (by assumption) | refine pair_keeps2 ?_ (by assumption)
      | refine opt_keeps ?_ (by assumption)
    | dsimp only
    | fail_if_no_progress with_reducible apply mk_keeps)

theorem State.wakePut_keeps {b0 : State} (s : State) (q : ℕ) (hs : Keeps b0 s) :
    Keeps b0 (State.wakePut s q) := by
  unfold State.wakePut
  repeat' (first
    | with_reducible first
      | assumption | apply State.endWait_keeps | apply State.qPush_keeps | refine foldl_keeps ?_ ?_ | refine ite_keeps ?_ ?_
      | refine pite_keeps ?_ ?_ | exact none_okeeps | apply some_okeeps | refine oite_keeps ?_ ?_ | refine getD_keeps ?_ ?_
      | refine omap_keeps ?_ ?_ | apply id_keeps
    | intro _ _ _
    | intro _ _
    | split
    | with_reducible first
      | refine pair_keeps ?_ (by assumption) | refine pair_keeps2 ?_ (by assumption)
      | refine opt_keeps ?_ (by assumption)
    | dsimp only
    | fail_if_no_progress with_reducible apply mk_keeps)

theorem State.qPutFor_keeps {b0 : State} (s : State) (q : ℕ) (ws : List Word) (who : Waiter) (hs : Keeps b0 s) :
    Keeps b0
    (State.qPutFor s q ws who).1 := by
  unfold State.qPutFor
  repeat' (first
    | with_reducible first
      | assumption | apply State.qPut_keeps | refine foldl_keeps ?_ ?_ | refine ite_keeps ?_ ?_ | refine pite_keeps ?_ ?_
      | exact none_okeeps | apply some_okeeps | refine oite_keeps ?_ ?_ | refine getD_keeps ?_ ?_ | refine omap_keeps ?_ ?_
      | apply id_keeps
    | intro _ _ _
    | intro _ _
    | split
    | with_reducible first
      | refine pair_keeps ?_ (by assumption) | refine pair_keeps2 ?_ (by assumption)
      | refine opt_keeps ?_ (by assumption)
    | dsimp only
    | fail_if_no_progress with_reducible apply mk_keeps)

theorem State.qGet_keeps {b0 : State} (s : State) (q : ℕ) (hs : Keeps b0 s) :
    Keeps b0 (State.qGet s q).1 := by
  unfold State.qGet
  repeat' (first
    | with_reducible first
      | assumption | apply State.qDrop_keeps | apply State.wakePut_keeps | refine foldl_keeps ?_ ?_ | refine ite_keeps ?_ ?_
      | refine pite_keeps ?_ ?_ | exact none_okeeps | apply some_okeeps | refine oite_keeps ?_ ?_ | refine getD_keeps ?_ ?_
      | refine omap_keeps ?_ ?_ | apply id_keeps
    | intro _ _ _
    | intro _ _
    | split
    | with_reducible first
      | refine pair_keeps ?_ (by assumption) | refine pair_keeps2 ?_ (by assumption)
      | refine opt_keeps ?_ (by assumption)
    | dsimp only
    | fail_if_no_progress with_reducible apply mk_keeps)

theorem State.qFetch_keeps {b0 : State} (s : State) (q : ℕ) (hs : Keeps b0 s) :
    Keeps b0 (State.qFetch s q).1 := by
  unfold State.qFetch
  repeat' (first
    | with_reducible first
      | assumption | apply State.qGet_keeps | apply State.qMeet_keeps | refine foldl_keeps ?_ ?_ | refine ite_keeps ?_ ?_
      | refine pite_keeps ?_ ?_ | exact none_okeeps | apply some_okeeps | refine oite_keeps ?_ ?_ | refine getD_keeps ?_ ?_
      | refine omap_keeps ?_ ?_ | apply id_keeps
    | intro _ _ _
    | intro _ _
    | split
    | with_reducible first
      | refine pair_keeps ?_ (by assumption) | refine pair_keeps2 ?_ (by assumption)
      | refine opt_keeps ?_ (by assumption)
    | dsimp only
    | fail_if_no_progress with_reducible apply mk_keeps)

theorem State.endQputs_keeps {b0 : State} (s : State) (q : ℕ) (hs : Keeps b0 s) :
    Keeps b0 (State.endQputs s q) := by
  unfold State.endQputs
  repeat' (first
    | with_reducible first
      | assumption | apply State.endWait_keeps | refine foldl_keeps ?_ ?_ | refine ite_keeps ?_ ?_ | refine pite_keeps ?_ ?_
      | exact none_okeeps | apply some_okeeps | refine oite_keeps ?_ ?_ | refine getD_keeps ?_ ?_ | refine omap_keeps ?_ ?_
      | apply id_keeps
    | intro _ _ _
    | intro _ _
    | split
    | with_reducible first
      | refine pair_keeps ?_ (by assumption) | refine pair_keeps2 ?_ (by assumption)
      | refine opt_keeps ?_ (by assumption)
    | dsimp only
    | fail_if_no_progress with_reducible apply mk_keeps)

theorem wrDesc_keeps {b0 : State} (q : Req) (d : ℕ) (k : ℕ) (w : Word) (s : State) (hs : Keeps b0 s) :
    Keeps b0 (wrDesc q d k w s)
    := by
  unfold wrDesc
  repeat' (first
    | with_reducible first
      | assumption | apply State.endQputs_keeps | apply State.keepErrs_keeps | apply State.refuse_keeps
      | apply State.rejudge_keeps | apply State.reply_keeps | apply State.storeDirect_keeps | refine foldl_keeps ?_ ?_
      | refine ite_keeps ?_ ?_ | refine pite_keeps ?_ ?_ | exact none_okeeps | apply some_okeeps | refine oite_keeps ?_ ?_
      | refine getD_keeps ?_ ?_ | refine omap_keeps ?_ ?_ | apply id_keeps
    | intro _ _ _
    | intro _ _
    | split
    | with_reducible first
      | refine pair_keeps ?_ (by assumption) | refine pair_keeps2 ?_ (by assumption)
      | refine opt_keeps ?_ (by assumption)
    | dsimp only
    | fail_if_no_progress with_reducible apply mk_keeps)

theorem State.setPortBuf_keeps {b0 : State} (s : State) (q : Req) (b : PortBuf) (hs : Keeps b0 s) :
    Keeps b0 (State.setPortBuf s q b)
    := by
  unfold State.setPortBuf
  repeat' (first
    | with_reducible first
      | assumption | refine foldl_keeps ?_ ?_ | refine ite_keeps ?_ ?_ | refine pite_keeps ?_ ?_ | exact none_okeeps
      | apply some_okeeps | refine oite_keeps ?_ ?_ | refine getD_keeps ?_ ?_ | refine omap_keeps ?_ ?_ | apply id_keeps
    | intro _ _ _
    | intro _ _
    | split
    | with_reducible first
      | refine pair_keeps ?_ (by assumption) | refine pair_keeps2 ?_ (by assumption)
      | refine opt_keeps ?_ (by assumption)
    | dsimp only
    | fail_if_no_progress with_reducible apply mk_keeps)

theorem State.portRes_keeps {b0 : State} (s : State) (q : Req) (r : Word) (hs : Keeps b0 s) :
    Keeps b0 (State.portRes s q r) := by
  unfold State.portRes
  repeat' (first
    | with_reducible first
      | assumption | apply State.setPortBuf_keeps | refine foldl_keeps ?_ ?_ | refine ite_keeps ?_ ?_ | refine pite_keeps ?_ ?_
      | exact none_okeeps | apply some_okeeps | refine oite_keeps ?_ ?_ | refine getD_keeps ?_ ?_ | refine omap_keeps ?_ ?_
      | apply id_keeps
    | intro _ _ _
    | intro _ _
    | split
    | with_reducible first
      | refine pair_keeps ?_ (by assumption) | refine pair_keeps2 ?_ (by assumption)
      | refine opt_keeps ?_ (by assumption)
    | dsimp only
    | fail_if_no_progress with_reducible apply mk_keeps)

theorem State.portWord_keeps {b0 : State} (s : State) (q : Req) (d : ℕ) (j : ℕ) (w : Word) (hs : Keeps b0 s) :
    Keeps b0
    (State.portWord s q d j w) := by
  unfold State.portWord
  repeat' (first
    | with_reducible first
      | assumption | apply State.setPortBuf_keeps | refine foldl_keeps ?_ ?_ | refine ite_keeps ?_ ?_ | refine pite_keeps ?_ ?_
      | exact none_okeeps | apply some_okeeps | refine oite_keeps ?_ ?_ | refine getD_keeps ?_ ?_ | refine omap_keeps ?_ ?_
      | apply id_keeps
    | intro _ _ _
    | intro _ _
    | split
    | with_reducible first
      | refine pair_keeps ?_ (by assumption) | refine pair_keeps2 ?_ (by assumption)
      | refine opt_keeps ?_ (by assumption)
    | dsimp only
    | fail_if_no_progress with_reducible apply mk_keeps)

theorem State.portAppend_keeps {b0 : State} (s : State) (q : Req) (d : ℕ) (w : Word) (hs : Keeps b0 s) :
    Keeps b0
    (State.portAppend s q d w).1 := by
  unfold State.portAppend
  repeat' (first
    | with_reducible first
      | assumption | apply State.portRes_keeps | apply State.qPutFor_keeps | refine foldl_keeps ?_ ?_ | refine ite_keeps ?_ ?_
      | refine pite_keeps ?_ ?_ | exact none_okeeps | apply some_okeeps | refine oite_keeps ?_ ?_ | refine getD_keeps ?_ ?_
      | refine omap_keeps ?_ ?_ | apply id_keeps
    | intro _ _ _
    | intro _ _
    | split
    | with_reducible first
      | refine pair_keeps ?_ (by assumption) | refine pair_keeps2 ?_ (by assumption)
      | refine opt_keeps ?_ (by assumption)
    | dsimp only
    | fail_if_no_progress with_reducible apply mk_keeps)

theorem State.portWrite_keeps {b0 : State} (s : State) (q : Req) (d : ℕ) (o : ℕ) (w : Word) (hs : Keeps b0 s) :
    Keeps b0
    (State.portWrite s q d o w).1 := by
  unfold State.portWrite
  repeat' (first
    | with_reducible first
      | assumption | apply State.portAppend_keeps | apply State.portWord_keeps | apply State.qMeet_keeps
      | refine foldl_keeps ?_ ?_ | refine ite_keeps ?_ ?_ | refine pite_keeps ?_ ?_ | exact none_okeeps | apply some_okeeps
      | refine oite_keeps ?_ ?_ | refine getD_keeps ?_ ?_ | refine omap_keeps ?_ ?_ | apply id_keeps
    | intro _ _ _
    | intro _ _
    | split
    | with_reducible first
      | refine pair_keeps ?_ (by assumption) | refine pair_keeps2 ?_ (by assumption)
      | refine opt_keeps ?_ (by assumption)
    | dsimp only
    | fail_if_no_progress with_reducible apply mk_keeps)

theorem State.portLatch_keeps {b0 : State} (s : State) (q : Req) (r : Option (List Word)) (hs : Keeps b0 s) :
    Keeps b0
    (State.portLatch s q r).1 := by
  unfold State.portLatch
  repeat' (first
    | with_reducible first
      | assumption | apply State.setPortBuf_keeps | refine foldl_keeps ?_ ?_ | refine ite_keeps ?_ ?_ | refine pite_keeps ?_ ?_
      | exact none_okeeps | apply some_okeeps | refine oite_keeps ?_ ?_ | refine getD_keeps ?_ ?_ | refine omap_keeps ?_ ?_
      | apply id_keeps
    | intro _ _ _
    | intro _ _
    | split
    | with_reducible first
      | refine pair_keeps ?_ (by assumption) | refine pair_keeps2 ?_ (by assumption)
      | refine opt_keeps ?_ (by assumption)
    | dsimp only
    | fail_if_no_progress with_reducible apply mk_keeps)

theorem State.portRead_keeps {b0 : State} (s : State) (q : Req) (d : ℕ) (o : ℕ) (hs : Keeps b0 s) :
    Keeps b0
    (State.portRead s q d o).1 := by
  unfold State.portRead
  repeat' (first
    | with_reducible first
      | assumption | apply State.portLatch_keeps | apply State.portRes_keeps | apply State.qGet_keeps | apply State.qMeet_keeps
      | refine foldl_keeps ?_ ?_ | refine ite_keeps ?_ ?_ | refine pite_keeps ?_ ?_ | exact none_okeeps | apply some_okeeps
      | refine oite_keeps ?_ ?_ | refine getD_keeps ?_ ?_ | refine omap_keeps ?_ ?_ | apply id_keeps
    | intro _ _ _
    | intro _ _
    | split
    | with_reducible first
      | refine pair_keeps ?_ (by assumption) | refine pair_keeps2 ?_ (by assumption)
      | refine opt_keeps ?_ (by assumption)
    | dsimp only
    | fail_if_no_progress with_reducible apply mk_keeps)

theorem wrPort_keeps {b0 : State} (q : Req) (d : ℕ) (o : ℕ) (w : Word) (s : State) (hs : Keeps b0 s) :
    Keeps b0 (wrPort q d o w s)
    := by
  unfold wrPort
  repeat' (first
    | with_reducible first
      | assumption | apply State.portWrite_keeps | apply State.respond_keeps | refine foldl_keeps ?_ ?_ | refine ite_keeps ?_ ?_
      | refine pite_keeps ?_ ?_ | exact none_okeeps | apply some_okeeps | refine oite_keeps ?_ ?_ | refine getD_keeps ?_ ?_
      | refine omap_keeps ?_ ?_ | apply id_keeps
    | intro _ _ _
    | intro _ _
    | split
    | with_reducible first
      | refine pair_keeps ?_ (by assumption) | refine pair_keeps2 ?_ (by assumption)
      | refine opt_keeps ?_ (by assumption)
    | dsimp only
    | fail_if_no_progress with_reducible apply mk_keeps)

theorem rdPort_keeps {b0 : State} (q : Req) (d : ℕ) (o : ℕ) (s : State) (hs : Keeps b0 s) :
    Keeps b0 (rdPort q d o s) := by
  unfold rdPort
  repeat' (first
    | with_reducible first
      | assumption | apply State.portRead_keeps | apply State.respond_keeps | refine foldl_keeps ?_ ?_ | refine ite_keeps ?_ ?_
      | refine pite_keeps ?_ ?_ | exact none_okeeps | apply some_okeeps | refine oite_keeps ?_ ?_ | refine getD_keeps ?_ ?_
      | refine omap_keeps ?_ ?_ | apply id_keeps
    | intro _ _ _
    | intro _ _
    | split
    | with_reducible first
      | refine pair_keeps ?_ (by assumption) | refine pair_keeps2 ?_ (by assumption)
      | refine opt_keeps ?_ (by assumption)
    | dsimp only
    | fail_if_no_progress with_reducible apply mk_keeps)

theorem State.macPut_keeps {b0 : State} (s : State) (q : ℕ) (ws : List Word) (hs : Keeps b0 s) :
    Keeps b0 (State.macPut s q ws).1
    := by
  unfold State.macPut
  repeat' (first
    | with_reducible first
      | assumption | apply State.countDrop_keeps | apply State.qMeet_keeps | apply State.qPut_keeps | refine foldl_keeps ?_ ?_
      | refine ite_keeps ?_ ?_ | refine pite_keeps ?_ ?_ | exact none_okeeps | apply some_okeeps | refine oite_keeps ?_ ?_
      | refine getD_keeps ?_ ?_ | refine omap_keeps ?_ ?_ | apply id_keeps
    | intro _ _ _
    | intro _ _
    | split
    | with_reducible first
      | refine pair_keeps ?_ (by assumption) | refine pair_keeps2 ?_ (by assumption)
      | refine opt_keeps ?_ (by assumption)
    | dsimp only
    | fail_if_no_progress with_reducible apply mk_keeps)

theorem State.eachByte_keeps {b0 : State} (s : State) (a : Nat) (bs : List Byte) (hs : Keeps b0 s) :
    Keeps b0 (s.eachByte a bs) := by
  induction bs generalizing s a with
  | nil => exact hs
  | cons b bs ih => exact ih _ _ (State.memWrite_keeps _ _ _ _ hs)

theorem State.memBytes_keeps {b0 : State} (s : State) (a : Nat) (bs : List Byte) (hs : Keeps b0 s) :
    Keeps b0 (s.memBytes a bs) := State.keepErrs_keeps _ _ (State.eachByte_keeps _ _ _ hs)

theorem State.macPause_keeps {b0 : State} (s : State) (m : ℕ) (f : List Byte) (hs : Keeps b0 s) :
    Keeps b0 (State.macPause s m f) := by
  unfold State.macPause
  repeat' (first
    | with_reducible first
      | assumption | refine foldl_keeps ?_ ?_ | refine ite_keeps ?_ ?_ | refine pite_keeps ?_ ?_ | exact none_okeeps
      | apply some_okeeps | refine oite_keeps ?_ ?_ | refine getD_keeps ?_ ?_ | refine omap_keeps ?_ ?_ | apply id_keeps
    | intro _ _ _
    | intro _ _
    | split
    | with_reducible first
      | refine pair_keeps ?_ (by assumption) | refine pair_keeps2 ?_ (by assumption)
      | refine opt_keeps ?_ (by assumption)
    | dsimp only
    | fail_if_no_progress with_reducible apply mk_keeps)

theorem State.macDrop_keeps {b0 : State} (s : State) (m : ℕ) (hs : Keeps b0 s) :
    Keeps b0 (State.macDrop s m) := by
  unfold State.macDrop
  repeat' (first
    | with_reducible first
      | assumption | apply State.incSat_keeps | refine foldl_keeps ?_ ?_ | refine ite_keeps ?_ ?_ | refine pite_keeps ?_ ?_
      | exact none_okeeps | apply some_okeeps | refine oite_keeps ?_ ?_ | refine getD_keeps ?_ ?_ | refine omap_keeps ?_ ?_
      | apply id_keeps
    | intro _ _ _
    | intro _ _
    | split
    | with_reducible first
      | refine pair_keeps ?_ (by assumption) | refine pair_keeps2 ?_ (by assumption)
      | refine opt_keeps ?_ (by assumption)
    | dsimp only
    | fail_if_no_progress with_reducible apply mk_keeps)

theorem State.rxRecord_keeps {b0 : State} (s : State) (m : ℕ) (a : ℕ) (status : ℕ) (len : ℕ) (fine : ℕ) (sfd : BitVec 64) (hs
    : Keeps b0 s) :
    Keeps b0 (State.rxRecord s m a status len fine sfd) := by
  unfold State.rxRecord
  repeat' (first
    | with_reducible first
      | assumption | apply State.macDrop_keeps | apply State.macPut_keeps | refine foldl_keeps ?_ ?_ | refine ite_keeps ?_ ?_
      | refine pite_keeps ?_ ?_ | exact none_okeeps | apply some_okeeps | refine oite_keeps ?_ ?_ | refine getD_keeps ?_ ?_
      | refine omap_keeps ?_ ?_ | apply id_keeps
    | intro _ _ _
    | intro _ _
    | split
    | with_reducible first
      | refine pair_keeps ?_ (by assumption) | refine pair_keeps2 ?_ (by assumption)
      | refine opt_keeps ?_ (by assumption)
    | dsimp only
    | fail_if_no_progress with_reducible apply mk_keeps)

theorem State.macRx_keeps {b0 : State} (s : State) (m : ℕ) (frame : List Byte) (fcsOk : Bool) (sfd : BitVec 64) (fine : ℕ) (hs
    : Keeps b0 s) :
    Keeps b0 (State.macRx s m frame fcsOk sfd fine) := by
  unfold State.macRx
  repeat' (first
    | with_reducible first
      | assumption | apply State.memBytes_keeps | apply State.qFetch_keeps | apply State.rxRecord_keeps
      | refine foldl_keeps ?_ ?_ | refine ite_keeps ?_ ?_ | refine pite_keeps ?_ ?_ | exact none_okeeps | apply some_okeeps
      | refine oite_keeps ?_ ?_ | refine getD_keeps ?_ ?_ | refine omap_keeps ?_ ?_ | apply id_keeps
    | intro _ _ _
    | intro _ _
    | split
    | with_reducible first
      | refine pair_keeps ?_ (by assumption) | refine pair_keeps2 ?_ (by assumption)
      | refine opt_keeps ?_ (by assumption)
    | dsimp only
    | fail_if_no_progress with_reducible apply mk_keeps)

theorem State.setXspi_keeps {b0 : State} (s : State) (x : ℕ) (c : Option Xspi) (hs : Keeps b0 s) :
    Keeps b0 (State.setXspi s x c) := by
  unfold State.setXspi
  repeat' (first
    | with_reducible first
      | assumption | refine foldl_keeps ?_ ?_ | refine ite_keeps ?_ ?_ | refine pite_keeps ?_ ?_ | exact none_okeeps
      | apply some_okeeps | refine oite_keeps ?_ ?_ | refine getD_keeps ?_ ?_ | refine omap_keeps ?_ ?_ | apply id_keeps
    | intro _ _ _
    | intro _ _
    | split
    | with_reducible first
      | refine pair_keeps ?_ (by assumption) | refine pair_keeps2 ?_ (by assumption)
      | refine opt_keeps ?_ (by assumption)
    | dsimp only
    | fail_if_no_progress with_reducible apply mk_keeps)

theorem State.xspiWrite_keeps {b0 : State} (s : State) (x : ℕ) (w : Word) (hs : Keeps b0 s) :
    Keeps b0 (State.xspiWrite s x w) := by
  unfold State.xspiWrite
  repeat' (first
    | with_reducible first
      | assumption | apply State.set_keeps | apply State.setXspi_keeps | apply State.storeDirect_keeps
      | refine foldl_keeps ?_ ?_ | refine ite_keeps ?_ ?_ | refine pite_keeps ?_ ?_ | exact none_okeeps | apply some_okeeps
      | refine oite_keeps ?_ ?_ | refine getD_keeps ?_ ?_ | refine omap_keeps ?_ ?_ | apply id_keeps
    | intro _ _ _
    | intro _ _
    | split
    | with_reducible first
      | refine pair_keeps ?_ (by assumption) | refine pair_keeps2 ?_ (by assumption)
      | refine opt_keeps ?_ (by assumption)
    | dsimp only
    | fail_if_no_progress with_reducible apply mk_keeps)

theorem wrXspiCctl_keeps {b0 : State} (q : Req) (x : ℕ) (w : Word) (s : State) (hs : Keeps b0 s) :
    Keeps b0 (wrXspiCctl q x w s) := by
  unfold wrXspiCctl
  repeat' (first
    | with_reducible first
      | assumption | apply State.write_keeps | apply State.xspiWrite_keeps | refine foldl_keeps ?_ ?_ | refine ite_keeps ?_ ?_
      | refine pite_keeps ?_ ?_ | exact none_okeeps | apply some_okeeps | refine oite_keeps ?_ ?_ | refine getD_keeps ?_ ?_
      | refine omap_keeps ?_ ?_ | apply id_keeps
    | intro _ _ _
    | intro _ _
    | split
    | with_reducible first
      | refine pair_keeps ?_ (by assumption) | refine pair_keeps2 ?_ (by assumption)
      | refine opt_keeps ?_ (by assumption)
    | dsimp only
    | fail_if_no_progress with_reducible apply mk_keeps)

theorem State.putBuf_keeps {b0 : State} (s : State) (x : ℕ) (i : ℕ) (b : Byte) (hs : Keeps b0 s) :
    Keeps b0 (State.putBuf s x i b)
    := by
  unfold State.putBuf
  repeat' (first
    | with_reducible first
      | assumption | apply State.setReg_keeps | refine foldl_keeps ?_ ?_ | refine ite_keeps ?_ ?_ | refine pite_keeps ?_ ?_
      | exact none_okeeps | apply some_okeeps | refine oite_keeps ?_ ?_ | refine getD_keeps ?_ ?_ | refine omap_keeps ?_ ?_
      | apply id_keeps
    | intro _ _ _
    | intro _ _
    | split
    | with_reducible first
      | refine pair_keeps ?_ (by assumption) | refine pair_keeps2 ?_ (by assumption)
      | refine opt_keeps ?_ (by assumption)
    | dsimp only
    | fail_if_no_progress with_reducible apply mk_keeps)

theorem State.putBufs_keeps {b0 : State} (s : State) (x i : Nat) (bs : List Byte) (hs : Keeps b0 s) :
    Keeps b0 (s.putBufs x i bs) := by
  induction bs generalizing s i with
  | nil => exact hs
  | cons b bs ih => exact ih _ _ (State.putBuf_keeps _ _ _ _ hs)

theorem State.xspiHeld_keeps {b0 : State} (s : State) (x : ℕ) (src : ℕ) (hs : Keeps b0 s) :
    Keeps b0 (State.xspiHeld s x src) := by
  unfold State.xspiHeld
  repeat' (first
    | with_reducible first
      | assumption | refine foldl_keeps ?_ ?_ | refine ite_keeps ?_ ?_ | refine pite_keeps ?_ ?_ | exact none_okeeps
      | apply some_okeeps | refine oite_keeps ?_ ?_ | refine getD_keeps ?_ ?_ | refine omap_keeps ?_ ?_ | apply id_keeps
    | intro _ _ _
    | intro _ _
    | split
    | with_reducible first
      | refine pair_keeps ?_ (by assumption) | refine pair_keeps2 ?_ (by assumption)
      | refine opt_keeps ?_ (by assumption)
    | dsimp only
    | fail_if_no_progress with_reducible apply mk_keeps)

theorem State.xspiServed_keeps {b0 : State} (s : State) (x : ℕ) (src : ℕ) (hs : Keeps b0 s) :
    Keeps b0 (State.xspiServed s x src) := by
  unfold State.xspiServed
  repeat' (first
    | with_reducible first
      | assumption | apply State.setXspi_keeps | refine foldl_keeps ?_ ?_ | refine ite_keeps ?_ ?_ | refine pite_keeps ?_ ?_
      | exact none_okeeps | apply some_okeeps | refine oite_keeps ?_ ?_ | refine getD_keeps ?_ ?_ | refine omap_keeps ?_ ?_
      | apply id_keeps
    | intro _ _ _
    | intro _ _
    | split
    | with_reducible first
      | refine pair_keeps ?_ (by assumption) | refine pair_keeps2 ?_ (by assumption)
      | refine opt_keeps ?_ (by assumption)
    | dsimp only
    | fail_if_no_progress with_reducible apply mk_keeps)

theorem State.fireOpt_keeps {b0 : State} (s : State) (c : Bool) (x_2 : Option ℕ) (hs : Keeps b0 s) :
    Keeps b0 (State.fireOpt s c x_2) := by
  unfold State.fireOpt
  repeat' (first
    | with_reducible first
      | assumption | apply State.fireIf_keeps | refine foldl_keeps ?_ ?_ | refine ite_keeps ?_ ?_ | refine pite_keeps ?_ ?_
      | exact none_okeeps | apply some_okeeps | refine oite_keeps ?_ ?_ | refine getD_keeps ?_ ?_ | refine omap_keeps ?_ ?_
      | apply id_keeps
    | intro _ _ _
    | intro _ _
    | split
    | with_reducible first
      | refine pair_keeps ?_ (by assumption) | refine pair_keeps2 ?_ (by assumption)
      | refine opt_keeps ?_ (by assumption)
    | dsimp only
    | fail_if_no_progress with_reducible apply mk_keeps)

theorem State.setRx_keeps {b0 : State} (s : State) (f : SerialIf) (l : List Word) (hs : Keeps b0 s) :
    Keeps b0 (State.setRx s f l)
    := by
  unfold State.setRx
  repeat' (first
    | with_reducible first
      | assumption | apply State.fireOpt_keeps | apply State.set_keeps | apply State.setSerial_keeps | refine foldl_keeps ?_ ?_
      | refine ite_keeps ?_ ?_ | refine pite_keeps ?_ ?_ | exact none_okeeps | apply some_okeeps | refine oite_keeps ?_ ?_
      | refine getD_keeps ?_ ?_ | refine omap_keeps ?_ ?_ | apply id_keeps
    | intro _ _ _
    | intro _ _
    | split
    | with_reducible first
      | refine pair_keeps ?_ (by assumption) | refine pair_keeps2 ?_ (by assumption)
      | refine opt_keeps ?_ (by assumption)
    | dsimp only
    | fail_if_no_progress with_reducible apply mk_keeps)

theorem State.setTx_keeps {b0 : State} (s : State) (f : SerialIf) (l : List Word) (hs : Keeps b0 s) :
    Keeps b0 (State.setTx s f l)
    := by
  unfold State.setTx
  repeat' (first
    | with_reducible first
      | assumption | apply State.fireOpt_keeps | apply State.set_keeps | apply State.setSerial_keeps | refine foldl_keeps ?_ ?_
      | refine ite_keeps ?_ ?_ | refine pite_keeps ?_ ?_ | exact none_okeeps | apply some_okeeps | refine oite_keeps ?_ ?_
      | refine getD_keeps ?_ ?_ | refine omap_keeps ?_ ?_ | apply id_keeps
    | intro _ _ _
    | intro _ _
    | split
    | with_reducible first
      | refine pair_keeps ?_ (by assumption) | refine pair_keeps2 ?_ (by assumption)
      | refine opt_keeps ?_ (by assumption)
    | dsimp only
    | fail_if_no_progress with_reducible apply mk_keeps)

theorem State.i2cEnd_keeps {b0 : State} (s : State) (i : ℕ) (kept : Bool) (hs : Keeps b0 s) :
    Keeps b0 (State.i2cEnd s i kept) := by
  unfold State.i2cEnd
  repeat' (first
    | with_reducible first
      | assumption | apply State.set_keeps | apply State.setSerial_keeps | refine foldl_keeps ?_ ?_ | refine ite_keeps ?_ ?_
      | refine pite_keeps ?_ ?_ | exact none_okeeps | apply some_okeeps | refine oite_keeps ?_ ?_ | refine getD_keeps ?_ ?_
      | refine omap_keeps ?_ ?_ | apply id_keeps
    | intro _ _ _
    | intro _ _
    | split
    | with_reducible first
      | refine pair_keeps ?_ (by assumption) | refine pair_keeps2 ?_ (by assumption)
      | refine opt_keeps ?_ (by assumption)
    | dsimp only
    | fail_if_no_progress with_reducible apply mk_keeps)

theorem State.i2cFree_keeps {b0 : State} (s : State) (i : ℕ) (hs : Keeps b0 s) :
    Keeps b0 (State.i2cFree s i) := by
  unfold State.i2cFree
  repeat' (first
    | with_reducible first
      | assumption | apply State.set_keeps | refine foldl_keeps ?_ ?_ | refine ite_keeps ?_ ?_ | refine pite_keeps ?_ ?_
      | exact none_okeeps | apply some_okeeps | refine oite_keeps ?_ ?_ | refine getD_keeps ?_ ?_ | refine omap_keeps ?_ ?_
      | apply id_keeps
    | intro _ _ _
    | intro _ _
    | split
    | with_reducible first
      | refine pair_keeps ?_ (by assumption) | refine pair_keeps2 ?_ (by assumption)
      | refine opt_keeps ?_ (by assumption)
    | dsimp only
    | fail_if_no_progress with_reducible apply mk_keeps)

theorem State.i2cFinish_keeps {b0 : State} (s : State) (i : ℕ) (hs : Keeps b0 s) :
    Keeps b0 (State.i2cFinish s i) := by
  unfold State.i2cFinish
  repeat' (first
    | with_reducible first
      | assumption | apply State.i2cEnd_keeps | apply State.i2cFree_keeps | refine foldl_keeps ?_ ?_ | refine ite_keeps ?_ ?_
      | refine pite_keeps ?_ ?_ | exact none_okeeps | apply some_okeeps | refine oite_keeps ?_ ?_ | refine getD_keeps ?_ ?_
      | refine omap_keeps ?_ ?_ | apply id_keeps
    | intro _ _ _
    | intro _ _
    | split
    | with_reducible first
      | refine pair_keeps ?_ (by assumption) | refine pair_keeps2 ?_ (by assumption)
      | refine opt_keeps ?_ (by assumption)
    | dsimp only
    | fail_if_no_progress with_reducible apply mk_keeps)

theorem State.i2cSend_keeps {b0 : State} (s : State) (i : Fin 12) (hs : Keeps b0 s) :
    Keeps b0 (State.i2cSend s i) := by
  unfold State.i2cSend
  repeat' (first
    | with_reducible first
      | assumption | apply State.setSerial_keeps | apply State.setTx_keeps | refine foldl_keeps ?_ ?_ | refine ite_keeps ?_ ?_
      | refine pite_keeps ?_ ?_ | exact none_okeeps | apply some_okeeps | refine oite_keeps ?_ ?_ | refine getD_keeps ?_ ?_
      | refine omap_keeps ?_ ?_ | apply id_keeps
    | intro _ _ _
    | intro _ _
    | split
    | with_reducible first
      | refine pair_keeps ?_ (by assumption) | refine pair_keeps2 ?_ (by assumption)
      | refine opt_keeps ?_ (by assumption)
    | dsimp only
    | fail_if_no_progress with_reducible apply mk_keeps)

theorem State.i2cTake_keeps {b0 : State} (s : State) (i : Fin 12) (hs : Keeps b0 s) :
    Keeps b0 (State.i2cTake s i) := by
  unfold State.i2cTake
  repeat' (first
    | with_reducible first
      | assumption | apply State.i2cFinish_keeps | apply State.setRx_keeps | apply State.setSerial_keeps
      | refine foldl_keeps ?_ ?_ | refine ite_keeps ?_ ?_ | refine pite_keeps ?_ ?_ | exact none_okeeps | apply some_okeeps
      | refine oite_keeps ?_ ?_ | refine getD_keeps ?_ ?_ | refine omap_keeps ?_ ?_ | apply id_keeps
    | intro _ _ _
    | intro _ _
    | split
    | with_reducible first
      | refine pair_keeps ?_ (by assumption) | refine pair_keeps2 ?_ (by assumption)
      | refine opt_keeps ?_ (by assumption)
    | dsimp only
    | fail_if_no_progress with_reducible apply mk_keeps)

theorem State.i2cCmd_keeps {b0 : State} (s : State) (i : Fin 12) (w : Word) (hs : Keeps b0 s) :
    Keeps b0 (State.i2cCmd s i w) := by
  unfold State.i2cCmd
  repeat' (first
    | with_reducible first
      | assumption | apply State.i2cSend_keeps | apply State.set_keeps | apply State.setSerial_keeps
      | apply State.storeDirect_keeps | refine foldl_keeps ?_ ?_ | refine ite_keeps ?_ ?_ | refine pite_keeps ?_ ?_
      | exact none_okeeps | apply some_okeeps | refine oite_keeps ?_ ?_ | refine getD_keeps ?_ ?_ | refine omap_keeps ?_ ?_
      | apply id_keeps
    | intro _ _ _
    | intro _ _
    | split
    | with_reducible first
      | refine pair_keeps ?_ (by assumption) | refine pair_keeps2 ?_ (by assumption)
      | refine opt_keeps ?_ (by assumption)
    | dsimp only
    | fail_if_no_progress with_reducible apply mk_keeps)

theorem wrI2cCmd_keeps {b0 : State} (q : Req) (i : Fin 12) (w : Word) (s : State) (hs : Keeps b0 s) :
    Keeps b0 (wrI2cCmd q i w s)
    := by
  unfold wrI2cCmd
  repeat' (first
    | with_reducible first
      | assumption | apply State.i2cCmd_keeps | apply State.write_keeps | refine foldl_keeps ?_ ?_ | refine ite_keeps ?_ ?_
      | refine pite_keeps ?_ ?_ | exact none_okeeps | apply some_okeeps | refine oite_keeps ?_ ?_ | refine getD_keeps ?_ ?_
      | refine omap_keeps ?_ ?_ | apply id_keeps
    | intro _ _ _
    | intro _ _
    | split
    | with_reducible first
      | refine pair_keeps ?_ (by assumption) | refine pair_keeps2 ?_ (by assumption)
      | refine opt_keeps ?_ (by assumption)
    | dsimp only
    | fail_if_no_progress with_reducible apply mk_keeps)

theorem State.i2cTarget_keeps {b0 : State} (s : State) (i : Fin 12) (data : List Byte) (taken : ℕ) (stop : Bool) (hs : Keeps b0
    s) :
    Keeps b0 (State.i2cTarget s i data taken stop) := by
  unfold State.i2cTarget
  repeat' (first
    | with_reducible first
      | assumption | apply State.flagIf_keeps | apply State.setRx_keeps | apply State.setSerial_keeps | apply State.setTx_keeps
      | refine foldl_keeps ?_ ?_ | refine ite_keeps ?_ ?_ | refine pite_keeps ?_ ?_ | exact none_okeeps | apply some_okeeps
      | refine oite_keeps ?_ ?_ | refine getD_keeps ?_ ?_ | refine omap_keeps ?_ ?_ | apply id_keeps
    | intro _ _ _
    | intro _ _
    | split
    | with_reducible first
      | refine pair_keeps ?_ (by assumption) | refine pair_keeps2 ?_ (by assumption)
      | refine opt_keeps ?_ (by assumption)
    | dsimp only
    | fail_if_no_progress with_reducible apply mk_keeps)

theorem State.spiKick_keeps {b0 : State} (s : State) (i : Fin 8) (hs : Keeps b0 s) :
    Keeps b0 (State.spiKick s i) := by
  unfold State.spiKick
  repeat' (first
    | with_reducible first
      | assumption | apply State.set_keeps | apply State.setSerial_keeps | apply State.setTx_keeps | refine foldl_keeps ?_ ?_
      | refine ite_keeps ?_ ?_ | refine pite_keeps ?_ ?_ | exact none_okeeps | apply some_okeeps | refine oite_keeps ?_ ?_
      | refine getD_keeps ?_ ?_ | refine omap_keeps ?_ ?_ | apply id_keeps
    | intro _ _ _
    | intro _ _
    | split
    | with_reducible first
      | refine pair_keeps ?_ (by assumption) | refine pair_keeps2 ?_ (by assumption)
      | refine opt_keeps ?_ (by assumption)
    | dsimp only
    | fail_if_no_progress with_reducible apply mk_keeps)

theorem State.uartKick_keeps {b0 : State} (s : State) (u : Fin 8) (hs : Keeps b0 s) :
    Keeps b0 (State.uartKick s u) := by
  unfold State.uartKick
  repeat' (first
    | with_reducible first
      | assumption | apply State.set_keeps | apply State.setSerial_keeps | apply State.setTx_keeps | refine foldl_keeps ?_ ?_
      | refine ite_keeps ?_ ?_ | refine pite_keeps ?_ ?_ | exact none_okeeps | apply some_okeeps | refine oite_keeps ?_ ?_
      | refine getD_keeps ?_ ?_ | refine omap_keeps ?_ ?_ | apply id_keeps
    | intro _ _ _
    | intro _ _
    | split
    | with_reducible first
      | refine pair_keeps ?_ (by assumption) | refine pair_keeps2 ?_ (by assumption)
      | refine opt_keeps ?_ (by assumption)
    | dsimp only
    | fail_if_no_progress with_reducible apply mk_keeps)

theorem State.serKick_keeps {b0 : State} (s : State) (x_1 : SerialIf) (hs : Keeps b0 s) :
    Keeps b0 (State.serKick s x_1) := by
  unfold State.serKick
  repeat' (first
    | with_reducible first
      | assumption | apply State.i2cSend_keeps | apply State.i2cTake_keeps | apply State.spiKick_keeps
      | apply State.uartKick_keeps | refine foldl_keeps ?_ ?_ | refine ite_keeps ?_ ?_ | refine pite_keeps ?_ ?_
      | exact none_okeeps | apply some_okeeps | refine oite_keeps ?_ ?_ | refine getD_keeps ?_ ?_ | refine omap_keeps ?_ ?_
      | apply id_keeps
    | intro _ _ _
    | intro _ _
    | split
    | with_reducible first
      | refine pair_keeps ?_ (by assumption) | refine pair_keeps2 ?_ (by assumption)
      | refine opt_keeps ?_ (by assumption)
    | dsimp only
    | fail_if_no_progress with_reducible apply mk_keeps)

theorem State.serPush_keeps {b0 : State} (s : State) (f : SerialIf) (w : Word) (hs : Keeps b0 s) :
    Keeps b0 (State.serPush s f w)
    := by
  unfold State.serPush
  repeat' (first
    | with_reducible first
      | assumption | apply State.serKick_keeps | apply State.set_keeps | apply State.setTx_keeps | refine foldl_keeps ?_ ?_
      | refine ite_keeps ?_ ?_ | refine pite_keeps ?_ ?_ | exact none_okeeps | apply some_okeeps | refine oite_keeps ?_ ?_
      | refine getD_keeps ?_ ?_ | refine omap_keeps ?_ ?_ | apply id_keeps
    | intro _ _ _
    | intro _ _
    | split
    | with_reducible first
      | refine pair_keeps ?_ (by assumption) | refine pair_keeps2 ?_ (by assumption)
      | refine opt_keeps ?_ (by assumption)
    | dsimp only
    | fail_if_no_progress with_reducible apply mk_keeps)

theorem State.serPop_keeps {b0 : State} (s : State) (f : SerialIf) (hs : Keeps b0 s) :
    Keeps b0 (State.serPop s f).2 := by
  unfold State.serPop
  repeat' (first
    | with_reducible first
      | assumption | apply State.serKick_keeps | apply State.set_keeps | apply State.setRx_keeps | refine foldl_keeps ?_ ?_
      | refine ite_keeps ?_ ?_ | refine pite_keeps ?_ ?_ | exact none_okeeps | apply some_okeeps | refine oite_keeps ?_ ?_
      | refine getD_keeps ?_ ?_ | refine omap_keeps ?_ ?_ | apply id_keeps
    | intro _ _ _
    | intro _ _
    | split
    | with_reducible first
      | refine pair_keeps ?_ (by assumption) | refine pair_keeps2 ?_ (by assumption)
      | refine opt_keeps ?_ (by assumption)
    | dsimp only
    | fail_if_no_progress with_reducible apply mk_keeps)

theorem wrData_keeps {b0 : State} (q : Req) (f : SerialIf) (w : Word) (s : State) (hs : Keeps b0 s) :
    Keeps b0 (wrData q f w s) := by
  unfold wrData
  repeat' (first
    | with_reducible first
      | assumption | apply State.serPush_keeps | apply State.write_keeps | refine foldl_keeps ?_ ?_ | refine ite_keeps ?_ ?_
      | refine pite_keeps ?_ ?_ | exact none_okeeps | apply some_okeeps | refine oite_keeps ?_ ?_ | refine getD_keeps ?_ ?_
      | refine omap_keeps ?_ ?_ | apply id_keeps
    | intro _ _ _
    | intro _ _
    | split
    | with_reducible first
      | refine pair_keeps ?_ (by assumption) | refine pair_keeps2 ?_ (by assumption)
      | refine opt_keeps ?_ (by assumption)
    | dsimp only
    | fail_if_no_progress with_reducible apply mk_keeps)

theorem rdData_keeps {b0 : State} (q : Req) (f : SerialIf) (s : State) (hs : Keeps b0 s) :
    Keeps b0 (rdData q f s) := by
  unfold rdData
  repeat' (first
    | with_reducible first
      | assumption | apply State.read_keeps | apply State.serPop_keeps | refine foldl_keeps ?_ ?_ | refine ite_keeps ?_ ?_
      | refine pite_keeps ?_ ?_ | exact none_okeeps | apply some_okeeps | refine oite_keeps ?_ ?_ | refine getD_keeps ?_ ?_
      | refine omap_keeps ?_ ?_ | apply id_keeps
    | intro _ _ _
    | intro _ _
    | split
    | with_reducible first
      | refine pair_keeps ?_ (by assumption) | refine pair_keeps2 ?_ (by assumption)
      | refine opt_keeps ?_ (by assumption)
    | dsimp only
    | fail_if_no_progress with_reducible apply mk_keeps)

theorem State.spiReceive_keeps {b0 : State} (s : State) (i : Fin 8) (w : Word) (hs : Keeps b0 s) :
    Keeps b0 (State.spiReceive s i w)
    := by
  unfold State.spiReceive
  repeat' (first
    | with_reducible first
      | assumption | apply State.set_keeps | apply State.setRx_keeps | refine foldl_keeps ?_ ?_ | refine ite_keeps ?_ ?_
      | refine pite_keeps ?_ ?_ | exact none_okeeps | apply some_okeeps | refine oite_keeps ?_ ?_ | refine getD_keeps ?_ ?_
      | refine omap_keeps ?_ ?_ | apply id_keeps
    | intro _ _ _
    | intro _ _
    | split
    | with_reducible first
      | refine pair_keeps ?_ (by assumption) | refine pair_keeps2 ?_ (by assumption)
      | refine opt_keeps ?_ (by assumption)
    | dsimp only
    | fail_if_no_progress with_reducible apply mk_keeps)

theorem State.spiEnd_keeps {b0 : State} (s : State) (i : Fin 8) (hs : Keeps b0 s) :
    Keeps b0 (State.spiEnd s i) := by
  unfold State.spiEnd
  repeat' (first
    | with_reducible first
      | assumption | apply State.set_keeps | apply State.setSerial_keeps | apply State.spiKick_keeps | refine foldl_keeps ?_ ?_
      | refine ite_keeps ?_ ?_ | refine pite_keeps ?_ ?_ | exact none_okeeps | apply some_okeeps | refine oite_keeps ?_ ?_
      | refine getD_keeps ?_ ?_ | refine omap_keeps ?_ ?_ | apply id_keeps
    | intro _ _ _
    | intro _ _
    | split
    | with_reducible first
      | refine pair_keeps ?_ (by assumption) | refine pair_keeps2 ?_ (by assumption)
      | refine opt_keeps ?_ (by assumption)
    | dsimp only
    | fail_if_no_progress with_reducible apply mk_keeps)

theorem State.spiCtrl_keeps {b0 : State} (s : State) (i : Fin 8) (w : Word) (hs : Keeps b0 s) :
    Keeps b0 (State.spiCtrl s i w) := by
  unfold State.spiCtrl
  repeat' (first
    | with_reducible first
      | assumption | apply State.setSerial_keeps | apply State.storeDirect_keeps | refine foldl_keeps ?_ ?_
      | refine ite_keeps ?_ ?_ | refine pite_keeps ?_ ?_ | exact none_okeeps | apply some_okeeps | refine oite_keeps ?_ ?_
      | refine getD_keeps ?_ ?_ | refine omap_keeps ?_ ?_ | apply id_keeps
    | intro _ _ _
    | intro _ _
    | split
    | with_reducible first
      | refine pair_keeps ?_ (by assumption) | refine pair_keeps2 ?_ (by assumption)
      | refine opt_keeps ?_ (by assumption)
    | dsimp only
    | fail_if_no_progress with_reducible apply mk_keeps)

theorem wrSpiCtrl_keeps {b0 : State} (q : Req) (i : Fin 8) (w : Word) (s : State) (hs : Keeps b0 s) :
    Keeps b0 (wrSpiCtrl q i w s)
    := by
  unfold wrSpiCtrl
  repeat' (first
    | with_reducible first
      | assumption | apply State.spiCtrl_keeps | apply State.write_keeps | refine foldl_keeps ?_ ?_ | refine ite_keeps ?_ ?_
      | refine pite_keeps ?_ ?_ | exact none_okeeps | apply some_okeeps | refine oite_keeps ?_ ?_ | refine getD_keeps ?_ ?_
      | refine omap_keeps ?_ ?_ | apply id_keeps
    | intro _ _ _
    | intro _ _
    | split
    | with_reducible first
      | refine pair_keeps ?_ (by assumption) | refine pair_keeps2 ?_ (by assumption)
      | refine opt_keeps ?_ (by assumption)
    | dsimp only
    | fail_if_no_progress with_reducible apply mk_keeps)

theorem wrSerCfg_keeps {b0 : State} (q : Req) (f : SerialIf) (fs : List Fld) (w : Word) (s : State) (hs : Keeps b0 s) :
    Keeps b0
    (wrSerCfg q f fs w s) := by
  unfold wrSerCfg
  repeat' (first
    | with_reducible first
      | assumption | apply State.serKick_keeps | apply State.storeDirect_keeps | apply State.write_keeps
      | refine foldl_keeps ?_ ?_ | refine ite_keeps ?_ ?_ | refine pite_keeps ?_ ?_ | exact none_okeeps | apply some_okeeps
      | refine oite_keeps ?_ ?_ | refine getD_keeps ?_ ?_ | refine omap_keeps ?_ ?_ | apply id_keeps
    | intro _ _ _
    | intro _ _
    | split
    | with_reducible first
      | refine pair_keeps ?_ (by assumption) | refine pair_keeps2 ?_ (by assumption)
      | refine opt_keeps ?_ (by assumption)
    | dsimp only
    | fail_if_no_progress with_reducible apply mk_keeps)

theorem State.canReq_keeps {b0 : State} (s : State) (c : ℕ) (w : Word) (hs : Keeps b0 s) :
    Keeps b0 (State.canReq s c w) := by
  unfold State.canReq
  repeat' (first
    | with_reducible first
      | assumption | apply State.flagIf_keeps | apply State.setBit_keeps | refine foldl_keeps ?_ ?_ | refine ite_keeps ?_ ?_
      | refine pite_keeps ?_ ?_ | exact none_okeeps | apply some_okeeps | refine oite_keeps ?_ ?_ | refine getD_keeps ?_ ?_
      | refine omap_keeps ?_ ?_ | apply id_keeps
    | intro _ _ _
    | intro _ _
    | split
    | with_reducible first
      | refine pair_keeps ?_ (by assumption) | refine pair_keeps2 ?_ (by assumption)
      | refine opt_keeps ?_ (by assumption)
    | dsimp only
    | fail_if_no_progress with_reducible apply mk_keeps)

theorem wrCanTxreq_keeps {b0 : State} (q : Req) (c : ℕ) (w : Word) (s : State) (hs : Keeps b0 s) :
    Keeps b0 (wrCanTxreq q c w s) := by
  unfold wrCanTxreq
  repeat' (first
    | with_reducible first
      | assumption | apply State.canReq_keeps | apply State.write_keeps | refine foldl_keeps ?_ ?_ | refine ite_keeps ?_ ?_
      | refine pite_keeps ?_ ?_ | exact none_okeeps | apply some_okeeps | refine oite_keeps ?_ ?_ | refine getD_keeps ?_ ?_
      | refine omap_keeps ?_ ?_ | apply id_keeps
    | intro _ _ _
    | intro _ _
    | split
    | with_reducible first
      | refine pair_keeps ?_ (by assumption) | refine pair_keeps2 ?_ (by assumption)
      | refine opt_keeps ?_ (by assumption)
    | dsimp only
    | fail_if_no_progress with_reducible apply mk_keeps)

theorem State.canAbort_keeps {b0 : State} (s : State) (c : ℕ) (w : Word) (hs : Keeps b0 s) :
    Keeps b0 (State.canAbort s c w) := by
  unfold State.canAbort
  repeat' (first
    | with_reducible first
      | assumption | apply State.lowerBit_keeps | refine foldl_keeps ?_ ?_ | refine ite_keeps ?_ ?_ | refine pite_keeps ?_ ?_
      | exact none_okeeps | apply some_okeeps | refine oite_keeps ?_ ?_ | refine getD_keeps ?_ ?_ | refine omap_keeps ?_ ?_
      | apply id_keeps
    | intro _ _ _
    | intro _ _
    | split
    | with_reducible first
      | refine pair_keeps ?_ (by assumption) | refine pair_keeps2 ?_ (by assumption)
      | refine opt_keeps ?_ (by assumption)
    | dsimp only
    | fail_if_no_progress with_reducible apply mk_keeps)

theorem wrCanTxabort_keeps {b0 : State} (q : Req) (c : ℕ) (w : Word) (s : State) (hs : Keeps b0 s) :
    Keeps b0 (wrCanTxabort q c w s)
    := by
  unfold wrCanTxabort
  repeat' (first
    | with_reducible first
      | assumption | apply State.canAbort_keeps | apply State.write_keeps | refine foldl_keeps ?_ ?_ | refine ite_keeps ?_ ?_
      | refine pite_keeps ?_ ?_ | exact none_okeeps | apply some_okeeps | refine oite_keeps ?_ ?_ | refine getD_keeps ?_ ?_
      | refine omap_keeps ?_ ?_ | apply id_keeps
    | intro _ _ _
    | intro _ _
    | split
    | with_reducible first
      | refine pair_keeps ?_ (by assumption) | refine pair_keeps2 ?_ (by assumption)
      | refine opt_keeps ?_ (by assumption)
    | dsimp only
    | fail_if_no_progress with_reducible apply mk_keeps)

theorem State.canErrs_keeps {b0 : State} (s : State) (c : ℕ) (e : CanErr) (hs : Keeps b0 s) :
    Keeps b0 (State.canErrs s c e) := by
  unfold State.canErrs
  repeat' (first
    | with_reducible first
      | assumption | apply State.flagIf_keeps | apply State.set_keeps | apply State.setB_keeps | refine foldl_keeps ?_ ?_
      | refine ite_keeps ?_ ?_ | refine pite_keeps ?_ ?_ | exact none_okeeps | apply some_okeeps | refine oite_keeps ?_ ?_
      | refine getD_keeps ?_ ?_ | refine omap_keeps ?_ ?_ | apply id_keeps
    | intro _ _ _
    | intro _ _
    | split
    | with_reducible first
      | refine pair_keeps ?_ (by assumption) | refine pair_keeps2 ?_ (by assumption)
      | refine opt_keeps ?_ (by assumption)
    | dsimp only
    | fail_if_no_progress with_reducible apply mk_keeps)

theorem State.setCanRx_keeps {b0 : State} (s : State) (c : ℕ) (l : List (List Word)) (hs : Keeps b0 s) :
    Keeps b0
    (State.setCanRx s c l) := by
  unfold State.setCanRx
  repeat' (first
    | with_reducible first
      | assumption | apply State.fireIf_keeps | apply State.set_keeps | apply State.setCan_keeps | refine foldl_keeps ?_ ?_
      | refine ite_keeps ?_ ?_ | refine pite_keeps ?_ ?_ | exact none_okeeps | apply some_okeeps | refine oite_keeps ?_ ?_
      | refine getD_keeps ?_ ?_ | refine omap_keeps ?_ ?_ | apply id_keeps
    | intro _ _ _
    | intro _ _
    | split
    | with_reducible first
      | refine pair_keeps ?_ (by assumption) | refine pair_keeps2 ?_ (by assumption)
      | refine opt_keeps ?_ (by assumption)
    | dsimp only
    | fail_if_no_progress with_reducible apply mk_keeps)

theorem wrCanRxpop_keeps {b0 : State} (q : Req) (c : ℕ) (w : Word) (s : State) (hs : Keeps b0 s) :
    Keeps b0 (wrCanRxpop q c w s) := by
  unfold wrCanRxpop
  repeat' (first
    | with_reducible first
      | assumption | apply State.setCanRx_keeps | apply State.write_keeps | refine foldl_keeps ?_ ?_ | refine ite_keeps ?_ ?_
      | refine pite_keeps ?_ ?_ | exact none_okeeps | apply some_okeeps | refine oite_keeps ?_ ?_ | refine getD_keeps ?_ ?_
      | refine omap_keeps ?_ ?_ | apply id_keeps
    | intro _ _ _
    | intro _ _
    | split
    | with_reducible first
      | refine pair_keeps ?_ (by assumption) | refine pair_keeps2 ?_ (by assumption)
      | refine opt_keeps ?_ (by assumption)
    | dsimp only
    | fail_if_no_progress with_reducible apply mk_keeps)

theorem wrCanCtrl_keeps {b0 : State} (q : Req) (c : ℕ) (w : Word) (s : State) (hs : Keeps b0 s) :
    Keeps b0 (wrCanCtrl q c w s) := by
  unfold wrCanCtrl
  repeat' (first
    | with_reducible first
      | assumption | apply State.setCan_keeps | apply State.write_keeps | refine foldl_keeps ?_ ?_ | refine ite_keeps ?_ ?_
      | refine pite_keeps ?_ ?_ | exact none_okeeps | apply some_okeeps | refine oite_keeps ?_ ?_ | refine getD_keeps ?_ ?_
      | refine omap_keeps ?_ ?_ | apply id_keeps
    | intro _ _ _
    | intro _ _
    | split
    | with_reducible first
      | refine pair_keeps ?_ (by assumption) | refine pair_keeps2 ?_ (by assumption)
      | refine opt_keeps ?_ (by assumption)
    | dsimp only
    | fail_if_no_progress with_reducible apply mk_keeps)

theorem State.gpioIn_keeps {b0 : State} (s : State) (i : ℕ) (b : Bool) (hs : Keeps b0 s) :
    Keeps b0 (State.gpioIn s i b) := by
  unfold State.gpioIn
  repeat' (first
    | with_reducible first
      | assumption | apply State.fireIf_keeps | apply State.setB_keeps | refine foldl_keeps ?_ ?_ | refine ite_keeps ?_ ?_
      | refine pite_keeps ?_ ?_ | exact none_okeeps | apply some_okeeps | refine oite_keeps ?_ ?_ | refine getD_keeps ?_ ?_
      | refine omap_keeps ?_ ?_ | apply id_keeps
    | intro _ _ _
    | intro _ _
    | split
    | with_reducible first
      | refine pair_keeps ?_ (by assumption) | refine pair_keeps2 ?_ (by assumption)
      | refine opt_keeps ?_ (by assumption)
    | dsimp only
    | fail_if_no_progress with_reducible apply mk_keeps)

theorem State.gpioDrive_keeps {b0 : State} (s : State) (i : ℕ) (hs : Keeps b0 s) :
    Keeps b0 (State.gpioDrive s i) := by
  unfold State.gpioDrive
  repeat' (first
    | with_reducible first
      | assumption | apply State.gpioIn_keeps | refine foldl_keeps ?_ ?_ | refine ite_keeps ?_ ?_ | refine pite_keeps ?_ ?_
      | exact none_okeeps | apply some_okeeps | refine oite_keeps ?_ ?_ | refine getD_keeps ?_ ?_ | refine omap_keeps ?_ ?_
      | apply id_keeps
    | intro _ _ _
    | intro _ _
    | split
    | with_reducible first
      | refine pair_keeps ?_ (by assumption) | refine pair_keeps2 ?_ (by assumption)
      | refine opt_keeps ?_ (by assumption)
    | dsimp only
    | fail_if_no_progress with_reducible apply mk_keeps)

theorem State.gpioApply_keeps {b0 : State} (s : State) (i : ℕ) (hs : Keeps b0 s) :
    Keeps b0 (State.gpioApply s i) := by
  unfold State.gpioApply
  repeat' (first
    | with_reducible first
      | assumption | apply State.setB_keeps | refine foldl_keeps ?_ ?_ | refine ite_keeps ?_ ?_ | refine pite_keeps ?_ ?_
      | exact none_okeeps | apply some_okeeps | refine oite_keeps ?_ ?_ | refine getD_keeps ?_ ?_ | refine omap_keeps ?_ ?_
      | apply id_keeps
    | intro _ _ _
    | intro _ _
    | split
    | with_reducible first
      | refine pair_keeps ?_ (by assumption) | refine pair_keeps2 ?_ (by assumption)
      | refine opt_keeps ?_ (by assumption)
    | dsimp only
    | fail_if_no_progress with_reducible apply mk_keeps)

theorem State.gpioWrite_keeps {b0 : State} (s : State) (i : ℕ) (w : Word) (hs : Keeps b0 s) :
    Keeps b0 (State.gpioWrite s i w) := by
  unfold State.gpioWrite
  repeat' (first
    | with_reducible first
      | assumption | apply State.gpioApply_keeps | apply State.storeDirect_keeps | refine foldl_keeps ?_ ?_
      | refine ite_keeps ?_ ?_ | refine pite_keeps ?_ ?_ | exact none_okeeps | apply some_okeeps | refine oite_keeps ?_ ?_
      | refine getD_keeps ?_ ?_ | refine omap_keeps ?_ ?_ | apply id_keeps
    | intro _ _ _
    | intro _ _
    | split
    | with_reducible first
      | refine pair_keeps ?_ (by assumption) | refine pair_keeps2 ?_ (by assumption)
      | refine opt_keeps ?_ (by assumption)
    | dsimp only
    | fail_if_no_progress with_reducible apply mk_keeps)

theorem wrGpioCfg_keeps {b0 : State} (q : Req) (i : ℕ) (w : Word) (s : State) (hs : Keeps b0 s) :
    Keeps b0 (wrGpioCfg q i w s) := by
  unfold wrGpioCfg
  repeat' (first
    | with_reducible first
      | assumption | apply State.gpioDrive_keeps | apply State.gpioWrite_keeps | apply State.write_keeps | apply settle_keeps
      | apply settleAt_keeps | refine foldl_keeps ?_ ?_ | refine ite_keeps ?_ ?_ | refine pite_keeps ?_ ?_ | exact none_okeeps
      | apply some_okeeps | refine oite_keeps ?_ ?_ | refine getD_keeps ?_ ?_ | refine omap_keeps ?_ ?_ | apply id_keeps
    | intro _ _ _
    | intro _ _
    | split
    | with_reducible first
      | refine pair_keeps ?_ (by assumption) | refine pair_keeps2 ?_ (by assumption)
      | refine opt_keeps ?_ (by assumption)
    | dsimp only
    | fail_if_no_progress with_reducible apply mk_keeps)

theorem State.jtag_keeps {b0 : State} (s : State) (i : JInst) (hs : Keeps b0 s) :
    Keeps b0 (State.jtag s i) := by
  unfold State.jtag
  repeat' (first
    | with_reducible first
      | assumption | refine foldl_keeps ?_ ?_ | refine ite_keeps ?_ ?_ | refine pite_keeps ?_ ?_ | exact none_okeeps
      | apply some_okeeps | refine oite_keeps ?_ ?_ | refine getD_keeps ?_ ?_ | refine omap_keeps ?_ ?_ | apply id_keeps
    | intro _ _ _
    | intro _ _
    | split
    | with_reducible first
      | refine pair_keeps ?_ (by assumption) | refine pair_keeps2 ?_ (by assumption)
      | refine opt_keeps ?_ (by assumption)
    | dsimp only
    | fail_if_no_progress with_reducible apply mk_keeps)

theorem State.debugHalt_keeps {b0 : State} (s : State) (es : List ℕ) (hs : Keeps b0 s) :
    Keeps b0 (State.debugHalt s es) := by
  unfold State.debugHalt
  repeat' (first
    | with_reducible first
      | assumption | apply State.enter_keeps | apply State.setEng_keeps | refine foldl_keeps ?_ ?_ | refine ite_keeps ?_ ?_
      | refine pite_keeps ?_ ?_ | exact none_okeeps | apply some_okeeps | refine oite_keeps ?_ ?_ | refine getD_keeps ?_ ?_
      | refine omap_keeps ?_ ?_ | apply id_keeps
    | intro _ _ _
    | intro _ _
    | split
    | with_reducible first
      | refine pair_keeps ?_ (by assumption) | refine pair_keeps2 ?_ (by assumption)
      | refine opt_keeps ?_ (by assumption)
    | dsimp only
    | fail_if_no_progress with_reducible apply mk_keeps)

theorem State.leftWatch_keeps {b0 : State} (s : State) (hs : Keeps b0 s) :
    Keeps b0 (State.leftWatch s) := by
  unfold State.leftWatch
  repeat' (first
    | with_reducible first
      | assumption | apply State.enter_keeps | refine foldl_keeps ?_ ?_ | refine ite_keeps ?_ ?_ | refine pite_keeps ?_ ?_
      | exact none_okeeps | apply some_okeeps | refine oite_keeps ?_ ?_ | refine getD_keeps ?_ ?_ | refine omap_keeps ?_ ?_
      | apply id_keeps
    | intro _ _ _
    | intro _ _
    | split
    | with_reducible first
      | refine pair_keeps ?_ (by assumption) | refine pair_keeps2 ?_ (by assumption)
      | refine opt_keeps ?_ (by assumption)
    | dsimp only
    | fail_if_no_progress with_reducible apply mk_keeps)

theorem wrRouteCfg_keeps {b0 : State} (q : Req) (i : ℕ) (w : Word) (s : State) (hs : Keeps b0 s) :
    Keeps b0 (wrRouteCfg q i w s) := by
  unfold wrRouteCfg
  repeat' (first
    | with_reducible first
      | assumption | apply State.setReg_keeps | apply State.write_keeps | refine foldl_keeps ?_ ?_ | refine ite_keeps ?_ ?_
      | refine pite_keeps ?_ ?_ | exact none_okeeps | apply some_okeeps | refine oite_keeps ?_ ?_ | refine getD_keeps ?_ ?_
      | refine omap_keeps ?_ ?_ | apply id_keeps
    | intro _ _ _
    | intro _ _
    | split
    | with_reducible first
      | refine pair_keeps ?_ (by assumption) | refine pair_keeps2 ?_ (by assumption)
      | refine opt_keeps ?_ (by assumption)
    | dsimp only
    | fail_if_no_progress with_reducible apply mk_keeps)

theorem State.frEvent_keeps {b0 : State} (s : State) (p : ℕ) (bit : ℕ) (hs : Keeps b0 s) :
    Keeps b0 (State.frEvent s p bit) := by
  unfold State.frEvent
  repeat' (first
    | with_reducible first
      | assumption | apply State.fireIf_keeps | refine foldl_keeps ?_ ?_ | refine ite_keeps ?_ ?_ | refine pite_keeps ?_ ?_
      | exact none_okeeps | apply some_okeeps | refine oite_keeps ?_ ?_ | refine getD_keeps ?_ ?_ | refine omap_keeps ?_ ?_
      | apply id_keeps
    | intro _ _ _
    | intro _ _
    | split
    | with_reducible first
      | refine pair_keeps ?_ (by assumption) | refine pair_keeps2 ?_ (by assumption)
      | refine opt_keeps ?_ (by assumption)
    | dsimp only
    | fail_if_no_progress with_reducible apply mk_keeps)

theorem State.frShow_keeps {b0 : State} (s : State) (p : ℕ) (st : ℕ) (hs : Keeps b0 s) :
    Keeps b0 (State.frShow s p st) := by
  unfold State.frShow
  repeat' (first
    | with_reducible first
      | assumption | apply State.frEvent_keeps | apply State.set_keeps | refine foldl_keeps ?_ ?_ | refine ite_keeps ?_ ?_
      | refine pite_keeps ?_ ?_ | exact none_okeeps | apply some_okeeps | refine oite_keeps ?_ ?_ | refine getD_keeps ?_ ?_
      | refine omap_keeps ?_ ?_ | apply id_keeps
    | intro _ _ _
    | intro _ _
    | split
    | with_reducible first
      | refine pair_keeps ?_ (by assumption) | refine pair_keeps2 ?_ (by assumption)
      | refine opt_keeps ?_ (by assumption)
    | dsimp only
    | fail_if_no_progress with_reducible apply mk_keeps)

theorem State.frPush_keeps {b0 : State} (s : State) (p : ℕ) (b : ℕ) (bytes : List Byte) (hs : Keeps b0 s) :
    Keeps b0
    (State.frPush s p b bytes) := by
  unfold State.frPush
  repeat' (first
    | with_reducible first
      | assumption | apply State.setFrPort_keeps | refine foldl_keeps ?_ ?_ | refine ite_keeps ?_ ?_ | refine pite_keeps ?_ ?_
      | exact none_okeeps | apply some_okeeps | refine oite_keeps ?_ ?_ | refine getD_keeps ?_ ?_ | refine omap_keeps ?_ ?_
      | apply id_keeps
    | intro _ _ _
    | intro _ _
    | split
    | with_reducible first
      | refine pair_keeps ?_ (by assumption) | refine pair_keeps2 ?_ (by assumption)
      | refine opt_keeps ?_ (by assumption)
    | dsimp only
    | fail_if_no_progress with_reducible apply mk_keeps)

theorem State.setFrSeq_keeps {b0 : State} (s : State) (k : ℕ) (cls : ℕ) (v : ℕ) (hs : Keeps b0 s) :
    Keeps b0
    (State.setFrSeq s k cls v) := by
  unfold State.setFrSeq
  repeat' (first
    | with_reducible first
      | assumption | refine foldl_keeps ?_ ?_ | refine ite_keeps ?_ ?_ | refine pite_keeps ?_ ?_ | exact none_okeeps
      | apply some_okeeps | refine oite_keeps ?_ ?_ | refine getD_keeps ?_ ?_ | refine omap_keeps ?_ ?_ | apply id_keeps
    | intro _ _ _
    | intro _ _
    | split
    | with_reducible first
      | refine pair_keeps ?_ (by assumption) | refine pair_keeps2 ?_ (by assumption)
      | refine opt_keeps ?_ (by assumption)
    | dsimp only
    | fail_if_no_progress with_reducible apply mk_keeps)

theorem State.frPut_keeps {b0 : State} (s : State) (p : ℕ) (q : ℕ) (ws : List Word) (hs : Keeps b0 s) :
    Keeps b0
    (State.frPut s p q ws).1 := by
  unfold State.frPut
  repeat' (first
    | with_reducible first
      | assumption | apply State.countDrop_keeps | apply State.qMeet_keeps | apply State.qPut_keeps | apply State.set_keeps
      | refine foldl_keeps ?_ ?_ | refine ite_keeps ?_ ?_ | refine pite_keeps ?_ ?_ | exact none_okeeps | apply some_okeeps
      | refine oite_keeps ?_ ?_ | refine getD_keeps ?_ ?_ | refine omap_keeps ?_ ?_ | apply id_keeps
    | intro _ _ _
    | intro _ _
    | split
    | with_reducible first
      | refine pair_keeps ?_ (by assumption) | refine pair_keeps2 ?_ (by assumption)
      | refine opt_keeps ?_ (by assumption)
    | dsimp only
    | fail_if_no_progress with_reducible apply mk_keeps)

theorem State.frComplete_keeps {b0 : State} (s : State) (p : ℕ) (k : ℕ) (cls : ℕ) (d : FrDone) (hs : Keeps b0 s) :
    Keeps b0
    (State.frComplete s p k cls d) := by
  unfold State.frComplete
  repeat' (first
    | with_reducible first
      | assumption | apply State.frEvent_keeps | apply State.frPut_keeps | apply State.memBytes_keeps | refine foldl_keeps ?_ ?_
      | refine ite_keeps ?_ ?_ | refine pite_keeps ?_ ?_ | exact none_okeeps | apply some_okeeps | refine oite_keeps ?_ ?_
      | refine getD_keeps ?_ ?_ | refine omap_keeps ?_ ?_ | apply id_keeps
    | intro _ _ _
    | intro _ _
    | split
    | with_reducible first
      | refine pair_keeps ?_ (by assumption) | refine pair_keeps2 ?_ (by assumption)
      | refine opt_keeps ?_ (by assumption)
    | dsimp only
    | fail_if_no_progress with_reducible apply mk_keeps)

theorem State.frFail_keeps {b0 : State} (s : State) (p : ℕ) (r : FrReq) (status : ℕ) (hs : Keeps b0 s) :
    Keeps b0
    (State.frFail s p r status) := by
  unfold State.frFail
  repeat' (first
    | with_reducible first
      | assumption | apply State.frComplete_keeps | refine foldl_keeps ?_ ?_ | refine ite_keeps ?_ ?_ | refine pite_keeps ?_ ?_
      | exact none_okeeps | apply some_okeeps | refine oite_keeps ?_ ?_ | refine getD_keeps ?_ ?_ | refine omap_keeps ?_ ?_
      | apply id_keeps
    | intro _ _ _
    | intro _ _
    | split
    | with_reducible first
      | refine pair_keeps ?_ (by assumption) | refine pair_keeps2 ?_ (by assumption)
      | refine opt_keeps ?_ (by assumption)
    | dsimp only
    | fail_if_no_progress with_reducible apply mk_keeps)

theorem State.frNoReq_keeps {b0 : State} (s : State) (p : ℕ) (k : ℕ) (cls : ℕ) (status : ℕ) (tag : ℕ) (late : Bool) (hs : Keeps b0 s)
    :
    Keeps b0 (State.frNoReq s p k cls status tag late) := by
  unfold State.frNoReq
  repeat' (first
    | with_reducible first
      | assumption | apply State.frComplete_keeps | apply State.freeWord_keeps | refine foldl_keeps ?_ ?_
      | refine ite_keeps ?_ ?_ | refine pite_keeps ?_ ?_ | exact none_okeeps | apply some_okeeps | refine oite_keeps ?_ ?_
      | refine getD_keeps ?_ ?_ | refine omap_keeps ?_ ?_ | apply id_keeps
    | intro _ _ _
    | intro _ _
    | split
    | with_reducible first
      | refine pair_keeps ?_ (by assumption) | refine pair_keeps2 ?_ (by assumption)
      | refine opt_keeps ?_ (by assumption)
    | dsimp only
    | fail_if_no_progress with_reducible apply mk_keeps)

theorem State.frEndAll_keeps {b0 : State} (s : State) (p : ℕ) (hs : Keeps b0 s) :
    Keeps b0 (State.frEndAll s p) := by
  unfold State.frEndAll
  repeat' (first
    | with_reducible first
      | assumption | apply State.frFail_keeps | apply State.setFrPort_keeps | refine foldl_keeps ?_ ?_ | refine ite_keeps ?_ ?_
      | refine pite_keeps ?_ ?_ | exact none_okeeps | apply some_okeeps | refine oite_keeps ?_ ?_ | refine getD_keeps ?_ ?_
      | refine omap_keeps ?_ ?_ | apply id_keeps
    | intro _ _ _
    | intro _ _
    | split
    | with_reducible first
      | refine pair_keeps ?_ (by assumption) | refine pair_keeps2 ?_ (by assumption)
      | refine opt_keeps ?_ (by assumption)
    | dsimp only
    | fail_if_no_progress with_reducible apply mk_keeps)

theorem State.frLeave_keeps {b0 : State} (s : State) (p : ℕ) (st : ℕ) (hs : Keeps b0 s) :
    Keeps b0 (State.frLeave s p st) := by
  unfold State.frLeave
  repeat' (first
    | with_reducible first
      | assumption | apply State.frEndAll_keeps | apply State.frShow_keeps | apply State.set_keeps | refine foldl_keeps ?_ ?_
      | refine ite_keeps ?_ ?_ | refine pite_keeps ?_ ?_ | exact none_okeeps | apply some_okeeps | refine oite_keeps ?_ ?_
      | refine getD_keeps ?_ ?_ | refine omap_keeps ?_ ?_ | apply id_keeps
    | intro _ _ _
    | intro _ _
    | split
    | with_reducible first
      | refine pair_keeps ?_ (by assumption) | refine pair_keeps2 ?_ (by assumption)
      | refine opt_keeps ?_ (by assumption)
    | dsimp only
    | fail_if_no_progress with_reducible apply mk_keeps)

theorem State.frEnum_keeps {b0 : State} (s : State) (p : ℕ) (hs : Keeps b0 s) :
    Keeps b0 (State.frEnum s p) := by
  unfold State.frEnum
  repeat' (first
    | with_reducible first
      | assumption | apply State.frLeave_keeps | apply State.frPush_keeps | apply State.freeWord_keeps
      | apply State.setFrPort_keeps | refine foldl_keeps ?_ ?_ | refine ite_keeps ?_ ?_ | refine pite_keeps ?_ ?_
      | exact none_okeeps | apply some_okeeps | refine oite_keeps ?_ ?_ | refine getD_keeps ?_ ?_ | refine omap_keeps ?_ ?_
      | apply id_keeps
    | intro _ _ _
    | intro _ _
    | split
    | with_reducible first
      | refine pair_keeps ?_ (by assumption) | refine pair_keeps2 ?_ (by assumption)
      | refine opt_keeps ?_ (by assumption)
    | dsimp only
    | fail_if_no_progress with_reducible apply mk_keeps)

theorem State.frSync_keeps {b0 : State} (s : State) (p : ℕ) (hs : Keeps b0 s) :
    Keeps b0 (State.frSync s p) := by
  unfold State.frSync
  repeat' (first
    | with_reducible first
      | assumption | apply State.frEnum_keeps | apply State.frLeave_keeps | refine foldl_keeps ?_ ?_ | refine ite_keeps ?_ ?_
      | refine pite_keeps ?_ ?_ | exact none_okeeps | apply some_okeeps | refine oite_keeps ?_ ?_ | refine getD_keeps ?_ ?_
      | refine omap_keeps ?_ ?_ | apply id_keeps
    | intro _ _ _
    | intro _ _
    | split
    | with_reducible first
      | refine pair_keeps ?_ (by assumption) | refine pair_keeps2 ?_ (by assumption)
      | refine opt_keeps ?_ (by assumption)
    | dsimp only
    | fail_if_no_progress with_reducible apply mk_keeps)

theorem State.frWake_keeps {b0 : State} (s : State) (p : ℕ) (hs : Keeps b0 s) :
    Keeps b0 (State.frWake s p) := by
  unfold State.frWake
  repeat' (first
    | with_reducible first
      | assumption | apply State.frPush_keeps | apply State.frSync_keeps | refine foldl_keeps ?_ ?_ | refine ite_keeps ?_ ?_
      | refine pite_keeps ?_ ?_ | exact none_okeeps | apply some_okeeps | refine oite_keeps ?_ ?_ | refine getD_keeps ?_ ?_
      | refine omap_keeps ?_ ?_ | apply id_keeps
    | intro _ _ _
    | intro _ _
    | split
    | with_reducible first
      | refine pair_keeps ?_ (by assumption) | refine pair_keeps2 ?_ (by assumption)
      | refine opt_keeps ?_ (by assumption)
    | dsimp only
    | fail_if_no_progress with_reducible apply mk_keeps)

theorem State.frEnumReady_keeps {b0 : State} (s : State) (p : ℕ) (hs : Keeps b0 s) :
    Keeps b0 (State.frEnumReady s p) := by
  unfold State.frEnumReady
  repeat' (first
    | with_reducible first
      | assumption | apply State.frEnum_keeps | refine foldl_keeps ?_ ?_ | refine ite_keeps ?_ ?_ | refine pite_keeps ?_ ?_
      | exact none_okeeps | apply some_okeeps | refine oite_keeps ?_ ?_ | refine getD_keeps ?_ ?_ | refine omap_keeps ?_ ?_
      | apply id_keeps
    | intro _ _ _
    | intro _ _
    | split
    | with_reducible first
      | refine pair_keeps ?_ (by assumption) | refine pair_keeps2 ?_ (by assumption)
      | refine opt_keeps ?_ (by assumption)
    | dsimp only
    | fail_if_no_progress with_reducible apply mk_keeps)

theorem State.frPend_keeps {b0 : State} (s : State) (p : ℕ) (node : ℕ) (b : Bool) (hs : Keeps b0 s) :
    Keeps b0
    (State.frPend s p node b) := by
  unfold State.frPend
  repeat' (first
    | with_reducible first
      | assumption | apply State.setBit_keeps | refine foldl_keeps ?_ ?_ | refine ite_keeps ?_ ?_ | refine pite_keeps ?_ ?_
      | exact none_okeeps | apply some_okeeps | refine oite_keeps ?_ ?_ | refine getD_keeps ?_ ?_ | refine omap_keeps ?_ ?_
      | apply id_keeps
    | intro _ _ _
    | intro _ _
    | split
    | with_reducible first
      | refine pair_keeps ?_ (by assumption) | refine pair_keeps2 ?_ (by assumption)
      | refine opt_keeps ?_ (by assumption)
    | dsimp only
    | fail_if_no_progress with_reducible apply mk_keeps)

theorem State.frOff_keeps {b0 : State} (s : State) (p : ℕ) (hs : Keeps b0 s) :
    Keeps b0 (State.frOff s p) := by
  unfold State.frOff
  repeat' (first
    | with_reducible first
      | assumption | apply State.frLeave_keeps | apply State.setFrPort_keeps | apply State.setReg_keeps
      | refine foldl_keeps ?_ ?_ | refine ite_keeps ?_ ?_ | refine pite_keeps ?_ ?_ | exact none_okeeps | apply some_okeeps
      | refine oite_keeps ?_ ?_ | refine getD_keeps ?_ ?_ | refine omap_keeps ?_ ?_ | apply id_keeps
    | intro _ _ _
    | intro _ _
    | split
    | with_reducible first
      | refine pair_keeps ?_ (by assumption) | refine pair_keeps2 ?_ (by assumption)
      | refine opt_keeps ?_ (by assumption)
    | dsimp only
    | fail_if_no_progress with_reducible apply mk_keeps)

theorem State.frCtrl_keeps {b0 : State} (s : State) (p : ℕ) (w : Word) (hs : Keeps b0 s) :
    Keeps b0 (State.frCtrl s p w) := by
  unfold State.frCtrl
  repeat' (first
    | with_reducible first
      | assumption | apply State.frEnum_keeps | apply State.frEnumReady_keeps | apply State.frPend_keeps
      | apply State.setFrPort_keeps | refine foldl_keeps ?_ ?_ | refine ite_keeps ?_ ?_ | refine pite_keeps ?_ ?_
      | exact none_okeeps | apply some_okeeps | refine oite_keeps ?_ ?_ | refine getD_keeps ?_ ?_ | refine omap_keeps ?_ ?_
      | apply id_keeps
    | intro _ _ _
    | intro _ _
    | split
    | with_reducible first
      | refine pair_keeps ?_ (by assumption) | refine pair_keeps2 ?_ (by assumption)
      | refine opt_keeps ?_ (by assumption)
    | dsimp only
    | fail_if_no_progress with_reducible apply mk_keeps)

theorem wrFrCtrl_keeps {b0 : State} (q : Req) (p : ℕ) (w : Word) (s : State) (hs : Keeps b0 s) :
    Keeps b0 (wrFrCtrl q p w s) := by
  unfold wrFrCtrl
  repeat' (first
    | with_reducible first
      | assumption | apply State.frCtrl_keeps | apply State.write_keeps | refine foldl_keeps ?_ ?_ | refine ite_keeps ?_ ?_
      | refine pite_keeps ?_ ?_ | exact none_okeeps | apply some_okeeps | refine oite_keeps ?_ ?_ | refine getD_keeps ?_ ?_
      | refine omap_keeps ?_ ?_ | apply id_keeps
    | intro _ _ _
    | intro _ _
    | split
    | with_reducible first
      | refine pair_keeps ?_ (by assumption) | refine pair_keeps2 ?_ (by assumption)
      | refine opt_keeps ?_ (by assumption)
    | dsimp only
    | fail_if_no_progress with_reducible apply mk_keeps)

theorem State.frCfg_keeps {b0 : State} (s : State) (p : ℕ) (w : Word) (hs : Keeps b0 s) :
    Keeps b0 (State.frCfg s p w) := by
  unfold State.frCfg
  repeat' (first
    | with_reducible first
      | assumption | apply State.frOff_keeps | apply State.frWake_keeps | apply State.set_keeps | apply State.storeDirect_keeps
      | refine foldl_keeps ?_ ?_ | refine ite_keeps ?_ ?_ | refine pite_keeps ?_ ?_ | exact none_okeeps | apply some_okeeps
      | refine oite_keeps ?_ ?_ | refine getD_keeps ?_ ?_ | refine omap_keeps ?_ ?_ | apply id_keeps
    | intro _ _ _
    | intro _ _
    | split
    | with_reducible first
      | refine pair_keeps ?_ (by assumption) | refine pair_keeps2 ?_ (by assumption)
      | refine opt_keeps ?_ (by assumption)
    | dsimp only
    | fail_if_no_progress with_reducible apply mk_keeps)

theorem wrFrCfg_keeps {b0 : State} (q : Req) (p : ℕ) (w : Word) (s : State) (hs : Keeps b0 s) :
    Keeps b0 (wrFrCfg q p w s) := by
  unfold wrFrCfg
  repeat' (first
    | with_reducible first
      | assumption | apply State.frCfg_keeps | apply State.write_keeps | refine foldl_keeps ?_ ?_ | refine ite_keeps ?_ ?_
      | refine pite_keeps ?_ ?_ | exact none_okeeps | apply some_okeeps | refine oite_keeps ?_ ?_ | refine getD_keeps ?_ ?_
      | refine omap_keeps ?_ ?_ | apply id_keeps
    | intro _ _ _
    | intro _ _
    | split
    | with_reducible first
      | refine pair_keeps ?_ (by assumption) | refine pair_keeps2 ?_ (by assumption)
      | refine opt_keeps ?_ (by assumption)
    | dsimp only
    | fail_if_no_progress with_reducible apply mk_keeps)

theorem wrPtMap_keeps {b0 : State} (q : Req) (k : ℕ) (w : Word) (s : State) (hs : Keeps b0 s) :
    Keeps b0 (wrPtMap q k w s) := by
  unfold wrPtMap
  repeat' (first
    | with_reducible first
      | assumption | apply State.refuse_keeps | apply State.setReg_keeps | apply State.write_keeps | refine foldl_keeps ?_ ?_
      | refine ite_keeps ?_ ?_ | refine pite_keeps ?_ ?_ | exact none_okeeps | apply some_okeeps | refine oite_keeps ?_ ?_
      | refine getD_keeps ?_ ?_ | refine omap_keeps ?_ ?_ | apply id_keeps
    | intro _ _ _
    | intro _ _
    | split
    | with_reducible first
      | refine pair_keeps ?_ (by assumption) | refine pair_keeps2 ?_ (by assumption)
      | refine opt_keeps ?_ (by assumption)
    | dsimp only
    | fail_if_no_progress with_reducible apply mk_keeps)

theorem State.frClearSeq_keeps {b0 : State} (s : State) (p : ℕ) (hs : Keeps b0 s) :
    Keeps b0 (State.frClearSeq s p) := by
  unfold State.frClearSeq
  repeat' (first
    | with_reducible first
      | assumption | refine foldl_keeps ?_ ?_ | refine ite_keeps ?_ ?_ | refine pite_keeps ?_ ?_ | exact none_okeeps
      | apply some_okeeps | refine oite_keeps ?_ ?_ | refine getD_keeps ?_ ?_ | refine omap_keeps ?_ ?_ | apply id_keeps
    | intro _ _ _
    | intro _ _
    | split
    | with_reducible first
      | refine pair_keeps ?_ (by assumption) | refine pair_keeps2 ?_ (by assumption)
      | refine opt_keeps ?_ (by assumption)
    | dsimp only
    | fail_if_no_progress with_reducible apply mk_keeps)

theorem State.frSend_keeps {b0 : State} (s : State) (p : ℕ) (b : ℕ) (r : FrReq) (hs : Keeps b0 s) :
    Keeps b0 (State.frSend s p b r)
    := by
  unfold State.frSend
  repeat' (first
    | with_reducible first
      | assumption | apply State.frPush_keeps | apply State.setFrPort_keeps | refine foldl_keeps ?_ ?_ | refine ite_keeps ?_ ?_
      | refine pite_keeps ?_ ?_ | exact none_okeeps | apply some_okeeps | refine oite_keeps ?_ ?_ | refine getD_keeps ?_ ?_
      | refine omap_keeps ?_ ?_ | apply id_keeps
    | intro _ _ _
    | intro _ _
    | split
    | with_reducible first
      | refine pair_keeps ?_ (by assumption) | refine pair_keeps2 ?_ (by assumption)
      | refine opt_keeps ?_ (by assumption)
    | dsimp only
    | fail_if_no_progress with_reducible apply mk_keeps)

theorem State.frCast_keeps {b0 : State} (s : State) (p : ℕ) (b : ℕ) (r : FrReq) (hs : Keeps b0 s) :
    Keeps b0 (State.frCast s p b r)
    := by
  unfold State.frCast
  repeat' (first
    | with_reducible first
      | assumption | apply State.frPush_keeps | apply State.setFrPort_keeps | refine foldl_keeps ?_ ?_ | refine ite_keeps ?_ ?_
      | refine pite_keeps ?_ ?_ | exact none_okeeps | apply some_okeeps | refine oite_keeps ?_ ?_ | refine getD_keeps ?_ ?_
      | refine omap_keeps ?_ ?_ | apply id_keeps
    | intro _ _ _
    | intro _ _
    | split
    | with_reducible first
      | refine pair_keeps ?_ (by assumption) | refine pair_keeps2 ?_ (by assumption)
      | refine opt_keeps ?_ (by assumption)
    | dsimp only
    | fail_if_no_progress with_reducible apply mk_keeps)

theorem State.frPoll_keeps {b0 : State} (s : State) (p e due : Nat) (hs : Keeps b0 s) : OKeeps b0 (s.frPoll p e due) := by
  unfold State.frPoll
  extract_lets w node len src x late b soon s1 r t
  have h1 : Keeps b0 s1 := State.noteUe_keeps _ _ _ hs
  split
  · exact some_okeeps hs
  · refine oite_keeps (some_okeeps (State.frNoReq_keeps _ _ _ _ _ _ _ hs)) (oite_keeps none_okeeps (oite_keeps ?_ ?_))
    · exact some_okeeps (State.frNoReq_keeps _ _ _ _ _ _ _ (State.set_keeps _ _ _ _ h1))
    · exact some_okeeps (State.frSend_keeps _ _ _ _ (State.setFrSeq_keeps _ _ _ _ (State.setFrPort_keeps _ _ _ h1)))

theorem State.frPolled_keeps {b0 : State} (s : State) (p : ℕ) (e : ℕ) (due : ℕ) (hs : Keeps b0 s) : OKeeps b0 (s.frPolled p e due) := by
  unfold State.frPolled
  dsimp only
  split
  · exact omap_keeps (State.frPoll_keeps _ _ _ _ (State.setFrPort_keeps _ _ _ hs)) (fun t h => State.setFrPort_keeps _ _ _ h)
  · split <;> exact State.frPoll_keeps _ _ _ _ (State.setFrPort_keeps _ _ _ hs)

theorem State.frDrain_keeps {b0 : State} (p : Nat) (l : List (Nat × Nat)) (s : State) (hs : Keeps b0 s) :
    Keeps b0 (State.frDrain p l s) := by
  induction l generalizing s with
  | nil => exact hs
  | cons y l ih =>
    rw [State.frDrain]
    split
    · exact ih _ (opt_keeps (State.frPolled_keeps _ _ _ _ hs) (by assumption))
    · exact hs

theorem State.frNote_keeps {b0 : State} (s : State) (ws : List Word) (hs : Keeps b0 s) :
    Keeps b0 (State.frNote s ws) := by
  unfold State.frNote
  repeat' (first
    | with_reducible first
      | assumption | apply State.noteUe_keeps | refine foldl_keeps ?_ ?_ | refine ite_keeps ?_ ?_ | refine pite_keeps ?_ ?_
      | exact none_okeeps | apply some_okeeps | refine oite_keeps ?_ ?_ | refine getD_keeps ?_ ?_ | refine omap_keeps ?_ ?_
      | apply id_keeps
    | intro _ _ _
    | intro _ _
    | split
    | with_reducible first
      | refine pair_keeps ?_ (by assumption) | refine pair_keeps2 ?_ (by assumption)
      | refine opt_keeps ?_ (by assumption)
    | dsimp only
    | fail_if_no_progress with_reducible apply mk_keeps)

theorem State.frServe_keeps {b0 : State} (s : State) (p b : Nat) (ns : List Nat) (hs : Keeps b0 s) :
    Keeps b0 (s.frServe p b ns) := by
  induction ns generalizing s with
  | nil => exact hs
  | cons n ns ih =>
    rw [State.frServe]
    split
    · exact ih _ hs
    · split
      · exact ih _ (State.frPend_keeps _ _ _ _ (State.flagIf_keeps _ _ _ _ (State.qMeet_keeps _ _ _ hs)))
      · have hq := fun k ws => State.frNote_keeps _ ws (State.qGet_keeps _ (4 * k) (State.qMeet_keeps s (4 * k) true hs))
        split
        · exact State.frNoReq_keeps _ _ _ _ _ _ _ (State.setFrPort_keeps _ _ _ (hq _ _))
        · refine ite_keeps (ite_keeps ?_ ?_) hs
          · exact State.frCast_keeps _ _ _ _ (State.setFrSeq_keeps _ _ _ _ (State.setFrPort_keeps _ _ _ (hq _ _)))
          · exact State.frSend_keeps _ _ _ _ (State.setFrSeq_keeps _ _ _ _ (State.setFrPort_keeps _ _ _ (hq _ _)))

theorem State.frError_keeps {b0 : State} (s : State) (p : ℕ) (r : FrReq) (status : ℕ) (hs : Keeps b0 s) :
    Keeps b0
    (State.frError s p r status) := by
  unfold State.frError
  repeat' (first
    | with_reducible first
      | assumption | apply State.frEnumReady_keeps | apply State.frFail_keeps | apply State.incSat_keeps
      | apply State.setFrPort_keeps | refine foldl_keeps ?_ ?_ | refine ite_keeps ?_ ?_ | refine pite_keeps ?_ ?_
      | exact none_okeeps | apply some_okeeps | refine oite_keeps ?_ ?_ | refine getD_keeps ?_ ?_ | refine omap_keeps ?_ ?_
      | apply id_keeps
    | intro _ _ _
    | intro _ _
    | split
    | with_reducible first
      | refine pair_keeps ?_ (by assumption) | refine pair_keeps2 ?_ (by assumption)
      | refine opt_keeps ?_ (by assumption)
    | dsimp only
    | fail_if_no_progress with_reducible apply mk_keeps)

theorem State.frAlarm_keeps {b0 : State} (s : State) (p : ℕ) (k : ℕ) (d : FrDone) (hs : Keeps b0 s) :
    Keeps b0 (State.frAlarm s p k d) := by
  unfold State.frAlarm
  repeat' (first
    | with_reducible first
      | assumption | apply State.frEvent_keeps | apply State.frPut_keeps | apply State.set_keeps | refine foldl_keeps ?_ ?_
      | refine ite_keeps ?_ ?_ | refine pite_keeps ?_ ?_ | exact none_okeeps | apply some_okeeps | refine oite_keeps ?_ ?_
      | refine getD_keeps ?_ ?_ | refine omap_keeps ?_ ?_ | apply id_keeps
    | intro _ _ _
    | intro _ _
    | split
    | with_reducible first
      | refine pair_keeps ?_ (by assumption) | refine pair_keeps2 ?_ (by assumption)
      | refine opt_keeps ?_ (by assumption)
    | dsimp only
    | fail_if_no_progress with_reducible apply mk_keeps)

theorem State.frAnswer_keeps {b0 : State} (s : State) (p : ℕ) (f : FrFrame) (r : FrReq) (m : FrMatch) (hs : Keeps b0 s) :
    Keeps b0
    (State.frAnswer s p f r m) := by
  unfold State.frAnswer
  repeat' (first
    | with_reducible first
      | assumption | apply State.frAlarm_keeps | apply State.frComplete_keeps | apply State.frEnumReady_keeps
      | apply State.setFrPort_keeps | refine foldl_keeps ?_ ?_ | refine ite_keeps ?_ ?_ | refine pite_keeps ?_ ?_
      | exact none_okeeps | apply some_okeeps | refine oite_keeps ?_ ?_ | refine getD_keeps ?_ ?_ | refine omap_keeps ?_ ?_
      | apply id_keeps
    | intro _ _ _
    | intro _ _
    | split
    | with_reducible first
      | refine pair_keeps ?_ (by assumption) | refine pair_keeps2 ?_ (by assumption)
      | refine opt_keeps ?_ (by assumption)
    | dsimp only
    | fail_if_no_progress with_reducible apply mk_keeps)

theorem State.frValid_keeps {b0 : State} (s : State) (p : ℕ) (f : FrFrame) (hs : Keeps b0 s) :
    Keeps b0 (State.frValid s p f) := by
  unfold State.frValid
  repeat' (first
    | with_reducible first
      | assumption | apply State.frAnswer_keeps | apply State.frError_keeps | apply State.incSat_keeps
      | refine foldl_keeps ?_ ?_ | refine ite_keeps ?_ ?_ | refine pite_keeps ?_ ?_ | exact none_okeeps | apply some_okeeps
      | refine oite_keeps ?_ ?_ | refine getD_keeps ?_ ?_ | refine omap_keeps ?_ ?_ | apply id_keeps
    | intro _ _ _
    | intro _ _
    | split
    | with_reducible first
      | refine pair_keeps ?_ (by assumption) | refine pair_keeps2 ?_ (by assumption)
      | refine opt_keeps ?_ (by assumption)
    | dsimp only
    | fail_if_no_progress with_reducible apply mk_keeps)

theorem State.frInvalid_keeps {b0 : State} (s : State) (p : ℕ) (fld : Fld) (hs : Keeps b0 s) :
    Keeps b0 (State.frInvalid s p fld)
    := by
  unfold State.frInvalid
  repeat' (first
    | with_reducible first
      | assumption | apply State.frError_keeps | apply State.incSat_keeps | refine foldl_keeps ?_ ?_ | refine ite_keeps ?_ ?_
      | refine pite_keeps ?_ ?_ | exact none_okeeps | apply some_okeeps | refine oite_keeps ?_ ?_ | refine getD_keeps ?_ ?_
      | refine omap_keeps ?_ ?_ | apply id_keeps
    | intro _ _ _
    | intro _ _
    | split
    | with_reducible first
      | refine pair_keeps ?_ (by assumption) | refine pair_keeps2 ?_ (by assumption)
      | refine opt_keeps ?_ (by assumption)
    | dsimp only
    | fail_if_no_progress with_reducible apply mk_keeps)

end Sys2Proof.Machine
end

