-- ==== Sys2Proof/Laws/KeepsReset.lean ====
section
/-!
SUPPORT. What `Keeps` says, one lemma per operation: Swimlink, engine control, resets, loads, low power, NVM, availability, clutch control.
-/

namespace Sys2Proof.Machine

set_option linter.unusedTactic false
set_option linter.unreachableTactic false

theorem State.setSwlState_keeps {b0 : State} (s : State) (l : ℕ) (st : ℕ) (hs : Keeps b0 s) :
    Keeps b0 (State.setSwlState s l st)
    := by
  unfold State.setSwlState
  repeat' (first
    | with_reducible first
      | assumption | apply State.set_keeps | refine foldl_keeps ?_ ?_ | refine ite_keeps ?_ ?_ | refine pite_keeps ?_ ?_
      | exact none_okeeps | apply some_okeeps | refine oite_keeps ?_ ?_ | refine getD_keeps ?_ ?_ | refine omap_keeps ?_ ?_
      | apply id_keeps
    | intro _ _ _
    | intro _ _
    | split
    | with_reducible first
      | refine pair_keeps ?_ (by assumption) | refine pair_keeps2 ?_ (by assumption)
      | refine opt_keeps ?_ (by assumption)
    | dsimp only
    | fail_if_no_progress with_reducible apply mk_keeps)

theorem State.holdover_keeps {b0 : State} (s : State) (l : ℕ) (hs : Keeps b0 s) :
    Keeps b0 (State.holdover s l) := by
  unfold State.holdover
  repeat' (first
    | with_reducible first
      | assumption | apply State.set_keeps | refine foldl_keeps ?_ ?_ | refine ite_keeps ?_ ?_ | refine pite_keeps ?_ ?_
      | exact none_okeeps | apply some_okeeps | refine oite_keeps ?_ ?_ | refine getD_keeps ?_ ?_ | refine omap_keeps ?_ ?_
      | apply id_keeps
    | intro _ _ _
    | intro _ _
    | split
    | with_reducible first
      | refine pair_keeps ?_ (by assumption) | refine pair_keeps2 ?_ (by assumption)
      | refine opt_keeps ?_ (by assumption)
    | dsimp only
    | fail_if_no_progress with_reducible apply mk_keeps)

theorem State.fwdFail_keeps {b0 : State} (s : State) (k : ℕ) (l : ℕ) (hs : Keeps b0 s) :
    Keeps b0 (State.fwdFail s k l) := by
  unfold State.fwdFail
  repeat' (first
    | with_reducible first
      | assumption | apply State.set_keeps | refine foldl_keeps ?_ ?_ | refine ite_keeps ?_ ?_ | refine pite_keeps ?_ ?_
      | exact none_okeeps | apply some_okeeps | refine oite_keeps ?_ ?_ | refine getD_keeps ?_ ?_ | refine omap_keeps ?_ ?_
      | apply id_keeps
    | intro _ _ _
    | intro _ _
    | split
    | with_reducible first
      | refine pair_keeps ?_ (by assumption) | refine pair_keeps2 ?_ (by assumption)
      | refine opt_keeps ?_ (by assumption)
    | dsimp only
    | fail_if_no_progress with_reducible apply mk_keeps)

theorem State.lose_keeps {b0 : State} (s : State) (l : ℕ) (o : SwlOut) (hs : Keeps b0 s) :
    Keeps b0 (State.lose s l o) := by
  unfold State.lose
  repeat' (first
    | with_reducible first
      | assumption | apply State.endRemote_keeps | apply State.fwdFail_keeps | refine foldl_keeps ?_ ?_ | refine ite_keeps ?_ ?_
      | refine pite_keeps ?_ ?_ | exact none_okeeps | apply some_okeeps | refine oite_keeps ?_ ?_ | refine getD_keeps ?_ ?_
      | refine omap_keeps ?_ ?_ | apply id_keeps
    | intro _ _ _
    | intro _ _
    | split
    | with_reducible first
      | refine pair_keeps ?_ (by assumption) | refine pair_keeps2 ?_ (by assumption)
      | refine opt_keeps ?_ (by assumption)
    | dsimp only
    | fail_if_no_progress with_reducible apply mk_keeps)

theorem State.dropTraffic_keeps {b0 : State} (s : State) (l : ℕ) (hs : Keeps b0 s) :
    Keeps b0 (State.dropTraffic s l) := by
  unfold State.dropTraffic
  repeat' (first
    | with_reducible first
      | assumption | apply State.lose_keeps | apply State.setSwlPort_keeps | refine foldl_keeps ?_ ?_ | refine ite_keeps ?_ ?_
      | refine pite_keeps ?_ ?_ | exact none_okeeps | apply some_okeeps | refine oite_keeps ?_ ?_ | refine getD_keeps ?_ ?_
      | refine omap_keeps ?_ ?_ | apply id_keeps
    | intro _ _ _
    | intro _ _
    | split
    | with_reducible first
      | refine pair_keeps ?_ (by assumption) | refine pair_keeps2 ?_ (by assumption)
      | refine opt_keeps ?_ (by assumption)
    | dsimp only
    | fail_if_no_progress with_reducible apply mk_keeps)

theorem State.swlDown_keeps {b0 : State} (s : State) (l : ℕ) (hs : Keeps b0 s) :
    Keeps b0 (State.swlDown s l) := by
  unfold State.swlDown
  repeat' (first
    | with_reducible first
      | assumption | apply State.dropTraffic_keeps | apply State.holdover_keeps | apply State.setSwlPort_keeps
      | apply State.setSwlState_keeps | refine foldl_keeps ?_ ?_ | refine ite_keeps ?_ ?_ | refine pite_keeps ?_ ?_
      | exact none_okeeps | apply some_okeeps | refine oite_keeps ?_ ?_ | refine getD_keeps ?_ ?_ | refine omap_keeps ?_ ?_
      | apply id_keeps
    | intro _ _ _
    | intro _ _
    | split
    | with_reducible first
      | refine pair_keeps ?_ (by assumption) | refine pair_keeps2 ?_ (by assumption)
      | refine opt_keeps ?_ (by assumption)
    | dsimp only
    | fail_if_no_progress with_reducible apply mk_keeps)

theorem State.swlCfg_keeps {b0 : State} (s : State) (l : ℕ) (w : Word) (hs : Keeps b0 s) :
    Keeps b0 (State.swlCfg s l w) := by
  unfold State.swlCfg
  repeat' (first
    | with_reducible first
      | assumption | apply State.setSwlPort_keeps | apply State.storeDirect_keeps | apply State.swlDown_keeps
      | refine foldl_keeps ?_ ?_ | refine ite_keeps ?_ ?_ | refine pite_keeps ?_ ?_ | exact none_okeeps | apply some_okeeps
      | refine oite_keeps ?_ ?_ | refine getD_keeps ?_ ?_ | refine omap_keeps ?_ ?_ | apply id_keeps
    | intro _ _ _
    | intro _ _
    | split
    | with_reducible first
      | refine pair_keeps ?_ (by assumption) | refine pair_keeps2 ?_ (by assumption)
      | refine opt_keeps ?_ (by assumption)
    | dsimp only
    | fail_if_no_progress with_reducible apply mk_keeps)

theorem wrSwlCfg_keeps {b0 : State} (q : Req) (l : ℕ) (w : Word) (s : State) (hs : Keeps b0 s) :
    Keeps b0 (wrSwlCfg q l w s) := by
  unfold wrSwlCfg
  repeat' (first
    | with_reducible first
      | assumption | apply State.swlCfg_keeps | apply State.write_keeps | refine foldl_keeps ?_ ?_ | refine ite_keeps ?_ ?_
      | refine pite_keeps ?_ ?_ | exact none_okeeps | apply some_okeeps | refine oite_keeps ?_ ?_ | refine getD_keeps ?_ ?_
      | refine omap_keeps ?_ ?_ | apply id_keeps
    | intro _ _ _
    | intro _ _
    | split
    | with_reducible first
      | refine pair_keeps ?_ (by assumption) | refine pair_keeps2 ?_ (by assumption)
      | refine opt_keeps ?_ (by assumption)
    | dsimp only
    | fail_if_no_progress with_reducible apply mk_keeps)

theorem State.swlAligned_keeps {b0 : State} (s : State) (l : ℕ) (hs : Keeps b0 s) :
    Keeps b0 (State.swlAligned s l) := by
  unfold State.swlAligned
  repeat' (first
    | with_reducible first
      | assumption | apply State.setSwlPort_keeps | apply State.setSwlState_keeps | refine foldl_keeps ?_ ?_
      | refine ite_keeps ?_ ?_ | refine pite_keeps ?_ ?_ | exact none_okeeps | apply some_okeeps | refine oite_keeps ?_ ?_
      | refine getD_keeps ?_ ?_ | refine omap_keeps ?_ ?_ | apply id_keeps
    | intro _ _ _
    | intro _ _
    | split
    | with_reducible first
      | refine pair_keeps ?_ (by assumption) | refine pair_keeps2 ?_ (by assumption)
      | refine opt_keeps ?_ (by assumption)
    | dsimp only
    | fail_if_no_progress with_reducible apply mk_keeps)

theorem State.sendCrd_keeps {b0 : State} (s : State) (l : ℕ) (nak : Bool) (reqCr : BitVec 8) (rspCr : BitVec 8) (hs : Keeps b0 s)
    :
    Keeps b0 (State.sendCrd s l nak reqCr rspCr) := by
  unfold State.sendCrd
  repeat' (first
    | with_reducible first
      | assumption | apply State.setSwlPort_keeps | refine foldl_keeps ?_ ?_ | refine ite_keeps ?_ ?_ | refine pite_keeps ?_ ?_
      | exact none_okeeps | apply some_okeeps | refine oite_keeps ?_ ?_ | refine getD_keeps ?_ ?_ | refine omap_keeps ?_ ?_
      | apply id_keeps
    | intro _ _ _
    | intro _ _
    | split
    | with_reducible first
      | refine pair_keeps ?_ (by assumption) | refine pair_keeps2 ?_ (by assumption)
      | refine opt_keeps ?_ (by assumption)
    | dsimp only
    | fail_if_no_progress with_reducible apply mk_keeps)

theorem State.nakPkt_keeps {b0 : State} (s : State) (l : ℕ) (hs : Keeps b0 s) :
    Keeps b0 (State.nakPkt s l) := by
  unfold State.nakPkt
  repeat' (first
    | with_reducible first
      | assumption | apply State.sendCrd_keeps | refine foldl_keeps ?_ ?_ | refine ite_keeps ?_ ?_ | refine pite_keeps ?_ ?_
      | exact none_okeeps | apply some_okeeps | refine oite_keeps ?_ ?_ | refine getD_keeps ?_ ?_ | refine omap_keeps ?_ ?_
      | apply id_keeps
    | intro _ _ _
    | intro _ _
    | split
    | with_reducible first
      | refine pair_keeps ?_ (by assumption) | refine pair_keeps2 ?_ (by assumption)
      | refine opt_keeps ?_ (by assumption)
    | dsimp only
    | fail_if_no_progress with_reducible apply mk_keeps)

theorem State.badCrc_keeps {b0 : State} (s : State) (l : ℕ) (hs : Keeps b0 s) :
    Keeps b0 (State.badCrc s l) := by
  unfold State.badCrc
  repeat' (first
    | with_reducible first
      | assumption | apply State.incSat_keeps | apply State.nakPkt_keeps | refine foldl_keeps ?_ ?_ | refine ite_keeps ?_ ?_
      | refine pite_keeps ?_ ?_ | exact none_okeeps | apply some_okeeps | refine oite_keeps ?_ ?_ | refine getD_keeps ?_ ?_
      | refine omap_keeps ?_ ?_ | apply id_keeps
    | intro _ _ _
    | intro _ _
    | split
    | with_reducible first
      | refine pair_keeps ?_ (by assumption) | refine pair_keeps2 ?_ (by assumption)
      | refine opt_keeps ?_ (by assumption)
    | dsimp only
    | fail_if_no_progress with_reducible apply mk_keeps)

theorem State.goodPkt_keeps {b0 : State} (s : State) (l : ℕ) (p : SwlPkt) (hs : Keeps b0 s) :
    Keeps b0 (State.goodPkt s l p) := by
  unfold State.goodPkt
  repeat' (first
    | with_reducible first
      | assumption | apply State.sendCrd_keeps | apply State.setSwlPort_keeps | refine foldl_keeps ?_ ?_
      | refine ite_keeps ?_ ?_ | refine pite_keeps ?_ ?_ | exact none_okeeps | apply some_okeeps | refine oite_keeps ?_ ?_
      | refine getD_keeps ?_ ?_ | refine omap_keeps ?_ ?_ | apply id_keeps
    | intro _ _ _
    | intro _ _
    | split
    | with_reducible first
      | refine pair_keeps ?_ (by assumption) | refine pair_keeps2 ?_ (by assumption)
      | refine opt_keeps ?_ (by assumption)
    | dsimp only
    | fail_if_no_progress with_reducible apply mk_keeps)

theorem State.strayPkt_keeps {b0 : State} (s : State) (l : ℕ) (seq : ℕ) (hs : Keeps b0 s) :
    Keeps b0 (State.strayPkt s l seq) := by
  unfold State.strayPkt
  repeat' (first
    | with_reducible first
      | assumption | apply State.nakPkt_keeps | apply State.sendCrd_keeps | refine foldl_keeps ?_ ?_ | refine ite_keeps ?_ ?_
      | refine pite_keeps ?_ ?_ | exact none_okeeps | apply some_okeeps | refine oite_keeps ?_ ?_ | refine getD_keeps ?_ ?_
      | refine omap_keeps ?_ ?_ | apply id_keeps
    | intro _ _ _
    | intro _ _
    | split
    | with_reducible first
      | refine pair_keeps ?_ (by assumption) | refine pair_keeps2 ?_ (by assumption)
      | refine opt_keeps ?_ (by assumption)
    | dsimp only
    | fail_if_no_progress with_reducible apply mk_keeps)

theorem State.takePkt_keeps {b0 : State} (s : State) (l : ℕ) (type : ℕ) (p : SwlPkt) (act : State → State) (hs : Keeps b0 s) (hact
    : ∀ x0, Keeps b0 x0 → Keeps b0 (act x0)) :
    Keeps b0 (State.takePkt s l type p act) := by
  unfold State.takePkt
  repeat' (first
    | with_reducible first
      | assumption | apply hact | apply State.badCrc_keeps | apply State.goodPkt_keeps | apply State.nakPkt_keeps
      | apply State.strayPkt_keeps | refine foldl_keeps ?_ ?_ | refine ite_keeps ?_ ?_ | refine pite_keeps ?_ ?_
      | exact none_okeeps | apply some_okeeps | refine oite_keeps ?_ ?_ | refine getD_keeps ?_ ?_ | refine omap_keeps ?_ ?_
      | apply id_keeps
    | intro _ _ _
    | intro _ _
    | split
    | with_reducible first
      | refine pair_keeps ?_ (by assumption) | refine pair_keeps2 ?_ (by assumption)
      | refine opt_keeps ?_ (by assumption)
    | dsimp only
    | fail_if_no_progress with_reducible apply mk_keeps)

theorem State.takeBlk_keeps {b0 : State} (s : State) (l : ℕ) (b : SwlBlk) (act : State → State) (hs : Keeps b0 s) (hact
    : ∀ x0, Keeps b0 x0 → Keeps b0 (act x0)) :
    Keeps b0 (State.takeBlk s l b act) := by
  unfold State.takeBlk
  repeat' (first
    | with_reducible first
      | assumption | apply hact | apply State.incSat_keeps | apply State.setSwlPort_keeps | refine foldl_keeps ?_ ?_
      | refine ite_keeps ?_ ?_ | refine pite_keeps ?_ ?_ | exact none_okeeps | apply some_okeeps | refine oite_keeps ?_ ?_
      | refine getD_keeps ?_ ?_ | refine omap_keeps ?_ ?_ | apply id_keeps
    | intro _ _ _
    | intro _ _
    | split
    | with_reducible first
      | refine pair_keeps ?_ (by assumption) | refine pair_keeps2 ?_ (by assumption)
      | refine opt_keeps ?_ (by assumption)
    | dsimp only
    | fail_if_no_progress with_reducible apply mk_keeps)

theorem State.drainPort_keeps {b0 : State} (s : State) (l : ℕ) (hs : Keeps b0 s) :
    Keeps b0 (State.drainPort s l) := by
  unfold State.drainPort
  repeat' (first
    | with_reducible first
      | assumption | apply State.setSwlPort_keeps | refine foldl_keeps ?_ ?_ | refine ite_keeps ?_ ?_ | refine pite_keeps ?_ ?_
      | exact none_okeeps | apply some_okeeps | refine oite_keeps ?_ ?_ | refine getD_keeps ?_ ?_ | refine omap_keeps ?_ ?_
      | apply id_keeps
    | intro _ _ _
    | intro _ _
    | split
    | with_reducible first
      | refine pair_keeps ?_ (by assumption) | refine pair_keeps2 ?_ (by assumption)
      | refine opt_keeps ?_ (by assumption)
    | dsimp only
    | fail_if_no_progress with_reducible apply mk_keeps)

theorem State.swlCrd_keeps {b0 : State} (s : State) (l : ℕ) (b : SwlBlk) (hs : Keeps b0 s) :
    Keeps b0 (State.swlCrd s l b) := by
  unfold State.swlCrd
  repeat' (first
    | with_reducible first
      | assumption | apply State.drainPort_keeps | apply State.set_keeps | apply State.setSwlPort_keeps
      | refine foldl_keeps ?_ ?_ | refine ite_keeps ?_ ?_ | refine pite_keeps ?_ ?_ | exact none_okeeps | apply some_okeeps
      | refine oite_keeps ?_ ?_ | refine getD_keeps ?_ ?_ | refine omap_keeps ?_ ?_ | apply id_keeps
    | intro _ _ _
    | intro _ _
    | split
    | with_reducible first
      | refine pair_keeps ?_ (by assumption) | refine pair_keeps2 ?_ (by assumption)
      | refine opt_keeps ?_ (by assumption)
    | dsimp only
    | fail_if_no_progress with_reducible apply mk_keeps)

theorem State.forward_keeps {b0 : State} (s : State) (p : Pkt) (hs : Keeps b0 s) :
    Keeps b0 (State.forward s p) := by
  unfold State.forward
  repeat' (first
    | with_reducible first
      | assumption | apply State.answer_keeps | apply State.send_keeps | refine foldl_keeps ?_ ?_ | refine ite_keeps ?_ ?_
      | refine pite_keeps ?_ ?_ | exact none_okeeps | apply some_okeeps | refine oite_keeps ?_ ?_ | refine getD_keeps ?_ ?_
      | refine omap_keeps ?_ ?_ | apply id_keeps
    | intro _ _ _
    | intro _ _
    | split
    | with_reducible first
      | refine pair_keeps ?_ (by assumption) | refine pair_keeps2 ?_ (by assumption)
      | refine opt_keeps ?_ (by assumption)
    | dsimp only
    | fail_if_no_progress with_reducible apply mk_keeps)

theorem State.arrivePkt_keeps {b0 : State} (s : State) (l : ℕ) (type : ℕ) (p : SwlPkt) (serve : State → State) (hs : Keeps b0 s) (hserve
    : ∀ x0, Keeps b0 x0 → Keeps b0 (serve x0)) :
    Keeps b0 (State.arrivePkt s l type p serve) := by
  unfold State.arrivePkt
  repeat' (first
    | with_reducible first
      | assumption | apply hserve | apply State.forward_keeps | apply State.takePkt_keeps | refine foldl_keeps ?_ ?_
      | refine ite_keeps ?_ ?_ | refine pite_keeps ?_ ?_ | exact none_okeeps | apply some_okeeps | refine oite_keeps ?_ ?_
      | refine getD_keeps ?_ ?_ | refine omap_keeps ?_ ?_ | apply id_keeps
    | intro _ _ _
    | intro _ _
    | split
    | with_reducible first
      | refine pair_keeps ?_ (by assumption) | refine pair_keeps2 ?_ (by assumption)
      | refine opt_keeps ?_ (by assumption)
    | dsimp only
    | fail_if_no_progress with_reducible apply mk_keeps)

theorem State.takeEvt_keeps {b0 : State} (s : State) (l : ℕ) (joined : Bool) (b : SwlBlk) (hs : Keeps b0 s) :
    Keeps b0 (State.takeEvt s l joined b) := by
  unfold State.takeEvt
  repeat' (first
    | with_reducible first
      | assumption | apply State.set_keeps | apply State.setSwlPort_keeps | refine foldl_keeps ?_ ?_ | refine ite_keeps ?_ ?_
      | refine pite_keeps ?_ ?_ | exact none_okeeps | apply some_okeeps | refine oite_keeps ?_ ?_ | refine getD_keeps ?_ ?_
      | refine omap_keeps ?_ ?_ | apply id_keeps
    | intro _ _ _
    | intro _ _
    | split
    | with_reducible first
      | refine pair_keeps ?_ (by assumption) | refine pair_keeps2 ?_ (by assumption)
      | refine opt_keeps ?_ (by assumption)
    | dsimp only
    | fail_if_no_progress with_reducible apply mk_keeps)

theorem State.tandem_keeps {b0 : State} (s : State) (t : State) (hs : Keeps b0 s) (ht : Keeps b0 t) :
    Keeps b0 (State.tandem s t)
    := by
  unfold State.tandem
  repeat' (first
    | with_reducible first
      | assumption | apply State.sharedChanged_keeps | refine foldl_keeps ?_ ?_ | refine ite_keeps ?_ ?_
      | refine pite_keeps ?_ ?_ | exact none_okeeps | apply some_okeeps | refine oite_keeps ?_ ?_ | refine getD_keeps ?_ ?_
      | refine omap_keeps ?_ ?_ | apply id_keeps
    | intro _ _ _
    | intro _ _
    | split
    | with_reducible first
      | refine pair_keeps ?_ (by assumption) | refine pair_keeps2 ?_ (by assumption)
      | refine opt_keeps ?_ (by assumption)
    | dsimp only
    | fail_if_no_progress with_reducible apply mk_keeps)

theorem State.tsyncAsk_keeps {b0 : State} (s : State) (l : ℕ) (seq : BitVec 7) (t1 : BitVec 48) (t2 : BitVec 48) (t3 : BitVec
    48) (t4 : BitVec 48) (hs : Keeps b0 s) :
    Keeps b0 (State.tsyncAsk s l seq t1 t2 t3 t4) := by
  unfold State.tsyncAsk
  repeat' (first
    | with_reducible first
      | assumption | apply State.freeWord_keeps | apply State.set_keeps | apply State.setSwlPort_keeps
      | refine foldl_keeps ?_ ?_ | refine ite_keeps ?_ ?_ | refine pite_keeps ?_ ?_ | exact none_okeeps | apply some_okeeps
      | refine oite_keeps ?_ ?_ | refine getD_keeps ?_ ?_ | refine omap_keeps ?_ ?_ | apply id_keeps
    | intro _ _ _
    | intro _ _
    | split
    | with_reducible first
      | refine pair_keeps ?_ (by assumption) | refine pair_keeps2 ?_ (by assumption)
      | refine opt_keeps ?_ (by assumption)
    | dsimp only
    | fail_if_no_progress with_reducible apply mk_keeps)

theorem State.stayOut_keeps {b0 : State} (s : State) (hs : Keeps b0 s) :
    Keeps b0 (State.stayOut s) := by
  unfold State.stayOut
  repeat' (first
    | with_reducible first
      | assumption | apply State.set_keeps | refine foldl_keeps ?_ ?_ | refine ite_keeps ?_ ?_ | refine pite_keeps ?_ ?_
      | exact none_okeeps | apply some_okeeps | refine oite_keeps ?_ ?_ | refine getD_keeps ?_ ?_ | refine omap_keeps ?_ ?_
      | apply id_keeps
    | intro _ _ _
    | intro _ _
    | split
    | with_reducible first
      | refine pair_keeps ?_ (by assumption) | refine pair_keeps2 ?_ (by assumption)
      | refine opt_keeps ?_ (by assumption)
    | dsimp only
    | fail_if_no_progress with_reducible apply mk_keeps)

theorem State.tmWrite_keeps {b0 : State} (s : State) (w : Word) (hs : Keeps b0 s) :
    Keeps b0 (State.tmWrite s w) := by
  unfold State.tmWrite
  repeat' (first
    | with_reducible first
      | assumption | apply State.storeDirect_keeps | refine foldl_keeps ?_ ?_ | refine ite_keeps ?_ ?_ | refine pite_keeps ?_ ?_
      | exact none_okeeps | apply some_okeeps | refine oite_keeps ?_ ?_ | refine getD_keeps ?_ ?_ | refine omap_keeps ?_ ?_
      | apply id_keeps
    | intro _ _ _
    | intro _ _
    | split
    | with_reducible first
      | refine pair_keeps ?_ (by assumption) | refine pair_keeps2 ?_ (by assumption)
      | refine opt_keeps ?_ (by assumption)
    | dsimp only
    | fail_if_no_progress with_reducible apply mk_keeps)

theorem wrSwlTm_keeps {b0 : State} (q : Req) (w : Word) (s : State) (hs : Keeps b0 s) :
    Keeps b0 (wrSwlTm q w s) := by
  unfold wrSwlTm
  repeat' (first
    | with_reducible first
      | assumption | apply State.tandem_keeps | apply State.tmWrite_keeps | apply State.write_keeps | apply settle_keeps
      | apply settleAt_keeps | refine foldl_keeps ?_ ?_ | refine ite_keeps ?_ ?_ | refine pite_keeps ?_ ?_ | exact none_okeeps
      | apply some_okeeps | refine oite_keeps ?_ ?_ | refine getD_keeps ?_ ?_ | refine omap_keeps ?_ ?_ | apply id_keeps
    | intro _ _ _
    | intro _ _
    | split
    | with_reducible first
      | refine pair_keeps ?_ (by assumption) | refine pair_keeps2 ?_ (by assumption)
      | refine opt_keeps ?_ (by assumption)
    | dsimp only
    | fail_if_no_progress with_reducible apply mk_keeps)

theorem State.newMaster_keeps {b0 : State} (s : State) (d : ℕ) (hs : Keeps b0 s) :
    Keeps b0 (State.newMaster s d) := by
  unfold State.newMaster
  repeat' (first
    | with_reducible first
      | assumption | apply State.set_keeps | refine foldl_keeps ?_ ?_ | refine ite_keeps ?_ ?_ | refine pite_keeps ?_ ?_
      | exact none_okeeps | apply some_okeeps | refine oite_keeps ?_ ?_ | refine getD_keeps ?_ ?_ | refine omap_keeps ?_ ?_
      | apply id_keeps
    | intro _ _ _
    | intro _ _
    | split
    | with_reducible first
      | refine pair_keeps ?_ (by assumption) | refine pair_keeps2 ?_ (by assumption)
      | refine opt_keeps ?_ (by assumption)
    | dsimp only
    | fail_if_no_progress with_reducible apply mk_keeps)

theorem State.ownWatch_keeps {b0 : State} (s : State) (hs : Keeps b0 s) :
    Keeps b0 (State.ownWatch s) := by
  unfold State.ownWatch
  repeat' (first
    | with_reducible first
      | assumption | refine foldl_keeps ?_ ?_ | refine ite_keeps ?_ ?_ | refine pite_keeps ?_ ?_ | exact none_okeeps
      | apply some_okeeps | refine oite_keeps ?_ ?_ | refine getD_keeps ?_ ?_ | refine omap_keeps ?_ ?_ | apply id_keeps
    | intro _ _ _
    | intro _ _
    | split
    | with_reducible first
      | refine pair_keeps ?_ (by assumption) | refine pair_keeps2 ?_ (by assumption)
      | refine opt_keeps ?_ (by assumption)
    | dsimp only
    | fail_if_no_progress with_reducible apply mk_keeps)

theorem State.setOwn_keeps {b0 : State} (s : State) (b : Bool) (hs : Keeps b0 s) :
    Keeps b0 (State.setOwn s b) := by
  unfold State.setOwn
  repeat' (first
    | with_reducible first
      | assumption | apply State.fire_keeps | apply State.ownWatch_keeps | apply State.setB_keeps | refine foldl_keeps ?_ ?_
      | refine ite_keeps ?_ ?_ | refine pite_keeps ?_ ?_ | exact none_okeeps | apply some_okeeps | refine oite_keeps ?_ ?_
      | refine getD_keeps ?_ ?_ | refine omap_keeps ?_ ?_ | apply id_keeps
    | intro _ _ _
    | intro _ _
    | split
    | with_reducible first
      | refine pair_keeps ?_ (by assumption) | refine pair_keeps2 ?_ (by assumption)
      | refine opt_keeps ?_ (by assumption)
    | dsimp only
    | fail_if_no_progress with_reducible apply mk_keeps)

theorem State.handHb_keeps {b0 : State} (s : State) (p : SwlHb) (hs : Keeps b0 s) :
    Keeps b0 (State.handHb s p) := by
  unfold State.handHb
  repeat' (first
    | with_reducible first
      | assumption | refine foldl_keeps ?_ ?_ | refine ite_keeps ?_ ?_ | refine pite_keeps ?_ ?_ | exact none_okeeps
      | apply some_okeeps | refine oite_keeps ?_ ?_ | refine getD_keeps ?_ ?_ | refine omap_keeps ?_ ?_ | apply id_keeps
    | intro _ _ _
    | intro _ _
    | split
    | with_reducible first
      | refine pair_keeps ?_ (by assumption) | refine pair_keeps2 ?_ (by assumption)
      | refine opt_keeps ?_ (by assumption)
    | dsimp only
    | fail_if_no_progress with_reducible apply mk_keeps)

theorem State.takeOver_keeps {b0 : State} (s : State) (hs : Keeps b0 s) :
    Keeps b0 (State.takeOver s) := by
  unfold State.takeOver
  repeat' (first
    | with_reducible first
      | assumption | apply State.setOwn_keeps | refine foldl_keeps ?_ ?_ | refine ite_keeps ?_ ?_ | refine pite_keeps ?_ ?_
      | exact none_okeeps | apply some_okeeps | refine oite_keeps ?_ ?_ | refine getD_keeps ?_ ?_ | refine omap_keeps ?_ ?_
      | apply id_keeps
    | intro _ _ _
    | intro _ _
    | split
    | with_reducible first
      | refine pair_keeps ?_ (by assumption) | refine pair_keeps2 ?_ (by assumption)
      | refine opt_keeps ?_ (by assumption)
    | dsimp only
    | fail_if_no_progress with_reducible apply mk_keeps)

theorem State.ownWrite_keeps {b0 : State} (s : State) (w : Word) (ring : ℕ) (hs : Keeps b0 s) :
    Keeps b0 (State.ownWrite s w ring)
    := by
  unfold State.ownWrite
  repeat' (first
    | with_reducible first
      | assumption | apply State.setOwn_keeps | apply State.storeDirect_keeps | refine foldl_keeps ?_ ?_
      | refine ite_keeps ?_ ?_ | refine pite_keeps ?_ ?_ | exact none_okeeps | apply some_okeeps | refine oite_keeps ?_ ?_
      | refine getD_keeps ?_ ?_ | refine omap_keeps ?_ ?_ | apply id_keeps
    | intro _ _ _
    | intro _ _
    | split
    | with_reducible first
      | refine pair_keeps ?_ (by assumption) | refine pair_keeps2 ?_ (by assumption)
      | refine opt_keeps ?_ (by assumption)
    | dsimp only
    | fail_if_no_progress with_reducible apply mk_keeps)

theorem wrSwlOwn_keeps {b0 : State} (q : Req) (w : Word) (s : State) (hs : Keeps b0 s) :
    Keeps b0 (wrSwlOwn q w s) := by
  unfold wrSwlOwn
  repeat' (first
    | with_reducible first
      | assumption | apply State.ownWrite_keeps | apply State.write_keeps | apply settle_keeps | apply settleAt_keeps
      | refine foldl_keeps ?_ ?_ | refine ite_keeps ?_ ?_ | refine pite_keeps ?_ ?_ | exact none_okeeps | apply some_okeeps
      | refine oite_keeps ?_ ?_ | refine getD_keeps ?_ ?_ | refine omap_keeps ?_ ?_ | apply id_keeps
    | intro _ _ _
    | intro _ _
    | split
    | with_reducible first
      | refine pair_keeps ?_ (by assumption) | refine pair_keeps2 ?_ (by assumption)
      | refine opt_keeps ?_ (by assumption)
    | dsimp only
    | fail_if_no_progress with_reducible apply mk_keeps)

theorem State.pairWrite_keeps {b0 : State} (s : State) (w : Word) (hs : Keeps b0 s) :
    Keeps b0 (State.pairWrite s w) := by
  unfold State.pairWrite
  repeat' (first
    | with_reducible first
      | assumption | apply State.set_keeps | apply State.storeDirect_keeps | apply State.takeOver_keeps
      | refine foldl_keeps ?_ ?_ | refine ite_keeps ?_ ?_ | refine pite_keeps ?_ ?_ | exact none_okeeps | apply some_okeeps
      | refine oite_keeps ?_ ?_ | refine getD_keeps ?_ ?_ | refine omap_keeps ?_ ?_ | apply id_keeps
    | intro _ _ _
    | intro _ _
    | split
    | with_reducible first
      | refine pair_keeps ?_ (by assumption) | refine pair_keeps2 ?_ (by assumption)
      | refine opt_keeps ?_ (by assumption)
    | dsimp only
    | fail_if_no_progress with_reducible apply mk_keeps)

theorem wrSwlPair_keeps {b0 : State} (q : Req) (w : Word) (s : State) (hs : Keeps b0 s) :
    Keeps b0 (wrSwlPair q w s) := by
  unfold wrSwlPair
  repeat' (first
    | with_reducible first
      | assumption | apply State.pairWrite_keeps | apply State.write_keeps | apply settle_keeps | apply settleAt_keeps
      | refine foldl_keeps ?_ ?_ | refine ite_keeps ?_ ?_ | refine pite_keeps ?_ ?_ | exact none_okeeps | apply some_okeeps
      | refine oite_keeps ?_ ?_ | refine getD_keeps ?_ ?_ | refine omap_keeps ?_ ?_ | apply id_keeps
    | intro _ _ _
    | intro _ _
    | split
    | with_reducible first
      | refine pair_keeps ?_ (by assumption) | refine pair_keeps2 ?_ (by assumption)
      | refine opt_keeps ?_ (by assumption)
    | dsimp only
    | fail_if_no_progress with_reducible apply mk_keeps)

theorem State.rrstWrite_keeps {b0 : State} (s : State) (w : Word) (ring : ℕ) (hs : Keeps b0 s) :
    Keeps b0 (State.rrstWrite s w ring)
    := by
  unfold State.rrstWrite
  repeat' (first
    | with_reducible first
      | assumption | apply State.send_keeps | refine foldl_keeps ?_ ?_ | refine ite_keeps ?_ ?_ | refine pite_keeps ?_ ?_
      | exact none_okeeps | apply some_okeeps | refine oite_keeps ?_ ?_ | refine getD_keeps ?_ ?_ | refine omap_keeps ?_ ?_
      | apply id_keeps
    | intro _ _ _
    | intro _ _
    | split
    | with_reducible first
      | refine pair_keeps ?_ (by assumption) | refine pair_keeps2 ?_ (by assumption)
      | refine opt_keeps ?_ (by assumption)
    | dsimp only
    | fail_if_no_progress with_reducible apply mk_keeps)

theorem wrSwlRrst_keeps {b0 : State} (q : Req) (w : Word) (s : State) (hs : Keeps b0 s) :
    Keeps b0 (wrSwlRrst q w s) := by
  unfold wrSwlRrst
  repeat' (first
    | with_reducible first
      | assumption | apply State.rrstWrite_keeps | apply State.write_keeps | refine foldl_keeps ?_ ?_ | refine ite_keeps ?_ ?_
      | refine pite_keeps ?_ ?_ | exact none_okeeps | apply some_okeeps | refine oite_keeps ?_ ?_ | refine getD_keeps ?_ ?_
      | refine omap_keeps ?_ ?_ | apply id_keeps
    | intro _ _ _
    | intro _ _
    | split
    | with_reducible first
      | refine pair_keeps ?_ (by assumption) | refine pair_keeps2 ?_ (by assumption)
      | refine opt_keeps ?_ (by assumption)
    | dsimp only
    | fail_if_no_progress with_reducible apply mk_keeps)

theorem State.setFwd_keeps {b0 : State} (s : State) (k : ℕ) (x : Option (ℕ × Bool)) (hs : Keeps b0 s) :
    Keeps b0 (State.setFwd s k x)
    := by
  unfold State.setFwd
  repeat' (first
    | with_reducible first
      | assumption | refine foldl_keeps ?_ ?_ | refine ite_keeps ?_ ?_ | refine pite_keeps ?_ ?_ | exact none_okeeps
      | apply some_okeeps | refine oite_keeps ?_ ?_ | refine getD_keeps ?_ ?_ | refine omap_keeps ?_ ?_ | apply id_keeps
    | intro _ _ _
    | intro _ _
    | split
    | with_reducible first
      | refine pair_keeps ?_ (by assumption) | refine pair_keeps2 ?_ (by assumption)
      | refine opt_keeps ?_ (by assumption)
    | dsimp only
    | fail_if_no_progress with_reducible apply mk_keeps)

theorem State.fwdSend_keeps {b0 : State} (s : State) (k : ℕ) (hs : Keeps b0 s) :
    Keeps b0 (State.fwdSend s k) := by
  unfold State.fwdSend
  repeat' (first
    | with_reducible first
      | assumption | apply State.await_keeps | apply State.fwdFail_keeps | apply State.qMeet_keeps | apply State.send_keeps
      | apply State.setFwd_keeps | refine foldl_keeps ?_ ?_ | refine ite_keeps ?_ ?_ | refine pite_keeps ?_ ?_
      | exact none_okeeps | apply some_okeeps | refine oite_keeps ?_ ?_ | refine getD_keeps ?_ ?_ | refine omap_keeps ?_ ?_
      | apply id_keeps
    | intro _ _ _
    | intro _ _
    | split
    | with_reducible first
      | refine pair_keeps ?_ (by assumption) | refine pair_keeps2 ?_ (by assumption)
      | refine opt_keeps ?_ (by assumption)
    | dsimp only
    | fail_if_no_progress with_reducible apply mk_keeps)

theorem State.fwdResult_keeps {b0 : State} (s : State) (k : ℕ) (l : ℕ) (r : ℕ) (hs : Keeps b0 s) :
    Keeps b0 (State.fwdResult s k l r)
    := by
  unfold State.fwdResult
  repeat' (first
    | with_reducible first
      | assumption | apply State.fwdFail_keeps | apply State.qGet_keeps | apply State.set_keeps | apply State.setFwd_keeps
      | refine foldl_keeps ?_ ?_ | refine ite_keeps ?_ ?_ | refine pite_keeps ?_ ?_ | exact none_okeeps | apply some_okeeps
      | refine oite_keeps ?_ ?_ | refine getD_keeps ?_ ?_ | refine omap_keeps ?_ ?_ | apply id_keeps
    | intro _ _ _
    | intro _ _
    | split
    | with_reducible first
      | refine pair_keeps ?_ (by assumption) | refine pair_keeps2 ?_ (by assumption)
      | refine opt_keeps ?_ (by assumption)
    | dsimp only
    | fail_if_no_progress with_reducible apply mk_keeps)

theorem State.fwdPut_keeps {b0 : State} (s : State) (q : ℕ) (ring : ℕ) (ws : List Word) (hs : Keeps b0 s) :
    Keeps b0
    (State.fwdPut s q ring ws).1 := by
  unfold State.fwdPut
  repeat' (first
    | with_reducible first
      | assumption | apply State.qMeet_keeps | apply State.qPut_keeps | refine foldl_keeps ?_ ?_ | refine ite_keeps ?_ ?_
      | refine pite_keeps ?_ ?_ | exact none_okeeps | apply some_okeeps | refine oite_keeps ?_ ?_ | refine getD_keeps ?_ ?_
      | refine omap_keeps ?_ ?_ | apply id_keeps
    | intro _ _ _
    | intro _ _
    | split
    | with_reducible first
      | refine pair_keeps ?_ (by assumption) | refine pair_keeps2 ?_ (by assumption)
      | refine opt_keeps ?_ (by assumption)
    | dsimp only
    | fail_if_no_progress with_reducible apply mk_keeps)

theorem State.endResponse_keeps {b0 : State} (s : State) (l : ℕ) (p : SwlPkt) (err : Bool) (r : ℕ) (hs : Keeps b0 s) :
    Keeps b0
    (State.endResponse s l p err r) := by
  unfold State.endResponse
  repeat' (first
    | with_reducible first
      | assumption | apply State.endRemote_keeps | apply State.fwdResult_keeps | refine foldl_keeps ?_ ?_
      | refine ite_keeps ?_ ?_ | refine pite_keeps ?_ ?_ | exact none_okeeps | apply some_okeeps | refine oite_keeps ?_ ?_
      | refine getD_keeps ?_ ?_ | refine omap_keeps ?_ ?_ | apply id_keeps
    | intro _ _ _
    | intro _ _
    | split
    | with_reducible first
      | refine pair_keeps ?_ (by assumption) | refine pair_keeps2 ?_ (by assumption)
      | refine opt_keeps ?_ (by assumption)
    | dsimp only
    | fail_if_no_progress with_reducible apply mk_keeps)

theorem State.releaseRsv_keeps {b0 : State} (s : State) (e : ℕ) (hs : Keeps b0 s) :
    Keeps b0 (State.releaseRsv s e) := by
  unfold State.releaseRsv
  repeat' (first
    | with_reducible first
      | assumption | refine foldl_keeps ?_ ?_ | refine ite_keeps ?_ ?_ | refine pite_keeps ?_ ?_ | exact none_okeeps
      | apply some_okeeps | refine oite_keeps ?_ ?_ | refine getD_keeps ?_ ?_ | refine omap_keeps ?_ ?_ | apply id_keeps
    | intro _ _ _
    | intro _ _
    | split
    | with_reducible first
      | refine pair_keeps ?_ (by assumption) | refine pair_keeps2 ?_ (by assumption)
      | refine opt_keeps ?_ (by assumption)
    | dsimp only
    | fail_if_no_progress with_reducible apply mk_keeps)

theorem State.dropQput_keeps {b0 : State} (s : State) (e : ℕ) (hs : Keeps b0 s) :
    Keeps b0 (State.dropQput s e) := by
  unfold State.dropQput
  repeat' (first
    | with_reducible first
      | assumption | refine foldl_keeps ?_ ?_ | refine ite_keeps ?_ ?_ | refine pite_keeps ?_ ?_ | exact none_okeeps
      | apply some_okeeps | refine oite_keeps ?_ ?_ | refine getD_keeps ?_ ?_ | refine omap_keeps ?_ ?_ | apply id_keeps
    | intro _ _ _
    | intro _ _
    | split
    | with_reducible first
      | refine pair_keeps ?_ (by assumption) | refine pair_keeps2 ?_ (by assumption)
      | refine opt_keeps ?_ (by assumption)
    | dsimp only
    | fail_if_no_progress with_reducible apply mk_keeps)

theorem State.settleEng_keeps {b0 : State} (s : State) (e : ℕ) (hs : Keeps b0 s) :
    Keeps b0 (State.settleEng s e) := by
  unfold State.settleEng
  repeat' (first
    | with_reducible first
      | assumption | apply State.dropQput_keeps | apply State.giveUp_keeps | apply State.set_keeps | apply State.setEng_keeps
      | refine foldl_keeps ?_ ?_ | refine ite_keeps ?_ ?_ | refine pite_keeps ?_ ?_ | exact none_okeeps | apply some_okeeps
      | refine oite_keeps ?_ ?_ | refine getD_keeps ?_ ?_ | refine omap_keeps ?_ ?_ | apply id_keeps
    | intro _ _ _
    | intro _ _
    | split
    | with_reducible first
      | refine pair_keeps ?_ (by assumption) | refine pair_keeps2 ?_ (by assumption)
      | refine opt_keeps ?_ (by assumption)
    | dsimp only
    | fail_if_no_progress with_reducible apply mk_keeps)

theorem State.haltNow_keeps {b0 : State} (s : State) (e : ℕ) (hs : Keeps b0 s) :
    Keeps b0 (State.haltNow s e) := by
  unfold State.haltNow
  repeat' (first
    | with_reducible first
      | assumption | apply State.bankBoundary_keeps | apply State.releaseRsv_keeps | apply State.set_keeps
      | apply State.setEng_keeps | apply State.settleEng_keeps | refine foldl_keeps ?_ ?_ | refine ite_keeps ?_ ?_
      | refine pite_keeps ?_ ?_ | exact none_okeeps | apply some_okeeps | refine oite_keeps ?_ ?_ | refine getD_keeps ?_ ?_
      | refine omap_keeps ?_ ?_ | apply id_keeps
    | intro _ _ _
    | intro _ _
    | split
    | with_reducible first
      | refine pair_keeps ?_ (by assumption) | refine pair_keeps2 ?_ (by assumption)
      | refine opt_keeps ?_ (by assumption)
    | dsimp only
    | fail_if_no_progress with_reducible apply mk_keeps)

theorem State.stopEng_keeps {b0 : State} (s : State) (e : ℕ) (hs : Keeps b0 s) :
    Keeps b0 (State.stopEng s e) := by
  unfold State.stopEng
  repeat' (first
    | with_reducible first
      | assumption | apply State.haltNow_keeps | apply State.setEng_keeps | refine foldl_keeps ?_ ?_ | refine ite_keeps ?_ ?_
      | refine pite_keeps ?_ ?_ | exact none_okeeps | apply some_okeeps | refine oite_keeps ?_ ?_ | refine getD_keeps ?_ ?_
      | refine omap_keeps ?_ ?_ | apply id_keeps
    | intro _ _ _
    | intro _ _
    | split
    | with_reducible first
      | refine pair_keeps ?_ (by assumption) | refine pair_keeps2 ?_ (by assumption)
      | refine opt_keeps ?_ (by assumption)
    | dsimp only
    | fail_if_no_progress with_reducible apply mk_keeps)

theorem State.noSpare_keeps {b0 : State} (s : State) (c : ℕ) (hs : Keeps b0 s) :
    Keeps b0 (State.noSpare s c) := by
  unfold State.noSpare
  repeat' (first
    | with_reducible first
      | assumption | apply State.set_keeps | apply State.showMode_keeps | apply State.tripMode_keeps | refine foldl_keeps ?_ ?_
      | refine ite_keeps ?_ ?_ | refine pite_keeps ?_ ?_ | exact none_okeeps | apply some_okeeps | refine oite_keeps ?_ ?_
      | refine getD_keeps ?_ ?_ | refine omap_keeps ?_ ?_ | apply id_keeps
    | intro _ _ _
    | intro _ _
    | split
    | with_reducible first
      | refine pair_keeps ?_ (by assumption) | refine pair_keeps2 ?_ (by assumption)
      | refine opt_keeps ?_ (by assumption)
    | dsimp only
    | fail_if_no_progress with_reducible apply mk_keeps)

theorem State.nextSpare_keeps {b0 : State} (s : State) (c : ℕ) (r : Regrow) (hs : Keeps b0 s) :
    Keeps b0 (State.nextSpare s c r) := by
  unfold State.nextSpare
  repeat' (first
    | with_reducible first
      | assumption | apply State.noSpare_keeps | apply State.rgShow_keeps | apply State.set_keeps | apply State.setRgClu_keeps
      | refine foldl_keeps ?_ ?_ | refine ite_keeps ?_ ?_ | refine pite_keeps ?_ ?_ | exact none_okeeps | apply some_okeeps
      | refine oite_keeps ?_ ?_ | refine getD_keeps ?_ ?_ | refine omap_keeps ?_ ?_ | apply id_keeps
    | intro _ _ _
    | intro _ _
    | split
    | with_reducible first
      | refine pair_keeps ?_ (by assumption) | refine pair_keeps2 ?_ (by assumption)
      | refine opt_keeps ?_ (by assumption)
    | dsimp only
    | fail_if_no_progress with_reducible apply mk_keeps)

theorem State.failNewt_keeps {b0 : State} (s : State) (c : ℕ) (k : ℕ) (cause : ℕ) (hs : Keeps b0 s) :
    Keeps b0
    (State.failNewt s c k cause) := by
  unfold State.failNewt
  repeat' (first
    | with_reducible first
      | assumption | apply State.set_keeps | apply State.setBit_keeps | apply State.setReady_keeps | apply State.stopEng_keeps
      | refine foldl_keeps ?_ ?_ | refine ite_keeps ?_ ?_ | refine pite_keeps ?_ ?_ | exact none_okeeps | apply some_okeeps
      | refine oite_keeps ?_ ?_ | refine getD_keeps ?_ ?_ | refine omap_keeps ?_ ?_ | apply id_keeps
    | intro _ _ _
    | intro _ _
    | split
    | with_reducible first
      | refine pair_keeps ?_ (by assumption) | refine pair_keeps2 ?_ (by assumption)
      | refine opt_keeps ?_ (by assumption)
    | dsimp only
    | fail_if_no_progress with_reducible apply mk_keeps)

theorem State.queueFail_keeps {b0 : State} (s : State) (c : ℕ) (x : Failed) (hs : Keeps b0 s) :
    Keeps b0 (State.queueFail s c x) := by
  unfold State.queueFail
  repeat' (first
    | with_reducible first
      | assumption | apply State.rgShow_keeps | apply State.setRgClu_keeps | refine foldl_keeps ?_ ?_ | refine ite_keeps ?_ ?_
      | refine pite_keeps ?_ ?_ | exact none_okeeps | apply some_okeeps | refine oite_keeps ?_ ?_ | refine getD_keeps ?_ ?_
      | refine omap_keeps ?_ ?_ | apply id_keeps
    | intro _ _ _
    | intro _ _
    | split
    | with_reducible first
      | refine pair_keeps ?_ (by assumption) | refine pair_keeps2 ?_ (by assumption)
      | refine opt_keeps ?_ (by assumption)
    | dsimp only
    | fail_if_no_progress with_reducible apply mk_keeps)

theorem State.reportFail_keeps {b0 : State} (s : State) (n : ℕ) (cause : ℕ) (hs : Keeps b0 s) :
    Keeps b0 (State.reportFail s n cause)
    := by
  unfold State.reportFail
  repeat' (first
    | with_reducible first
      | assumption | apply State.failNewt_keeps | apply State.nextSpare_keeps | apply State.queueFail_keeps
      | refine foldl_keeps ?_ ?_ | refine ite_keeps ?_ ?_ | refine pite_keeps ?_ ?_ | exact none_okeeps | apply some_okeeps
      | refine oite_keeps ?_ ?_ | refine getD_keeps ?_ ?_ | refine omap_keeps ?_ ?_ | apply id_keeps
    | intro _ _ _
    | intro _ _
    | split
    | with_reducible first
      | refine pair_keeps ?_ (by assumption) | refine pair_keeps2 ?_ (by assumption)
      | refine opt_keeps ?_ (by assumption)
    | dsimp only
    | fail_if_no_progress with_reducible apply mk_keeps)

theorem State.entryFail_keeps {b0 : State} (s : State) (e : ℕ) (v : ℕ) (hs : Keeps b0 s) :
    Keeps b0 (State.entryFail s e v) := by
  unfold State.entryFail
  repeat' (first
    | with_reducible first
      | assumption | apply State.haltNow_keeps | apply State.reportFail_keeps | apply State.set_keeps | refine foldl_keeps ?_ ?_
      | refine ite_keeps ?_ ?_ | refine pite_keeps ?_ ?_ | exact none_okeeps | apply some_okeeps | refine oite_keeps ?_ ?_
      | refine getD_keeps ?_ ?_ | refine omap_keeps ?_ ?_ | apply id_keeps
    | intro _ _ _
    | intro _ _
    | split
    | with_reducible first
      | refine pair_keeps ?_ (by assumption) | refine pair_keeps2 ?_ (by assumption)
      | refine opt_keeps ?_ (by assumption)
    | dsimp only
    | fail_if_no_progress with_reducible apply mk_keeps)

theorem State.startNewt_keeps {b0 : State} (s : State) (n : ℕ) (a : Word) (hs : Keeps b0 s) :
    Keeps b0 (State.startNewt s n a) := by
  unfold State.startNewt
  repeat' (first
    | with_reducible first
      | assumption | apply State.bankBoundary_keeps | apply State.countCe_keeps | apply State.countUe_keeps
      | apply State.entryFail_keeps | apply State.releaseRsv_keeps | apply State.set_keeps | apply State.setEng_keeps
      | apply State.setReg_keeps | apply State.settleEng_keeps | refine foldl_keeps ?_ ?_ | refine ite_keeps ?_ ?_
      | refine pite_keeps ?_ ?_ | exact none_okeeps | apply some_okeeps | refine oite_keeps ?_ ?_ | refine getD_keeps ?_ ?_
      | refine omap_keeps ?_ ?_ | apply id_keeps
    | intro _ _ _
    | intro _ _
    | split
    | with_reducible first
      | refine pair_keeps ?_ (by assumption) | refine pair_keeps2 ?_ (by assumption)
      | refine opt_keeps ?_ (by assumption)
    | dsimp only
    | fail_if_no_progress with_reducible apply mk_keeps)

theorem State.runChanged_keeps {b0 : State} (s : State) (n : ℕ) (old : Bool) (hs : Keeps b0 s) :
    Keeps b0 (State.runChanged s n old)
    := by
  unfold State.runChanged
  repeat' (first
    | with_reducible first
      | assumption | apply State.startNewt_keeps | apply State.stopEng_keeps | refine foldl_keeps ?_ ?_ | refine ite_keeps ?_ ?_
      | refine pite_keeps ?_ ?_ | exact none_okeeps | apply some_okeeps | refine oite_keeps ?_ ?_ | refine getD_keeps ?_ ?_
      | refine omap_keeps ?_ ?_ | apply id_keeps
    | intro _ _ _
    | intro _ _
    | split
    | with_reducible first
      | refine pair_keeps ?_ (by assumption) | refine pair_keeps2 ?_ (by assumption)
      | refine opt_keeps ?_ (by assumption)
    | dsimp only
    | fail_if_no_progress with_reducible apply mk_keeps)

theorem State.engCtrlEff_keeps {b0 : State} (s : State) (n : ℕ) (old : Bool) (hs : Keeps b0 s) :
    Keeps b0 (State.engCtrlEff s n old)
    := by
  unfold State.engCtrlEff
  repeat' (first
    | with_reducible first
      | assumption | apply State.runChanged_keeps | apply State.swapShown_keeps | refine foldl_keeps ?_ ?_
      | refine ite_keeps ?_ ?_ | refine pite_keeps ?_ ?_ | exact none_okeeps | apply some_okeeps | refine oite_keeps ?_ ?_
      | refine getD_keeps ?_ ?_ | refine omap_keeps ?_ ?_ | apply id_keeps
    | intro _ _ _
    | intro _ _
    | split
    | with_reducible first
      | refine pair_keeps ?_ (by assumption) | refine pair_keeps2 ?_ (by assumption)
      | refine opt_keeps ?_ (by assumption)
    | dsimp only
    | fail_if_no_progress with_reducible apply mk_keeps)

theorem State.wdtCtrl_keeps {b0 : State} (s : State) (n : ℕ) (w : Word) (hs : Keeps b0 s) :
    Keeps b0 (State.wdtCtrl s n w) := by
  unfold State.wdtCtrl
  repeat' (first
    | with_reducible first
      | assumption | apply State.set_keeps | apply State.storeDirect_keeps | refine foldl_keeps ?_ ?_ | refine ite_keeps ?_ ?_
      | refine pite_keeps ?_ ?_ | exact none_okeeps | apply some_okeeps | refine oite_keeps ?_ ?_ | refine getD_keeps ?_ ?_
      | refine omap_keeps ?_ ?_ | apply id_keeps
    | intro _ _ _
    | intro _ _
    | split
    | with_reducible first
      | refine pair_keeps ?_ (by assumption) | refine pair_keeps2 ?_ (by assumption)
      | refine opt_keeps ?_ (by assumption)
    | dsimp only
    | fail_if_no_progress with_reducible apply mk_keeps)

theorem State.wdtKick_keeps {b0 : State} (s : State) (n : ℕ) (w : Word) (hs : Keeps b0 s) :
    Keeps b0 (State.wdtKick s n w) := by
  unfold State.wdtKick
  repeat' (first
    | with_reducible first
      | assumption | apply State.set_keeps | refine foldl_keeps ?_ ?_ | refine ite_keeps ?_ ?_ | refine pite_keeps ?_ ?_
      | exact none_okeeps | apply some_okeeps | refine oite_keeps ?_ ?_ | refine getD_keeps ?_ ?_ | refine omap_keeps ?_ ?_
      | apply id_keeps
    | intro _ _ _
    | intro _ _
    | split
    | with_reducible first
      | refine pair_keeps ?_ (by assumption) | refine pair_keeps2 ?_ (by assumption)
      | refine opt_keeps ?_ (by assumption)
    | dsimp only
    | fail_if_no_progress with_reducible apply mk_keeps)

theorem State.resetRegs_keeps {b0 : State} (s : State) (mask : Nat) (sel : Nat → Bool) (hs : Keeps b0 s) :
    Keeps b0 (s.resetRegs mask sel) := by
  refine ⟨hs.pending, hs.tb, hs.mem, fun h => swf_filterMap resetWord s.regs _ ?_ (hs.regs h)⟩
  intro x y hy
  dsimp only at hy
  split at hy
  · split at hy
    · contradiction
    · cases hy
      exact ⟨rfl, fun _ => ‹_›⟩
  · cases hy
    exact ⟨rfl, id⟩

theorem State.unstageHit_keeps {b0 : State} (s : State) (sel : ℕ → Bool) (hs : Keeps b0 s) :
    Keeps b0 (State.unstageHit s sel) := by
  unfold State.unstageHit
  repeat' (first
    | with_reducible first
      | assumption | apply State.cleanPage_keeps | apply State.each_keeps | apply State.set_keeps | apply State.unstage_keeps
      | refine foldl_keeps ?_ ?_ | refine ite_keeps ?_ ?_ | refine pite_keeps ?_ ?_ | exact none_okeeps | apply some_okeeps
      | refine oite_keeps ?_ ?_ | refine getD_keeps ?_ ?_ | refine omap_keeps ?_ ?_ | apply id_keeps
    | intro _ _ _
    | intro _ _
    | split
    | with_reducible first
      | refine pair_keeps ?_ (by assumption) | refine pair_keeps2 ?_ (by assumption)
      | refine opt_keeps ?_ (by assumption)
    | dsimp only
    | fail_if_no_progress with_reducible apply mk_keeps)

theorem State.renewNonce_keeps {b0 : State} (s : State) (hs : Keeps b0 s) :
    Keeps b0 (State.renewNonce s) := by
  unfold State.renewNonce
  repeat' (first
    | with_reducible first
      | assumption | refine foldl_keeps ?_ ?_ | refine ite_keeps ?_ ?_ | refine pite_keeps ?_ ?_ | exact none_okeeps
      | apply some_okeeps | refine oite_keeps ?_ ?_ | refine getD_keeps ?_ ?_ | refine omap_keeps ?_ ?_ | apply id_keeps
    | intro _ _ _
    | intro _ _
    | split
    | with_reducible first
      | refine pair_keeps ?_ (by assumption) | refine pair_keeps2 ?_ (by assumption)
      | refine opt_keeps ?_ (by assumption)
    | dsimp only
    | fail_if_no_progress with_reducible apply mk_keeps)

theorem State.tearPulse_keeps {b0 : State} (s : State) (hs : Keeps b0 s) :
    Keeps b0 (State.tearPulse s) := by
  unfold State.tearPulse
  repeat' (first
    | with_reducible first
      | assumption | apply State.keepErrs_keeps | apply State.putWord_keeps | refine foldl_keeps ?_ ?_ | refine ite_keeps ?_ ?_
      | refine pite_keeps ?_ ?_ | exact none_okeeps | apply some_okeeps | refine oite_keeps ?_ ?_ | refine getD_keeps ?_ ?_
      | refine omap_keeps ?_ ?_ | apply id_keeps
    | intro _ _ _
    | intro _ _
    | split
    | with_reducible first
      | refine pair_keeps ?_ (by assumption) | refine pair_keeps2 ?_ (by assumption)
      | refine opt_keeps ?_ (by assumption)
    | dsimp only
    | fail_if_no_progress with_reducible apply mk_keeps)

theorem State.tearOtp_keeps {b0 : State} (s : State) (hs : Keeps b0 s) :
    Keeps b0 (State.tearOtp s) := by
  unfold State.tearOtp
  repeat' (first
    | with_reducible first
      | assumption | apply State.freeWord_keeps | apply State.putWord_keeps | refine foldl_keeps ?_ ?_ | refine ite_keeps ?_ ?_
      | refine pite_keeps ?_ ?_ | exact none_okeeps | apply some_okeeps | refine oite_keeps ?_ ?_ | refine getD_keeps ?_ ?_
      | refine omap_keeps ?_ ?_ | apply id_keeps
    | intro _ _ _
    | intro _ _
    | split
    | with_reducible first
      | refine pair_keeps ?_ (by assumption) | refine pair_keeps2 ?_ (by assumption)
      | refine opt_keeps ?_ (by assumption)
    | dsimp only
    | fail_if_no_progress with_reducible apply mk_keeps)

theorem State.bare_keeps {b0 : State} (s : State) (por : Bool) (hs : Keeps b0 s) : Keeps b0 (s.bare por) := by
  have h := State.resetRegs_keeps s (if por then 1 else 2) (fun _ => true) hs
  exact ⟨hs.pending, hs.tb, fun m => swf_filter initByte s.mem _ (hs.mem m), h.regs⟩

theorem State.beginReset_keeps {b0 : State} (s : State) (por : Bool) (hs : Keeps b0 s) :
    Keeps b0 (State.beginReset s por) := by
  unfold State.beginReset
  repeat' (first
    | with_reducible first
      | assumption | apply State.bare_keeps | apply State.incSat_keeps | apply State.put64_keeps | apply State.setB_keeps
      | apply State.tearOtp_keeps | apply State.tearPulse_keeps | refine foldl_keeps ?_ ?_ | refine ite_keeps ?_ ?_
      | refine pite_keeps ?_ ?_ | exact none_okeeps | apply some_okeeps | refine oite_keeps ?_ ?_ | refine getD_keeps ?_ ?_
      | refine omap_keeps ?_ ?_ | apply id_keeps
    | intro _ _ _
    | intro _ _
    | split
    | with_reducible first
      | refine pair_keeps ?_ (by assumption) | refine pair_keeps2 ?_ (by assumption)
      | refine opt_keeps ?_ (by assumption)
    | dsimp only
    | fail_if_no_progress with_reducible apply mk_keeps)

theorem State.resetCause_keeps {b0 : State} (s : State) (c : ℕ) (pulse : Bool) (hs : Keeps b0 s) :
    Keeps b0
    (State.resetCause s c pulse) := by
  unfold State.resetCause
  repeat' (first
    | with_reducible first
      | assumption | apply State.beginReset_keeps | apply State.set_keeps | refine foldl_keeps ?_ ?_ | refine ite_keeps ?_ ?_
      | refine pite_keeps ?_ ?_ | exact none_okeeps | apply some_okeeps | refine oite_keeps ?_ ?_ | refine getD_keeps ?_ ?_
      | refine omap_keeps ?_ ?_ | apply id_keeps
    | intro _ _ _
    | intro _ _
    | split
    | with_reducible first
      | refine pair_keeps ?_ (by assumption) | refine pair_keeps2 ?_ (by assumption)
      | refine opt_keeps ?_ (by assumption)
    | dsimp only
    | fail_if_no_progress with_reducible apply mk_keeps)

theorem State.causeEnds_keeps {b0 : State} (s : State) (c : ℕ) (hs : Keeps b0 s) :
    Keeps b0 (State.causeEnds s c) := by
  unfold State.causeEnds
  repeat' (first
    | with_reducible first
      | assumption | refine foldl_keeps ?_ ?_ | refine ite_keeps ?_ ?_ | refine pite_keeps ?_ ?_ | exact none_okeeps
      | apply some_okeeps | refine oite_keeps ?_ ?_ | refine getD_keeps ?_ ?_ | refine omap_keeps ?_ ?_ | apply id_keeps
    | intro _ _ _
    | intro _ _
    | split
    | with_reducible first
      | refine pair_keeps ?_ (by assumption) | refine pair_keeps2 ?_ (by assumption)
      | refine opt_keeps ?_ (by assumption)
    | dsimp only
    | fail_if_no_progress with_reducible apply mk_keeps)

theorem State.lasting_keeps {b0 : State} (s : State) (lo : ℕ) (hi : ℕ) (ns : ℕ) (f : State → State) (hs : Keeps b0 s) (hf : ∀
    x0, Keeps b0 x0 → Keeps b0 (f x0)) :
    Keeps b0 (State.lasting s lo hi ns f) := by
  unfold State.lasting
  repeat' (first
    | with_reducible first
      | assumption | apply hf | refine foldl_keeps ?_ ?_ | refine ite_keeps ?_ ?_ | refine pite_keeps ?_ ?_ | exact none_okeeps
      | apply some_okeeps | refine oite_keeps ?_ ?_ | refine getD_keeps ?_ ?_ | refine omap_keeps ?_ ?_ | apply id_keeps
    | intro _ _ _
    | intro _ _
    | split
    | with_reducible first
      | refine pair_keeps ?_ (by assumption) | refine pair_keeps2 ?_ (by assumption)
      | refine opt_keeps ?_ (by assumption)
    | dsimp only
    | fail_if_no_progress with_reducible apply mk_keeps)

theorem State.fallen_keeps {b0 : State} (s : State) (c : ℕ) (ns : ℕ) (hs : Keeps b0 s) :
    Keeps b0 (State.fallen s c ns) := by
  unfold State.fallen
  repeat' (first
    | with_reducible first
      | assumption | apply State.lasting_keeps | apply State.resetCause_keeps | refine foldl_keeps ?_ ?_
      | refine ite_keeps ?_ ?_ | refine pite_keeps ?_ ?_ | exact none_okeeps | apply some_okeeps | refine oite_keeps ?_ ?_
      | refine getD_keeps ?_ ?_ | refine omap_keeps ?_ ?_ | apply id_keeps
    | intro _ _ _
    | intro _ _
    | split
    | with_reducible first
      | refine pair_keeps ?_ (by assumption) | refine pair_keeps2 ?_ (by assumption)
      | refine opt_keeps ?_ (by assumption)
    | dsimp only
    | fail_if_no_progress with_reducible apply mk_keeps)

theorem State.railLow_keeps {b0 : State} (s : State) (r : Rail) (dead : Bool) (hs : Keeps b0 s) :
    Keeps b0 (State.railLow s r dead) := by
  unfold State.railLow
  repeat' (first
    | with_reducible first
      | assumption | refine foldl_keeps ?_ ?_ | refine ite_keeps ?_ ?_ | refine pite_keeps ?_ ?_ | exact none_okeeps
      | apply some_okeeps | refine oite_keeps ?_ ?_ | refine getD_keeps ?_ ?_ | refine omap_keeps ?_ ?_ | apply id_keeps
    | intro _ _ _
    | intro _ _
    | split
    | with_reducible first
      | refine pair_keeps ?_ (by assumption) | refine pair_keeps2 ?_ (by assumption)
      | refine opt_keeps ?_ (by assumption)
    | dsimp only
    | fail_if_no_progress with_reducible apply mk_keeps)

theorem wrSwRst_keeps {b0 : State} (q : Req) (w : Word) (s : State) (hs : Keeps b0 s) :
    Keeps b0 (wrSwRst q w s) := by
  unfold wrSwRst
  repeat' (first
    | with_reducible first
      | assumption | apply State.resetCause_keeps | apply State.set_keeps | apply State.write_keeps | refine foldl_keeps ?_ ?_
      | refine ite_keeps ?_ ?_ | refine pite_keeps ?_ ?_ | exact none_okeeps | apply some_okeeps | refine oite_keeps ?_ ?_
      | refine getD_keeps ?_ ?_ | refine omap_keeps ?_ ?_ | apply id_keeps
    | intro _ _ _
    | intro _ _
    | split
    | with_reducible first
      | refine pair_keeps ?_ (by assumption) | refine pair_keeps2 ?_ (by assumption)
      | refine opt_keeps ?_ (by assumption)
    | dsimp only
    | fail_if_no_progress with_reducible apply mk_keeps)

theorem State.unreadyIsl_keeps {b0 : State} (s : State) (i : ℕ) (hs : Keeps b0 s) :
    Keeps b0 (State.unreadyIsl s i) := by
  unfold State.unreadyIsl
  repeat' (first
    | with_reducible first
      | assumption | apply State.setReady_keeps | refine foldl_keeps ?_ ?_ | refine ite_keeps ?_ ?_ | refine pite_keeps ?_ ?_
      | exact none_okeeps | apply some_okeeps | refine oite_keeps ?_ ?_ | refine getD_keeps ?_ ?_ | refine omap_keeps ?_ ?_
      | apply id_keeps
    | intro _ _ _
    | intro _ _
    | split
    | with_reducible first
      | refine pair_keeps ?_ (by assumption) | refine pair_keeps2 ?_ (by assumption)
      | refine opt_keeps ?_ (by assumption)
    | dsimp only
    | fail_if_no_progress with_reducible apply mk_keeps)

theorem State.newtUp_keeps {b0 : State} (s : State) (n : ℕ) (hs : Keeps b0 s) :
    Keeps b0 (State.newtUp s n) := by
  unfold State.newtUp
  repeat' (first
    | with_reducible first
      | assumption | apply State.setReady_keeps | apply State.startNewt_keeps | refine foldl_keeps ?_ ?_
      | refine ite_keeps ?_ ?_ | refine pite_keeps ?_ ?_ | exact none_okeeps | apply some_okeeps | refine oite_keeps ?_ ?_
      | refine getD_keeps ?_ ?_ | refine omap_keeps ?_ ?_ | apply id_keeps
    | intro _ _ _
    | intro _ _
    | split
    | with_reducible first
      | refine pair_keeps ?_ (by assumption) | refine pair_keeps2 ?_ (by assumption)
      | refine opt_keeps ?_ (by assumption)
    | dsimp only
    | fail_if_no_progress with_reducible apply mk_keeps)

theorem State.zeroMem_keeps {b0 : State} (s : State) (a : ℕ) (n : ℕ) (hs : Keeps b0 s) :
    Keeps b0 (State.zeroMem s a n) := by
  unfold State.zeroMem
  repeat' (first
    | with_reducible first
      | assumption | apply State.clearMem_keeps | apply State.keepErrs_keeps | refine foldl_keeps ?_ ?_ | refine ite_keeps ?_ ?_
      | refine pite_keeps ?_ ?_ | exact none_okeeps | apply some_okeeps | refine oite_keeps ?_ ?_ | refine getD_keeps ?_ ?_
      | refine omap_keeps ?_ ?_ | apply id_keeps
    | intro _ _ _
    | intro _ _
    | split
    | with_reducible first
      | refine pair_keeps ?_ (by assumption) | refine pair_keeps2 ?_ (by assumption)
      | refine opt_keeps ?_ (by assumption)
    | dsimp only
    | fail_if_no_progress with_reducible apply mk_keeps)

theorem State.releaseSram_keeps {b0 : State} (s : State) (hs : Keeps b0 s) :
    Keeps b0 (State.releaseSram s) := by
  unfold State.releaseSram
  repeat' (first
    | with_reducible first
      | assumption | apply State.each_keeps | apply State.setReady_keeps | apply State.zeroMem_keeps | refine foldl_keeps ?_ ?_
      | refine ite_keeps ?_ ?_ | refine pite_keeps ?_ ?_ | exact none_okeeps | apply some_okeeps | refine oite_keeps ?_ ?_
      | refine getD_keeps ?_ ?_ | refine omap_keeps ?_ ?_ | apply id_keeps
    | intro _ _ _
    | intro _ _
    | split
    | with_reducible first
      | refine pair_keeps ?_ (by assumption) | refine pair_keeps2 ?_ (by assumption)
      | refine opt_keeps ?_ (by assumption)
    | dsimp only
    | fail_if_no_progress with_reducible apply mk_keeps)

theorem State.releaseClutch_keeps {b0 : State} (s : State) (c : ℕ) (hs : Keeps b0 s) :
    Keeps b0 (State.releaseClutch s c) := by
  unfold State.releaseClutch
  repeat' (first
    | with_reducible first
      | assumption | apply State.each_keeps | apply State.setReady_keeps | apply State.zeroMem_keeps | refine foldl_keeps ?_ ?_
      | refine ite_keeps ?_ ?_ | refine pite_keeps ?_ ?_ | exact none_okeeps | apply some_okeeps | refine oite_keeps ?_ ?_
      | refine getD_keeps ?_ ?_ | refine omap_keeps ?_ ?_ | apply id_keeps
    | intro _ _ _
    | intro _ _
    | split
    | with_reducible first
      | refine pair_keeps ?_ (by assumption) | refine pair_keeps2 ?_ (by assumption)
      | refine opt_keeps ?_ (by assumption)
    | dsimp only
    | fail_if_no_progress with_reducible apply mk_keeps)

theorem State.startSkink_keeps {b0 : State} (s : State) (p : ℕ) (hs : Keeps b0 s) :
    Keeps b0 (State.startSkink s p) := by
  unfold State.startSkink
  repeat' (first
    | with_reducible first
      | assumption | apply State.set_keeps | apply State.setEng_keeps | apply State.setReg_keeps | apply State.settleEng_keeps
      | refine foldl_keeps ?_ ?_ | refine ite_keeps ?_ ?_ | refine pite_keeps ?_ ?_ | exact none_okeeps | apply some_okeeps
      | refine oite_keeps ?_ ?_ | refine getD_keeps ?_ ?_ | refine omap_keeps ?_ ?_ | apply id_keeps
    | intro _ _ _
    | intro _ _
    | split
    | with_reducible first
      | refine pair_keeps ?_ (by assumption) | refine pair_keeps2 ?_ (by assumption)
      | refine opt_keeps ?_ (by assumption)
    | dsimp only
    | fail_if_no_progress with_reducible apply mk_keeps)

theorem State.releaseSkink_keeps {b0 : State} (s : State) (p : ℕ) (hs : Keeps b0 s) :
    Keeps b0 (State.releaseSkink s p) := by
  unfold State.releaseSkink
  repeat' (first
    | with_reducible first
      | assumption | apply State.setReady_keeps | apply State.startSkink_keeps | refine foldl_keeps ?_ ?_
      | refine ite_keeps ?_ ?_ | refine pite_keeps ?_ ?_ | exact none_okeeps | apply some_okeeps | refine oite_keeps ?_ ?_
      | refine getD_keeps ?_ ?_ | refine omap_keeps ?_ ?_ | apply id_keeps
    | intro _ _ _
    | intro _ _
    | split
    | with_reducible first
      | refine pair_keeps ?_ (by assumption) | refine pair_keeps2 ?_ (by assumption)
      | refine opt_keeps ?_ (by assumption)
    | dsimp only
    | fail_if_no_progress with_reducible apply mk_keeps)

theorem State.releaseIsl_keeps {b0 : State} (s : State) (i : ℕ) (hs : Keeps b0 s) :
    Keeps b0 (State.releaseIsl s i) := by
  unfold State.releaseIsl
  repeat' (first
    | with_reducible first
      | assumption | apply State.releaseClutch_keeps | apply State.releaseSkink_keeps | apply State.releaseSram_keeps
      | apply State.setReady_keeps | refine foldl_keeps ?_ ?_ | refine ite_keeps ?_ ?_ | refine pite_keeps ?_ ?_
      | exact none_okeeps | apply some_okeeps | refine oite_keeps ?_ ?_ | refine getD_keeps ?_ ?_ | refine omap_keeps ?_ ?_
      | apply id_keeps
    | intro _ _ _
    | intro _ _
    | split
    | with_reducible first
      | refine pair_keeps ?_ (by assumption) | refine pair_keeps2 ?_ (by assumption)
      | refine opt_keeps ?_ (by assumption)
    | dsimp only
    | fail_if_no_progress with_reducible apply mk_keeps)

theorem State.releaseNext_keeps {b0 : State} (s : State) (hs : Keeps b0 s) :
    Keeps b0 (State.releaseNext s) := by
  unfold State.releaseNext
  repeat' (first
    | with_reducible first
      | assumption | apply State.enter_keeps | apply State.releaseIsl_keeps | refine foldl_keeps ?_ ?_ | refine ite_keeps ?_ ?_
      | refine pite_keeps ?_ ?_ | exact none_okeeps | apply some_okeeps | refine oite_keeps ?_ ?_ | refine getD_keeps ?_ ?_
      | refine omap_keeps ?_ ?_ | apply id_keeps
    | intro _ _ _
    | intro _ _
    | split
    | with_reducible first
      | refine pair_keeps ?_ (by assumption) | refine pair_keeps2 ?_ (by assumption)
      | refine opt_keeps ?_ (by assumption)
    | dsimp only
    | fail_if_no_progress with_reducible apply mk_keeps)

theorem State.releaseReset_keeps {b0 : State} (s : State) (x : IslRst) (hs : Keeps b0 s) :
    Keeps b0 (State.releaseReset s x) := by
  unfold State.releaseReset
  repeat' (first
    | with_reducible first
      | assumption | apply State.releaseIsl_keeps | apply State.set_keeps | refine foldl_keeps ?_ ?_ | refine ite_keeps ?_ ?_
      | refine pite_keeps ?_ ?_ | exact none_okeeps | apply some_okeeps | refine oite_keeps ?_ ?_ | refine getD_keeps ?_ ?_
      | refine omap_keeps ?_ ?_ | apply id_keeps
    | intro _ _ _
    | intro _ _
    | split
    | with_reducible first
      | refine pair_keeps ?_ (by assumption) | refine pair_keeps2 ?_ (by assumption)
      | refine opt_keeps ?_ (by assumption)
    | dsimp only
    | fail_if_no_progress with_reducible apply mk_keeps)

theorem State.emptyGroups_keeps {b0 : State} (s : State) (hs : Keeps b0 s) :
    Keeps b0 (State.emptyGroups s) := by
  unfold State.emptyGroups
  repeat' (first
    | with_reducible first
      | assumption | apply State.cleanPage_keeps | apply State.each_keeps | apply State.resetInputs_keeps
      | apply State.set_keeps | apply State.unstaged_keeps | refine foldl_keeps ?_ ?_ | refine ite_keeps ?_ ?_
      | refine pite_keeps ?_ ?_ | exact none_okeeps | apply some_okeeps | refine oite_keeps ?_ ?_ | refine getD_keeps ?_ ?_
      | refine omap_keeps ?_ ?_ | apply id_keeps
    | intro _ _ _
    | intro _ _
    | split
    | with_reducible first
      | refine pair_keeps ?_ (by assumption) | refine pair_keeps2 ?_ (by assumption)
      | refine opt_keeps ?_ (by assumption)
    | dsimp only
    | fail_if_no_progress with_reducible apply mk_keeps)

theorem State.dropFifos_keeps {b0 : State} (s : State) (i : ℕ) (hs : Keeps b0 s) :
    Keeps b0 (State.dropFifos s i) := by
  unfold State.dropFifos
  repeat' (first
    | with_reducible first
      | assumption | apply State.lostXfer_keeps | refine foldl_keeps ?_ ?_ | refine ite_keeps ?_ ?_ | refine pite_keeps ?_ ?_
      | exact none_okeeps | apply some_okeeps | refine oite_keeps ?_ ?_ | refine getD_keeps ?_ ?_ | refine omap_keeps ?_ ?_
      | apply id_keeps
    | intro _ _ _
    | intro _ _
    | split
    | with_reducible first
      | refine pair_keeps ?_ (by assumption) | refine pair_keeps2 ?_ (by assumption)
      | refine opt_keeps ?_ (by assumption)
    | dsimp only
    | fail_if_no_progress with_reducible apply mk_keeps)

theorem State.clearEng_keeps {b0 : State} (s : State) (e : ℕ) (hs : Keeps b0 s) :
    Keeps b0 (State.clearEng s e) := by
  unfold State.clearEng
  repeat' (first
    | with_reducible first
      | assumption | apply State.dropQput_keeps | apply State.dropRemote_keeps | apply State.releaseRsv_keeps
      | apply State.setEng_keeps | refine foldl_keeps ?_ ?_ | refine ite_keeps ?_ ?_ | refine pite_keeps ?_ ?_
      | exact none_okeeps | apply some_okeeps | refine oite_keeps ?_ ?_ | refine getD_keeps ?_ ?_ | refine omap_keeps ?_ ?_
      | apply id_keeps
    | intro _ _ _
    | intro _ _
    | split
    | with_reducible first
      | refine pair_keeps ?_ (by assumption) | refine pair_keeps2 ?_ (by assumption)
      | refine opt_keeps ?_ (by assumption)
    | dsimp only
    | fail_if_no_progress with_reducible apply mk_keeps)

theorem State.dropWrites_keeps {b0 : State} (s : State) (n : ℕ) (hs : Keeps b0 s) :
    Keeps b0 (State.dropWrites s n) := by
  unfold State.dropWrites
  repeat' (first
    | with_reducible first
      | assumption | apply State.endXfer_keeps | apply State.setSlice_keeps | refine foldl_keeps ?_ ?_ | refine ite_keeps ?_ ?_
      | refine pite_keeps ?_ ?_ | exact none_okeeps | apply some_okeeps | refine oite_keeps ?_ ?_ | refine getD_keeps ?_ ?_
      | refine omap_keeps ?_ ?_ | apply id_keeps
    | intro _ _ _
    | intro _ _
    | split
    | with_reducible first
      | refine pair_keeps ?_ (by assumption) | refine pair_keeps2 ?_ (by assumption)
      | refine opt_keeps ?_ (by assumption)
    | dsimp only
    | fail_if_no_progress with_reducible apply mk_keeps)

theorem State.dropStg_keeps {b0 : State} (s : State) (hs : Keeps b0 s) :
    Keeps b0 (State.dropStg s) := by
  unfold State.dropStg
  repeat' (first
    | with_reducible first
      | assumption | apply State.endXfer_keeps | refine foldl_keeps ?_ ?_ | refine ite_keeps ?_ ?_ | refine pite_keeps ?_ ?_
      | exact none_okeeps | apply some_okeeps | refine oite_keeps ?_ ?_ | refine getD_keeps ?_ ?_ | refine omap_keeps ?_ ?_
      | apply id_keeps
    | intro _ _ _
    | intro _ _
    | split
    | with_reducible first
      | refine pair_keeps ?_ (by assumption) | refine pair_keeps2 ?_ (by assumption)
      | refine opt_keeps ?_ (by assumption)
    | dsimp only
    | fail_if_no_progress with_reducible apply mk_keeps)

theorem State.dropWaits_keeps {b0 : State} (s : State) (hs : Keeps b0 s) :
    Keeps b0 (State.dropWaits s) := by
  unfold State.dropWaits
  repeat' (first
    | with_reducible first
      | assumption | apply State.endWait_keeps | refine foldl_keeps ?_ ?_ | refine ite_keeps ?_ ?_ | refine pite_keeps ?_ ?_
      | exact none_okeeps | apply some_okeeps | refine oite_keeps ?_ ?_ | refine getD_keeps ?_ ?_ | refine omap_keeps ?_ ?_
      | apply id_keeps
    | intro _ _ _
    | intro _ _
    | split
    | with_reducible first
      | refine pair_keeps ?_ (by assumption) | refine pair_keeps2 ?_ (by assumption)
      | refine opt_keeps ?_ (by assumption)
    | dsimp only
    | fail_if_no_progress with_reducible apply mk_keeps)

theorem State.endRegrow_keeps {b0 : State} (s : State) (c : ℕ) (hs : Keeps b0 s) :
    Keeps b0 (State.endRegrow s c) := by
  unfold State.endRegrow
  repeat' (first
    | with_reducible first
      | assumption | apply State.rgShow_keeps | apply State.setRgClu_keeps | refine foldl_keeps ?_ ?_ | refine ite_keeps ?_ ?_
      | refine pite_keeps ?_ ?_ | exact none_okeeps | apply some_okeeps | refine oite_keeps ?_ ?_ | refine getD_keeps ?_ ?_
      | refine omap_keeps ?_ ?_ | apply id_keeps
    | intro _ _ _
    | intro _ _
    | split
    | with_reducible first
      | refine pair_keeps ?_ (by assumption) | refine pair_keeps2 ?_ (by assumption)
      | refine opt_keeps ?_ (by assumption)
    | dsimp only
    | fail_if_no_progress with_reducible apply mk_keeps)

theorem State.dropMover_keeps {b0 : State} (s : State) (hs : Keeps b0 s) :
    Keeps b0 (State.dropMover s) := by
  unfold State.dropMover
  repeat' (first
    | with_reducible first
      | assumption | apply State.dropRemote_keeps | refine foldl_keeps ?_ ?_ | refine ite_keeps ?_ ?_ | refine pite_keeps ?_ ?_
      | exact none_okeeps | apply some_okeeps | refine oite_keeps ?_ ?_ | refine getD_keeps ?_ ?_ | refine omap_keeps ?_ ?_
      | apply id_keeps
    | intro _ _ _
    | intro _ _
    | split
    | with_reducible first
      | refine pair_keeps ?_ (by assumption) | refine pair_keeps2 ?_ (by assumption)
      | refine opt_keeps ?_ (by assumption)
    | dsimp only
    | fail_if_no_progress with_reducible apply mk_keeps)

theorem State.clearSys_keeps {b0 : State} (s : State) (hs : Keeps b0 s) :
    Keeps b0 (State.clearSys s) := by
  unfold State.clearSys
  repeat' (first
    | with_reducible first
      | assumption | apply State.dropMover_keeps | apply State.dropWaits_keeps | apply State.emptyGroups_keeps
      | apply State.regrowLost_keeps | apply State.resetInputs_keeps | apply State.tearPulse_keeps | refine foldl_keeps ?_ ?_
      | refine ite_keeps ?_ ?_ | refine pite_keeps ?_ ?_ | exact none_okeeps | apply some_okeeps | refine oite_keeps ?_ ?_
      | refine getD_keeps ?_ ?_ | refine omap_keeps ?_ ?_ | apply id_keeps
    | intro _ _ _
    | intro _ _
    | split
    | with_reducible first
      | refine pair_keeps ?_ (by assumption) | refine pair_keeps2 ?_ (by assumption)
      | refine opt_keeps ?_ (by assumption)
    | dsimp only
    | fail_if_no_progress with_reducible apply mk_keeps)

theorem State.clearTim_keeps {b0 : State} (s : State) (m : ℕ) (hs : Keeps b0 s) :
    Keeps b0 (State.clearTim s m) := by
  unfold State.clearTim
  repeat' (first
    | with_reducible first
      | assumption | apply State.closeWinsOf_keeps | apply State.dropStg_keeps | apply State.dropWrites_keeps
      | apply State.each_keeps | apply State.resetInputs_keeps | apply State.setSlice_keeps | apply State.setZone_keeps
      | refine foldl_keeps ?_ ?_ | refine ite_keeps ?_ ?_ | refine pite_keeps ?_ ?_ | exact none_okeeps | apply some_okeeps
      | refine oite_keeps ?_ ?_ | refine getD_keeps ?_ ?_ | refine omap_keeps ?_ ?_ | apply id_keeps
    | intro _ _ _
    | intro _ _
    | split
    | with_reducible first
      | refine pair_keeps ?_ (by assumption) | refine pair_keeps2 ?_ (by assumption)
      | refine opt_keeps ?_ (by assumption)
    | dsimp only
    | fail_if_no_progress with_reducible apply mk_keeps)

theorem State.clearLnk_keeps {b0 : State} (s : State) (hs : Keeps b0 s) :
    Keeps b0 (State.clearLnk s) := by
  unfold State.clearLnk
  repeat' (first
    | with_reducible first
      | assumption | apply State.endRemote_keeps | apply State.resetInputs_keeps | refine foldl_keeps ?_ ?_
      | refine ite_keeps ?_ ?_ | refine pite_keeps ?_ ?_ | exact none_okeeps | apply some_okeeps | refine oite_keeps ?_ ?_
      | refine getD_keeps ?_ ?_ | refine omap_keeps ?_ ?_ | apply id_keeps
    | intro _ _ _
    | intro _ _
    | split
    | with_reducible first
      | refine pair_keeps ?_ (by assumption) | refine pair_keeps2 ?_ (by assumption)
      | refine opt_keeps ?_ (by assumption)
    | dsimp only
    | fail_if_no_progress with_reducible apply mk_keeps)

theorem State.clearClu_keeps {b0 : State} (s : State) (c : ℕ) (hs : Keeps b0 s) :
    Keeps b0 (State.clearClu s c) := by
  unfold State.clearClu
  repeat' (first
    | with_reducible first
      | assumption | apply State.clearEng_keeps | apply State.setRgClu_keeps | refine foldl_keeps ?_ ?_ | refine ite_keeps ?_ ?_
      | refine pite_keeps ?_ ?_ | exact none_okeeps | apply some_okeeps | refine oite_keeps ?_ ?_ | refine getD_keeps ?_ ?_
      | refine omap_keeps ?_ ?_ | apply id_keeps
    | intro _ _ _
    | intro _ _
    | split
    | with_reducible first
      | refine pair_keeps ?_ (by assumption) | refine pair_keeps2 ?_ (by assumption)
      | refine opt_keeps ?_ (by assumption)
    | dsimp only
    | fail_if_no_progress with_reducible apply mk_keeps)

theorem State.clearIsl_keeps {b0 : State} (s : State) (i : ℕ) (hs : Keeps b0 s) :
    Keeps b0 (State.clearIsl s i) := by
  unfold State.clearIsl
  repeat' (first
    | with_reducible first
      | assumption | apply State.clearClu_keeps | apply State.clearEng_keeps | apply State.clearLnk_keeps
      | apply State.clearSys_keeps | apply State.clearTim_keeps | apply State.resetInputs_keeps | refine foldl_keeps ?_ ?_
      | refine ite_keeps ?_ ?_ | refine pite_keeps ?_ ?_ | exact none_okeeps | apply some_okeeps | refine oite_keeps ?_ ?_
      | refine getD_keeps ?_ ?_ | refine omap_keeps ?_ ?_ | apply id_keeps
    | intro _ _ _
    | intro _ _
    | split
    | with_reducible first
      | refine pair_keeps ?_ (by assumption) | refine pair_keeps2 ?_ (by assumption)
      | refine opt_keeps ?_ (by assumption)
    | dsimp only
    | fail_if_no_progress with_reducible apply mk_keeps)

theorem State.holdIsl_keeps {b0 : State} (s : State) (i : ℕ) (hs : Keeps b0 s) :
    Keeps b0 (State.holdIsl s i) := by
  unfold State.holdIsl
  repeat' (first
    | with_reducible first
      | assumption | apply State.clearIsl_keeps | apply State.dropFifos_keeps | apply State.incSat_keeps
      | apply State.relocksOver_keeps | apply State.resetRegs_keeps | apply State.setHold_keeps | apply State.setReady_keeps
      | apply State.sharedChanged_keeps | apply State.showMode_keeps | apply State.unreadyIsl_keeps
      | apply State.unstageHit_keeps | refine foldl_keeps ?_ ?_ | refine ite_keeps ?_ ?_ | refine pite_keeps ?_ ?_
      | exact none_okeeps | apply some_okeeps | refine oite_keeps ?_ ?_ | refine getD_keeps ?_ ?_ | refine omap_keeps ?_ ?_
      | apply id_keeps
    | intro _ _ _
    | intro _ _
    | split
    | with_reducible first
      | refine pair_keeps ?_ (by assumption) | refine pair_keeps2 ?_ (by assumption)
      | refine opt_keeps ?_ (by assumption)
    | dsimp only
    | fail_if_no_progress with_reducible apply mk_keeps)

theorem State.islGo_keeps {b0 : State} (s : State) (code : ℕ) (hs : Keeps b0 s) :
    Keeps b0 (State.islGo s code) := by
  unfold State.islGo
  repeat' (first
    | with_reducible first
      | assumption | apply State.set_keeps | refine foldl_keeps ?_ ?_ | refine ite_keeps ?_ ?_ | refine pite_keeps ?_ ?_
      | exact none_okeeps | apply some_okeeps | refine oite_keeps ?_ ?_ | refine getD_keeps ?_ ?_ | refine omap_keeps ?_ ?_
      | apply id_keeps
    | intro _ _ _
    | intro _ _
    | split
    | with_reducible first
      | refine pair_keeps ?_ (by assumption) | refine pair_keeps2 ?_ (by assumption)
      | refine opt_keeps ?_ (by assumption)
    | dsimp only
    | fail_if_no_progress with_reducible apply mk_keeps)

theorem wrIslRst_keeps {b0 : State} (q : Req) (w : Word) (s : State) (hs : Keeps b0 s) :
    Keeps b0 (wrIslRst q w s) := by
  unfold wrIslRst
  repeat' (first
    | with_reducible first
      | assumption | apply State.islGo_keeps | apply State.storeDirect_keeps | apply State.write_keeps | apply settle_keeps
      | apply settleAt_keeps | refine foldl_keeps ?_ ?_ | refine ite_keeps ?_ ?_ | refine pite_keeps ?_ ?_ | exact none_okeeps
      | apply some_okeeps | refine oite_keeps ?_ ?_ | refine getD_keeps ?_ ?_ | refine omap_keeps ?_ ?_ | apply id_keeps
    | intro _ _ _
    | intro _ _
    | split
    | with_reducible first
      | refine pair_keeps ?_ (by assumption) | refine pair_keeps2 ?_ (by assumption)
      | refine opt_keeps ?_ (by assumption)
    | dsimp only
    | fail_if_no_progress with_reducible apply mk_keeps)

theorem State.dropConv_keeps {b0 : State} (s : State) (k : ℕ) (hs : Keeps b0 s) :
    Keeps b0 (State.dropConv s k) := by
  unfold State.dropConv
  repeat' (first
    | with_reducible first
      | assumption | apply State.groupDone_keeps | apply State.setGroup_keeps | refine foldl_keeps ?_ ?_
      | refine ite_keeps ?_ ?_ | refine pite_keeps ?_ ?_ | exact none_okeeps | apply some_okeeps | refine oite_keeps ?_ ?_
      | refine getD_keeps ?_ ?_ | refine omap_keeps ?_ ?_ | apply id_keeps
    | intro _ _ _
    | intro _ _
    | split
    | with_reducible first
      | refine pair_keeps ?_ (by assumption) | refine pair_keeps2 ?_ (by assumption)
      | refine opt_keeps ?_ (by assumption)
    | dsimp only
    | fail_if_no_progress with_reducible apply mk_keeps)

theorem State.dropBlk_keeps {b0 : State} (s : State) (kind : ℕ) (k : ℕ) (hs : Keeps b0 s) :
    Keeps b0 (State.dropBlk s kind k) := by
  unfold State.dropBlk
  repeat' (first
    | with_reducible first
      | assumption | apply State.lostXfer_keeps | refine foldl_keeps ?_ ?_ | refine ite_keeps ?_ ?_ | refine pite_keeps ?_ ?_
      | exact none_okeeps | apply some_okeeps | refine oite_keeps ?_ ?_ | refine getD_keeps ?_ ?_ | refine omap_keeps ?_ ?_
      | apply id_keeps
    | intro _ _ _
    | intro _ _
    | split
    | with_reducible first
      | refine pair_keeps ?_ (by assumption) | refine pair_keeps2 ?_ (by assumption)
      | refine opt_keeps ?_ (by assumption)
    | dsimp only
    | fail_if_no_progress with_reducible apply mk_keeps)

theorem State.dropRegrow_keeps {b0 : State} (s : State) (c : ℕ) (k : ℕ) (hs : Keeps b0 s) :
    Keeps b0 (State.dropRegrow s c k) := by
  unfold State.dropRegrow
  repeat' (first
    | with_reducible first
      | assumption | apply State.rgShow_keeps | apply State.setRgClu_keeps | refine foldl_keeps ?_ ?_ | refine ite_keeps ?_ ?_
      | refine pite_keeps ?_ ?_ | exact none_okeeps | apply some_okeeps | refine oite_keeps ?_ ?_ | refine getD_keeps ?_ ?_
      | refine omap_keeps ?_ ?_ | apply id_keeps
    | intro _ _ _
    | intro _ _
    | split
    | with_reducible first
      | refine pair_keeps ?_ (by assumption) | refine pair_keeps2 ?_ (by assumption)
      | refine opt_keeps ?_ (by assumption)
    | dsimp only
    | fail_if_no_progress with_reducible apply mk_keeps)

theorem State.clearBlk_keeps {b0 : State} (s : State) (kind : ℕ) (k : ℕ) (hs : Keeps b0 s) :
    Keeps b0 (State.clearBlk s kind k) := by
  unfold State.clearBlk
  repeat' (first
    | with_reducible first
      | assumption | apply State.clearEng_keeps | apply State.dropConv_keeps | apply State.dropRegrow_keeps
      | apply State.dropWrites_keeps | apply State.frOff_keeps | apply State.resetInputs_keeps | apply State.setCan_keeps
      | apply State.setConv_keeps | apply State.setSdm_keeps | apply State.setSerial_keeps | apply State.setSlice_keeps
      | apply State.stopSlice_keeps | apply State.swlDown_keeps | refine foldl_keeps ?_ ?_ | refine ite_keeps ?_ ?_
      | refine pite_keeps ?_ ?_ | exact none_okeeps | apply some_okeeps | refine oite_keeps ?_ ?_ | refine getD_keeps ?_ ?_
      | refine omap_keeps ?_ ?_ | apply id_keeps
    | intro _ _ _
    | intro _ _
    | split
    | with_reducible first
      | refine pair_keeps ?_ (by assumption) | refine pair_keeps2 ?_ (by assumption)
      | refine opt_keeps ?_ (by assumption)
    | dsimp only
    | fail_if_no_progress with_reducible apply mk_keeps)

theorem State.resetBlk_keeps {b0 : State} (s : State) (kind : ℕ) (k : ℕ) (hs : Keeps b0 s) :
    Keeps b0 (State.resetBlk s kind k) := by
  unfold State.resetBlk
  repeat' (first
    | with_reducible first
      | assumption | apply State.clearBlk_keeps | apply State.dropBlk_keeps | apply State.flagIf_keeps
      | apply State.resetRegs_keeps | apply State.setReady_keeps | apply State.showMode_keeps | apply State.unstageHit_keeps
      | refine foldl_keeps ?_ ?_ | refine ite_keeps ?_ ?_ | refine pite_keeps ?_ ?_ | exact none_okeeps | apply some_okeeps
      | refine oite_keeps ?_ ?_ | refine getD_keeps ?_ ?_ | refine omap_keeps ?_ ?_ | apply id_keeps
    | intro _ _ _
    | intro _ _
    | split
    | with_reducible first
      | refine pair_keeps ?_ (by assumption) | refine pair_keeps2 ?_ (by assumption)
      | refine opt_keeps ?_ (by assumption)
    | dsimp only
    | fail_if_no_progress with_reducible apply mk_keeps)

theorem wrBlkRst_keeps {b0 : State} (q : Req) (w : Word) (s : State) (hs : Keeps b0 s) :
    Keeps b0 (wrBlkRst q w s) := by
  unfold wrBlkRst
  repeat' (first
    | with_reducible first
      | assumption | apply State.resetBlk_keeps | apply State.set_keeps | apply State.storeDirect_keeps
      | apply State.write_keeps | apply settle_keeps | apply settleAt_keeps | refine foldl_keeps ?_ ?_ | refine ite_keeps ?_ ?_
      | refine pite_keeps ?_ ?_ | exact none_okeeps | apply some_okeeps | refine oite_keeps ?_ ?_ | refine getD_keeps ?_ ?_
      | refine omap_keeps ?_ ?_ | apply id_keeps
    | intro _ _ _
    | intro _ _
    | split
    | with_reducible first
      | refine pair_keeps ?_ (by assumption) | refine pair_keeps2 ?_ (by assumption)
      | refine opt_keeps ?_ (by assumption)
    | dsimp only
    | fail_if_no_progress with_reducible apply mk_keeps)

theorem State.applyTrim_keeps {b0 : State} (s : State) (kind : ℕ) (i : ℕ) (d : List Word) (hs : Keeps b0 s) :
    Keeps b0
    (State.applyTrim s kind i d) := by
  unfold State.applyTrim
  repeat' (first
    | with_reducible first
      | assumption | apply State.applyThr_keeps | apply State.set_keeps | refine foldl_keeps ?_ ?_ | refine ite_keeps ?_ ?_
      | refine pite_keeps ?_ ?_ | exact none_okeeps | apply some_okeeps | refine oite_keeps ?_ ?_ | refine getD_keeps ?_ ?_
      | refine omap_keeps ?_ ?_ | apply id_keeps
    | intro _ _ _
    | intro _ _
    | split
    | with_reducible first
      | refine pair_keeps ?_ (by assumption) | refine pair_keeps2 ?_ (by assumption)
      | refine opt_keeps ?_ (by assumption)
    | dsimp only
    | fail_if_no_progress with_reducible apply mk_keeps)

theorem State.badTrim_keeps {b0 : State} (s : State) (kind : ℕ) (i : ℕ) (conflict : Bool) (hs : Keeps b0 s) :
    Keeps b0
    (State.badTrim s kind i conflict) := by
  unfold State.badTrim
  repeat' (first
    | with_reducible first
      | assumption | apply State.flagIf_keeps | apply State.incSat_keeps | apply State.set_keeps | refine foldl_keeps ?_ ?_
      | refine ite_keeps ?_ ?_ | refine pite_keeps ?_ ?_ | exact none_okeeps | apply some_okeeps | refine oite_keeps ?_ ?_
      | refine getD_keeps ?_ ?_ | refine omap_keeps ?_ ?_ | apply id_keeps
    | intro _ _ _
    | intro _ _
    | split
    | with_reducible first
      | refine pair_keeps ?_ (by assumption) | refine pair_keeps2 ?_ (by assumption)
      | refine opt_keeps ?_ (by assumption)
    | dsimp only
    | fail_if_no_progress with_reducible apply mk_keeps)

theorem State.loadTrim_keeps {b0 : State} (s : State) (cs : List (List TrimRec)) (key : ℕ × ℕ) (hs : Keeps b0 s) :
    Keeps b0
    (State.loadTrim s cs key) := by
  unfold State.loadTrim
  repeat' (first
    | with_reducible first
      | assumption | apply State.applyTrim_keeps | apply State.badTrim_keeps | apply State.flagIf_keeps
      | refine foldl_keeps ?_ ?_ | refine ite_keeps ?_ ?_ | refine pite_keeps ?_ ?_ | exact none_okeeps | apply some_okeeps
      | refine oite_keeps ?_ ?_ | refine getD_keeps ?_ ?_ | refine omap_keeps ?_ ?_ | apply id_keeps
    | intro _ _ _
    | intro _ _
    | split
    | with_reducible first
      | refine pair_keeps ?_ (by assumption) | refine pair_keeps2 ?_ (by assumption)
      | refine opt_keeps ?_ (by assumption)
    | dsimp only
    | fail_if_no_progress with_reducible apply mk_keeps)

theorem State.trimLoad_keeps {b0 : State} (s : State) (hs : Keeps b0 s) :
    Keeps b0 (State.trimLoad s) := by
  unfold State.trimLoad
  repeat' (first
    | with_reducible first
      | assumption | apply State.loadTrim_keeps | apply State.set_keeps | apply State.setReady_keeps | refine foldl_keeps ?_ ?_
      | refine ite_keeps ?_ ?_ | refine pite_keeps ?_ ?_ | exact none_okeeps | apply some_okeeps | refine oite_keeps ?_ ?_
      | refine getD_keeps ?_ ?_ | refine omap_keeps ?_ ?_ | apply id_keeps
    | intro _ _ _
    | intro _ _
    | split
    | with_reducible first
      | refine pair_keeps ?_ (by assumption) | refine pair_keeps2 ?_ (by assumption)
      | refine opt_keeps ?_ (by assumption)
    | dsimp only
    | fail_if_no_progress with_reducible apply mk_keeps)

theorem State.applyCal_keeps {b0 : State} (s : State) (r : ℕ) (w1 : ℕ) (w2 : ℕ) (hs : Keeps b0 s) :
    Keeps b0
    (State.applyCal s r w1 w2) := by
  unfold State.applyCal
  repeat' (first
    | with_reducible first
      | assumption | apply State.applyThr_keeps | apply State.set_keeps | refine foldl_keeps ?_ ?_ | refine ite_keeps ?_ ?_
      | refine pite_keeps ?_ ?_ | exact none_okeeps | apply some_okeeps | refine oite_keeps ?_ ?_ | refine getD_keeps ?_ ?_
      | refine omap_keeps ?_ ?_ | apply id_keeps
    | intro _ _ _
    | intro _ _
    | split
    | with_reducible first
      | refine pair_keeps ?_ (by assumption) | refine pair_keeps2 ?_ (by assumption)
      | refine opt_keeps ?_ (by assumption)
    | dsimp only
    | fail_if_no_progress with_reducible apply mk_keeps)

theorem State.factoryCal_keeps {b0 : State} (s : State) (r : ℕ) (hs : Keeps b0 s) :
    Keeps b0 (State.factoryCal s r) := by
  unfold State.factoryCal
  repeat' (first
    | with_reducible first
      | assumption | apply State.applyCal_keeps | refine foldl_keeps ?_ ?_ | refine ite_keeps ?_ ?_ | refine pite_keeps ?_ ?_
      | exact none_okeeps | apply some_okeeps | refine oite_keeps ?_ ?_ | refine getD_keeps ?_ ?_ | refine omap_keeps ?_ ?_
      | apply id_keeps
    | intro _ _ _
    | intro _ _
    | split
    | with_reducible first
      | refine pair_keeps ?_ (by assumption) | refine pair_keeps2 ?_ (by assumption)
      | refine opt_keeps ?_ (by assumption)
    | dsimp only
    | fail_if_no_progress with_reducible apply mk_keeps)

theorem State.loadCal_keeps {b0 : State} (s : State) (r : ℕ) (hs : Keeps b0 s) :
    Keeps b0 (State.loadCal s r) := by
  unfold State.loadCal
  repeat' (first
    | with_reducible first
      | assumption | apply State.applyCal_keeps | apply State.factoryCal_keeps | apply State.incSat_keeps
      | apply State.noteAll_keeps | apply State.set_keeps | refine foldl_keeps ?_ ?_ | refine ite_keeps ?_ ?_
      | refine pite_keeps ?_ ?_ | exact none_okeeps | apply some_okeeps | refine oite_keeps ?_ ?_ | refine getD_keeps ?_ ?_
      | refine omap_keeps ?_ ?_ | apply id_keeps
    | intro _ _ _
    | intro _ _
    | split
    | with_reducible first
      | refine pair_keeps ?_ (by assumption) | refine pair_keeps2 ?_ (by assumption)
      | refine opt_keeps ?_ (by assumption)
    | dsimp only
    | fail_if_no_progress with_reducible apply mk_keeps)

theorem State.calLoad_keeps {b0 : State} (s : State) (hs : Keeps b0 s) :
    Keeps b0 (State.calLoad s) := by
  unfold State.calLoad
  repeat' (first
    | with_reducible first
      | assumption | apply State.loadCal_keeps | apply State.set_keeps | apply State.setReady_keeps | refine foldl_keeps ?_ ?_
      | refine ite_keeps ?_ ?_ | refine pite_keeps ?_ ?_ | exact none_okeeps | apply some_okeeps | refine oite_keeps ?_ ?_
      | refine getD_keeps ?_ ?_ | refine omap_keeps ?_ ?_ | apply id_keeps
    | intro _ _ _
    | intro _ _
    | split
    | with_reducible first
      | refine pair_keeps ?_ (by assumption) | refine pair_keeps2 ?_ (by assumption)
      | refine opt_keeps ?_ (by assumption)
    | dsimp only
    | fail_if_no_progress with_reducible apply mk_keeps)

theorem State.toWatch_keeps {b0 : State} (s : State) (hs : Keeps b0 s) :
    Keeps b0 (State.toWatch s) := by
  unfold State.toWatch
  repeat' (first
    | with_reducible first
      | assumption | apply State.enter_keeps | apply State.set_keeps | refine foldl_keeps ?_ ?_ | refine ite_keeps ?_ ?_
      | refine pite_keeps ?_ ?_ | exact none_okeeps | apply some_okeeps | refine oite_keeps ?_ ?_ | refine getD_keeps ?_ ?_
      | refine omap_keeps ?_ ?_ | apply id_keeps
    | intro _ _ _
    | intro _ _
    | split
    | with_reducible first
      | refine pair_keeps ?_ (by assumption) | refine pair_keeps2 ?_ (by assumption)
      | refine opt_keeps ?_ (by assumption)
    | dsimp only
    | fail_if_no_progress with_reducible apply mk_keeps)

theorem State.leaveWatch_keeps {b0 : State} (s : State) (hs : Keeps b0 s) :
    Keeps b0 (State.leaveWatch s) := by
  unfold State.leaveWatch
  repeat' (first
    | with_reducible first
      | assumption | apply State.enter_keeps | apply State.relockAll_keeps | refine foldl_keeps ?_ ?_ | refine ite_keeps ?_ ?_
      | refine pite_keeps ?_ ?_ | exact none_okeeps | apply some_okeeps | refine oite_keeps ?_ ?_ | refine getD_keeps ?_ ?_
      | refine omap_keeps ?_ ?_ | apply id_keeps
    | intro _ _ _
    | intro _ _
    | split
    | with_reducible first
      | refine pair_keeps ?_ (by assumption) | refine pair_keeps2 ?_ (by assumption)
      | refine opt_keeps ?_ (by assumption)
    | dsimp only
    | fail_if_no_progress with_reducible apply mk_keeps)

theorem State.toFrost_keeps {b0 : State} (s : State) (hs : Keeps b0 s) :
    Keeps b0 (State.toFrost s) := by
  unfold State.toFrost
  repeat' (first
    | with_reducible first
      | assumption | apply State.enter_keeps | apply State.set_keeps | refine foldl_keeps ?_ ?_ | refine ite_keeps ?_ ?_
      | refine pite_keeps ?_ ?_ | exact none_okeeps | apply some_okeeps | refine oite_keeps ?_ ?_ | refine getD_keeps ?_ ?_
      | refine omap_keeps ?_ ?_ | apply id_keeps
    | intro _ _ _
    | intro _ _
    | split
    | with_reducible first
      | refine pair_keeps ?_ (by assumption) | refine pair_keeps2 ?_ (by assumption)
      | refine opt_keeps ?_ (by assumption)
    | dsimp only
    | fail_if_no_progress with_reducible apply mk_keeps)

theorem State.frostStops_keeps {b0 : State} (s : State) (hs : Keeps b0 s) :
    Keeps b0 (State.frostStops s) := by
  unfold State.frostStops
  repeat' (first
    | with_reducible first
      | assumption | apply State.dropMover_keeps | apply State.emptyGroups_keeps | apply State.set_keeps
      | apply State.swlDown_keeps | apply State.unhold_keeps | refine foldl_keeps ?_ ?_ | refine ite_keeps ?_ ?_
      | refine pite_keeps ?_ ?_ | exact none_okeeps | apply some_okeeps | refine oite_keeps ?_ ?_ | refine getD_keeps ?_ ?_
      | refine omap_keeps ?_ ?_ | apply id_keeps
    | intro _ _ _
    | intro _ _
    | split
    | with_reducible first
      | refine pair_keeps ?_ (by assumption) | refine pair_keeps2 ?_ (by assumption)
      | refine opt_keeps ?_ (by assumption)
    | dsimp only
    | fail_if_no_progress with_reducible apply mk_keeps)

theorem State.frostEntry_keeps {b0 : State} (s : State) (hs : Keeps b0 s) :
    Keeps b0 (State.frostEntry s) := by
  unfold State.frostEntry
  repeat' (first
    | with_reducible first
      | assumption | apply State.frostStops_keeps | refine foldl_keeps ?_ ?_ | refine ite_keeps ?_ ?_ | refine pite_keeps ?_ ?_
      | exact none_okeeps | apply some_okeeps | refine oite_keeps ?_ ?_ | refine getD_keeps ?_ ?_ | refine omap_keeps ?_ ?_
      | apply id_keeps
    | intro _ _ _
    | intro _ _
    | split
    | with_reducible first
      | refine pair_keeps ?_ (by assumption) | refine pair_keeps2 ?_ (by assumption)
      | refine opt_keeps ?_ (by assumption)
    | dsimp only
    | fail_if_no_progress with_reducible apply mk_keeps)

theorem State.noteReq_keeps {b0 : State} (s : State) (hs : Keeps b0 s) :
    Keeps b0 (State.noteReq s) := by
  unfold State.noteReq
  repeat' (first
    | with_reducible first
      | assumption | refine foldl_keeps ?_ ?_ | refine ite_keeps ?_ ?_ | refine pite_keeps ?_ ?_ | exact none_okeeps
      | apply some_okeeps | refine oite_keeps ?_ ?_ | refine getD_keeps ?_ ?_ | refine omap_keeps ?_ ?_ | apply id_keeps
    | intro _ _ _
    | intro _ _
    | split
    | with_reducible first
      | refine pair_keeps ?_ (by assumption) | refine pair_keeps2 ?_ (by assumption)
      | refine opt_keeps ?_ (by assumption)
    | dsimp only
    | fail_if_no_progress with_reducible apply mk_keeps)

theorem State.modeReq_keeps {b0 : State} (s0 : State) (target : ℕ) (hs0 : Keeps b0 s0) :
    Keeps b0 (State.modeReq s0 target) := by
  unfold State.modeReq
  repeat' (first
    | with_reducible first
      | assumption | apply State.enter_keeps | apply State.leaveWatch_keeps | apply State.noteReq_keeps
      | apply State.refuseMode_keeps | apply State.toFrost_keeps | apply State.toWatch_keeps | apply State.tripMode_keeps
      | refine foldl_keeps ?_ ?_ | refine ite_keeps ?_ ?_ | refine pite_keeps ?_ ?_ | exact none_okeeps | apply some_okeeps
      | refine oite_keeps ?_ ?_ | refine getD_keeps ?_ ?_ | refine omap_keeps ?_ ?_ | apply id_keeps
    | intro _ _ _
    | intro _ _
    | split
    | with_reducible first
      | refine pair_keeps ?_ (by assumption) | refine pair_keeps2 ?_ (by assumption)
      | refine opt_keeps ?_ (by assumption)
    | dsimp only
    | fail_if_no_progress with_reducible apply mk_keeps)

theorem wrModeReq_keeps {b0 : State} (q : Req) (w : Word) (s : State) (hs : Keeps b0 s) :
    Keeps b0 (wrModeReq q w s) := by
  unfold wrModeReq
  repeat' (first
    | with_reducible first
      | assumption | apply State.modeReq_keeps | apply State.storeDirect_keeps | apply State.write_keeps | apply settle_keeps
      | apply settleAt_keeps | refine foldl_keeps ?_ ?_ | refine ite_keeps ?_ ?_ | refine pite_keeps ?_ ?_ | exact none_okeeps
      | apply some_okeeps | refine oite_keeps ?_ ?_ | refine getD_keeps ?_ ?_ | refine omap_keeps ?_ ?_ | apply id_keeps
    | intro _ _ _
    | intro _ _
    | split
    | with_reducible first
      | refine pair_keeps ?_ (by assumption) | refine pair_keeps2 ?_ (by assumption)
      | refine opt_keeps ?_ (by assumption)
    | dsimp only
    | fail_if_no_progress with_reducible apply mk_keeps)

theorem State.freezeEng_keeps {b0 : State} (s : State) (e : ℕ) (hs : Keeps b0 s) :
    Keeps b0 (State.freezeEng s e) := by
  unfold State.freezeEng
  repeat' (first
    | with_reducible first
      | assumption | apply State.setEng_keeps | refine foldl_keeps ?_ ?_ | refine ite_keeps ?_ ?_ | refine pite_keeps ?_ ?_
      | exact none_okeeps | apply some_okeeps | refine oite_keeps ?_ ?_ | refine getD_keeps ?_ ?_ | refine omap_keeps ?_ ?_
      | apply id_keeps
    | intro _ _ _
    | intro _ _
    | split
    | with_reducible first
      | refine pair_keeps ?_ (by assumption) | refine pair_keeps2 ?_ (by assumption)
      | refine opt_keeps ?_ (by assumption)
    | dsimp only
    | fail_if_no_progress with_reducible apply mk_keeps)

theorem State.sessValid_keeps {b0 : State} (s : State) (v : Word) (hs : Keeps b0 s) :
    Keeps b0 (State.sessValid s v) := by
  unfold State.sessValid
  repeat' (first
    | with_reducible first
      | assumption | apply State.set_keeps | apply State.setReg_keeps | refine foldl_keeps ?_ ?_ | refine ite_keeps ?_ ?_
      | refine pite_keeps ?_ ?_ | exact none_okeeps | apply some_okeeps | refine oite_keeps ?_ ?_ | refine getD_keeps ?_ ?_
      | refine omap_keeps ?_ ?_ | apply id_keeps
    | intro _ _ _
    | intro _ _
    | split
    | with_reducible first
      | refine pair_keeps ?_ (by assumption) | refine pair_keeps2 ?_ (by assumption)
      | refine opt_keeps ?_ (by assumption)
    | dsimp only
    | fail_if_no_progress with_reducible apply mk_keeps)

theorem State.endPulse_keeps {b0 : State} (s : State) (hs : Keeps b0 s) :
    Keeps b0 (State.endPulse s) := by
  unfold State.endPulse
  repeat' (first
    | with_reducible first
      | assumption | apply State.keepErrs_keeps | apply State.putWord_keeps | apply State.sessValid_keeps
      | refine foldl_keeps ?_ ?_ | refine ite_keeps ?_ ?_ | refine pite_keeps ?_ ?_ | exact none_okeeps | apply some_okeeps
      | refine oite_keeps ?_ ?_ | refine getD_keeps ?_ ?_ | refine omap_keeps ?_ ?_ | apply id_keeps
    | intro _ _ _
    | intro _ _
    | split
    | with_reducible first
      | refine pair_keeps ?_ (by assumption) | refine pair_keeps2 ?_ (by assumption)
      | refine opt_keeps ?_ (by assumption)
    | dsimp only
    | fail_if_no_progress with_reducible apply mk_keeps)

theorem State.darkBlocks_keeps {b0 : State} (s : State) (hs : Keeps b0 s) :
    Keeps b0 (State.darkBlocks s) := by
  unfold State.darkBlocks
  repeat' (first
    | with_reducible first
      | assumption | apply State.closeWinsOf_keeps | apply State.dropWrites_keeps | apply State.each_keeps
      | apply State.endPulse_keeps | apply State.lostXfer_keeps | refine foldl_keeps ?_ ?_ | refine ite_keeps ?_ ?_
      | refine pite_keeps ?_ ?_ | exact none_okeeps | apply some_okeeps | refine oite_keeps ?_ ?_ | refine getD_keeps ?_ ?_
      | refine omap_keeps ?_ ?_ | apply id_keeps
    | intro _ _ _
    | intro _ _
    | split
    | with_reducible first
      | refine pair_keeps ?_ (by assumption) | refine pair_keeps2 ?_ (by assumption)
      | refine opt_keeps ?_ (by assumption)
    | dsimp only
    | fail_if_no_progress with_reducible apply mk_keeps)

theorem State.darkEngines_keeps {b0 : State} (s : State) (t : State) (hs : Keeps b0 s) (ht : Keeps b0 t) :
    Keeps b0
    (State.darkEngines s t) := by
  unfold State.darkEngines
  repeat' (first
    | with_reducible first
      | assumption | apply State.clearEng_keeps | apply State.clearIsl_keeps | apply State.endRegrow_keeps
      | apply State.freezeEng_keeps | apply State.setSlice_keeps | refine foldl_keeps ?_ ?_ | refine ite_keeps ?_ ?_
      | refine pite_keeps ?_ ?_ | exact none_okeeps | apply some_okeeps | refine oite_keeps ?_ ?_ | refine getD_keeps ?_ ?_
      | refine omap_keeps ?_ ?_ | apply id_keeps
    | intro _ _ _
    | intro _ _
    | split
    | with_reducible first
      | refine pair_keeps ?_ (by assumption) | refine pair_keeps2 ?_ (by assumption)
      | refine opt_keeps ?_ (by assumption)
    | dsimp only
    | fail_if_no_progress with_reducible apply mk_keeps)

theorem State.darkMem_keeps {b0 : State} (s t : State) (hs : Keeps b0 s) (ht : Keeps b0 t) : Keeps b0 (s.darkMem t) :=
  have h := State.keepErrs_keeps t s.frostMem ht
  ⟨h.pending, h.tb, fun m => swf_filter initByte t.mem _ (ht.mem m), h.regs⟩

theorem State.darkReady_keeps {b0 : State} (t : State) (ht : Keeps b0 t) :
    Keeps b0 (State.darkReady t) := by
  unfold State.darkReady
  repeat' (first
    | with_reducible first
      | assumption | apply State.setReady_keeps | apply State.unreadyIsl_keeps | refine foldl_keeps ?_ ?_
      | refine ite_keeps ?_ ?_ | refine pite_keeps ?_ ?_ | exact none_okeeps | apply some_okeeps | refine oite_keeps ?_ ?_
      | refine getD_keeps ?_ ?_ | refine omap_keeps ?_ ?_ | apply id_keeps
    | intro _ _ _
    | intro _ _
    | split
    | with_reducible first
      | refine pair_keeps ?_ (by assumption) | refine pair_keeps2 ?_ (by assumption)
      | refine opt_keeps ?_ (by assumption)
    | dsimp only
    | fail_if_no_progress with_reducible apply mk_keeps)

theorem State.darken_keeps {b0 : State} (s : State) (hs : Keeps b0 s) :
    Keeps b0 (State.darken s) := by
  unfold State.darken
  repeat' (first
    | with_reducible first
      | assumption | apply State.darkBlocks_keeps | apply State.darkEngines_keeps | apply State.darkMem_keeps
      | apply State.darkReady_keeps | apply State.resetRegs_keeps | refine foldl_keeps ?_ ?_ | refine ite_keeps ?_ ?_
      | refine pite_keeps ?_ ?_ | exact none_okeeps | apply some_okeeps | refine oite_keeps ?_ ?_ | refine getD_keeps ?_ ?_
      | refine omap_keeps ?_ ?_ | apply id_keeps
    | intro _ _ _
    | intro _ _
    | split
    | with_reducible first
      | refine pair_keeps ?_ (by assumption) | refine pair_keeps2 ?_ (by assumption)
      | refine opt_keeps ?_ (by assumption)
    | dsimp only
    | fail_if_no_progress with_reducible apply mk_keeps)

theorem State.startWake_keeps {b0 : State} (s : State) (w : ℕ) (tick : ℕ) (hs : Keeps b0 s) :
    Keeps b0 (State.startWake s w tick)
    := by
  unfold State.startWake
  repeat' (first
    | with_reducible first
      | assumption | apply State.enter_keeps | apply State.put64_keeps | apply State.set_keeps | refine foldl_keeps ?_ ?_
      | refine ite_keeps ?_ ?_ | refine pite_keeps ?_ ?_ | exact none_okeeps | apply some_okeeps | refine oite_keeps ?_ ?_
      | refine getD_keeps ?_ ?_ | refine omap_keeps ?_ ?_ | apply id_keeps
    | intro _ _ _
    | intro _ _
    | split
    | with_reducible first
      | refine pair_keeps ?_ (by assumption) | refine pair_keeps2 ?_ (by assumption)
      | refine opt_keeps ?_ (by assumption)
    | dsimp only
    | fail_if_no_progress with_reducible apply mk_keeps)

theorem wrSkRun_keeps {b0 : State} (q : Req) (w : Word) (s : State) (hs : Keeps b0 s) :
    Keeps b0 (wrSkRun q w s) := by
  unfold wrSkRun
  repeat' (first
    | with_reducible first
      | assumption | apply State.startSkink_keeps | apply State.storeDirect_keeps | apply State.write_keeps
      | refine foldl_keeps ?_ ?_ | refine ite_keeps ?_ ?_ | refine pite_keeps ?_ ?_ | exact none_okeeps | apply some_okeeps
      | refine oite_keeps ?_ ?_ | refine getD_keeps ?_ ?_ | refine omap_keeps ?_ ?_ | apply id_keeps
    | intro _ _ _
    | intro _ _
    | split
    | with_reducible first
      | refine pair_keeps ?_ (by assumption) | refine pair_keeps2 ?_ (by assumption)
      | refine opt_keeps ?_ (by assumption)
    | dsimp only
    | fail_if_no_progress with_reducible apply mk_keeps)

theorem State.nvmCmd_keeps {b0 : State} (s : State) (r : ℕ) (w : Word) (hs : Keeps b0 s) :
    Keeps b0 (State.nvmCmd s r w) := by
  unfold State.nvmCmd
  repeat' (first
    | with_reducible first
      | assumption | apply State.set_keeps | refine foldl_keeps ?_ ?_ | refine ite_keeps ?_ ?_ | refine pite_keeps ?_ ?_
      | exact none_okeeps | apply some_okeeps | refine oite_keeps ?_ ?_ | refine getD_keeps ?_ ?_ | refine omap_keeps ?_ ?_
      | apply id_keeps
    | intro _ _ _
    | intro _ _
    | split
    | with_reducible first
      | refine pair_keeps ?_ (by assumption) | refine pair_keeps2 ?_ (by assumption)
      | refine opt_keeps ?_ (by assumption)
    | dsimp only
    | fail_if_no_progress with_reducible apply mk_keeps)

theorem wrNvmCmd_keeps {b0 : State} (q : Req) (w : Word) (s : State) (hs : Keeps b0 s) :
    Keeps b0 (wrNvmCmd q w s) := by
  unfold wrNvmCmd
  repeat' (first
    | with_reducible first
      | assumption | apply State.nvmCmd_keeps | apply State.write_keeps | refine foldl_keeps ?_ ?_ | refine ite_keeps ?_ ?_
      | refine pite_keeps ?_ ?_ | exact none_okeeps | apply some_okeeps | refine oite_keeps ?_ ?_ | refine getD_keeps ?_ ?_
      | refine omap_keeps ?_ ?_ | apply id_keeps
    | intro _ _ _
    | intro _ _
    | split
    | with_reducible first
      | refine pair_keeps ?_ (by assumption) | refine pair_keeps2 ?_ (by assumption)
      | refine opt_keeps ?_ (by assumption)
    | dsimp only
    | fail_if_no_progress with_reducible apply mk_keeps)

theorem State.sessPulse_keeps {b0 : State} (s : State) (a : ℕ) (v : Word) (hs : Keeps b0 s) :
    Keeps b0 (State.sessPulse s a v) := by
  unfold State.sessPulse
  repeat' (first
    | with_reducible first
      | assumption | apply State.set_keeps | refine foldl_keeps ?_ ?_ | refine ite_keeps ?_ ?_ | refine pite_keeps ?_ ?_
      | exact none_okeeps | apply some_okeeps | refine oite_keeps ?_ ?_ | refine getD_keeps ?_ ?_ | refine omap_keeps ?_ ?_
      | apply id_keeps
    | intro _ _ _
    | intro _ _
    | split
    | with_reducible first
      | refine pair_keeps ?_ (by assumption) | refine pair_keeps2 ?_ (by assumption)
      | refine opt_keeps ?_ (by assumption)
    | dsimp only
    | fail_if_no_progress with_reducible apply mk_keeps)

theorem State.sessBegin_keeps {b0 : State} (s : State) (hs : Keeps b0 s) :
    Keeps b0 (State.sessBegin s) := by
  unfold State.sessBegin
  repeat' (first
    | with_reducible first
      | assumption | apply State.noteAll_keeps | apply State.sessPulse_keeps | apply State.sessValid_keeps
      | apply State.set_keeps | apply State.setReg_keeps | refine foldl_keeps ?_ ?_ | refine ite_keeps ?_ ?_
      | refine pite_keeps ?_ ?_ | exact none_okeeps | apply some_okeeps | refine oite_keeps ?_ ?_ | refine getD_keeps ?_ ?_
      | refine omap_keeps ?_ ?_ | apply id_keeps
    | intro _ _ _
    | intro _ _
    | split
    | with_reducible first
      | refine pair_keeps ?_ (by assumption) | refine pair_keeps2 ?_ (by assumption)
      | refine opt_keeps ?_ (by assumption)
    | dsimp only
    | fail_if_no_progress with_reducible apply mk_keeps)

theorem State.pulseOver_keeps {b0 : State} (s : State) (p : Pulse) (hs : Keeps b0 s) :
    Keeps b0 (State.pulseOver s p) := by
  unfold State.pulseOver
  repeat' (first
    | with_reducible first
      | assumption | apply State.sessPulse_keeps | apply State.set_keeps | refine foldl_keeps ?_ ?_ | refine ite_keeps ?_ ?_
      | refine pite_keeps ?_ ?_ | exact none_okeeps | apply some_okeeps | refine oite_keeps ?_ ?_ | refine getD_keeps ?_ ?_
      | refine omap_keeps ?_ ?_ | apply id_keeps
    | intro _ _ _
    | intro _ _
    | split
    | with_reducible first
      | refine pair_keeps ?_ (by assumption) | refine pair_keeps2 ?_ (by assumption)
      | refine opt_keeps ?_ (by assumption)
    | dsimp only
    | fail_if_no_progress with_reducible apply mk_keeps)

theorem State.otpCmd_keeps {b0 : State} (s : State) (w : Word) (hs : Keeps b0 s) :
    Keeps b0 (State.otpCmd s w) := by
  unfold State.otpCmd
  repeat' (first
    | with_reducible first
      | assumption | apply State.set_keeps | apply State.storeDirect_keeps | refine foldl_keeps ?_ ?_ | refine ite_keeps ?_ ?_
      | refine pite_keeps ?_ ?_ | exact none_okeeps | apply some_okeeps | refine oite_keeps ?_ ?_ | refine getD_keeps ?_ ?_
      | refine omap_keeps ?_ ?_ | apply id_keeps
    | intro _ _ _
    | intro _ _
    | split
    | with_reducible first
      | refine pair_keeps ?_ (by assumption) | refine pair_keeps2 ?_ (by assumption)
      | refine opt_keeps ?_ (by assumption)
    | dsimp only
    | fail_if_no_progress with_reducible apply mk_keeps)

theorem wrOtpPcmd_keeps {b0 : State} (q : Req) (w : Word) (s : State) (hs : Keeps b0 s) :
    Keeps b0 (wrOtpPcmd q w s) := by
  unfold wrOtpPcmd
  repeat' (first
    | with_reducible first
      | assumption | apply State.otpCmd_keeps | apply State.write_keeps | refine foldl_keeps ?_ ?_ | refine ite_keeps ?_ ?_
      | refine pite_keeps ?_ ?_ | exact none_okeeps | apply some_okeeps | refine oite_keeps ?_ ?_ | refine getD_keeps ?_ ?_
      | refine omap_keeps ?_ ?_ | apply id_keeps
    | intro _ _ _
    | intro _ _
    | split
    | with_reducible first
      | refine pair_keeps ?_ (by assumption) | refine pair_keeps2 ?_ (by assumption)
      | refine opt_keeps ?_ (by assumption)
    | dsimp only
    | fail_if_no_progress with_reducible apply mk_keeps)

theorem State.applyXspi_keeps {b0 : State} (s : State) (v : ℕ) (hs : Keeps b0 s) :
    Keeps b0 (State.applyXspi s v) := by
  unfold State.applyXspi
  repeat' (first
    | with_reducible first
      | assumption | apply State.storeDirect_keeps | refine foldl_keeps ?_ ?_ | refine ite_keeps ?_ ?_ | refine pite_keeps ?_ ?_
      | exact none_okeeps | apply some_okeeps | refine oite_keeps ?_ ?_ | refine getD_keeps ?_ ?_ | refine omap_keeps ?_ ?_
      | apply id_keeps
    | intro _ _ _
    | intro _ _
    | split
    | with_reducible first
      | refine pair_keeps ?_ (by assumption) | refine pair_keeps2 ?_ (by assumption)
      | refine opt_keeps ?_ (by assumption)
    | dsimp only
    | fail_if_no_progress with_reducible apply mk_keeps)

theorem State.copyImage_keeps {b0 : State} (s : State) (src k : Nat) (h : List Byte) (hs : Keeps b0 s) :
    Keeps b0 (s.copyImage src k h).1 := by
  have h1 : Keeps b0 (if src = 0 ∧ hdrNum h 0x18 4 ≠ 0 then s.applyXspi (hdrNum h 0x18 4) else s) :=
    ite_keeps (State.applyXspi_keeps _ _ hs) hs
  exact State.memBytes_keeps _ _ _ (ite_keeps (h1.upd rfl rfl rfl rfl) (State.noteUe_keeps _ _ _ (h1.upd rfl rfl rfl rfl)))

theorem State.tryImage_keeps {b0 : State} (s : State) (src : ℕ) (c : ℕ × List Byte) (hs : Keeps b0 s) :
    Keeps b0
    (State.tryImage s src c).1 := by
  unfold State.tryImage
  repeat' (first
    | with_reducible first
      | assumption | apply State.copyImage_keeps | refine foldl_keeps ?_ ?_ | refine ite_keeps ?_ ?_ | refine pite_keeps ?_ ?_
      | exact none_okeeps | apply some_okeeps | refine oite_keeps ?_ ?_ | refine getD_keeps ?_ ?_ | refine omap_keeps ?_ ?_
      | apply id_keeps
    | intro _ _ _
    | intro _ _
    | split
    | with_reducible first
      | refine pair_keeps ?_ (by assumption) | refine pair_keeps2 ?_ (by assumption)
      | refine opt_keeps ?_ (by assumption)
    | dsimp only
    | fail_if_no_progress with_reducible apply mk_keeps)

theorem State.freeRegs_keeps {b0 : State} (s : State) (e : ℕ) (hs : Keeps b0 s) :
    Keeps b0 (State.freeRegs s e) := by
  unfold State.freeRegs
  repeat' (first
    | with_reducible first
      | assumption | apply State.freeWord_keeps | apply State.setEng_keeps | refine foldl_keeps ?_ ?_ | refine ite_keeps ?_ ?_
      | refine pite_keeps ?_ ?_ | exact none_okeeps | apply some_okeeps | refine oite_keeps ?_ ?_ | refine getD_keeps ?_ ?_
      | refine omap_keeps ?_ ?_ | apply id_keeps
    | intro _ _ _
    | intro _ _
    | split
    | with_reducible first
      | refine pair_keeps ?_ (by assumption) | refine pair_keeps2 ?_ (by assumption)
      | refine opt_keeps ?_ (by assumption)
    | dsimp only
    | fail_if_no_progress with_reducible apply mk_keeps)

theorem State.romSet_keeps {b0 : State} (s : State) (f : State → State) (hs : Keeps b0 s) (hf : ∀ x0, Keeps b0 x0 → Keeps b0 (f x0))
    :
    Keeps b0 (State.romSet s f) := by
  unfold State.romSet
  repeat' (first
    | with_reducible first
      | assumption | apply hf | refine foldl_keeps ?_ ?_ | refine ite_keeps ?_ ?_ | refine pite_keeps ?_ ?_ | exact none_okeeps
      | apply some_okeeps | refine oite_keeps ?_ ?_ | refine getD_keeps ?_ ?_ | refine omap_keeps ?_ ?_ | apply id_keeps
    | intro _ _ _
    | intro _ _
    | split
    | with_reducible first
      | refine pair_keeps ?_ (by assumption) | refine pair_keeps2 ?_ (by assumption)
      | refine opt_keeps ?_ (by assumption)
    | dsimp only
    | fail_if_no_progress with_reducible apply mk_keeps)

theorem State.romDone_keeps {b0 : State} (s : State) (src : ℕ) (k : ℕ) (h : List Byte) (hs : Keeps b0 s) :
    Keeps b0
    (State.romDone s src k h) := by
  unfold State.romDone
  repeat' (first
    | with_reducible first
      | assumption | apply State.set_keeps | apply State.setReg_keeps | refine foldl_keeps ?_ ?_ | refine ite_keeps ?_ ?_
      | refine pite_keeps ?_ ?_ | exact none_okeeps | apply some_okeeps | refine oite_keeps ?_ ?_ | refine getD_keeps ?_ ?_
      | refine omap_keeps ?_ ?_ | apply id_keeps
    | intro _ _ _
    | intro _ _
    | split
    | with_reducible first
      | refine pair_keeps ?_ (by assumption) | refine pair_keeps2 ?_ (by assumption)
      | refine opt_keeps ?_ (by assumption)
    | dsimp only
    | fail_if_no_progress with_reducible apply mk_keeps)

theorem State.startImage_keeps {b0 : State} (s : State) (src : ℕ) (k : ℕ) (h : List Byte) (hs : Keeps b0 s) :
    Keeps b0
    (State.startImage s src k h) := by
  unfold State.startImage
  repeat' (first
    | with_reducible first
      | assumption | apply State.freeRegs_keeps | apply State.romDone_keeps | apply State.romSet_keeps
      | apply State.setEng_keeps | apply State.setReg_keeps | refine foldl_keeps ?_ ?_ | refine ite_keeps ?_ ?_
      | refine pite_keeps ?_ ?_ | exact none_okeeps | apply some_okeeps | refine oite_keeps ?_ ?_ | refine getD_keeps ?_ ?_
      | refine omap_keeps ?_ ?_ | apply id_keeps
    | intro _ _ _
    | intro _ _
    | split
    | with_reducible first
      | refine pair_keeps ?_ (by assumption) | refine pair_keeps2 ?_ (by assumption)
      | refine opt_keeps ?_ (by assumption)
    | dsimp only
    | fail_if_no_progress with_reducible apply mk_keeps)

theorem State.bootFrom_cons (s : State) (src : Nat) (c : Nat × List Byte) (cs : List (Nat × List Byte)) :
    s.bootFrom src (c :: cs) = (match (s.romSet (fun s => s.incSat aBOOT_STATUS BOOT_STATUS.attempts)).tryImage src c with
      | (t, 0) => (t.startImage src c.1 c.2, true)
      | (t, f) => (t.romSet (fun t => t.set aBOOT_STATUS BOOT_STATUS.fail f)).bootFrom src cs) := Eq.trans rfl rfl

theorem State.bootFrom_keeps {b0 : State} (s : State) (src : Nat) (cs : List (Nat × List Byte)) (hs : Keeps b0 s) :
    Keeps b0 (s.bootFrom src cs).1 := by
  induction cs generalizing s with
  | nil => exact hs
  | cons c cs ih =>
    have h : Keeps b0 ((s.romSet (fun s => s.incSat aBOOT_STATUS BOOT_STATUS.attempts)).tryImage src c).1 :=
      State.tryImage_keeps _ _ _ (State.romSet_keeps _ _ hs (fun _ h => State.incSat_keeps _ _ _ h))
    rw [State.bootFrom_cons]
    generalize (s.romSet (fun s => s.incSat aBOOT_STATUS BOOT_STATUS.attempts)).tryImage src c = r at h
    split
    · exact State.startImage_keeps _ _ _ _ h
    · exact ih _ (State.romSet_keeps _ _ h (fun _ h => State.set_keeps _ _ _ _ h))

theorem State.bootAll_keeps {b0 : State} (s : State) (l : List Nat) (hs : Keeps b0 s) : Keeps b0 (s.bootAll l).1 := by
  induction l generalizing s with
  | nil => exact hs
  | cons src l ih =>
    have h1 : Keeps b0 (if src = 1 then (s.noteUe 0x110000 512).noteUe 0x180000 512 else s) :=
      ite_keeps (State.noteUe_keeps _ _ _ (State.noteUe_keeps _ _ _ hs)) hs
    have h2 := ite_keeps (c := (s.candidates src).isEmpty = true)
      (State.romSet_keeps _ (fun s => s.set aBOOT_STATUS BOOT_STATUS.fail 1) h1 (fun _ h => State.set_keeps _ _ _ _ h)) h1
    have h3 := State.bootFrom_keeps _ src (s.candidates src) h2
    rw [State.bootAll]
    split
    · exact pair_keeps h3 (by assumption)
    · exact ih _ (pair_keeps h3 (by assumption))

theorem wrBoot_keeps {b0 : State} (q : Req) (a : ℕ) (fs : List Fld) (w : Word) (s : State) (hs : Keeps b0 s) :
    Keeps b0
    (wrBoot q a fs w s) := by
  unfold wrBoot
  repeat' (first
    | with_reducible first
      | assumption | apply State.storeDirect_keeps | apply State.write_keeps | refine foldl_keeps ?_ ?_ | refine ite_keeps ?_ ?_
      | refine pite_keeps ?_ ?_ | exact none_okeeps | apply some_okeeps | refine oite_keeps ?_ ?_ | refine getD_keeps ?_ ?_
      | refine omap_keeps ?_ ?_ | apply id_keeps
    | intro _ _ _
    | intro _ _
    | split
    | with_reducible first
      | refine pair_keeps ?_ (by assumption) | refine pair_keeps2 ?_ (by assumption)
      | refine opt_keeps ?_ (by assumption)
    | dsimp only
    | fail_if_no_progress with_reducible apply mk_keeps)

theorem State.dbgCtrl_keeps {b0 : State} (s : State) (q : Req) (w : Word) (hs : Keeps b0 s) :
    Keeps b0 (State.dbgCtrl s q w) := by
  unfold State.dbgCtrl
  repeat' (first
    | with_reducible first
      | assumption | apply State.set_keeps | refine foldl_keeps ?_ ?_ | refine ite_keeps ?_ ?_ | refine pite_keeps ?_ ?_
      | exact none_okeeps | apply some_okeeps | refine oite_keeps ?_ ?_ | refine getD_keeps ?_ ?_ | refine omap_keeps ?_ ?_
      | apply id_keeps
    | intro _ _ _
    | intro _ _
    | split
    | with_reducible first
      | refine pair_keeps ?_ (by assumption) | refine pair_keeps2 ?_ (by assumption)
      | refine opt_keeps ?_ (by assumption)
    | dsimp only
    | fail_if_no_progress with_reducible apply mk_keeps)

theorem wrDbgCtrl_keeps {b0 : State} (q : Req) (w : Word) (s : State) (hs : Keeps b0 s) :
    Keeps b0 (wrDbgCtrl q w s) := by
  unfold wrDbgCtrl
  repeat' (first
    | with_reducible first
      | assumption | apply State.dbgCtrl_keeps | apply State.write_keeps | refine foldl_keeps ?_ ?_ | refine ite_keeps ?_ ?_
      | refine pite_keeps ?_ ?_ | exact none_okeeps | apply some_okeeps | refine oite_keeps ?_ ?_ | refine getD_keeps ?_ ?_
      | refine omap_keeps ?_ ?_ | apply id_keeps
    | intro _ _ _
    | intro _ _
    | split
    | with_reducible first
      | refine pair_keeps ?_ (by assumption) | refine pair_keeps2 ?_ (by assumption)
      | refine opt_keeps ?_ (by assumption)
    | dsimp only
    | fail_if_no_progress with_reducible apply mk_keeps)

theorem State.unlockEnds_keeps {b0 : State} (s : State) (hs : Keeps b0 s) :
    Keeps b0 (State.unlockEnds s) := by
  unfold State.unlockEnds
  repeat' (first
    | with_reducible first
      | assumption | apply State.setEng_keeps | refine foldl_keeps ?_ ?_ | refine ite_keeps ?_ ?_ | refine pite_keeps ?_ ?_
      | exact none_okeeps | apply some_okeeps | refine oite_keeps ?_ ?_ | refine getD_keeps ?_ ?_ | refine omap_keeps ?_ ?_
      | apply id_keeps
    | intro _ _ _
    | intro _ _
    | split
    | with_reducible first
      | refine pair_keeps ?_ (by assumption) | refine pair_keeps2 ?_ (by assumption)
      | refine opt_keeps ?_ (by assumption)
    | dsimp only
    | fail_if_no_progress with_reducible apply mk_keeps)

theorem State.markUe_keeps {b0 : State} (s : State) (a : ℕ) (hs : Keeps b0 s) :
    Keeps b0 (State.markUe s a) := by
  unfold State.markUe
  repeat' (first
    | with_reducible first
      | assumption | refine foldl_keeps ?_ ?_ | refine ite_keeps ?_ ?_ | refine pite_keeps ?_ ?_ | exact none_okeeps
      | apply some_okeeps | refine oite_keeps ?_ ?_ | refine getD_keeps ?_ ?_ | refine omap_keeps ?_ ?_ | apply id_keeps
    | intro _ _ _
    | intro _ _
    | split
    | with_reducible first
      | refine pair_keeps ?_ (by assumption) | refine pair_keeps2 ?_ (by assumption)
      | refine opt_keeps ?_ (by assumption)
    | dsimp only
    | fail_if_no_progress with_reducible apply mk_keeps)

theorem State.markCe_keeps {b0 : State} (s : State) (a : ℕ) (hs : Keeps b0 s) :
    Keeps b0 (State.markCe s a) := by
  unfold State.markCe
  repeat' (first
    | with_reducible first
      | assumption | refine foldl_keeps ?_ ?_ | refine ite_keeps ?_ ?_ | refine pite_keeps ?_ ?_ | exact none_okeeps
      | apply some_okeeps | refine oite_keeps ?_ ?_ | refine getD_keeps ?_ ?_ | refine omap_keeps ?_ ?_ | apply id_keeps
    | intro _ _ _
    | intro _ _
    | split
    | with_reducible first
      | refine pair_keeps ?_ (by assumption) | refine pair_keeps2 ?_ (by assumption)
      | refine opt_keeps ?_ (by assumption)
    | dsimp only
    | fail_if_no_progress with_reducible apply mk_keeps)

theorem State.resteer_keeps {b0 : State} (s : State) (e : ℕ) (f : ℕ) (hs : Keeps b0 s) :
    Keeps b0 (State.resteer s e f) := by
  unfold State.resteer
  repeat' (first
    | with_reducible first
      | assumption | apply State.set_keeps | refine foldl_keeps ?_ ?_ | refine ite_keeps ?_ ?_ | refine pite_keeps ?_ ?_
      | exact none_okeeps | apply some_okeeps | refine oite_keeps ?_ ?_ | refine getD_keeps ?_ ?_ | refine omap_keeps ?_ ?_
      | apply id_keeps
    | intro _ _ _
    | intro _ _
    | split
    | with_reducible first
      | refine pair_keeps ?_ (by assumption) | refine pair_keeps2 ?_ (by assumption)
      | refine opt_keeps ?_ (by assumption)
    | dsimp only
    | fail_if_no_progress with_reducible apply mk_keeps)

theorem State.failover_keeps {b0 : State} (s : State) (p : ℕ) (cause : ℕ) (hs : Keeps b0 s) :
    Keeps b0 (State.failover s p cause)
    := by
  unfold State.failover
  repeat' (first
    | with_reducible first
      | assumption | apply State.fire_keeps | apply State.holdIsl_keeps | apply State.resteer_keeps | apply State.set_keeps
      | apply State.showMode_keeps | apply State.startSkink_keeps | refine foldl_keeps ?_ ?_ | refine ite_keeps ?_ ?_
      | refine pite_keeps ?_ ?_ | exact none_okeeps | apply some_okeeps | refine oite_keeps ?_ ?_ | refine getD_keeps ?_ ?_
      | refine omap_keeps ?_ ?_ | apply id_keeps
    | intro _ _ _
    | intro _ _
    | split
    | with_reducible first
      | refine pair_keeps ?_ (by assumption) | refine pair_keeps2 ?_ (by assumption)
      | refine opt_keeps ?_ (by assumption)
    | dsimp only
    | fail_if_no_progress with_reducible apply mk_keeps)

theorem State.pairFail_keeps {b0 : State} (s : State) (p : ℕ) (cause : ℕ) (hs : Keeps b0 s) :
    Keeps b0 (State.pairFail s p cause)
    := by
  unfold State.pairFail
  repeat' (first
    | with_reducible first
      | assumption | apply State.failover_keeps | apply State.resetCause_keeps | apply State.set_keeps
      | refine foldl_keeps ?_ ?_ | refine ite_keeps ?_ ?_ | refine pite_keeps ?_ ?_ | exact none_okeeps | apply some_okeeps
      | refine oite_keeps ?_ ?_ | refine getD_keeps ?_ ?_ | refine omap_keeps ?_ ?_ | apply id_keeps
    | intro _ _ _
    | intro _ _
    | split
    | with_reducible first
      | refine pair_keeps ?_ (by assumption) | refine pair_keeps2 ?_ (by assumption)
      | refine opt_keeps ?_ (by assumption)
    | dsimp only
    | fail_if_no_progress with_reducible apply mk_keeps)

theorem wrLockstep_keeps {b0 : State} (q : Req) (w : Word) (s : State) (hs : Keeps b0 s) :
    Keeps b0 (wrLockstep q w s) := by
  unfold wrLockstep
  repeat' (first
    | with_reducible first
      | assumption | apply State.set_keeps | apply State.storeDirect_keeps | apply State.write_keeps | refine foldl_keeps ?_ ?_
      | refine ite_keeps ?_ ?_ | refine pite_keeps ?_ ?_ | exact none_okeeps | apply some_okeeps | refine oite_keeps ?_ ?_
      | refine getD_keeps ?_ ?_ | refine omap_keeps ?_ ?_ | apply id_keeps
    | intro _ _ _
    | intro _ _
    | split
    | with_reducible first
      | refine pair_keeps ?_ (by assumption) | refine pair_keeps2 ?_ (by assumption)
      | refine opt_keeps ?_ (by assumption)
    | dsimp only
    | fail_if_no_progress with_reducible apply mk_keeps)

theorem State.scrubUe_keeps {b0 : State} (s : State) (a : ℕ) (hs : Keeps b0 s) :
    Keeps b0 (State.scrubUe s a) := by
  unfold State.scrubUe
  repeat' (first
    | with_reducible first
      | assumption | apply State.eccUe_keeps | apply State.markUe_keeps | apply State.reportFail_keeps
      | refine foldl_keeps ?_ ?_ | refine ite_keeps ?_ ?_ | refine pite_keeps ?_ ?_ | exact none_okeeps | apply some_okeeps
      | refine oite_keeps ?_ ?_ | refine getD_keeps ?_ ?_ | refine omap_keeps ?_ ?_ | apply id_keeps
    | intro _ _ _
    | intro _ _
    | split
    | with_reducible first
      | refine pair_keeps ?_ (by assumption) | refine pair_keeps2 ?_ (by assumption)
      | refine opt_keeps ?_ (by assumption)
    | dsimp only
    | fail_if_no_progress with_reducible apply mk_keeps)

theorem State.scrubCache_keeps {b0 : State} (s : State) (p : ℕ) (a : ℕ) (data : Bool) (hs : Keeps b0 s) :
    Keeps b0
    (State.scrubCache s p a data) := by
  unfold State.scrubCache
  repeat' (first
    | with_reducible first
      | assumption | apply State.eccUe_keeps | apply State.pairFail_keeps | apply State.setEng_keeps | refine foldl_keeps ?_ ?_
      | refine ite_keeps ?_ ?_ | refine pite_keeps ?_ ?_ | exact none_okeeps | apply some_okeeps | refine oite_keeps ?_ ?_
      | refine getD_keeps ?_ ?_ | refine omap_keeps ?_ ?_ | apply id_keeps
    | intro _ _ _
    | intro _ _
    | split
    | with_reducible first
      | refine pair_keeps ?_ (by assumption) | refine pair_keeps2 ?_ (by assumption)
      | refine opt_keeps ?_ (by assumption)
    | dsimp only
    | fail_if_no_progress with_reducible apply mk_keeps)

theorem State.scrubWord_keeps {b0 : State} (s : State) (w : ℕ) (upset : Upset) (hs : Keeps b0 s) :
    Keeps b0 (State.scrubWord s w upset) := by
  unfold State.scrubWord
  repeat' (first
    | with_reducible first
      | assumption | apply State.eccFix_keeps | apply State.markCe_keeps | apply State.meetCe_keeps | apply State.scrubUe_keeps
      | refine foldl_keeps ?_ ?_ | refine ite_keeps ?_ ?_ | refine pite_keeps ?_ ?_ | exact none_okeeps | apply some_okeeps
      | refine oite_keeps ?_ ?_ | refine getD_keeps ?_ ?_ | refine omap_keeps ?_ ?_ | apply id_keeps
    | intro _ _ _
    | intro _ _
    | split
    | with_reducible first
      | refine pair_keeps ?_ (by assumption) | refine pair_keeps2 ?_ (by assumption)
      | refine opt_keeps ?_ (by assumption)
    | dsimp only
    | fail_if_no_progress with_reducible apply mk_keeps)

theorem State.scrubStaged_keeps {b0 : State} (s : State) (w : ℕ) (upset : Upset) (hs : Keeps b0 s) :
    Keeps b0 (State.scrubStaged s w upset) := by
  unfold State.scrubStaged
  repeat' (first
    | with_reducible first
      | assumption | apply State.eccFix_keeps | apply State.eccUe_keeps | apply State.markCe_keeps | apply State.markUe_keeps
      | apply State.meetCe_keeps | refine foldl_keeps ?_ ?_ | refine ite_keeps ?_ ?_ | refine pite_keeps ?_ ?_
      | exact none_okeeps | apply some_okeeps | refine oite_keeps ?_ ?_ | refine getD_keeps ?_ ?_ | refine omap_keeps ?_ ?_
      | apply id_keeps
    | intro _ _ _
    | intro _ _
    | split
    | with_reducible first
      | refine pair_keeps ?_ (by assumption) | refine pair_keeps2 ?_ (by assumption)
      | refine opt_keeps ?_ (by assumption)
    | dsimp only
    | fail_if_no_progress with_reducible apply mk_keeps)

theorem State.scrubLine_keeps {b0 : State} (s : State) (p : ℕ) (w : ℕ) (data : Bool) (x_4 : Upset) (hs : Keeps b0 s) :
    Keeps b0 (State.scrubLine s p w data x_4) := by
  unfold State.scrubLine
  repeat' (first
    | with_reducible first
      | assumption | apply State.eccCe_keeps | apply State.scrubCache_keeps | refine foldl_keeps ?_ ?_ | refine ite_keeps ?_ ?_
      | refine pite_keeps ?_ ?_ | exact none_okeeps | apply some_okeeps | refine oite_keeps ?_ ?_ | refine getD_keeps ?_ ?_
      | refine omap_keeps ?_ ?_ | apply id_keeps
    | intro _ _ _
    | intro _ _
    | split
    | with_reducible first
      | refine pair_keeps ?_ (by assumption) | refine pair_keeps2 ?_ (by assumption)
      | refine opt_keeps ?_ (by assumption)
    | dsimp only
    | fail_if_no_progress with_reducible apply mk_keeps)

theorem wrSysWdtCtrl_keeps {b0 : State} (q : Req) (w : Word) (s : State) (hs : Keeps b0 s) :
    Keeps b0 (wrSysWdtCtrl q w s) := by
  unfold wrSysWdtCtrl
  repeat' (first
    | with_reducible first
      | assumption | apply State.set_keeps | apply State.storeDirect_keeps | apply State.write_keeps | refine foldl_keeps ?_ ?_
      | refine ite_keeps ?_ ?_ | refine pite_keeps ?_ ?_ | exact none_okeeps | apply some_okeeps | refine oite_keeps ?_ ?_
      | refine getD_keeps ?_ ?_ | refine omap_keeps ?_ ?_ | apply id_keeps
    | intro _ _ _
    | intro _ _
    | split
    | with_reducible first
      | refine pair_keeps ?_ (by assumption) | refine pair_keeps2 ?_ (by assumption)
      | refine opt_keeps ?_ (by assumption)
    | dsimp only
    | fail_if_no_progress with_reducible apply mk_keeps)

theorem wrSysWdtKick_keeps {b0 : State} (q : Req) (w : Word) (s : State) (hs : Keeps b0 s) :
    Keeps b0 (wrSysWdtKick q w s) := by
  unfold wrSysWdtKick
  repeat' (first
    | with_reducible first
      | assumption | apply State.set_keeps | apply State.write_keeps | refine foldl_keeps ?_ ?_ | refine ite_keeps ?_ ?_
      | refine pite_keeps ?_ ?_ | exact none_okeeps | apply some_okeeps | refine oite_keeps ?_ ?_ | refine getD_keeps ?_ ?_
      | refine omap_keeps ?_ ?_ | apply id_keeps
    | intro _ _ _
    | intro _ _
    | split
    | with_reducible first
      | refine pair_keeps ?_ (by assumption) | refine pair_keeps2 ?_ (by assumption)
      | refine opt_keeps ?_ (by assumption)
    | dsimp only
    | fail_if_no_progress with_reducible apply mk_keeps)

theorem State.startRegrow_keeps {b0 : State} (s : State) (c : ℕ) (x : Failed) (hs : Keeps b0 s) :
    Keeps b0 (State.startRegrow s c x) := by
  unfold State.startRegrow
  repeat' (first
    | with_reducible first
      | assumption | apply State.noSpare_keeps | apply State.rgShow_keeps | apply State.set_keeps | apply State.setRgClu_keeps
      | refine foldl_keeps ?_ ?_ | refine ite_keeps ?_ ?_ | refine pite_keeps ?_ ?_ | exact none_okeeps | apply some_okeeps
      | refine oite_keeps ?_ ?_ | refine getD_keeps ?_ ?_ | refine omap_keeps ?_ ?_ | apply id_keeps
    | intro _ _ _
    | intro _ _
    | split
    | with_reducible first
      | refine pair_keeps ?_ (by assumption) | refine pair_keeps2 ?_ (by assumption)
      | refine opt_keeps ?_ (by assumption)
    | dsimp only
    | fail_if_no_progress with_reducible apply mk_keeps)

theorem State.regrowCmd_keeps {b0 : State} (s : State) (c : ℕ) (w : Word) (hs : Keeps b0 s) :
    Keeps b0 (State.regrowCmd s c w) := by
  unfold State.regrowCmd
  repeat' (first
    | with_reducible first
      | assumption | apply State.reportFail_keeps | apply State.rgShow_keeps | apply State.set_keeps
      | apply State.setRgClu_keeps | refine foldl_keeps ?_ ?_ | refine ite_keeps ?_ ?_ | refine pite_keeps ?_ ?_
      | exact none_okeeps | apply some_okeeps | refine oite_keeps ?_ ?_ | refine getD_keeps ?_ ?_ | refine omap_keeps ?_ ?_
      | apply id_keeps
    | intro _ _ _
    | intro _ _
    | split
    | with_reducible first
      | refine pair_keeps ?_ (by assumption) | refine pair_keeps2 ?_ (by assumption)
      | refine opt_keeps ?_ (by assumption)
    | dsimp only
    | fail_if_no_progress with_reducible apply mk_keeps)

theorem wrRegrowCmd_keeps {b0 : State} (q : Req) (c : ℕ) (w : Word) (s : State) (hs : Keeps b0 s) :
    Keeps b0 (wrRegrowCmd q c w s)
    := by
  unfold wrRegrowCmd
  repeat' (first
    | with_reducible first
      | assumption | apply State.regrowCmd_keeps | apply State.write_keeps | refine foldl_keeps ?_ ?_ | refine ite_keeps ?_ ?_
      | refine pite_keeps ?_ ?_ | exact none_okeeps | apply some_okeeps | refine oite_keeps ?_ ?_ | refine getD_keeps ?_ ?_
      | refine omap_keeps ?_ ?_ | apply id_keeps
    | intro _ _ _
    | intro _ _
    | split
    | with_reducible first
      | refine pair_keeps ?_ (by assumption) | refine pair_keeps2 ?_ (by assumption)
      | refine opt_keeps ?_ (by assumption)
    | dsimp only
    | fail_if_no_progress with_reducible apply mk_keeps)

theorem State.copyWords_keeps {b0 : State} (s : State) (src : ℕ) (dst : ℕ) (n : ℕ) (hs : Keeps b0 s) :
    Keeps b0
    (State.copyWords s src dst n) := by
  unfold State.copyWords
  repeat' (first
    | with_reducible first
      | assumption | apply State.markUe_keeps | apply State.memWrite_keeps | refine foldl_keeps ?_ ?_ | refine ite_keeps ?_ ?_
      | refine pite_keeps ?_ ?_ | exact none_okeeps | apply some_okeeps | refine oite_keeps ?_ ?_ | refine getD_keeps ?_ ?_
      | refine omap_keeps ?_ ?_ | apply id_keeps
    | intro _ _ _
    | intro _ _
    | split
    | with_reducible first
      | refine pair_keeps ?_ (by assumption) | refine pair_keeps2 ?_ (by assumption)
      | refine opt_keeps ?_ (by assumption)
    | dsimp only
    | fail_if_no_progress with_reducible apply mk_keeps)

theorem State.copyRegs_keeps {b0 : State} (s : State) (n j : Nat) (hs : Keeps b0 s) : Keeps b0 (s.copyRegs n j) := by
  have h0 : Keeps b0 { s with regs := s.regs.filter (fun x => !blkHas 0 j x.1) } :=
    ⟨hs.pending, hs.tb, hs.mem, fun h => swf_filter resetWord s.regs _ (hs.regs h)⟩
  unfold State.copyRegs
  refine State.setEng_keeps _ _ _ (ite_keeps (State.set_keeps _ _ _ _ ?_) ?_) <;>
    exact State.set_keeps _ _ _ _ (State.setB_keeps _ _ _ _
      (State.setB_keeps _ _ _ _ (foldl_keeps (State.setReg_keeps _ _ _ (State.setReg_keeps _ _ _ (State.setReg_keeps _ _ _
        (State.setReg_keeps _ _ _ h0)))) (fun _ _ h => State.setReg_keeps _ _ _ h))))

theorem State.copySwap_keeps {b0 : State} (s : State) (n : ℕ) (j : ℕ) (hs : Keeps b0 s) :
    Keeps b0 (State.copySwap s n j) := by
  unfold State.copySwap
  repeat' (first
    | with_reducible first
      | assumption | apply State.set_keeps | apply State.setStaged_keeps | apply State.swapShown_keeps
      | apply State.unstage_keeps | refine foldl_keeps ?_ ?_ | refine ite_keeps ?_ ?_ | refine pite_keeps ?_ ?_
      | exact none_okeeps | apply some_okeeps | refine oite_keeps ?_ ?_ | refine getD_keeps ?_ ?_ | refine omap_keeps ?_ ?_
      | apply id_keeps
    | intro _ _ _
    | intro _ _
    | split
    | with_reducible first
      | refine pair_keeps ?_ (by assumption) | refine pair_keeps2 ?_ (by assumption)
      | refine opt_keeps ?_ (by assumption)
    | dsimp only
    | fail_if_no_progress with_reducible apply mk_keeps)

theorem State.armRegrow_keeps {b0 : State} (s : State) (c : ℕ) (g : ℕ) (hs : Keeps b0 s) :
    Keeps b0 (State.armRegrow s c g) := by
  unfold State.armRegrow
  repeat' (first
    | with_reducible first
      | assumption | apply State.set_keeps | apply State.setArmed_keeps | refine foldl_keeps ?_ ?_ | refine ite_keeps ?_ ?_
      | refine pite_keeps ?_ ?_ | exact none_okeeps | apply some_okeeps | refine oite_keeps ?_ ?_ | refine getD_keeps ?_ ?_
      | refine omap_keeps ?_ ?_ | apply id_keeps
    | intro _ _ _
    | intro _ _
    | split
    | with_reducible first
      | refine pair_keeps ?_ (by assumption) | refine pair_keeps2 ?_ (by assumption)
      | refine opt_keeps ?_ (by assumption)
    | dsimp only
    | fail_if_no_progress with_reducible apply mk_keeps)

theorem State.rebindAt_keeps {b0 : State} (s : State) (a : ℕ) (fc : Fld) (fn : Fld) (n : ℕ) (j : ℕ) (hs : Keeps b0 s) :
    Keeps b0
    (State.rebindAt s a fc fn n j) := by
  unfold State.rebindAt
  repeat' (first
    | with_reducible first
      | assumption | apply State.set_keeps | refine foldl_keeps ?_ ?_ | refine ite_keeps ?_ ?_ | refine pite_keeps ?_ ?_
      | exact none_okeeps | apply some_okeeps | refine oite_keeps ?_ ?_ | refine getD_keeps ?_ ?_ | refine omap_keeps ?_ ?_
      | apply id_keeps
    | intro _ _ _
    | intro _ _
    | split
    | with_reducible first
      | refine pair_keeps ?_ (by assumption) | refine pair_keeps2 ?_ (by assumption)
      | refine opt_keeps ?_ (by assumption)
    | dsimp only
    | fail_if_no_progress with_reducible apply mk_keeps)

theorem State.rebind_keeps {b0 : State} (s : State) (n : ℕ) (j : ℕ) (hs : Keeps b0 s) :
    Keeps b0 (State.rebind s n j) := by
  unfold State.rebind
  repeat' (first
    | with_reducible first
      | assumption | apply State.rebindAt_keeps | apply State.set_keeps | apply State.setReg_keeps | refine foldl_keeps ?_ ?_
      | refine ite_keeps ?_ ?_ | refine pite_keeps ?_ ?_ | exact none_okeeps | apply some_okeeps | refine oite_keeps ?_ ?_
      | refine getD_keeps ?_ ?_ | refine omap_keeps ?_ ?_ | apply id_keeps
    | intro _ _ _
    | intro _ _
    | split
    | with_reducible first
      | refine pair_keeps ?_ (by assumption) | refine pair_keeps2 ?_ (by assumption)
      | refine opt_keeps ?_ (by assumption)
    | dsimp only
    | fail_if_no_progress with_reducible apply mk_keeps)

theorem State.completeRegrow_keeps {b0 : State} (s : State) (c : ℕ) (tc : ℕ) (r : Regrow) (swapped : Bool) (hs : Keeps b0 s) :
    Keeps b0 (State.completeRegrow s c tc r swapped) := by
  unfold State.completeRegrow
  repeat' (first
    | with_reducible first
      | assumption | apply State.fireAt_keeps | apply State.rebind_keeps | apply State.rgShow_keeps | apply State.set_keeps
      | apply State.setB_keeps | apply State.setRgClu_keeps | apply State.startNewt_keeps | apply State.swapShown_keeps
      | refine foldl_keeps ?_ ?_ | refine ite_keeps ?_ ?_ | refine pite_keeps ?_ ?_ | exact none_okeeps | apply some_okeeps
      | refine oite_keeps ?_ ?_ | refine getD_keeps ?_ ?_ | refine omap_keeps ?_ ?_ | apply id_keeps
    | intro _ _ _
    | intro _ _
    | split
    | with_reducible first
      | refine pair_keeps ?_ (by assumption) | refine pair_keeps2 ?_ (by assumption)
      | refine opt_keeps ?_ (by assumption)
    | dsimp only
    | fail_if_no_progress with_reducible apply mk_keeps)

theorem State.completeRegrows_keeps {b0 : State} (s : State) (s0 : State) (g : ℕ) (tc : ℕ) (hs : Keeps b0 s) :
    Keeps b0 (State.completeRegrows s s0 g tc) := by
  unfold State.completeRegrows
  repeat' (first
    | with_reducible first
      | assumption | apply State.completeRegrow_keeps | apply State.showMode_keeps | refine foldl_keeps ?_ ?_
      | refine ite_keeps ?_ ?_ | refine pite_keeps ?_ ?_ | exact none_okeeps | apply some_okeeps | refine oite_keeps ?_ ?_
      | refine getD_keeps ?_ ?_ | refine omap_keeps ?_ ?_ | apply id_keeps
    | intro _ _ _
    | intro _ _
    | split
    | with_reducible first
      | refine pair_keeps ?_ (by assumption) | refine pair_keeps2 ?_ (by assumption)
      | refine opt_keeps ?_ (by assumption)
    | dsimp only
    | fail_if_no_progress with_reducible apply mk_keeps)

theorem State.ctlStore_keeps {b0 : State} (s : State) (r : ℕ) (g : ℕ) (e : ℕ) (o : ℕ) (w : Word) (hs : Keeps b0 s) :
    Keeps b0
    (State.ctlStore s r g e o w).1 := by
  unfold State.ctlStore
  repeat' (first
    | with_reducible first
      | assumption | apply State.engCtrlEff_keeps | apply State.keepErrs_keeps | apply State.set_keeps
      | apply State.storeDirect_keeps | apply State.storeFields_keeps | apply State.wdtCtrl_keeps | apply State.wdtKick_keeps
      | refine foldl_keeps ?_ ?_ | refine ite_keeps ?_ ?_ | refine pite_keeps ?_ ?_ | exact none_okeeps | apply some_okeeps
      | refine oite_keeps ?_ ?_ | refine getD_keeps ?_ ?_ | refine omap_keeps ?_ ?_ | apply id_keeps
    | intro _ _ _
    | intro _ _
    | split
    | with_reducible first
      | refine pair_keeps ?_ (by assumption) | refine pair_keeps2 ?_ (by assumption)
      | refine opt_keeps ?_ (by assumption)
    | dsimp only
    | fail_if_no_progress with_reducible apply mk_keeps)

theorem wrCtl_keeps {b0 : State} (q : Req) (n : ℕ) (o : ℕ) (w : Word) (s : State) (hs : Keeps b0 s) :
    Keeps b0 (wrCtl q n o w s) := by
  unfold wrCtl
  repeat' (first
    | with_reducible first
      | assumption | apply State.ctlStore_keeps | apply State.refuse_keeps | apply State.reply_keeps | refine foldl_keeps ?_ ?_
      | refine ite_keeps ?_ ?_ | refine pite_keeps ?_ ?_ | exact none_okeeps | apply some_okeeps | refine oite_keeps ?_ ?_
      | refine getD_keeps ?_ ?_ | refine omap_keeps ?_ ?_ | apply id_keeps
    | intro _ _ _
    | intro _ _
    | split
    | with_reducible first
      | refine pair_keeps ?_ (by assumption) | refine pair_keeps2 ?_ (by assumption)
      | refine opt_keeps ?_ (by assumption)
    | dsimp only
    | fail_if_no_progress with_reducible apply mk_keeps)

theorem farCtl_keeps {b0 : State} (q : Req) (n : ℕ) (o : ℕ) (w : Word) (s : State) (hs : Keeps b0 s) :
    Keeps b0 (farCtl q n o w s)
    := by
  unfold farCtl
  repeat' (first
    | with_reducible first
      | assumption | apply State.cross_keeps | apply wrCtl_keeps | refine foldl_keeps ?_ ?_ | refine ite_keeps ?_ ?_
      | refine pite_keeps ?_ ?_ | exact none_okeeps | apply some_okeeps | refine oite_keeps ?_ ?_ | refine getD_keeps ?_ ?_
      | refine omap_keeps ?_ ?_ | apply id_keeps
    | intro _ _ _
    | intro _ _
    | split
    | with_reducible first
      | refine pair_keeps ?_ (by assumption) | refine pair_keeps2 ?_ (by assumption)
      | refine opt_keeps ?_ (by assumption)
    | dsimp only
    | fail_if_no_progress with_reducible apply mk_keeps)

theorem wrOwnCtl_keeps {b0 : State} (q : Req) (n : ℕ) (o : ℕ) (w : Word) (s : State) (hs : Keeps b0 s) :
    Keeps b0
    (wrOwnCtl q n o w s) := by
  unfold wrOwnCtl
  repeat' (first
    | with_reducible first
      | assumption | apply State.ctlStore_keeps | apply State.reply_keeps | apply farCtl_keeps | refine foldl_keeps ?_ ?_
      | refine ite_keeps ?_ ?_ | refine pite_keeps ?_ ?_ | exact none_okeeps | apply some_okeeps | refine oite_keeps ?_ ?_
      | refine getD_keeps ?_ ?_ | refine omap_keeps ?_ ?_ | apply id_keeps
    | intro _ _ _
    | intro _ _
    | split
    | with_reducible first
      | refine pair_keeps ?_ (by assumption) | refine pair_keeps2 ?_ (by assumption)
      | refine opt_keeps ?_ (by assumption)
    | dsimp only
    | fail_if_no_progress with_reducible apply mk_keeps)

theorem wrSkSwp_keeps {b0 : State} (q : Req) (p : ℕ) (hi : Bool) (w : Word) (s : State) (hs : Keeps b0 s) :
    Keeps b0
    (wrSkSwp q p hi w s) := by
  unfold wrSkSwp
  repeat' (first
    | with_reducible first
      | assumption | apply State.ctlStore_keeps | apply State.refuse_keeps | apply State.reply_keeps | refine foldl_keeps ?_ ?_
      | refine ite_keeps ?_ ?_ | refine pite_keeps ?_ ?_ | exact none_okeeps | apply some_okeeps | refine oite_keeps ?_ ?_
      | refine getD_keeps ?_ ?_ | refine omap_keeps ?_ ?_ | apply id_keeps
    | intro _ _ _
    | intro _ _
    | split
    | with_reducible first
      | refine pair_keeps ?_ (by assumption) | refine pair_keeps2 ?_ (by assumption)
      | refine opt_keeps ?_ (by assumption)
    | dsimp only
    | fail_if_no_progress with_reducible apply mk_keeps)

theorem State.clkWrite_keeps {b0 : State} (s : State) (c : ℕ) (w : Word) (hs : Keeps b0 s) :
    Keeps b0 (State.clkWrite s c w) := by
  unfold State.clkWrite
  repeat' (first
    | with_reducible first
      | assumption | apply State.set_keeps | refine foldl_keeps ?_ ?_ | refine ite_keeps ?_ ?_ | refine pite_keeps ?_ ?_
      | exact none_okeeps | apply some_okeeps | refine oite_keeps ?_ ?_ | refine getD_keeps ?_ ?_ | refine omap_keeps ?_ ?_
      | apply id_keeps
    | intro _ _ _
    | intro _ _
    | split
    | with_reducible first
      | refine pair_keeps ?_ (by assumption) | refine pair_keeps2 ?_ (by assumption)
      | refine opt_keeps ?_ (by assumption)
    | dsimp only
    | fail_if_no_progress with_reducible apply mk_keeps)

theorem wrClutchClk_keeps {b0 : State} (q : Req) (c : ℕ) (w : Word) (s : State) (hs : Keeps b0 s) :
    Keeps b0 (wrClutchClk q c w s)
    := by
  unfold wrClutchClk
  repeat' (first
    | with_reducible first
      | assumption | apply State.clkWrite_keeps | apply State.refuse_keeps | apply State.write_keeps | refine foldl_keeps ?_ ?_
      | refine ite_keeps ?_ ?_ | refine pite_keeps ?_ ?_ | exact none_okeeps | apply some_okeeps | refine oite_keeps ?_ ?_
      | refine getD_keeps ?_ ?_ | refine omap_keeps ?_ ?_ | apply id_keeps
    | intro _ _ _
    | intro _ _
    | split
    | with_reducible first
      | refine pair_keeps ?_ (by assumption) | refine pair_keeps2 ?_ (by assumption)
      | refine opt_keeps ?_ (by assumption)
    | dsimp only
    | fail_if_no_progress with_reducible apply mk_keeps)

theorem State.applyHeld_keeps {b0 : State} (s : State) (c : ℕ) (hs : Keeps b0 s) :
    Keeps b0 (State.applyHeld s c) := by
  unfold State.applyHeld
  repeat' (first
    | with_reducible first
      | assumption | apply State.applyWords_keeps | apply State.each_keeps | apply State.flipPage_keeps
      | refine foldl_keeps ?_ ?_ | refine ite_keeps ?_ ?_ | refine pite_keeps ?_ ?_ | exact none_okeeps | apply some_okeeps
      | refine oite_keeps ?_ ?_ | refine getD_keeps ?_ ?_ | refine omap_keeps ?_ ?_ | apply id_keeps
    | intro _ _ _
    | intro _ _
    | split
    | with_reducible first
      | refine pair_keeps ?_ (by assumption) | refine pair_keeps2 ?_ (by assumption)
      | refine opt_keeps ?_ (by assumption)
    | dsimp only
    | fail_if_no_progress with_reducible apply mk_keeps)

theorem State.stopHeld_keeps {b0 : State} (s : State) (n : ℕ) (hs : Keeps b0 s) :
    Keeps b0 (State.stopHeld s n) := by
  unfold State.stopHeld
  repeat' (first
    | with_reducible first
      | assumption | apply State.haltNow_keeps | refine foldl_keeps ?_ ?_ | refine ite_keeps ?_ ?_ | refine pite_keeps ?_ ?_
      | exact none_okeeps | apply some_okeeps | refine oite_keeps ?_ ?_ | refine getD_keeps ?_ ?_ | refine omap_keeps ?_ ?_
      | apply id_keeps
    | intro _ _ _
    | intro _ _
    | split
    | with_reducible first
      | refine pair_keeps ?_ (by assumption) | refine pair_keeps2 ?_ (by assumption)
      | refine opt_keeps ?_ (by assumption)
    | dsimp only
    | fail_if_no_progress with_reducible apply mk_keeps)

theorem State.pgStore_keeps {b0 : State} (s : State) (a : ℕ) (w : Word) (hs : Keeps b0 s) :
    Keeps b0 (State.pgStore s a w) := by
  unfold State.pgStore
  repeat' (first
    | with_reducible first
      | assumption | apply State.set_keeps | apply State.storeDirect_keeps | refine foldl_keeps ?_ ?_ | refine ite_keeps ?_ ?_
      | refine pite_keeps ?_ ?_ | exact none_okeeps | apply some_okeeps | refine oite_keeps ?_ ?_ | refine getD_keeps ?_ ?_
      | refine omap_keeps ?_ ?_ | apply id_keeps
    | intro _ _ _
    | intro _ _
    | split
    | with_reducible first
      | refine pair_keeps ?_ (by assumption) | refine pair_keeps2 ?_ (by assumption)
      | refine opt_keeps ?_ (by assumption)
    | dsimp only
    | fail_if_no_progress with_reducible apply mk_keeps)

theorem wrClutchReg_keeps {b0 : State} (q : Req) (c : ℕ) (a : ℕ) (w : Word) (s : State) (hs : Keeps b0 s) :
    Keeps b0
    (wrClutchReg q c a w s) := by
  unfold wrClutchReg
  repeat' (first
    | with_reducible first
      | assumption | apply State.pgStore_keeps | apply State.write_keeps | apply State.writeFields_keeps
      | apply wrClutchClk_keeps | apply wrRegrowCmd_keeps | refine foldl_keeps ?_ ?_ | refine ite_keeps ?_ ?_
      | refine pite_keeps ?_ ?_ | exact none_okeeps | apply some_okeeps | refine oite_keeps ?_ ?_ | refine getD_keeps ?_ ?_
      | refine omap_keeps ?_ ?_ | apply id_keeps
    | intro _ _ _
    | intro _ _
    | split
    | with_reducible first
      | refine pair_keeps ?_ (by assumption) | refine pair_keeps2 ?_ (by assumption)
      | refine opt_keeps ?_ (by assumption)
    | dsimp only
    | fail_if_no_progress with_reducible apply mk_keeps)

end Sys2Proof.Machine
end

