-- ==== Sys2Proof/Laws/KeepsBus.lean ====
section
/-!
SUPPORT. What `Keeps` says, one lemma per operation: the bus, remote requests, DMA, caches.
-/

namespace Sys2Proof.Machine

set_option linter.unusedTactic false
set_option linter.unreachableTactic false

theorem State.regRead_keeps {b0 : State} (s : State) (q : Req) (a : ℕ) (hs : Keeps b0 s) :
    Keeps b0 (State.regRead s q a).1 := by
  unfold State.regRead
  repeat' (first
    | with_reducible first
      | assumption | apply State.fifoPop_keeps | apply State.lowEffect_keeps | apply State.serPop_keeps
      | refine foldl_keeps ?_ ?_ | refine ite_keeps ?_ ?_ | refine pite_keeps ?_ ?_ | exact none_okeeps | apply some_okeeps
      | refine oite_keeps ?_ ?_ | refine getD_keeps ?_ ?_ | refine omap_keeps ?_ ?_ | apply id_keeps
    | intro _ _ _
    | intro _ _
    | split
    | with_reducible first
      | refine pair_keeps ?_ (by assumption) | refine pair_keeps2 ?_ (by assumption)
      | refine opt_keeps ?_ (by assumption)
    | dsimp only
    | fail_if_no_progress with_reducible apply mk_keeps)

theorem State.ramWrite_keeps {b0 : State} (s : State) (r : ℕ) (a : ℕ) (size : ℕ) (w : Word) (hs : Keeps b0 s) :
    Keeps b0
    (State.ramWrite s r a size w).1 := by
  unfold State.ramWrite
  repeat' (first
    | with_reducible first
      | assumption | apply State.memWrite_keeps | apply State.metCe_keeps | apply State.metUe_keeps
      | apply State.pageWrite_keeps | refine foldl_keeps ?_ ?_ | refine ite_keeps ?_ ?_ | refine pite_keeps ?_ ?_
      | exact none_okeeps | apply some_okeeps | refine oite_keeps ?_ ?_ | refine getD_keeps ?_ ?_ | refine omap_keeps ?_ ?_
      | apply id_keeps
    | intro _ _ _
    | intro _ _
    | split
    | with_reducible first
      | refine pair_keeps ?_ (by assumption) | refine pair_keeps2 ?_ (by assumption)
      | refine opt_keeps ?_ (by assumption)
    | dsimp only
    | fail_if_no_progress with_reducible apply mk_keeps)

theorem State.ramRead_keeps {b0 : State} (s : State) (a : ℕ) (size : ℕ) (hs : Keeps b0 s) :
    Keeps b0 (State.ramRead s a size).1 := by
  unfold State.ramRead
  repeat' (first
    | with_reducible first
      | assumption | apply State.metCe_keeps | apply State.metUe_keeps | refine foldl_keeps ?_ ?_ | refine ite_keeps ?_ ?_
      | refine pite_keeps ?_ ?_ | exact none_okeeps | apply some_okeeps | refine oite_keeps ?_ ?_ | refine getD_keeps ?_ ?_
      | refine omap_keeps ?_ ?_ | apply id_keeps
    | intro _ _ _
    | intro _ _
    | split
    | with_reducible first
      | refine pair_keeps ?_ (by assumption) | refine pair_keeps2 ?_ (by assumption)
      | refine opt_keeps ?_ (by assumption)
    | dsimp only
    | fail_if_no_progress with_reducible apply mk_keeps)

theorem State.xspiRead_keeps {b0 : State} (s : State) (a : ℕ) (size : ℕ) (hs : Keeps b0 s) :
    Keeps b0 (State.xspiRead s a size).1
    := by
  unfold State.xspiRead
  repeat' (first
    | with_reducible first
      | assumption | refine foldl_keeps ?_ ?_ | refine ite_keeps ?_ ?_ | refine pite_keeps ?_ ?_ | exact none_okeeps
      | apply some_okeeps | refine oite_keeps ?_ ?_ | refine getD_keeps ?_ ?_ | refine omap_keeps ?_ ?_ | apply id_keeps
    | intro _ _ _
    | intro _ _
    | split
    | with_reducible first
      | refine pair_keeps ?_ (by assumption) | refine pair_keeps2 ?_ (by assumption)
      | refine opt_keeps ?_ (by assumption)
    | dsimp only
    | fail_if_no_progress with_reducible apply mk_keeps)

theorem State.busRead_keeps {b0 : State} (s : State) (q : Req) (a : ℕ) (size : ℕ) (hs : Keeps b0 s) :
    Keeps b0
    (State.busRead s q a size).1 := by
  unfold State.busRead
  repeat' (first
    | with_reducible first
      | assumption | apply State.metCe_keeps | apply State.metUe_keeps | apply State.portRead_keeps | apply State.ramRead_keeps
      | apply State.regRead_keeps | apply State.xspiRead_keeps | refine foldl_keeps ?_ ?_ | refine ite_keeps ?_ ?_
      | refine pite_keeps ?_ ?_ | exact none_okeeps | apply some_okeeps | refine oite_keeps ?_ ?_ | refine getD_keeps ?_ ?_
      | refine omap_keeps ?_ ?_ | apply id_keeps
    | intro _ _ _
    | intro _ _
    | split
    | with_reducible first
      | refine pair_keeps ?_ (by assumption) | refine pair_keeps2 ?_ (by assumption)
      | refine opt_keeps ?_ (by assumption)
    | dsimp only
    | fail_if_no_progress with_reducible apply mk_keeps)

theorem State.dmaCtrl_keeps {b0 : State} (s : State) (c : ℕ) (w : Word) (hs : Keeps b0 s) :
    Keeps b0 (State.dmaCtrl s c w) := by
  unfold State.dmaCtrl
  repeat' (first
    | with_reducible first
      | assumption | apply State.dmaEnd_keeps | apply State.giveUp_keeps | apply State.set_keeps | apply State.setDma_keeps
      | apply State.setReg_keeps | refine foldl_keeps ?_ ?_ | refine ite_keeps ?_ ?_ | refine pite_keeps ?_ ?_
      | exact none_okeeps | apply some_okeeps | refine oite_keeps ?_ ?_ | refine getD_keeps ?_ ?_ | refine omap_keeps ?_ ?_
      | apply id_keeps
    | intro _ _ _
    | intro _ _
    | split
    | with_reducible first
      | refine pair_keeps ?_ (by assumption) | refine pair_keeps2 ?_ (by assumption)
      | refine opt_keeps ?_ (by assumption)
    | dsimp only
    | fail_if_no_progress with_reducible apply mk_keeps)

theorem wrDma_keeps {b0 : State} (q : Req) (c : ℕ) (a : ℕ) (w : Word) (s : State) (hs : Keeps b0 s) :
    Keeps b0 (wrDma q c a w s) := by
  unfold wrDma
  repeat' (first
    | with_reducible first
      | assumption | apply State.dmaCtrl_keeps | apply State.refuse_keeps | apply State.storeDirect_keeps
      | apply State.write_keeps | refine foldl_keeps ?_ ?_ | refine ite_keeps ?_ ?_ | refine pite_keeps ?_ ?_
      | exact none_okeeps | apply some_okeeps | refine oite_keeps ?_ ?_ | refine getD_keeps ?_ ?_ | refine omap_keeps ?_ ?_
      | apply id_keeps
    | intro _ _ _
    | intro _ _
    | split
    | with_reducible first
      | refine pair_keeps ?_ (by assumption) | refine pair_keeps2 ?_ (by assumption)
      | refine opt_keeps ?_ (by assumption)
    | dsimp only
    | fail_if_no_progress with_reducible apply mk_keeps)

theorem wrPlain_keeps {b0 : State} (q : Req) (a : ℕ) (w : Word) (s : State) (hs : Keeps b0 s) :
    Keeps b0 (wrPlain q a w s) := by
  unfold wrPlain
  repeat' (first
    | with_reducible first
      | assumption | apply State.writeFields_keeps | apply settle_keeps | apply settleAt_keeps | refine foldl_keeps ?_ ?_
      | refine ite_keeps ?_ ?_ | refine pite_keeps ?_ ?_ | exact none_okeeps | apply some_okeeps | refine oite_keeps ?_ ?_
      | refine getD_keeps ?_ ?_ | refine omap_keeps ?_ ?_ | apply id_keeps
    | intro _ _ _
    | intro _ _
    | split
    | with_reducible first
      | refine pair_keeps ?_ (by assumption) | refine pair_keeps2 ?_ (by assumption)
      | refine opt_keeps ?_ (by assumption)
    | dsimp only
    | fail_if_no_progress with_reducible apply mk_keeps)

theorem wrStd_keeps {b0 : State} (q : Req) (a : ℕ) (w : Word) (s : State) (hs : Keeps b0 s) :
    Keeps b0 (wrStd q a w s) := by
  unfold wrStd
  repeat' (first
    | with_reducible first
      | assumption | apply wrCanCtrl_keeps | apply wrCanRxpop_keeps | apply wrCanTxabort_keeps | apply wrCanTxreq_keeps
      | apply wrData_keeps | apply wrGpioCfg_keeps | apply wrI2cCmd_keeps | apply wrPlain_keeps | apply wrSerCfg_keeps
      | apply wrSpiCtrl_keeps | apply wrXspiCctl_keeps | refine foldl_keeps ?_ ?_ | refine ite_keeps ?_ ?_
      | refine pite_keeps ?_ ?_ | exact none_okeeps | apply some_okeeps | refine oite_keeps ?_ ?_ | refine getD_keeps ?_ ?_
      | refine omap_keeps ?_ ?_ | apply id_keeps
    | intro _ _ _
    | intro _ _
    | split
    | with_reducible first
      | refine pair_keeps ?_ (by assumption) | refine pair_keeps2 ?_ (by assumption)
      | refine opt_keeps ?_ (by assumption)
    | dsimp only
    | fail_if_no_progress with_reducible apply mk_keeps)

theorem wrLink_keeps {b0 : State} (q : Req) (a : ℕ) (w : Word) (s : State) (hs : Keeps b0 s) :
    Keeps b0 (wrLink q a w s) := by
  unfold wrLink
  repeat' (first
    | with_reducible first
      | assumption | apply wrFrCfg_keeps | apply wrFrCtrl_keeps | apply wrPlain_keeps | apply wrPtMap_keeps
      | apply wrSwlCfg_keeps | apply wrSwlOwn_keeps | apply wrSwlPair_keeps | apply wrSwlRrst_keeps | apply wrSwlTm_keeps
      | refine foldl_keeps ?_ ?_ | refine ite_keeps ?_ ?_ | refine pite_keeps ?_ ?_ | exact none_okeeps | apply some_okeeps
      | refine oite_keeps ?_ ?_ | refine getD_keeps ?_ ?_ | refine omap_keeps ?_ ?_ | apply id_keeps
    | intro _ _ _
    | intro _ _
    | split
    | with_reducible first
      | refine pair_keeps ?_ (by assumption) | refine pair_keeps2 ?_ (by assumption)
      | refine opt_keeps ?_ (by assumption)
    | dsimp only
    | fail_if_no_progress with_reducible apply mk_keeps)

theorem wrSys_keeps {b0 : State} (q : Req) (a : ℕ) (w : Word) (s : State) (hs : Keeps b0 s) :
    Keeps b0 (wrSys q a w s) := by
  unfold wrSys
  repeat' (first
    | with_reducible first
      | assumption | apply State.set_keeps | apply State.showMode_keeps | apply State.writeFields_keeps | apply wrBlkRst_keeps
      | apply wrBoot_keeps | apply wrDbgCtrl_keeps | apply wrIslRst_keeps | apply wrLockstep_keeps | apply wrModeReq_keeps
      | apply wrNvmCmd_keeps | apply wrOtpPcmd_keeps | apply wrPlain_keeps | apply wrSkRun_keeps | apply wrSwRst_keeps
      | apply wrSysWdtCtrl_keeps | apply wrSysWdtKick_keeps | apply settle_keeps | apply settleAt_keeps
      | refine foldl_keeps ?_ ?_ | refine ite_keeps ?_ ?_ | refine pite_keeps ?_ ?_ | exact none_okeeps | apply some_okeeps
      | refine oite_keeps ?_ ?_ | refine getD_keeps ?_ ?_ | refine omap_keeps ?_ ?_ | apply id_keeps
    | intro _ _ _
    | intro _ _
    | split
    | with_reducible first
      | refine pair_keeps ?_ (by assumption) | refine pair_keeps2 ?_ (by assumption)
      | refine opt_keeps ?_ (by assumption)
    | dsimp only
    | fail_if_no_progress with_reducible apply mk_keeps)

theorem wrEdge_keeps {b0 : State} (q : Req) (a : ℕ) (w : Word) (s : State) (hs : Keeps b0 s) :
    Keeps b0 (wrEdge q a w s) := by
  unfold wrEdge
  repeat' (first
    | with_reducible first
      | assumption | apply wrBwCfg_keeps | apply wrPlain_keeps | apply wrRefCfg_keeps | apply wrSafeCtrl_keeps
      | apply wrSdCtrl_keeps | apply wrSdFast_keeps | apply wrSdcCfg_keeps | apply wrTzStatus_keeps | apply wrWmCfg_keeps
      | apply wrWmThr_keeps | refine foldl_keeps ?_ ?_ | refine ite_keeps ?_ ?_ | refine pite_keeps ?_ ?_ | exact none_okeeps
      | apply some_okeeps | refine oite_keeps ?_ ?_ | refine getD_keeps ?_ ?_ | refine omap_keeps ?_ ?_ | apply id_keeps
    | intro _ _ _
    | intro _ _
    | split
    | with_reducible first
      | refine pair_keeps ?_ (by assumption) | refine pair_keeps2 ?_ (by assumption)
      | refine opt_keeps ?_ (by assumption)
    | dsimp only
    | fail_if_no_progress with_reducible apply mk_keeps)

theorem wrReg_keeps {b0 : State} (q : Req) (a : ℕ) (w : Word) (s : State) (hs : Keeps b0 s) :
    Keeps b0 (wrReg q a w s) := by
  unfold wrReg
  repeat' (first
    | with_reducible first
      | assumption | apply wrCcRsel_keeps | apply wrCgArm_keeps | apply wrCgSet_keeps | apply wrClutchReg_keeps
      | apply wrCtl_keeps | apply wrDesc_keeps | apply wrDma_keeps | apply wrEdge_keeps | apply wrFabCtl_keeps
      | apply wrFabErr_keeps | apply wrLink_keeps | apply wrPlain_keeps | apply wrRouteCfg_keeps | apply wrStd_keeps
      | apply wrSys_keeps | refine foldl_keeps ?_ ?_ | refine ite_keeps ?_ ?_ | refine pite_keeps ?_ ?_ | exact none_okeeps
      | apply some_okeeps | refine oite_keeps ?_ ?_ | refine getD_keeps ?_ ?_ | refine omap_keeps ?_ ?_ | apply id_keeps
    | intro _ _ _
    | intro _ _
    | split
    | with_reducible first
      | refine pair_keeps ?_ (by assumption) | refine pair_keeps2 ?_ (by assumption)
      | refine opt_keeps ?_ (by assumption)
    | dsimp only
    | fail_if_no_progress with_reducible apply mk_keeps)

theorem State.via_keeps {b0 : State} (s : State) (q : Req) (f : State → State) (hs : Keeps b0 s) (hf : ∀ x0, Keeps b0 x0 → Keeps b0
    (f x0)) :
    Keeps b0 (State.via s q f).1 := by
  unfold State.via
  repeat' (first
    | with_reducible first
      | assumption | apply hf | refine foldl_keeps ?_ ?_ | refine ite_keeps ?_ ?_ | refine pite_keeps ?_ ?_ | exact none_okeeps
      | apply some_okeeps | refine oite_keeps ?_ ?_ | refine getD_keeps ?_ ?_ | refine omap_keeps ?_ ?_ | apply id_keeps
    | intro _ _ _
    | intro _ _
    | split
    | with_reducible first
      | refine pair_keeps ?_ (by assumption) | refine pair_keeps2 ?_ (by assumption)
      | refine opt_keeps ?_ (by assumption)
    | dsimp only
    | fail_if_no_progress with_reducible apply mk_keeps)

theorem State.regWrite_keeps {b0 : State} (s : State) (q : Req) (a : ℕ) (size : ℕ) (v : Word) (hs : Keeps b0 s) :
    Keeps b0
    (State.regWrite s q a size v).1 := by
  unfold State.regWrite
  repeat' (first
    | with_reducible first
      | assumption | apply State.via_keeps | apply wrReg_keeps | refine foldl_keeps ?_ ?_ | refine ite_keeps ?_ ?_
      | refine pite_keeps ?_ ?_ | exact none_okeeps | apply some_okeeps | refine oite_keeps ?_ ?_ | refine getD_keeps ?_ ?_
      | refine omap_keeps ?_ ?_ | apply id_keeps
    | intro _ _ _
    | intro _ _
    | split
    | with_reducible first
      | refine pair_keeps ?_ (by assumption) | refine pair_keeps2 ?_ (by assumption)
      | refine opt_keeps ?_ (by assumption)
    | dsimp only
    | fail_if_no_progress with_reducible apply mk_keeps)

theorem State.sliceBus_keeps {b0 : State} (s : State) (q : Req) (n : ℕ) (a : ℕ) (size : ℕ) (v : Word) (hs : Keeps b0 s) :
    Keeps b0
    (State.sliceBus s q n a size v).1 := by
  unfold State.sliceBus
  repeat' (first
    | with_reducible first
      | assumption | apply State.sliceWrite_keeps | refine foldl_keeps ?_ ?_ | refine ite_keeps ?_ ?_ | refine pite_keeps ?_ ?_
      | exact none_okeeps | apply some_okeeps | refine oite_keeps ?_ ?_ | refine getD_keeps ?_ ?_ | refine omap_keeps ?_ ?_
      | apply id_keeps
    | intro _ _ _
    | intro _ _
    | split
    | with_reducible first
      | refine pair_keeps ?_ (by assumption) | refine pair_keeps2 ?_ (by assumption)
      | refine opt_keeps ?_ (by assumption)
    | dsimp only
    | fail_if_no_progress with_reducible apply mk_keeps)

theorem State.stgBus_keeps {b0 : State} (s : State) (q : Req) (a : ℕ) (size : ℕ) (v : Word) (hs : Keeps b0 s) :
    Keeps b0 (State.stgBus s q a size v).1 := by
  unfold State.stgBus
  repeat' (first
    | with_reducible first
      | assumption | apply State.stgWrite_keeps | refine foldl_keeps ?_ ?_ | refine ite_keeps ?_ ?_ | refine pite_keeps ?_ ?_
      | exact none_okeeps | apply some_okeeps | refine oite_keeps ?_ ?_ | refine getD_keeps ?_ ?_ | refine omap_keeps ?_ ?_
      | apply id_keeps
    | intro _ _ _
    | intro _ _
    | split
    | with_reducible first
      | refine pair_keeps ?_ (by assumption) | refine pair_keeps2 ?_ (by assumption)
      | refine opt_keeps ?_ (by assumption)
    | dsimp only
    | fail_if_no_progress with_reducible apply mk_keeps)

theorem State.busWrite_keeps {b0 : State} (s : State) (q : Req) (a : ℕ) (size : ℕ) (v : Word) (hs : Keeps b0 s) :
    Keeps b0
    (State.busWrite s q a size v).1 := by
  unfold State.busWrite
  repeat' (first
    | with_reducible first
      | assumption | apply State.portWrite_keeps | apply State.ramWrite_keeps | apply State.regWrite_keeps
      | apply State.sliceBus_keeps | apply State.stgBus_keeps | refine foldl_keeps ?_ ?_ | refine ite_keeps ?_ ?_
      | refine pite_keeps ?_ ?_ | exact none_okeeps | apply some_okeeps | refine oite_keeps ?_ ?_ | refine getD_keeps ?_ ?_
      | refine omap_keeps ?_ ?_ | apply id_keeps
    | intro _ _ _
    | intro _ _
    | split
    | with_reducible first
      | refine pair_keeps ?_ (by assumption) | refine pair_keeps2 ?_ (by assumption)
      | refine opt_keeps ?_ (by assumption)
    | dsimp only
    | fail_if_no_progress with_reducible apply mk_keeps)

theorem State.carry_keeps {b0 : State} {α : Type} (s : State) (x : Xfer) (f : State → State × α) (hs : Keeps b0 s) (hf
    : ∀ x0, Keeps b0 x0 → Keeps b0 (f x0).1) :
    Keeps b0 (State.carry s x f).1 := by
  unfold State.carry
  repeat' (first
    | with_reducible first
      | assumption | apply hf | refine foldl_keeps ?_ ?_ | refine ite_keeps ?_ ?_ | refine pite_keeps ?_ ?_ | exact none_okeeps
      | apply some_okeeps | refine oite_keeps ?_ ?_ | refine getD_keeps ?_ ?_ | refine omap_keeps ?_ ?_ | apply id_keeps
    | intro _ _ _
    | intro _ _
    | split
    | with_reducible first
      | refine pair_keeps ?_ (by assumption) | refine pair_keeps2 ?_ (by assumption)
      | refine opt_keeps ?_ (by assumption)
    | dsimp only
    | fail_if_no_progress with_reducible apply mk_keeps)

theorem State.cmdAccess_keeps {b0 : State} (s : State) (q : Req) (write : Bool) (a : ℕ) (w : Word) (eff : State → State ×
    Acc.Res) (hs : Keeps b0 s) (heff : ∀ x0, Keeps b0 x0 → Keeps b0 (eff x0).1) :
    Keeps b0 (State.cmdAccess s q write a w eff) := by
  unfold State.cmdAccess
  repeat' (first
    | with_reducible first
      | assumption | apply heff | apply State.cross_keeps | apply State.refuse_keeps | apply State.respond_keeps
      | apply State.sendAccess_keeps | refine foldl_keeps ?_ ?_ | refine ite_keeps ?_ ?_ | refine pite_keeps ?_ ?_
      | exact none_okeeps | apply some_okeeps | refine oite_keeps ?_ ?_ | refine getD_keeps ?_ ?_ | refine omap_keeps ?_ ?_
      | apply id_keeps
    | intro _ _ _
    | intro _ _
    | split
    | with_reducible first
      | refine pair_keeps ?_ (by assumption) | refine pair_keeps2 ?_ (by assumption)
      | refine opt_keeps ?_ (by assumption)
    | dsimp only
    | fail_if_no_progress with_reducible apply mk_keeps)

theorem State.cmdWrite_keeps {b0 : State} (s : State) (q : Req) (a : ℕ) (w : Word) (hs : Keeps b0 s) :
    Keeps b0
    (State.cmdWrite s q a w) := by
  unfold State.cmdWrite
  repeat' (first
    | with_reducible first
      | assumption | apply State.busWrite_keeps | apply State.cmdAccess_keeps | refine foldl_keeps ?_ ?_
      | refine ite_keeps ?_ ?_ | refine pite_keeps ?_ ?_ | exact none_okeeps | apply some_okeeps | refine oite_keeps ?_ ?_
      | refine getD_keeps ?_ ?_ | refine omap_keeps ?_ ?_ | apply id_keeps
    | intro _ _ _
    | intro _ _
    | split
    | with_reducible first
      | refine pair_keeps ?_ (by assumption) | refine pair_keeps2 ?_ (by assumption)
      | refine opt_keeps ?_ (by assumption)
    | dsimp only
    | fail_if_no_progress with_reducible apply mk_keeps)

theorem State.cmdRead_keeps {b0 : State} (s : State) (q : Req) (a : ℕ) (hs : Keeps b0 s) :
    Keeps b0 (State.cmdRead s q a) := by
  unfold State.cmdRead
  repeat' (first
    | with_reducible first
      | assumption | apply State.busRead_keeps | apply State.cmdAccess_keeps | refine foldl_keeps ?_ ?_ | refine ite_keeps ?_ ?_
      | refine pite_keeps ?_ ?_ | exact none_okeeps | apply some_okeeps | refine oite_keeps ?_ ?_ | refine getD_keeps ?_ ?_
      | refine omap_keeps ?_ ?_ | apply id_keeps
    | intro _ _ _
    | intro _ _
    | split
    | with_reducible first
      | refine pair_keeps ?_ (by assumption) | refine pair_keeps2 ?_ (by assumption)
      | refine opt_keeps ?_ (by assumption)
    | dsimp only
    | fail_if_no_progress with_reducible apply mk_keeps)

theorem State.errRsp_keeps {b0 : State} (s : State) (p : SwlPkt) (hs : Keeps b0 s) :
    Keeps b0 (State.errRsp s p) := by
  unfold State.errRsp
  repeat' (first
    | with_reducible first
      | assumption | apply State.answer_keeps | refine foldl_keeps ?_ ?_ | refine ite_keeps ?_ ?_ | refine pite_keeps ?_ ?_
      | exact none_okeeps | apply some_okeeps | refine oite_keeps ?_ ?_ | refine getD_keeps ?_ ?_ | refine omap_keeps ?_ ?_
      | apply id_keeps
    | intro _ _ _
    | intro _ _
    | split
    | with_reducible first
      | refine pair_keeps ?_ (by assumption) | refine pair_keeps2 ?_ (by assumption)
      | refine opt_keeps ?_ (by assumption)
    | dsimp only
    | fail_if_no_progress with_reducible apply mk_keeps)

theorem State.serveReq_keeps {b0 : State} (s : State) (l : Fin 8) (p : SwlPkt) (write : Bool) (hs : Keeps b0 s) :
    Keeps b0
    (State.serveReq s l p write) := by
  unfold State.serveReq
  repeat' (first
    | with_reducible first
      | assumption | apply State.errRsp_keeps | apply State.portSelect_keeps | apply State.setFifo_keeps
      | refine foldl_keeps ?_ ?_ | refine ite_keeps ?_ ?_ | refine pite_keeps ?_ ?_ | exact none_okeeps | apply some_okeeps
      | refine oite_keeps ?_ ?_ | refine getD_keeps ?_ ?_ | refine omap_keeps ?_ ?_ | apply id_keeps
    | intro _ _ _
    | intro _ _
    | split
    | with_reducible first
      | refine pair_keeps ?_ (by assumption) | refine pair_keeps2 ?_ (by assumption)
      | refine opt_keeps ?_ (by assumption)
    | dsimp only
    | fail_if_no_progress with_reducible apply mk_keeps)

theorem State.dmaIssue_keeps {b0 : State} (s : State) (c i : Nat) (hs : Keeps b0 s) : OKeeps b0 (s.dmaIssue c i) := by
  unfold State.dmaIssue
  dsimp only
  split
  · exact some_okeeps hs
  · exact oite_keeps (some_okeeps (State.endDmaRead_keeps _ _ _ _ hs)) (oite_keeps none_okeeps
      (some_okeeps (State.setFifo_keeps _ _ _ _ hs)))

theorem State.dmaPump_keeps {b0 : State} (c n : Nat) (s : State) (hs : Keeps b0 s) : Keeps b0 (State.dmaPump c n s) := by
  induction n generalizing s with
  | zero => exact hs
  | succ n ih =>
    rw [State.dmaPump]
    refine ite_keeps ?_ hs
    split
    · exact ih _ (ite_keeps (State.unhold_keeps _ _ (State.setDma_keeps _ _ _ (opt_keeps (State.dmaIssue_keeps _ _ _ hs)
        (by assumption)))) (State.setDma_keeps _ _ _ (opt_keeps (State.dmaIssue_keeps _ _ _ hs) (by assumption))))
    · exact hs

theorem State.dmaMore_keeps {b0 : State} (s : State) (hs : Keeps b0 s) :
    Keeps b0 (State.dmaMore s) := by
  unfold State.dmaMore
  repeat' (first
    | with_reducible first
      | assumption | apply State.dmaPump_keeps | refine foldl_keeps ?_ ?_ | refine ite_keeps ?_ ?_ | refine pite_keeps ?_ ?_
      | exact none_okeeps | apply some_okeeps | refine oite_keeps ?_ ?_ | refine getD_keeps ?_ ?_ | refine omap_keeps ?_ ?_
      | apply id_keeps
    | intro _ _ _
    | intro _ _
    | split
    | with_reducible first
      | refine pair_keeps ?_ (by assumption) | refine pair_keeps2 ?_ (by assumption)
      | refine opt_keeps ?_ (by assumption)
    | dsimp only
    | fail_if_no_progress with_reducible apply mk_keeps)

theorem State.dmaArbitrate_keeps {b0 : State} (s : State) (hs : Keeps b0 s) :
    Keeps b0 (State.dmaArbitrate s) := by
  unfold State.dmaArbitrate
  repeat' (first
    | with_reducible first
      | assumption | apply State.setDma_keeps | refine foldl_keeps ?_ ?_ | refine ite_keeps ?_ ?_ | refine pite_keeps ?_ ?_
      | exact none_okeeps | apply some_okeeps | refine oite_keeps ?_ ?_ | refine getD_keeps ?_ ?_ | refine omap_keeps ?_ ?_
      | apply id_keeps
    | intro _ _ _
    | intro _ _
    | split
    | with_reducible first
      | refine pair_keeps ?_ (by assumption) | refine pair_keeps2 ?_ (by assumption)
      | refine opt_keeps ?_ (by assumption)
    | dsimp only
    | fail_if_no_progress with_reducible apply mk_keeps)

theorem State.dmaAnswer_keeps {b0 : State} (s : State) (c : ℕ) (a : ℕ) (hs : Keeps b0 s) :
    Keeps b0 (State.dmaAnswer s c a).1 := by
  unfold State.dmaAnswer
  repeat' (first
    | with_reducible first
      | assumption | apply State.busRead_keeps | apply State.setDma_keeps | refine foldl_keeps ?_ ?_ | refine ite_keeps ?_ ?_
      | refine pite_keeps ?_ ?_ | exact none_okeeps | apply some_okeeps | refine oite_keeps ?_ ?_ | refine getD_keeps ?_ ?_
      | refine omap_keeps ?_ ?_ | apply id_keeps
    | intro _ _ _
    | intro _ _
    | split
    | with_reducible first
      | refine pair_keeps ?_ (by assumption) | refine pair_keeps2 ?_ (by assumption)
      | refine opt_keeps ?_ (by assumption)
    | dsimp only
    | fail_if_no_progress with_reducible apply mk_keeps)

theorem State.dmaSent_keeps {b0 : State} (s : State) (c : ℕ) (hs : Keeps b0 s) :
    Keeps b0 (State.dmaSent s c) := by
  unfold State.dmaSent
  repeat' (first
    | with_reducible first
      | assumption | apply State.setDma_keeps | refine foldl_keeps ?_ ?_ | refine ite_keeps ?_ ?_ | refine pite_keeps ?_ ?_
      | exact none_okeeps | apply some_okeeps | refine oite_keeps ?_ ?_ | refine getD_keeps ?_ ?_ | refine omap_keeps ?_ ?_
      | apply id_keeps
    | intro _ _ _
    | intro _ _
    | split
    | with_reducible first
      | refine pair_keeps ?_ (by assumption) | refine pair_keeps2 ?_ (by assumption)
      | refine opt_keeps ?_ (by assumption)
    | dsimp only
    | fail_if_no_progress with_reducible apply mk_keeps)

theorem State.dmaWrite_keeps {b0 : State} (s : State) (c : ℕ) (a : ℕ) (w : Word) (hs : Keeps b0 s) :
    Keeps b0
    (State.dmaWrite s c a w) := by
  unfold State.dmaWrite
  repeat' (first
    | with_reducible first
      | assumption | apply State.busWrite_keeps | apply State.carry_keeps | apply State.dmaAck_keeps | apply State.dmaSent_keeps
      | apply State.portSelect_keeps | apply State.setFifo_keeps | refine foldl_keeps ?_ ?_ | refine ite_keeps ?_ ?_
      | refine pite_keeps ?_ ?_ | exact none_okeeps | apply some_okeeps | refine oite_keeps ?_ ?_ | refine getD_keeps ?_ ?_
      | refine omap_keeps ?_ ?_ | apply id_keeps
    | intro _ _ _
    | intro _ _
    | split
    | with_reducible first
      | refine pair_keeps ?_ (by assumption) | refine pair_keeps2 ?_ (by assumption)
      | refine opt_keeps ?_ (by assumption)
    | dsimp only
    | fail_if_no_progress with_reducible apply mk_keeps)

theorem State.dmaReadFail_keeps {b0 : State} (s : State) (c : ℕ) (a : ℕ) (ue : Bool) (hs : Keeps b0 s) :
    Keeps b0
    (State.dmaReadFail s c a ue) := by
  unfold State.dmaReadFail
  repeat' (first
    | with_reducible first
      | assumption | apply State.giveUp_keeps | apply State.setDma_keeps | apply State.setReg_keeps | refine foldl_keeps ?_ ?_
      | refine ite_keeps ?_ ?_ | refine pite_keeps ?_ ?_ | exact none_okeeps | apply some_okeeps | refine oite_keeps ?_ ?_
      | refine getD_keeps ?_ ?_ | refine omap_keeps ?_ ?_ | apply id_keeps
    | intro _ _ _
    | intro _ _
    | split
    | with_reducible first
      | refine pair_keeps ?_ (by assumption) | refine pair_keeps2 ?_ (by assumption)
      | refine opt_keeps ?_ (by assumption)
    | dsimp only
    | fail_if_no_progress with_reducible apply mk_keeps)

theorem State.dmaPut_keeps {b0 : State} (s : State) (c : ℕ) (i : ℕ) (w : Word) (hs : Keeps b0 s) :
    Keeps b0 (State.dmaPut s c i w) := by
  unfold State.dmaPut
  repeat' (first
    | with_reducible first
      | assumption | apply State.dmaWrite_keeps | apply State.setDma_keeps | refine foldl_keeps ?_ ?_ | refine ite_keeps ?_ ?_
      | refine pite_keeps ?_ ?_ | exact none_okeeps | apply some_okeeps | refine oite_keeps ?_ ?_ | refine getD_keeps ?_ ?_
      | refine omap_keeps ?_ ?_ | apply id_keeps
    | intro _ _ _
    | intro _ _
    | split
    | with_reducible first
      | refine pair_keeps ?_ (by assumption) | refine pair_keeps2 ?_ (by assumption)
      | refine opt_keeps ?_ (by assumption)
    | dsimp only
    | fail_if_no_progress with_reducible apply mk_keeps)

theorem State.dmaTake_keeps {b0 : State} (s : State) (c : ℕ) (hs : Keeps b0 s) :
    Keeps b0 (State.dmaTake s c) := by
  unfold State.dmaTake
  repeat' (first
    | with_reducible first
      | assumption | apply State.dmaAnswer_keeps | apply State.dmaPut_keeps | apply State.dmaReadFail_keeps
      | refine foldl_keeps ?_ ?_ | refine ite_keeps ?_ ?_ | refine pite_keeps ?_ ?_ | exact none_okeeps | apply some_okeeps
      | refine oite_keeps ?_ ?_ | refine getD_keeps ?_ ?_ | refine omap_keeps ?_ ?_ | apply id_keeps
    | intro _ _ _
    | intro _ _
    | split
    | with_reducible first
      | refine pair_keeps ?_ (by assumption) | refine pair_keeps2 ?_ (by assumption)
      | refine opt_keeps ?_ (by assumption)
    | dsimp only
    | fail_if_no_progress with_reducible apply mk_keeps)

theorem State.dmaFlush_keeps {b0 : State} (s : State) (c : ℕ) (hs : Keeps b0 s) :
    Keeps b0 (State.dmaFlush s c) := by
  unfold State.dmaFlush
  repeat' (first
    | with_reducible first
      | assumption | apply State.dmaPut_keeps | apply State.setDma_keeps | refine foldl_keeps ?_ ?_ | refine ite_keeps ?_ ?_
      | refine pite_keeps ?_ ?_ | exact none_okeeps | apply some_okeeps | refine oite_keeps ?_ ?_ | refine getD_keeps ?_ ?_
      | refine omap_keeps ?_ ?_ | apply id_keeps
    | intro _ _ _
    | intro _ _
    | split
    | with_reducible first
      | refine pair_keeps ?_ (by assumption) | refine pair_keeps2 ?_ (by assumption)
      | refine opt_keeps ?_ (by assumption)
    | dsimp only
    | fail_if_no_progress with_reducible apply mk_keeps)

theorem State.pushStore_keeps {b0 : State} (t : State) (e : ℕ) (b : Store) (ht : Keeps b0 t) :
    Keeps b0 (State.pushStore t e b) := by
  unfold State.pushStore
  repeat' (first
    | with_reducible first
      | assumption | apply State.setEng_keeps | refine foldl_keeps ?_ ?_ | refine ite_keeps ?_ ?_ | refine pite_keeps ?_ ?_
      | exact none_okeeps | apply some_okeeps | refine oite_keeps ?_ ?_ | refine getD_keeps ?_ ?_ | refine omap_keeps ?_ ?_
      | apply id_keeps
    | intro _ _ _
    | intro _ _
    | split
    | with_reducible first
      | refine pair_keeps ?_ (by assumption) | refine pair_keeps2 ?_ (by assumption)
      | refine opt_keeps ?_ (by assumption)
    | dsimp only
    | fail_if_no_progress with_reducible apply mk_keeps)

theorem State.storeFault_keeps {b0 : State} (s : State) (e : ℕ) (b : Store) (cause : ℕ) (hs : Keeps b0 s) :
    Keeps b0
    (State.storeFault s e b cause) := by
  unfold State.storeFault
  repeat' (first
    | with_reducible first
      | assumption | apply State.setEng_keeps | refine foldl_keeps ?_ ?_ | refine ite_keeps ?_ ?_ | refine pite_keeps ?_ ?_
      | exact none_okeeps | apply some_okeeps | refine oite_keeps ?_ ?_ | refine getD_keeps ?_ ?_ | refine omap_keeps ?_ ?_
      | apply id_keeps
    | intro _ _ _
    | intro _ _
    | split
    | with_reducible first
      | refine pair_keeps ?_ (by assumption) | refine pair_keeps2 ?_ (by assumption)
      | refine opt_keeps ?_ (by assumption)
    | dsimp only
    | fail_if_no_progress with_reducible apply mk_keeps)

theorem State.touch_keeps {b0 : State} (s : State) (e : ℕ) (icache : Bool) (a : ℕ) (hs : Keeps b0 s) :
    Keeps b0
    (State.touch s e icache a) := by
  unfold State.touch
  repeat' (first
    | with_reducible first
      | assumption | apply State.setEng_keeps | refine foldl_keeps ?_ ?_ | refine ite_keeps ?_ ?_ | refine pite_keeps ?_ ?_
      | exact none_okeeps | apply some_okeeps | refine oite_keeps ?_ ?_ | refine getD_keeps ?_ ?_ | refine omap_keeps ?_ ?_
      | apply id_keeps
    | intro _ _ _
    | intro _ _
    | split
    | with_reducible first
      | refine pair_keeps ?_ (by assumption) | refine pair_keeps2 ?_ (by assumption)
      | refine opt_keeps ?_ (by assumption)
    | dsimp only
    | fail_if_no_progress with_reducible apply mk_keeps)

theorem State.lineOut_keeps {b0 : State} (s : State) (e : ℕ) (l : Line) (hs : Keeps b0 s) :
    Keeps b0 (State.lineOut s e l) := by
  unfold State.lineOut
  repeat' (first
    | with_reducible first
      | assumption | apply State.pushStore_keeps | refine foldl_keeps ?_ ?_ | refine ite_keeps ?_ ?_ | refine pite_keeps ?_ ?_
      | exact none_okeeps | apply some_okeeps | refine oite_keeps ?_ ?_ | refine getD_keeps ?_ ?_ | refine omap_keeps ?_ ?_
      | apply id_keeps
    | intro _ _ _
    | intro _ _
    | split
    | with_reducible first
      | refine pair_keeps ?_ (by assumption) | refine pair_keeps2 ?_ (by assumption)
      | refine opt_keeps ?_ (by assumption)
    | dsimp only
    | fail_if_no_progress with_reducible apply mk_keeps)

theorem State.lineIn_keeps {b0 : State} (s : State) (e : ℕ) (icache : Bool) (a : ℕ) (ws : List Word) (hs : Keeps b0 s) :
    Keeps b0
    (State.lineIn s e icache a ws) := by
  unfold State.lineIn
  repeat' (first
    | with_reducible first
      | assumption | apply State.lineOut_keeps | apply State.setEng_keeps | apply State.touch_keeps | refine foldl_keeps ?_ ?_
      | refine ite_keeps ?_ ?_ | refine pite_keeps ?_ ?_ | exact none_okeeps | apply some_okeeps | refine oite_keeps ?_ ?_
      | refine getD_keeps ?_ ?_ | refine omap_keeps ?_ ?_ | apply id_keeps
    | intro _ _ _
    | intro _ _
    | split
    | with_reducible first
      | refine pair_keeps ?_ (by assumption) | refine pair_keeps2 ?_ (by assumption)
      | refine opt_keeps ?_ (by assumption)
    | dsimp only
    | fail_if_no_progress with_reducible apply mk_keeps)

theorem State.readLine_keeps {b0 : State} (s : State) (e n a : Nat) (acc : List Word) (hs : Keeps b0 s) :
    Keeps b0 (s.readLine e n a acc).1 := by
  induction n generalizing s a acc with
  | zero => exact hs
  | succ n ih =>
    have h := State.busRead_keeps s (reqOf e) a 0 hs
    rw [State.readLine]
    split
    · exact ih _ _ _ (pair_keeps h (by assumption))
    · exact pair_keeps h (by assumption)

theorem State.engAsk_keeps {b0 : State} (s : State) (e : ℕ) (a : ℕ) (size : ℕ) (ring : ℕ) (hs : Keeps b0 s) :
    Keeps b0 (State.engAsk s e a size ring).1 := by
  unfold State.engAsk
  repeat' (first
    | with_reducible first
      | assumption | apply State.endOp_keeps | apply State.setEng_keeps | apply State.setFifo_keeps | refine foldl_keeps ?_ ?_
      | refine ite_keeps ?_ ?_ | refine pite_keeps ?_ ?_ | exact none_okeeps | apply some_okeeps | refine oite_keeps ?_ ?_
      | refine getD_keeps ?_ ?_ | refine omap_keeps ?_ ?_ | apply id_keeps
    | intro _ _ _
    | intro _ _
    | split
    | with_reducible first
      | refine pair_keeps ?_ (by assumption) | refine pair_keeps2 ?_ (by assumption)
      | refine opt_keeps ?_ (by assumption)
    | dsimp only
    | fail_if_no_progress with_reducible apply mk_keeps)

theorem State.skFill_keeps {b0 : State} (s : State) (e : ℕ) (a : ℕ) (hs : Keeps b0 s) :
    Keeps b0 (State.skFill s e a).1 := by
  unfold State.skFill
  repeat' (first
    | with_reducible first
      | assumption | apply State.engAsk_keeps | apply State.lineIn_keeps | refine foldl_keeps ?_ ?_ | refine ite_keeps ?_ ?_
      | refine pite_keeps ?_ ?_ | exact none_okeeps | apply some_okeeps | refine oite_keeps ?_ ?_ | refine getD_keeps ?_ ?_
      | refine omap_keeps ?_ ?_ | apply id_keeps
    | intro _ _ _
    | intro _ _
    | split
    | with_reducible first
      | refine pair_keeps ?_ (by assumption) | refine pair_keeps2 ?_ (by assumption)
      | refine opt_keeps ?_ (by assumption)
    | dsimp only
    | fail_if_no_progress with_reducible apply mk_keeps)

theorem State.skRead_keeps {b0 : State} (s : State) (e : ℕ) (a : ℕ) (hs : Keeps b0 s) :
    Keeps b0 (State.skRead s e a).1 := by
  unfold State.skRead
  repeat' (first
    | with_reducible first
      | assumption | apply State.engAsk_keeps | apply State.skFill_keeps | apply State.touch_keeps | refine foldl_keeps ?_ ?_
      | refine ite_keeps ?_ ?_ | refine pite_keeps ?_ ?_ | exact none_okeeps | apply some_okeeps | refine oite_keeps ?_ ?_
      | refine getD_keeps ?_ ?_ | refine omap_keeps ?_ ?_ | apply id_keeps
    | intro _ _ _
    | intro _ _
    | split
    | with_reducible first
      | refine pair_keeps ?_ (by assumption) | refine pair_keeps2 ?_ (by assumption)
      | refine opt_keeps ?_ (by assumption)
    | dsimp only
    | fail_if_no_progress with_reducible apply mk_keeps)

theorem State.opEnd_keeps {b0 : State} (s : State) (e : ℕ) (w : Word) (hs : Keeps b0 s) :
    Keeps b0 (State.opEnd s e w) := by
  unfold State.opEnd
  repeat' (first
    | with_reducible first
      | assumption | apply State.setEng_keeps | refine foldl_keeps ?_ ?_ | refine ite_keeps ?_ ?_ | refine pite_keeps ?_ ?_
      | exact none_okeeps | apply some_okeeps | refine oite_keeps ?_ ?_ | refine getD_keeps ?_ ?_ | refine omap_keeps ?_ ?_
      | apply id_keeps
    | intro _ _ _
    | intro _ _
    | split
    | with_reducible first
      | refine pair_keeps ?_ (by assumption) | refine pair_keeps2 ?_ (by assumption)
      | refine opt_keeps ?_ (by assumption)
    | dsimp only
    | fail_if_no_progress with_reducible apply mk_keeps)

theorem State.opTurn_keeps {b0 : State} (s : State) (e : ℕ) (hs : Keeps b0 s) :
    Keeps b0 (State.opTurn s e) := by
  unfold State.opTurn
  repeat' (first
    | with_reducible first
      | assumption | apply State.lineOut_keeps | apply State.opEnd_keeps | apply State.setEng_keeps | refine foldl_keeps ?_ ?_
      | refine ite_keeps ?_ ?_ | refine pite_keeps ?_ ?_ | exact none_okeeps | apply some_okeeps | refine oite_keeps ?_ ?_
      | refine getD_keeps ?_ ?_ | refine omap_keeps ?_ ?_ | apply id_keeps
    | intro _ _ _
    | intro _ _
    | split
    | with_reducible first
      | refine pair_keeps ?_ (by assumption) | refine pair_keeps2 ?_ (by assumption)
      | refine opt_keeps ?_ (by assumption)
    | dsimp only
    | fail_if_no_progress with_reducible apply mk_keeps)

theorem State.cacheOp_keeps {b0 : State} (s : State) (e : ℕ) (w : Word) (hs : Keeps b0 s) :
    Keeps b0 (State.cacheOp s e w) := by
  unfold State.cacheOp
  repeat' (first
    | with_reducible first
      | assumption | apply State.opTurn_keeps | apply State.setEng_keeps | refine foldl_keeps ?_ ?_ | refine ite_keeps ?_ ?_
      | refine pite_keeps ?_ ?_ | exact none_okeeps | apply some_okeeps | refine oite_keeps ?_ ?_ | refine getD_keeps ?_ ?_
      | refine omap_keeps ?_ ?_ | apply id_keeps
    | intro _ _ _
    | intro _ _
    | split
    | with_reducible first
      | refine pair_keeps ?_ (by assumption) | refine pair_keeps2 ?_ (by assumption)
      | refine opt_keeps ?_ (by assumption)
    | dsimp only
    | fail_if_no_progress with_reducible apply mk_keeps)

theorem State.cacheCmd_keeps {b0 : State} (s : State) (p : Fin 2) (w : Word) (hs : Keeps b0 s) :
    Keeps b0 (State.cacheCmd s p w) := by
  unfold State.cacheCmd
  repeat' (first
    | with_reducible first
      | assumption | apply State.cacheOp_keeps | refine foldl_keeps ?_ ?_ | refine ite_keeps ?_ ?_ | refine pite_keeps ?_ ?_
      | exact none_okeeps | apply some_okeeps | refine oite_keeps ?_ ?_ | refine getD_keeps ?_ ?_ | refine omap_keeps ?_ ?_
      | apply id_keeps
    | intro _ _ _
    | intro _ _
    | split
    | with_reducible first
      | refine pair_keeps ?_ (by assumption) | refine pair_keeps2 ?_ (by assumption)
      | refine opt_keeps ?_ (by assumption)
    | dsimp only
    | fail_if_no_progress with_reducible apply mk_keeps)

end Sys2Proof.Machine
end

