-- ==== Sys2Proof/Laws/KeepsExec.lean ====
section
/-!
SUPPORT. What `Keeps` says, one lemma per operation: entries, operands, bundles, stores on their way, time.
-/

namespace Sys2Proof.Machine

set_option linter.unusedTactic false
set_option linter.unreachableTactic false

theorem State.readVec_keeps {b0 : State} (s : State) (e : ℕ) (v : ℕ) (hs : Keeps b0 s) :
    Keeps b0 (State.readVec s e v).1 := by
  unfold State.readVec
  repeat' (first
    | with_reducible first
      | assumption | apply State.countCe_keeps | apply State.skRead_keeps | refine foldl_keeps ?_ ?_ | refine ite_keeps ?_ ?_
      | refine pite_keeps ?_ ?_ | exact none_okeeps | apply some_okeeps | refine oite_keeps ?_ ?_ | refine getD_keeps ?_ ?_
      | refine omap_keeps ?_ ?_ | apply id_keeps
    | intro _ _ _
    | intro _ _
    | split
    | with_reducible first
      | refine pair_keeps ?_ (by assumption) | refine pair_keeps2 ?_ (by assumption)
      | refine opt_keeps ?_ (by assumption)
    | dsimp only
    | fail_if_no_progress with_reducible apply mk_keeps)

theorem State.putCtx_keeps {b0 : State} (s : State) (e b i : Nat) (ws : List Word) (hs : Keeps b0 s) :
    Keeps b0 (s.putCtx e b i ws) := by
  induction ws generalizing s i with
  | nil => exact hs
  | cons w ws ih => exact ih _ _ (State.setReg_keeps _ _ _ (State.keepErrs_keeps _ _ hs))

theorem State.putFrame_keeps {b0 : State} (s : State) (e a : Nat) (ws : List Word) (hs : Keeps b0 s) : Keeps b0 (s.putFrame e a ws) :=
  ite_keeps (State.memWords_keeps _ _ _ hs) (State.pushStore_keeps _ _ _ hs)

theorem State.stackCtx_keeps {b0 : State} (s : State) (e : ℕ) (hs : Keeps b0 s) :
    OKeeps b0 (State.stackCtx s e) := by
  unfold State.stackCtx
  repeat' (first
    | with_reducible first
      | assumption | apply State.incSat_keeps | apply State.putCtx_keeps | apply State.putFrame_keeps | apply State.set_keeps
      | apply State.setReg_keeps | refine foldl_keeps ?_ ?_ | refine ite_keeps ?_ ?_ | refine pite_keeps ?_ ?_
      | exact none_okeeps | apply some_okeeps | refine oite_keeps ?_ ?_ | refine getD_keeps ?_ ?_ | refine omap_keeps ?_ ?_
      | apply id_keeps
    | intro _ _ _
    | intro _ _
    | split
    | with_reducible first
      | refine pair_keeps ?_ (by assumption) | refine pair_keeps2 ?_ (by assumption)
      | refine opt_keeps ?_ (by assumption)
    | dsimp only
    | fail_if_no_progress with_reducible apply mk_keeps)

theorem State.excRecord_keeps {b0 : State} (s : State) (e : ℕ) (v : ℕ) (ring : ℕ) (x : Exc) (hs : Keeps b0 s) :
    Keeps b0
    (State.excRecord s e v ring x) := by
  unfold State.excRecord
  repeat' (first
    | with_reducible first
      | assumption | apply State.freeWord_keeps | apply State.set_keeps | apply State.setB_keeps | apply State.setReg_keeps
      | refine foldl_keeps ?_ ?_ | refine ite_keeps ?_ ?_ | refine pite_keeps ?_ ?_ | exact none_okeeps | apply some_okeeps
      | refine oite_keeps ?_ ?_ | refine getD_keeps ?_ ?_ | refine omap_keeps ?_ ?_ | apply id_keeps
    | intro _ _ _
    | intro _ _
    | split
    | with_reducible first
      | refine pair_keeps ?_ (by assumption) | refine pair_keeps2 ?_ (by assumption)
      | refine opt_keeps ?_ (by assumption)
    | dsimp only
    | fail_if_no_progress with_reducible apply mk_keeps)

theorem State.enterAt_keeps {b0 : State} (s : State) (e : ℕ) (v : ℕ) (ring : ℕ) (iel : Option ℕ) (pc : ℕ) (hs : Keeps b0 s)
    :
    Keeps b0 (State.enterAt s e v ring iel pc) := by
  unfold State.enterAt
  repeat' (first
    | with_reducible first
      | assumption | apply State.bankBoundary_keeps | apply State.releaseRsv_keeps | apply State.set_keeps
      | apply State.setEng_keeps | apply State.setReg_keeps | apply State.settleEng_keeps | refine foldl_keeps ?_ ?_
      | refine ite_keeps ?_ ?_ | refine pite_keeps ?_ ?_ | exact none_okeeps | apply some_okeeps | refine oite_keeps ?_ ?_
      | refine getD_keeps ?_ ?_ | refine omap_keeps ?_ ?_ | apply id_keeps
    | intro _ _ _
    | intro _ _
    | split
    | with_reducible first
      | refine pair_keeps ?_ (by assumption) | refine pair_keeps2 ?_ (by assumption)
      | refine opt_keeps ?_ (by assumption)
    | dsimp only
    | fail_if_no_progress with_reducible apply mk_keeps)

theorem State.putRaised_keeps {b0 : State} (s : State) (e : ℕ) (r : Raised) (hs : Keeps b0 s) :
    Keeps b0 (State.putRaised s e r) := by
  unfold State.putRaised
  repeat' (first
    | with_reducible first
      | assumption | apply State.setB_keeps | refine foldl_keeps ?_ ?_ | refine ite_keeps ?_ ?_ | refine pite_keeps ?_ ?_
      | exact none_okeeps | apply some_okeeps | refine oite_keeps ?_ ?_ | refine getD_keeps ?_ ?_ | refine omap_keeps ?_ ?_
      | apply id_keeps
    | intro _ _ _
    | intro _ _
    | split
    | with_reducible first
      | refine pair_keeps ?_ (by assumption) | refine pair_keeps2 ?_ (by assumption)
      | refine opt_keeps ?_ (by assumption)
    | dsimp only
    | fail_if_no_progress with_reducible apply mk_keeps)

theorem State.stopDue_keeps {b0 : State} (t : State) (e : ℕ) (ht : Keeps b0 t) :
    Keeps b0 (State.stopDue t e) := by
  unfold State.stopDue
  repeat' (first
    | with_reducible first
      | assumption | apply State.haltNow_keeps | refine foldl_keeps ?_ ?_ | refine ite_keeps ?_ ?_ | refine pite_keeps ?_ ?_
      | exact none_okeeps | apply some_okeeps | refine oite_keeps ?_ ?_ | refine getD_keeps ?_ ?_ | refine omap_keeps ?_ ?_
      | apply id_keeps
    | intro _ _ _
    | intro _ _
    | split
    | with_reducible first
      | refine pair_keeps ?_ (by assumption) | refine pair_keeps2 ?_ (by assumption)
      | refine opt_keeps ?_ (by assumption)
    | dsimp only
    | fail_if_no_progress with_reducible apply mk_keeps)

theorem State.spillEntered_keeps {b0 : State} (t : State) (e : ℕ) (lost : ℕ) (w : Word) (ht : Keeps b0 t) :
    Keeps b0 (State.spillEntered t e lost w) := by
  unfold State.spillEntered
  repeat' (first
    | with_reducible first
      | assumption | apply State.enterAt_keeps | apply State.excRecord_keeps | apply State.set_keeps | apply State.stopDue_keeps
      | refine foldl_keeps ?_ ?_ | refine ite_keeps ?_ ?_ | refine pite_keeps ?_ ?_ | exact none_okeeps | apply some_okeeps
      | refine oite_keeps ?_ ?_ | refine getD_keeps ?_ ?_ | refine omap_keeps ?_ ?_ | apply id_keeps
    | intro _ _ _
    | intro _ _
    | split
    | with_reducible first
      | refine pair_keeps ?_ (by assumption) | refine pair_keeps2 ?_ (by assumption)
      | refine opt_keeps ?_ (by assumption)
    | dsimp only
    | fail_if_no_progress with_reducible apply mk_keeps)

theorem State.enterSpillFault_keeps {b0 : State} (s : State) (e : ℕ) (lost : ℕ) (hs : Keeps b0 s) :
    Keeps b0
    (State.enterSpillFault s e lost) := by
  unfold State.enterSpillFault
  repeat' (first
    | with_reducible first
      | assumption | apply State.countUe_keeps | apply State.entryFail_keeps | apply State.freeWord_keeps
      | apply State.readVec_keeps | apply State.setEng_keeps | apply State.spillEntered_keeps | refine foldl_keeps ?_ ?_
      | refine ite_keeps ?_ ?_ | refine pite_keeps ?_ ?_ | exact none_okeeps | apply some_okeeps | refine oite_keeps ?_ ?_
      | refine getD_keeps ?_ ?_ | refine omap_keeps ?_ ?_ | apply id_keeps
    | intro _ _ _
    | intro _ _
    | split
    | with_reducible first
      | refine pair_keeps ?_ (by assumption) | refine pair_keeps2 ?_ (by assumption)
      | refine opt_keeps ?_ (by assumption)
    | dsimp only
    | fail_if_no_progress with_reducible apply mk_keeps)

theorem State.licEntered_keeps {b0 : State} (t : State) (e : ℕ) (i : ℕ) (p : ℕ) (ht : Keeps b0 t) :
    Keeps b0
    (State.licEntered t e i p) := by
  unfold State.licEntered
  repeat' (first
    | with_reducible first
      | assumption | apply State.lowerBit_keeps | apply State.set_keeps | apply State.setEng_keeps | refine foldl_keeps ?_ ?_
      | refine ite_keeps ?_ ?_ | refine pite_keeps ?_ ?_ | exact none_okeeps | apply some_okeeps | refine oite_keeps ?_ ?_
      | refine getD_keeps ?_ ?_ | refine omap_keeps ?_ ?_ | apply id_keeps
    | intro _ _ _
    | intro _ _
    | split
    | with_reducible first
      | refine pair_keeps ?_ (by assumption) | refine pair_keeps2 ?_ (by assumption)
      | refine opt_keeps ?_ (by assumption)
    | dsimp only
    | fail_if_no_progress with_reducible apply mk_keeps)

theorem State.enterVec_keeps {b0 : State} (s : State) (e : ℕ) (v : ℕ) (iel : Option ℕ) (x : Exc) (lic : Option ℕ) (w : Word) (hs
    : Keeps b0 s) :
    Keeps b0 (State.enterVec s e v iel x lic w) := by
  unfold State.enterVec
  repeat' (first
    | with_reducible first
      | assumption | apply State.enterAt_keeps | apply State.enterSpillFault_keeps | apply State.excRecord_keeps
      | apply State.licEntered_keeps | apply State.putRaised_keeps | apply State.stackCtx_keeps | apply State.stopDue_keeps
      | refine foldl_keeps ?_ ?_ | refine ite_keeps ?_ ?_ | refine pite_keeps ?_ ?_ | exact none_okeeps | apply some_okeeps
      | refine oite_keeps ?_ ?_ | refine getD_keeps ?_ ?_ | refine omap_keeps ?_ ?_ | apply id_keeps
    | intro _ _ _
    | intro _ _
    | split
    | with_reducible first
      | refine pair_keeps ?_ (by assumption) | refine pair_keeps2 ?_ (by assumption)
      | refine opt_keeps ?_ (by assumption)
    | dsimp only
    | fail_if_no_progress with_reducible apply mk_keeps)

theorem State.vecHere_keeps {b0 : State} (t : State) (e : ℕ) (v : ℕ) (iel : Option ℕ) (x : Exc) (lic : Option ℕ) (w : Word) (ht
    : Keeps b0 t) :
    Keeps b0 (State.vecHere t e v iel x lic w) := by
  unfold State.vecHere
  repeat' (first
    | with_reducible first
      | assumption | apply State.enterVec_keeps | apply State.setEng_keeps | apply State.settleEng_keeps
      | refine foldl_keeps ?_ ?_ | refine ite_keeps ?_ ?_ | refine pite_keeps ?_ ?_ | exact none_okeeps | apply some_okeeps
      | refine oite_keeps ?_ ?_ | refine getD_keeps ?_ ?_ | refine omap_keeps ?_ ?_ | apply id_keeps
    | intro _ _ _
    | intro _ _
    | split
    | with_reducible first
      | refine pair_keeps ?_ (by assumption) | refine pair_keeps2 ?_ (by assumption)
      | refine opt_keeps ?_ (by assumption)
    | dsimp only
    | fail_if_no_progress with_reducible apply mk_keeps)

theorem State.giveWay_keeps {b0 : State} (s : State) (e : ℕ) (hs : Keeps b0 s) :
    Keeps b0 (State.giveWay s e) := by
  unfold State.giveWay
  repeat' (first
    | with_reducible first
      | assumption | apply State.settleEng_keeps | refine foldl_keeps ?_ ?_ | refine ite_keeps ?_ ?_ | refine pite_keeps ?_ ?_
      | exact none_okeeps | apply some_okeeps | refine oite_keeps ?_ ?_ | refine getD_keeps ?_ ?_ | refine omap_keeps ?_ ?_
      | apply id_keeps
    | intro _ _ _
    | intro _ _
    | split
    | with_reducible first
      | refine pair_keeps ?_ (by assumption) | refine pair_keeps2 ?_ (by assumption)
      | refine opt_keeps ?_ (by assumption)
    | dsimp only
    | fail_if_no_progress with_reducible apply mk_keeps)

theorem State.takeVec_keeps {b0 : State} (s : State) (e : ℕ) (v : ℕ) (iel : Option ℕ) (x : Exc) (lic : Option ℕ) (hs : Keeps b0 s)
    :
    Keeps b0 (State.takeVec s e v iel x lic) := by
  unfold State.takeVec
  repeat' (first
    | with_reducible first
      | assumption | apply State.countUe_keeps | apply State.entryFail_keeps | apply State.freeWord_keeps
      | apply State.giveWay_keeps | apply State.readVec_keeps | apply State.setEng_keeps | apply State.vecHere_keeps
      | refine foldl_keeps ?_ ?_ | refine ite_keeps ?_ ?_ | refine pite_keeps ?_ ?_ | exact none_okeeps | apply some_okeeps
      | refine oite_keeps ?_ ?_ | refine getD_keeps ?_ ?_ | refine omap_keeps ?_ ?_ | apply id_keeps
    | intro _ _ _
    | intro _ _
    | split
    | with_reducible first
      | refine pair_keeps ?_ (by assumption) | refine pair_keeps2 ?_ (by assumption)
      | refine opt_keeps ?_ (by assumption)
    | dsimp only
    | fail_if_no_progress with_reducible apply mk_keeps)

theorem State.except_keeps {b0 : State} (s : State) (e : ℕ) (v : ℕ) (early : Bool) (x : Exc) (hs : Keeps b0 s) :
    Keeps b0
    (State.except s e v early x) := by
  unfold State.except
  repeat' (first
    | with_reducible first
      | assumption | apply State.entryFail_keeps | apply State.takeVec_keeps | refine foldl_keeps ?_ ?_ | refine ite_keeps ?_ ?_
      | refine pite_keeps ?_ ?_ | exact none_okeeps | apply some_okeeps | refine oite_keeps ?_ ?_ | refine getD_keeps ?_ ?_
      | refine omap_keeps ?_ ?_ | apply id_keeps
    | intro _ _ _
    | intro _ _
    | split
    | with_reducible first
      | refine pair_keeps ?_ (by assumption) | refine pair_keeps2 ?_ (by assumption)
      | refine opt_keeps ?_ (by assumption)
    | dsimp only
    | fail_if_no_progress with_reducible apply mk_keeps)

theorem State.enterLic_keeps {b0 : State} (s : State) (e : ℕ) (i : ℕ) (hs : Keeps b0 s) :
    Keeps b0 (State.enterLic s e i) := by
  unfold State.enterLic
  repeat' (first
    | with_reducible first
      | assumption | apply State.takeVec_keeps | refine foldl_keeps ?_ ?_ | refine ite_keeps ?_ ?_ | refine pite_keeps ?_ ?_
      | exact none_okeeps | apply some_okeeps | refine oite_keeps ?_ ?_ | refine getD_keeps ?_ ?_ | refine omap_keeps ?_ ?_
      | apply id_keeps
    | intro _ _ _
    | intro _ _
    | split
    | with_reducible first
      | refine pair_keeps ?_ (by assumption) | refine pair_keeps2 ?_ (by assumption)
      | refine opt_keeps ?_ (by assumption)
    | dsimp only
    | fail_if_no_progress with_reducible apply mk_keeps)

/-- The writes of a part of a bundle keep what `Keeps` says. -/
def Put.Ok (p : Put) : Prop := ∀ b t, Keeps b t → Keeps b (p.act t)

theorem Put.act_keeps {b0 : State} (p : Put) (s : State) (hp : p.Ok) (hs : Keeps b0 s) : Keeps b0 (p.act s) := hp _ _ hs

theorem State.setA_keeps {b0 : State} (s : State) (e : ℕ) (w : Word) (hs : Keeps b0 s) :
    Keeps b0 (State.setA s e w) := by
  unfold State.setA
  repeat' (first
    | with_reducible first
      | assumption | apply State.setEng_keeps | refine foldl_keeps ?_ ?_ | refine ite_keeps ?_ ?_ | refine pite_keeps ?_ ?_
      | exact none_okeeps | apply some_okeeps | refine oite_keeps ?_ ?_ | refine getD_keeps ?_ ?_ | refine omap_keeps ?_ ?_
      | apply id_keeps
    | intro _ _ _
    | intro _ _
    | split
    | with_reducible first
      | refine pair_keeps ?_ (by assumption) | refine pair_keeps2 ?_ (by assumption)
      | refine opt_keeps ?_ (by assumption)
    | dsimp only
    | fail_if_no_progress with_reducible apply mk_keeps)

theorem State.setE_keeps {b0 : State} (s : State) (e : ℕ) (w : Word) (hs : Keeps b0 s) :
    Keeps b0 (State.setE s e w) := by
  unfold State.setE
  repeat' (first
    | with_reducible first
      | assumption | apply State.setEng_keeps | refine foldl_keeps ?_ ?_ | refine ite_keeps ?_ ?_ | refine pite_keeps ?_ ?_
      | exact none_okeeps | apply some_okeeps | refine oite_keeps ?_ ?_ | refine getD_keeps ?_ ?_ | refine omap_keeps ?_ ?_
      | apply id_keeps
    | intro _ _ _
    | intro _ _
    | split
    | with_reducible first
      | refine pair_keeps ?_ (by assumption) | refine pair_keeps2 ?_ (by assumption)
      | refine opt_keeps ?_ (by assumption)
    | dsimp only
    | fail_if_no_progress with_reducible apply mk_keeps)

theorem State.setPc_keeps {b0 : State} (s : State) (e : ℕ) (pc : ℕ) (hs : Keeps b0 s) :
    Keeps b0 (State.setPc s e pc) := by
  unfold State.setPc
  repeat' (first
    | with_reducible first
      | assumption | apply State.setEng_keeps | refine foldl_keeps ?_ ?_ | refine ite_keeps ?_ ?_ | refine pite_keeps ?_ ?_
      | exact none_okeeps | apply some_okeeps | refine oite_keeps ?_ ?_ | refine getD_keeps ?_ ?_ | refine omap_keeps ?_ ?_
      | apply id_keeps
    | intro _ _ _
    | intro _ _
    | split
    | with_reducible first
      | refine pair_keeps ?_ (by assumption) | refine pair_keeps2 ?_ (by assumption)
      | refine opt_keeps ?_ (by assumption)
    | dsimp only
    | fail_if_no_progress with_reducible apply mk_keeps)

theorem State.setIndex_keeps {b0 : State} (s : State) (e : ℕ) (y : Bool) (w : Word) (hs : Keeps b0 s) :
    Keeps b0
    (State.setIndex s e y w) := by
  unfold State.setIndex
  repeat' (first
    | with_reducible first
      | assumption | apply State.setEng_keeps | refine foldl_keeps ?_ ?_ | refine ite_keeps ?_ ?_ | refine pite_keeps ?_ ?_
      | exact none_okeeps | apply some_okeeps | refine oite_keeps ?_ ?_ | refine getD_keeps ?_ ?_ | refine omap_keeps ?_ ?_
      | apply id_keeps
    | intro _ _ _
    | intro _ _
    | split
    | with_reducible first
      | refine pair_keeps ?_ (by assumption) | refine pair_keeps2 ?_ (by assumption)
      | refine opt_keeps ?_ (by assumption)
    | dsimp only
    | fail_if_no_progress with_reducible apply mk_keeps)

theorem State.nearStore_keeps {b0 : State} (t : State) (a : ℕ) (w : Word) (ht : Keeps b0 t) :
    Keeps b0 (State.nearStore t a w) := by
  unfold State.nearStore
  repeat' (first
    | with_reducible first
      | assumption | apply State.memWrite_keeps | apply State.pageWrite_keeps | refine foldl_keeps ?_ ?_
      | refine ite_keeps ?_ ?_ | refine pite_keeps ?_ ?_ | exact none_okeeps | apply some_okeeps | refine oite_keeps ?_ ?_
      | refine getD_keeps ?_ ?_ | refine omap_keeps ?_ ?_ | apply id_keeps
    | intro _ _ _
    | intro _ _
    | split
    | with_reducible first
      | refine pair_keeps ?_ (by assumption) | refine pair_keeps2 ?_ (by assumption)
      | refine opt_keeps ?_ (by assumption)
    | dsimp only
    | fail_if_no_progress with_reducible apply mk_keeps)

theorem State.ctlPut_keeps {b0 : State} (t : State) (e : ℕ) (o : ℕ) (w : Word) (ht : Keeps b0 t) :
    Keeps b0 (State.ctlPut t e o w)
    := by
  unfold State.ctlPut
  repeat' (first
    | with_reducible first
      | assumption | apply State.cacheOp_keeps | apply State.ctlStore_keeps | apply State.storeFault_keeps
      | refine foldl_keeps ?_ ?_ | refine ite_keeps ?_ ?_ | refine pite_keeps ?_ ?_ | exact none_okeeps | apply some_okeeps
      | refine oite_keeps ?_ ?_ | refine getD_keeps ?_ ?_ | refine omap_keeps ?_ ?_ | apply id_keeps
    | intro _ _ _
    | intro _ _
    | split
    | with_reducible first
      | refine pair_keeps ?_ (by assumption) | refine pair_keeps2 ?_ (by assumption)
      | refine opt_keeps ?_ (by assumption)
    | dsimp only
    | fail_if_no_progress with_reducible apply mk_keeps)

theorem State.flag_keeps {b0 : State} (s : State) (e : ℕ) (f : Fld) (v : Option Bool) (hs : Keeps b0 s) :
    Keeps b0
    (State.flag s e f v) := by
  unfold State.flag
  repeat' (first
    | with_reducible first
      | assumption | apply State.setB_keeps | refine foldl_keeps ?_ ?_ | refine ite_keeps ?_ ?_ | refine pite_keeps ?_ ?_
      | exact none_okeeps | apply some_okeeps | refine oite_keeps ?_ ?_ | refine getD_keeps ?_ ?_ | refine omap_keeps ?_ ?_
      | apply id_keeps
    | intro _ _ _
    | intro _ _
    | split
    | with_reducible first
      | refine pair_keeps ?_ (by assumption) | refine pair_keeps2 ?_ (by assumption)
      | refine opt_keeps ?_ (by assumption)
    | dsimp only
    | fail_if_no_progress with_reducible apply mk_keeps)

theorem State.putFlags_keeps {b0 : State} (s : State) (e : ℕ) (r : ARes) (hs : Keeps b0 s) :
    Keeps b0 (State.putFlags s e r) := by
  unfold State.putFlags
  repeat' (first
    | with_reducible first
      | assumption | apply State.flag_keeps | refine foldl_keeps ?_ ?_ | refine ite_keeps ?_ ?_ | refine pite_keeps ?_ ?_
      | exact none_okeeps | apply some_okeeps | refine oite_keeps ?_ ?_ | refine getD_keeps ?_ ?_ | refine omap_keeps ?_ ?_
      | apply id_keeps
    | intro _ _ _
    | intro _ _
    | split
    | with_reducible first
      | refine pair_keeps ?_ (by assumption) | refine pair_keeps2 ?_ (by assumption)
      | refine opt_keeps ?_ (by assumption)
    | dsimp only
    | fail_if_no_progress with_reducible apply mk_keeps)

theorem State.stick_keeps {b0 : State} (s : State) (e : ℕ) (r : Raised) (hs : Keeps b0 s) :
    Keeps b0 (State.stick s e r) := by
  unfold State.stick
  repeat' (first
    | with_reducible first
      | assumption | apply State.flagIf_keeps | refine foldl_keeps ?_ ?_ | refine ite_keeps ?_ ?_ | refine pite_keeps ?_ ?_
      | exact none_okeeps | apply some_okeeps | refine oite_keeps ?_ ?_ | refine getD_keeps ?_ ?_ | refine omap_keeps ?_ ?_
      | apply id_keeps
    | intro _ _ _
    | intro _ _
    | split
    | with_reducible first
      | refine pair_keeps ?_ (by assumption) | refine pair_keeps2 ?_ (by assumption)
      | refine opt_keeps ?_ (by assumption)
    | dsimp only
    | fail_if_no_progress with_reducible apply mk_keeps)

theorem State.putRes_keeps {b0 : State} (s : State) (e : ℕ) (r : ARes) (hs : Keeps b0 s) :
    Keeps b0 (State.putRes s e r) := by
  unfold State.putRes
  repeat' (first
    | with_reducible first
      | assumption | apply State.setEng_keeps | refine foldl_keeps ?_ ?_ | refine ite_keeps ?_ ?_ | refine pite_keeps ?_ ?_
      | exact none_okeeps | apply some_okeeps | refine oite_keeps ?_ ?_ | refine getD_keeps ?_ ?_ | refine omap_keeps ?_ ?_
      | apply id_keeps
    | intro _ _ _
    | intro _ _
    | split
    | with_reducible first
      | refine pair_keeps ?_ (by assumption) | refine pair_keeps2 ?_ (by assumption)
      | refine opt_keeps ?_ (by assumption)
    | dsimp only
    | fail_if_no_progress with_reducible apply mk_keeps)

theorem State.setBlock_keeps {b0 : State} (s : State) (e : ℕ) (ts : Word) (td : Word) (tc : Word) (hs : Keeps b0 s) :
    Keeps b0
    (State.setBlock s e ts td tc) := by
  unfold State.setBlock
  repeat' (first
    | with_reducible first
      | assumption | apply State.setB_keeps | apply State.setEng_keeps | refine foldl_keeps ?_ ?_ | refine ite_keeps ?_ ?_
      | refine pite_keeps ?_ ?_ | exact none_okeeps | apply some_okeeps | refine oite_keeps ?_ ?_ | refine getD_keeps ?_ ?_
      | refine omap_keeps ?_ ?_ | apply id_keeps
    | intro _ _ _
    | intro _ _
    | split
    | with_reducible first
      | refine pair_keeps ?_ (by assumption) | refine pair_keeps2 ?_ (by assumption)
      | refine opt_keeps ?_ (by assumption)
    | dsimp only
    | fail_if_no_progress with_reducible apply mk_keeps)

theorem State.pushCall_keeps {b0 : State} (t : State) (e : ℕ) (x : CallEntry) (ht : Keeps b0 t) :
    Keeps b0 (State.pushCall t e x)
    := by
  unfold State.pushCall
  repeat' (first
    | with_reducible first
      | assumption | apply State.setEng_keeps | refine foldl_keeps ?_ ?_ | refine ite_keeps ?_ ?_ | refine pite_keeps ?_ ?_
      | exact none_okeeps | apply some_okeeps | refine oite_keeps ?_ ?_ | refine getD_keeps ?_ ?_ | refine omap_keeps ?_ ?_
      | apply id_keeps
    | intro _ _ _
    | intro _ _
    | split
    | with_reducible first
      | refine pair_keeps ?_ (by assumption) | refine pair_keeps2 ?_ (by assumption)
      | refine opt_keeps ?_ (by assumption)
    | dsimp only
    | fail_if_no_progress with_reducible apply mk_keeps)

theorem State.popCall_keeps {b0 : State} (t : State) (e : ℕ) (ht : Keeps b0 t) :
    Keeps b0 (State.popCall t e) := by
  unfold State.popCall
  repeat' (first
    | with_reducible first
      | assumption | apply State.setEng_keeps | refine foldl_keeps ?_ ?_ | refine ite_keeps ?_ ?_ | refine pite_keeps ?_ ?_
      | exact none_okeeps | apply some_okeeps | refine oite_keeps ?_ ?_ | refine getD_keeps ?_ ?_ | refine omap_keeps ?_ ?_
      | apply id_keeps
    | intro _ _ _
    | intro _ _
    | split
    | with_reducible first
      | refine pair_keeps ?_ (by assumption) | refine pair_keeps2 ?_ (by assumption)
      | refine opt_keeps ?_ (by assumption)
    | dsimp only
    | fail_if_no_progress with_reducible apply mk_keeps)

theorem State.loseRsv_keeps {b0 : State} (t : State) (e : ℕ) (ht : Keeps b0 t) :
    Keeps b0 (State.loseRsv t e) := by
  unfold State.loseRsv
  repeat' (first
    | with_reducible first
      | assumption | apply State.releaseRsv_keeps | apply State.setEng_keeps | refine foldl_keeps ?_ ?_ | refine ite_keeps ?_ ?_
      | refine pite_keeps ?_ ?_ | exact none_okeeps | apply some_okeeps | refine oite_keeps ?_ ?_ | refine getD_keeps ?_ ?_
      | refine omap_keeps ?_ ?_ | apply id_keeps
    | intro _ _ _
    | intro _ _
    | split
    | with_reducible first
      | refine pair_keeps ?_ (by assumption) | refine pair_keeps2 ?_ (by assumption)
      | refine opt_keeps ?_ (by assumption)
    | dsimp only
    | fail_if_no_progress with_reducible apply mk_keeps)

theorem State.snapEdge_keeps {b0 : State} (t : State) (u : ℕ) (ht : Keeps b0 t) :
    Keeps b0 (State.snapEdge t u) := by
  unfold State.snapEdge
  repeat' (first
    | with_reducible first
      | assumption | refine foldl_keeps ?_ ?_ | refine ite_keeps ?_ ?_ | refine pite_keeps ?_ ?_ | exact none_okeeps
      | apply some_okeeps | refine oite_keeps ?_ ?_ | refine getD_keeps ?_ ?_ | refine omap_keeps ?_ ?_ | apply id_keeps
    | intro _ _ _
    | intro _ _
    | split
    | with_reducible first
      | refine pair_keeps ?_ (by assumption) | refine pair_keeps2 ?_ (by assumption)
      | refine opt_keeps ?_ (by assumption)
    | dsimp only
    | fail_if_no_progress with_reducible apply mk_keeps)

theorem State.raise_keeps {b0 : State} (s : State) (e : ℕ) (f : Flt) (hs : Keeps b0 s) :
    Keeps b0 (State.raise s e f) := by
  unfold State.raise
  repeat' (first
    | with_reducible first
      | assumption | apply State.countUe_keeps | apply State.except_keeps | refine foldl_keeps ?_ ?_ | refine ite_keeps ?_ ?_
      | refine pite_keeps ?_ ?_ | exact none_okeeps | apply some_okeeps | refine oite_keeps ?_ ?_ | refine getD_keeps ?_ ?_
      | refine omap_keeps ?_ ?_ | apply id_keeps
    | intro _ _ _
    | intro _ _
    | split
    | with_reducible first
      | refine pair_keeps ?_ (by assumption) | refine pair_keeps2 ?_ (by assumption)
      | refine opt_keeps ?_ (by assumption)
    | dsimp only
    | fail_if_no_progress with_reducible apply mk_keeps)

theorem State.countCes_keeps {b0 : State} (s : State) (e : ℕ) (l : List ℕ) (hs : Keeps b0 s) :
    Keeps b0 (State.countCes s e l) := by
  unfold State.countCes
  repeat' (first
    | with_reducible first
      | assumption | apply State.countCe_keeps | refine foldl_keeps ?_ ?_ | refine ite_keeps ?_ ?_ | refine pite_keeps ?_ ?_
      | exact none_okeeps | apply some_okeeps | refine oite_keeps ?_ ?_ | refine getD_keeps ?_ ?_ | refine omap_keeps ?_ ?_
      | apply id_keeps
    | intro _ _ _
    | intro _ _
    | split
    | with_reducible first
      | refine pair_keeps ?_ (by assumption) | refine pair_keeps2 ?_ (by assumption)
      | refine opt_keeps ?_ (by assumption)
    | dsimp only
    | fail_if_no_progress with_reducible apply mk_keeps)

theorem State.fetchWord_keeps {b0 : State} (s : State) (e : ℕ) (a : ℕ) (hs : Keeps b0 s) :
    Keeps b0 (State.fetchWord s e a).1 := by
  unfold State.fetchWord
  repeat' (first
    | with_reducible first
      | assumption | apply State.touch_keeps | refine foldl_keeps ?_ ?_ | refine ite_keeps ?_ ?_ | refine pite_keeps ?_ ?_
      | exact none_okeeps | apply some_okeeps | refine oite_keeps ?_ ?_ | refine getD_keeps ?_ ?_ | refine omap_keeps ?_ ?_
      | apply id_keeps
    | intro _ _ _
    | intro _ _
    | split
    | with_reducible first
      | refine pair_keeps ?_ (by assumption) | refine pair_keeps2 ?_ (by assumption)
      | refine opt_keeps ?_ (by assumption)
    | dsimp only
    | fail_if_no_progress with_reducible apply mk_keeps)

theorem State.fetchSk_keeps {b0 : State} (s : State) (e n a : Nat) (acc : List Word) (hs : Keeps b0 s) :
    Keeps b0 (s.fetchSk e n a acc).1 := by
  induction n generalizing s a acc with
  | zero => exact hs
  | succ n ih =>
    have h := State.fetchWord_keeps s e a hs
    rw [State.fetchSk]
    split
    · have ht := pair_keeps h (by assumption)
      exact pite_keeps ht (ih _ _ _ ht)
    · exact pair_keeps h (by assumption)
    · exact h

theorem State.fetch_keeps {b0 : State} (s : State) (e : ℕ) (hs : Keeps b0 s) :
    Keeps b0 (State.fetch s e).1 := by
  unfold State.fetch
  repeat' (first
    | with_reducible first
      | assumption | apply State.fetchSk_keeps | refine foldl_keeps ?_ ?_ | refine ite_keeps ?_ ?_ | refine pite_keeps ?_ ?_
      | exact none_okeeps | apply some_okeeps | refine oite_keeps ?_ ?_ | refine getD_keeps ?_ ?_ | refine omap_keeps ?_ ?_
      | apply id_keeps
    | intro _ _ _
    | intro _ _
    | split
    | with_reducible first
      | refine pair_keeps ?_ (by assumption) | refine pair_keeps2 ?_ (by assumption)
      | refine opt_keeps ?_ (by assumption)
    | dsimp only
    | fail_if_no_progress with_reducible apply mk_keeps)

theorem State.loadRsv_keeps {b0 : State} (s : State) (e : ℕ) (a : ℕ) (hs : Keeps b0 s) :
    Keeps b0 (State.loadRsv s e a).1 := by
  unfold State.loadRsv
  repeat' (first
    | with_reducible first
      | assumption | apply State.busRead_keeps | refine foldl_keeps ?_ ?_ | refine ite_keeps ?_ ?_ | refine pite_keeps ?_ ?_
      | exact none_okeeps | apply some_okeeps | refine oite_keeps ?_ ?_ | refine getD_keeps ?_ ?_ | refine omap_keeps ?_ ?_
      | apply id_keeps
    | intro _ _ _
    | intro _ _
    | split
    | with_reducible first
      | refine pair_keeps ?_ (by assumption) | refine pair_keeps2 ?_ (by assumption)
      | refine opt_keeps ?_ (by assumption)
    | dsimp only
    | fail_if_no_progress with_reducible apply mk_keeps)

theorem State.condStore_keeps {b0 : State} (s : State) (e : ℕ) (a : ℕ) (hs : Keeps b0 s) :
    Keeps b0 (State.condStore s e a).1 := by
  unfold State.condStore
  repeat' (first
    | with_reducible first
      | assumption | apply State.memWrite_keeps | refine foldl_keeps ?_ ?_ | refine ite_keeps ?_ ?_ | refine pite_keeps ?_ ?_
      | exact none_okeeps | apply some_okeeps | refine oite_keeps ?_ ?_ | refine getD_keeps ?_ ?_ | refine omap_keeps ?_ ?_
      | apply id_keeps
    | intro _ _ _
    | intro _ _
    | split
    | with_reducible first
      | refine pair_keeps ?_ (by assumption) | refine pair_keeps2 ?_ (by assumption)
      | refine opt_keeps ?_ (by assumption)
    | dsimp only
    | fail_if_no_progress with_reducible apply mk_keeps)

theorem State.freeLoad_keeps {b0 : State} (s : State) (e : ℕ) (l : Load) (hs : Keeps b0 s) :
    Keeps b0 (State.freeLoad s e l).1 := by
  unfold State.freeLoad
  repeat' (first
    | with_reducible first
      | assumption | apply State.engAsk_keeps | apply State.touch_keeps | refine foldl_keeps ?_ ?_ | refine ite_keeps ?_ ?_
      | refine pite_keeps ?_ ?_ | exact none_okeeps | apply some_okeeps | refine oite_keeps ?_ ?_ | refine getD_keeps ?_ ?_
      | refine omap_keeps ?_ ?_ | apply id_keeps
    | intro _ _ _
    | intro _ _
    | split
    | with_reducible first
      | refine pair_keeps ?_ (by assumption) | refine pair_keeps2 ?_ (by assumption)
      | refine opt_keeps ?_ (by assumption)
    | dsimp only
    | fail_if_no_progress with_reducible apply mk_keeps)

theorem State.access_keeps {b0 : State} (s : State) (e : ℕ) (l : Load) (hs : Keeps b0 s) :
    Keeps b0 (State.access s e l).1 := by
  unfold State.access
  repeat' (first
    | with_reducible first
      | assumption | apply State.engAsk_keeps | apply State.freeLoad_keeps | refine foldl_keeps ?_ ?_ | refine ite_keeps ?_ ?_
      | refine pite_keeps ?_ ?_ | exact none_okeeps | apply some_okeeps | refine oite_keeps ?_ ?_ | refine getD_keeps ?_ ?_
      | refine omap_keeps ?_ ?_ | apply id_keeps
    | intro _ _ _
    | intro _ _
    | split
    | with_reducible first
      | refine pair_keeps ?_ (by assumption) | refine pair_keeps2 ?_ (by assumption)
      | refine opt_keeps ?_ (by assumption)
    | dsimp only
    | fail_if_no_progress with_reducible apply mk_keeps)

theorem State.loopSet_keeps {b0 : State} (s : State) (e : ℕ) (one : Bool) (seq : ℕ) (hs : Keeps b0 s) :
    Keeps b0
    (State.loopSet s e one seq).1 := by
  unfold State.loopSet
  repeat' (first
    | with_reducible first
      | assumption | apply State.setReg_keeps | refine foldl_keeps ?_ ?_ | refine ite_keeps ?_ ?_ | refine pite_keeps ?_ ?_
      | exact none_okeeps | apply some_okeeps | refine oite_keeps ?_ ?_ | refine getD_keeps ?_ ?_ | refine omap_keeps ?_ ?_
      | apply id_keeps
    | intro _ _ _
    | intro _ _
    | split
    | with_reducible first
      | refine pair_keeps ?_ (by assumption) | refine pair_keeps2 ?_ (by assumption)
      | refine opt_keeps ?_ (by assumption)
    | dsimp only
    | fail_if_no_progress with_reducible apply mk_keeps)

theorem State.loopEnd_keeps {b0 : State} (s : State) (e : ℕ) (seq : ℕ) (hs : Keeps b0 s) :
    Keeps b0 (State.loopEnd s e seq).1 := by
  unfold State.loopEnd
  repeat' (first
    | with_reducible first
      | assumption | apply State.loopSet_keeps | refine foldl_keeps ?_ ?_ | refine ite_keeps ?_ ?_ | refine pite_keeps ?_ ?_
      | exact none_okeeps | apply some_okeeps | refine oite_keeps ?_ ?_ | refine getD_keeps ?_ ?_ | refine omap_keeps ?_ ?_
      | apply id_keeps
    | intro _ _ _
    | intro _ _
    | split
    | with_reducible first
      | refine pair_keeps ?_ (by assumption) | refine pair_keeps2 ?_ (by assumption)
      | refine opt_keeps ?_ (by assumption)
    | dsimp only
    | fail_if_no_progress with_reducible apply mk_keeps)

theorem State.retire_keeps {b0 : State} (t : State) (e : ℕ) (pc : ℕ) (next : ℕ) (ht : Keeps b0 t) :
    Keeps b0
    (State.retire t e pc next) := by
  unfold State.retire
  repeat' (first
    | with_reducible first
      | assumption | apply State.bankBoundary_keeps | apply State.haltNow_keeps | apply State.set_keeps
      | apply State.setEng_keeps | refine foldl_keeps ?_ ?_ | refine ite_keeps ?_ ?_ | refine pite_keeps ?_ ?_
      | exact none_okeeps | apply some_okeeps | refine oite_keeps ?_ ?_ | refine getD_keeps ?_ ?_ | refine omap_keeps ?_ ?_
      | apply id_keeps
    | intro _ _ _
    | intro _ _
    | split
    | with_reducible first
      | refine pair_keeps ?_ (by assumption) | refine pair_keeps2 ?_ (by assumption)
      | refine opt_keeps ?_ (by assumption)
    | dsimp only
    | fail_if_no_progress with_reducible apply mk_keeps)

theorem State.killed_keeps {b0 : State} (s : State) (e : ℕ) (pc : ℕ) (hs : Keeps b0 s) :
    Keeps b0 (State.killed s e pc) := by
  unfold State.killed
  repeat' (first
    | with_reducible first
      | assumption | apply State.countCes_keeps | apply State.countUe_keeps | apply State.fetchSk_keeps
      | apply State.lineIn_keeps | apply State.readLine_keeps | refine foldl_keeps ?_ ?_ | refine ite_keeps ?_ ?_
      | refine pite_keeps ?_ ?_ | exact none_okeeps | apply some_okeeps | refine oite_keeps ?_ ?_ | refine getD_keeps ?_ ?_
      | refine omap_keeps ?_ ?_ | apply id_keeps
    | intro _ _ _
    | intro _ _
    | split
    | with_reducible first
      | refine pair_keeps ?_ (by assumption) | refine pair_keeps2 ?_ (by assumption)
      | refine opt_keeps ?_ (by assumption)
    | dsimp only
    | fail_if_no_progress with_reducible apply mk_keeps)

theorem State.restore_keeps {b0 : State} (t : State) (e : ℕ) (ws : List Word) (ht : Keeps b0 t) :
    Keeps b0 (State.restore t e ws)
    := by
  unfold State.restore
  repeat' (first
    | with_reducible first
      | assumption | apply State.setEng_keeps | apply State.setReg_keeps | refine foldl_keeps ?_ ?_ | refine ite_keeps ?_ ?_
      | refine pite_keeps ?_ ?_ | exact none_okeeps | apply some_okeeps | refine oite_keeps ?_ ?_ | refine getD_keeps ?_ ?_
      | refine omap_keeps ?_ ?_ | apply id_keeps
    | intro _ _ _
    | intro _ _
    | split
    | with_reducible first
      | refine pair_keeps ?_ (by assumption) | refine pair_keeps2 ?_ (by assumption)
      | refine opt_keeps ?_ (by assumption)
    | dsimp only
    | fail_if_no_progress with_reducible apply mk_keeps)

theorem State.returnFault_keeps {b0 : State} (t : State) (e : ℕ) (ctx : Option (ℕ × ℕ)) (ht : Keeps b0 t) :
    Keeps b0
    (State.returnFault t e ctx) := by
  unfold State.returnFault
  repeat' (first
    | with_reducible first
      | assumption | apply State.except_keeps | apply State.freeWord_keeps | apply State.set_keeps | apply State.setB_keeps
      | refine foldl_keeps ?_ ?_ | refine ite_keeps ?_ ?_ | refine pite_keeps ?_ ?_ | exact none_okeeps | apply some_okeeps
      | refine oite_keeps ?_ ?_ | refine getD_keeps ?_ ?_ | refine omap_keeps ?_ ?_ | apply id_keeps
    | intro _ _ _
    | intro _ _
    | split
    | with_reducible first
      | refine pair_keeps ?_ (by assumption) | refine pair_keeps2 ?_ (by assumption)
      | refine opt_keeps ?_ (by assumption)
    | dsimp only
    | fail_if_no_progress with_reducible apply mk_keeps)

theorem State.eret_keeps {b0 : State} (s : State) (t : State) (e : ℕ) (seq : ℕ) (fr : List Word) (hs : Keeps b0 s) (ht : Keeps b0 t)
    :
    Keeps b0 (State.eret s t e seq fr) := by
  unfold State.eret
  repeat' (first
    | with_reducible first
      | assumption | apply State.countCes_keeps | apply State.killed_keeps | apply State.loseRsv_keeps
      | apply State.restore_keeps | apply State.retire_keeps | apply State.returnFault_keeps | apply State.set_keeps
      | apply State.setReg_keeps | refine foldl_keeps ?_ ?_ | refine ite_keeps ?_ ?_ | refine pite_keeps ?_ ?_
      | exact none_okeeps | apply some_okeeps | refine oite_keeps ?_ ?_ | refine getD_keeps ?_ ?_ | refine omap_keeps ?_ ?_
      | apply id_keeps
    | intro _ _ _
    | intro _ _
    | split
    | with_reducible first
      | refine pair_keeps ?_ (by assumption) | refine pair_keeps2 ?_ (by assumption)
      | refine opt_keeps ?_ (by assumption)
    | dsimp only
    | fail_if_no_progress with_reducible apply mk_keeps)

theorem State.beginCe_keeps {b0 : State} (s : State) (e : ℕ) (b : Bundle) (ws : List Word) (hs : Keeps b0 s) :
    Keeps b0
    (State.beginCe s e b ws) := by
  unfold State.beginCe
  repeat' (first
    | with_reducible first
      | assumption | apply State.countCes_keeps | refine foldl_keeps ?_ ?_ | refine ite_keeps ?_ ?_ | refine pite_keeps ?_ ?_
      | exact none_okeeps | apply some_okeeps | refine oite_keeps ?_ ?_ | refine getD_keeps ?_ ?_ | refine omap_keeps ?_ ?_
      | apply id_keeps
    | intro _ _ _
    | intro _ _
    | split
    | with_reducible first
      | refine pair_keeps ?_ (by assumption) | refine pair_keeps2 ?_ (by assumption)
      | refine opt_keeps ?_ (by assumption)
    | dsimp only
    | fail_if_no_progress with_reducible apply mk_keeps)

theorem State.waitInE_keeps {b0 : State} (s : State) (e : ℕ) (ws : List Word) (hs : Keeps b0 s) :
    Keeps b0 (State.waitInE s e ws)
    := by
  unfold State.waitInE
  repeat' (first
    | with_reducible first
      | assumption | apply State.setEng_keeps | refine foldl_keeps ?_ ?_ | refine ite_keeps ?_ ?_ | refine pite_keeps ?_ ?_
      | exact none_okeeps | apply some_okeeps | refine oite_keeps ?_ ?_ | refine getD_keeps ?_ ?_ | refine omap_keeps ?_ ?_
      | apply id_keeps
    | intro _ _ _
    | intro _ _
    | split
    | with_reducible first
      | refine pair_keeps ?_ (by assumption) | refine pair_keeps2 ?_ (by assumption)
      | refine opt_keeps ?_ (by assumption)
    | dsimp only
    | fail_if_no_progress with_reducible apply mk_keeps)

theorem State.condDone_keeps {b0 : State} (t : State) (e : ℕ) (r : Word) (ht : Keeps b0 t) :
    Keeps b0 (State.condDone t e r) := by
  unfold State.condDone
  repeat' (first
    | with_reducible first
      | assumption | apply State.loseRsv_keeps | apply State.setB_keeps | refine foldl_keeps ?_ ?_ | refine ite_keeps ?_ ?_
      | refine pite_keeps ?_ ?_ | exact none_okeeps | apply some_okeeps | refine oite_keeps ?_ ?_ | refine getD_keeps ?_ ?_
      | refine omap_keeps ?_ ?_ | apply id_keeps
    | intro _ _ _
    | intro _ _
    | split
    | with_reducible first
      | refine pair_keeps ?_ (by assumption) | refine pair_keeps2 ?_ (by assumption)
      | refine opt_keeps ?_ (by assumption)
    | dsimp only
    | fail_if_no_progress with_reducible apply mk_keeps)

theorem State.commitBundle_keeps {b0 : State} (s : State) (t : State) (e : ℕ) (b : Bundle) (ws : List Word) (p : Put) (hs : Keeps b0 s)
    (ht : Keeps b0 t) (hp : Put.Ok p) :
    Keeps b0 (State.commitBundle s t e b ws p) := by
  unfold State.commitBundle
  repeat' (first
    | with_reducible first
      | assumption | apply Put.act_keeps | apply State.eret_keeps | apply State.haltNow_keeps | apply State.killed_keeps
      | apply State.loopEnd_keeps | apply State.retire_keeps | apply State.set_keeps | apply State.setEng_keeps
      | refine foldl_keeps ?_ ?_ | refine ite_keeps ?_ ?_ | refine pite_keeps ?_ ?_ | exact none_okeeps | apply some_okeeps
      | refine oite_keeps ?_ ?_ | refine getD_keeps ?_ ?_ | refine omap_keeps ?_ ?_ | apply id_keeps
    | intro _ _ _
    | intro _ _
    | split
    | with_reducible first
      | refine pair_keeps ?_ (by assumption) | refine pair_keeps2 ?_ (by assumption)
      | refine opt_keeps ?_ (by assumption)
    | dsimp only
    | fail_if_no_progress with_reducible apply mk_keeps)

theorem State.enterWait_keeps {b0 : State} (s : State) (e : ℕ) (ws : List Word) (w : Wait) (hs : Keeps b0 s) :
    Keeps b0
    (State.enterWait s e ws w) := by
  unfold State.enterWait
  repeat' (first
    | with_reducible first
      | assumption | apply State.flagIf_keeps | apply State.setEng_keeps | refine foldl_keeps ?_ ?_ | refine ite_keeps ?_ ?_
      | refine pite_keeps ?_ ?_ | exact none_okeeps | apply some_okeeps | refine oite_keeps ?_ ?_ | refine getD_keeps ?_ ?_
      | refine omap_keeps ?_ ?_ | apply id_keeps
    | intro _ _ _
    | intro _ _
    | split
    | with_reducible first
      | refine pair_keeps ?_ (by assumption) | refine pair_keeps2 ?_ (by assumption)
      | refine opt_keeps ?_ (by assumption)
    | dsimp only
    | fail_if_no_progress with_reducible apply mk_keeps)

theorem State.fillAsk_keeps {b0 : State} (s : State) (e : ℕ) (line : ℕ) (hs : Keeps b0 s) :
    Keeps b0 (State.fillAsk s e line) := by
  unfold State.fillAsk
  repeat' (first
    | with_reducible first
      | assumption | apply State.engAsk_keeps | refine foldl_keeps ?_ ?_ | refine ite_keeps ?_ ?_ | refine pite_keeps ?_ ?_
      | exact none_okeeps | apply some_okeeps | refine oite_keeps ?_ ?_ | refine getD_keeps ?_ ?_ | refine omap_keeps ?_ ?_
      | apply id_keeps
    | intro _ _ _
    | intro _ _
    | split
    | with_reducible first
      | refine pair_keeps ?_ (by assumption) | refine pair_keeps2 ?_ (by assumption)
      | refine opt_keeps ?_ (by assumption)
    | dsimp only
    | fail_if_no_progress with_reducible apply mk_keeps)

theorem State.complete_keeps {b0 : State} (s : State) (e : ℕ) (b : Bundle) (ws : List Word) (p : Put) (hs : Keeps b0 s) (hp : Put.Ok p)
    :
    Keeps b0 (State.complete s e b ws p) := by
  unfold State.complete
  repeat' (first
    | with_reducible first
      | assumption | apply State.commitBundle_keeps | apply State.condDone_keeps | apply State.engAsk_keeps
      | apply State.enterWait_keeps | apply State.raise_keeps | apply State.waitInE_keeps | refine foldl_keeps ?_ ?_
      | refine ite_keeps ?_ ?_ | refine pite_keeps ?_ ?_ | exact none_okeeps | apply some_okeeps | refine oite_keeps ?_ ?_
      | refine getD_keeps ?_ ?_ | refine omap_keeps ?_ ?_ | apply id_keeps
    | intro _ _ _
    | intro _ _
    | split
    | with_reducible first
      | refine pair_keeps ?_ (by assumption) | refine pair_keeps2 ?_ (by assumption)
      | refine opt_keeps ?_ (by assumption)
    | dsimp only
    | fail_if_no_progress with_reducible apply mk_keeps)

/-- A part of a bundle, whatever its loads return, writes what keeps. -/
def Run.Ok (r : Run Put) : Prop := ∀ ws p l, r ws = .ok p l → p.Ok

theorem Put.ok_of {f : State → State} (h : ∀ b t, Keeps b t → Keeps b (f t)) : (Put.of f).Ok := h

theorem Put.ok_empty : Put.Ok {} := fun _ _ h => h

theorem Put.ok_then {p q : Put} (hp : p.Ok) (hq : q.Ok) : (p.then q).Ok := fun _ _ h => hq _ _ (hp _ _ h)

theorem Run.ok_ret {p : Put} (h : p.Ok) : (Run.ret p).Ok := fun _ _ _ e => by cases e; exact h

theorem Run.ok_fault (f : Flt) : (Run.fault f : Run Put).Ok := fun _ _ _ e => nomatch e

theorem Run.ok_bad (v k a : Nat) : (Run.bad v k a : Run Put).Ok := fun _ _ _ e => nomatch e

theorem Run.ok_badC (v : Nat) : (Run.badC v : Run Put).Ok := fun _ _ _ e => nomatch e

theorem Run.ok_hold : (Run.hold : Run Put).Ok := fun _ _ _ e => nomatch e

theorem Run.ok_wait (w : Wait) : Run.Ok (fun _ => .wait w) := fun _ _ _ e => nomatch e

theorem Run.ok_brk : Run.Ok (fun _ => .brk) := fun _ _ _ e => nomatch e

theorem Run.ok_ask (q : Ask) : Run.Ok (fun _ => .ask q) := fun _ _ _ e => nomatch e

theorem Run.ok_bind {α : Type} {r : Run α} {f : α → Run Put} (h : ∀ v, (f v).Ok) : (r.bind f).Ok := by
  intro ws p l e
  unfold Run.bind at e
  split at e
  · exact h _ _ _ _ e
  all_goals cases e

theorem Run.ok_then {r : Run Put} {f : Put → Run Put} (hr : r.Ok) (h : ∀ p, p.Ok → (f p).Ok) : (r.bind f).Ok := by
  intro ws p l e
  unfold Run.bind at e
  split at e
  · exact h _ (hr _ _ _ (by assumption)) _ _ _ e
  all_goals cases e

theorem Run.ok_ite {a b : Run Put} {c : Prop} [Decidable c] (ha : a.Ok) (hb : b.Ok) : (if c then a else b).Ok := by
  split <;> assumption

theorem State.stepOf_ok (s : State) (e : Nat) (k : Form) : (s.stepOf e k).Ok := by
  unfold State.stepOf
  split
  · exact Put.ok_of (fun _ _ h => State.setIndex_keeps _ _ _ _ h)
  · exact Put.ok_of (fun _ _ h => State.setIndex_keeps _ _ _ _ h)
  · exact Put.ok_empty

theorem State.buffered_ok (s : State) (e : Nat) (k : StoreKind) (a size : Nat) (w : Word) : (s.buffered e k a size w).Ok :=
  fun _ _ h => State.pushStore_keeps _ _ _ h

theorem State.nearWrite_ok (s : State) (e k w : Nat) (v : Word) : (s.nearWrite e k w v).Ok := by
  unfold State.nearWrite
  split
  · exact Run.ok_bad _ _ _
  · exact Run.ok_ite (Run.ok_ret (Put.ok_of (fun _ _ h => State.nearStore_keeps _ _ _ h))) (Run.ok_bad _ _ _)
  · exact Run.ok_ite (Run.ok_ret (State.buffered_ok _ _ _ _ _ _)) (Run.ok_bad _ _ _)
  · exact Run.ok_ite (Run.ok_bad _ _ _) (Run.ok_ite Run.ok_hold
      (Run.ok_ret (Put.ok_of (fun _ _ h => State.ctlPut_keeps _ _ _ _ h))))
  · exact Run.ok_ite (Run.ok_ret (State.buffered_ok _ _ _ _ _ _)) (Run.ok_bad _ _ _)

theorem State.farWrite_ok (s : State) (e k a size : Nat) (v : Word) : (s.farWrite e k a size v).Ok :=
  Run.ok_ite (Run.ok_bad _ _ _) (Run.ok_ite (Run.ok_ret (State.buffered_ok _ _ _ _ _ _)) (Run.ok_bad _ _ _))

theorem State.writeRef_ok (s : State) (e k size : Nat) (v : Word) (r : Ref) : (s.writeRef e k size v r).Ok := by
  unfold State.writeRef
  split
  · exact State.nearWrite_ok _ _ _ _ _
  · exact State.farWrite_ok _ _ _ _ _ _
  · exact Run.ok_ret Put.ok_empty

theorem State.rsvCheck_ok (s : State) (e a k : Nat) {r : Run Put} (h : r.Ok) : (s.rsvCheck e a k r).Ok :=
  Run.ok_ite (Run.ok_bad _ _ _) (Run.ok_ite (Run.ok_bad _ _ _) (Run.ok_ite (Run.ok_bad _ _ _) (Run.ok_ite Run.ok_hold h)))

theorem State.slotAlu_ok (s : State) (e : Nat) (k : ASlot) : (s.slotAlu e k).Ok := by
  refine Run.ok_bind (fun b => Run.ok_bind (fun w => ?_))
  dsimp only
  split
  · exact Run.ok_fault _
  · exact Run.ok_ret (Put.ok_then (Put.ok_of (fun _ _ h => State.stick_keeps _ _ _ (State.putFlags_keeps _ _ _
      (State.putRes_keeps _ _ _ h)))) (State.stepOf_ok _ _ _))

theorem State.slotLdrsv_ok (s : State) (e : Nat) (r : Ref) : (s.slotLdrsv e r).Ok := by
  unfold State.slotLdrsv
  split
  · exact State.rsvCheck_ok _ _ _ _ (Run.ok_bind (fun w => Run.ok_ret (Put.ok_of (fun _ _ h => State.setEng_keeps _ _ _ h))))
  · exact Run.ok_ret Put.ok_empty

theorem State.slotStcnd_ok (s : State) (e : Nat) (r : Ref) : (s.slotStcnd e r).Ok := by
  unfold State.slotStcnd
  split
  · exact State.rsvCheck_ok _ _ _ _ (Run.ok_ret (fun _ _ h => h))
  · exact Run.ok_ret Put.ok_empty

theorem State.slotA_ok (s : State) (e : Nat) (k : ASlot) : (s.slotA e k).Ok := by
  unfold State.slotA
  extract_lets r
  split
  · exact Run.ok_bind (fun w => Run.ok_ret (Put.ok_then (Put.ok_of (fun _ _ h => ite_keeps (State.setE_keeps _ _ _ h)
      (State.setA_keeps _ _ _ h))) (State.stepOf_ok _ _ _)))
  · exact Run.ok_then (State.writeRef_ok _ _ _ _ _ _) (fun p hp => Run.ok_ret (Put.ok_then hp (State.stepOf_ok _ _ _)))
  · exact State.slotLdrsv_ok _ _ _
  · exact State.slotStcnd_ok _ _ _
  · exact State.slotAlu_ok _ _ _

theorem State.slotX_ok (s : State) (e : Nat) (k : XSlot) : (s.slotX e k).Ok := by
  unfold State.slotX
  extract_lets r x
  split
  · exact Run.ok_bind (fun w => Run.ok_ret (Put.ok_of (fun _ _ h => State.setIndex_keeps _ _ _ _ h)))
  · exact State.writeRef_ok _ _ _ _ _ _
  · exact Run.ok_bind (fun w => Run.ok_ret (Put.ok_of (fun _ _ h => State.setIndex_keeps _ _ _ _ h)))
  · exact Run.ok_bind (fun w => Run.ok_ret (Put.ok_of (fun _ _ h => State.setReg_keeps _ _ _ h)))

theorem State.slotBmov_ok (s : State) (e : Nat) (d r : Bool) (n : Nat) : (s.slotBmov e d r n).Ok := by
  unfold State.slotBmov
  extract_lets x go ts td tc step
  refine Run.ok_ite (Run.ok_ret (Put.ok_of (fun _ _ h => State.setBlock_keeps _ _ _ _ _ h))) (Run.ok_bind (fun w =>
    Run.ok_then (State.writeRef_ok _ _ _ _ _ _) (fun p hp => Run.ok_ret (Put.ok_then (fun _ _ h => hp _ _ h)
      (Put.ok_of (fun _ _ h => State.setBlock_keeps _ _ _ _ _ h))))))

theorem State.slotMov_ok (s : State) (e : Nat) (d r : Form) : (s.slotMov e d r).Ok :=
  Run.ok_bind (fun w => Run.ok_then (State.writeRef_ok _ _ _ _ _ _) (fun p hp =>
    Run.ok_ret (Put.ok_then (Put.ok_then hp (State.stepOf_ok _ _ _)) (State.stepOf_ok _ _ _))))

theorem State.slotT_ok (s : State) (e : Nat) (k : TSlot) : (s.slotT e k).Ok := by
  cases k
  · exact State.slotMov_ok _ _ _ _
  · exact State.slotBmov_ok _ _ _ _ _

theorem State.writeWords_ok (s : State) (e : Nat) (l : List Nat) (ws : List Word) : (s.writeWords e l ws).Ok := by
  induction l generalizing ws with
  | nil => exact Run.ok_ret Put.ok_empty
  | cons w l ih =>
    cases ws with
    | nil => exact Run.ok_ret Put.ok_empty
    | cons x xs => exact Run.ok_then (State.nearWrite_ok _ _ _ _ _) (fun p hp => Run.ok_then (ih xs) (fun q hq =>
        Run.ok_ret (Put.ok_then hp hq)))

theorem State.queuePut_ok (s : State) (e : Nat) (k : QOp) (b : Nat) (c : Bool) (ws : List Word) : (s.queuePut e k b c ws).Ok := by
  unfold State.queuePut
  extract_lets flag
  have hf : flag.Ok := Put.ok_of (fun _ _ h => State.setB_keeps _ _ _ _ h)
  split
  · exact Run.ok_ret hf
  · exact Run.ok_ret (Put.ok_then hf (Put.ok_of (fun _ _ h => State.setB_keeps _ _ _ _ (State.setA_keeps _ _ _ h))))
  · exact Run.ok_ite (Run.ok_ret hf) (Run.ok_then (State.writeWords_ok _ _ _ _) (fun p hp => Run.ok_ret (Put.ok_then hf hp)))

theorem State.slotQueue_ok (s : State) (e : Nat) (k : QOp) (y : Bool) (q : Nat) : (s.slotQueue e k y q).Ok := by
  unfold State.slotQueue
  extract_lets b far
  refine Run.ok_ite (Run.ok_bad _ _ _) ?_
  split
  · exact Run.ok_badC _
  · exact State.queuePut_ok _ _ _ _ _ _
  · split
    · exact Run.ok_bind (fun ws => Run.ok_ask _)
    · exact Run.ok_ask _
    · split
      · exact Run.ok_bad _ _ _
      · exact Run.ok_ask _

theorem State.slotRet_ok (s : State) (e : Nat) (gate : Bool) : (s.slotRet e gate).Ok := by
  unfold State.slotRet
  split
  · exact Run.ok_ite (Run.ok_ret (fun _ _ h => ite_keeps (State.set_keeps _ _ _ _ (State.loseRsv_keeps _ _
      (State.popCall_keeps _ _ h))) (State.popCall_keeps _ _ h))) (Run.ok_badC _)
  · exact Run.ok_badC _

theorem State.slotGate_ok (s : State) (e : Nat) (b : Bundle) (n : Nat) : (s.slotGate e b n).Ok :=
  Run.ok_bind (fun _ => Run.ok_bind (fun _ => Run.ok_ite (Run.ok_badC _) (Run.ok_ret (fun _ _ h => State.set_keeps _ _ _ _
    (State.loseRsv_keeps _ _ (State.pushCall_keeps _ _ _ (ite_keeps (State.countCe_keeps _ _ _ (State.countCe_keeps _ _ _ h)) h)))))))

theorem State.slotLoop_ok (s : State) (e : Nat) (b : Bundle) (one src : Bool) (v n : Nat) : (s.slotLoop e b one src v n).Ok :=
  Run.ok_bind (fun _ => Run.ok_ret (Put.ok_of (fun _ _ h => State.setReg_keeps _ _ _ (State.setReg_keeps _ _ _
    (State.setReg_keeps _ _ _ h)))))

theorem State.slotWaitev_ok (s : State) (e mask : Nat) : (s.slotWaitev e mask).Ok :=
  Run.ok_ite (Run.ok_wait _) (Run.ok_ret (Put.ok_of (fun _ _ h => State.setReg_keeps _ _ _ (State.setA_keeps _ _ _ h))))

theorem State.slotEret_ok (s : State) (e : Nat) : (s.slotEret e).Ok := by
  unfold State.slotEret
  split
  · exact Run.ok_bind (fun _ => Run.ok_ret (fun _ _ h => h))
  · exact Run.ok_fault _
  · exact Run.ok_ret (fun _ _ h => h)

theorem State.slotC_ok (s : State) (e : Nat) (b : Bundle) (k : COp) : (s.slotC e b k).Ok := by
  unfold State.slotC
  split
  · exact Run.ok_ret (fun _ _ h => h)
  · exact Run.ok_ite (Run.ok_badC _) (Run.ok_ret (fun _ _ h => State.pushCall_keeps _ _ _ h))
  · exact State.slotRet_ok _ _ _
  · exact State.slotRet_ok _ _ _
  · exact State.slotGate_ok _ _ _ _
  · exact State.slotLoop_ok _ _ _ _ _ _ _
  · exact State.slotWaitev_ok _ _ _
  · exact Run.ok_ret (Put.ok_of (fun _ _ h => State.fire_keeps _ _ h))
  · exact State.slotQueue_ok _ _ _ _ _
  · exact Run.ok_ret (fun _ _ h => State.pushStore_keeps _ _ _ h)
  · exact Run.ok_ret (Put.ok_of (fun _ _ h => State.snapEdge_keeps _ _ h))
  · exact Run.ok_ite (Run.ok_ret Put.ok_empty) (Run.ok_wait _)
  · exact Run.ok_ite (Run.ok_ret Put.ok_empty) Run.ok_hold
  · exact State.slotEret_ok _ _
  · exact Run.ok_ret (Put.ok_of (fun _ _ h => State.setE_keeps _ _ _ (State.setA_keeps _ _ _ h)))
  · exact Run.ok_ret (Put.ok_of (fun _ _ h => State.setB_keeps _ _ _ _ h))
  · exact Run.ok_badC _
  · exact Run.ok_ite Run.ok_brk (Run.ok_badC _)

theorem slot_ok {α : Type} (o : Option α) {f : α → Run Put} (h : ∀ k, (f k).Ok) : (slot o f).Ok := by
  cases o with
  | none => exact Run.ok_ret Put.ok_empty
  | some k => exact h k

theorem State.allSlots_ok (s : State) (e : Nat) (b : Bundle) : (s.allSlots e b).Ok :=
  Run.ok_then (slot_ok _ (State.slotA_ok s e)) (fun p hp => Run.ok_then (slot_ok _ (State.slotX_ok s e)) (fun q hq =>
    Run.ok_then (slot_ok _ (State.slotT_ok s e)) (fun r hr => Run.ok_then (slot_ok _ (State.slotC_ok s e b)) (fun u hu =>
      Run.ok_ret (Put.ok_then (Put.ok_then (Put.ok_then hp hq) hr) hu)))))

theorem State.evalBundle_ok (s : State) (e : Nat) (b : Bundle) : (s.evalBundle e b).Ok := by
  unfold State.evalBundle
  refine Run.ok_ite ?_ (Run.ok_ite (Run.ok_badC _) (State.allSlots_ok _ _ _))
  split
  · exact Run.ok_ite (Run.ok_then (State.slotBmov_ok _ _ _ _ _) (fun p hp => Run.ok_then (State.slotEret_ok _ _) (fun q hq =>
      Run.ok_ret (Put.ok_then hp hq)))) (State.slotBmov_ok _ _ _ _ _)
  · exact Run.ok_fault _

theorem State.go_keeps {b0 : State} (e : Nat) (b : Bundle) (ws : List Word) (n : Nat) (s : State) (hs : Keeps b0 s) :
    Keeps b0 (State.go e b ws n s) := by
  induction n generalizing s with
  | zero => exact hs
  | succ n ih =>
    rw [State.go]
    split
    · exact State.complete_keeps _ _ _ _ _ hs (State.evalBundle_ok _ _ _ _ _ _ (by assumption))
    · rename_i l _
      have h := State.access_keeps s e l hs
      split
      · exact ih _ (State.setEng_keeps _ _ _ (pair_keeps h (by assumption)))
      · exact State.raise_keeps _ _ _ (pair_keeps h (by assumption))
      · exact State.fillAsk_keeps _ _ _ (State.enterWait_keeps _ _ _ _ (pair_keeps h (by assumption)))
      · exact State.enterWait_keeps _ _ _ _ (pair_keeps h (by assumption))
    · have h := State.engAsk_keeps _ e (aQD_BASE ‹Ask›.q) 0 (s.ring e) (State.enterWait_keeps s e ws (.queue none) hs)
      split
      · exact ih _ (State.setEng_keeps _ _ _ (pair_keeps h (by assumption)))
      · exact pair_keeps h (by assumption)
    · exact State.raise_keeps _ _ _ hs
    · exact State.enterWait_keeps _ _ _ _ hs
    · exact State.waitInE_keeps _ _ _ hs
    · exact State.setEng_keeps _ _ _ (State.settleEng_keeps _ _ hs)

theorem State.waitCode_keeps {b0 : State} (s : State) (e : ℕ) (ws : List Word) (hs : Keeps b0 s) :
    Keeps b0 (State.waitCode s e ws)
    := by
  unfold State.waitCode
  repeat' (first
    | with_reducible first
      | assumption | apply State.engAsk_keeps | apply State.setEng_keeps | refine foldl_keeps ?_ ?_ | refine ite_keeps ?_ ?_
      | refine pite_keeps ?_ ?_ | exact none_okeeps | apply some_okeeps | refine oite_keeps ?_ ?_ | refine getD_keeps ?_ ?_
      | refine omap_keeps ?_ ?_ | apply id_keeps
    | intro _ _ _
    | intro _ _
    | split
    | with_reducible first
      | refine pair_keeps ?_ (by assumption) | refine pair_keeps2 ?_ (by assumption)
      | refine opt_keeps ?_ (by assumption)
    | dsimp only
    | fail_if_no_progress with_reducible apply mk_keeps)

theorem State.fetchCe_keeps {b0 : State} (s : State) (e : ℕ) (hs : Keeps b0 s) :
    Keeps b0 (State.fetchCe s e) := by
  unfold State.fetchCe
  repeat' (first
    | with_reducible first
      | assumption | apply State.countCes_keeps | refine foldl_keeps ?_ ?_ | refine ite_keeps ?_ ?_ | refine pite_keeps ?_ ?_
      | exact none_okeeps | apply some_okeeps | refine oite_keeps ?_ ?_ | refine getD_keeps ?_ ?_ | refine omap_keeps ?_ ?_
      | apply id_keeps
    | intro _ _ _
    | intro _ _
    | split
    | with_reducible first
      | refine pair_keeps ?_ (by assumption) | refine pair_keeps2 ?_ (by assumption)
      | refine opt_keeps ?_ (by assumption)
    | dsimp only
    | fail_if_no_progress with_reducible apply mk_keeps)

theorem State.runOp_keeps {b0 : State} (s : State) (e : ℕ) (p : Bundle → Bool) (hs : Keeps b0 s) :
    Keeps b0 (State.runOp s e p) := by
  unfold State.runOp
  repeat' (first
    | with_reducible first
      | assumption | apply State.beginCe_keeps | apply State.fetch_keeps | apply State.fetchCe_keeps | apply State.fillAsk_keeps
      | apply State.go_keeps | apply State.raise_keeps | apply State.setEng_keeps | apply State.waitCode_keeps
      | refine foldl_keeps ?_ ?_ | refine ite_keeps ?_ ?_ | refine pite_keeps ?_ ?_ | exact none_okeeps | apply some_okeeps
      | refine oite_keeps ?_ ?_ | refine getD_keeps ?_ ?_ | refine omap_keeps ?_ ?_ | apply id_keeps
    | intro _ _ _
    | intro _ _
    | split
    | with_reducible first
      | refine pair_keeps ?_ (by assumption) | refine pair_keeps2 ?_ (by assumption)
      | refine opt_keeps ?_ (by assumption)
    | dsimp only
    | fail_if_no_progress with_reducible apply mk_keeps)

theorem State.resume_keeps {b0 : State} (s : State) (e : ℕ) (hs : Keeps b0 s) :
    Keeps b0 (State.resume s e) := by
  unfold State.resume
  repeat' (first
    | with_reducible first
      | assumption | apply State.go_keeps | refine foldl_keeps ?_ ?_ | refine ite_keeps ?_ ?_ | refine pite_keeps ?_ ?_
      | exact none_okeeps | apply some_okeeps | refine oite_keeps ?_ ?_ | refine getD_keeps ?_ ?_ | refine omap_keeps ?_ ?_
      | apply id_keeps
    | intro _ _ _
    | intro _ _
    | split
    | with_reducible first
      | refine pair_keeps ?_ (by assumption) | refine pair_keeps2 ?_ (by assumption)
      | refine opt_keeps ?_ (by assumption)
    | dsimp only
    | fail_if_no_progress with_reducible apply mk_keeps)

theorem State.codeHere_keeps {b0 : State} (s : State) (e : ℕ) (x_2 : Fetched) (hs : Keeps b0 s) :
    Keeps b0 (State.codeHere s e x_2) := by
  unfold State.codeHere
  repeat' (first
    | with_reducible first
      | assumption | apply State.fillAsk_keeps | apply State.raise_keeps | apply State.setEng_keeps | apply State.waitCode_keeps
      | refine foldl_keeps ?_ ?_ | refine ite_keeps ?_ ?_ | refine pite_keeps ?_ ?_ | exact none_okeeps | apply some_okeeps
      | refine oite_keeps ?_ ?_ | refine getD_keeps ?_ ?_ | refine omap_keeps ?_ ?_ | apply id_keeps
    | intro _ _ _
    | intro _ _
    | split
    | with_reducible first
      | refine pair_keeps ?_ (by assumption) | refine pair_keeps2 ?_ (by assumption)
      | refine opt_keeps ?_ (by assumption)
    | dsimp only
    | fail_if_no_progress with_reducible apply mk_keeps)

theorem State.codeBack_keeps {b0 : State} (s : State) (e : ℕ) (hs : Keeps b0 s) :
    Keeps b0 (State.codeBack s e) := by
  unfold State.codeBack
  repeat' (first
    | with_reducible first
      | assumption | apply State.codeHere_keeps | apply State.engAsk_keeps | apply State.fetchSk_keeps | apply State.raise_keeps
      | refine foldl_keeps ?_ ?_ | refine ite_keeps ?_ ?_ | refine pite_keeps ?_ ?_ | exact none_okeeps | apply some_okeeps
      | refine oite_keeps ?_ ?_ | refine getD_keeps ?_ ?_ | refine omap_keeps ?_ ?_ | apply id_keeps
    | intro _ _ _
    | intro _ _
    | split
    | with_reducible first
      | refine pair_keeps ?_ (by assumption) | refine pair_keeps2 ?_ (by assumption)
      | refine opt_keeps ?_ (by assumption)
    | dsimp only
    | fail_if_no_progress with_reducible apply mk_keeps)

theorem State.fillFault_keeps {b0 : State} (s : State) (e : ℕ) (icache : Bool) (a : ℕ) (ue : Bool) (hs : Keeps b0 s) :
    Keeps b0
    (State.fillFault s e icache a ue) := by
  unfold State.fillFault
  repeat' (first
    | with_reducible first
      | assumption | apply State.raise_keeps | refine foldl_keeps ?_ ?_ | refine ite_keeps ?_ ?_ | refine pite_keeps ?_ ?_
      | exact none_okeeps | apply some_okeeps | refine oite_keeps ?_ ?_ | refine getD_keeps ?_ ?_ | refine omap_keeps ?_ ?_
      | apply id_keeps
    | intro _ _ _
    | intro _ _
    | split
    | with_reducible first
      | refine pair_keeps ?_ (by assumption) | refine pair_keeps2 ?_ (by assumption)
      | refine opt_keeps ?_ (by assumption)
    | dsimp only
    | fail_if_no_progress with_reducible apply mk_keeps)

theorem State.fillDone_keeps {b0 : State} (s : State) (e : ℕ) (icache : Bool) (line : ℕ) (ws : List Word) (hs : Keeps b0 s)
    :
    Keeps b0 (State.fillDone s e icache line ws) := by
  unfold State.fillDone
  repeat' (first
    | with_reducible first
      | assumption | apply State.lineIn_keeps | apply State.setEng_keeps | refine foldl_keeps ?_ ?_ | refine ite_keeps ?_ ?_
      | refine pite_keeps ?_ ?_ | exact none_okeeps | apply some_okeeps | refine oite_keeps ?_ ?_ | refine getD_keeps ?_ ?_
      | refine omap_keeps ?_ ?_ | apply id_keeps
    | intro _ _ _
    | intro _ _
    | split
    | with_reducible first
      | refine pair_keeps ?_ (by assumption) | refine pair_keeps2 ?_ (by assumption)
      | refine opt_keeps ?_ (by assumption)
    | dsimp only
    | fail_if_no_progress with_reducible apply mk_keeps)

theorem State.fillRemote_keeps {b0 : State} (s : State) (e : ℕ) (icache : Bool) (line : ℕ) (hs : Keeps b0 s) :
    Keeps b0
    (State.fillRemote s e icache line) := by
  unfold State.fillRemote
  repeat' (first
    | with_reducible first
      | assumption | apply State.engAsk_keeps | apply State.fillDone_keeps | apply State.fillFault_keeps
      | apply State.setEng_keeps | refine foldl_keeps ?_ ?_ | refine ite_keeps ?_ ?_ | refine pite_keeps ?_ ?_
      | exact none_okeeps | apply some_okeeps | refine oite_keeps ?_ ?_ | refine getD_keeps ?_ ?_ | refine omap_keeps ?_ ?_
      | apply id_keeps
    | intro _ _ _
    | intro _ _
    | split
    | with_reducible first
      | refine pair_keeps ?_ (by assumption) | refine pair_keeps2 ?_ (by assumption)
      | refine opt_keeps ?_ (by assumption)
    | dsimp only
    | fail_if_no_progress with_reducible apply mk_keeps)

theorem State.countStore_keeps {b0 : State} (s : State) (e : ℕ) (a : ℕ) (hs : Keeps b0 s) :
    Keeps b0 (State.countStore s e a) := by
  unfold State.countStore
  repeat' (first
    | with_reducible first
      | assumption | apply State.setEng_keeps | refine foldl_keeps ?_ ?_ | refine ite_keeps ?_ ?_ | refine pite_keeps ?_ ?_
      | exact none_okeeps | apply some_okeeps | refine oite_keeps ?_ ?_ | refine getD_keeps ?_ ?_ | refine omap_keeps ?_ ?_
      | apply id_keeps
    | intro _ _ _
    | intro _ _
    | split
    | with_reducible first
      | refine pair_keeps ?_ (by assumption) | refine pair_keeps2 ?_ (by assumption)
      | refine opt_keeps ?_ (by assumption)
    | dsimp only
    | fail_if_no_progress with_reducible apply mk_keeps)

theorem State.hitStore_keeps {b0 : State} (s : State) (e : ℕ) (b : Store) (hs : Keeps b0 s) :
    Keeps b0 (State.hitStore s e b).1 := by
  unfold State.hitStore
  repeat' (first
    | with_reducible first
      | assumption | apply State.setEng_keeps | apply State.touch_keeps | refine foldl_keeps ?_ ?_ | refine ite_keeps ?_ ?_
      | refine pite_keeps ?_ ?_ | exact none_okeeps | apply some_okeeps | refine oite_keeps ?_ ?_ | refine getD_keeps ?_ ?_
      | refine omap_keeps ?_ ?_ | apply id_keeps
    | intro _ _ _
    | intro _ _
    | split
    | with_reducible first
      | refine pair_keeps ?_ (by assumption) | refine pair_keeps2 ?_ (by assumption)
      | refine opt_keeps ?_ (by assumption)
    | dsimp only
    | fail_if_no_progress with_reducible apply mk_keeps)

theorem State.sendStore_keeps {b0 : State} (s : State) (e : Nat) (b : Store) (hs : Keeps b0 s) : OKeeps b0 (s.sendStore e b) := by
  unfold State.sendStore
  extract_lets x t
  have ht : Keeps b0 t := State.portSelect_keeps _ _ _ _ (foldl_keeps hs (fun _ _ h => State.countStore_keeps _ _ _ h))
  split
  · exact some_okeeps (foldl_keeps ht (fun _ _ h => State.nakStore_keeps _ _ _ h))
  · exact oite_keeps (some_okeeps (foldl_keeps ht (fun _ _ h => State.nakStore_keeps _ _ _ h)))
      (oite_keeps none_okeeps (some_okeeps (State.setFifo_keeps _ _ _ _ ht)))

theorem State.sendArm_keeps {b0 : State} (s : State) (e : ℕ) (b : Store) (hs : Keeps b0 s) :
    OKeeps b0 (State.sendArm s e b) := by
  unfold State.sendArm
  repeat' (first
    | with_reducible first
      | assumption | apply State.setFifo_keeps | refine foldl_keeps ?_ ?_ | refine ite_keeps ?_ ?_ | refine pite_keeps ?_ ?_
      | exact none_okeeps | apply some_okeeps | refine oite_keeps ?_ ?_ | refine getD_keeps ?_ ?_ | refine omap_keeps ?_ ?_
      | apply id_keeps
    | intro _ _ _
    | intro _ _
    | split
    | with_reducible first
      | refine pair_keeps ?_ (by assumption) | refine pair_keeps2 ?_ (by assumption)
      | refine opt_keeps ?_ (by assumption)
    | dsimp only
    | fail_if_no_progress with_reducible apply mk_keeps)

theorem State.leave_keeps {b0 : State} (s : State) (e : ℕ) (b : Store) (hs : Keeps b0 s) : OKeeps b0 (s.leave e b) := by
  have h := State.hitStore_keeps s e b hs
  unfold State.leave
  split
  · exact some_okeeps (pair_keeps h (by assumption))
  · exact State.sendStore_keeps _ _ _ (pair_keeps h (by assumption))

theorem State.drain_keeps {b0 : State} (s : State) (e : ℕ) (hs : Keeps b0 s) :
    Keeps b0 (State.drain s e) := by
  unfold State.drain
  repeat' (first
    | with_reducible first
      | assumption | apply State.leave_keeps | apply State.sendArm_keeps | apply State.setEng_keeps | refine foldl_keeps ?_ ?_
      | refine ite_keeps ?_ ?_ | refine pite_keeps ?_ ?_ | exact none_okeeps | apply some_okeeps | refine oite_keeps ?_ ?_
      | refine getD_keeps ?_ ?_ | refine omap_keeps ?_ ?_ | apply id_keeps
    | intro _ _ _
    | intro _ _
    | split
    | with_reducible first
      | refine pair_keeps ?_ (by assumption) | refine pair_keeps2 ?_ (by assumption)
      | refine opt_keeps ?_ (by assumption)
    | dsimp only
    | fail_if_no_progress with_reducible apply mk_keeps)

theorem State.windowStore_keeps {b0 : State} (s : State) (x : Xfer) (hs : Keeps b0 s) :
    Keeps b0 (State.windowStore s x).1 := by
  unfold State.windowStore
  repeat' (first
    | with_reducible first
      | assumption | apply State.busWrite_keeps | apply State.sliceWrite_keeps | apply State.thrWrite_keeps
      | refine foldl_keeps ?_ ?_ | refine ite_keeps ?_ ?_ | refine pite_keeps ?_ ?_ | exact none_okeeps | apply some_okeeps
      | refine oite_keeps ?_ ?_ | refine getD_keeps ?_ ?_ | refine omap_keeps ?_ ?_ | apply id_keeps
    | intro _ _ _
    | intro _ _
    | split
    | with_reducible first
      | refine pair_keeps ?_ (by assumption) | refine pair_keeps2 ?_ (by assumption)
      | refine opt_keeps ?_ (by assumption)
    | dsimp only
    | fail_if_no_progress with_reducible apply mk_keeps)

theorem State.landLine_keeps {b0 : State} (s : State) (q : Req) (a : Nat) (ws : List Word) (hs : Keeps b0 s) :
    Keeps b0 (s.landLine q a ws).1 := by
  induction ws generalizing s a with
  | nil => exact hs
  | cons w ws ih => exact ih _ _ (State.busWrite_keeps _ _ _ _ _ hs)

theorem State.landWrite_keeps {b0 : State} (s : State) (x : Xfer) (hs : Keeps b0 s) :
    Keeps b0 (State.landWrite s x) := by
  unfold State.landWrite
  repeat' (first
    | with_reducible first
      | assumption | apply State.busWrite_keeps | apply State.carry_keeps | apply State.endXfer_keeps
      | apply State.landLine_keeps | apply State.windowStore_keeps | refine foldl_keeps ?_ ?_ | refine ite_keeps ?_ ?_
      | refine pite_keeps ?_ ?_ | exact none_okeeps | apply some_okeeps | refine oite_keeps ?_ ?_ | refine getD_keeps ?_ ?_
      | refine omap_keeps ?_ ?_ | apply id_keeps
    | intro _ _ _
    | intro _ _
    | split
    | with_reducible first
      | refine pair_keeps ?_ (by assumption) | refine pair_keeps2 ?_ (by assumption)
      | refine opt_keeps ?_ (by assumption)
    | dsimp only
    | fail_if_no_progress with_reducible apply mk_keeps)

theorem State.landed_keeps {b0 : State} (s : State) (x : Xfer) (a : Nat) (r : State × Acc.Res) (hr : Keeps b0 r.1) :
    OKeeps b0 (s.landed x a r) := by
  unfold State.landed
  split
  · exact none_okeeps
  · exact some_okeeps (State.endXfer_keeps _ _ _ _ hr)

theorem State.landRead_keeps {b0 : State} (s : State) (x : Xfer) (hs : Keeps b0 s) : OKeeps b0 (s.landRead x) :=
  State.landed_keeps _ _ _ _ (State.carry_keeps _ _ _ hs (fun _ h => State.busRead_keeps _ _ _ _ h))

theorem State.askQueue_keeps {b0 : State} (s : State) (e : ℕ) (ring : ℕ) (k : Ask) (hs : Keeps b0 s) :
    Keeps b0
    (State.askQueue s e ring k) := by
  unfold State.askQueue
  repeat' (first
    | with_reducible first
      | assumption | apply State.qGet_keeps | apply State.qMeet_keeps | apply State.qPutFor_keeps | apply State.setEng_keeps
      | refine foldl_keeps ?_ ?_ | refine ite_keeps ?_ ?_ | refine pite_keeps ?_ ?_ | exact none_okeeps | apply some_okeeps
      | refine oite_keeps ?_ ?_ | refine getD_keeps ?_ ?_ | refine omap_keeps ?_ ?_ | apply id_keeps
    | intro _ _ _
    | intro _ _
    | split
    | with_reducible first
      | refine pair_keeps ?_ (by assumption) | refine pair_keeps2 ?_ (by assumption)
      | refine opt_keeps ?_ (by assumption)
    | dsimp only
    | fail_if_no_progress with_reducible apply mk_keeps)

theorem State.landFill_keeps {b0 : State} (s : State) (x : Xfer) (hs : Keeps b0 s) : OKeeps b0 (s.landFill x) := by
  have h := State.carry_keeps s x (fun t => t.readLine x.eng 16 x.st.addr []) hs (fun _ h => State.readLine_keeps _ _ _ _ _ h)
  unfold State.landFill
  split
  · exact some_okeeps (State.endOp_keeps _ _ _ (pair_keeps h (by assumption)))
  · exact none_okeeps
  · exact some_okeeps (State.endOp_keeps _ _ _ (pair_keeps h (by assumption)))

theorem State.landOp_keeps {b0 : State} (s : State) (x : Xfer) (hs : Keeps b0 s) : OKeeps b0 (s.landOp x) := by
  unfold State.landOp
  refine oite_keeps (State.landFill_keeps _ _ hs) (oite_keeps (State.landRead_keeps _ _ hs) ?_)
  split
  · exact oite_keeps none_okeeps (some_okeeps (State.askQueue_keeps _ _ _ _ hs))
  · exact oite_keeps (State.landed_keeps _ _ _ _ (State.carry_keeps _ _ _ hs (fun _ h => State.loadRsv_keeps _ _ _ h)))
      (State.landRead_keeps _ _ hs)
  · split
    · exact State.landed_keeps _ _ _ _ (State.carry_keeps _ _ _ hs (fun _ h => State.condStore_keeps _ _ _ h))
    · exact some_okeeps (State.endOp_keeps _ _ _ hs)
  · exact some_okeeps (State.endOp_keeps _ _ _ hs)

theorem State.deliverXfer_keeps {b0 : State} (s : State) (dst : Nat) (x : Xfer) (hs : Keeps b0 s) : OKeeps b0 (s.deliverXfer dst x) := by
  unfold State.deliverXfer
  refine oite_keeps (some_okeeps hs) (oite_keeps (some_okeeps (State.lostXfer_keeps _ _ hs))
    (oite_keeps (some_okeeps (foldl_keeps hs (fun _ _ h => State.sendAccess_keeps _ _ h))) ?_))
  split
  · exact some_okeeps (hs.upd rfl rfl rfl rfl)
  · exact some_okeeps (State.feedWord_keeps _ _ _ hs)
  · exact State.landOp_keeps _ _ hs
  all_goals first
    | exact State.landRead_keeps _ _ hs
    | exact some_okeeps (State.landWrite_keeps _ _ hs)

theorem State.xspiAfter_keeps {b0 : State} (s : State) (src : ℕ) (x : Xfer) (hs : Keeps b0 s) :
    Keeps b0 (State.xspiAfter s src x) := by
  unfold State.xspiAfter
  repeat' (first
    | with_reducible first
      | assumption | apply State.xspiServed_keeps | refine foldl_keeps ?_ ?_ | refine ite_keeps ?_ ?_ | refine pite_keeps ?_ ?_
      | exact none_okeeps | apply some_okeeps | refine oite_keeps ?_ ?_ | refine getD_keeps ?_ ?_ | refine omap_keeps ?_ ?_
      | apply id_keeps
    | intro _ _ _
    | intro _ _
    | split
    | with_reducible first
      | refine pair_keeps ?_ (by assumption) | refine pair_keeps2 ?_ (by assumption)
      | refine opt_keeps ?_ (by assumption)
    | dsimp only
    | fail_if_no_progress with_reducible apply mk_keeps)

theorem State.xspiWaits_keeps {b0 : State} (s : State) (src : ℕ) (x : Xfer) (hs : Keeps b0 s) :
    Keeps b0 (State.xspiWaits s src x) := by
  unfold State.xspiWaits
  repeat' (first
    | with_reducible first
      | assumption | apply State.xspiHeld_keeps | refine foldl_keeps ?_ ?_ | refine ite_keeps ?_ ?_ | refine pite_keeps ?_ ?_
      | exact none_okeeps | apply some_okeeps | refine oite_keeps ?_ ?_ | refine getD_keeps ?_ ?_ | refine omap_keeps ?_ ?_
      | apply id_keeps
    | intro _ _ _
    | intro _ _
    | split
    | with_reducible first
      | refine pair_keeps ?_ (by assumption) | refine pair_keeps2 ?_ (by assumption)
      | refine opt_keeps ?_ (by assumption)
    | dsimp only
    | fail_if_no_progress with_reducible apply mk_keeps)

theorem State.recordFault_keeps {b0 : State} (s : State) (e : ℕ) (r : StoreErr) (hs : Keeps b0 s) :
    Keeps b0
    (State.recordFault s e r) := by
  unfold State.recordFault
  repeat' (first
    | with_reducible first
      | assumption | apply State.incSat_keeps | apply State.pendVec_keeps | apply State.set_keeps | apply State.setReg_keeps
      | refine foldl_keeps ?_ ?_ | refine ite_keeps ?_ ?_ | refine pite_keeps ?_ ?_ | exact none_okeeps | apply some_okeeps
      | refine oite_keeps ?_ ?_ | refine getD_keeps ?_ ?_ | refine omap_keeps ?_ ?_ | apply id_keeps
    | intro _ _ _
    | intro _ _
    | split
    | with_reducible first
      | refine pair_keeps ?_ (by assumption) | refine pair_keeps2 ?_ (by assumption)
      | refine opt_keeps ?_ (by assumption)
    | dsimp only
    | fail_if_no_progress with_reducible apply mk_keeps)

theorem State.takeStg_keeps {b0 : State} (s : State) (w : SWrite) (hs : Keeps b0 s) :
    Keeps b0 (State.takeStg s w) := by
  unfold State.takeStg
  repeat' (first
    | with_reducible first
      | assumption | apply State.captureStg_keeps | apply State.endXfer_keeps | apply State.lostXfer_keeps
      | refine foldl_keeps ?_ ?_ | refine ite_keeps ?_ ?_ | refine pite_keeps ?_ ?_ | exact none_okeeps | apply some_okeeps
      | refine oite_keeps ?_ ?_ | refine getD_keeps ?_ ?_ | refine omap_keeps ?_ ?_ | apply id_keeps
    | intro _ _ _
    | intro _ _
    | split
    | with_reducible first
      | refine pair_keeps ?_ (by assumption) | refine pair_keeps2 ?_ (by assumption)
      | refine opt_keeps ?_ (by assumption)
    | dsimp only
    | fail_if_no_progress with_reducible apply mk_keeps)

theorem State.stgCaptures_keeps {b0 : State} (s : State) (hs : Keeps b0 s) :
    Keeps b0 (State.stgCaptures s) := by
  unfold State.stgCaptures
  repeat' (first
    | with_reducible first
      | assumption | apply State.takeStg_keeps | refine foldl_keeps ?_ ?_ | refine ite_keeps ?_ ?_ | refine pite_keeps ?_ ?_
      | exact none_okeeps | apply some_okeeps | refine oite_keeps ?_ ?_ | refine getD_keeps ?_ ?_ | refine omap_keeps ?_ ?_
      | apply id_keeps
    | intro _ _ _
    | intro _ _
    | split
    | with_reducible first
      | refine pair_keeps ?_ (by assumption) | refine pair_keeps2 ?_ (by assumption)
      | refine opt_keeps ?_ (by assumption)
    | dsimp only
    | fail_if_no_progress with_reducible apply mk_keeps)

theorem State.wdtDown_keeps {b0 : State} (s : State) (n : ℕ) (hs : Keeps b0 s) :
    Keeps b0 (State.wdtDown s n) := by
  unfold State.wdtDown
  repeat' (first
    | with_reducible first
      | assumption | apply State.set_keeps | refine foldl_keeps ?_ ?_ | refine ite_keeps ?_ ?_ | refine pite_keeps ?_ ?_
      | exact none_okeeps | apply some_okeeps | refine oite_keeps ?_ ?_ | refine getD_keeps ?_ ?_ | refine omap_keeps ?_ ?_
      | apply id_keeps
    | intro _ _ _
    | intro _ _
    | split
    | with_reducible first
      | refine pair_keeps ?_ (by assumption) | refine pair_keeps2 ?_ (by assumption)
      | refine opt_keeps ?_ (by assumption)
    | dsimp only
    | fail_if_no_progress with_reducible apply mk_keeps)

theorem State.sysWdtDown_keeps {b0 : State} (s : State) (hs : Keeps b0 s) :
    Keeps b0 (State.sysWdtDown s) := by
  unfold State.sysWdtDown
  repeat' (first
    | with_reducible first
      | assumption | apply State.set_keeps | refine foldl_keeps ?_ ?_ | refine ite_keeps ?_ ?_ | refine pite_keeps ?_ ?_
      | exact none_okeeps | apply some_okeeps | refine oite_keeps ?_ ?_ | refine getD_keeps ?_ ?_ | refine omap_keeps ?_ ?_
      | apply id_keeps
    | intro _ _ _
    | intro _ _
    | split
    | with_reducible first
      | refine pair_keeps ?_ (by assumption) | refine pair_keeps2 ?_ (by assumption)
      | refine opt_keeps ?_ (by assumption)
    | dsimp only
    | fail_if_no_progress with_reducible apply mk_keeps)

theorem State.wdtBoundary_keeps {b0 : State} (s : State) (hs : Keeps b0 s) :
    Keeps b0 (State.wdtBoundary s) := by
  unfold State.wdtBoundary
  repeat' (first
    | with_reducible first
      | assumption | apply State.sysWdtDown_keeps | apply State.wdtDown_keeps | refine foldl_keeps ?_ ?_
      | refine ite_keeps ?_ ?_ | refine pite_keeps ?_ ?_ | exact none_okeeps | apply some_okeeps | refine oite_keeps ?_ ?_
      | refine getD_keeps ?_ ?_ | refine omap_keeps ?_ ?_ | apply id_keeps
    | intro _ _ _
    | intro _ _
    | split
    | with_reducible first
      | refine pair_keeps ?_ (by assumption) | refine pair_keeps2 ?_ (by assumption)
      | refine opt_keeps ?_ (by assumption)
    | dsimp only
    | fail_if_no_progress with_reducible apply mk_keeps)

theorem State.wdtCount_keeps {b0 : State} (s : State) (tb : ℕ) (hs : Keeps b0 s) :
    Keeps b0 (State.wdtCount s tb) := by
  unfold State.wdtCount
  repeat' (first
    | with_reducible first
      | assumption | apply State.wdtBoundary_keeps | refine foldl_keeps ?_ ?_ | refine ite_keeps ?_ ?_ | refine pite_keeps ?_ ?_
      | exact none_okeeps | apply some_okeeps | refine oite_keeps ?_ ?_ | refine getD_keeps ?_ ?_ | refine omap_keeps ?_ ?_
      | apply id_keeps
    | intro _ _ _
    | intro _ _
    | split
    | with_reducible first
      | refine pair_keeps ?_ (by assumption) | refine pair_keeps2 ?_ (by assumption)
      | refine opt_keeps ?_ (by assumption)
    | dsimp only
    | fail_if_no_progress with_reducible apply mk_keeps)

theorem State.tick_keeps (s : State) : Keeps { s with tb := s.tb + s.tickLen } s.tick :=
  settle_keeps _ _ (State.frostEntry_keeps _ (State.zeroArrivals_keeps _ (State.stgCaptures_keeps _ (State.wdtCount_keeps _ _ (Keeps.refl _)))))

end Sys2Proof.Machine
end

