-- ==== Sys2Proof/WellFormed.lean ====
section
/-!
DEFINITION. Which commands are well-formed. The table gives several rows to one register (a write that starts and a write that
stops, the targets of one mode request): the word of such a command must be one that its row names. An ill-formed command is
still an access, and has the effect of the write it is; the check says only that its row does not name it.
-/

namespace Sys2Proof

open Machine

/-- Does the row of the command name these operands? -/
def Instr.wf : Instr → Bool
  | .swTrig _ _ w => getBits w FAB_CTL.sw_trig == 1
  | .moderationExpiry e i => decide (256 ≤ e.val) || decide (i.val < 32)
  | .licSwpWrite _ e hiWord _ => !hiWord || decide (256 ≤ e.val)
  | .newtRunStart _ _ w => getBits w ENG_CTRL.run == 1
  | .newtRunStop _ _ w => getBits w ENG_CTRL.run == 0
  | .cacheInvalidate _ w => getBits w SK_CACHE_OP.op == 0
  | .cacheClean _ w => getBits w SK_CACHE_OP.op == 1
  | .cacheCleanInvalidate _ w => getBits w SK_CACHE_OP.op == 2
  | .swSync _ _ w => getBits w SL_CTRL.sw_sync == 1
  | .swStart _ _ w => getBits w SL_CTRL.sw_start == 1
  | .trippedWrite _ _ w => getBits w TZ_STATUS.tripped == 1
  | .safeRelease _ w _ => getBits w SAFE_CTRL.release == 1
  | .tripClr _ w => getBits w SAFE_CTRL.trip_clr == 1
  | .cgArm _ _ w => getBits w CG_ARM.arm == 1
  | .cgCancel _ _ w => getBits w CG_ARM.cancel == 1
  | .stagedWrite _ a _ => a.toNat % 4 == 0
  | .queueEnable _ _ w => getBits w QD_CFG.en == 1
  | .queueDisable _ _ w => getBits w QD_CFG.en == 0
  | .dmaStart _ _ w => getBits w DMA_CTRL.start == 1
  | .dmaAbort _ _ w => getBits w DMA_CTRL.abort == 1
  | .frEnum _ _ w => getBits w FR_CTRL.enum == 1
  | .frKick _ _ w => getBits w FR_CTRL.kick == 1
  | .swlClaim _ w => getBits w SWL_OWN.claim == 1
  | .swlYield _ w => getBits w SWL_OWN.yield == 1
  | .swlHandoff _ w => getBits w SWL_OWN.handoff == 1
  | .xspiCommand _ _ w => getBits w XSPI_CCTL.go == 1
  | .i2cGo _ _ w => getBits w I2C_CMD.go == 1
  | .csEnd _ _ w => getBits w SPI_CTRL.cs_end == 1
  | .canRxFrame _ f _ _ => f.length == 20
  | .canRxpop _ _ w => getBits w CAN_RXPOP.pop == 1
  | .canRecover _ _ w => getBits w CAN_CTRL.recover == 1
  | .islRst _ w => getBits w ISL_RST.go == 1
  | .blkRst _ w => getBits w BLK_RST.go == 1
  | .modeReqLull _ w => getBits w MODE_REQ.target == 7
  | .modeReqWatch _ w => getBits w MODE_REQ.target == 8
  | .modeReqRun _ w => getBits w MODE_REQ.target == 4
  | .modeReqFrost _ w => getBits w MODE_REQ.target == 9
  | .modeReqTripped _ w => getBits w MODE_REQ.target == 11
  | .sk1Run _ w => getBits w SK_RUN.sk1_run == 1
  | .nvmWriteCmd _ w => getBits w NVM_CMD.go == 1
  | .otpProgram _ w => getBits w OTP_PCMD.go == 1
  | .relock _ w => getBits w DBG_CTRL.relock == 1
  | .scrubVisit _ a _ => a.toNat % 4 == 0
  | .nvmScrubVisit a _ => a.toNat % 4 == 0
  | .lockstepSwitch _ w => getBits w LOCKSTEP.switch == 1
  | .regrowReportFailure _ _ w => getBits w REGROW_CMD.go == 1 && getBits w REGROW_CMD.op == 1
  | .selfTest _ _ w => getBits w REGROW_CMD.go == 1 && getBits w REGROW_CMD.op == 2
  | .registerWrite _ a _ => a.toNat % 4 == 0
  | .clutchClkWrite _ _ _ | .clutchRelockDone _ | .handshakeFifoDelivery _ _ | .accessErrorResponse _ _ _ _
  | .pllLock | .lowWordRead _ _ | .sessionIncrement | .tbmarkFire _ | .timebaseJoin _ _ | .refCfgWrite _ _
  | .vrefSettled _ | .sgTriggerTick _ | .samplingInstant _ | .conversionDone _ _ | .feedWrite _ _ | .lpBusyEnd _
  | .convFifoPop _ _ | .sdDataResult _ _ | .sdFastLevelChange _ _ | .sdStuck _ _ | .wmOutputChange _ _ _
  | .wmThrWrite _ _ _ | .wmEnableSettled _ _ _ | .bwMaxLenExpiry _ | .fabricActivation _ | .ld _ | .st _ | .add _
  | .sub _ | .cmp _ | .and_ _ | .or_ _ | .xor _ | .shl _ | .shr _ | .asr _ | .mul _ | .mulu _ | .mac _ | .macs _
  | .div _ | .divu _ | .rem _ | .abs _ | .neg _ | .sat _ | .clamp _ | .fadd _ | .fsub _ | .fmul _ | .fmac _ | .fdiv _
  | .fsqrt _ | .fmin _ | .fmax _ | .fcmp _ | .fcvtI2f _ | .fcvtU2f _ | .fcvtF2i _ | .fcvtF2u _ | .ldrsv _ | .stcnd _
  | .reservationExpiry _ | .ldx _ | .ldy _ | .stx _ | .sty _ | .addx _ | .addy _ | .modx _ | .mody _ | .mov _
  | .bmov _ | .br _ | .bz _ | .bnz _ | .bn _ | .bp _ | .bc _ | .bv _ | .call _ | .ret _ | .loop _ | .waitev _
  | .waitevWake _ | .sigev _ | .qput _ | .qget _ | .qpeek _ | .qcount _ | .queueResponse _ | .commit _ | .snap _
  | .fence _ | .fenceComplete _ | .isync _ | .gate _ | .gret _ | .eret _ | .tbrd _ | .ctmode _ | .trap _ | .bkpt _
  | .interruptEntry _ | .asyncExceptionEntry _ | .routeCfgWrite _ _ _ | .routerSourceChange _ | .farLoadResponse _
  | .farStoreDrain _ | .impreciseStoreFault _ | .wdtKick _ _ _ | .wdtExpiry _ | .cacheLineFill _
  | .sliceWriteCapture _ | .sliceZero _ | .slicePeriod _ | .compareMatch _ _ | .edgeListEntry _ _ _ | .sliceSync _
  | .sliceStart _ | .sliceRunStart _ | .sliceStop _ | .fineDelayRecal | .tripStateSet _ | .tripinChange _ _ _
  | .safenLow | .capture _ | .capLoRead _ _ | .armRequestArrival _ | .ccRselWrite _ _ _ | .ccSrdRead _
  | .commitApply _ | .pageRefreshDone _ _ | .sharedCommitMessage _ _ _ | .sharedCommitAbsent _ | .snapshot _
  | .snapshotComplete _ | .portPutWord _ _ _ _ | .portPutAppend _ _ _ | .portGet _ _ | .portPeek _ _ | .portCount _ _
  | .portPutTimeout _ | .qmInitDone | .dmaTdFetch _ | .dmaBurstGrant | .dmaReadResponse _ | .dmaCompletion _
  | .dmaLateError _ | .frLockGained _ | .frLockLost _ | .frFaultReceived _ _ | .frEnumReturn _ _ _ | .frEnumTimeout _
  | .frCommandStart _ | .frFrameReceived _ _ | .frTimeout _ | .frCycleStart _ | .frPollDue _ _ | .frPollTrigger _
  | .swlTrainStart _ | .swlBlockLock _ _ _ | .swlLinkFail _ _ | .swlIdent _ _ _ | .swlRdreq _ _ | .swlWrreq _ _
  | .swlRdrsp _ _ | .swlWrack _ _ _ | .swlErrrsp _ _ | .swlQrec _ _ | .swlHb _ _ _ | .swlRrst _ _ | .swlCrd _ _
  | .swlEvtBlock _ _ _ _ | .swlImportFire _ _ | .swlRequestTimeout | .tsyncExchange _ _ | .hbSend | .partnerLost
  | .holdoverExpiry | .tbsyncLost | .masterLost | .ownerSense _ | .noOwnerTimeout | .handoffTick | .swlRrstSend _ _
  | .qfwdSend _ | .qfwdResend _ | .macTxFrame _ _ _ | .macRxFrame _ _ _ _ _ | .xspiCommandDone _ _
  | .i2cTransactionDone _ _ | .i2cTimeout _ | .i2cAddressed _ _ _ _ _ | .dataPush _ _ _ | .dataPop _ _ | .spiWordDone _ _
  | .uartRxChar _ _ _ _ | .uartTxChar _ | .canTxFrame _ _ _ _ | .canTxreq _ _ _ | .canTxabort _ _ _ | .canBusOff _
  | .gpioInputChange _ _ | .gpioOutputAction _ | .bypass | .idcode | .samplePreload _ | .extest | .highz
  | .debugHalt _ | .debugResume | .crossTrigger _ | .powerOn _ _ _ | .brownOut _ _ | .thermalShutdown | .resetnLow _ _
  | .refclkLoss _ | .swRst _ _ | .debugReset | .resetEnd _ _ _ _ _ | .trimLoadDone | .calLoadDone | .pllLockedAll
  | .islandRelease | .memoryInitDone _ | .blockReady _ _ | .islIdleDone _ | .frostEntryComplete | .wake _
  | .thermReading _ | .boot | .nvmPulseDone | .otpProgramDone | .debugUnlock _ _ | .pairFailure _ _ | .sysWdtKick _ _
  | .sysWdtExpiry | .newtFailure _ _ | .regrowDrainDone _ | .regrowCopyDone _ | .selfTestDone _ _
  | .blockLockLost _ _ | .railGood _ _ | .refclkReturn _ | .thermalShutdownRelease | .frCfgEnWrite _ _ _
  | .swlCfgEnWrite _ _ _ | .jtagClamp | .ethernetLinkChange _ _ | .busOffRecoveryDone _ | .i2cStopSeen _ _ _ => true

end Sys2Proof
end

