-- ==== Sys2Proof/Tests/Slice0.lean ====
section
/-!
SUPPORT. Tests: for every clause of every statement a state and operands that meet its hypotheses, and what one step of them answers
(the rule is the one the statement's docstring names); and for every check of a well-formed command a command that it refuses.
-/

namespace Sys2Proof.Tests

open Sys2Proof Sys2Proof.Machine

set_option Elab.async false

/-- Does the command answer a next state with the property? -/
def after (c : Instr) (s : State) (p : State → Bool) : Bool :=
  match exec c s with
  | .next t => p t
  | _ => false

/-- The RUN mode a millisecond after power-on: every island is released, every function READY (the words from 0x40F00100 on), every PLL
locked (TB_STATUS), MODE shows 4, both loads are done (LOAD_STATUS), the queue manager is READY (QM_STATUS). -/
def up : State := { State.reset with
  tb := 1000000, mode := .run, time := { startup := false }, rst := { best := 1, step := 28 }
  regs := [(0x40000008, 0x20), (0x40F00040, 4), (0x40F00050, 0xC0000000)] ++
    (List.range 22).map (fun w => (0x40F00100 + 4 * w, 0xFFFFFFFF#32)) ++ [(0x40F00158, 0x03FFFFFF), (0x51100000, 0x80000000)] }

/-- A Newt's access of ring 0, and one of ring 3. -/
def q0 : Req := .newt 0

/-- The access was acknowledged; it was refused. -/
def acked (q : Req) (t : State) : Bool := t.respOf q == { err := false, val := 0 }
def refused (q : Req) (t : State) : Bool := t.respOf q == { err := true, val := 0 }

/-! ### Time, islands, the timebase (chapters 01 and 02) -/

theorem test_StepIsFrontCommand : { up with pending := [.pllLock] }.pending = Instr.pllLock :: [] := rfl
theorem test_IdleStepAdvancesTime : up.pending = [] ∧ up.tick.tb = 1000001 ∧ up.tick.pending = [] := by decide +kernel
theorem test_ResetState : State.reset.Canonical ∧ State.reset.alive islAON = true ∧ State.reset.alive islSYS = false := by
  refine ⟨⟨?_, ?_⟩, ?_⟩ <;> decide +kernel
theorem test_EveryStepKeepsCanonical : up.Canonical ∧ step up = .next up.tick := ⟨⟨by decide +kernel, by decide +kernel⟩, rfl⟩
theorem test_OnlyPorReturnsTb :
    let s : State := { up with mode := .reset, rst := { active := true, por := true, quiet := 900000 } }
    s.rst.por = true ∧ after (.resetEnd 1 3 0x2A true false) s (fun t => t.tb == 0 && t.mode == .bringup) = true := by decide +kernel
/-- R460, R529: a reset 640 ns after its last cause ends; after a POR the straps and VIO banks are sampled anew, after a SYS reset not. -/
theorem test_ResetEnd :
    let s (por : Bool) : State := { up with mode := .reset, rst := { active := true, por := por, quiet := 999360, vio := 1 } }
    (s true).rst.causes = [] ∧ (s true).rst.quiet + 640 ≤ (s true).tb ∧ (s true).nvm.pulse = none ∧
      after (.resetEnd 1 3 0x2A false true) (s true) (fun t => t.rst.crystal && !t.rst.refLost) = true ∧
      after (.resetEnd 1 3 0x2A true false) (s true) (fun t => t.tb == 0 && t.rst.vio == 0x3A && !t.rst.crystal && t.get aSWL_DEV SWL_DEV.devaddr == 3 && t.get aMODE MODE.strap == 1) = true ∧
      after (.resetEnd 1 3 0x2A true false) (s false) (fun t => t.tb == 1000000 && t.rst.vio == 1 && t.get aSWL_DEV SWL_DEV.devaddr == 0 && t.get aMODE MODE.strap == 1 &&
        t.mode == .bringup && t.alive islAON) = true := by decide +kernel
theorem test_TbContinuesAtLock :
    let s := up.set aTB_STATUS TB_STATUS.pll_locked 0
    s.pllRuns = true ∧ s.locked = false ∧ s.tickLen = 40 ∧
      after .pllLock s (fun t => t.locked && t.tb == 1000000 && t.tickLen == 1) = true := by decide +kernel
theorem test_Clutch_1 :
    up.waits q0 (islCLU 3) = false ∧ up.admits q0 (islCLU 3) = true ∧ coreOrDebug q0 = true ∧ up.ringOf q0 = 0 ∧
      getBits 0x28#32 CLUTCH_CLK.freq_code ≤ 0x28 ∧ after (.clutchClkWrite q0 3 0x28) up
        (fun t => t.relocking 3 && t.get (aCLUTCH_CLK 3) CLUTCH_CLK.freq_code == 0x28 && acked q0 t) = true := by decide +kernel
theorem test_Clutch_2 :
    0x28 < getBits 0x29#32 CLUTCH_CLK.freq_code ∧
      after (.clutchClkWrite q0 3 0x29) up (fun t => !t.relocking 3 && acked q0 t) = true := by decide +kernel
theorem test_Clutch_3 :
    let s := up.set (aENG_S 0) ENG_S.ring 1
    s.waits q0 (islCLU 3) = false ∧ 0 < s.ringOf q0 ∧ after (.clutchClkWrite q0 3 5) s (fun t => refused q0 t) = true ∧
      up.waits (.dma 2) (islCLU 3) = false ∧ coreOrDebug (.dma 2) = false ∧
      after (.clutchClkWrite (.dma 2) 3 5) up (fun t => refused (.dma 2) t) = true := by decide +kernel
theorem test_Clutch_waits :
    let s := up.set (aCLUTCH_CLK 3) CLUTCH_CLK.relocking 1
    s.admits q0 (islCLU 3) = true ∧ s.waits q0 (islCLU 3) = true ∧ after (.clutchClkWrite q0 3 5) s
      (fun t => (t.fifo 10 13).map (fun x => x.st.data) == [5] && t.get (aCLUTCH_CLK 3) CLUTCH_CLK.freq_code == 16) = true := by
  decide +kernel
theorem test_Clutch_4 :
    let s := up.set (aCLUTCH_CLK 3) CLUTCH_CLK.relocking 1
    s.relocking 3 = true ∧ s.cc.relockWords = [] ∧ s.cc.relockPages = [] ∧ s.mode ≠ .watch ∧
      after (.clutchRelockDone 3) s (fun t => !t.relocking 3) = true := by decide +kernel
/-- A far store of engine 0 on its way to system SRAM. -/
def farX (a : Nat) : Xfer := { eng := 0, st := { kind := .far, addr := a, data := 0xCAFE, size := 0, ring := 0 }, cg := 0 }
/-- Every island takes an access of the running machine at once. -/
theorem test_Reaches : ∀ i : Fin 26, up.admits q0 i = true ∧ up.waits q0 i = false := by decide +kernel
theorem test_Crossing :
    let s := { up with fifos := [(26 * 10 + 1, [farX 0x10000000])], engs := [(0, { acks := 1 })] }
    s.fifo 10 1 = [farX 0x10000000] ∧ s.reach islSYS = true ∧
      after (.handshakeFifoDelivery 10 1) s
        (fun t => t.fifo 10 1 == [] && t.word 0x10000000 == 0xCAFE && (t.eng 0).acks == 0) = true ∧ s.initAt 0x10000000 = false := by decide +kernel
theorem test_AccessError :
    up.noAccess q0 0x30000000 = true ∧ after (.accessErrorResponse q0 true 0x30000000 1) up (refused q0) = true := by decide +kernel
theorem test_RegisterWrites_1 :
    (0x40F0040C#32).toNat ∈ [aECC_DEV, aECC_CFG] ∧ up.admits q0 (up.islandOf 0x40F0040C) = true ∧ up.ringOf q0 = 0 ∧
      after (.registerWrite q0 0x40F0040C 0x20001234) up (fun t => t.reg aECC_CFG == 0x20001234 && acked q0 t) = true := by decide +kernel
theorem test_RegisterWrites_2 :
    let s := up.set (aENG_S 0) ENG_S.ring 2
    1 < s.ringOf q0 ∧ after (.registerWrite q0 0x40F0080C 0) s (refused q0) = true := by decide +kernel
theorem test_RegisterWrites_3 :
    let s := { (up.set aSYS_WDT_STATUS SYS_WDT_STATUS.pre_expiry 1).set aSYS_WDT_STATUS SYS_WDT_STATUS.bad_kick 1 with cyc := {} }
    s.admits q0 (s.islandOf aSYS_WDT_STATUS) = true ∧ s.hwNow aSYS_WDT_STATUS = 0 ∧ after (.registerWrite q0 0x40F00438 0x40000007) s
      (fun t => t.on aSYS_WDT_STATUS SYS_WDT_STATUS.pre_expiry && !t.on aSYS_WDT_STATUS SYS_WDT_STATUS.bad_kick &&
        t.get aSYS_WDT_STATUS SYS_WDT_STATUS.remaining == 1000000) = true := by decide +kernel
theorem test_RegisterWrites_hw :
    let s := up.set aSYS_WDT_STATUS SYS_WDT_STATUS.bad_kick 1
    getBits (s.hwNow aSYS_WDT_STATUS) SYS_WDT_STATUS.bad_kick = 1 ∧ after (.registerWrite q0 0x40F00438 0x40000000) s
      (fun t => t.on aSYS_WDT_STATUS SYS_WDT_STATUS.bad_kick) = true := by decide +kernel
theorem test_RegisterWrites_4 :
    (0x107FFFFC#32).toNat % 4 = 0 ∧ up.admits q0 islSYS = true ∧ up.initAt 0x107FFFFC = false ∧
      after (.registerWrite q0 0x107FFFFC 0x01020304) up (fun t => t.word 0x107FFFFC == 0x01020304 && t.byte 0x107FFFFC == 4 && acked q0 t) = true := by
  decide +kernel
theorem test_RegisterWrites_5 :
    inWindow 0x22000000 = false ∧ up.target 0x22000000 = none ∧ after (.registerWrite q0 0x22000000 1) up (refused q0) = true ∧
      after (.registerWrite q0 0x10000002 1) up (refused q0) = true := by decide +kernel
theorem test_Timebase_1 :
    let s := up.set aTB_STATUS TB_STATUS.pll_locked 0
    s.pllRuns = true ∧ s.locked = false ∧ after .pllLock { s with time := { startup := false, refclk := true } }
      (fun t => t.on aTB_STATUS TB_STATUS.cause_refclk && t.on aTB_STATUS TB_STATUS.tb_lossy && !t.on aTB_STATUS TB_STATUS.cause_sys) = true := by
  decide +kernel
theorem test_Timebase_2 :
    let s := { up with regs := [], rst := { best := 1, step := 2 } }
    s.pllRuns = true ∧ s.locked = false ∧ after .pllLockedAll s (fun t => t.isReady 21 11 && t.isReady 21 12 && t.locked) = true := by
  decide +kernel
theorem test_Timebase_3 :
    up.alive islAON = true ∧ up.commitOwed 999424 = false ∧
    let s := ((up.set (aTBMARK_CFG 3) TBMARK_CFG.en 1).set (aTBMARK_CFG 3) TBMARK_CFG.k 10).set (aFAB_SEL 7) FAB_SEL.prod_sel 2035
    s.on (aTBMARK_CFG 3) TBMARK_CFG.en = true ∧
      s.markTick (s.get (aTBMARK_CFG 3) TBMARK_CFG.k) (sget 0 s.time.markSeen 3) = some 999424 ∧
      after (.tbmarkFire 3) s (fun t => t.fab.edges == [{ input := 7, tick := 999424, producer := 2035 }]) = true := by
  decide +kernel
/-- A follower whose parent port is up and that 16 exchanges have shown to be 500 ns behind. -/
def follower : State :=
  let s := ((up.set aSWL_TM SWL_TM.tm_en 1).set aSWL_TM SWL_TM.master 1).set (aSWL_STATUS 0) SWL_STATUS.state 4
  { s with swl := { s.swl with offs := List.replicate 16 64000 } }
theorem test_Timebase_4 :
    follower.on aSWL_TM SWL_TM.tm_en = true ∧ follower.isMaster = false ∧ follower.swlUp follower.parentPort = true ∧
      16 ≤ follower.swl.offs.length ∧ follower.tb < follower.joinTb (1000400#64).toNat ∧ after (.timebaseJoin 1000400 true) follower
        (fun t => t.tb == 1000500 && t.reg aTB_STEP == 500 && t.on aSWL_TMSTAT SWL_TMSTAT.joined) = true := by decide +kernel
theorem test_Timebase_5 :
    let s (d : Int) : State := { follower with swl := { follower.swl with offs := List.replicate 16 d } }
    (s (-128)).joinTb (1000000#64).toNat < (s (-128)).tb ∧ after (.timebaseJoin 1000000 true) (s (-128))
      (fun t => t.on aTB_STATUS TB_STATUS.tb_ahead && !t.on aSWL_TMSTAT SWL_TMSTAT.joined && t.tb == 1000000) = true ∧
    (s 127).joinTb (1000000#64).toNat = (s 127).tb ∧ after (.timebaseJoin 1000000 true) (s 127)
      (fun t => t.on aSWL_TMSTAT SWL_TMSTAT.joined && t.tb == 1000000) = true ∧
    after (.timebaseJoin 1000400 false) follower (fun t => !t.on aSWL_TMSTAT SWL_TMSTAT.joined && t.tb == 1000000) = true := by decide +kernel
/-- The session area holds the same four bytes in both copies, the lowest `b` and the others 0xFF. -/
def sess (b : Byte) : State :=
  { up with mem := [0, 4].flatMap (fun o => [(0x100000 + o, b), (0x100001 + o, 0xFF), (0x100002 + o, 0xFF), (0x100003 + o, 0xFF)]) }
theorem test_Session_1 :
    let s := sess 0xFF
    s.alive islSYS = true ∧ s.nvm.sessDone = false ∧ s.nvm.pulse = none ∧ s.mode ≠ .frost ∧ s.nvm.sess = none ∧
      s.noteAll 0x100000 2 = s ∧ s.sessCopy = some 0xFFFFFFFF ∧
      after .sessionIncrement s (fun t => t.sessionWord == 0xFFFFFFFF && t.on aTB_STATUS TB_STATUS.session_full) = true := by decide +kernel
theorem test_Session_2 :
    (sess 0xFE).sessCopy = some 0xFFFFFFFE ∧ (sess 0xFE).noteAll 0x100000 2 = sess 0xFE ∧ after .sessionIncrement (sess 0xFE)
      (fun t => t.sessionWord == 0xFFFFFFFE && t.nvm.pulse == some { addr := 0x100000, data := 0xFFFFFFFF, start := 1000000 } &&
        !t.on aTB_STATUS TB_STATUS.session_valid) = true := by
  decide +kernel
theorem test_Session_3 :
    let s := { up with nvm := { sess := some 8 } }
    s.nvm.sessDone = false ∧ s.nvm.pulse = none ∧ s.nvm.sess = some 8 ∧ after .sessionIncrement s
      (fun t => t.nvm.pulse == some { addr := 0x100004, data := 8, start := 1000000 } && t.on aNVM_STATUS NVM_STATUS.busy) = true := by
  decide +kernel
theorem test_Session_4 :
    let p : Pulse := { addr := 0x100004, data := 8, start := 998800 }
    let s := { up with nvm := { sess := some 8, pulse := some p } }
    s.nvm.pulse = some p ∧ s.nvm.sess = some 8 ∧ p.start + 1200 ≤ s.tb ∧ p.addr = 0x100004 ∧ after .nvmPulseDone s
      (fun t => t.sessionWord == 8 && t.on aTB_STATUS TB_STATUS.session_valid && t.nvm.pulse == none) = true := by
  decide +kernel
theorem test_TwoWordReads_1 :
    let s := { up with tb := 0x500000007 }
    s.admits q0 (ctrIsl .tb) = true ∧ s.ringOf q0 ≤ 3 ∧ s.paired .tb = true ∧
      after (.lowWordRead q0 .tb) s (fun t => t.respOf q0 == { err := false, val := 7 } && t.shadow aTB_HI q0 == 5 && t.shadow aTB_HI (.newt 1) == 0) = true := by
  decide +kernel
theorem test_TwoWordReads_2 :
    let s := ((up.setReg (aCAP_LO 31) 9).setReg (aCAP_HI 31) 8).set (aCAP_STATUS 31) CAP_STATUS.unread 1
    s.admits q0 (islTIM 3) = true ∧ s.ringOf q0 ≤ 3 ∧ s.capOld 31 = none ∧
      after (.capLoRead q0 31) s (fun t => t.respOf q0 == { err := false, val := 9 } && t.shadow (aCAP_HI 31) q0 == 8 &&
        !t.on (aCAP_STATUS 31) CAP_STATUS.unread) = true := by decide +kernel
theorem test_TwoWordReads_3 :
    let x : CapOld := { tick := 1000000, lo := 5, hi := 6, ovr := false }
    let s := (((up.setReg (aCAP_LO 31) 9).setReg (aCAP_HI 31) 8).set (aCAP_STATUS 31) CAP_STATUS.unread 1)
    let s := { s with trip := { caps := [(31, some x)] } }
    s.admits q0 (islTIM 3) = true ∧ s.ringOf q0 ≤ 3 ∧ s.capOld 31 = some x ∧ after (.capLoRead q0 31) s
      (fun t => t.respOf q0 == { err := false, val := 5 } && t.shadow (aCAP_HI 31) q0 == 6 && t.on (aCAP_STATUS 31) CAP_STATUS.unread) = true := by
  decide +kernel
/-! ### Conversion, monitors, the fabric (chapters 03 to 05) -/

theorem test_ConversionValue_1 : convValue 0 5#16 16 0 65536 65536 = (4, false) := by decide +kernel
theorem test_ConversionValue_2 : convValue 3 0x8000#16 0 0 65536 65536 = (-32768, true) := by decide +kernel
theorem test_RefCfg :
    let s := up.set aREF_CFG REF_CFG.int_en 0
    s.admits q0 islANA = true ∧ s.ringOf q0 ≤ 3 ∧ s.hwNow aREF_CFG = 0 ∧ after (.refCfgWrite q0 (BitVec.ofNat 32 (2 ^ REF_CFG.int_en.lo * 2))) s
      (fun t => !t.isReady 8 8 && !t.isReady 21 17 && t.isReady 8 7 && acked q0 t) = true := by decide +kernel
theorem test_VrefSettled :
    let s := up.setReady 21 16 false
    s.alive islANA = true ∧ s.isReady 21 16 = false ∧ s.trimBad 21 16 = false ∧ s.anaUsable 8 7 = true ∧
      after (.vrefSettled 0) s (fun t => t.isReady 21 16) = true := by decide +kernel
/-- A trigger's edge that arrived at group 5. -/
def trigAct : Act := { input := 2085, take := 999990, src := 999986, arr := 999987 }
/-- Converter 3 is a member of sampling group 5, which is enabled, and a trigger has come. -/
def sampling : State :=
  let s := ((up.set (aCONV_SG 3) CONV_SG.member 1).set (aCONV_SG 3) CONV_SG.group 5).set (aCONV_CTRL 3) CONV_CTRL.en 1
  { ((s.set (aSG_CTRL 5) SG_CTRL.en 1).set (aSG_SEQ 5) SG_SEQ.next_seq 255).set (aSG_DELAY 5) SG_DELAY.delay 20 with
    fab := { acts := [trigAct] } }
theorem test_SgTrigger :
    sampling.actFor 2085 = some trigAct ∧ sampling.on (aSG_CTRL 5) SG_CTRL.en = true ∧ sampling.commitOwed 999990 = false ∧
      sampling.joins 2085 999987 = false ∧ (sampling.group 5).busyUntil ≤ 999990 ∧ sampling.lpBusyAt 3 999990 = false ∧
      after (.sgTriggerTick 5) sampling
        (fun t => t.get (aSG_SEQ 5) SG_SEQ.next_seq == 0 && t.get (aSG_STATUS 5) SG_STATUS.last_seq == 255 &&
          t.on (aCONV_STATUS 3) CONV_STATUS.busy) = true := by decide +kernel
theorem test_SgTrigger_overrun :
    let s := sampling.setGroup 5 { busyUntil := 999991 }
    s.actFor 2085 = some trigAct ∧ s.commitOwed 999990 = false ∧ s.joins 2085 999987 = false ∧ 999990 < (s.group 5).busyUntil ∧
      after (.sgTriggerTick 5) s (fun t => t.on (aSG_STATUS 5) SG_STATUS.ovr && t.on (aFAB_CTL 2085) FAB_CTL.ovr &&
        t.get (aSG_SEQ 5) SG_SEQ.next_seq == 255) = true := by decide +kernel
/-- What converter 3 has latched, sampling at 999,955. -/
def convn : Convn :=
  { seq := 7, mux := 0, lp := false, ou := 0, gu := 65536, feedEn := false, eng := 0, word := 0, group := 5, sample := 999955 }
theorem test_SamplingInstant :
    let x : Trig := { tick := 999900, sample := 1000000, seq := 7, members := [(3, convn)], sampled := false, waiting := [] }
    let s := up.setGroup 5 { trig := some x, busyUntil := 0 }
    (s.group 5).trig = some x ∧ x.sample ≤ s.tb ∧ (x.members.map (·.1)).Nodup ∧
      after (.samplingInstant 5) s (fun t => (t.conv 3).cur == some convn && t.reg (aSG_STAMP 5) == 1000000) = true := by decide +kernel
theorem test_LpBusyEnd :
    let s := up.setConv 3 { lpBusy := some 1000000 }
    (s.conv 3).lpBusy = some 1000000 ∧ after (.lpBusyEnd 3) s (fun t => (t.conv 3).lpBusy == none) = true := by decide +kernel
theorem test_ConversionDone :
    let s := (up.setConv 3 { cur := some convn }).set (aCONV_GF 3) CONV_GF.gf 65536
    (s.conv 3).cur = some convn ∧ convn.sample + 45 ≤ s.tb ∧ after (.conversionDone 3 100) s
      (fun t => t.reg (aCONV_MBOX 3) == 0x07120064 && (t.conv 3).fifo == [0x07120064] && (t.conv 3).cur == none) = true := by decide +kernel
theorem test_ConversionDone_full :
    let s := (up.setConv 3 { cur := some convn, fifo := List.replicate 32 9 }).set (aCONV_GF 3) CONV_GF.gf 65536
    32 ≤ (s.conv 3).fifo.length ∧ after (.conversionDone 3 100) s
      (fun t => t.on (aCONV_STATUS 3) CONV_STATUS.fifo_ovf && (t.conv 3).fifo == List.replicate 32 9) = true := by decide +kernel
/-- A feed write to the last word of Newt 17's operand store. -/
def feed : Feed := { eng := 17, word := 4095, val := 0x1234, ready := 1000000 }
theorem test_FeedWrite :
    let s := up.setConv 3 { feed := some feed }
    (s.conv 3).feed = some feed ∧ feed.ready ≤ s.tb ∧ s.reach (engIsl feed.eng) = true ∧ s.relocking (feed.eng / 16) = false ∧
      s.fifo islANA (engIsl feed.eng) = [] ∧ s.initAt (storeAddr feed.eng feed.word) = false ∧
      after (.feedWrite false 3) s (fun t => t.word 0x20213FFC == 0x1234) = true := by decide +kernel
theorem test_FeedWrite_waits :
    let s := (up.setConv 3 { feed := some feed }).set (aCLUTCH_CLK 1) CLUTCH_CLK.relocking 1
    s.relocking (feed.eng / 16) = true ∧ s.feedFull feed = false ∧ after (.feedWrite false 3) s
      (fun t => t.fifo islANA 11 == [feedXfer false 3 feed] && (t.conv 3).feed == none && t.word 0x20213FFC == 0) = true := by decide +kernel
theorem test_FeedWrite_sd :
    let s := up.setSdm 3 { feed := some feed }
    (s.sdm 3).feed = some feed ∧ s.fifo islANA (engIsl feed.eng) = [] ∧ after (.feedWrite true 3) s (fun t => t.word 0x20213FFC == 0x1234 && (t.sdm 3).feed == none) = true := by
  decide +kernel
theorem test_ConvFifoPop :
    let s := up.setConv 31 { fifo := [5, 6] }
    s.admits q0 islANA = true ∧ (s.conv 31).push = none ∧ (s.conv 31).fifo = 5 :: [6] ∧
      after (.convFifoPop q0 31) s (fun t => t.respOf q0 == { err := false, val := 5 } && (t.conv 31).fifo == [6]) = true := by decide +kernel
theorem test_ConvFifoPop_push :
    let p : Push := { tick := 1000000, word := 6, before := [5], ovf := false }
    let s := up.setConv 31 { fifo := [5, 6], push := some p }
    s.admits q0 islANA = true ∧ (s.conv 31).push = some p ∧ p.tick = s.tb ∧ p.before = 5 :: [] ∧
      after (.convFifoPop q0 31) s (fun t => t.respOf q0 == { err := false, val := 5 } && (t.conv 31).fifo == [6]) = true := by decide +kernel
theorem test_ConvFifoPop_empty :
    (up.conv 31).push = none ∧ (up.conv 31).fifo = [] ∧ after (.convFifoPop q0 31) up (fun t => acked q0 t && t.on (aCONV_STATUS 31) CONV_STATUS.fifo_unf) = true := by
  decide +kernel
/-- Sigma-delta input 2 runs. -/
def sdOn : State :=
  let s := ((up.set (aSD_CTRL 2) SD_CTRL.en 1).set (aSD_CTRL 2) SD_CTRL.osr 16).set (aSD_CTRL 2) SD_CTRL.shift 1
  ((s.set (aSDC_CFG 0) SDC_CFG.en 1).set (aSDC_CFG 0) SDC_CFG.div 50).set (aSD_FAST 2) SD_FAST.fast_en 1
theorem test_SdDataResult :
    let x : Sdm := { next := 999001, bits := List.replicate 47 false, n := 47, cnt := 47 }
    let s := sdOn.setSdm 2 x
    s.sdRuns 2 = true ∧ s.sdEdge 2 (s.sdm 2).next = 999050 ∧ s.sdEdge 2 (s.sdm 2).next + s.get (aSD_CTRL 2) SD_CTRL.skew ≤ s.tb ∧
      (s.setSdm 2 { x with next := 999051, bits := List.replicate 48 false, n := 48, cnt := 48 }).sdDue 2 = true ∧ s.mode ≠ .frost ∧
      after (.sdDataResult 2 [false]) s (fun t => t.reg (aSD_DATA 2) == BitVec.ofInt 32 (-2048) && (t.sdm 2).cnt == 0) = true := by
  decide +kernel
theorem test_SdFast :
    let s := ((sdOn.set (aSD_FAST 2) SD_FAST.fast_hi 15).set (aSD_FAST 2) SD_FAST.fosr 4).setSdm 2 { bits := List.replicate 6 true }
    s.sdRuns 2 = true ∧ s.on (aSD_FAST 2) SD_FAST.fast_en = true ∧ s.sdEdge 2 0 + s.get (aSD_CTRL 2) SD_CTRL.skew ≤ s.tb ∧ s.sdfH 2 = false ∧
      after (.sdFastLevelChange 2 [true]) s (fun t => t.sdfH 2 && !t.sdfL 2) = true := by decide +kernel
theorem test_SdStuck :
    let s := sdOn.setSdm 2 { lastBit := some true, same := 63 }
    s.sdRuns 2 = true ∧ s.sdEdge 2 (s.sdm 2).next + s.get (aSD_CTRL 2) SD_CTRL.skew ≤ s.tb ∧ (s.sdm 2).lastBit = some true ∧
      63 ≤ (s.sdm 2).same ∧
      after (.sdStuck 2 [true]) s (fun t => t.on (aSD_STATUS 2) SD_STATUS.stuck) = true ∧
      after (.sdStuck 2 [false]) s (fun t => !t.on (aSD_STATUS 2) SD_STATUS.stuck) = true := by decide +kernel
/-- 1.25 V at the ball, against a reference of 2.5 V; the code 0x700 lies below it. -/
def half : WmInput := { vin := 1250000, vref := 2500000, off := 0, hyst := 0 }
/-- The high comparator of input 95 is enabled and fires on a rise, which input 9 selects. -/
def wmOn : State :=
  (((up.set (aWM_CFG 95) WM_CFG.en_h 1).set (aWM_CFG 95) WM_CFG.edge_h 1).set (aFAB_SEL 9) FAB_SEL.prod_sel 702).set (aWM_THR 95)
    WM_THR.thr_h 0x700
theorem test_WmOutputChange :
    wmOn.wmEnabled (compIdx 95 false) = true ∧ wmOn.wmReady 95 = true ∧ (wmOn.comp (compIdx 95 false)).settle = none ∧
      wmOn.wmWithin 190 half = true ∧ wmOn.wmOut 190 half = true ∧ wmOn.wmEdge 190 true = true ∧ wmOn.wmBlanked 190 = false ∧
      wmOn.shortPulse 190 = false ∧ after (.wmOutputChange 95 false half) wmOn
        (fun t => t.wmLevel 190 && t.fab.edges == [{ input := 9, tick := 1000000, producer := 702 }]) = true ∧
      after (.wmOutputChange 95 false half) (wmOn.set (aWM_THR 95) WM_THR.thr_h 0x801) (fun t => !t.wmLevel 190) = true := by
  decide +kernel
theorem test_WmEnableSettled :
    let s := wmOn.setComp 190 { settle := some 1000000 }
    (s.comp (compIdx 95 false)).settle = some 1000000 ∧ s.wmEnabled (compIdx 95 false) = true ∧ s.wmReady 95 = true ∧
      s.wmWithin 190 half = true ∧
      after (.wmEnableSettled 95 false half) s (fun t => (t.comp 190).level && (t.comp 190).settle == none) = true := by decide +kernel
theorem test_WmThrWrite_direct :
    let s := up.set (aWM_CFG 0) WM_CFG.ld_imm 1
    s.admits q0 islAON = true ∧ s.on (aWM_CFG 0) WM_CFG.ld_imm = true ∧ s.hwNow (aWM_THR 0) = 0 ∧ after (.wmThrWrite q0 0 0x0ABC0123) s
      (fun t => t.reg (aWM_THR 0) == 0x0ABC0123 && acked q0 t) = true := by decide +kernel
/-- The group can stage the word. -/
theorem up_stages : up.StagesIn 0 (aWM_THR 0) := ⟨by decide +kernel, by decide +kernel, by decide +kernel⟩
theorem test_WmThrWrite_staged :
    up.on (aWM_CFG 0) WM_CFG.ld_imm = false ∧ up.rsel (reqNum q0) = 0 ∧ after (.wmThrWrite q0 0 0x0ABC0123) up
      (fun t => t.reg (aWM_THR 0) == up.reg (aWM_THR 0) && t.stagedAt (aWM_THR 0) == some { grp := 0, val := 0x0ABC0123 }) = true := by
  decide +kernel
theorem test_BwMaxLen :
    let s := (up.setWin 4 { openTick := some 999900 }).set (aBW_CFG 4) BW_CFG.max_len 100
    (s.win 4).openTick = some 999900 ∧ s.get (aBW_CFG 4) BW_CFG.max_len ≠ 0 ∧ 999900 + s.get (aBW_CFG 4) BW_CFG.max_len ≤ s.tb ∧
      after (.bwMaxLenExpiry 4) s (fun t => (t.win 4).openTick == none && t.on (aBW_STATUS 4) BW_STATUS.forced) = true := by decide +kernel
/-- An edge of producer 700 on its way to input `i`. -/
def edge (i : Nat) : Edge := { input := i, tick := 999999, producer := 700 }
def edged (i : Nat) : State := { up.set (aFAB_SEL i) FAB_SEL.prod_sel 700 with fab := { edges := [edge i] } }
theorem test_Activation :
    (edged 2079).edgeFor 2079 = some (edge 2079) ∧ (edged 2079).passes (edge 2079) = true ∧
      (edged 2079).takes 2079 = true ∧ (edged 2079).within 2079 2 = false ∧ (edged 2079).inputBusy 2079 = false ∧
      after (.fabricActivation 2079) (edged 2079)
        (fun t => t.bit (aEVF 257) 15 && t.get (aFAB_CTL 2079) FAB_CTL.act_cnt == 1 && t.fab.edges == []) = true := by decide +kernel
theorem test_Activation_merge :
    let s := { edged 8 with fab := { edges := [edge 8], last := [(8, some 999999)] } }
    s.edgeFor 8 = some (edge 8) ∧ s.passes (edge 8) = true ∧ s.takes 8 = true ∧ s.within 8 2 = true ∧
      after (.fabricActivation 8) s (fun t => t.on (aFAB_CTL 8) FAB_CTL.merge && !t.bit (aEVF 1) 0) = true := by decide +kernel
theorem test_Activation_overrun :
    let s := (edged 8).setBit (aEVF 1) 0 true
    s.edgeFor 8 = some (edge 8) ∧ s.passes (edge 8) = true ∧ s.takes 8 = true ∧ s.within 8 2 = false ∧
      s.inputBusy 8 = true ∧ after (.fabricActivation 8) s (fun t => t.on (aFAB_CTL 8) FAB_CTL.ovr) = true := by decide +kernel
theorem test_Activation_gated :
    let s := (edged 8).set (aFAB_SEL 8) FAB_SEL.gate_en 1
    s.edgeFor 8 = some (edge 8) ∧ s.passes (edge 8) = false ∧
      after (.fabricActivation 8) s (fun t => t.fab.edges == [] && !t.bit (aEVF 1) 0) = true := by decide +kernel
theorem test_Activation_trigger :
    (edged 2095).edgeFor 2095 = some (edge 2095) ∧ (edged 2095).passes (edge 2095) = true ∧ (edged 2095).takes 2095 = true ∧
      after (.fabricActivation 2095) (edged 2095)
        (fun t => t.fab.acts == [{ input := 2095, take := 1000003, src := 999999, arr := 1000000 }]) = true := by decide +kernel
theorem test_Activation_other :
    (edged 2200).edgeFor 2200 = some (edge 2200) ∧ (edged 2200).passes (edge 2200) = true ∧ (edged 2200).takes 2200 = true ∧
      (edged 2200).within 2200 2 = false ∧ (edged 2200).inputBusy 2200 = false ∧ after (.fabricActivation 2200) (edged 2200)
        (fun t => t.get (aFAB_CTL 2200) FAB_CTL.act_cnt == 1 && t.fab.acts.map (·.take) == [1000003]) = true := by decide +kernel
theorem test_SwTrig :
    let w := BitVec.ofNat 32 (2 ^ FAB_CTL.sw_trig.lo)
    up.admits q0 islAON = true ∧ up.ringOf q0 ≤ 3 ∧ getBits w FAB_CTL.sw_trig = 1 ∧ after (.swTrig q0 3071 w) up
      (fun t => t.fab.edges == [{ input := 3071, tick := 1000000, producer := 2046 }] && acked q0 t) = true := by decide +kernel
/-! ### Bundles (chapters 06 to 10) -/

/-- The engine stands at its PC with the words `ws` there, in bank A of a Newt. -/
def at_ (e : Nat) (ws : List Word) (x : Engine) : State :=
  ws.zipIdx.foldl (fun s p => s.putWord (bankAt e false + x.pc + 4 * p.2) p.1) ((up.set (aENG_STATUS e) ENG_STATUS.halted 0).setEng e x)

/-- What holds around a bundle that is to execute, as a computation. -/
def held (s : State) (e : Nat) (ws : List Word) (b : Bundle) : Bool :=
  (match decodeBundle (isNewt e) ws with
    | .ok x => x == b
    | .error _ => false) &&
  s.on (aENG_S e) ENG_S.resume == false && (s.eng e).resumePc == none && (s.eng e).halting == false && s.loopAt e true == false &&
  s.loopAt e false == false && (!isNewt e || s.on (aENG_STATUS e) ENG_STATUS.active_bank == s.on (aENG_CTRL e) ENG_CTRL.bank_sel) &&
  decide ((s.eng e).buf.length ≤ bufCap e)

def exe (s : State) (e : Nat) (ws : List Word) (b : Bundle) : Bool :=
  held s e ws b && s.mayRun e && s.ce == [] && (if (s.eng e).cur.isEmpty then isNewt e && s.fetchNewt e (s.eng e).pc == .words ws else (s.eng e).cur == ws)

/-- A state without correctable errors is as it was after any reads (R28). -/
theorem countCes_none {s : State} (h : s.ce = []) (e : Nat) (l : List Nat) : s.countCes e l = s := by
  induction l with
  | nil => rfl
  | cons a l ih => simpa [State.countCes, State.countCe, h] using ih

theorem beginCe_none {s : State} (h : s.ce = []) (e : Nat) (b : Bundle) (ws : List Word) : s.beginCe e b ws = s := by
  unfold State.beginCe
  split
  · exact countCes_none h _ _
  · split
    · exact countCes_none h _ _
    · rfl

theorem meetAll_none {s : State} (h : s.ce = []) (k : s.ue = []) (l : List Nat) : s.meetAll l = s := by
  induction l with
  | nil => rfl
  | cons a l ih => simpa [State.meetAll, State.meet, h, k] using ih

theorem qMeet_none {s : State} (h : s.ce = []) (k : s.ue = []) (q : Nat) (r : Bool) : s.qMeet q r = s := by
  unfold State.qMeet
  split
  · exact meetAll_none h k _
  · rfl

def wai (s : State) (e : Nat) (w : Wait) (ws : List Word) (b : Bundle) : Bool :=
  held s e ws b && (s.eng e).wait == w && (s.eng e).cur == ws && s.goesOn e

theorem holds_of {s : State} {e : Nat} {ws : List Word} {b : Bundle} (h : held s e ws b = true) : s.Holds e ws b := by
  simp only [held, Bool.and_eq_true, beq_iff_eq, decide_eq_true_eq, Bool.or_eq_true, Bool.not_eq_true'] at h
  obtain ⟨⟨⟨⟨⟨⟨⟨h0, h1⟩, h2⟩, h3⟩, h4⟩, h5⟩, h6⟩, h7⟩ := h
  refine ⟨⟨?_, h3, h4, h5, fun hn => h6.resolve_left (by simp [hn]), h7⟩, h1, h2⟩
  split at h0
  · rename_i hd; rw [hd, beq_iff_eq.1 h0]
  · cases h0

theorem executes_of {s : State} {e : Nat} {ws : List Word} {b : Bundle} (h : exe s e ws b = true) : s.Executes e ws b := by
  simp only [exe, Bool.and_eq_true, beq_iff_eq] at h
  have h2 := h.2
  refine ⟨holds_of h.1.1.1, h.1.1.2, ?_, ?_⟩
  · unfold State.fetch
    split at h2
    · rename_i hc
      rw [Bool.and_eq_true, beq_iff_eq] at h2
      simp [hc, h2.1, h2.2]
    · rename_i hc
      rw [← beq_iff_eq.1 h2]
      simp only [hc, Bool.not_false, if_true]
  · exact beginCe_none h.1.2 _ _ _

theorem waits_of {s : State} {e : Nat} {w : Wait} {ws : List Word} {b : Bundle} (h : wai s e w ws b = true) : s.Waits e w ws b := by
  simp only [wai, Bool.and_eq_true, beq_iff_eq] at h
  exact ⟨holds_of h.1.1.1, h.1.1.2, h.1.2, h.2⟩

/-- Syllables, from their fields (R176, R181, R183, R185): the stop bit set. -/
def synA (op : BitVec 6) (mode : BitVec 3) (field : BitVec 16) : Word := 0b1#1 ++ 0b000#3 ++ op ++ mode ++ 0b0#1 ++ 0b00#2 ++ field
def synX (op : BitVec 4) (mode : BitVec 3) (field : BitVec 16) : Word := 0b1#1 ++ 0b001#3 ++ op ++ 0b00#2 ++ mode ++ 0b000#3 ++ field
def synT (op smode dmode : BitVec 3) (sf df : BitVec 9) : Word := 0b1#1 ++ 0b010#3 ++ op ++ smode ++ dmode ++ sf ++ df ++ 0b0#1
def synC (op : BitVec 6) (field : BitVec 22) : Word := 0b1#1 ++ 0b011#3 ++ op ++ field

/-- A read that is at hand. -/
def gives (r : Ev Word) (w : Word) (l : List Word) : Bool :=
  match r with
  | .ok v k => v == w && k == l
  | _ => false

theorem gives_of {r : Ev Word} {w : Word} {l : List Word} (h : gives r w l = true) : r = .ok w l := by
  unfold gives at h
  split at h
  · simp only [Bool.and_eq_true, beq_iff_eq] at h; rw [h.1, h.2]
  · cases h

/-- ADD #-1 in Newt 37, at the last word of its bank, with A = 1. -/
def addS : State := at_ 37 [synA 0x02 0b111 0xFFFF] { a := 1, pc := 0x3FFC }
theorem test_Integer :
    exe addS (37 : Eng) [0x80B8FFFF] { a := some { op := .add, form := .imm (-1), e := false, size := 4 } } = true ∧
      gives (addS.readRef 37 0 0 (addS.refOf 37 (.imm (-1))) []) (-1) [] = true ∧
      addS.trapOf 37 .add (aluRes .add (addS.get (aENG_S 37) ENG_S.rm) 1 0 (-1) 0).raised = none ∧
      after (.add 37) addS (fun t => (t.eng 37).a == 0 && t.on (aENG_S 37) ENG_S.z && t.on (aENG_S 37) ENG_S.c && (t.eng 37).pc == 0x4000) = true := by decide +kernel
/-- MAC [X+1]!: the operand is the word at X, W the word at Y. -/
def macS : State :=
  ((at_ 0 [synA 0x0C 0b011 1] { a := 3, x := 5, y := 6 }).putWord 0x20000014 0x40000000).putWord 0x20000018 0x20000000
theorem test_Integer_mac :
    exe macS (0 : Eng) [synA 0x0C 0b011 1] { a := some { op := .mac, form := .post false 1, e := false, size := 4 } } = true ∧
      gives (macS.readRef 0 0 0 (macS.refOf 0 (.post false 1)) []) 0x40000000 [] = true ∧ AOp.mac.usesW = true ∧
      gives (macS.nearRead 0 0 (nearWord (macS.eng 0).y) []) 0x20000000 [] = true ∧
      after (.mac 0) macS (fun t => (t.eng 0).a == 0x10000003 && (t.eng 0).x == 6) = true := by decide +kernel
/-- FADD #1.0 to 1.5 in Newt 255. -/
def faddS : State := at_ 255 [synA 0x20 0b111 0x3F80] { a := 0x3FC00000 }
theorem test_Float :
    exe faddS (255 : Eng) [synA 0x20 0b111 0x3F80] { a := some { op := .fadd, form := .imm 0x3F800000, e := false, size := 4 } } = true ∧
      faddS.trapOf 255 .fadd (aluRes .fadd (faddS.get (aENG_S 255) ENG_S.rm) 0x3FC00000 0 0x3F800000 0).raised = none ∧
      after (.fadd 255) faddS (fun t => (t.eng 255).a == 0x40200000 && !t.on (aENG_S 255) ENG_S.ix) = true := by decide +kernel
/-- The bundle of one A syllable, and of one X syllable. -/
def bA (op : AOp) (f : Form) : Bundle := { a := some { op := op, form := f, e := false, size := 4 } }
def bX (op : XOp) (y : Bool) (f : Form) : Bundle := { x := some { op := op, y := y, form := f } }

/-- LD [0x0041] in Newt 2. -/
def ldS : State := (at_ 2 [synA 0 0 0x41] {}).putWord 0x20020104 0xBEEF
theorem test_Ld_near :
    exe ldS (2 : Eng) [0x80000041] (bA .ld (.near 0x41)) = true ∧ gives (ldS.readRef 2 0 0 (ldS.refOf 2 (.near 0x41)) []) 0xBEEF [] = true ∧
      after (.ld 2) ldS (fun t => (t.eng 2).a == 0xBEEF && (t.eng 2).pc == 4) = true := by decide +kernel
/-- LD [X+4]F in Newt 2, with X at system SRAM. -/
def ldF : State := (at_ 2 [synA 0 0b110 4] { x := 0x10000000 }).putWord 0x10000004 0x77
theorem test_Ld_far :
    exe ldF (2 : Eng) [synA 0 0b110 4] (bA .ld (.far false 4)) = true ∧ (ldF.eng 2).got = [] ∧ ldF.refOf 2 (.far false 4) = .far 0x10000004 ∧
      ldF.mpuMay 2 0x10000004 0 = true ∧ ldF.ahead 2 { addr := 0x10000004, size := sizeCode 4, slot := 0, exc := 0x10000004 } = .free ∧
      inWindow 0x10000004 = false ∧ ldF.cached 2 0x10000004 = none ∧ ldF.target 0x10000004 = some islSYS ∧ (ldF.eng 2).reply = .none ∧
      ldF.reach islSYS = true ∧ ldF.fifo 10 1 = [] ∧ after (.ld 2) ldF (fun t => (t.eng 2).wait == .load &&
        (t.eng 2).cur == [synA 0 0b110 4] && (t.eng 2).pc == 0 && t.fifo 10 1 == [ldF.askXfer 2 0x10000004 0]) = true := by decide +kernel
/-- An instruction of Newt `e` that asks something of island `i`: the request crosses, and the answer brings the Newt on. -/
def asked (c : Instr) (s : State) (e i : Nat) (r : Instr) (p : State → Bool) : Bool :=
  after c s fun u => after (.handshakeFifoDelivery (Fin.ofNat 26 (engIsl e)) (Fin.ofNat 26 i)) u fun v => after r v p
/-- What `Crosses` says, as a computation. -/
def crs (s : State) (e i : Nat) : Bool :=
  (s.eng e).reply == .none && s.reach i && s.held i == false && s.fifo (engIsl e) i == [] && s.goesOn e
theorem crosses_of {s : State} {e i : Nat} (h : crs s e i = true) : s.Crosses e i := by
  simp only [crs, Bool.and_eq_true, beq_iff_eq] at h
  exact ⟨h.1.1.1.1, h.1.1.1.2, h.1.1.2, h.1.2, h.2⟩
theorem test_Ld_crosses : asked (.ld 2) ldF 2 islSYS (.farLoadResponse 2) (fun t => (t.eng 2).a == 0x77 && (t.eng 2).pc == 4) = true := by
  decide +kernel
def ldW : State := at_ 2 [synA 0 0b110 4] { x := 0x10000000, wait := .load, cur := [synA 0 0b110 4], reply := .words [0x77] }
theorem test_Ld_response :
    wai ldW (2 : Eng) .load [synA 0 0b110 4] (bA .ld (.far false 4)) = true ∧ (ldW.eng 2).reply = .words [0x77] ∧
      ldW.ahead 2 { addr := 0x10000004, size := sizeCode 4, slot := 0, exc := 0x10000004 } = .free ∧
      after (.farLoadResponse 2) ldW (fun t => (t.eng 2).a == 0x77 && (t.eng 2).wait == .none && (t.eng 2).pc == 4) = true := by decide +kernel
/-- The word stands in the far-store buffer, or in a line of a Skink's D-cache: it is at hand. -/
theorem test_Ld_forward :
    let b : Store := { kind := .far, addr := 0x10000004, data := 0x99, size := 0, ring := 0 }
    let s := at_ 2 [synA 0 0b110 4] { x := 0x10000000, buf := [b] }
    exe s (2 : Eng) [synA 0 0b110 4] (bA .ld (.far false 4)) = true ∧
      s.ahead 2 { addr := 0x10000004, size := sizeCode 4, slot := 0, exc := 0x10000004 } = .forward 0x99 ∧
      after (.ld 2) s (fun t => (t.eng 2).a == 0x99 && (t.eng 2).pc == 4) = true := by decide +kernel
/-- Skink 0 has the bundle `ws` in E. -/
def sk_ (ws : List Word) (x : Engine) : State := (up.set (aENG_STATUS 256) ENG_STATUS.halted 0).setEng 256 { x with cur := ws }
theorem test_Ld_line :
    let l : Line := { addr := 0x10000000, words := List.replicate 16 0x55, dirty := false }
    let s := sk_ [synA 0 0b110 4] { x := 0x10000000, dcache := [l] }
    exe s (256 : Eng) [synA 0 0b110 4] (bA .ld (.far false 4)) = true ∧ (s.cached 256 0x10000004).isSome = true ∧
      lineOf (s.eng 256).dcache 0x10000004 = some l ∧ pick 0x10000004 0 (l.word 0x10000004) = 0x55 ∧
      after (.ld 256) s (fun t => (t.eng 256).a == 0x55 && (t.eng 256).pc == 4) = true := by decide +kernel
/-- LD [X+4]F with MOV [0x20], [5]: the near word is read before the wait (R137). -/
def ldM : List Word := [synA 0 0b110 4 &&& 0x7FFFFFFF#32, synT 0 0 0 5 0x20]
theorem test_Ld_seen :
    after (.ld 2) ((at_ 2 ldM { x := 0x10000000 }).putWord 0x20020014 0x42) (fun t => (t.eng 2).wait == .load && (t.eng 2).seen == [(5, 0x42)]) = true ∧
      after (.farLoadResponse 2) ((at_ 2 ldM { x := 0x10000000, wait := .load, cur := ldM, seen := [(5, 0x42)], reply := .words [0] }).putWord 0x20020014 0x99)
        (fun t => t.word 0x20020080 == 0x42 && (t.eng 2).seen == []) = true := by decide +kernel
/-- A prefix before a near LDRSV: the form itself is illegal. -/
theorem test_prefixed_form : decodeBundle true [0x40000001, synA 0x30 0 0x10] = .error 1 ∧ decodeBundle true [0x40000001, synA 2 0 0x10] = .error 2 := by
  decide +kernel
/-- ST [Y-1]! in Newt 2. -/
def stS : State := at_ 2 [synA 1 0b100 0xFFFF] { a := 0xABCD, y := 0xFFF }
theorem test_St_near :
    exe stS (2 : Eng) [synA 1 0b100 0xFFFF] (bA .st (.post true (-1))) = true ∧ isNewt 2 = true ∧ stS.refOf 2 (.post true (-1)) = .near 0xFFF ∧
      stS.mayStore 2 0xFFF = true ∧ (stS.cyc.at stS.tb).fed = [] ∧ after (.st 2) stS (fun t => t.word 0x20023FFC == 0xABCD && (t.eng 2).y == 0xFFE) = true := by decide +kernel
def stF : State := at_ 2 [synA 1 0b110 0] { a := 0xABCD, x := 0x10000008 }
theorem test_St_far :
    exe stF (2 : Eng) [synA 1 0b110 0] (bA .st (.far false 0)) = true ∧ stF.refOf 2 (.far false 0) = .far 0x10000008 ∧
      stF.mpuMay 2 0x10000008 1 = true ∧ (stF.eng 2).buf.length < bufCap 2 ∧ after (.st 2) stF
        (fun t => (t.eng 2).buf == [{ kind := .far, addr := 0x10000008, data := 0xABCD, size := 0, ring := 0 }]) = true := by decide +kernel
/-- A near store to the window of a bound window monitor, and one of a Skink. -/
def stW : State :=
  ((at_ 2 [synA 1 0 0xB000] { a := 0xABCD }).set (aWM_BIND 0) WM_BIND.bind_en 1).set (aWM_BIND 0) WM_BIND.newt 2
theorem test_St_window :
    exe stW (2 : Eng) [synA 1 0 0xB000] (bA .st (.near 0xB000)) = true ∧ (match stW.place 2 0xB000 with
      | some (.window _ _) => true
      | _ => false) = true ∧ stW.ring 2 ≤ 2 ∧ after (.st 2) stW (fun t => (t.eng 2).buf.map (·.data) == [0xABCD]) = true := by decide +kernel
theorem test_St_skink :
    let s := (sk_ [synA 1 0 5] { a := 0xABCD }).setReg (aSK_NBR 256) 0x10000000
    exe s (256 : Eng) [synA 1 0 5] (bA .st (.near 5)) = true ∧ s.place 256 5 = some (.global 0x10000014) ∧ s.mpuMay 256 0x10000014 1 = true ∧
      after (.st 256) s (fun t => (t.eng 256).buf.map (·.addr) == [0x10000014]) = true := by decide +kernel
/-- LDX #-2; ADDY #5; STX [3]; STY [X+0]F; MODX en, len 4, st 1. -/
theorem test_Ldx :
    let s := at_ 0 [synX 0 0b111 0xFFFE] {}
    exe s (0 : Eng) [0x9038FFFE] (bX .ld false (.imm (-2))) = true ∧ gives (s.readRef 0 1 0 (s.refOf 0 (.imm (-2))) []) (-2) [] = true ∧
      after (.ldx 0) s (fun t => (t.eng 0).x == -2 && (t.eng 0).y == 0) = true := by decide +kernel
theorem test_Addy :
    let s := at_ 0 [synX 5 0b111 5] { y := 0xFFFFFFFF }
    exe s (0 : Eng) [synX 5 0b111 5] (bX .add true (.imm 5)) = true ∧ gives (s.readRef 0 1 0 (s.refOf 0 (.imm 5)) []) 5 [] = true ∧
      after (.addy 0) s (fun t => (t.eng 0).y == 4 && (t.eng 0).x == 0) = true := by decide +kernel
theorem test_Stx :
    let s := at_ 0 [synX 2 0b000 3] { x := 0x99 }
    exe s (0 : Eng) [synX 2 0b000 3] (bX .st false (.near 3)) = true ∧ s.refOf 0 (.near 3) = .near 3 ∧ s.mayStore 0 3 = true ∧ (s.cyc.at s.tb).fed = [] ∧
      after (.stx 0) s (fun t => t.word 0x2000000C == 0x99) = true := by decide +kernel
theorem test_Sty_far :
    let s := at_ 0 [synX 3 0b110 0] { x := 0x10000000, y := 0x99 }
    exe s (0 : Eng) [synX 3 0b110 0] (bX .st true (.far false 0)) = true ∧ s.refOf 0 (.far false 0) = .far 0x10000000 ∧
      s.mpuMay 0 0x10000000 1 = true ∧ (s.eng 0).buf.length < bufCap 0 ∧
      after (.sty 0) s (fun t => (t.eng 0).buf.map (·.data) == [0x99]) = true := by decide +kernel
theorem test_Modx :
    let s := at_ 0 [synX 6 0b111 0x8401] {}
    exe s (0 : Eng) [synX 6 0b111 0x8401] (bX .mod false (.imm 0x8401)) = true ∧
      after (.modx 0) s (fun t => t.on (aXMOD 0) XMOD.en && t.get (aXMOD 0) XMOD.len == 4 && t.get (aXMOD 0) XMOD.st == 1) = true := by decide +kernel
/-- LDX [Y+4]F, MOV [0x20], [X+4]F and BMOV from far: each asks for the word, and the response goes on. -/
theorem test_Ldx_far :
    let s := (at_ 2 [synX 0 0b110 4] { x := 0x10000000 }).putWord 0x10000004 0x77
    let l : Load := { addr := 0x10000004, size := 0, slot := 1, exc := 0x10000004 }
    exe s (2 : Eng) [synX 0 0b110 4] (bX .ld false (.far false 4)) = true ∧ s.ahead 2 l = .free ∧ s.cached 2 l.addr = none ∧
      s.crossing l.addr = some islSYS ∧ s.fifo 10 1 = [] ∧ asked (.ldx 2) s 2 islSYS (.farLoadResponse 2) (fun t =>
        (t.eng 2).x == 0x77 && (t.eng 2).pc == 4) = true ∧
      after (.ldx 2) s (fun t => (t.eng 2).wait == .load && (t.eng 2).x == 0x10000000) = true := by decide +kernel
theorem test_Ldx_response :
    let s := at_ 2 [synX 0 0b110 4] { x := 0x10000000, wait := .load, cur := [synX 0 0b110 4], reply := .words [0x77] }
    wai s (2 : Eng) .load [synX 0 0b110 4] (bX .ld false (.far false 4)) = true ∧
      after (.farLoadResponse 2) s (fun t => (t.eng 2).x == 0x77 && (t.eng 2).pc == 4) = true := by decide +kernel
/-- MOV [Y+0], [0x005], and to [Y+0]F. -/
def bT (t : TSlot) : Bundle := { t := some t }
theorem test_Mov :
    let s := (at_ 0 [synT 0 0 0b010 5 0] { y := 0xFFF }).putWord 0x20000014 0x42
    exe s (0 : Eng) [synT 0 0 0b010 5 0] (bT (.mov (.idx true 0) (.near 5))) = true ∧ gives (s.readRef 0 2 0 (s.refOf 0 (.near 5)) []) 0x42 [] = true ∧
      s.refOf 0 (.idx true 0) = .near 0xFFF ∧ s.mayStore 0 0xFFF = true ∧ (s.cyc.at s.tb).fed = [] ∧ after (.mov 0) s (fun t => t.word 0x20003FFC == 0x42) = true := by decide +kernel
theorem test_Mov_far :
    let s := (at_ 0 [synT 0 0 0b110 5 0x100] { y := 0x10000000 }).putWord 0x20000014 0x42
    exe s (0 : Eng) [synT 0 0 0b110 5 0x100] (bT (.mov (.far true 0) (.near 5))) = true ∧ s.refOf 0 (.far true 0) = .far 0x10000000 ∧
      s.mpuMay 0 0x10000000 1 = true ∧ after (.mov 0) s (fun t => (t.eng 0).buf.map (·.data) == [0x42]) = true := by decide +kernel
theorem test_Mov_asks :
    let s := (at_ 0 [synT 0 0b110 0 0x104 0x20] { y := 0x10000000 }).putWord 0x10000004 0x42
    exe s (0 : Eng) [synT 0 0b110 0 0x104 0x20] (bT (.mov (.near 0x20) (.far true 4))) = true ∧ s.crossing 0x10000004 = some islSYS ∧
      asked (.mov 0) s 0 islSYS (.farLoadResponse 0) (fun t => t.word 0x20000080 == 0x42 && (t.eng 0).pc == 4) = true := by decide +kernel
/-- BMOV of two words, and of one. -/
def bmS (n : BitVec 9) : State := (at_ 0 [synT 1 0 0 n 0] { x := 5, y := 0xFFE }).putWord 0x20000014 0x42
theorem test_Bmov_first :
    exe (bmS 2) (0 : Eng) [synT 1 0 0 2 0] (bT (.bmov false false 2)) = true ∧ nearWord ((bmS 2).eng 0).x < 0x1000 ∧ nearWord ((bmS 2).eng 0).y < 0x1000 ∧
      (bmS 2).ue.contains (engRam 0 + 20) = false ∧ (bmS 2).mayStore 0 0xFFE = true ∧ ((bmS 2).cyc.at (bmS 2).tb).fed = [] ∧ ((bmS 2).eng 0).seen = [] ∧ after (.bmov 0) (bmS 2)
        (fun t => t.word 0x20003FF8 == 0x42 && (t.eng 0).tc == 1 && t.on (aENG_S 0) ENG_S.resume && (t.eng 0).pc == 0) = true := by decide +kernel
theorem test_Bmov_last :
    exe (bmS 1) (0 : Eng) [synT 1 0 0 1 0] (bT (.bmov false false 1)) = true ∧ after (.bmov 0) (bmS 1)
      (fun t => t.word 0x20003FF8 == 0x42 && !t.on (aENG_S 0) ENG_S.resume && (t.eng 0).pc == 4) = true := by decide +kernel
/-- The second word of a move of two, and the last word of one that has crossed from system SRAM. -/
def bmR : State :=
  ((at_ 0 [synT 1 0 0 2 0] { x := 5, y := 0xFFE, ts := 6, td := 0xFFF, tc := 1, cur := [synT 1 0 0 2 0] }).set (aENG_S 0) ENG_S.resume 1).putWord
    0x20000018 0x43
theorem test_Bmov_resumed :
    (bmR.eng 0).cur = [synT 1 0 0 2 0] ∧ bmR.mayRun 0 = true ∧ bmR.ce = [] ∧ (bmR.eng 0).halting = false ∧ bmR.loopAt 0 true = false ∧
      bmR.loopAt 0 false = false ∧ bmR.moveTs 0 = 6 ∧ bmR.moveTd 0 = 0xFFF ∧ bmR.moveTc 0 2 = 1 ∧ bmR.mayStore 0 0xFFF = true ∧
      after (.bmov 0) bmR (fun t => t.word 0x20003FFC == 0x43 && !t.on (aENG_S 0) ENG_S.resume && (t.eng 0).pc == 4 &&
        (t.eng 0).x == 5) = true := by decide +kernel
theorem test_Bmov_zero :
    (bmR.setEng 0 { bmR.eng 0 with tc := 0 }).moveTc 0 2 = 0 ∧ after (.bmov 0) (bmR.setEng 0 { bmR.eng 0 with tc := 0 })
      (fun t => !t.on (aENG_S 0) ENG_S.resume && (t.eng 0).pc == 4 && t.word 0x20003FFC == 0) = true := by decide +kernel
theorem test_Bmov_far :
    let s := (at_ 0 [synT 1 0b110 0b110 1 0] { x := 0x10000000, y := 0x10000100 }).putWord 0x10000000 0x44
    (match decodeBundle true [synT 1 0b110 0b110 1 0] with
      | .ok b => b == bT (.bmov true true 1)
      | _ => false) = true ∧ s.crossing 0x10000000 = some islSYS ∧
      asked (.bmov 0) s 0 islSYS (.farLoadResponse 0) (fun t => (t.eng 0).buf.map (fun b => (b.addr, b.data)) == [(0x10000100, 0x44)] &&
        (t.eng 0).pc == 4) = true := by decide +kernel
/-- LDRSV and STCND of a word of system SRAM by Newt 1. -/
def rsS : State := (at_ 1 [synA 0x30 0b110 0] { x := 0x10000000 }).putWord 0x10000000 0x31
theorem test_Ldrsv :
    exe rsS (1 : Eng) [synA 0x30 0b110 0] (bA .ldrsv (.far false 0)) = true ∧ (rsS.eng 1).got = [] ∧ (rsS.eng 1).buf = [] ∧
      rsS.refOf 1 (.far false 0) = .far 0x10000000 ∧ rsS.mpuMay 1 0x10000000 0 = true ∧ inSram 0x10000000 4 = true ∧ crs rsS 1 islSYS = true ∧
      rsS.ue = [] ∧ rsS.ce = [] ∧ asked (.ldrsv 1) rsS 1 islSYS (.farLoadResponse 1)
        (fun t => (t.eng 1).a == 0x31 && (t.eng 1).rsv == some 0x2000000 && t.rsv.held.map (·.eng) == [1]) = true := by decide +kernel
theorem test_Ldrsv_got :
    let s := at_ 1 [synA 0x30 0b110 0] { x := 0x10000000, got := [0x31] }
    exe s (1 : Eng) [synA 0x30 0b110 0] (bA .ldrsv (.far false 0)) = true ∧ (s.eng 1).got = [0x31] ∧ holdsRsv 0x10000000 = true ∧
      after (.ldrsv 1) s (fun t => (t.eng 1).a == 0x31 && (t.eng 1).rsv == some 0x2000000 && (t.eng 1).pc == 4) = true := by decide +kernel
def scS (h : List Rsv) : State :=
  { at_ 1 [synA 0x31 0b110 0] { a := 9, x := 0x10000000, rsv := some 0x2000000 } with rsv := { held := h } }
def rsv1 : Rsv := { eng := 1, granule := 0x2000000, ord := 0, tick := 999000 }
theorem test_Stcnd_stores :
    exe (scS [rsv1]) (1 : Eng) [synA 0x31 0b110 0] (bA .stcnd (.far false 0)) = true ∧ holdsRsv 0x10000000 = true ∧
      (scS [rsv1]).mpuMay 1 0x10000000 1 = true ∧ (scS [rsv1]).islandOf 0x10000000 = islSYS ∧ crs (scS [rsv1]) 1 islSYS = true ∧
      (scS [rsv1]).mayStcnd 1 0x2000000 = true ∧ asked (.stcnd 1) (scS [rsv1]) 1 islSYS (.farLoadResponse 1)
        (fun t => t.word 0x10000000 == 9 && t.on (aENG_S 1) ENG_S.z && t.rsv.held == [] && (t.eng 1).rsv == none) = true := by decide +kernel
theorem test_Stcnd_fails :
    exe (scS []) (1 : Eng) [synA 0x31 0b110 0] (bA .stcnd (.far false 0)) = true ∧ crs (scS []) 1 islSYS = true ∧ (scS []).mayStcnd 1 0x2000000 = false ∧
      asked (.stcnd 1) (scS []) 1 islSYS (.farLoadResponse 1)
        (fun t => t.word 0x10000000 == 0 && !t.on (aENG_S 1) ENG_S.z && (t.eng 1).rsv == none) = true := by decide +kernel
theorem test_Stcnd_answered :
    let s := at_ 1 [synA 0x31 0b110 0] { a := 9, x := 0x10000000, rsv := some 0x2000000, reply := .words [1] }
    exe s (1 : Eng) [synA 0x31 0b110 0] (bA .stcnd (.far false 0)) = true ∧ (s.eng 1).reply = .words [1] ∧ (s.eng 1).buf = [] ∧
      after (.stcnd 1) s (fun t => t.on (aENG_S 1) ENG_S.z && (t.eng 1).rsv == none && (t.eng 1).pc == 4) = true := by decide +kernel
theorem test_ReservationExpiry :
    after (.reservationExpiry 1) { up with rsv := { held := [{ rsv1 with tick := 998000 }, { rsv1 with eng := 2, tick := 998000 }] } }
      (fun t => t.rsv.held.map (·.eng) == [2]) = true := by decide +kernel
/-! ### Control flow, gates and entries (chapters 07, 09 and 10) -/

def bC (k : COp) : Bundle := { c := some k }
/-- Does the engine's EXC_INFO name vector `v`, with PC at its handler? -/
def took (t : State) (e v : Nat) : Bool :=
  t.on (aEXC_INFO e) EXC_INFO.valid && t.get (aEXC_INFO e) EXC_INFO.vector == v && (t.eng e).pc == 0x100 + 4 * v
/-- A vector table whose entry of `v` is `w`. -/
def vec (e v : Nat) (w : Word) (s : State) : State := s.putWord (s.vecAddr e v) w
/-- What `Enterable` says, as a computation. -/
def ent (s : State) (e v : Nat) : Bool :=
  isNewt e && !(s.giveWay e).ue.contains ((s.giveWay e).vecAddr e v) && (s.giveWay e).ce == [] && (s.eng e).halting == false && decide (s.get (aENG_STATUS e) ENG_STATUS.ctx_used < 4)

theorem enterable_of {s : State} {e v : Nat} (h : ent s e v = true) : s.Enterable e v := by
  simp only [ent, Bool.and_eq_true, Bool.not_eq_true', decide_eq_true_eq, beq_iff_eq] at h
  obtain ⟨⟨⟨⟨h1, h2⟩, h3⟩, h4⟩, h5⟩ := h
  have hr : (s.giveWay e).readVec e v = (s.giveWay e, .word (s.vecWord e v)) := by
    simp only [State.readVec, State.vecWord, State.countCe, h1, h2, h3, List.contains_nil, if_true, if_false, Bool.false_eq_true]
  exact ⟨by rw [hr], .inl (by rw [hr]), h4, h5⟩

/-- BZ -1 taken, BP +2 not taken, and BR to an absolute address. -/
theorem test_Branch :
    let s := (at_ 9 [synC 1 0x3FFFFF] { pc := 8 }).set (aENG_S 9) ENG_S.z 1
    exe s (9 : Eng) [synC 1 0x3FFFFF] (bC (.br .z (.rel (-1)))) = true ∧ after (.bz 9) s (fun t => (t.eng 9).pc == 4) = true := by decide +kernel
/-- The word behind the branch is uncorrectable: the branch is taken, and the error is counted (R143). -/
theorem test_Branch_killed :
    let s := { (at_ 9 [synC 1 0x3FFFFF] { pc := 8 }).set (aENG_S 9) ENG_S.z 1 with ue := [0x2009400C] }
    exe s (9 : Eng) [synC 1 0x3FFFFF] (bC (.br .z (.rel (-1)))) = true ∧
      s.fetchNewt 9 12 = .fault { v := 8, early := true, ue := some 0x2009400C } ∧ after (.bz 9) s (fun t => (t.eng 9).pc == 4 &&
        t.get (aECC_CNT 9) ECC_CNT.ue_cnt == 1 && t.get aECC_UE_INFO ECC_UE_INFO.mem == 3) = true := by decide +kernel
/-- And where nothing is wrong behind it, the branch is quiet. -/
theorem test_Branch_quiet : (at_ 9 [synC 1 0x3FFFFF] { pc := 8 }).Quiet 9 [synC 1 0x3FFFFF] := by decide +kernel
theorem test_Branch_not :
    let s := (at_ 9 [synC 4 2] { pc := 8 }).set (aENG_S 9) ENG_S.z 1
    exe s (9 : Eng) [synC 4 2] (bC (.br .p (.rel 2))) = true ∧ after (.bp 9) s (fun t => (t.eng 9).pc == 12) = true := by decide +kernel
theorem test_Branch_abs :
    let s := at_ 9 [0x40000012, synC 0 0x34] {}
    exe s (9 : Eng) [0x40000012, synC 0 0x34] { c := some (.br .always (.abs 0x1234)), len := 2 } = true ∧
      after (.br 9) s (fun t => (t.eng 9).pc == 0x1234) = true := by decide +kernel
def ce (r ring : Nat) (g : Bool) (o : Nat) : CallEntry := { ret := r, retRing := ring, owner := o, gate := g }
theorem test_Call :
    let s := at_ 9 [synC 7 5] { pc := 8 }
    exe s (9 : Eng) [synC 7 5] (bC (.call (.rel 5))) = true ∧ (s.eng 9).stack.length < 16 ∧
      after (.call 9) s (fun t => (t.eng 9).pc == 28 && (t.eng 9).stack == [ce 12 0 false 0]) = true := by decide +kernel
theorem test_Call_deep :
    let s := (at_ 9 [synC 7 5] { stack := List.replicate 16 (ce 12 0 false 0) }) |> vec 9 4 0x110
    exe s (9 : Eng) [synC 7 5] (bC (.call (.rel 5))) = true ∧ 16 ≤ (s.eng 9).stack.length ∧ ent s 9 4 = true ∧
      after (.call 9) s (fun t => took t 9 4 && (t.eng 9).stack.length == 16 && t.get (aENG_STATUS 9) ENG_STATUS.ctx_used == 1) = true := by decide +kernel
theorem test_Ret :
    let s := at_ 9 [synC 8 0] { stack := [ce 12 0 false 0, ce 16 0 false 0] }
    exe s (9 : Eng) [synC 8 0] (bC .ret) = true ∧ (s.eng 9).stack = ce 12 0 false 0 :: [ce 16 0 false 0] ∧
      after (.ret 9) s (fun t => (t.eng 9).pc == 12 && (t.eng 9).stack == [ce 16 0 false 0]) = true := by decide +kernel
theorem test_Ret_gate :
    let s := (at_ 9 [synC 8 0] { stack := [ce 12 0 true 0] }) |> vec 9 4 0x110
    exe s (9 : Eng) [synC 8 0] (bC .ret) = true ∧ (s.eng 9).stack = [ce 12 0 true 0] ∧ ent s 9 4 = true ∧
      after (.ret 9) s (fun t => took t 9 4 && (t.eng 9).stack == [ce 12 0 true 0]) = true := by decide +kernel
theorem test_Loop :
    let s := at_ 9 [synC 9 (2 ^ 21 + 5 * 256 + 3)] { pc := 16 }
    exe s (9 : Eng) [synC 9 (2 ^ 21 + 5 * 256 + 3)] (bC (.loop true false 5 3)) = true ∧ after (.loop 9) s
      (fun t => t.reg (aLS1 9) == 20 && t.reg (aLE1 9) == 28 && t.reg (aLC1 9) == 5 && t.reg (aLC0 9) == 0) = true := by decide +kernel
theorem test_Loop_store :
    let s := (at_ 9 [synC 9 (2 ^ 20 + 5 * 256 + 255)] {}).putWord 0x20090014 0x7000
    exe s (9 : Eng) [synC 9 (2 ^ 20 + 5 * 256 + 255)] (bC (.loop false true 5 255)) = true ∧ gives (s.nearRead 9 3 5 []) 0x7000 [] = true ∧
      after (.loop 9) s (fun t => t.reg (aLE0 9) == 1020 && t.reg (aLC0 9) == 0x7000) = true := by decide +kernel
/-- Both loop sets end on the bundle at 40: set 1 starts at 8, set 0 at 0. -/
def loops (c1 c0 : Word) : State :=
  (((((at_ 9 [] { pc := 40 }).setReg (aLE1 9) 40).setReg (aLE0 9) 40).setReg (aLS1 9) 8).setReg (aLC1 9) c1).setReg (aLC0 9) c0
theorem test_LoopEnds :
    (loops 2 2).loopAt 9 true = true ∧ ((loops 2 2).loopEnd 9 44).2 = 8 ∧ (loops 1 0).loopAt 9 false = false ∧ ((loops 1 0).loopEnd 9 44).2 = 44 ∧
      (loops 1 2).loopAt 9 false = true ∧ ((loops 1 2).loopEnd 9 44).2 = 0 ∧ (loops 0 1).loopAt 9 true = false ∧
      ((loops 0 1).loopEnd 9 44).2 = 44 ∧ ((loops 0 0).loopEnd 9 44).2 = 44 := by decide +kernel
/-! ### Waits, signals, fences -/

def evS (x : Engine) (v : Word) : State := (at_ 9 [synC 0x0A 0x81] x).setReg (aEVF 9) v
theorem test_Waitev :
    let s := evS {} 0x83
    exe s (9 : Eng) [synC 0x0A 0x81] (bC (.waitev 0x81)) = true ∧ s.reg (aEVF 9) &&& BitVec.ofNat 32 0x81 ≠ 0 ∧
      after (.waitev 9) s (fun t => (t.eng 9).a == 0x81 && t.reg (aEVF 9) == 2 && (t.eng 9).pc == 4) = true := by decide +kernel
theorem test_Waitev_sleeps :
    let s := evS {} 2
    exe s (9 : Eng) [synC 0x0A 0x81] (bC (.waitev 0x81)) = true ∧ s.reg (aEVF 9) &&& BitVec.ofNat 32 0x81 = 0 ∧
      after (.waitev 9) s (fun t => (t.eng 9).wait == .sleep && t.on (aENG_STATUS 9) ENG_STATUS.waiting && (t.eng 9).pc == 0) = true := by decide +kernel
theorem test_WaitevWake :
    let s := evS { wait := .sleep, cur := [synC 0x0A 0x81] } 0x80
    wai s (9 : Eng) .sleep [synC 0x0A 0x81] (bC (.waitev 0x81)) = true ∧ s.engRuns 9 = true ∧ s.reg (aEVF 9) &&& BitVec.ofNat 32 0x81 ≠ 0 ∧
      after (.waitevWake 9) s (fun t => (t.eng 9).wait == .none && (t.eng 9).a == 0x80 && (t.eng 9).pc == 4) = true := by decide +kernel
theorem test_Sigev :
    let s := (at_ 255 [synC 0x0B 0] {}).set (aFAB_SEL 3) FAB_SEL.prod_sel 1183
    exe s (255 : Eng) [synC 0x0B 0] (bC .sigev) = true ∧ s.mode ≠ .frost ∧ sget none s.av.sigev 255 = none ∧
      after (.sigev 255) s (fun t => t.fab.edges == [{ input := 3, tick := 1000000, producer := 1183 }]) = true := by decide +kernel
theorem test_Snap :
    let s := (at_ 9 [synC 0x11 7] {}).set (aENG_S 9) ENG_S.ring 2
    exe s (9 : Eng) [synC 0x11 7] (bC (.snap 7)) = true ∧ s.ring 9 ≠ 3 ∧
      after (.snap 9) s (fun t => t.fab.edges.map (·.input) == [2327]) = true := by decide +kernel
theorem test_Commit :
    let s := at_ 9 [synC 0x10 31] {}
    exe s (9 : Eng) [synC 0x10 31] (bC (.commit 31)) = true ∧ s.ring 9 ≠ 3 ∧ (s.eng 9).buf.length < bufCap 9 ∧
      after (.commit 9) s (fun t => (t.eng 9).buf.map (·.kind) == [.arm 31]) = true := by decide +kernel
/-- EXC_ADDR takes a free value, so that the kernel evaluates nothing behind it. -/
theorem test_Commit_ring3 :
    let s := ((at_ 9 [synC 0x10 31] {}).set (aENG_S 9) ENG_S.ring 3) |> vec 9 3 0x10C
    exe s (9 : Eng) [synC 0x10 31] (bC (.commit 31)) = true ∧ s.ring 9 = 3 ∧ ent s 9 3 = true := by decide +kernel
theorem test_Fence :
    let s := at_ 9 [synC 0x12 0] {}
    exe s (9 : Eng) [synC 0x12 0] (bC .fence) = true ∧ (s.eng 9).buf = [] ∧ (s.eng 9).acks = 0 ∧
      after (.fence 9) s (fun t => (t.eng 9).pc == 4) = true := by decide +kernel
theorem test_FenceComplete :
    let s := at_ 9 [synC 0x12 0] { wait := .fence, cur := [synC 0x12 0] }
    wai s (9 : Eng) .fence [synC 0x12 0] (bC .fence) = true ∧ after (.fenceComplete 9) s (fun t => (t.eng 9).pc == 4 && (t.eng 9).wait == .none) = true := by decide +kernel
theorem test_Fence_waits :
    let s := at_ 9 [synC 0x12 0] { acks := 1 }
    exe s (9 : Eng) [synC 0x12 0] (bC .fence) = true ∧ (s.eng 9).acks ≠ 0 ∧ after (.fence 9) s (fun t => (t.eng 9).wait == .fence) = true := by decide +kernel
theorem test_Isync :
    let s := at_ 9 [synC 0x13 0] {}
    exe s (9 : Eng) [synC 0x13 0] (bC .isync) = true ∧ s.banksWritten 9 = true ∧ after (.isync 9) s (fun t => (t.eng 9).pc == 4) = true := by decide +kernel
theorem test_Isync_waits :
    let s := at_ 9 [synC 0x13 0] { bankAcks := 1, acks := 1 }
    exe s (9 : Eng) [synC 0x13 0] (bC .isync) = true ∧ s.banksWritten 9 = false ∧
      after (.isync 9) s (fun t => (t.eng 9).cur == [synC 0x13 0] && (t.eng 9).pc == 0) = true := by decide +kernel
theorem test_Tbrd :
    let s := { at_ 9 [synC 0x17 0] {} with tb := 0x700000009 }
    exe s (9 : Eng) [synC 0x17 0] (bC .tbrd) = true ∧ after (.tbrd 9) s (fun t => (t.eng 9).a == 9 && (t.eng 9).e == 7) = true := by decide +kernel
theorem test_Ctmode :
    let s := at_ 9 [synC 0x18 1] {}
    exe s (9 : Eng) [synC 0x18 1] (bC (.ctmode true)) = true ∧
      after (.ctmode 9) s (fun t => t.on (aENG_S 9) ENG_S.ct && t.get (aENG_S 9) ENG_S.iel == 8) = true := by decide +kernel
/-! ### Queue instructions -/

/-- Queue 2 has 4 records at 0x10001000, of which `n` are used from record 3 on. -/
def qS (w : Word) (n : Nat) : State :=
  ((((((((at_ 9 [w] { y := 0x100 }).set (aQD_CFG 2) QD_CFG.en 1).set (aQD_CFG 2) QD_CFG.lsz 2).set (aQD_CFG 2) QD_CFG.ring 0).setReg (aQD_BASE 2)
    0x10001000).set (aQD_PTR 2) QD_PTR.head 3).set (aQD_PTR 2) QD_PTR.tail ((3 + n) % 4)).set (aQD_CNT 2) QD_CNT.count n).putWord 0x10001034 0x88
theorem test_Qput :
    let s := (qS (synC 0x0C (2 ^ 21 + 2)) 0).putWord 0x20090404 0x99
    exe s (9 : Eng) [synC 0x0C (2 ^ 21 + 2)] (bC (.queue .put true 2)) = true ∧ nearWord (s.index 9 true) ≤ 0x0FFC ∧ (s.eng 9).got = [] ∧
      (s.eng 9).seen = [] ∧ crs s 9 islSYS = true ∧ s.ue = [] ∧ s.ce = [] ∧ s.qInit 2 = false ∧ s.qMay 2 (s.ring 9) = true ∧ s.qCount 2 < s.qSize 2 ∧
      s.qSize 2 ≤ 65536 ∧ asked (.qput 9) s 9 islSYS (.queueResponse 9) (fun t => (t.eng 9).pc == 4 && !t.on (aENG_S 9) ENG_S.c &&
        t.word 0x10001034 == 0x99 && t.qCount 2 == 1 && t.qTail 2 == 0) = true := by decide +kernel
theorem test_Qget :
    let s := qS (synC 0x0D (2 ^ 21 + 2)) 1
    exe s (9 : Eng) [synC 0x0D (2 ^ 21 + 2)] (bC (.queue .get true 2)) = true ∧ crs s 9 islSYS = true ∧ s.deniedWord 9 (rcdWords 0x100) = none ∧
      s.qMay 2 (s.ring 9) = true ∧ s.qSound 2 true = true ∧ s.ue = [] ∧ s.ce = [] ∧ 0 < s.qCount 2 ∧ s.qm.waits = [] ∧
      (s.cyc.at s.tb).fed = [] ∧ asked (.qget 9) s 9 islSYS (.queueResponse 9) (fun t => t.word 0x20090404 == 0x88 && t.qCount 2 == 0 &&
        !t.on (aENG_S 9) ENG_S.c) = true := by decide +kernel
theorem test_Qpeek :
    let s := qS (synC 0x0E (2 ^ 21 + 2)) 1
    exe s (9 : Eng) [synC 0x0E (2 ^ 21 + 2)] (bC (.queue .peek true 2)) = true ∧ crs s 9 islSYS = true ∧ s.qSound 2 true = true ∧
      asked (.qpeek 9) s 9 islSYS (.queueResponse 9) (fun t => t.word 0x20090404 == 0x88 && t.qCount 2 == 1) = true := by decide +kernel
theorem test_Qcount :
    let s := qS (synC 0x0F (2 ^ 21 + 2)) 3
    exe s (9 : Eng) [synC 0x0F (2 ^ 21 + 2)] (bC (.queue .count true 2)) = true ∧ crs s 9 islSYS = true ∧
      asked (.qcount 9) s 9 islSYS (.queueResponse 9) (fun t => (t.eng 9).a == 3 && !t.on (aENG_S 9) ENG_S.z) = true := by decide +kernel
theorem test_Qget_empty :
    let s := qS (synC 0x0D (2 ^ 21 + 2)) 0
    exe s (9 : Eng) [synC 0x0D (2 ^ 21 + 2)] (bC (.queue .get true 2)) = true ∧ crs s 9 islSYS = true ∧ s.deniedWord 9 (rcdWords 0x100) = none ∧
      s.qMay 2 (s.ring 9) = true ∧ s.qSound 2 true = true ∧ s.qCount 2 = 0 ∧
      asked (.qget 9) s 9 islSYS (.queueResponse 9) (fun t => t.on (aENG_S 9) ENG_S.c && (t.eng 9).pc == 4) = true := by decide +kernel
theorem test_Qpeek_denied :
    let s := (qS (synC 0x0E (2 ^ 21 + 2)) 1 |> vec 9 16 0x140).set (aENG_S 9) ENG_S.ring 1
    exe s (9 : Eng) [synC 0x0E (2 ^ 21 + 2)] (bC (.queue .peek true 2)) = true ∧ crs s 9 islSYS = true ∧ s.deniedWord 9 (rcdWords 0x100) = none ∧
      s.qMay 2 (s.ring 9) = false ∧ s.qInit 2 = false ∧ ent s 9 16 = true := by decide +kernel
/-- QPUT and QCOUNT where the queue is not enabled. -/
theorem test_Qput_denied :
    let s (k : BitVec 6) := (qS (synC k (2 ^ 21 + 2)) 1 |> vec 9 16 0x140).set (aQD_CFG 2) QD_CFG.en 0
    exe (s 0x0C) (9 : Eng) [synC 0x0C (2 ^ 21 + 2)] (bC (.queue .put true 2)) = true ∧ crs (s 0x0C) 9 islSYS = true ∧
      (s 0x0C).ue = [] ∧ (s 0x0C).ce = [] ∧ (s 0x0C).qMay 2 0 = false ∧ ent (s 0x0C) 9 16 = true ∧
    exe (s 0x0F) (9 : Eng) [synC 0x0F (2 ^ 21 + 2)] (bC (.queue .count true 2)) = true ∧ crs (s 0x0F) 9 islSYS = true ∧
      (s 0x0F).qMay 2 0 = false ∧ ent (s 0x0F) 9 16 = true := by decide +kernel
/-- A put to the full queue, of records at 0x10001000, under each policy. -/
theorem test_Qput_full :
    let s (p : Nat) := ((qS (synC 0x0C (2 ^ 21 + 2)) 4).set (aQD_CFG 2) QD_CFG.policy p).putWord 0x20090404 0x99
    (∀ p, p < 3 → exe (s p) (9 : Eng) [synC 0x0C (2 ^ 21 + 2)] (bC (.queue .put true 2)) = true ∧ crs (s p) 9 islSYS = true ∧
      (s p).qMay 2 0 = true ∧ (s p).qSize 2 ≤ (s p).qCount 2 ∧ (s p).get (aQD_CFG 2) QD_CFG.policy = p) ∧
    asked (.qput 9) (s 0) 9 islSYS (.queueResponse 9) (fun t => t.on (aENG_S 9) ENG_S.c && t.qCount 2 == 4 &&
      t.get (aQD_CNT 2) QD_CNT.drops == 1) = true ∧
    asked (.qput 9) (s 1) 9 islSYS (.queueResponse 9) (fun t => !t.on (aENG_S 9) ENG_S.c && t.qCount 2 == 4 &&
      t.word 0x10001034 == 0x99 && t.qHead 2 == 0) = true ∧
    after (.qput 9) (s 2) (fun u => after (.handshakeFifoDelivery 10 1) u (fun t =>
      t.qm.waits == [{ queue := 2, who := .eng 9, words := [0, 0x99, 0, 0] }] && (t.eng 9).wait == .queue none)) = true := by decide +kernel
/-- The answer `r` to the queue instruction `k` (code `c`) with its near words at 0x0FFC. -/
def qA (c : BitVec 6) (r : Bool × Bool × List Word) : State := at_ 9 [synC c 2] { x := 0xFFC, wait := .queue (some r), cur := [synC c 2] }
theorem test_QueueResponse_put :
    let s := qA 0x0C (false, true, [])
    wai s (9 : Eng) (.queue (some (false, true, []))) [synC 0x0C 2] (bC (.queue .put false 2)) = true ∧ nearWord (s.index 9 false) ≤ 0x0FFC ∧
      after (.queueResponse 9) s (fun t => t.on (aENG_S 9) ENG_S.c && (t.eng 9).pc == 4) = true := by decide +kernel
theorem test_QueueResponse_get :
    let s := qA 0x0D (false, false, [1, 2, 3, 4])
    wai s (9 : Eng) (.queue (some (false, false, [1, 2, 3, 4]))) [synC 0x0D 2] (bC (.queue .get false 2)) = true ∧
      (∀ j, j < 4 → s.mayStore 9 (0xFFC + j) = true) ∧ (s.cyc.at s.tb).fed = [] ∧
      after (.queueResponse 9) s (fun t => !t.on (aENG_S 9) ENG_S.c && t.word 0x20093FF0 == 1 && t.word 0x20093FFC == 4) = true := by decide +kernel
theorem test_QueueResponse_count :
    let s := qA 0x0F (false, false, [0])
    wai s (9 : Eng) (.queue (some (false, false, [0]))) [synC 0x0F 2] (bC (.queue .count false 2)) = true ∧
      after (.queueResponse 9) s (fun t => (t.eng 9).a == 0 && t.on (aENG_S 9) ENG_S.z) = true := by decide +kernel
theorem test_QueueResponse_fault :
    let s := (qA 0x0D (true, false, [])) |> vec 9 16 0x140
    wai s (9 : Eng) (.queue (some (true, false, []))) [synC 0x0D 2] (bC (.queue .get false 2)) = true ∧ ent s 9 16 = true := by decide +kernel
theorem test_Trap :
    let s := (at_ 9 [synC 0x19 0xFF] { pc := 8 }) |> vec 9 14 0x138
    exe s (9 : Eng) [synC 0x19 0xFF] (bC (.trap 0xFF)) = true ∧ ent s 9 14 = true ∧
      after (.trap 9) s (fun t => (t.eng 9).pc == 0x138 && t.reg (aCTX 9 0 5) == 8) = true := by decide +kernel
theorem test_Bkpt :
    let s := at_ 9 [synC 0x1A 3] { pc := 8 } |> vec 9 14 0x138
    let s := { s with nvm := { lock := .unlocked 2 }, mem := (0x0F00C000, 7) :: s.mem }
    exe s (9 : Eng) [synC 0x1A 3] (bC (.bkpt 3)) = true ∧ s.bkptArmed 9 = false ∧ ent s 9 14 = true ∧
      after (.bkpt 9) s (fun t => (t.eng 9).pc == 0x138 && t.reg (aCTX 9 0 5) == 8) = true := by decide +kernel
theorem test_Bkpt_armed :
    let s := { (at_ 9 [synC 0x1A 3] { pc := 8 }).setReg (aDBG_BKPT 0) 0x200 with nvm := { lock := .unlocked 1 } }
    exe s (9 : Eng) [synC 0x1A 3] (bC (.bkpt 3)) = true ∧ s.bkptArmed 9 = true ∧
      after (.bkpt 9) s (fun t => (t.eng 9).dbg && (t.eng 9).pc == 8) = true := by decide +kernel
/-- Gate 255 at 0x200907F8: target 0x1F0, target ring `w`, called from rings up to 2. -/
def gateS (w : Word) : State :=
  (((at_ 9 [synC 0x14 255] { pc := 8 }).set (aENG_S 9) ENG_S.ring 2).putWord 0x200907F8 0x1F0).putWord 0x200907FC (w + 0x20)
theorem test_Gate :
    exe (gateS 1) (9 : Eng) [synC 0x14 255] (bC (.gate 255)) = true ∧ (gateS 1).gateAt 9 255 = 0x200907F8 ∧
      (gateS 1).word 0x200907F8 = 0x1F0 ∧ (gateS 1).word 0x200907FC = 0x21 ∧ (gateS 1).ue = [] ∧ (gateS 1).ce = [] ∧ (gateS 1).ring 9 = 2 ∧
      after (.gate 9) (gateS 1) (fun t => (t.eng 9).pc == 0x1F0 && t.ring 9 == 1 && (t.eng 9).stack == [ce 12 2 true 1]) = true := by
  decide +kernel
theorem test_Gate_denied :
    let s := gateS 3 |> vec 9 4 0x110
    exe s (9 : Eng) [synC 0x14 255] (bC (.gate 255)) = true ∧ s.ring 9 < (s.word (s.gateAt 9 255 + 4)).toNat % 4 ∧ ent s 9 4 = true ∧
      after (.gate 9) s (fun t => (t.eng 9).pc == 0x110 && (t.eng 9).stack == []) = true := by decide +kernel
theorem test_Gret :
    let s := at_ 9 [synC 0x15 0] { stack := [ce 12 3 true 0] }
    exe s (9 : Eng) [synC 0x15 0] (bC .gret) = true ∧ (s.eng 9).stack = [ce 12 3 true 0] ∧ s.ring 9 = 0 ∧
      after (.gret 9) s (fun t => (t.eng 9).pc == 12 && t.ring 9 == 3 && (t.eng 9).stack == []) = true := by decide +kernel
theorem test_Gret_denied :
    let s := at_ 9 [synC 0x15 0] {} |> vec 9 4 0x110
    exe s (9 : Eng) [synC 0x15 0] (bC .gret) = true ∧ (s.eng 9).stack = [] ∧ ent s 9 4 = true ∧
      after (.gret 9) s (fun t => (t.eng 9).pc == 0x110) = true := by decide +kernel
/-- ERET in ring 0 with one context: A = 7, PC = 0x44, stacked S of ring `r`, from ring 2. -/
def eretS (r : Nat) : State :=
  (((((at_ 9 [synC 0x16 0] {}).set (aENG_STATUS 9) ENG_STATUS.ctx_used 1).setReg (aCTX 9 0 0) 7).setReg (aCTX 9 0 4)
    (BitVec.ofNat 32 (r * 2 ^ 28))).setReg (aCTX 9 0 5) 0x44).setReg (aCTX 9 0 11) 2
theorem test_Eret :
    exe (eretS 2) (9 : Eng) [synC 0x16 0] (bC .eret) = true ∧ (eretS 2).get (aLIC_STATUS 9) LIC_STATUS.spill_depth = 0 ∧
      (eretS 2).get (aENG_STATUS 9) ENG_STATUS.ctx_used = 0 + 1 ∧
      after (.eret 9) (eretS 2) (fun t => (t.eng 9).a == 7 && (t.eng 9).pc == 0x44 && t.ring 9 == 2) = true := by decide +kernel
theorem test_Eret_privilege :
    let s := eretS 1 |> vec 9 18 0x148
    exe s (9 : Eng) [synC 0x16 0] (bC .eret) = true ∧ s.get (aENG_STATUS 9) ENG_STATUS.ctx_used = 0 + 1 ∧ ent s 9 18 = true ∧
      getBits (s.reg (aCTX 9 0 4)) ENG_S.ring < (s.reg (aCTX 9 0 11)).toNat % 4 ∧
      after (.eret 9) s (fun t => (t.eng 9).pc == 0x148 && t.on (aRPF_INFO 9) RPF_INFO.valid) = true := by decide +kernel
/-- The values that a no-context record leaves open are opaque, so only the premises are computed here. -/
theorem test_Eret_none :
    exe (at_ 9 [synC 0x16 0] {} |> vec 9 18 0x148) (9 : Eng) [synC 0x16 0] (bC .eret) = true ∧
      (at_ 9 [synC 0x16 0] {} |> vec 9 18 0x148).get (aLIC_STATUS 9) LIC_STATUS.spill_depth = 0 ∧
      (at_ 9 [synC 0x16 0] {} |> vec 9 18 0x148).get (aENG_STATUS 9) ENG_STATUS.ctx_used = 0 ∧
      ent (at_ 9 [synC 0x16 0] {} |> vec 9 18 0x148) 9 18 = true := by decide +kernel
theorem giveWay_fresh (s : State) (n e : Nat) : ({ s with fresh := n } : State).giveWay e = { s.giveWay e with fresh := n } := by
  unfold State.giveWay
  have h : ({ s with fresh := n } : State).eng e = s.eng e := rfl
  rw [h]
  cases (s.eng e).wait.isEntry <;> rfl
/-- The premise of the last clause of EretRestores: a Newt's vector word does not rest on a free value. -/
theorem test_Eret_fresh (s : State) (n : Nat) : ({ s with fresh := n } : State).vecWord 9 18 = s.vecWord 9 18 := by
  have h : isNewt 9 = true := by decide
  unfold State.vecWord
  rw [giveWay_fresh]
  generalize s.giveWay 9 = t
  have hv : ({ t with fresh := n } : State).vecAddr 9 18 = t.vecAddr 9 18 := rfl
  simp only [State.readVec, h, if_true, hv]
  cases t.ue.contains (t.vecAddr 9 18) <;> rfl
/-- Four levels are in banks, and SPILL_PTR names word `p`. -/
def spillS (p lim : Word) : State :=
  (((at_ 9 [] { a := 5 }).set (aENG_STATUS 9) ENG_STATUS.ctx_used 4).setReg (aSPILL_PTR 9) p).setReg (aSPILL_LIM 9) lim
theorem test_Spill :
    let s := spillS 0x1000 0xFF0 |> vec 9 4 0x110
    s.ue.contains (s.vecAddr 9 4) = false ∧ (s.reg (aSPILL_LIM 9)).toNat + 16 ≤ (s.reg (aSPILL_PTR 9)).toNat ∧
      (s.takeVec 9 4 none {} none).word 0x20093FC0 = 5 ∧ ((s.takeVec 9 4 none {} none).eng 9).pc = 0x110 := by
  decide +kernel
theorem test_Spill_fault :
    let s := spillS 0xFFF 0xFF0 |> vec 9 15 0x13C
    s.ue = [] ∧ s.ce = [] ∧ (s.reg (aSPILL_PTR 9)).toNat < (s.reg (aSPILL_LIM 9)).toNat + frameLen 9 ∧
      ((s.takeVec 9 4 none {} none).eng 9).pc = 0x13C := by decide +kernel
/-- Input 31 of Newt 9 is pending at priority 7. -/
def licS : State :=
  ((((at_ 9 [] {}).set (aENG_S 9) ENG_S.iel 0).setReg (aLIC_CFG 9 31) 0xF0000005).setReg (aLIC_SWP0 9) 0x80000000) |> vec 9 63 0x1FC
theorem test_InterruptEntry :
    licS.canEnter 9 = true ∧ nextAsync (licS.eng 9).pend = none ∧ licS.licBest 9 = some 31 ∧ ent licS 9 63 = true ∧
      after (.interruptEntry 9) licS (fun t => (t.eng 9).pc == 0x1FC && !t.swp 9 31 && sget none (t.eng 9).moder 31 == some 1000000) = true := by
  decide +kernel
theorem test_AsyncEntry :
    let s := at_ 9 [] { pend := [17, 10] } |> vec 9 10 0x128
    s.canEnter 9 = true ∧ nextAsync (s.eng 9).pend = some 10 ∧ ent s 9 10 = true ∧
      after (.asyncExceptionEntry 9) s (fun t => (t.eng 9).pc == 0x128 && (t.eng 9).pend == [17]) = true := by decide +kernel
theorem test_ModerationExpiry :
    let s := up.setEng 9 { moder := [(5, some 1000000)] }
    sget none (s.eng 9).moder 5 = some 1000000 ∧ 1000000 ≤ s.tb ∧
      after (.moderationExpiry 9 5) s (fun t => sget none (t.eng 9).moder 5 == none) = true := by decide +kernel
theorem test_FailedEntry :
    let s := { at_ 9 [] { first := some 6 } with ue := [engRam 9 + 4 * 5] }
    s.ue.contains (s.vecAddr 9 5) = true ∧ (s.takeVec 9 5 none {} none).halted 9 = true ∧ (s.eng 9).first = some 6 ∧
      (s.except 9 4 true {}).halted 9 = true := by decide +kernel
/-! ### Engine control, routing, watchdogs, caches -/

def stg (s : State) (g a : Nat) : Bool :=
  s.stagedAt a == none && !s.on (aCG_STATUS g) CG_STATUS.overflow && decide (s.get (aCG_STATUS g) CG_STATUS.staged_cnt < 4096)
theorem stagesIn_of {s : State} {g a : Nat} (h : stg s g a = true) : s.StagesIn g a := by
  simp only [stg, Bool.and_eq_true, beq_iff_eq, Bool.not_eq_true', decide_eq_true_eq] at h
  exact ⟨h.1.1, h.1.2, h.2⟩
theorem test_NewtStart :
    let s := up |> vec 200 0 0x101
    s.admits q0 (islCLU 12) = true ∧ s.ctlFar q0 = true ∧ stg s (s.rsel (reqNum q0)) (aENG_CTRL 200) = true ∧
      s.on (aENG_CTRL 200) ENG_CTRL.run = false ∧ s.newtReady 200 = true ∧ s.ue.contains (s.vecAddr 200 0) = false ∧
      after (.newtRunStart q0 200 0x80000000) s (fun t => (t.eng 200).pc == 0x100 && t.on (aENG_CTRL 200) ENG_CTRL.run && acked q0 t) = true := by
  decide +kernel
def running (e : Nat) (x : Engine) : State := (at_ e [] x).set (aENG_CTRL e) ENG_CTRL.run 1
theorem test_NewtStop :
    let s := running 200 {}
    stg s (s.rsel (reqNum q0)) (aENG_CTRL 200) = true ∧ s.on (aENG_CTRL 200) ENG_CTRL.run = true ∧ s.halted 200 = false ∧
      s.atRest 200 = true ∧ after (.newtRunStop q0 200 0) s (fun t => t.halted 200 && !t.on (aENG_CTRL 200) ENG_CTRL.run && acked q0 t) = true := by
  decide +kernel
theorem test_NewtStop_later :
    let s := running 200 { wait := .load, cur := [0x80000000] }
    s.atRest 200 = false ∧ after (.newtRunStop q0 200 0) s (fun t => (t.eng 200).halting && !t.halted 200) = true := by decide +kernel
theorem test_WdtKick :
    up.reach (islCLU 0) = true ∧ after (.wdtKick q0 0 0xA5) up (fun t => t.get (aWDT_STATUS 0) WDT_STATUS.remaining == 1000 && acked q0 t) = true ∧
      after (.wdtKick q0 0 0x5A) up (fun t => t.on (aWDT_STATUS 0) WDT_STATUS.bad_key && acked q0 t) = true := by decide +kernel
def wdS : State := ((running 9 {}).set (aWDT_CTRL 9) WDT_CTRL.en 1).set (aWDT_STATUS 9) WDT_STATUS.remaining 0
theorem test_WdtExpiry :
    wdS.wdtCounts 9 = true ∧ wdS.get (aWDT_STATUS 9) WDT_STATUS.remaining = 0 ∧
      after (.wdtExpiry 9) wdS (fun t => t.on (aWDT_STATUS 9) WDT_STATUS.first_expiry && (t.eng 9).pend == [13]) = true := by decide +kernel
theorem test_WdtExpiry_second :
    let s := wdS.set (aWDT_STATUS 9) WDT_STATUS.first_expiry 1
    s.wdtCounts 9 = true ∧ s.on (aWDT_STATUS 9) WDT_STATUS.first_expiry = true ∧
      after (.wdtExpiry 9) s (fun t => t.halted 9 && (t.rgClu 0).waiting == [s.failure 9 1]) = true ∧
      s.newtFailed 9 = false ∧ s.isSpare 0 9 = false ∧ (s.rgClu 0).cur = none := by decide +kernel
theorem test_LicSwp :
    up.ctlFar q0 = true ∧ after (.licSwpWrite q0 200 false 0x80000001) up (fun t => t.reg (aLIC_SWP0 200) == 0x80000001 && acked q0 t) = true := by
  decide +kernel
theorem test_LicSwp_skink :
    up.admits (.skink 1) (islSUP 1) = true ∧ up.ringOf (.skink 1) ≤ 1 ∧
      after (.licSwpWrite (.skink 1) 257 true 0x80000001) up (fun t => t.reg (aLIC_SWP0 257 + 4) == 0x80000001) = true := by decide +kernel
theorem test_RouteCfg :
    up.admits q0 islAON = true ∧ up.ringOf q0 ≤ 1 ∧ getBits 0x8100003F#32 ROUTE_CFG.engine = 256 ∧
      after (.routeCfgWrite q0 511 0x8100003F) up (fun t => t.steered 511 256 63 && !t.steered 511 255 63 && acked q0 t) = true := by decide +kernel
theorem test_RouteCfg_ring :
    let s := up.set (aENG_S 0) ENG_S.ring 2
    1 < s.ringOf q0 ∧ after (.routeCfgWrite q0 511 0) s (refused q0) = true := by decide +kernel
theorem test_RouterSourceChange :
    let s := (up.set aFAB_ERR FAB_ERR.valid 1).set aFAB_ERR FAB_ERR.irq_en 1
    s.alive islAON = true ∧ s.routerLevel 96 = true ∧ after (.routerSourceChange 96) s (fun t => t.routed == [96]) = true ∧
      s.routerLevel 0 = false ∧ after (.routerSourceChange 0) { s with routed := [0] } (fun t => t.routed == []) = true := by decide +kernel
/-! ### Far stores and caches -/

def far9 (a : Nat) : Store := { kind := .far, addr := a, data := 0xCAFE, size := 0, ring := 0 }
theorem test_FarStoreDrain :
    let s := up.setEng 9 { buf := [far9 0x10000000, far9 0x10000004] }
    (s.eng 9).buf = far9 0x10000000 :: [far9 0x10000004] ∧ s.clocked 9 = true ∧ inWindow 0x10000000 = false ∧
      s.target 0x10000000 = some islSYS ∧ s.reach islSYS = true ∧ (s.fifo (engIsl 9) islSYS).length < 8 ∧ after (.farStoreDrain 9) s
        (fun t => t.fifo 10 islSYS == [farX 0x10000000].map (fun x => { x with eng := 9 }) && (t.eng 9).acks == 1 && (t.eng 9).buf.length == 1) = true := by
  decide +kernel
theorem test_ArmDrain :
    let b : Store := { kind := .arm 31, addr := 0, data := 0, size := 0, ring := 0 }
    let s := up.setEng 9 { buf := [b] }
    s.clocked 9 = true ∧ (s.eng 9).acks = 0 ∧ s.reach islSYS = true ∧ s.fifo (engIsl 9) islSYS = [] ∧
      after (.farStoreDrain 9) s (fun t => t.fifo 10 1 == [{ eng := 9, st := b, cg := 0 }] && (t.eng 9).buf == [] &&
        after (.handshakeFifoDelivery 10 1) t (fun u => u.cc.armReqs == [31] && u.fifo 10 1 == [])) = true := by decide +kernel
def sErr : StoreErr := { addr := 0x10000000, data := 7, size := 0, ring := 3, cause := 2 }
theorem test_StoreFault :
    let s := up.setEng 9 { errs := [sErr], acks := 1 }
    (s.eng 9).errs = sErr :: [] ∧ s.on (aFAR_STAT 9) FAR_STAT.valid = false ∧ after (.impreciseStoreFault 9) s
      (fun t => t.reg (aFAR_ADDR 9) == 0x10000000 && t.reg (aFAR_STAT 9) == 0xAB000000 && (t.eng 9).pend == [10]) = true := by decide +kernel
theorem test_StoreFault_counted :
    let s := (up.setEng 9 { errs := [sErr], acks := 1 }).setReg (aFAR_STAT 9) 0x8000FFFF
    s.on (aFAR_STAT 9) FAR_STAT.valid = true ∧
      after (.impreciseStoreFault 9) s (fun t => t.reg (aFAR_STAT 9) == 0x8000FFFF && (t.eng 9).pend == []) = true := by decide +kernel
/-- Skink 0 with two dirty data lines, of which CACHE_ADDR names the first. -/
def lineA (a : Nat) (d : Bool) : Line := { addr := a, words := List.replicate 16 0x55, dirty := d }
def lineB (a : Nat) : Store := { kind := .line (List.replicate 16 0x55), addr := a, data := 0, size := 0, ring := 0 }
def skS : State :=
  ((up.set (aENG_STATUS 256) ENG_STATUS.halted 0).setEng 256
    { icache := [lineA 0x10000040 false], dcache := [lineA 0x10000040 true, lineA 0x10000080 true] }).setReg (aSK_CACHE_ADDR 256) 0x10000040
theorem test_CacheInvalidate :
    skS.clocked 256 = true ∧ skS.ring 256 = 0 ∧ (skS.eng 256).buf = [] ∧ getBits 0x300#32 SK_CACHE_OP.op = 0 ∧
      after (.cacheInvalidate 0 0x300) skS (fun t => (t.eng 256).icache == [] && (t.eng 256).dcache == [lineA 0x10000080 true] &&
        t.word 0x10000040 == 0) = true := by decide +kernel
theorem test_CacheClean :
    getBits 0x210#32 SK_CACHE_OP.op = 1 ∧ 2 ≤ getBits 0x210#32 SK_CACHE_OP.cache ∧ (skS.eng 256).cop = none ∧ after (.cacheClean 0 0x210) skS
      (fun t => (t.eng 256).dcache == [lineA 0x10000040 false, lineA 0x10000080 true] && (t.eng 256).cop == some 0x210 &&
        (t.eng 256).buf == [lineB 0x10000040]) = true := by decide +kernel
theorem test_CacheCleanInvalidate :
    getBits 0x321#32 SK_CACHE_OP.op = 2 ∧ after (.cacheCleanInvalidate 0 0x321) skS (fun t => (t.eng 256).cop == some 0x321 &&
      (t.eng 256).dcache == [lineA 0x10000040 false, lineA 0x10000080 false] && (t.eng 256).buf == [lineB 0x10000040, lineB 0x10000080]) = true ∧
    after (.cacheCleanInvalidate 0 0x321) (skS.setEng 256 { dcache := [lineA 0x10000040 false] })
      (fun t => (t.eng 256).dcache == [] && (t.eng 256).cop == none) = true := by decide +kernel
/-- The last line leaves the buffer, and the operation, which invalidates as well, ends. -/
theorem test_CacheOp_ends :
    let s := skS.setEng 256 { dcache := [lineA 0x10000040 false], buf := [lineB 0x10000040], cop := some 0x321 }
    s.clocked 256 = true ∧ s.crossing 0x10000040 = some islSYS ∧ s.reach islSYS = true ∧ s.fifo (engIsl 256) islSYS = [] ∧
      after (.farStoreDrain 256) s (fun t => (t.eng 256).cop == none && (t.eng 256).dcache == [] && (t.eng 256).acks == 1) = true := by
  decide +kernel
/-- The entry word that a Skink waited for names ring 1: the interrupt is not entered. -/
theorem test_Entry_skipped :
    let s := ((up.set (aENG_STATUS 256) ENG_STATUS.halted 0).setReg (aVBR 256) 0x40600000).setEng 256
      { wait := .entry 63 (some 8) {} (some 31), reply := .words [0x201] }
    s.goesOn 256 = true ∧ s.frameRoom 256 = true ∧ (match (s.readVec 256 63).2 with
      | .word w => w == 0x201
      | _ => false) = true ∧ s.ring 256 < vecRing 63 0x201 ∧
      after (.farLoadResponse 256) s (fun t => (t.eng 256).skip == [31] && (t.eng 256).wait == .none) = true := by decide +kernel
/-- The line on its way to system SRAM, and a fill's request on its way there. -/
theorem test_LineDelivery :
    let x : Xfer := { eng := 256, st := lineB 0x107FFFC0, cg := 0 }
    let s := { up with fifos := [(26 * 23 + 1, [x])], engs := [(256, { acks := 1 })] }
    s.fifo 23 1 = [x] ∧ s.reach islSYS = true ∧ s.initAt 0x107FFFC0 = false ∧ after (.handshakeFifoDelivery 23 1) s
      (fun t => t.fifo 23 1 == [] && t.word 0x107FFFC0 == 0x55 && t.word 0x107FFFFC == 0x55 && (t.eng 256).acks == 0) = true := by decide +kernel
theorem test_FillRequest :
    let x : Xfer := { eng := 257, st := { kind := .op, addr := 0x10000040, data := 0, size := 3, ring := 0 }, cg := 0 }
    let s := ({ up with fifos := [(26 * 23 + 1, [x])], engs := [(257, { wait := .fill true 0x10000040 })] }).putWord 0x1000007C 9
    s.fifo 23 1 = [x] ∧ s.reach islSYS = true ∧ s.initAt 0x10000040 = false ∧ s.ue = [] ∧ s.ce = [] ∧ after (.handshakeFifoDelivery 23 1) s
      (fun t => t.fifo 23 1 == [] && (t.eng 257).reply == .words (List.replicate 15 0 ++ [9])) = true := by decide +kernel
theorem test_CacheLineFill :
    let ws : List Word := List.replicate 15 0 ++ [9]
    let s := (up.set (aENG_STATUS 257) ENG_STATUS.halted 0).setEng 257 { wait := .fill true 0x10000040, reply := .words ws }
    (s.eng 257).wait = .fill true 0x10000040 ∧ s.goesOn 257 = true ∧ s.lineDue 257 0x10000040 = false ∧ s.lineRoom 257 true 0x10000040 = true ∧
      inWindow 0x10000040 = false ∧ after (.cacheLineFill 1) s (fun t => (t.eng 257).wait == .none && lineOf (t.eng 257).icache 0x10000040 ==
        some { addr := 0x10000040, words := ws, dirty := false, way := (s.eng 257).wayFor true 0x10000040 }) = true := by decide +kernel
/-! ### PWM slices -/

/-- Slice 5 counts in SAWTOOTH with a period of 100 ns, of which the first started at TB = 999,950. -/
def slX : Slice := { counting := true, s := 128 * 999950, p := 100, zeroPend := false, perPend := false }
def sl5 (x : Slice) : State := ((up.set (aSL_CTRL 5) SL_CTRL.run 1).setReg (aPER 5) (100 * 128)).setSlice 5 x
theorem test_CompareActions :
    slX.downFrom = none ∧ slX.upAction 99 127 = some (1000049, 127) ∧ slX.upAction 100 0 = none ∧ slX.downAction 100 0 = some (1000050, 0) ∧
      slX.downAction 99 127 = some (1000050, 1) ∧ slX.downAction 0 0 = none ∧ slX.downAction 100 1 = none := by decide +kernel
def actOf (i : Nat) : Act := { input := i, take := 1000000, src := 999996, arr := 999997 }
def withAct (i : Nat) (s : State) : State := { s with fab := { s.fab with acts := [actOf i] } }
theorem test_SliceSync :
    let s := withAct 2197 ((sl5 slX).setReg (aPHS 5) 0x80)
    s.actFor 2197 = some (actOf 2197) ∧ s.captureOwed 5 1000000 = false ∧ s.member 5 = false ∧ s.position 5 100 0 = 128 ∧
      after (.sliceSync 5) s (fun t => (t.slice 5).s == 128 * 999999 && (t.slice 5).counting && t.fab.acts == []) = true := by decide +kernel
theorem test_SliceSync_member :
    let s := withAct 2197 ((sl5 slX).set (aSL_STG 5) SL_STG.member 1)
    s.member 5 = true ∧ after (.sliceSync 5) s (fun t => t.on (aSL_STATUS 5) SL_STATUS.stg_err) = true := by decide +kernel
/-- What `WriteAlone` says, as a computation. -/
def alone (s : State) (n : Nat) : Bool :=
  (s.slice n).writes == [] && s.commitOwed (s.tb + 1) == false && s.fab.acts.all (fun a => a.input != 2192 + n && a.input != 3000 + n) &&
    (!(s.slice n).counting || s.slMode n == 2 || decide ((s.tb + 2 : Int) ≤
      if s.stopping n then (s.slice n).endTick (s.slMode n) else s.nextStart n / 128))
theorem writeAlone_of {s : State} {n : Nat} (h : alone s n = true) : s.WriteAlone n := by
  simp only [alone, Bool.and_eq_true, beq_iff_eq, List.all_eq_true, bne_iff_ne, Bool.or_eq_true, Bool.not_eq_true', decide_eq_true_eq] at h
  obtain ⟨⟨⟨h1, h2⟩, h3⟩, h4⟩ := h
  exact ⟨h1, h2, h3, fun hc hm => h4.resolve_left (by simp [hc, hm])⟩
theorem test_SwSync :
    let s := sl5 slX
    s.admits q0 (islTIM 0) = true ∧ s.carried = none ∧ getBits 0x80000001#32 SL_CTRL.sw_sync = 1 ∧ getBits 0x80000001#32 SL_CTRL.sw_start = 0 ∧
      stg s (s.rsel (reqNum q0)) (aSL_CTRL 5) = true ∧ s.member 5 = false ∧ alone s 5 = true ∧ after (.swSync q0 5 0x80000001) s
        (fun u => (u.slice 5).s == 128 * 999950 && after (.sliceWriteCapture 5) (u.later 2)
          (fun t => (t.slice 5).s == 128 * 1000002 && (t.slice 5).writes == [] && acked q0 t)) = true := by decide +kernel
theorem test_SwStart :
    let s := (sl5 { armed := true }).set (aSL_CTRL 5) SL_CTRL.mode 2
    getBits 0xA0000002#32 SL_CTRL.sw_start = 1 ∧ getBits 0xA0000002#32 SL_CTRL.sw_sync = 0 ∧ stg s (s.rsel (reqNum q0)) (aSL_CTRL 5) = true ∧
      alone s 5 = true ∧ s.slMode 5 = 2 ∧ (s.slice 5).armed = true ∧ after (.swStart q0 5 0xA0000002) s
        (fun u => !(u.slice 5).counting && after (.sliceWriteCapture 5) (u.later 2)
          (fun t => (t.slice 5).counting && (t.slice 5).s == 128 * 1000002 && acked q0 t)) = true := by decide +kernel
theorem test_SliceRunStart :
    let s := sl5 { runPend := some 999990 }
    (s.slice 5).runPend = some 999990 ∧ s.on (aSL_CTRL 5) SL_CTRL.run = true ∧ s.isReady 13 5 = true ∧ s.chained 5 = false ∧ s.member 5 = false ∧ s.sliceHeld 5 999990 = false ∧
      after (.sliceRunStart 5) s (fun t => (t.slice 5).counting && (t.slice 5).s == 128 * 999990 && (t.slice 5).runPend == none) = true := by
  decide +kernel
def oneShot (x : Slice) : State := withAct 3005 ((sl5 x).set (aSL_CTRL 5) SL_CTRL.mode 2)
theorem test_SliceStart :
    (oneShot { armed := true }).actFor 3005 = some (actOf 3005) ∧ (oneShot { armed := true }).slMode 5 = 2 ∧ (oneShot { armed := true }).captureOwed 5 1000000 = false ∧ after (.sliceStart 5) (oneShot { armed := true })
      (fun t => (t.slice 5).counting && (t.slice 5).s == 128 * 1000000) = true := by decide +kernel
theorem test_SliceStart_not :
    after (.sliceStart 5) (oneShot {}) (fun t => t.on (aSL_STATUS 5) SL_STATUS.sovr && !(t.slice 5).counting) = true := by decide +kernel
theorem test_SliceStop :
    let s := ((sl5 { slX with s := 128 * 999900 }).set (aSL_CTRL 5) SL_CTRL.run 0).set (aSL_OUT 5) SL_OUT.idle_b 1
    (s.slice 5).counting = true ∧ s.stopping 5 = true ∧ (s.slice 5).endTick (s.slMode 5) = 1000000 ∧ s.sliceHeld 5 1000000 = false ∧
      after (.sliceStop 5) s (fun t => !(t.slice 5).counting && t.sliceOut 5 true && !t.sliceOut 5 false) = true := by decide +kernel
/-- Input 100 selects producer `p`. -/
def sel (p : Nat) (s : State) : State := s.set (aFAB_SEL 100) FAB_SEL.prod_sel p
def fired (p : Nat) (t : State) : Bool := t.fab.edges.map (fun x => (x.input, x.producer)) == [(100, p)]
theorem test_SliceZero :
    let s := sel 40 (sl5 { slX with zeroPend := true })
    s.chained 5 = false ∧ (s.slice 5).zeroPend = true ∧ (s.slice 5).z = 999950 ∧ s.sliceHeld 5 999950 = false ∧
      after (.sliceZero 5) s (fun t => fired 40 t && t.on (aSL_STATUS 5) SL_STATUS.zero_f && (t.slice 5).s == 128 * 999950) = true := by decide +kernel
theorem test_SliceZero_next :
    let s := ((sel 40 (sl5 { slX with s := 128 * 999900, shadow := [(aCMP 5 1, some 0x500)] })).set (aSL_LOAD 5) SL_LOAD.ld_b 1)
    s.stopping 5 = false ∧ s.loadPoint 5 (aCMP 5 1) = 1 ∧ sget none (s.slice 5).shadow (aCMP 5 1) = some 0x500 ∧ s.sliceHeld 5 1000000 = false ∧
      after (.sliceZero 5) s (fun t => fired 40 t && (t.slice 5).s == 128 * 1000000 && t.reg (aCMP 5 1) == 0x500) = true := by decide +kernel
theorem test_SlicePeriod :
    let s := sel 41 (sl5 { slX with s := 128 * 999900, perPend := true })
    (s.slice 5).perTick (s.slMode 5) ≤ s.tb ∧ s.sliceHeld 5 ((s.slice 5).perTick (s.slMode 5)) = false ∧
      after (.slicePeriod 5) s (fun t => fired 41 t && t.on (aSL_STATUS 5) SL_STATUS.per_f && (t.slice 5).counting) = true := by decide +kernel
/-- In ONESHOT the compare action of the period tick takes place before the count holds. -/
theorem test_SlicePeriod_oneShot :
    let s := (sel 41 (sl5 { slX with s := 128 * 999900, perPend := true })).set (aSL_CTRL 5) SL_CTRL.mode 2
    s.slMode 5 = 2 ∧ (s.slice 5).perTick (s.slMode 5) ≤ s.tb ∧
      after (.slicePeriod 5) s (fun t => !(t.slice 5).counting && t.on (aSL_STATUS 5) SL_STATUS.cmpd_f) = true := by decide +kernel
theorem test_CompareMatch :
    let s := sel 45 ((sl5 slX).setReg (aCMP 5 3) (50 * 128 + 3))
    s.slCounting 5 = true ∧ s.cmpDue 5 3 = some (1000000, 3, false, 3) ∧ s.sliceHeld 5 1000000 = false ∧
      after (.compareMatch 5 3) s (fun t => fired 45 t && t.on (aSL_STATUS 5) SL_STATUS.cmpd_f && (t.slice 5).acted == [3]) = true := by decide +kernel
theorem test_EdgeList :
    let s := sel 46 (((sl5 slX).set (aSL_CTRL 5) SL_CTRL.mode 3).setReg (aELB 5 7) (putBits (putBits 0 ELA.ns 50) ELA.ev 1))
    s.slMode 5 = 3 ∧ s.elDue 5 (elToken true 7) (s.reg (aEL 5 true 7)) = some 1000000 ∧ s.sliceHeld 5 1000000 = false ∧
      after (.edgeListEntry 5 true 7) s (fun t => fired 46 t && t.on (aSL_STATUS 5) SL_STATUS.el_f) = true := by decide +kernel
theorem test_Recal : up.pwm.recal + 1000000 ≤ up.tb ∧ after .fineDelayRecal up (fun t => t.pwm.recal == 1000000) = true := by decide +kernel
def swx : Xfer := { eng := 0, st := { kind := .cmd true, addr := aCMP 5 0, data := 0x700, size := 0, ring := 0 }, cg := 0 }
def swr : SWrite := { arrive := 999998, addr := aCMP 5 0, val := 0x700, xfer := swx }
theorem test_SliceWrite :
    let s := (sl5 { slX with writes := [swr] }).set (aSL_LOAD 5) SL_LOAD.ld_a 0
    (s.slice 5).nextWrite 5 = some swr ∧ s.captures 5 1000000 = true ∧ swr.xfer.eng = reqNum q0 ∧ aCMP 5 0 ∈ loadAddrs 5 ∧ aCMP 5 0 ≠ aPER 5 ∧
      s.loadPoint 5 (aCMP 5 0) = 0 ∧ after (.sliceWriteCapture 5) s (fun t => t.reg (aCMP 5 0) == 0x700 && (t.slice 5).writes == [] && acked q0 t) = true := by
  decide +kernel
theorem test_SliceWrite_shadow :
    let s := sl5 { slX with writes := [swr] }
    s.loadPoint 5 (aCMP 5 0) ≠ 0 ∧
      after (.sliceWriteCapture 5) s (fun t => t.reg (aCMP 5 0) == 0 && sget none (t.slice 5).shadow (aCMP 5 0) == some 0x700) = true := by decide +kernel
/-! ### Parameter pages: an unlisted PG_CFG is clean -/

theorem dims2 {s1 n1 s2 n2 o : Nat} (h : dimsHit [(s1, n1), (s2, n2)] o = true) : ∃ i j, o = i * s1 + j * s2 := by
  simp only [dimsHit, Bool.if_false_left, Bool.and_eq_true, decide_eq_true_eq, beq_iff_eq] at h
  obtain ⟨_, _, _, _, h⟩ := h
  have h1 : min (o / s1) (n1 - 1) * s1 ≤ o := le_trans (Nat.mul_le_mul_right _ (min_le_left _ _)) (Nat.div_mul_le_self o s1)
  have h2 := le_trans (Nat.mul_le_mul_right s2 (min_le_left ((o - min (o / s1) (n1 - 1) * s1) / s2) (n2 - 1))) (Nat.div_mul_le_self _ s2)
  exact ⟨min (o / s1) (n1 - 1), min ((o - min (o / s1) (n1 - 1) * s1) / s2) (n2 - 1), by omega⟩

theorem pgCfg_eq (p : Nat) : pgCfg p = 0x201F0200 + p / 64 * 0x200000 + p % 64 * 4 := by simp only [pgCfg, aPG_CFG]

theorem resetWord_bits (a : Nat) (f : Fld) (h : ∀ r, regRow a = some r → getBits r.resetWord f = 0) : getBits (resetWord a) f = 0 := by
  unfold resetWord
  split
  · exact h _ ‹_›
  · simp [getBits]

theorem rows_dirty : ∀ r ∈ rowsClutch, getBits r.resetWord PG_CFG.dirty ≠ 0 → r.base = 0x2000F004 ∧ r.dims = [(2097152, 16), (65536, 16)] := by
  decide +kernel

theorem regRow_clutch (a : Nat) (r : RegRow) (ha : a < 0x22000000) (h : regRow a = some r) : r ∈ rowsClutch ∧ r.hit a = true := by
  unfold regRow rowsAt at h
  rw [if_pos ha] at h
  have := List.find?_some h
  exact ⟨List.mem_of_find?_eq_some h, this⟩

theorem pgCfg_reset (a : Nat) (ha : a < 0x22000000) (h1 : 0x201F0200 ≤ a) (h2 : (a - 0x2000F004) % 65536 ≠ 0) :
    getBits (resetWord a) PG_CFG.dirty = 0 := by
  refine resetWord_bits a _ (fun r h => ?_)
  obtain ⟨hm, hh⟩ := regRow_clutch a r ha h
  by_contra hn
  obtain ⟨hb, hd⟩ := rows_dirty r hm hn
  simp only [RegRow.hit, hb, hd, Bool.and_eq_true, decide_eq_true_eq] at hh
  obtain ⟨i, j, h3⟩ := dims2 hh.2
  omega

/-- Does no register of a list stand at a PG_CFG, but for that of page `k`? -/
def offPages (k : Nat) (l : List (Nat × Word)) : Bool :=
  l.all (fun x => decide (x.1 < 0x201F0200) || decide (0x22000000 ≤ x.1) || x.1 == pgCfg k)

theorem sget_off (d : Word) (k a : Nat) (l : List (Nat × Word)) (h : offPages k l = true) (h1 : 0x201F0200 ≤ a) (h2 : a < 0x22000000)
    (h3 : a ≠ pgCfg k) : sget d l a = d := by
  induction l with
  | nil => rfl
  | cons x l ih =>
    simp only [offPages, List.all_cons, Bool.and_eq_true, Bool.or_eq_true, decide_eq_true_eq, beq_iff_eq] at h
    simp only [sget]
    rw [if_neg (by omega), ih h.2]

theorem clean_of (s : State) (k p : Nat) (h : offPages k s.regs = true) (hp : p < 1024) (hk : p ≠ k) : s.dirty p = false := by
  have hp' := pgCfg_eq p
  have hk' := pgCfg_eq k
  have : s.reg (pgCfg p) = resetWord (pgCfg p) := sget_off _ k _ _ h (by omega) (by omega) (by omega)
  simp [State.dirty, State.on, State.get, this, pgCfg_reset (pgCfg p) (by omega) (by omega) (by omega)]

theorem dirtyPages_none (s : State) (g : Nat) (h : offPages 1024 s.regs = true) : s.dirtyPages g = [] := by
  refine List.filter_eq_nil_iff.2 (fun p hp => ?_)
  have := List.mem_range.1 hp
  simp [clean_of s 1024 p h this (by omega)]

theorem dirtyPages_one (s : State) (g k : Nat) (h : offPages k s.regs = true) (hk : k < 1024)
    (hd : (s.dirty k && s.get (pgCfg k) PG_CFG.cg == g) = true) : s.dirtyPages g = [k] := by
  have : s.dirtyPages g = (List.range 1024).filter (fun p => p == k) := by
    refine List.filter_congr (fun p hp => ?_)
    by_cases e : p = k
    · subst e; simp [hd]
    · simp [clean_of s k p h (List.mem_range.1 hp) e, e]
  rw [this, List.filter_beq, List.count_eq_one_of_mem List.nodup_range (List.mem_range.2 hk)]
  rfl

/-! ### Trip zones and the safe state -/

/-- Zone 3 is enabled; slot 7 takes TRIPIN 31, which is asserted; it drives output 9 low. -/
def zoneS : State :=
  let s := ((up.set aSAFE_CTRL SAFE_CTRL.hold 0).set (aTZ_CFG 3) TZ_CFG.en 1).set (aTRIPIN_CFG 31) TRIPIN_CFG.lvl 1
  ((s.set (aTZ_SRC 3 7) TZ_SRC.en 1).set (aTZ_SRC 3 7) TZ_SRC.src 31).setReg (aTZ_ACT 3 0) (1 <<< 18)
theorem test_ZonesTrip :
    let s := sel 803 zoneS
    s.zoneActs 3 = true ∧ s.zoneInput 3 = true ∧ s.tripped 3 = false ∧ s.on (aTZ_CFG 3) TZ_CFG.escalate = false ∧ s.actedSlices 3 = [4] ∧
      after (.tripStateSet 3) s (fun t => t.tripped 3 && fired 803 t && t.on (aTZ_STATUS 3) TZ_STATUS.flag) = true := by decide +kernel
theorem test_ZonesTrip_escalates :
    let s := zoneS.set (aTZ_CFG 3) TZ_CFG.escalate 1
    s.zoneActs 3 = true ∧ s.canTrip = true ∧
      after (.tripStateSet 3) s (fun t => t.mode == .tripped && t.get aSAFE_CTRL SAFE_CTRL.esc_zone == 3 && t.safe) = true := by decide +kernel
theorem test_TrippedWrite :
    let s := { (zoneS.set (aTRIPIN_CFG 31) TRIPIN_CFG.lvl 0).set (aTZ_STATUS 3) TZ_STATUS.tripped 1 with cyc := {} }
    s.admits q0 (islTIM 0) = true ∧ s.tripped 3 = true ∧ s.zoneInput 3 = false ∧ s.hwNow (aTZ_STATUS 3) = 0 ∧
      after (.trippedWrite q0 3 0x80000000) s (fun t => !t.tripped 3 && acked q0 t) = true := by decide +kernel
theorem test_ZoneZero :
    let s := ((((zoneS.set (aTRIPIN_CFG 31) TRIPIN_CFG.lvl 0).set (aTZ_STATUS 3) TZ_STATUS.tripped 1).set (aTZ_CFG 3) TZ_CFG.mode 2).set
      (aTZ_STATUS 3) TZ_STATUS.hold_left 1)
    s.tripped 3 = true ∧ (s.zoneZero 3).tripped 3 = false ∧ (s.zoneZero 3).get (aTZ_STATUS 3) TZ_STATUS.hold_left = 0 := by decide +kernel
theorem test_TripinChange :
    let s := sel 863 up
    s.alive islAON = true ∧ s.on (aTRIPIN_CFG 31) TRIPIN_CFG.lvl = false ∧ (false == s.on (aTRIPIN_CFG 31) TRIPIN_CFG.pol) = true ∧
      999999 + s.deglitch 31 ≤ s.tb ∧
      after (.tripinChange 31 false 999999) s (fun t => fired 863 t && t.on (aTRIPIN_CFG 31) TRIPIN_CFG.lvl) = true := by decide +kernel
/-- With a deglitch of 4 ns the ball has not been stable long enough. -/
theorem test_TripinChange_short :
    let s := up.set (aTRIPIN_CFG 31) TRIPIN_CFG.dg 1
    after (.tripinChange 31 false 999997) s (fun t => !t.on (aTRIPIN_CFG 31) TRIPIN_CFG.lvl) = true ∧
      after (.tripinChange 31 false 999996) s (fun t => t.on (aTRIPIN_CFG 31) TRIPIN_CFG.lvl) = true := by decide +kernel
theorem test_SafenLow : up.mode ≠ .reset ∧
    after .safenLow up (fun t => t.safe && t.on aSAFE_CTRL SAFE_CTRL.safen_seen && t.mode == .safehold) = true := by decide +kernel
theorem test_SafeRelease :
    let w := putBits 0 SAFE_CTRL.release 1
    getBits w SAFE_CTRL.release = 1 ∧ getBits w SAFE_CTRL.trip_clr = 0 ∧
      up.admits q0 islAON = true ∧ up.ringOf q0 = 0 ∧ after (.safeRelease q0 w true) { up with mode := .safehold } (fun t => !t.on aSAFE_CTRL SAFE_CTRL.hold && t.mode == .run && acked q0 t) = true ∧
      after (.safeRelease q0 w false) { up with mode := .safehold } (fun t => t.on aSAFE_CTRL SAFE_CTRL.rel_refused && t.mode == .safehold) = true := by
  decide +kernel
/-- SAFEn was low before the write; and a write that finds it low for the first time in RUN. -/
theorem test_SafeRelease_low :
    let w := putBits 0 SAFE_CTRL.release 1
    let low := { up with mode := .safehold, trip := { up.trip with safenLow := true } }
    low.admits q0 islAON = true ∧ low.ringOf q0 = 0 ∧ up.trip.safenLow = false ∧ up.mode ≠ .reset ∧
      after (.safeRelease q0 w false) low (fun t => t.on aSAFE_CTRL SAFE_CTRL.rel_refused && t.on aSAFE_CTRL SAFE_CTRL.hold) = true ∧
      after (.safeRelease q0 w false) up (fun t => t.on aSAFE_CTRL SAFE_CTRL.rel_refused && t.on aSAFE_CTRL SAFE_CTRL.hold && t.mode == .safehold) = true := by
  decide +kernel
theorem test_TripClr :
    let w := putBits 0 SAFE_CTRL.trip_clr 1
    let s := { zoneS with mode := .tripped }
    s.escTripped = false ∧ after (.tripClr q0 w) s (fun t => t.mode == .safehold && t.on aSAFE_CTRL SAFE_CTRL.hold && acked q0 t) = true := by
  decide +kernel
theorem test_TripClr_not :
    let w := putBits 0 SAFE_CTRL.trip_clr 1
    let s := { (zoneS.set (aTZ_CFG 3) TZ_CFG.escalate 1).set (aTZ_STATUS 3) TZ_STATUS.tripped 1 with mode := .tripped }
    s.escTripped = true ∧ after (.tripClr q0 w) s (fun t => t.mode == .tripped && t.on aSAFE_CTRL SAFE_CTRL.rel_refused) = true ∧
      up.mode ≠ .tripped ∧ after (.tripClr q0 w) up (fun t => t.mode == .run && acked q0 t) = true := by decide +kernel
/-- Zone 3 overrides and drives output 9 as `c` says. -/
def drv (c : Word) : State := (zoneS.set (aTZ_STATUS 3) TZ_STATUS.tripped 1).setReg (aTZ_ACT 3 0) (c <<< 18)
theorem test_OutputOrder :
    up.safe = true ∧ up.driven 9 = none ∧ (drv 1).safe = false ∧ (drv 1).zoneNow 3 9 = 1 ∧ (drv 1).zoneAct 3 9 = 1 ∧
      (drv 1).driven 9 = some false ∧ (drv 2).zoneNow 3 9 = 2 ∧ (∀ z, z < 32 → (drv 2).zoneNow z 9 ≠ 1) ∧ (drv 2).driven 9 = some true ∧
      (drv 3).zoneNow 3 9 = 3 ∧ (drv 3).driven 9 = none ∧ (∀ z, z < 32 → (drv 0).zoneNow z 9 = 0) ∧
      (drv 0).driven 9 = some ((drv 0).sliceOut 4 true) ∧ ((drv 2).setSlice 4 { blkLow := true }).driven 9 = some false := by decide +kernel
/-- The trip is cleared; the override that began at 999,999 still holds, and holds no more two ticks after it began. -/
theorem test_Override_min :
    let s := (drv 1).set (aTZ_STATUS 3) TZ_STATUS.tripped 0
    let t (u : Nat) : State := { s with trip := { s.trip with zone := [(3, { acts := [(9, some (1, u))] })] } }
    (t 999999).tripped 3 = false ∧ (t 999999).zoneNow 3 9 = 1 ∧ (t 999998).zoneNow 3 9 = 0 := by decide +kernel
theorem test_Capture :
    let s := sel 895 (withAct 2191 ((up.set (aCAP_CFG 31) CAP_CFG.en 1).set (aCAP_STATUS 31) CAP_STATUS.unread 1))
    s.actFor 2191 = some (actOf 2191) ∧ s.isReady 16 31 = true ∧ after (.capture 31) s
      (fun t => t.reg (aCAP_LO 31) == 999996 && t.on (aCAP_STATUS 31) CAP_STATUS.ovr && fired 895 t && t.fab.acts == []) = true := by decide +kernel
/-! ### Staged state and commits -/

/-- Group 4 is armed since 999,900, for tick `tc`. -/
def arm4 (tc : Option Nat) : Armed :=
  { ta := 999900, shared := false, trig := 3, slice := 0, target := tc, tc := tc, words := [], pages := [], crc := 0, ovf := false, msgs := [] }
def armed4 (x : Armed) (s : State) : State := (s.setArmed 4 (some x)).set (aCG_STATUS 4) CG_STATUS.armed 1
theorem test_ArmRequest :
    let s := { up.set (aCG_CFG 4) CG_CFG.trig 2 with cc := { armReqs := [4] } }
    s.armedOf 4 = none ∧ s.on (aCG_CFG 4) CG_CFG.shared = false ∧ after (.armRequestArrival 4) s
      (fun t => (t.armedOf 4).map (fun x => (x.ta, x.tc)) == some (1000000, some 1000200) && t.on (aCG_STATUS 4) CG_STATUS.armed) = true := by
  decide +kernel
theorem test_ArmRequest_twice :
    let s := { up with cc := { armReqs := [4], armed := [(4, some (arm4 none))] } }
    (s.armedOf 4).isSome = true ∧ after (.armRequestArrival 4) s
      (fun t => t.on (aCG_STATUS 4) CG_STATUS.dbl_arm && t.armedOf 4 == some (arm4 none)) = true := by decide +kernel
theorem test_CgArm : up.admits q0 islSYS = true ∧ getBits 1#32 CG_ARM.arm = 1 ∧
    after (.cgArm q0 4 1) up (fun t => t.cc.armReqs == [4] && acked q0 t) = true := by decide +kernel
theorem test_CgCancel :
    let s := armed4 (arm4 none) up
    getBits 2#32 CG_ARM.arm = 0 ∧ getBits 2#32 CG_ARM.cancel = 1 ∧ s.armedOf 4 = some (arm4 none) ∧ s.tcOf (arm4 none) = none ∧ s.cc.late = [] := by
  decide +kernel
theorem test_CgCancel_late :
    let s := armed4 (arm4 (some 1000199)) up
    s.tcOf (arm4 (some 1000199)) = some 1000199 ∧
      after (.cgCancel q0 4 2) s (fun t => t.on (aCG_STATUS 4) CG_STATUS.wr_ignored && (t.armedOf 4).isSome && acked q0 t) = true := by decide +kernel
/-- TZ_CFG 31 is staged in group `g`; the requester carries group 4. -/
def carries (s : State) : State := { s with cc := { s.cc with port := [(0, 4)] } }
theorem test_StagedWrite :
    let s := carries up
    (0x40200F80#32).toNat = aTZ_CFG 31 ∧ s.admits q0 (islTIM 3) = true ∧ s.rsel (reqNum q0) = 4 ∧ stg s 4 (aTZ_CFG 31) = true ∧
      after (.stagedWrite q0 0x40200F80 (putBits 0 TZ_CFG.en 1)) s (fun t => (t.stagedAt (aTZ_CFG 31)).map (·.grp) == some 4 &&
        !t.on (aTZ_CFG 31) TZ_CFG.en && t.get (aCG_STATUS 4) CG_STATUS.staged_cnt == 1 && acked q0 t) = true := by decide +kernel
theorem test_StagedWrite_conflict :
    let s := carries (up.setStaged (aTZ_CFG 31) (some { grp := 5, val := 0 }))
    s.stagedAt (aTZ_CFG 31) = some { grp := 5, val := 0 } ∧
      after (.stagedWrite q0 0x40200F80 0) s (fun t => t.on (aCG_STATUS 5) CG_STATUS.conflict && refused q0 t) = true := by decide +kernel
/-- What `StagedWrites` asks of a word, and of the requester. -/
def mayStg (s : State) (a : Nat) : Bool :=
  decide (a % 4 = 0) && hasRws (s.busFlds a) && (ctlNewt a).isNone && decide (s.ringOf q0 ≤ if a < 0x40000000 then 1 else writeCap a)
theorem test_StagedWord :
    mayStg up (aTZ_CFG 31) = true ∧ sliceOf (aTZ_CFG 31) = none ∧ stgWord (aTZ_CFG 31) = none ∧ up.held (islTIM 3) = false ∧
      mayStg up (aSL_CTRL 5) = true ∧ sliceOf (aSL_CTRL 5) = some 5 ∧ sliceOf (aCMP 5 0) = some 5 ∧
      (stgWord (aSTG_CFG 3)).isSome = true := by decide +kernel
theorem test_StagedWrite_slice :
    after (.stagedWrite q0 (BitVec.ofNat 32 (aSL_CTRL 5)) 0x80000000) up (fun t => (t.slice 5).writes.map (·.val) == [0x80000000]) = true ∧
      after (.stagedWrite q0 (BitVec.ofNat 32 (aSTG_CFG 3)) 1) up (fun t => t.pwm.stg.map (·.addr) == [aSTG_CFG 3]) = true := by decide +kernel
/-- The capture of a write to SL_CTRL, and of one to a compare register with load point COMMIT; that of one to STG_CFG. -/
def swc (a : Nat) (v : Word) : SWrite :=
  { arrive := 999998, addr := a, val := v, xfer := { eng := 0, st := { kind := .cmd true, addr := a, data := v, size := 0, ring := 0 }, cg := 4 } }
theorem test_StagedCapture :
    let s (x : SWrite) := (sl5 { slX with writes := [x] }).set (aSL_LOAD 5) SL_LOAD.ld_a 4
    (s (swc (aSL_CTRL 5) 0x80000000)).captures 5 1000000 = true ∧ stg (s (swc (aSL_CTRL 5) 0x80000000)) 4 (aSL_CTRL 5) = true ∧
      getBits 0x80000000#32 SL_CTRL.sw_sync = 0 ∧ getBits 0x80000000#32 SL_CTRL.sw_start = 0 ∧
      after (.sliceWriteCapture 5) (s (swc (aSL_CTRL 5) 0x80000000)) (fun t => (t.stagedAt (aSL_CTRL 5)).map (·.grp) == some 4) = true ∧
      (s (swc (aCMP 5 0) 0x700)).loadPoint 5 (aCMP 5 0) = 4 ∧ stg (s (swc (aCMP 5 0) 0x700)) 4 (aCMP 5 0) = true ∧
      after (.sliceWriteCapture 5) (s (swc (aCMP 5 0) 0x700)) (fun t => t.stagedAt (aCMP 5 0) == some { grp := 4, val := 0x700 } &&
        t.reg (aCMP 5 0) == 0) = true := by decide +kernel
theorem test_StagedCapture_stg :
    stg up 4 (aSTG_CFG 3) = true ∧ (up.captureStg (swc (aSTG_CFG 3) 0) 1000000).2 = false ∧
      ((up.captureStg (swc (aSTG_CFG 3) 0) 1000000).1.stagedAt (aSTG_CFG 3)).map (·.grp) = some 4 ∧
      (fldsAt (aSTG_CFG 3)).all (fun f => f.acc == .rws || getBits 0#32 f == up.get (aSTG_CFG 3) f) = true := by decide +kernel
theorem test_StagedWrite_page :
    pageOf (0x2018FFFC#32).toNat = some 63 ∧ up.pageClosed 63 = false ∧ up.initAt 0x2018FFFC = false ∧ after (.stagedWrite q0 0x2018FFFC 0x77) up
      (fun t => t.word (stagedCopy 0x2018FFFC) == 0x77 && t.word 0x2018FFFC == 0 && t.dirty 63 && acked q0 t) = true := by decide +kernel
theorem test_CcRsel : up.carried = none ∧
    after (.ccRselWrite q0 330 31) up (fun t => t.rsel 330 == 31 && t.get (aCC_RSEL 330) CC_RSEL.cg == 31 && acked q0 t) = true := by decide +kernel
theorem test_CcSrd :
    let s := (up.setReg aCC_SRD_ADDR 0x40200F80).setStaged (aTZ_CFG 31) (some { grp := 5, val := 0x99 })
    s.stagedAt 0x40200F80 = some { grp := 5, val := 0x99 } ∧ after (.ccSrdRead q0) s (fun t => t.respOf q0 == { err := false, val := 0x99 }) = true ∧
      (pageOf 0x40200F80).isNone = true ∧ up.stagedAt 0x40200F80 = none ∧
      after (.ccSrdRead q0) (up.setReg aCC_SRD_ADDR 0x40200F80) (fun t => t.respOf q0 == { err := false, val := resetWord (aTZ_CFG 31) }) = true ∧
      pageOf 0x20180000 = some 0 ∧ after (.ccSrdRead q0) ((up.setReg aCC_SRD_ADDR 0x20180000).putWord 0x20180000 6)
        (fun t => t.respOf q0 == { err := false, val := 6 }) = true := by decide +kernel
def due4 : State := armed4 (arm4 (some 1000000)) up
theorem test_CommitApply :
    due4.armedOf 4 = some (arm4 (some 1000000)) ∧ (arm4 (some 1000000)).shared = false ∧ (∀ c, c < 16 → (due4.rgClu c).cur = none) ∧
      due4.cc.ovf.contains 4 = false ∧ due4.dueTick 1000000 = 1000000 ∧ due4.captureLeft 1000000 = false := by decide +kernel
/-- What is staged in group 4 is an action word of zone 31; no page is dirty. -/
theorem test_CommitApply_word :
    let s := due4.setStaged (aTZ_ACT 31 7) (some { grp := 4, val := 3 })
    s.wordsOf 4 = [(aTZ_ACT 31 7, 3)] ∧ s.dirtyPages 4 = [] ∧ s.alive (islTIM 3) = true :=
  ⟨by decide +kernel, dirtyPages_none _ _ (by decide +kernel), by decide +kernel⟩
theorem test_CommitApply_page :
    let s := (due4.set (pgCfg 1023) PG_CFG.dirty 1).set (pgCfg 1023) PG_CFG.cg 4
    s.wordsOf 4 = [] ∧ s.dirtyPages 4 = [1023] ∧ s.alive (islCLU 15) = true ∧ s.relocking 15 = false ∧ s.refillOf 1023 = none :=
  ⟨by decide +kernel, dirtyPages_one _ _ _ (by decide +kernel) (by decide) (by decide +kernel), by decide +kernel, by decide +kernel, rfl⟩
theorem test_CommitApply_refused :
    let s : State := { due4 with cc := { due4.cc with ovf := [4] } }
    s.armedOf 4 = some (arm4 (some 1000000)) ∧ s.cc.ovf.contains 4 = true ∧ s.cc.late = [] := by decide +kernel
theorem test_PageRefreshDone :
    let s := (up.setRefill 63 (some [0x2018FC04])).putWord 0x2018FC00 6
    s.refillOf (64 * 0 + 63) = some [0x2018FC04] ∧ 0x2018FC00 ∈ pageWords 63 ∧ 0x2018FC00 ∉ [0x2018FC04] := by decide +kernel
/-- Group 4 is armed for a shared commit at 1,001,000 with device 5, this device being device 0. -/
def shared4 : Armed := { arm4 (some 1001000) with shared := true, tc := none, trig := 2, crc := 0xABCD }
def sharedS : State := (armed4 shared4 up).setReg aCC_TANDEM 0x21
/-- A packet of type `type` with data `d` that arrives from device `src` for this device, as the first in order on its port. -/
def pkt (type src : Nat) (d : List Byte) : SwlPkt :=
  { bytes := Pkt.bytes { type := type, down := true, dst := 0, src := src, ring := 0, size := 0, tag := 0, addr := 0, data := d } 0 }
/-- What `Takes` says, as a computation. -/
def tks (s : State) (l type : Nat) (p : SwlPkt) : Bool :=
  pktCrcOk p && pktSeq p == (s.swlPort l).rxSeq && pktCodesOk p && pktType p == type && s.swlUp l && pktDst p == s.devaddr
theorem takes_of {s : State} {l type : Nat} {p : SwlPkt} (h : tks s l type p = true) : s.Takes l type p := by
  simp only [tks, Bool.and_eq_true, beq_iff_eq] at h
  obtain ⟨⟨⟨⟨⟨h1, h2⟩, h3⟩, h4⟩, h5⟩, h6⟩ := h
  exact ⟨⟨h1, h2, h3, h4⟩, h5, h6⟩
def cmt5 (t : BitVec 64) : SwlCmt := { g := 4, t := t, crc := 0xABCD, ta := 1000500, ovf := false }
def upS (s : State) : State := s.set (aSWL_STATUS 7) SWL_STATUS.state 4
theorem test_SharedCommit_early :
    tks (upS up) 7 7 (pkt 7 5 []) = true ∧ (upS up).armedOf 4 = none ∧ after (.sharedCommitMessage 7 (pkt 7 5 []) (cmt5 7)) (upS up)
      (fun t => t.cc.early == [(4, { dev := 5, t := 7, crc := 0xABCD, ta := 1000500, ovf := false })]) = true := by decide +kernel
theorem test_SharedCommit :
    tks (upS sharedS) 7 7 (pkt 7 5 []) = true ∧ (upS sharedS).armedOf 4 = some shared4 ∧ (upS sharedS).participants = [0, 5] ∧
      (upS sharedS).devNum = 0 ∧ after (.sharedCommitMessage 7 (pkt 7 5 []) (cmt5 1001000)) (upS sharedS)
        (fun t => (t.armedOf 4).map (·.tc) == some (some 1001500)) = true := by decide +kernel
/-- Another T; another CRC. -/
theorem test_SharedCommit_differs : (cmt5 1001001).t.toNat ≠ 1001000 ∧ (0xABCE : Word) ≠ shared4.crc ∧ (upS sharedS).cc.late = [] := by
  decide +kernel
theorem test_SharedCommitAbsent :
    let x := { shared4 with target := some 990000 }
    (armed4 x up).armedOf 4 = some x ∧ 990000 + 10000 ≤ (armed4 x up).tb ∧ (armed4 x up).cc.late = [] := by decide +kernel
theorem test_Snapshot :
    let s := ((withAct 2327 up).set (aSNAP_CFG 7) SNAP_CFG.en 1).set (aSNAP_CFG 7) SNAP_CFG.n 1
    s.actFor 2327 = some (actOf 2327) ∧ s.commitOwed 1000000 = false ∧ sget none s.cc.snap 7 = none ∧ after (.snapshot 7) s
      (fun t => (sget none t.cc.snap 7).map (fun x => (x.ts, x.words)) == some (1000000, [1000000, 0, 0, 0, 1000000]) &&
        t.on (aSNAP_STATUS 7) SNAP_STATUS.busy) = true := by decide +kernel
def snapS (d : Word) : State := { up.setReg (aSNAP_DST 7) d with cc := { snap := [(7, some { ts := 5, words := [5, 0, 0, 1] })] } }
theorem test_SnapshotComplete :
    sget none (snapS 0x107FFFF0).cc.snap 7 = some { ts := 5, words := [5, 0, 0, 1] } ∧
      after (.snapshotComplete 7) (snapS 0x107FFFF0) (fun t => t.word 0x107FFFFC == 1 && t.on (aSNAP_STATUS 7) SNAP_STATUS.done) = true ∧
      after (.snapshotComplete 7) (snapS 0x107FFFF4) (fun t => t.on (aSNAP_STATUS 7) SNAP_STATUS.err) = true := by decide +kernel
/-! ### Queues and the DMA mover -/

/-- Queue 16383 has 4 records at 0x10001000, `n` of them used from record 3 on, and policy `p`; the requester has written three words. -/
def q3 (n p : Nat) : State :=
  let s := ((((up.set (aQD_CFG 16383) QD_CFG.en 1).set (aQD_CFG 16383) QD_CFG.lsz 2).set (aQD_CFG 16383) QD_CFG.policy p).setReg (aQD_BASE 16383)
    0x10001000).set (aQD_PTR 16383) QD_PTR.head 3
  { ((s.set (aQD_PTR 16383) QD_PTR.tail ((3 + n) % 4)).set (aQD_CNT 16383) QD_CNT.count n).putWord 0x10001030 0x88 with
    qm := { bufs := [(0, { put := [1, 2, 3], by_ := [(0, 16383), (1, 16383), (2, 16383)] })] } }
theorem test_Port_put :
    let s := q3 1 0
    s.admits q0 islSYS = true ∧ s.qInit 16383 = false ∧ s.ue = [] ∧ s.ce = [] ∧ s.qMay 16383 (s.ringOf q0) = true ∧
      after (.portPutWord q0 16383 2 9) s (fun t => (t.portBuf q0).put == [1, 2, 9] && acked q0 t) = true ∧
      (∀ j, j < 3 → (j, 16383) ∈ (s.portBuf q0).by_) ∧
      s.qCount 16383 < s.qSize 16383 ∧ after (.portPutAppend q0 16383 4) s (fun t => t.word 0x1000100C == 4 && t.qCount 16383 == 2 &&
        t.qTail 16383 == 1 && acked q0 t) = true := by decide +kernel
/-- A write of word 0 through this port forgets what other ports wrote; word 1 of another port is only added (R362). -/
theorem test_Port_words :
    after (.portPutWord q0 16383 0 9) (q3 1 0) (fun t => (t.portBuf q0).by_ == [(0, 16383)]) = true ∧
      after (.portPutWord q0 16382 1 9) ((q3 1 0).set (aQD_CFG 16382) QD_CFG.en 1) (fun t =>
        (t.portBuf q0).put == [1, 9, 3] && (1, 16383) ∈ (t.portBuf q0).by_ && (1, 16382) ∈ (t.portBuf q0).by_) = true := by decide +kernel
theorem test_Port_err :
    let s := { q3 1 0 with qm := {} }
    (0, 16383) ∉ (s.portBuf q0).by_ ∧ after (.portPutAppend q0 16383 4) s (fun t => (t.portBuf q0).res == 4 && t.qCount 16383 == 1) = true := by
  decide +kernel
theorem test_Port_get :
    let s := q3 1 0
    0 < s.qCount 16383 ∧ s.qm.waits = [] ∧
      after (.portGet q0 16383) s (fun t => t.respOf q0 == { err := false, val := 0x88 } && t.qHead 16383 == 0 && t.qCount 16383 == 0) = true ∧
      after (.portPeek q0 16383) s (fun t => t.respOf q0 == { err := false, val := 0x88 } && t.qCount 16383 == 1) = true ∧
      after (.portCount q0 16383) s (fun t => t.respOf q0 == { err := false, val := 1 }) = true := by decide +kernel
theorem test_Port_empty :
    (q3 0 0).qCount 16383 = 0 ∧ after (.portGet q0 16383) (q3 0 0) (fun t => acked q0 t && (t.portBuf q0).res == 2) = true ∧
      after (.portPeek q0 16383) (q3 0 0) (fun t => acked q0 t && (t.portBuf q0).res == 2) = true := by decide +kernel
theorem test_Port_denied :
    up.qMay 16383 (up.ringOf q0) = false ∧ after (.portCount q0 16383) up (refused q0) = true ∧
      after (.portPutWord q0 16383 0 0) up (refused q0) = true := by decide +kernel
theorem test_Full_reject :
    (q3 4 0).qCount 16383 = (q3 4 0).qSize 16383 ∧ (q3 4 0).get (aQD_CFG 16383) QD_CFG.policy = 0 ∧ after (.portPutAppend q0 16383 4) (q3 4 0)
      (fun t => (t.portBuf q0).res == 1 && t.get (aQD_CNT 16383) QD_CNT.drops == 1 && t.qCount 16383 == 4) = true := by decide +kernel
theorem test_Full_oldest :
    (q3 4 1).get (aQD_CFG 16383) QD_CFG.policy = 1 ∧ after (.portPutAppend q0 16383 4) (q3 4 1)
      (fun t => t.word 0x1000103C == 4 && t.qHead 16383 == 0 && t.qCount 16383 == 4) = true := by decide +kernel
def xfer7 : Xfer := { eng := reqNum (.newt 7), st := { kind := .cmd true, addr := 0x5100000C + 0x40 * 16383, data := 4, size := 0, ring := 0 }, cg := 0 }
def w3 : QWait := { queue := 16383, who := .write xfer7 990000, words := [1, 2, 3, 4] }
theorem test_Full_waits :
    (q3 4 2).get (aQD_CFG 16383) QD_CFG.policy = 2 ∧
      after (.portPutAppend q0 16383 4) (q3 4 2) (fun t => t.qm.waits == [{ w3 with who := .write ((q3 4 2).accessXfer q0 true (0x5100000C + 0x40 * 16383) 4) 1000000 }]) = true := by decide +kernel
def waitS : State := { q3 4 2 with qm := { waits := [w3] } }
theorem test_Full_wakes :
    waitS.qm.waits = w3 :: [] ∧ waitS.qMay 16383 (waitS.ringOf q0) = true ∧ reqNum (.newt 7) ≠ reqNum q0 ∧ waitS.qCount 16383 = waitS.qSize 16383 ∧ after (.portGet q0 16383) waitS
      (fun t => t.qm.waits == [] && t.word 0x1000103C == 4 && t.respOf q0 == { err := false, val := 0x88 } && acked (.newt 7) t) = true := by
  decide +kernel
theorem test_PortPutTimeout :
    990000 + 10000 ≤ waitS.tb ∧ after (.portPutTimeout (.newt 7)) waitS
      (fun t => t.qm.waits == [] && refused (.newt 7) t && t.get (aQD_CNT 16383) QD_CNT.drops == 1) = true := by decide +kernel
/-- QD_CFG with en = 1 and lsz = 2, and the same with lsz = 1. -/
def cfgW (l : Nat) : Word := putBits (putBits 0 QD_CFG.en 1) QD_CFG.lsz l
theorem test_QueueEnable :
    let s := up.setReg (aQD_BASE 16383) 0x10001000
    s.admits q0 islSYS = true ∧ s.ringOf q0 ≤ 1 ∧ s.on aQM_STATUS QM_STATUS.ready = true ∧ s.on (aQD_CFG 16383) QD_CFG.en = false ∧
      s.enableOk 16383 (cfgW 2) = true ∧ after (.queueEnable q0 16383 (cfgW 2)) s (fun t => t.qOn 16383 && acked q0 t) = true ∧
      s.enableOk 16383 (cfgW 1) = false ∧ after (.queueEnable q0 16383 (cfgW 1)) s (refused q0) = true := by decide +kernel
theorem test_QueueDisable :
    let s := { q3 4 2 with qm := { waits := [{ w3 with who := .eng 7 }] } }
    s.on (aQD_CFG 16383) QD_CFG.en = true ∧ getBits (putBits 0 QD_CFG.lsz 2) QD_CFG.lsz = s.get (aQD_CFG 16383) QD_CFG.lsz ∧
      after (.queueDisable q0 16383 (putBits 0 QD_CFG.lsz 2)) s
        (fun t => !t.on (aQD_CFG 16383) QD_CFG.en && (t.eng 7).wait == .queue (some (true, false, [])) && t.word 0x10001030 == 0x88) = true := by
  decide +kernel
theorem test_QmInitDone :
    let s := (up.set aQM_STATUS QM_STATUS.ready 0).setReg (aQD_BASE 16383) 0x10001000
    s.alive islSYS = true ∧ s.on aQM_STATUS QM_STATUS.ready = false ∧
      after .qmInitDone s (fun t => t.on aQM_STATUS QM_STATUS.ready && t.reg (aQD_BASE 16383) == 0) = true := by decide +kernel
/-- Channel 63 with a TD at 0x10000100 that copies 4 words from 0x10001000 to 0x10002000, and its words. -/
def td0 : List Word := [0x10001000, 0x10002000, 4, 0, 1, 0, 0, 0]
def dmaS (d : Dma) : State :=
  ((({ up with mem := [(0x10000101, 0x10), (0x10000103, 0x10), (0x10000105, 0x20), (0x10000107, 0x10), (0x10000108, 4), (0x10000110, 1),
    (0x1000100C, 0x66)] }).set (aDMA_CFG 63) DMA_CFG.en 1).setReg (aDMA_TD 63) 0x10000100).setDma 63 d
def dmaB (d : Dma) : State := ((dmaS d).set (aDMA_STAT 63) DMA_STAT.busy 1).setReg (aDMA_CUR 63) 0x10000100
theorem test_DmaStart :
    getBits 1#32 DMA_CTRL.start = 1 ∧ getBits 1#32 DMA_CTRL.abort = 0 ∧ (dmaS {}).on (aDMA_STAT 63) DMA_STAT.busy = false ∧ after (.dmaStart q0 63 1) (dmaS {})
      (fun t => (t.dmaCh 63).phase == .fetch && t.reg (aDMA_CUR 63) == 0x10000100 && t.on (aDMA_STAT 63) DMA_STAT.busy && acked q0 t) = true ∧
      after (.dmaStart q0 63 1) (dmaB {}) (fun t => t.on (aDMA_STAT 63) DMA_STAT.start_ign && (t.dmaCh 63).phase == .idle) = true := by decide +kernel
theorem test_DmaAbort :
    getBits 2#32 DMA_CTRL.abort = 1 ∧ after (.dmaAbort q0 63 2) (dmaB { phase := .fetch }) (fun t => (t.dmaCh 63).phase == .finish 4) = true ∧
      after (.dmaAbort q0 63 2) { dmaB { phase := .waitq 5 } with qm := { waits := [{ w3 with who := .dma 63 }] } } (fun t =>
        t.on (aDMA_STAT 63) DMA_STAT.rec_lost && t.qm.waits == [] && t.get (aDMA_STAT 63) DMA_STAT.last_status == 4 &&
          !t.on (aDMA_STAT 63) DMA_STAT.busy && (t.dmaCh 63).phase == .idle) = true := by decide +kernel
theorem test_DmaTdFetch :
    inSram 0x10000100 32 = true ∧ (dmaB { phase := .fetch }).initAt 0x10000100 = false ∧ tdBad td0 = false ∧ (dmaB { phase := .fetch }).ue = [] ∧ (dmaB { phase := .fetch }).ce = [] ∧
      after (.dmaTdFetch 63) (dmaB { phase := .fetch }) (fun t => t.dmaCh 63 == { phase := .run, td := td0 }) = true ∧
      after (.dmaTdFetch 63) ((dmaB { phase := .fetch }).setReg (aDMA_CUR 63) 0x107FFFF0) (fun t => (t.dmaCh 63).phase == .finish 3) = true ∧
      after (.dmaTdFetch 63) ((dmaB { phase := .fetch }).setReg (aDMA_CUR 63) 0x10000200) (fun t => (t.dmaCh 63).phase == .finish 3) = true := by
  decide +kernel
def runS (i a : Nat) : State := dmaB { phase := .run, td := td0, issued := i, sent := i, answered := a, written := a }
theorem test_DmaBurstGrant :
    (runS 0 0).dmaGrant = some 63 ∧ (runS 0 0).burstLen 63 = 4 ∧ (runS 0 0).dmaOutstanding = 0 ∧ (runS 0 0).burstOver = true ∧
      (∀ i, i < 4 → (runS 0 0).dmaCross (tdFrom td0 i) = none) ∧ (runS 0 0).reach islSYS = true ∧
      after .dmaBurstGrant (runS 0 0) (fun t => (t.dmaCh 63).issued == 4 && (t.dmaCh 63).sent == 4 && t.dma.last == 63) = true := by decide +kernel
theorem test_DmaReadResponse :
    tdFrom td0 3 = 0x1000100C ∧ tdTo td0 3 = 0x1000200C ∧ inSram 0x1000200C 4 = true ∧
      (runS 4 3).initAt 0x1000100C = false ∧ (runS 4 3).initAt 0x1000200C = false ∧
      after (.dmaReadResponse 63) (runS 4 3) (fun t => t.word 0x1000200C == 0x66 && (t.dmaCh 63).answered == 4) = true := by decide +kernel
theorem test_DmaReadResponse_fails :
    let s := dmaB { phase := .run, td := [0x30000000, 0x10002000, 4, 0, 1, 0, 0, 0], issued := 1, sent := 1 }
    s.target 0x30000000 = none ∧ inWindow 0x30000000 = false ∧
      after (.dmaReadResponse 63) s (fun t => (t.dmaCh 63).phase == .finish 1 && t.reg (aDMA_ERRADDR 63) == 0x30000000) = true := by decide +kernel
/-- An interleave of 2 ways, a deinterleave of 2 ways, a transpose of 2 rows and 3 columns. -/
def tdM (n m : Word) : List Word := [0x10001000, 0x10002000, n, m, 1, 0, 0, 0]
theorem test_DmaModes :
    tdBad (tdM 6 0x201) = false ∧ (List.range 6).map (tdMap (tdM 6 0x201)) = [0, 2, 4, 1, 3, 5] ∧ tdBad (tdM 6 0x202) = false ∧
      (List.range 6).map (tdMap (tdM 6 0x202)) = [0, 3, 1, 4, 2, 5] ∧ tdBad (tdM 6 0x810003) = false ∧
      (List.range 6).map (tdMap (tdM 6 0x810003)) = [0, 2, 4, 1, 3, 5] ∧ (List.range 4).map (tdMap td0) = [0, 1, 2, 3] := by decide +kernel
def doneS (w5 : Word) (s : State) : State := s.setDma 63 { phase := .run, td := [0x10001000, 0x10002000, 4, 0, 1, w5, 0, 0], answered := 4, issued := 4, written := 4 }
theorem test_DmaCompletion :
    let s := sel 1311 (doneS 0 (dmaB {}))
    s.dmaStatus 63 = some 0 ∧ tdRec (s.dmaCh 63).td = false ∧
      after (.dmaCompletion 63) s (fun t => t.on (aDMA_STAT 63) DMA_STAT.done && !t.on (aDMA_STAT 63) DMA_STAT.busy && fired 1311 t) = true := by
  decide +kernel
theorem test_DmaCompletion_lost :
    let s := doneS 0x80003FFF (dmaB {})
    tdRec (s.dmaCh 63).td = true ∧ s.qMay 16383 (s.get (aDMA_CFG 63) DMA_CFG.ring) = false ∧
      after (.dmaCompletion 63) s (fun t => t.on (aDMA_STAT 63) DMA_STAT.rec_lost) = true := by decide +kernel
theorem test_DmaCompletion_record :
    let s := doneS 0x80003FFF (((q3 0 2).set (aQD_CFG 16383) QD_CFG.ring 3).setReg (aDMA_CUR 63) 0x10000100)
    s.qMay 16383 (s.get (aDMA_CFG 63) DMA_CFG.ring) = true ∧ s.qInit 16383 = false ∧ s.qCount 16383 < s.qSize 16383 ∧
      after (.dmaCompletion 63) s (fun t => t.qCount 16383 == 1 && t.word 0x10001030 == 63 && t.word 0x10001034 == 0x10000100 && t.word 0x10001038 == 16) = true := by
  decide +kernel
theorem test_DmaCompletion_waits :
    let s := doneS 0x80003FFF ((q3 4 2).set (aQD_CFG 16383) QD_CFG.ring 3)
    s.qSize 16383 ≤ s.qCount 16383 ∧ s.get (aQD_CFG 16383) QD_CFG.policy = 2 ∧
      after (.dmaCompletion 63) s (fun t => (t.dmaCh 63).phase == .waitq 0 && t.on (aDMA_STAT 63) DMA_STAT.waitq) = true := by decide +kernel
theorem test_DmaLateError :
    let s := dmaB { late := [0x10, 0x20] }
    (s.dmaCh 63).late = 0x10 :: [0x20] ∧ s.on (aDMA_STAT 63) DMA_STAT.err = false ∧
      after (.dmaLateError 63) s (fun t => t.reg (aDMA_ERRADDR 63) == 0x10 && (t.dmaCh 63).late == [0x20]) = true ∧
      after (.dmaLateError 63) (s.set (aDMA_STAT 63) DMA_STAT.err 1) (fun t => t.reg (aDMA_ERRADDR 63) == 0 && t.on (aDMA_STAT 63) DMA_STAT.late_err) = true := by
  decide +kernel
/-! ### Fieldring -/

/-- Queue `q` has 4 records at 0x10001000, `n` of them used from record 0 on. -/
def qAt (q n : Nat) (s : State) : State :=
  ((((s.set (aQD_CFG q) QD_CFG.en 1).set (aQD_CFG q) QD_CFG.lsz 2).setReg (aQD_BASE q) 0x10001000).set (aQD_PTR q) QD_PTR.tail n).set (aQD_CNT q)
    QD_CNT.count n
/-- Port 47 in state `st`, enabled, with what it holds in `x`; partner 7 is its node 5. -/
def fr (st : Nat) (x : FrPort) : State :=
  (((up.set (aFR_STATUS 47) FR_STATUS.state st).set (aFR_CFG 47) FR_CFG.en 1).setReg (aPT_MAP 7) 0xAF05020F).setFrPort 47 x
theorem test_FrEn :
    let w := putBits 0 FR_CFG.en 1
    up.admits q0 islLNK = true ∧ up.ringOf q0 ≤ 1 ∧ up.on (aFR_CFG 47) FR_CFG.en = false ∧ up.frReady 47 = true ∧ up.frState 47 = frOFF ∧ up.hwNow (aFR_CFG 47) = 0 ∧
      after (.frCfgEnWrite q0 47 w) up (fun t => t.frState 47 == frSYNC && acked q0 t) = true ∧
      (fr frRUN {}).on (aFR_CFG 47) FR_CFG.en = true ∧ after (.frCfgEnWrite q0 47 0) (fr frRUN { lock := true })
        (fun t => t.frState 47 == frOFF && t.frPort 47 == {} && acked q0 t) = true := by decide +kernel
theorem test_FrEnum :
    getBits 0x100#32 FR_CTRL.enum = 1 ∧ after (.frEnum q0 47 0x100) (fr frSYNC { lock := true })
      (fun t => t.frState 47 == frENUM && (t.frPort 47).enumLeft.isSome && acked q0 t) = true := by decide +kernel
theorem test_FrKick :
    getBits 0xFE#32 FR_CTRL.kick = 1 ∧ getBits 0xFE#32 FR_CTRL.node = 126 ∧
      after (.frKick q0 47 0xFE) (fr frRUN {}) (fun t => t.frPending 47 126 && !t.frPending 47 125 && acked q0 t) = true := by decide +kernel
theorem test_FrLockGained :
    let s := fr frSYNC {}
    s.on (aFR_CFG 47) FR_CFG.auto_enum = true ∧ after (.frLockGained 47) s (fun t => t.frState 47 == frENUM && (t.frPort 47).lock) = true ∧
      (let u := s.set (aFR_CFG 47) FR_CFG.auto_enum 0
       after (.frLockGained 47) u (fun t => t.frState 47 == frSYNC && (t.frPort 47).lock) = true ∧
       after (.frLockGained 47) (u.set (aFR_STATUS 47) FR_STATUS.state frBROKEN) (fun t => t.frState 47 == frSYNC) = true) := by decide +kernel
theorem test_FrLockLost :
    let s := fr frRUN { lock := true }
    s.frLive 47 = true ∧ after (.frLockLost 47) s (fun t => t.frState 47 == frBROKEN && t.on (aFR_STATUS 47) FR_STATUS.lock_lost) = true ∧
      after (.frFaultReceived 47 126) s (fun t => t.frState 47 == frBROKEN && t.get (aFR_STATUS 47) FR_STATUS.fault_node == 126) = true := by
  decide +kernel
theorem test_FrEnumReturn :
    let s := (fr frENUM { enumLeft := some 900000 }).set (aFR_CFG 47) FR_CFG.expect 126
    after (.frEnumReturn 47 126 0xFFFFF) s (fun t => t.frState 47 == frRUN && t.get (aFR_RING 47) FR_RING.dr == 0xFFFFF) = true ∧
      after (.frEnumReturn 47 125 1) s (fun t => t.frState 47 == frCHECK && t.on (aFR_STATUS 47) FR_STATUS.cnt_err) = true := by decide +kernel
theorem test_FrEnumTimeout :
    let s := fr frENUM { enumLeft := some 900000 }
    900000 + 100000 ≤ s.tb ∧ (s.frPort 47).lock = false ∧
      after (.frEnumTimeout 47) s (fun t => t.frState 47 == frSYNC && t.on (aFR_STATUS 47) FR_STATUS.enum_to) = true := by decide +kernel
/-- Node 5 is pending; queue 28 holds `n` records, the first a command of 2 payload bytes 0xAA, 0xBB, tag 9, rmax 4. -/
def cmdS (n : Nat) : State :=
  { qAt 28 n (fr frRUN {}) with mem := [(0x10001000, 9), (0x10001001, 4), (0x10001002, 2), (0x10001004, 0xAA), (0x10001005, 0xBB)] }.setBit
    (aFR_PEND 47 0) 5 true
/-- A request of partner 7 of class `c`, sent `tries` times again. -/
def frq (c tries : Nat) : FrReq :=
  { partner := 7, node := 5, cls := c, seq := 3, tries := tries, rmax := 2, ctl := false, payload := [], tag := 9, late := false, te := 990000 }
theorem test_FrCommand :
    let s := cmdS 1
    s.frNodes 47 = [5] ∧ s.partner 47 5 = some 7 ∧ s.frHead (4 * 7) = some [0x20409, 0xBBAA, 0, 0] ∧ s.frRecord [0x20409, 0xBBAA, 0, 0] = some [0xAA, 0xBB] ∧
      s.qm.waits = [] ∧ frDrop false [0xAA, 0xBB] = false ∧
      s.frFits 47 (s.frChar 47 s.tb) 2 (s.frTans 7 + (24 + 4) * s.frTc 47) = true ∧ s.ue = [] ∧ s.ce = [] ∧ after (.frCommandStart 47) s (fun t =>
        (t.frPort 47).outs.map (fun r => (r.partner, r.node, r.tag, r.payload)) == [(7, 5, 9, [0xAA, 0xBB])] && t.qCount 28 == 0) = true := by
  decide +kernel
theorem test_FrCommand_empty :
    let s := cmdS 0
    s.frNodes 47 = [5] ∧ s.frHead (4 * 7) = none ∧ after (.frCommandStart 47) s (fun t => !t.frPending 47 5 && (t.frPort 47).outs == []) = true := by
  decide +kernel
/-- A link-control command DROP: the record's bit 31, and payload byte 3. -/
theorem test_FrCommand_drop :
    let s := { qAt 28 1 (fr frRUN {}) with mem := [(0x10001001, 4), (0x10001002, 1), (0x10001003, 0x80), (0x10001004, 3)] }.setBit (aFR_PEND 47 0) 5 true
    s.frHead (4 * 7) = some [0x80010400, 3, 0, 0] ∧ s.frRecord [0x80010400, 3, 0, 0] = some [3] ∧ frDrop true [3] = true ∧
      s.frFits 47 (s.frChar 47 s.tb) 1 (6 * s.frTc 47) = true ∧
      after (.frCommandStart 47) s (fun t => (t.frPort 47).outs == [] && t.qCount 28 == 0 && (t.frPort 47).sent != []) = true := by decide +kernel
def schedS (x : FrPort) : State := ((fr frRUN x).set (aFR_SCHED 47) FR_SCHED.en 1)
theorem test_FrCycle :
    let s := schedS { cycle := some 98 }
    s.frSched 47 = true ∧ s.dueTick (s.frAnchor 47 + 99 * s.frTcyc 47) ≤ s.tb ∧
      after (.frCycleStart 47) s (fun t => (t.frPort 47).cycle == some 99) = true := by decide +kernel
/-- Entry 255 polls node 5 without data. -/
def pollS (x : FrPort) : State := (schedS x).setReg (aFR_SE0 47 255) 0x80050000
theorem test_FrPoll :
    let s := pollS { cycle := some 100 }
    s.frIsDue 47 255 = some 1000000 ∧ s.partner 47 (s.get (aFR_SE0 47 255) FR_SE0.node) = some 7 ∧ (s.frPort 47).busyNode 5 = false ∧
      sget none (s.frPort 47).polled 5 = none ∧ s.get (aFR_SE0 47 255) FR_SE0.len_out = 0 ∧ s.ce = [] ∧
      s.frChar 47 (max (max 1000000 s.tb) (s.frPort 47).free) ≤ s.tb + 500 ∧ after (.frPollDue 47 255) s
        (fun t => (t.frPort 47).outs.map (fun r => (r.cls, r.tag, r.late)) == [(2, 255, false)] && (t.frPort 47).done == [255]) = true := by decide +kernel
/-- A poll of the cycle before is still sent, marked late (R410). -/
theorem test_FrPoll_late :
    let s := pollS { cycle := some 101, behind := [(255, 990000)], free := 999000 }
    (s.frPort 47).behind.find? (fun y => y.1 == 255) = some (255, 990000) ∧ s.frIsDue 47 255 = some 990000 ∧ after (.frPollDue 47 255) s
      (fun t => (t.frPort 47).outs.map (fun r => (r.cls, r.tag, r.late)) == [(2, 255, true)] && (t.frPort 47).behind == [] &&
        (t.frPort 47).done == []) = true := by decide +kernel
theorem test_FrPollTrigger :
    let s := withAct 2375 ((pollS {}).set (aFR_SE0 47 255) FR_SE0.trig 1)
    s.actFor (2328 + 47) = some (actOf 2375) ∧ s.on (aFR_SE0 47 255) FR_SE0.en = true ∧ s.on (aFR_SE0 47 255) FR_SE0.trig = true ∧
      after (.frPollTrigger 47) s (fun t => (t.frPort 47).outs.map (fun r => (r.cls, r.tag)) == [(2, 255)]) = true := by decide +kernel
/-- The request header of the worked example of chapter 15; the bytes on the line, with the CRC least byte first (R389, R390). -/
theorem test_FrFrame_sent :
    let r : FrReq := { frq 0 0 with node := 17, seq := 5, rmax := 8, payload := [0x44, 0x33, 0x22, 0x11] }
    r.frame.take 10 = [0x11, 0x00, 0x14, 0x04, 0x08, 0x00, 0x44, 0x33, 0x22, 0x11] ∧ r.frame.length = 14 ∧
      leNat (r.frame.drop 10) = (crc32 (r.frame.take 10)).toNat := by decide +kernel
/-- Entry 255 sends a byte that cannot be read: the poll is skipped (R411). -/
theorem test_FrPoll_ue :
    let s := { ((pollS { cycle := some 100 }).set (aFR_SE0 47 255) FR_SE0.len_out 1).set (aFR_SE3 47 255) FR_SE3.src 0x2000000 with ue := [0x10000000] }
    s.frIsDue 47 255 = some 1000000 ∧ after (.frPollDue 47 255) s (fun t => t.on (aFR_STATUS 47) FR_STATUS.sched_err &&
      (t.frPort 47).outs == [] && t.get aECC_DEV ECC_DEV.ue_total == 1) = true := by decide +kernel
/-- The answer to such a request, with the bytes 0xAA, 0xBB and their CRC. -/
def ansF : FrFrame := { bytes := [0x80, 0x05, 0x4C, 2, 0, 0, 0xAA, 0xBB, 0x04, 0xD2, 0x20, 0x6E], good := true, sof := 77 }
theorem test_FrAnswer :
    let s := qAt 29 0 (fr frRUN { outs := [frq 0 0] })
    frWhole ansF = true ∧ frCrcOk ansF = true ∧ (s.frPort 47).outs = [frq 0 0] ∧ frMatch ansF.bytes (frq 0 0) = .answer ∧
      (ansF.bytes.getD 2 0).getLsbD 0 = false ∧ s.qMay 29 0 = true ∧ s.qCount 29 < s.qSize 29 ∧ after (.frFrameReceived 47 ansF) s (fun t =>
        (t.frPort 47).outs == [] && t.word 0x10001000 == 0x93002 && t.word 0x10001004 == 77 && t.word 0x10001008 == 0xBBAA) = true := by decide +kernel
theorem test_FrFrame_counted :
    let s := fr frRUN {}
    after (.frFrameReceived 47 { ansF with good := false }) s (fun t => t.get (aFR_ERRCNT 47) FR_ERRCNT.code_err == 1) = true ∧
      after (.frFrameReceived 47 { ansF with bytes := ansF.bytes.set 7 0xBA }) s (fun t => t.get (aFR_ERRCNT 47) FR_ERRCNT.crc_err == 1) = true ∧
      after (.frFrameReceived 47 ansF) s (fun t => t.get (aFR_ERRCNT 47) FR_ERRCNT.stray == 1) = true := by decide +kernel
theorem test_FrTimeout :
    let s := fr frRUN { outs := [frq 0 1] }
    990000 + s.get (aFR_RING 47) FR_RING.dr + s.frTans 7 + 400 ≤ s.tb ∧ 1 < s.get (aPT_MAP 7) PT_MAP.max_retry ∧ after (.frTimeout 47) s
      (fun t => (t.frPort 47).retry == [frq 0 2] && (t.frPort 47).outs == [] && t.get (aFR_ERRCNT 47) FR_ERRCNT.timeouts == 1) = true := by decide +kernel
theorem test_FrTimeout_ends :
    let s := qAt 30 0 (fr frRUN { outs := [frq 2 0] })
    s.qMay 30 0 = true ∧ after (.frTimeout 47) s (fun t => (t.frPort 47).outs == [] && t.word 0x10001000 == 0x02093000 && t.qCount 30 == 1) = true := by
  decide +kernel
/-! ### Swimlink -/

/-- Port 7 in state `st`, enabled, with what it holds in `x`; device 3 is reached through it. -/
def lk (st : Nat) (x : SwlPort) : State :=
  ((((up.set (aSWL_STATUS 7) SWL_STATUS.state st).set (aSWL_CFG 7) SWL_CFG.en 1).set (aSWL_ROUTE 3) SWL_ROUTE.en 1).set (aSWL_ROUTE 3)
    SWL_ROUTE.port 7).setSwlPort 7 x
def routes (s : State) (d l : Nat) : Bool :=
  s.on (aSWL_ROUTE d) SWL_ROUTE.en && s.get (aSWL_ROUTE d) SWL_ROUTE.port == l && s.swlUp l
theorem routes_of {s : State} {d l : Nat} (h : routes s d l = true) : s.Routes d l := by
  simp only [routes, Bool.and_eq_true, beq_iff_eq] at h
  exact ⟨h.1.1, h.1.2, h.2⟩

/-- A request of this device to device 3. -/
def pk (n : Nat) : Pkt := { type := 1, down := true, dst := 3, src := 0, ring := 0, size := 0, tag := n, addr := 0, data := [] }
/-- The packets that port 7 has sent, or holds for a credit: type, destination, tag. -/
def sent7 (t : State) : List (Nat × Nat × Nat) :=
  (((t.swlPort 7).replay.map (fun x => x.2.1)) ++ (t.swlPort 7).waiting).map (fun p => (p.type, p.dst, p.tag))
theorem test_SwlEn :
    let w := putBits 0 SWL_CFG.en 1
    up.admits q0 islLNK = true ∧ up.on (aSWL_CFG 7) SWL_CFG.en = false ∧ up.hwNow (aSWL_CFG 7) = 0 ∧
      after (.swlCfgEnWrite q0 7 w) up (fun t => (t.swlPort 7).downAt == 1000000 && t.on (aSWL_CFG 7) SWL_CFG.en && acked q0 t) = true ∧
      (lk 4 {}).swl.outs = [] ∧ after (.swlCfgEnWrite q0 7 0) (lk 4 { txSeq := 4 }) (fun t => t.swlState 7 == swlDOWN && t.swlPort 7 == { downAt := 1000000 }) = true := by
  decide +kernel
theorem test_SwlTrain :
    (lk 0 { downAt := 990000 }).swlOn 7 = true ∧ 990000 + 10000 ≤ up.tb ∧
      after (.swlTrainStart 7) (lk 0 { downAt := 990000 }) (fun t => t.swlState 7 == swlTRAIN) = true := by decide +kernel
/-- A remote access of Newt 0, which waits for its answer. -/
def xf (k : StoreKind) : Xfer := { eng := reqNum q0, st := { kind := k, addr := 0x30000000, data := 0, size := 0, ring := 0 }, cg := 0 }
/-- What port 7 has handed to its lanes in this tick. -/
def outs7 (t : State) : List SwlBlk := (t.swlPort 7).out
theorem test_SwlLocks :
    (lk 1 {}).swlState 7 ≠ swlDOWN ∧
      after (.swlBlockLock 7 1 none) (lk 1 { lock0 := true }) (fun t => t.swlState 7 == swlALIGN && (t.swlPort 7).lock1) = true ∧
      after (.swlBlockLock 7 1 (some 5)) (lk 1 { lock0 := true }) (fun t => t.swlState 7 == swlALIGN) = true ∧
      after (.swlBlockLock 7 1 (some 4)) (lk 1 { lock0 := true }) (fun t => t.swlState 7 == swlIDENT && sent7 t == [(9, 0, 0)]) = true ∧
      after (.swlBlockLock 7 1 (some 0)) (lk 1 {}) (fun t => t.swlState 7 == swlTRAIN) = true ∧
      (let s := { lk 4 { lock0 := true, lock1 := true } with swl := { (lk 4 { lock0 := true }).swl with
         outs := [{ tag := 0, port := 7, left := some 0, who := .access (xf (.cmd true)) }] } }
       after (.blockLockLost 7 0) s (fun t => refused q0 t && !(t.swlPort 7).lock0 && t.swl.outs == [] && (t.swlPort 7).unlockAt == some 1000000) = true) := by
  decide +kernel
/-- A lane without lock for 1 µs; 8 µs without a valid block; a packet sent four times; and none of these. -/
theorem test_SwlLinkFail :
    let fine := lk 4 { blockAt := 992001, replay := [(0, pk 0, 3)] }
    (lk 4 { unlockAt := some 999000 }).swlFailed 7 .lock = true ∧ (lk 4 { blockAt := 992000 }).swlFailed 7 .silence = true ∧
      (lk 4 { replay := [(0, pk 0, 4)] }).swlFailed 7 .resends = true ∧ (lk 4 { unlockAt := some 999001 }).swlFailed 7 .lock = false ∧
      fine.swlFailed 7 .silence = false ∧ fine.swlFailed 7 .resends = false ∧ fine.swl.outs = [] ∧ fine.swlState 7 = swlUP ∧
      after (.swlLinkFail 7 .resends) (lk 4 { replay := [(0, pk 0, 4)] })
        (fun t => t.swlState 7 == swlDOWN && t.on (aSWL_STATUS 7) SWL_STATUS.link_fail && t.swlPort 7 == { downAt := 1000000 }) = true ∧
      after (.swlLinkFail 7 .silence) fine (fun t => t.swlState 7 == swlUP) = true := by decide +kernel
/-- What `Arrives` says, as a computation. -/
def arr (s : State) (l type : Nat) (p : SwlPkt) : Bool :=
  pktCrcOk p && pktSeq p == (s.swlPort l).rxSeq && pktCodesOk p && pktType p == type
theorem arrives_of {s : State} {l type : Nat} {p : SwlPkt} (h : arr s l type p = true) : s.Arrives l type p := by
  simp only [arr, Bool.and_eq_true, beq_iff_eq] at h
  exact ⟨h.1.1.1, h.1.1.2, h.1.2, h.2⟩
/-- A packet whose CRC does not match. -/
def broken (p : SwlPkt) : SwlPkt := { bytes := p.bytes.set 2 0x99 }
def ident (d : BitVec 3) (t : BitVec 8) : SwlIdent := { dev := d, port := 6, depth := 2, tandem := t }
theorem test_SwlIdent :
    (lk 3 {}).swlState 7 = swlIDENT ∧ (lk 3 {}).devaddr = 0 ∧ (lk 3 {}).get aSWL_DEV SWL_DEV.tandem_id = 0 ∧ arr (lk 3 {}) 7 9 (pkt 9 3 [7]) = true ∧
      after (.swlIdent 7 (pkt 9 3 [7]) (ident 3 0)) (lk 3 {}) (fun t => t.swlState 7 == swlUP && t.get (aSWL_STATUS 7) SWL_STATUS.peer_dev == 3 &&
        outs7 t == [crdBlk 0 false 0 0] && (t.swlPort 7).rxSeq == 1) = true ∧
      after (.swlIdent 7 (pkt 9 3 [7]) (ident 0 9)) (lk 3 {}) (fun t => t.swlState 7 == swlIDENT && t.on (aSWL_STATUS 7) SWL_STATUS.dup_addr &&
        t.on (aSWL_STATUS 7) SWL_STATUS.id_err) = true ∧
      pktCrcOk (broken (pkt 9 3 [7])) = false ∧ after (.swlIdent 7 (broken (pkt 9 3 [7])) (ident 3 0)) (lk 3 {})
        (fun t => t.swlState 7 == swlIDENT && (t.swlPort 7).nakDue && outs7 t == [crdBlk 255 true 0 0]) = true := by decide +kernel
theorem test_SwlCrd :
    let s := lk 4 { reqCr := 30, rspCr := 2, replay := [(8, pk 0, 1), (9, pk 1, 1)] }
    s.swlState 7 = swlUP ∧ (s.swlPort 7).waiting = [] ∧ blkIs (crdBlk 8 true 3 1) 0x55 = true ∧ after (.swlCrd 7 (crdBlk 8 true 3 1)) s
      (fun t => (t.swlPort 7).reqCr == 32 && (t.swlPort 7).rspCr == 3 && (t.swlPort 7).replay == [(9, pk 1, 2)]) = true ∧
      blkBad { sync := 2, body := 0x56 } = true ∧ after (.swlCrd 7 { sync := 2, body := 0x56 }) s
        (fun t => t.get (aSWL_ERRCNT 7) SWL_ERRCNT.bad_blk == 1 && t.swl == s.swl) = true := by decide +kernel
/-- The block types and fields of R417, byte 0 of a block first: CRD with ack 0x12, nak, credits 3 and 4; EVT of the lower half. -/
theorem test_SwlBlocks :
    (crdBlk 0x12 true 3 4).body = 0x12800304_00000055 ∧ (evtBlk false 0xABCDEF 0x80000001).body = 0xABCDEF_80000001_2D ∧
      (tsyncBlk true 0x7F 1).body = 0xFF_000000000001_4B ∧ (crdBlk 0 false 0 0).sync = 0b10 := by decide +kernel
/-- A request of device 3 with tag 0xFF for device `dst`, at offset `a` of its window, with the bytes 1 to 4. -/
def rq (type dst size a : Nat) : SwlPkt :=
  { bytes := Pkt.bytes { type := type, down := false, dst := dst, src := 3, ring := 0, size := size, tag := 0xFF, addr := a, data := [1, 2, 3, 4] } 0 }
/-- The header's layout, written out (R422): type 1, dst 5; src 3, ring 0, size 1; tag; length; offset, least byte first. -/
theorem test_SwlHeader : (rq 1 5 1 0x7FFFFE).bytes.take 12 = [0x15, 0x61, 0xFF, 4, 0xFE, 0xFF, 0x7F, 0, 1, 2, 3, 4] ∧ (rq 1 5 1 0).bytes.length = 24 := by
  decide +kernel
theorem test_SwlReq_here :
    let s := (lk 4 {}).putWord 0x107FFFFC 0x55667788
    routes s 3 7 = true ∧ s.carried = none ∧ tks s 7 1 (rq 1 0 1 0x7FFFFE) = true ∧ tks s 7 2 (rq 2 0 1 0x7FFFFE) = true ∧
      reqAddr (rq 1 0 1 0x7FFFFE) = some 0x107FFFFE ∧ s.reach islSYS = true ∧ s.fifo islLNK islSYS = [] ∧ s.initAt 0x107FFFFE = false ∧ s.ue = [] ∧ s.ce = [] ∧
      after (.swlRdreq 7 (rq 1 0 1 0x7FFFFE)) s (fun u => after (.handshakeFifoDelivery (Fin.ofNat 26 islLNK) 1) u
        (fun t => (t.swlPort 7).replay.map (fun x => (x.2.1.type, x.2.1.data)) == [(3, [0x66, 0x55, 0, 0])])) = true ∧
      after (.swlWrreq 7 (rq 2 0 1 0x7FFFFE)) s (fun u => after (.handshakeFifoDelivery (Fin.ofNat 26 islLNK) 1) u
        (fun t => t.word 0x107FFFFC == 0x02017788 && sent7 t == [(4, 3, 0xFF)])) = true ∧
      reqAddr (rq 1 0 0 0x940000) = none ∧
      after (.swlRdreq 7 (rq 1 0 0 0x940000)) s (fun t => sent7 t == [(10, 3, 0xFF)]) = true := by decide +kernel
/-- Device 5 is reached through port 6, which is up. -/
def lk2 : State :=
  ((((lk 4 {}).set (aSWL_STATUS 6) SWL_STATUS.state 4).set (aSWL_ROUTE 5) SWL_ROUTE.en 1).set (aSWL_ROUTE 5) SWL_ROUTE.port 6)
theorem test_SwlReq_forward :
    routes lk2 5 6 = true ∧ pktDst (rq 1 5 0 0) ≠ lk2.devaddr ∧ (pktOn (rq 1 5 0 0)).down = false ∧ arr lk2 7 1 (rq 1 5 0 0) = true ∧ arr lk2 7 8 (rq 8 5 0 0) = true ∧
      after (.swlRdreq 7 (rq 1 5 0 0)) lk2 (fun t => (t.swlPort 6).replay.map (fun x => (x.2.1.type, x.2.1.dst, x.2.1.tag)) == [(1, 5, 0xFF)]) = true ∧
      after (.swlRrst 7 (rq 8 5 0 0)) lk2 (fun t => (t.swlPort 6).replay.map (fun x => x.2.1.type) == [8]) = true := by decide +kernel
theorem test_SwlReq_crc :
    lk2.swlUp 7 = true ∧ pktCrcOk (broken (rq 5 0 0 0)) = false ∧ after (.swlQrec 7 (broken (rq 5 0 0 0))) lk2
      (fun t => t.get (aSWL_ERRCNT 7) SWL_ERRCNT.crc_err == 1 && (t.swlPort 7).nakDue && outs7 t == [crdBlk 255 true 0 0]) = true := by decide +kernel
/-- A packet out of its order is not taken, and asks for the one that is missing. -/
theorem test_SwlReq_gap :
    after (.swlQrec 7 (rq 5 0 0 0)) (lk 4 { rxSeq := 9 }) (fun t => (t.swlPort 7).rxSeq == 9 && sent7 t == []) = true := by decide +kernel
def out1 (w : SwlWho) : SwlOut := { tag := 9, port := 7, left := some 980000, who := w }
def outS (w : SwlWho) : State := let s := lk 4 {}
  { s with swl := { s.swl with outs := [out1 w] } }
/-- The answer of type `type` to request 9. -/
def rsp9 (type : Nat) : SwlPkt :=
  { bytes := Pkt.bytes { type := type, down := false, dst := 0, src := 3, ring := 0, size := 0, tag := 9, addr := 0, data := [0x77, 0, 0, 0] } 0 }
theorem test_SwlRsp :
    let fnd (x : SwlOut) : Bool := x.tag == pktTag (rsp9 3)
    let cmd := outS (.access (xf (.cmd false)))
    cmd.swl.outs.find? fnd = some (out1 (.access (xf (.cmd false)))) ∧ tks cmd 7 3 (rsp9 3) = true ∧ tks cmd 7 10 (rsp9 10) = true ∧
      after (.swlRdrsp 7 (rsp9 3)) cmd (fun t => t.respOf q0 == { err := false, val := 0x77 } && t.swl.outs == []) = true ∧
      after (.swlErrrsp 7 (rsp9 10)) cmd (fun t => (t.respOf q0).err) = true ∧
      after (.swlRdrsp 7 (rsp9 3)) (outS (.access (xf .op))) (fun t => (t.eng 0).reply == .words [0x77] && t.swl.outs == []) = true ∧
      after (.swlErrrsp 7 (rsp9 10)) (outS (.access (xf .op))) (fun t => (t.eng 0).reply == .err 0x30000000 false) = true := by decide +kernel
theorem test_SwlRequestTimeout : 980000 + 20000 ≤ (outS (.access (xf (.cmd false)))).tb ∧
    after .swlRequestTimeout (outS (.access (xf (.cmd false)))) (fun t => refused q0 t && t.swl.outs == []) = true := by decide +kernel
theorem test_SwlQrec :
    let s := qAt 9 0 ((lk 4 {}).set (aQD_CFG 9) QD_CFG.ring 3)
    tks s 7 5 (rq 5 0 0 9) = true ∧ s.ue = [] ∧ s.ce = [] ∧ s.qMay 9 (s.effRing 0) = true ∧ after (.swlQrec 7 (rq 5 0 0 9)) s (fun t => t.qCount 9 == 1 && t.word 0x10001000 == 0x04030201 && sent7 t == [(4, 3, 0xFF)]) = true ∧
      (lk 4 {}).qMay 9 ((lk 4 {}).effRing 0) = false ∧ after (.swlQrec 7 (rq 5 0 0 9)) (lk 4 {}) (fun t => sent7 t == [(10, 3, 0xFF)]) = true := by
  decide +kernel
theorem test_SwlRrst :
    let s := ((lk 4 {}).set aSWL_DEV SWL_DEV.rrst_en 1).set aSWL_DEV SWL_DEV.in_ring 0
    tks s 7 8 (rq 8 0 0 0) = true ∧ s.on aSWL_DEV SWL_DEV.rrst_en = true ∧ s.effRing 0 = 0 ∧ s.rst.active = false ∧ s.nvm.pulse = none ∧ s.nvm.otp = none ∧ Memory.wf s.mem ∧
      Regs.wf s.regs ∧ after (.swlRrst 7 (rq 8 0 0 0)) s (fun t => t.mode == .reset && t.rst.active && !t.rst.por) = true ∧
      after (.swlRrst 7 (rq 8 0 0 0)) (lk 4 {}) (fun t => sent7 t == [(10, 3, 0xFF)] && t.mode == .run) = true := by decide +kernel
theorem test_SwlRrstSend :
    getBits 0x5A03#32 SWL_RRST.key = 0x5A ∧ getBits 0x5A03#32 SWL_RRST.target = 3 ∧ routes (lk 4 {}) 3 7 = true ∧
      after (.swlRrstSend q0 0x5A03) (lk 4 {}) (fun t => sent7 t == [(8, 3, 0)] && acked q0 t) = true := by decide +kernel
theorem test_Qfwd :
    let s := qAt 2 1 ((((lk 4 {}).set (aSWL_QFWD 63) SWL_QFWD.en 1).set (aSWL_QFWD 63) SWL_QFWD.d 3).set (aSWL_QFWD 63) SWL_QFWD.lq 2)
    s.qOn 2 = true ∧ s.qPeek 2 = some [0, 0, 0, 0] ∧ s.fwdOf 63 = none ∧
      after (.qfwdSend 63) s (fun t => sent7 t == [(5, 3, 0)] && t.fwdOf 63 == some (1000000, true) && t.qCount 2 == 1) = true ∧
      after (.qfwdResend 63) (s.setFwd 63 (some (999000, false))) (fun t => sent7 t == [(5, 3, 0)] && t.fwdOf 63 == some (1000000, true)) = true := by
  decide +kernel
/-- The target was full: the record waits until 1 µs after its last sending; another failure: it waits for its route. -/
theorem test_SwlWrack_qfwd :
    let s := (outS (.qfwd 63)).setFwd 63 (some (980000, true))
    tks s 7 4 (rsp9 4) = true ∧ s.swl.outs.find? (fun x => x.tag == pktTag (rsp9 4)) = some (out1 (.qfwd 63)) ∧ s.fwdOf 63 = some (980000, true) ∧
      after (.swlWrack 7 (rsp9 4) 2) s (fun t => t.fwdOf 63 == some (981000, false)) = true ∧
      after (.swlWrack 7 (rsp9 4) 3) s (fun t => t.fwdOf 63 == some (1000000, false) && t.on (aSWL_STATUS 7) SWL_STATUS.fwd_err) = true := by
  decide +kernel
/-- This device has joined the tandem's timebase. -/
def joined (s : State) : State := s.set aSWL_TMSTAT SWL_TMSTAT.joined 1
theorem test_SwlEvt :
    let p := evtBlk true 1000000 0x80000001
    let late := evtBlk true 999959 0x80000001
    let bad : SwlBlk := idleBlk 0
    (joined (lk 4 {})).inTandem = true ∧ (joined (lk 4 {})).stampTick 1000000 + 40 = 1000040 ∧ evtStamp p = 1000000 ∧ evtGood p = true ∧ blkBad bad = false ∧
      evtGood bad = false ∧
      after (.swlEvtBlock 7 p p true) (joined (lk 4 {})) (fun t => (t.swlPort 7).imports == [(32, 1000040), (63, 1000040)]) = true ∧
      after (.swlEvtBlock 7 late late true) (joined (lk 4 {})) (fun t => t.on (aSWL_STATUS 7) SWL_STATUS.ev_lost && (t.swlPort 7).imports == []) = true ∧
      after (.swlEvtBlock 7 bad bad true) (joined (lk 4 {})) (fun t => t.on (aSWL_STATUS 7) SWL_STATUS.ev_lost) = true := by
  decide +kernel
theorem test_SwlImport :
    let s := sel 1823 (lk 4 { imports := [(63, 1000000)] })
    s.dueTick 1000000 = 1000000 ∧ s.swlUp 7 = true ∧ s.mode ≠ .frost ∧
    after (.swlImportFire 7 63) s (fun t => fired 1823 t && (t.swlPort 7).imports == []) = true := by decide +kernel
/-- The offset of an exchange rests on a free rounding, so only the premises and the count are computed here. -/
theorem test_Tsync :
    let s := (((lk 4 {}).set aSWL_TM SWL_TM.tm_en 1).set aSWL_TM SWL_TM.master 3).set aSWL_TM SWL_TM.parent_port 7
    s.swlUp 7 = true ∧ s.tsyncDue 7 = true ∧ s.on aSWL_TMSTAT SWL_TMSTAT.joined = false ∧
      after (.tsyncExchange 7 (.ask 9 1 2 3 4)) s (fun t => t.swl.exchAt == 1000000 && outs7 t == [tsyncBlk false 9 1]) = true ∧
      after (.tsyncExchange 7 (.answer 9 5)) s (fun t => outs7 t == [tsyncBlk true 9 5]) = true := by decide +kernel
theorem test_Holdover :
    let s : State := { joined up with tb := 20000000, swl := { holdAt := some 10000000 } }
    10000000 + 10000000 ≤ s.tb ∧ after .holdoverExpiry s (fun t => !t.on aSWL_TMSTAT SWL_TMSTAT.joined && t.swl.holdAt == none) = true := by decide +kernel
theorem test_TbsyncLost :
    let s := up.set aSWL_TM SWL_TM.tbsync_en 1
    s.alive islLNK = true ∧ s.on aSWL_TM SWL_TM.tbsync_en = true ∧ after .tbsyncLost s (fun t => t.on aSWL_TMSTAT SWL_TMSTAT.tbsync_lost) = true := by
  decide +kernel
theorem test_MasterLost :
    let s := ((lk 4 {}).set aSWL_TM SWL_TM.tm_en 1).set aSWL_TM SWL_TM.master 5
    s.isMaster = false ∧ s.hears s.timeMaster = false ∧ s.swl.masterAt + 6600 ≤ s.tb ∧ s.devaddr = 0 ∧ after .masterLost (s.set aSWL_TM SWL_TM.backup_tm 1) (fun t => t.timeMaster == 0) = true ∧
      (let u := { s.setReg aSWL_DEV 4 with swl := { s.swl with hbFrom := [(3, some 1000000)] } }
       u.devaddr = 4 ∧ u.hears 3 = true ∧ after .masterLost u (fun t => t.timeMaster == 3 && t.parentPort == 7) = true) := by decide +kernel
theorem test_HbSend :
    after .hbSend (lk 4 {}) (fun t => t.swl.hbOut.map (fun h => (h.own, h.dev, h.count)) == some (false, 0, 0) && t.swl.hbCount == 1) = true := by decide +kernel
def hb3 : SwlHb := { dev := 3, own := true, mode := 4, count := 9, handT := none, accepted := false, go := false }
/-- Device 3 is the partner, and this one the preferred device unless `pr` names another. -/
def pair (pr : Nat) : State := ((lk 4 {}).set aSWL_PAIR SWL_PAIR.partner 3).set aSWL_PAIR SWL_PAIR.prio pr
theorem test_SwlHb :
    let s := (pair 0).set aSWL_OWN SWL_OWN.lost 1
    s.pairDev = 3 ∧ tks s 7 6 (pkt 6 3 []) = true ∧ after (.swlHb 7 (pkt 6 3 []) hb3) s (fun t => t.hears 3 && t.swl.partnerOwn && !t.on aSWL_OWN SWL_OWN.lost && !t.on aSWL_OWN SWL_OWN.own) = true := by
  decide +kernel
theorem test_PartnerLost :
    let s := sel 1896 ((pair 0).set aSWL_PAIR SWL_PAIR.takeover 1)
    s.pairDev ≠ s.devaddr ∧ s.heardAt + 6600 ≤ s.tb ∧ s.isPrio = true ∧ after .partnerLost s
      (fun t => t.on aSWL_OWN SWL_OWN.own && t.on aSWL_OWN SWL_OWN.partner_lost && fired 1896 t) = true := by decide +kernel
theorem test_OwnerSense :
    let s := ((pair 3).set aSWL_PAIR SWL_PAIR.sense_en 1).set aSWL_OWN SWL_OWN.own 1
    s.isPrio = false ∧ s.swl.senseAt + 1000 ≤ s.tb ∧ s.on (aGPIO_CFG 0) GPIO_CFG.in_ = false ∧ s.get aSWL_PAIR SWL_PAIR.sense_gpio = 0 ∧
      after (.ownerSense false) s (fun t => !t.on aSWL_OWN SWL_OWN.own && t.on aSWL_OWN SWL_OWN.displaced) = true ∧
      (let u := (((pair 3).set aSWL_PAIR SWL_PAIR.sense_en 1).set (aGPIO_CFG 0) GPIO_CFG.in_ 1).set aSWL_PAIR SWL_PAIR.takeover 1
       after (.ownerSense true) (u.set aSWL_OWN SWL_OWN.lost 1) (fun t => t.on aSWL_OWN SWL_OWN.own) = true) := by decide +kernel
theorem test_NoOwner :
    let s := { pair 0 with swl := { (pair 0).swl with noOwnAt := some 996000 } }
    996000 + 4000 ≤ s.tb ∧ s.isPrio = true ∧ after .noOwnerTimeout s (fun t => t.on aSWL_OWN SWL_OWN.own) = true := by decide +kernel
theorem test_OwnWrites :
    getBits 1#32 SWL_OWN.claim = 1 ∧ getBits 2#32 SWL_OWN.yield = 1 ∧ getBits 4#32 SWL_OWN.handoff = 1 ∧
      after (.swlClaim q0 1) up (fun t => t.on aSWL_OWN SWL_OWN.own && acked q0 t) = true ∧
      after (.swlYield q0 2) (up.set aSWL_OWN SWL_OWN.own 1) (fun t => !t.on aSWL_OWN SWL_OWN.own && acked q0 t) = true ∧
      after (.swlHandoff q0 4) ((up.set aSWL_OWN SWL_OWN.own 1).setReg aSWL_HAND_LO 0x200000) (fun t => t.swl.hand == some { t := 0x200000, owner := true }) = true := by
  decide +kernel
theorem test_HandoffTick :
    let h (g : Option Nat) : State := { up with swl := { hand := some { t := 1000000, owner := false, goAt := g } } }
    (h none).dueTick 1000000 ≤ (h none).tb ∧ after .handoffTick (h (some 999499)) (fun t => t.on aSWL_OWN SWL_OWN.own && t.swl.hand == none) = true ∧
      after .handoffTick (h none) (fun t => t.on aSWL_OWN SWL_OWN.hand_fail && !t.on aSWL_OWN SWL_OWN.own) = true := by decide +kernel
/-! ### Standard interfaces, JTAG and debug -/

/-- MAC 1 is enabled, its link up; its tx queues are 4 and 5, its rx queues 6 and 7, 4 records each. -/
def ethS (full : Nat) : State :=
  (((((qAt 4 1 (qAt 5 0 (qAt 6 0 (qAt 7 full up)))).setReg (aQD_BASE 5) 0x10001040).setReg (aQD_BASE 6) 0x10001080).setReg (aQD_BASE 7)
    0x100010C0).set (aMAC_CFG 1) MAC_CFG.en 1).setReg (aMAC_QCFG 1) 0x40006 |>.set (aMAC_STAT 1) MAC_STAT.link 1
theorem test_Mac_link :
    (ethS 0).macOn 1 = true ∧ after (.ethernetLinkChange 1 false) (ethS 0) (fun t => !t.on (aMAC_STAT 1) MAC_STAT.link) = true := by decide +kernel
/-- The tx record asks for a stamp in a Sync message of 34 + 14 bytes at 0x10002000. -/
def ethTx : State := { ethS 0 with mem := [(0x10001001, 0x20), (0x10001003, 0x10), (0x10001004, 64), (0x10001006, 9), (0x10001007, 0x40),
  (0x1000200C, 0x88), (0x1000200D, 0xF7)] }
theorem test_Mac_tx :
    let s := ethTx
    s.ue = [] ∧ s.ce = [] ∧ s.get (aMAC_QCFG 1) MAC_QCFG.tx = 4 ∧ s.qMay 4 0 = true ∧ s.qPeek 4 = some [0x10002000, 0x40090040, 0, 0] ∧ s.qm.waits = [] ∧ s.qMay 5 0 = true ∧
      s.qCount 5 < s.qSize 5 ∧ inSram 0x10002000 64 = true ∧ 64 ≤ s.get (aMAC_CFG 1) MAC_CFG.maxlen ∧
      sget 0 s.std.pause 1 ≤ 1000000 ∧ s.commitOwed 1000000 = false ∧ after (.macTxFrame 1 1000000 3) s (fun t =>
        t.word 0x10001040 == 9 && t.word 0x10001044 == 0x30000 && t.word 0x10001048 == 1000000 && t.qCount 4 == 0 && t.qCount 5 == 1 &&
        ((sget [] t.std.sent 1).drop 48).take 10 == [0, 0, 0, 0, 0, 0, 0, 0x0F, 0x42, 0x40] && ((sget [] t.std.sent 1).drop 22).take 8 == [0, 0, 0, 0, 0, 0, 6, 0]) = true := by
  decide +kernel
/-- A short frame is padded to 60 bytes before its FCS; a PAUSE of 2 quanta at 1 Gbit/s keeps a MAC from sending for 1,024 ns. -/
def pauseFrame : List Byte := [1, 0x80, 0xC2, 0, 0, 1, 2, 0, 0, 0, 0, 9, 0x88, 8, 0, 1, 0, 2] ++ List.replicate 46 0
theorem test_Mac_pause :
    let s := (ethS 0).set (aMAC_CFG 1) MAC_CFG.phy 2
    (macFrame [1, 2]).length = 64 ∧ isPause pauseFrame = true ∧ pauseFrame.length = 64 ∧ s.macOn 1 = true ∧
      after (.macRxFrame 1 pauseFrame true 77 3) s (fun t => sget 0 t.std.pause 1 == 1001024) = true := by decide +kernel
theorem test_Mac_rx :
    let s := (ethS 1).putWord 0x100010C0 0x10002000
    s.ue = [] ∧ s.ce = [] ∧ s.get (aMAC_QCFG 1) MAC_QCFG.rx = 6 ∧ s.qMay 7 0 = true ∧ s.qPeek 7 = some [0x10002000, 0, 0, 0] ∧ s.qm.waits = [] ∧ s.qMay 6 0 = true ∧
      s.qCount 6 < s.qSize 6 ∧ inSram 0x10002000 64 = true ∧ s.on (aMAC_CFG 1) MAC_CFG.vlan_strip = false ∧
      after (.macRxFrame 1 (List.replicate 63 0 ++ [0x5A]) false 77 3) s (fun t => t.word 0x10001080 == 0x10002000 && t.word 0x10001084 == 0x1030040 &&
        t.word 0x10001088 == 77 && t.byte 0x1000203F == 0x5A && t.qCount 6 == 1 && t.qCount 7 == 0) = true := by decide +kernel
def xspiS (b : Nat) : State := (up.set (aXSPI_CFG 1) XSPI_CFG.en 1).set (aXSPI_CSTAT 1) XSPI_CSTAT.busy b
theorem test_Xspi :
    getBits 0x80000203#32 XSPI_CCTL.go = 1 ∧ (xspiS 0).on (aXSPI_CSTAT 1) XSPI_CSTAT.busy = false ∧ (xspiS 0).isReady 19 11 = true ∧ (xspiS 0).hwNow (aXSPI_CCTL 1) = 0 ∧
      (fXSPI_CCTL.all (fun f => f.legal (getBits 0x80000203#32 f))) = true ∧ after (.xspiCommand q0 1 0x80000203) (xspiS 0)
        (fun t => t.on (aXSPI_CSTAT 1) XSPI_CSTAT.busy && t.get (aXSPI_CCTL 1) XSPI_CCTL.nbytes == 2 && acked q0 t &&
          (t.xspiCmd 1).any (fun c => getBits c.cmd XSPI_CCTL.nbytes == 2 && !c.after)) = true ∧
      after (.xspiCommand q0 1 0x80000203) (xspiS 1) (fun t => t.on (aXSPI_CSTAT 1) XSPI_CSTAT.err && t.get (aXSPI_CCTL 1) XSPI_CCTL.nbytes == 0) = true := by
  decide +kernel
theorem test_XspiDone :
    let x (w : Word) : Xspi := { cmd := w, addr := 0, proto := 0, data := [], after := false }
    let s := xspiS 1
    (s.setXspi 1 (some (x 0x80000503))).xspiCmd 1 = some (x 0x80000503) ∧ getBits (x 0x80000503).cmd XSPI_CCTL.dir = 0 ∧
      getBits (x 0x80000503).cmd XSPI_CCTL.nbytes = 5 ∧ getBits (x 0xFFFFFFFF).cmd XSPI_CCTL.dir = 1 ∧
      after (.xspiCommandDone 1 [1, 2, 3, 4, 5]) (s.setXspi 1 (some (x 0x80000503)))
        (fun t => !t.on (aXSPI_CSTAT 1) XSPI_CSTAT.busy && t.on (aXSPI_CSTAT 1) XSPI_CSTAT.done && t.reg (aXSPI_BUF 1 0) == 0x04030201 &&
          t.reg (aXSPI_BUF 1 1) == 5 && t.xspiCmd 1 == none) = true ∧
      after (.xspiCommandDone 1 []) (s.setXspi 1 (some (x 0xFFFFFFFF))) (fun t => t.on (aXSPI_CSTAT 1) XSPI_CSTAT.done) = true := by
  decide +kernel
/-- I2C controller 11, enabled, with `x`; and while its transaction runs. -/
def i2c (x : Serial) : State := (up.set (aI2C_CFG 11) I2C_CFG.en 1).setSerial 11 x
def i2cB (x : Serial) : State := ((i2c x).set (aI2C_STAT 11) I2C_STAT.busy 1).set (aI2C_STAT 11) I2C_STAT.bus_busy 1
theorem test_I2cGo :
    let s := i2c { tx := [0xAB, 0xCD] }
    s.serOn (.i2c 11) = true ∧ s.on (aI2C_CFG 11) I2C_CFG.target = false ∧ getBits 0xA07F0005#32 I2C_CMD.go = 1 ∧ s.hwNow (aI2C_CMD 11) = 0 ∧
      after (.i2cGo q0 11 0xA07F0005) s (fun t => t.on (aI2C_STAT 11) I2C_STAT.busy && (t.serial 11).left == 3 && (t.serial 11).tx == [] && acked q0 t) = true ∧
      after (.i2cGo q0 11 0xE07F0005) s (fun t => t.on (aI2C_STAT 11) I2C_STAT.busy && (t.serial 11).left == 0 && (t.serial 11).tx == [0xAB, 0xCD]) = true := by
  decide +kernel
theorem test_I2cDone :
    let s := i2cB { cmd := 0x407F0002, rx := [7] }
    s.on (aI2C_STAT 11) I2C_STAT.busy = true ∧ (s.serial 11).inb = none ∧ s.on (aI2C_CFG 11) I2C_CFG.pec_en = false ∧
      getBits (s.serial 11).cmd I2C_CMD.nbytes = 2 ∧ getBits (s.serial 11).cmd I2C_CMD.dir = 1 ∧
      after (.i2cTransactionDone 11 (.done [8, 9])) s (fun t => (t.serial 11).rx == [7, 8, 9] && t.get (aI2C_STAT 11) I2C_STAT.rx_level == 3 &&
        t.on (aI2C_STAT 11) I2C_STAT.done && (t.serial 11).kept) = true ∧
      after (.i2cTransactionDone 11 .nak) s (fun t => t.on (aI2C_STAT 11) I2C_STAT.nak && !t.on (aI2C_STAT 11) I2C_STAT.bus_busy) = true ∧
      after (.i2cTransactionDone 11 .arbLost) s (fun t => t.on (aI2C_STAT 11) I2C_STAT.arb_lost && !t.on (aI2C_STAT 11) I2C_STAT.busy) = true ∧
      getBits 0x207F0002#32 I2C_CMD.dir = 0 ∧
      after (.i2cTransactionDone 11 (.done [])) (i2cB { cmd := 0x207F0002 }) (fun t => !(t.serial 11).kept && t.on (aI2C_STAT 11) I2C_STAT.done) = true := by
  decide +kernel
theorem test_I2cTimeout :
    let s := (i2cB {}).set (aI2C_CFG 11) I2C_CFG.smbus 1
    s.serOn (.i2c 11) = true ∧ s.on (aI2C_CFG 11) I2C_CFG.smbus = true ∧
      after (.i2cTimeout 11) s (fun t => t.on (aI2C_STAT 11) I2C_STAT.timeout && !t.on (aI2C_STAT 11) I2C_STAT.bus_busy) = true := by decide +kernel
/-- The controller is a target at address 0x7F. -/
def i2cT (x : Serial) : State := ((i2c x).set (aI2C_CFG 11) I2C_CFG.target 1).set (aI2C_CFG 11) I2C_CFG.addr0 0x7F
theorem test_I2cAddressed :
    (i2cT {}).answers 11 0x7F = true ∧ after (.i2cAddressed 11 0x7F true [] 0) (i2cT {})
      (fun t => t.on (aI2C_STAT 11) I2C_STAT.addressed && (t.serial 11).sends && t.on (aI2C_STAT 11) I2C_STAT.bus_busy) = true ∧
      after (.i2cAddressed 11 0x7F true [8, 9] 0) (i2cT { kept := true, rx := [7] }) (fun t => (t.serial 11).rx == [7, 8, 9] && (t.serial 11).sends) = true ∧
      after (.i2cAddressed 11 0x7F false [] 1) (i2cT { kept := true, sends := true, tx := [1, 2] })
        (fun t => (t.serial 11).tx == [2] && !(t.serial 11).sends) = true := by decide +kernel
theorem test_I2cStop :
    after (.i2cStopSeen 11 [] 0) (i2c {}) (fun t => t.on (aI2C_STAT 11) I2C_STAT.stop_seen) = true ∧
      (i2cT { kept := true }).on (aI2C_CFG 11) I2C_CFG.target = true ∧
      after (.i2cStopSeen 11 [0xAB] 0) (i2cT { kept := true }) (fun t => (t.serial 11).rx == [0xAB] && !(t.serial 11).kept) = true ∧
      after (.i2cStopSeen 11 [] 1) (i2cT { kept := true, sends := true, tx := [1, 2] }) (fun t => (t.serial 11).tx == [2]) = true := by decide +kernel
/-- UART 7 and SPI controller 7, enabled, with `x`. -/
def uart (x : Serial) : State := (up.set (aUART_CFG 7) UART_CFG.en 1).setSerial 27 x
def spi (x : Serial) : State := (up.set (aSPI_CFG 7) SPI_CFG.en 1).setSerial 19 x
theorem test_Push :
    let s := uart { shift := some 1, tx := List.replicate 31 5 }
    s.SerQuiet (.uart 7) ∧ (s.ser (.uart 7)).tx.length = 31 ∧
      after (.dataPush q0 (.uart 7) 0xFFFF) s (fun t => (t.ser (.uart 7)).tx == List.replicate 31 5 ++ [0x1FF] && acked q0 t) = true ∧
      after (.dataPush q0 (.uart 7) 0xFFFF) (uart { shift := some 1, tx := List.replicate 32 5 }) (fun t => t.on (aUART_STAT 7) UART_STAT.tx_ovf && acked q0 t) = true ∧
      (uart {}).serOn (.uart 7) = true ∧
      after (.dataPush q0 (.uart 7) 0xFFFF) (uart {}) (fun t => (t.ser (.uart 7)).shift == some 0x1FF && t.on (aUART_STAT 7) UART_STAT.tx_busy) = true := by
  refine ⟨Or.inr rfl, ?_⟩; decide +kernel
theorem test_Pop :
    after (.dataPop q0 (.uart 7)) (uart { rx := [0x55, 0x66] }) (fun t => t.respOf q0 == { err := false, val := 0x55 } && (t.ser (.uart 7)).rx == [0x66]) = true ∧
      after (.dataPop q0 (.uart 7)) (uart {}) (fun t => acked q0 t && t.on (aUART_STAT 7) UART_STAT.rx_unf) = true := by decide +kernel
theorem test_SerQuiet : (i2c {}).SerQuiet (.i2c 11) ∧ up.SerQuiet (.spi 7) ∧ up.SerQuiet (.uart 7) :=
  ⟨⟨by decide +kernel, by decide +kernel⟩, Or.inl (by decide +kernel), Or.inl (by decide +kernel)⟩
theorem test_SpiWord :
    (spi { shift := some 1 }).serOn (.spi 7) = true ∧ (spi {}).on (aSPI_CFG 7) SPI_CFG.target = false ∧
      after (.spiWordDone 7 0xFFF) (spi { shift := some 1 }) (fun t => (t.ser (.spi 7)).rx == [0xFF] && t.on (aSPI_STAT 7) SPI_STAT.done && (t.ser (.spi 7)).shift == none) = true ∧
      after (.spiWordDone 7 0xFFF) (spi { shift := some 1, tx := [2, 3] })
        (fun t => (t.ser (.spi 7)).rx == [0xFF] && t.on (aSPI_STAT 7) SPI_STAT.busy && (t.ser (.spi 7)).shift == some 2 && (t.ser (.spi 7)).tx == [3]) = true := by
  decide +kernel
theorem test_CsEnd :
    getBits 1#32 SPI_CTRL.cs_end = 1 ∧ after (.csEnd q0 7 1) (spi { cs := true }) (fun t => !(t.ser (.spi 7)).cs && acked q0 t) = true ∧
      after (.csEnd q0 7 1) (spi { cs := true, shift := some 1 }) (fun t => (t.ser (.spi 7)).cs && (t.ser (.spi 7)).csEnd) = true := by decide +kernel
theorem test_UartChars :
    after (.uartRxChar 7 0x1FF true false) (uart { rx := List.replicate 31 5 }) (fun t => (t.ser (.uart 7)).rx == List.replicate 31 5 ++ [0x8FF] &&
        t.on (aUART_STAT 7) UART_STAT.fe) = true ∧
      after (.uartRxChar 7 0x1FF true false) (uart { rx := List.replicate 32 5 }) (fun t => t.on (aUART_STAT 7) UART_STAT.rx_ovf) = true ∧
      after (.uartTxChar 7) (uart { shift := some 5 }) (fun t => (t.ser (.uart 7)).shift == none && !t.on (aUART_STAT 7) UART_STAT.tx_busy) = true ∧
      after (.uartTxChar 7) (uart { shift := some 5, tx := [6] }) (fun t => (t.ser (.uart 7)).shift == some 6 && (t.ser (.uart 7)).tx == []) = true := by decide +kernel
/-- CAN controller 7, enabled, with `x`. -/
def can7 (x : Can) : State := (up.set (aCAN_CFG 7) CAN_CFG.en 1).setCan 7 x
theorem test_CanTxreq :
    let s := (can7 {}).setReg (aCAN_TXB 7 30 1) 9
    s.canValid 7 31 = true ∧ s.canValid 7 30 = false ∧ after (.canTxreq q0 7 0xC0000000) s
      (fun t => t.bit (aCAN_TXREQ 7) 31 && !t.bit (aCAN_TXREQ 7) 30 && t.on (aCAN_STAT 7) CAN_STAT.err && acked q0 t) = true ∧
      after (.canTxabort q0 7 0x80000000) (s.setReg (aCAN_TXREQ 7) 0x80000001) (fun t => t.reg (aCAN_TXREQ 7) == 1 && acked q0 t) = true ∧
      after (.canTxreq q0 7 0x80000000) s (fun u => after (.canTxabort q0 7 0x80000000) u (fun t => t.reg (aCAN_TXREQ 7) == 0x80000000)) = true := by
  decide +kernel
/-- The error counters as a frame leaves them. -/
def cerr : CanErr := { tec := 96, rx := 3, err := false }
theorem test_CanTx :
    let s := (can7 {}).setReg (aCAN_TXREQ 7) 0x80000000
    s.canOn 7 = true ∧ s.on (aCAN_CFG 7) CAN_CFG.silent = false ∧ s.canNext 7 31 = true ∧ (s.swNow (aCAN_TXREQ 7)).getLsbD 31 = false ∧
      after (.canTxFrame 7 31 1000000 cerr) s (fun t => t.get (aCAN_STAT 7) CAN_STAT.tec == 96 && t.reg (aCAN_TXREQ 7) == 0 && t.reg (aCAN_TXB 7 31 2) == 1000000 && t.on (aCAN_STAT 7) CAN_STAT.tx_done) = true ∧
      (let u := s.setReg (aCAN_TXB 7 31 0) 0x40000000
       u.canValid 7 31 = false ∧ u.canNext 7 31 = true ∧ s.canValid 7 31 = true ∧
         after (.canTxFrame 7 31 1000000 cerr) u (fun t => t.reg (aCAN_TXREQ 7) == 0 && t.on (aCAN_STAT 7) CAN_STAT.err)) = true := by
  decide +kernel
def fr4 : List Word := [5, 2, 0, 0, 0xFFFFFFFF]
theorem test_CanRx :
    after (.canRxFrame 7 fr4 77 cerr) (can7 {}) (fun t => (t.can 7).rx == [[5, 2, 77, 0, 0xFFFF] ++ List.replicate 15 0] && t.on (aCAN_STAT 7) CAN_STAT.rx &&
        t.get (aCAN_RXLVL 7) CAN_RXLVL.level == 1) = true ∧
      (can7 { rx := List.replicate 64 fr4 }).canOn 7 = true ∧
      after (.canRxFrame 7 fr4 77 cerr) (can7 { rx := List.replicate 64 fr4 }) (fun t => t.on (aCAN_STAT 7) CAN_STAT.rx_lost && (t.can 7).rx.length == 64) = true ∧
      after (.canRxpop q0 7 1) (can7 { rx := List.replicate 64 fr4 }) (fun t => t.get (aCAN_RXLVL 7) CAN_RXLVL.level == 63 && acked q0 t) = true := by decide +kernel
theorem test_CanBusOff :
    let s := (can7 {}).set (aCAN_STAT 7) CAN_STAT.bus_off 1
    after (.canBusOff 7) (can7 {}) (fun t => t.on (aCAN_STAT 7) CAN_STAT.bus_off && !t.canOn 7) = true ∧ getBits 0x80000000#32 CAN_CTRL.recover = 1 ∧
      after (.canRecover q0 7 0x80000000) s (fun t => (t.can 7).recover && acked q0 t) = true ∧
      after (.busOffRecoveryDone 7) (s.setCan 7 { recover := true }) (fun t => !t.on (aCAN_STAT 7) CAN_STAT.bus_off && t.canOn 7) = true := by decide +kernel
theorem test_Gpio :
    let s := sel 927 (up.setReg (aGPIO_CFG 31) 1)
    s.on (aGPIO_CFG 31) GPIO_CFG.in_ ≠ true ∧ s.gpioOn = true ∧ s.gpioShort 31 = false ∧ s.get (aGPIO_CFG 31) GPIO_CFG.edge = 1 ∧
      after (.gpioInputChange 31 true) s (fun t => t.on (aGPIO_CFG 31) GPIO_CFG.in_ && fired 927 t) = true ∧
      (let u := withAct 2935 (up.setReg (aGPIO_CFG 31) 0x80000030)
       u.actFor (2904 + 31) = some (actOf 2935) ∧ after (.gpioOutputAction 31) u
         (fun t => t.on (aGPIO_CFG 31) GPIO_CFG.out && t.on (aGPIO_CFG 31) GPIO_CFG.in_ && t.fab.acts == []) = true) := by decide +kernel
theorem test_Jtag :
    let s := { up with mem := [(0x0F00C000, 7)], nvm := { lock := .unlocked 2 } }
    s.dbgOpen 1 = true ∧ s.dbgOpen 0 = false ∧ after .extest s (fun t => t.std.jtag.inst == .extest) = true ∧
      after .highz { s with nvm := { lock := .unlocked 1 } } (fun t => t.std.jtag.inst == .bypass) = true ∧
      after (.samplePreload [true]) s (fun t => t.std.jtag == { inst := .sample, latch := [true] }) = true := by decide +kernel
def dbgS : State := { up with nvm := { lock := .unlocked 1 } }
theorem test_DebugHalt :
    dbgS.dbgOpen 0 = true ∧ dbgS.mode.canHalt = true ∧ after (.debugHalt [257]) dbgS (fun t => t.mode == .halt && (t.eng 257).dbg && !(t.eng 256).dbg) = true ∧
      (let h := { dbgS.setEng 257 { dbg := true } with mode := .halt, rst := { dbgS.rst with beforeHalt := .lull } }
       h.dbgOpen 0 = true ∧ h.rst.haltHold = false ∧ after .debugResume h (fun t => t.mode == .lull && !(t.eng 257).dbg) = true ∧
       after .debugResume { h with rst := { h.rst with beforeHalt := .watch, leaving := true } } (fun t => t.mode == .safehold) = true) := by decide +kernel
theorem test_CrossTrigger :
    let s := withAct 3071 ({ dbgS.setReg (aDBG_XTR8 7) 0x80000002 with mode := .run })
    s.actFor (3064 + 7) = some (actOf 3071) ∧ s.bit (aDBG_XTR8 7) 31 = true ∧ s.xtrEngines 7 = [257] ∧
      after (.crossTrigger 7) s (fun t => t.mode == .halt && (t.eng 257).dbg && t.fab.acts == []) = true ∧
      after (.crossTrigger 7) (withAct 3071 dbgS) (fun t => t.mode == .run && t.fab.acts == [] && t.std.marks == [(7, 1000000)]) = true := by decide +kernel
/-! ### Resets, release and modes -/

theorem test_Unreset : up.Unreset := ⟨rfl, rfl, rfl, by decide +kernel, by decide +kernel⟩
/-- A reset of class SYS, or POR, began with the cause. -/
def began (por : Bool) (c : Nat) (t : State) : Bool :=
  t.mode == .reset && t.rst.active && t.rst.por == por && t.get aRSTCAUSE RSTCAUSE.cause == c && !t.isReady 13 0
theorem test_Resets_por :
    after (.powerOn .vcore 1000 false) up (fun t => began true 1 t && t.rst.powLow == [.vcore]) = true ∧
      after (.brownOut true 1000) up (fun t => began true 2 t && t.rst.vaonLow) = true ∧
      after (.powerOn (.vio 0) 99 true) up (fun t => t.mode == .run && !t.rst.active && t.rst.powLow == [.vio 0]) = true ∧
      after (.brownOut false 99) up (fun t => t.mode == .run && !t.rst.active) = true := by
  decide +kernel
theorem test_Resets_sys :
    after .thermalShutdown up (began false 3) = true ∧ 4 ∉ up.rst.causes ∧
      after (.resetnLow 200 true) up (fun t => began false 4 t && t.reg aRST_TB_LO == 1000000 && t.rst.causes == [4]) = true ∧
      up.rst.crystal = false ∧ after (.refclkLoss false) up (fun t => began false 6 t && t.rst.refLost) = true ∧ getBits 0x9600#32 SW_RST.key = 0x96 ∧ up.admits q0 islAON = true ∧
      after (.swRst q0 0x9600) up (fun t => began false 8 t && acked q0 t) = true ∧ dbgS.dbgOpen 0 = true ∧ after .debugReset dbgS (began false 9) = true := by
  decide +kernel
theorem test_Resets_none :
    getBits 0x9700#32 SW_RST.key ≠ 0x96 ∧ after (.swRst q0 0x9700) up (fun t => t.on aRST_STATUS RST_STATUS.bad_req && t.mode == .run) = true ∧
      after (.resetnLow 49 true) up (· == up) = true ∧ after (.refclkLoss true) up (· == up) = true ∧
      { up with mem := [(0x0F00C000, 7)], nvm := { lock := .unlocked 2 } }.dbgOpen 0 = false := by decide +kernel
theorem test_CausesEnd :
    let r : RstSt := { active := true, causes := [1, 2, 3, 6], powLow := [.vaon, .vaon], vaonLow := true, refLost := true }
    let s := { up with rst := r }
    (∀ x ∈ s.rst.powLow, x = .vaon) ∧ s.rst.vcoreLow = false ∧ s.rst.vaonLow = true ∧ s.rst.crystal = false ∧
      after (.railGood .vaon true) s (fun t => t.rst.powLow == [] && t.rst.causes == [3, 6] && !t.rst.vaonLow) = true ∧
      after (.railGood .vaon false) s (fun t => t.rst.powLow == [] && t.rst.causes == [2, 3, 6] && t.rst.vaonLow) = true ∧
      after (.railGood .vana true) { s with rst := { r with powLow := [.vana, .vaon], vcoreLow := true } }
        (fun t => t.rst.powLow == [.vaon] && t.rst.causes == r.causes) = true ∧
      after .thermalShutdownRelease s (fun t => t.rst.causes == [1, 2, 6]) = true ∧
      after (.refclkReturn false) s (fun t => t.rst.causes == [1, 2, 3] && !t.rst.refLost) = true := by decide +kernel
/-- BRINGUP, `k` steps of the release order done. -/
def bring (k : Nat) : State := { up with mode := .bringup, rst := { best := 1, step := k } }
/-- Three copies of the trim records: the first holds one record, of converter 31, the others none. -/
def trimS : State := { bring 1 with mem :=
  [(0x0F000000, 2), (0x0F000001, 0), (0x0F000002, 31), (0x0F000003, 1), (0x0F000004, 0x34), (0x0F000005, 0x12), (0x0F000006, 0xF), (0x0F000007, 0),
   (0x0F000008, 0x45), (0x0F000009, 0x23), (0x0F00000A, 1), (0x0F00000B, 0), (0x0F00000C, 0x94), (0x0F00000D, 0x95), (0x0F00000E, 0x7A),
   (0x0F00000F, 0xD9)] ++ [0x0F000010, 0x0F004000, 0x0F008000].flatMap (fun a => (List.range 4).map (fun i => (a + i, 0xFF))) }
theorem test_TrimLoad :
    trimS.loadDue 1 = true ∧ trimOf trimS.trimCopies 1 31 = .value [0xF1234, 0x12345] true ∧ trimOf trimS.trimCopies 1 30 = .missing ∧
      after .trimLoadDone trimS (fun t => t.get (aCONV_OF 31) CONV_OF.of == 0xF1234 && t.on aLOAD_STATUS LOAD_STATUS.trim_done && t.rst.step == 2) = true := by
  decide +kernel
/-- Record 31 of the user calibration: copy 0 holds it, copy 1 does not. -/
def calS : State := { bring 2 with mem :=
  [(0x001011F0, 7), (0x001011F1, 0), (0x001011F2, 0x1F), (0x001011F3, 1), (0x001011F4, 0x34), (0x001011F5, 0x12), (0x001011F6, 0xF), (0x001011F7, 0),
   (0x001011F8, 0x45), (0x001011F9, 0x23), (0x001011FA, 1), (0x001011FB, 0), (0x001011FC, 0x84), (0x001011FD, 0xE2), (0x001011FE, 0xD9),
   (0x001011FF, 0x41)] ++ (List.range 4).map (fun i => (0x001019F0 + i, 0)) }
theorem test_CalLoad :
    calS.loadDue 2 = true ∧ chooseCal (calS.calCopy 0 31) (calS.calCopy 1 31) = .value [0x011F0007, 0xF1234, 0x12345, 0x41D9E284] true := by decide +kernel
theorem test_Release :
    let s := ({ bring 27 with mem := [(0x21FFFFFF, 7)] }).setBit (aREADY 22) 25 false
    s.rst.isl = none ∧ s.releaseDue = true ∧ after .islandRelease s (fun t => t.alive 25 && t.mode == .safehold && t.byte 0x21FFFFFF == 0 && t.rst.step == 28) = true ∧
      (bring 10).releaseDue = true ∧ (bring 10).pairFailed 0 = false ∧ (bring 11).releaseDue = true ∧ (bring 11).pairFailed 1 = false := by decide +kernel
theorem test_ReleaseIsl :
    let s := ({ up with rst := { best := 1, step := 28, isl := some { isl := 25, held := true, start := 999360 } } }).setBit (aREADY 22) 25 false
    after .islandRelease s (fun t => t.alive 25 && t.rst.isl == none && t.mode == .run) = true := by decide +kernel
theorem test_MemoryInit :
    let s := { up with rst := { best := 1, step := 28, init := [23, 15] } }
    s.initing 23 = true ∧ after (.memoryInitDone (.sram 7)) s (fun t => t.isReady 21 31 && t.rst.init == [15]) = true ∧
      after (.memoryInitDone (.clutch 15)) s (fun t => t.isReady 7 31 && t.rst.init == [23]) = true := by decide +kernel
theorem test_BlockReady :
    let s := up.setBit (aREADY 19) 7 false
    s.canReady 19 7 = true ∧ s.isReady 19 7 = false ∧ after (.blockReady 19 7) s (fun t => t.isReady 19 7 && t.on aMODE MODE.ready_chg) = true := by decide +kernel
theorem test_IslRst :
    getBits 0x9F000001#32 ISL_RST.go = 1 ∧ islOfCode (getBits 0x9F000001#32 ISL_RST.island) = some 25 ∧ up.alive 25 = true ∧
      after (.islRst q0 0x9F000001) up (fun t => t.rst.isl == some { isl := 25, held := false, start := 1000000 } &&
        t.get aRST_STATUS RST_STATUS.last_island == 31 && acked q0 t) = true ∧
      (let s := up.setBit (aREADY 22) 25 false
       s.alive 25 = false ∧ after (.islRst q0 0x9F000001) s (fun t => t.on aRST_STATUS RST_STATUS.bad_req && t.rst.isl == none) = true) ∧
      islOfCode (getBits 0x8A000001#32 ISL_RST.island) = none := by decide +kernel
def islS (i : Nat) : State :=
  { up.set aISL_RST ISL_RST.timeout 1 with rst := { best := 1, step := 28, isl := some { isl := i, held := false, start := 999000 } } }
theorem test_IslIdle_clu :
    let s := (islS 25).setEng 255 { acks := 1, a := 5 }
    s.islIdle 25 = false ∧ 999000 + 1000 * s.get aISL_RST ISL_RST.timeout ≤ s.tb ∧
      after (.islIdleDone 25) s (fun t => !t.alive 25 && (t.eng 255).a == 0 && t.rst.isl == some { isl := 25, held := true, start := 1000000 } &&
        t.on aRST_STATUS RST_STATUS.idle_timeout) = true := by decide +kernel
theorem test_IslIdle_tim :
    let s := (islS 5).set (aTZ_CFG 31) TZ_CFG.hold_n 7
    s.islIdle 5 = true ∧ after (.islIdleDone 5) s (fun t => !t.alive 5 && t.get (aTZ_CFG 31) TZ_CFG.hold_n == 1) = true := by decide +kernel
theorem test_BlkRst :
    getBits 0x86000027#32 BLK_RST.go = 1 ∧ getBits 0x86000027#32 BLK_RST.kind = 6 ∧ getBits 0x86000027#32 BLK_RST.index = 39 ∧ blkCount 6 = 40 ∧
      after (.blkRst q0 0x86000027) up (fun t => !t.isReady 20 15 && t.rst.blk == [{ kind := 6, index := 39, ends := 1000640 }] && acked q0 t) = true ∧
      after (.blkRst q0 0x86000028) up (fun t => t.on aRST_STATUS RST_STATUS.bad_req && t.isReady 20 15) = true := by decide +kernel
theorem test_ModeLull :
    getBits 7#32 MODE_REQ.target = 7 ∧ up.shownMode = 4 ∧
      after (.modeReqLull q0 7) up (fun t => t.mode == .lull && t.on (aCLUTCH_CLK 15) CLUTCH_CLK.relocking && acked q0 t) = true ∧
      (let s := { up with mode := .safehold }
       s.shownMode ≠ 7 ∧ after (.modeReqLull q0 7) s (fun t => t.on aMODE MODE.req_refused && t.get aMODE MODE.req_cause == 1 && t.mode == .safehold) = true) := by
  decide +kernel
theorem test_ModeWatch :
    let w := putBits 8 MODE_REQ.watch_keep 0x8001
    getBits w MODE_REQ.target = 8 ∧ up.hwNow aMODE_REQ = 0 ∧ after (.modeReqWatch q0 w) up (fun t => t.mode == .watch && t.rst.kept == 0x8001 && t.on aSAFE_CTRL SAFE_CTRL.hold) = true := by
  decide +kernel
theorem test_ModeRun :
    after (.modeReqRun q0 4) { up with mode := .lull } (fun t => t.mode == .run && acked q0 t) = true ∧
      (let s := { up with mode := .watch }
       s.rst.leaving = false ∧ s.alive (islCLU 0) = true ∧
         after (.modeReqRun q0 4) s (fun t => t.mode == .watch && t.rst.leaving && t.on (aCLUTCH_CLK 15) CLUTCH_CLK.relocking) = true) := by decide +kernel
theorem test_ModeFrost :
    getBits 9#32 MODE_REQ.target = 9 ∧ (up.set aWAKE_CFG WAKE_CFG.en 1).frostBar = none ∧ up.frostBar = some 4 ∧
      after (.modeReqFrost q0 9) (up.set aWAKE_CFG WAKE_CFG.en 1) (fun t => t.mode == .frost && t.rst.stopDue && t.rst.entry == some 1000000) = true ∧
      after (.modeReqFrost q0 9) up (fun t => t.on aMODE MODE.req_refused && t.get aMODE MODE.req_cause == 4 && t.mode == .run && acked q0 t) = true := by
  decide +kernel
theorem test_FrostStop :
    let s : State := { up with rst := { up.rst with stopDue := true } }
    s.reqNow = false ∧ s.rst.stopDue = true := by decide +kernel
theorem test_ModeTripped :
    let s := sel 1891 up
    s.mode.canTrip = true ∧ s.canTrip = true ∧ after (.modeReqTripped q0 11) s (fun t => t.mode == .tripped && t.get aMODE MODE.trip_cause == 1 && fired 1891 t) = true := by
  decide +kernel
/-- FROST, its entry complete or begun at 999000. -/
def cold (e : Bool) : State := { up with mode := .frost, rst := { best := 1, step := 28, entry := if e then some 999000 else none } }
theorem test_FrostEntry :
    let s := { cold true with mem := [(0x10000000, 1)] }
    s.mode = .frost ∧ s.rst.entry = some 999000 ∧ s.nvm.pulse = none ∧ s.reqNow = false ∧ s.toAon = false ∧ s.rst.wakePend = none ∧ s.frostMem 0x10000000 = false ∧
      { s.rst with wakePend := some (0, 0) }.wakePend.isSome = true := by decide +kernel
theorem test_Wake :
    let s (e : Bool) := (withAct 2391 (cold e)).set aWAKE_CFG WAKE_CFG.en 0x8000
    (s false).actFor (2376 + 15) = some (actOf 2391) ∧ (s false).bit aWAKE_CFG 15 = true ∧
      after (.wake 15) (s false) (fun t => t.mode == .bringup && t.rst.wake && t.rst.step == 1 && t.get aWAKE_STATUS WAKE_STATUS.input == 15 &&
        t.reg aWAKE_TB_LO == 1000000) = true ∧
      after (.wake 15) (s true) (fun t => t.mode == .frost && t.rst.wakePend == some (15, 1000000) && t.on aWAKE_STATUS WAKE_STATUS.in_entry) = true := by
  decide +kernel
theorem test_Sk1 :
    let s := up.set (aENG_STATUS 257) ENG_STATUS.halted 1
    getBits 1#32 SK_RUN.sk1_run = 1 ∧ s.halted 257 = true ∧ s.alive (islSUP 1) = true ∧
      after (.sk1Run q0 1) (s.setEng 257 { pc := 8 }) (fun t => !t.halted 257 && (t.eng 257).pc == 0 && t.ring 257 == 0 && acked q0 t) = true := by decide +kernel
def warm : State := sel 1897 { up with trims := [(1536, [5])] }
theorem test_Therm :
    warm.on aLOAD_STATUS LOAD_STATUS.trim_done = true ∧ (sget [] warm.trims (256 * 6)).isEmpty = false ∧ warm.get aTHERM THERM.warn_c = 189 ∧ warm.av.hot = false ∧ warm.canTrip = true ∧
      after (.thermReading 126) warm (fun t => t.get aTHERM THERM.tj == 190 && t.on aTHERM THERM.warn && fired 1897 t) = true ∧
      after (.thermReading (-100)) warm (fun t => t.get aTHERM THERM.tj == 1 && !t.on aTHERM THERM.warn) = true ∧
      after (.thermReading 126) (warm.set aTHERM THERM.trip_en 1) (fun t => t.mode == .tripped && t.get aMODE MODE.trip_cause == 2 && t.on aSAFE_CTRL SAFE_CTRL.hold) = true := by
  decide +kernel
/-! ### Non-volatile memory, boot, debug lock -/

/-- The word at 0x101000 of NVM is addressed, the data is 0x5A. -/
def nvmS : State := (up.set aNVM_WADDR NVM_WADDR.word 0x400).setReg aNVM_WDATA 0x5A
theorem test_NvmWrite :
    getBits 0xC301#32 NVM_CMD.go = 1 ∧ getBits 0xC301#32 NVM_CMD.key = 0xC3 ∧ up.ringOf q0 ≤ 1 ∧ up.admits q0 islSYS = true ∧
      4 * nvmS.get aNVM_WADDR NVM_WADDR.word = 0x1000 ∧ after (.nvmWriteCmd q0 0xC301) nvmS
        (fun t => t.nvm.pulse == some { addr := 0x101000, data := 0x5A, start := 1000000 } && t.on aNVM_STATUS NVM_STATUS.busy && acked q0 t) = true ∧
      after (.nvmWriteCmd q0 0xC401) nvmS (fun t => t.nvm.pulse == none && t.on aNVM_STATUS NVM_STATUS.cmd_err) = true ∧
      (let s := nvmS.set aNVM_WADDR NVM_WADDR.word 0x3FF
       after (.nvmWriteCmd q0 0xC301) s (fun t => t.on aNVM_STATUS NVM_STATUS.cmd_err) = true ∧
       after (.nvmWriteCmd q0 0xC301) (s.set aNVM_STATUS NVM_STATUS.sess_bad 1) (fun t => t.nvm.pulse.isSome) = true) := by decide +kernel
theorem test_NvmPulse :
    let s := { up with nvm := { pulse := some { addr := 0x1FFFFC, data := 0x5A, start := 998800 } }, ue := [0x1FFFFC] }
    998800 + 1200 ≤ s.tb ∧ s.alive islSYS = true ∧ s.nvm.sess = none ∧ after .nvmPulseDone s (fun t => t.nvm.pulse == none && t.ue == [] && t.on aNVM_STATUS NVM_STATUS.done) = true := by
  decide +kernel
/-- The device is not provisioned, or it is. -/
def otpS (b : Byte) : State := { (up.set aOTP_PADDR OTP_PADDR.word 0x5B).setReg aOTP_PDATA 0x5A with mem := [(0x0F00C000, b)] }
theorem test_Otp :
    (otpS 0).provisioned = false ∧ (otpS 7).provisioned = true ∧ getBits 0x3C01#32 OTP_PCMD.go = 1 ∧ getBits 0x3C01#32 OTP_PCMD.key = 0x3C ∧
      4 * (otpS 0).get aOTP_PADDR OTP_PADDR.word = 0x16C ∧
      after (.otpProgram q0 0x3C01) (otpS 0) (fun t => t.nvm.otp == some (0x0F00C16C, 0x5A) && t.on aOTP_PCMD OTP_PCMD.busy && acked q0 t) = true ∧
      after (.otpProgram q0 0x3C01) (otpS 7) (fun t => t.nvm.otp == none && t.on aOTP_PCMD OTP_PCMD.prog_err) = true ∧
      after (.otpProgram q0 0x3C01) ((otpS 7).set aOTP_PADDR OTP_PADDR.word 0x34) (fun t => t.nvm.otp == some (0x0F00C0D0, 0x5A)) = true ∧
      after (.otpProgram q0 0x3C01) ((otpS 7).set aOTP_PADDR OTP_PADDR.word 0x37) (fun t => t.on aOTP_PCMD OTP_PCMD.prog_err) = true := by decide +kernel
theorem test_OtpDone :
    let s := { up with mem := [0, 1, 2, 3].map (fun i => (0x0F00C000 + i, 0)), nvm := { otp := some (0x0F00C000, 0x0100000F) } }
    after .otpProgramDone s (fun t => t.nvm.otp == none && !t.on aOTP_PCMD OTP_PCMD.busy) = true ∧ s.word 0x0F00C000 = 0 := by decide +kernel
/-- The key and the signature of an image, made with openssl; what its verification computes on the way. -/
def imgX : Nat := 0xA81D83B490BAE58618B2747950005398527E7E749158385828CB2CB119D36687E425639997697EFAF55BD7DF9B345727
def imgY : Nat := 0x1F2EDABFF3D24E34802E9421EAC367434BF523C529D73AD83547CBA38533A767916C77209FF2EBA085A26848EC8128DD
def imgR : Nat := 0x27486DDAB6C90C51E2951FF210267BB00DC48FB1765FB8119163476BEBE4F509DF9A3392F643075199EC43ACEAE67CA2
def imgS : Nat := 0x89AF222D12A7AF09C463C3B570A0AFB615D3FBF5855413B12AD1538492AAD0C0ED64194EEBBFE989ED33D1C70C3C2BDD
def imgZ : Nat := 0xB7C6026A37AD1E47E24E9782F28854F41AFBF595FE53B3CBCC37623D839A031A548325E18AE9F2FE35210617FA6C047F
def imgW : Nat := 0xA77225DF26675457A565D3016212A1E0F8BB0CB980847002F5153B174336FDBF45F80BF3A958CA2C30F90EF5CB6D03B4
def imgU1 : Point := some (0x2FD697002C87887E75B4C95C900CC23722FDEAC9B701847E773BCABC11B828212F3B0BE0028D0C077FCDC94BA242064F, 0x6F4A32DA0A47E6E6201A8D9F35F98E38BD7B56E0C791465F86EC678F33D9D3AD0BB9F1B290BCA0A6A5B1410BF74BB644)
def imgU2 : Point := some (0xC1F845CE85E84E8681B62D6967817EEBAF67505EC02ADAA35594582674B4E0197AC504195EF5B6AA5187ED1B107FBBDE, 0xDBBEEE7604781E550790FE08E611F987F7BED0D386D22BDFE1847515AE8E49E241E86449AC1AC22A4B0957A2F88CE60E)
def imgU3 : Point := some (0xCAAFE5543E495CD5D9AA8B5AB511C61787E92634EFD488A1CC10AA6F388B3733997A9BF885F38DAF9E05971433B3876D, 0xBD5B4E16DE94DC809EDBCDCC57ACAD7F134BE6040B7248F2CCE68922943F78608E9A3B2D262B963E548F2A056A246ABA)
def imgV1 : Point := some (0x2D19C7776803CB72EB0336DD384F55ED06620F34294D1F1D95A2325782EE1BA9C5B31C74B6268C6078B156B3699A7763, 0x349B9100D7F98E627AF1FFDB80E1B72839F10887DC044C674376DADFB531D44EC808B0B9FD8CC4F7A2CEF8B9D725C9DA)
def imgV2 : Point := some (0x72A79F3F7CA93928D388ECC3C4C61EADD5E76EEE999A4B90FA3B49B64A191E052D05824361EAA402143DFFF9B6B6066F, 0x2B5978CBEA23DF663AF22F78F38E9FA419284294EB326D381403B46DA31D8D09D2BAD90E69C5F156687EE2507F647CC9)
def imgV3 : Point := some (0xF3575B5A8D2E3BE0D6E42B1A26D6A6981CB96E05FA111EAAD9A6DF908FDFD57D1AA48FCAE4E0EF5D53E9227D9AA7A5B0, 0x11291F83A3B3305B4DBE35561760A0D0E221278673B7D4D3719B9F1396A73745086D945975122ABCEEBDEF9A97F0434A)
def imgK1 : Nat := 0x83E9672E0E6402E5B6A6EFAE9F9183F66F2804709B392D5A99D1485D0B6B169EE6E97A7552E4E7964927A8C165E1435A
def imgK2 : Nat := 0x1953EAB59B01330267474254F379BAECE89E0D34A9ABFD5E6C226BF2857E6A20B0120BFFBCA6E98D6CD873844BA2D68C
/-- The image's signed header: version 7, 16 bytes, load address 0x10000000, entry 0x1000000C, key 2; the payload; the whole header. -/
def imgH : List Byte :=
  bytesOf [0x96001A6E, 1, 7, 16, 0x10000000, 0x1000000C, 0, 2] ++ bytesOfNat 48 imgX ++ bytesOfNat 48 imgY ++ List.replicate 128 0
def imgP : List Byte := (List.range 16).map (fun i => BitVec.ofNat 8 (i + 1))
def bootH : List Byte := imgH ++ bytesOfNat 48 imgR ++ bytesOfNat 48 imgS ++ List.replicate 160 0
def bootOtp : SMap Byte := [(0x0F00C000, 0)] ++ (List.range 64).map (fun i => (0x0F00C0E0 + i, 0))
/-- SK0 at the boot ROM entry, NVM first (strap 0b01); slot 0 reads if `r`, slot 1 does not. The device is not provisioned, no version is
barred. -/
def bootS (r : Bool) : State := { (up.set aMODE MODE.strap 1).set (aENG_STATUS 256) ENG_STATUS.halted 0 with
  ue := if r then [0x180000] else [0x110000, 0x180000]
  mem := bootOtp ++ (bootH ++ imgP).zipIdx.map (fun x => (0x110000 + x.2, x.1)) }
theorem mulPoint_split (k : Nat) (p : Point) (n : Nat) : ∀ (m : Nat) (r : Point),
    mulPoint k p (m + n) r = mulPoint k p n (mulPoint (k / 2 ^ n) p m r)
  | 0, r => by rw [Nat.zero_add]; rfl
  | m + 1, r => by
    rw [Nat.add_right_comm]
    simp only [mulPoint]
    rw [mulPoint_split k p n m, Nat.div_div_eq_div_mul, ← Nat.pow_add, Nat.add_comm n m]
theorem mul_chunks {k : Nat} {p a b c : Point} (ha : mulPoint (k / 2 ^ 128 / 2 ^ 128) p 128 none = a) (hb : mulPoint (k / 2 ^ 128) p 128 a = b)
    (hc : mulPoint k p 128 b = c) : mulPoint k p (128 + 128 + 128) none = c := by
  rw [mulPoint_split, mulPoint_split, ha, hb, hc]
theorem verify_of {x y r s w z j k a b : Nat} {U V : Point} {m : List Byte} (h0 : onCurve x y = true) (hr : 0 < r ∧ r < p384N) (hs : 0 < s ∧ s < p384N)
    (hw : invMod p384N s = w) (hz : natOfBytes (sha384 m) = z) (hj : z * w % p384N = j) (hk : r * w % p384N = k)
    (hU : mulPoint j (some (p384Gx, p384Gy)) 384 none = U) (hV : mulPoint k (some (x, y)) 384 none = V) (hA : addPoint U V = some (a, b))
    (ha : a % p384N = r) : ecdsaVerify x y r s m = true := by
  unfold ecdsaVerify
  have hg : (!onCurve x y || r == 0 || s == 0 || decide (p384N ≤ r) || decide (p384N ≤ s)) = false := by
    have h1 : (r == 0) = false := beq_false_of_ne (by omega)
    have h2 : (s == 0) = false := beq_false_of_ne (by omega)
    rw [h0, h1, h2, decide_eq_false (by omega), decide_eq_false (by omega)]; rfl
  dsimp only
  rw [hg, if_neg Bool.false_ne_true, hw, hz, hj, hk, hU, hV, hA]
  dsimp only
  exact beq_iff_eq.2 ha
def imgRx : Nat := 0x27486DDAB6C90C51E2951FF210267BB00DC48FB1765FB8119163476BEBE4F509DF9A3392F643075199EC43ACEAE67CA2
def imgRy : Nat := 0x9CC272CF069597F4F42C9483935ADBB9ED5B530229F4E9A16960DB76D82D957F8D67FD7CF52B248A7170594F6662A912
theorem img_U1 : mulPoint (imgK1 / 2 ^ 128 / 2 ^ 128) (some (p384Gx, p384Gy)) 128 none = imgU1 := by decide +kernel
theorem img_U2 : mulPoint (imgK1 / 2 ^ 128) (some (p384Gx, p384Gy)) 128 imgU1 = imgU2 := by decide +kernel
theorem img_U3 : mulPoint imgK1 (some (p384Gx, p384Gy)) 128 imgU2 = imgU3 := by decide +kernel
theorem img_V1 : mulPoint (imgK2 / 2 ^ 128 / 2 ^ 128) (some (imgX, imgY)) 128 none = imgV1 := by decide +kernel
theorem img_V2 : mulPoint (imgK2 / 2 ^ 128) (some (imgX, imgY)) 128 imgV1 = imgV2 := by decide +kernel
theorem img_V3 : mulPoint imgK2 (some (imgX, imgY)) 128 imgV2 = imgV3 := by decide +kernel
theorem img_z : natOfBytes (sha384 (imgH ++ imgP)) = imgZ := by decide +kernel
theorem img_w : onCurve imgX imgY = true ∧ (0 < imgR ∧ imgR < p384N) ∧ (0 < imgS ∧ imgS < p384N) ∧ invMod p384N imgS = imgW ∧
    imgZ * imgW % p384N = imgK1 ∧ imgR * imgW % p384N = imgK2 ∧ addPoint imgU3 imgV3 = some (imgRx, imgRy) ∧ imgRx % p384N = imgR := by decide +kernel
theorem img_verifies : ecdsaVerify imgX imgY imgR imgS (imgH ++ imgP) = true :=
  verify_of img_w.1 img_w.2.1 img_w.2.2.1 img_w.2.2.2.1 img_z img_w.2.2.2.2.1 img_w.2.2.2.2.2.1 (mul_chunks img_U1 img_U2 img_U3)
    (mul_chunks img_V1 img_V2 img_V3) img_w.2.2.2.2.2.2.1 img_w.2.2.2.2.2.2.2
theorem img_header :
    hdrGood bootH = true ∧ natOfBytes ((bootH.drop 0x20).take 48) = imgX ∧ natOfBytes ((bootH.drop 0x50).take 48) = imgY ∧
      natOfBytes ((bootH.drop 0x100).take 48) = imgR ∧ natOfBytes ((bootH.drop 0x130).take 48) = imgS ∧ bootH.take 0x100 = imgH ∧
      hdrNum bootH 0x10 4 = 0x10000000 ∧ hdrNum bootH 0xC 4 = 16 := by decide +kernel
/-- The state after the headers of a source have been read. -/
def headersRead (s : State) (src : Nat) : State := if src = 1 then (s.noteUe 0x110000 512).noteUe 0x180000 512 else s
/-- The state as a candidate is tried. -/
def attempt (s : State) : State := s.romSet (fun s => s.incSat aBOOT_STATUS BOOT_STATUS.attempts)
/-- SK0 as its first attempt begins. -/
def bootS1 : State := attempt (headersRead (bootS true) 1)
theorem sget_zip (b : Nat) (d : Byte) : ∀ (l : List Byte) (n k : Nat), n ≤ k → k < n + l.length →
    sget d ((l.zipIdx n).map (fun x => (b + x.2, x.1))) (b + k) = l.getD (k - n) 0
  | [], n, k, h, h' => by simp at h'; omega
  | x :: l, n, k, h, h' => by
    simp only [List.zipIdx_cons, List.map_cons, sget]
    by_cases e : k = n
    · simp [e]
    · rw [if_neg (by omega), sget_zip b d l (n + 1) k (by omega) (by simp at h'; omega), show k - n = k - (n + 1) + 1 by omega]
      simp
theorem sget_skip (d : Byte) (m : SMap Byte) (k : Nat) : ∀ l : SMap Byte, l.all (fun x => decide (k < x.1)) = true → sget d (l ++ m) k = sget d m k
  | [], _ => rfl
  | x :: l, h => by
    rw [List.all_cons, Bool.and_eq_true, decide_eq_true_eq] at h
    rw [List.cons_append, sget, if_neg (by omega), sget_skip d m k l h.2]
theorem map_range_getD (f : Nat → Byte) (l : List Byte) (n : Nat) (hl : l.length = n) (hf : ∀ i, i < n → f i = l.getD i 0) : (List.range n).map f = l := by
  subst hl
  exact List.ext_getElem (by simp) (fun i h1 h2 => by simp [hf i h2, h2])
theorem bootH_length : bootH.length = 512 ∧ (bootH ++ imgP).length = 528 ∧ bootOtp.all (fun x => decide (0x110200 < x.1)) = true := by decide +kernel
theorem img_byte (o : Nat) (h : o < 512) : (bootS true).byte (0x110000 + o) = bootH.getD o 0 := by
  obtain ⟨hl, hl2, ho⟩ := bootH_length
  have hs := sget_skip (initByte (0x110000 + o)) ((bootH ++ imgP).zipIdx.map (fun x => (0x110000 + x.2, x.1))) (0x110000 + o) bootOtp
    (List.all_eq_true.2 (fun x hx => by have := List.all_eq_true.1 ho x hx; rw [decide_eq_true_eq] at this ⊢; omega))
  have hz := sget_zip 0x110000 (initByte (0x110000 + o)) (bootH ++ imgP) 0 o (Nat.zero_le _) (by omega)
  refine (hs.trans hz).trans ?_
  generalize bootH = l at hl
  simp [List.getD_eq_getElem?_getD, List.getElem?_append_left (show o < l.length by omega)]
theorem img_slots : (List.range 128).all (fun i => (bootS true).slotOk 1 0 (4 * i)) = true ∧
    (List.range 128).all (fun i => (bootS true).slotOk 1 1 (4 * i)) = false ∧ (bootS true).isCandidate bootH = true := by decide +kernel
theorem img_candidate : (bootS true).candidates 1 = [(0, bootH)] := by
  have h : (List.range 512).map (fun o => (bootS true).slotByte 1 0 (bootS true).fresh o) = bootH :=
    map_range_getD _ _ _ bootH_length.1 (fun i hi => img_byte i hi)
  simp only [State.candidates, State.slotHeader, img_slots.1, img_slots.2.1, img_slots.2.2, h, if_true, Bool.false_eq_true, if_false, List.append_nil]
theorem img_copied :
    bootS1.keyGood bootH = true ∧ (bootS1.copyImage 1 0 bootH).2 = true ∧ (bootS1.copyImage 1 0 bootH).1.bytesAt 0x10000000 16 = imgP := by decide +kernel
theorem try_ok (s : State) (src k : Nat) (h : List Byte) (h1 : hdrGood h = true) (h2 : s.keyGood h = true) (h3 : (s.copyImage src k h).2 = true)
    (h4 : (s.copyImage src k h).1.signed h = true) : (s.tryImage src (k, h)).2 = 0 := by
  unfold State.tryImage
  generalize s.copyImage src k h = r at h3 h4 ⊢
  cases r with
  | mk t b =>
    cases b with
    | false => cases h3
    | true =>
      rw [h1, h2]
      show (if t.signed h = true then (t, 0) else (t, 5)).2 = 0
      rw [if_pos h4]
theorem bootFrom_one (s : State) (src k : Nat) (h : List Byte) (ht : ((attempt s).tryImage src (k, h)).2 = 0) :
    (s.bootFrom src [(k, h)]).2 = true := by
  rw [State.bootFrom_cons]
  change (match (attempt s).tryImage src (k, h) with
    | (t, 0) => (t.startImage src k h, true)
    | (t, f) => (t.romSet (fun t => t.set aBOOT_STATUS BOOT_STATUS.fail f)).bootFrom src []).2 = true
  generalize State.tryImage (attempt s) src (k, h) = r at ht ⊢
  obtain ⟨t, f⟩ := r
  replace ht : f = 0 := ht
  subst ht
  rfl
theorem boot_one (s : State) (src k : Nat) (h : List Byte) (l : List Nat) (hc : s.candidates src = [(k, h)])
    (ht : ((attempt (headersRead s src)).tryImage src (k, h)).2 = 0) : (s.bootAll (src :: l)).2 = true := by
  have hb := bootFrom_one (headersRead s src) src k h ht
  unfold State.bootAll
  rw [hc]
  dsimp only [List.isEmpty_cons]
  rw [if_neg Bool.false_ne_true]
  change (match (headersRead s src).bootFrom src [(k, h)] with
    | (t, true) => (t, true)
    | (t, false) => t.bootAll l).2 = true
  generalize (headersRead s src).bootFrom src [(k, h)] = r at hb
  cases r with
  | mk t f => cases hb; rfl
theorem bootAll_no (s : State) (src : Nat) (l : List Nat) (hc : s.candidates src = []) :
    s.bootAll (src :: l) = ((headersRead s src).romSet (fun s => s.set aBOOT_STATUS BOOT_STATUS.fail 1)).bootAll l := by
  conv_lhs => unfold State.bootAll
  rw [hc]
  show (match ((if ([] : List (Nat × List Byte)).isEmpty then (headersRead s src).romSet (fun s => s.set aBOOT_STATUS BOOT_STATUS.fail 1)
      else headersRead s src).bootFrom src []) with
    | (t, true) => (t, true)
    | (t, false) => t.bootAll l) = _
  generalize headersRead s src = u
  rw [if_pos List.isEmpty_nil]
  generalize u.romSet _ = v
  rfl
theorem boot_none (s : State) (h : s.candidates 1 = []) (h0 : ∀ t : State, t.candidates 0 = []) : (s.bootAll (bootSources 1)).2 = false := by
  rw [show bootSources 1 = [1, 0] from rfl, bootAll_no s 1 _ h, bootAll_no _ 0 _ (h0 _)]
  generalize State.romSet _ _ = u
  rfl
theorem img_signed : (bootS1.copyImage 1 0 bootH).1.signed bootH = true := by
  obtain ⟨_, h2, h3, h4, h5, h6, h7, h8⟩ := img_header
  unfold State.signed
  dsimp only
  rw [h2, h3, h4, h5, h6, h7, h8, img_copied.2.2]
  exact img_verifies
theorem test_Boot_starts :
    (bootS true).atBoot = true ∧ (bootS true).get aMODE MODE.strap = 1 ∧ (bootS true).on aBOOT_STATUS BOOT_STATUS.rom_done = false := by decide +kernel
/-- A wake from FROST finds rom_done still 1. -/
theorem test_Boot_again :
    ((bootS true).set aBOOT_STATUS BOOT_STATUS.rom_done 1).atBoot = true ∧
      ((bootS true).set aBOOT_STATUS BOOT_STATUS.rom_done 1).on aBOOT_STATUS BOOT_STATUS.rom_done = true := by decide +kernel
theorem test_Boot_starts_image : ((bootS true).bootAll (bootSources 1)).2 = true :=
  boot_one _ 1 0 bootH [0] img_candidate (try_ok bootS1 1 0 bootH img_header.1 img_copied.1 img_copied.2.1 img_signed)
/-- A header that is all 0. -/
def noH : List Byte := List.replicate 512 0
theorem noH_get (i : Nat) : noH.getD i 0 = 0 := by
  unfold noH; generalize 512 = n
  simp only [List.getD_eq_getElem?_getD, List.getElem?_replicate]; split <;> rfl
theorem noH_length : noH.length = 512 := List.length_replicate
theorem noH_magic : (hdrNum noH 0 4 == 0x96001A6E) = false := by decide +kernel
theorem xspi_none (h : ∀ i n o, Config.xspiByte i n o = 0) (s : State) : s.candidates 0 = [] := by
  have hc : s.isCandidate noH = false := by simp [State.isCandidate, noH_magic]
  have hh (k : Nat) : (List.range 512).map (fun o => s.slotByte 0 k s.fresh o) = noH :=
    map_range_getD _ _ _ noH_length (fun i _ => (h 0 _ _).trans (noH_get i).symm)
  have hk (k : Nat) : s.slotHeader 0 k = none ∨ s.slotHeader 0 k = some noH := by
    unfold State.slotHeader; rw [hh]; split
    · exact .inr rfl
    · exact .inl rfl
  rcases hk 0 with h0 | h0 <;> rcases hk 1 with h1 | h1 <;>
    simp only [State.candidates, h0, h1, hc, Bool.false_eq_true, if_false, List.append_nil]
/-- Where the free value of XSPI memory is 0, no image starts there. -/
theorem test_Boot_none (h : ∀ i n o, Config.xspiByte i n o = 0) : ((bootS false).bootAll (bootSources 1)).2 = false :=
  boot_none _ (by decide +kernel) (xspi_none h)
theorem test_Boot_at : (bootS false).atBoot = true ∧ (bootS false).get aMODE MODE.strap = 1 := by decide +kernel
/-- A token of 200 bytes, for scope 3, whose key the security area names, for the nonce 0. -/
def tok : List Byte := bytesOf [3, 0] ++ bytesOfNat 192 0x4B55C88A615BC9E07E4900C5B42D05CD911F0FFC1EEABFA03ADCF3BB52091265DE7E1414E20933239DAFEAE2E4E546B9032380176D51952818C7C65DA1C9027C256515FE0E4C14B1F39545A7B3C376756EFCA190E6D1A05B0A64E1C03D6AA6976C940A4C8FCBEAC943BDB05D4E0014C19EF2CF87C614E243E653084E1F57E5003F8153071F8B823059E8BDF4B1A4119D6C940A4C8FCBEAC943BDB05D4E0014C19EF2CF87C614E243E653084E1F57E5003F8153071F8B823059E8BDF4B1A4119D
/-- Debug is locked, after `n` failures; the device ID is 0; ring 0 of SK0 has called the unlock service from 0x40. -/
def lockS (n : Nat) : State := { (((up.set aDBG_CTRL DBG_CTRL.fails n).set (aENG_STATUS 256) ENG_STATUS.halted 0).setEng 256
    { pc := 0x100, stack := [{ ret := 0x40, retRing := 0, owner := 0, gate := false }] }) with
  mem := [(0x0F00C000, 7)] ++ (bytesOfNat 48 0xC199BC3EE02F0DD0B11D9E1BE4120E9869B6C56C8B84B20283FFA34E105104FE0A8C7C16AE06E14035C61A5AFE001E37).zipIdx.map (fun x => (0x0F00C140 + x.2, x.1)) ++ (List.range 8).map (fun i => (0x0F00C800 + i, 0)) }
theorem test_Token (h : ∀ i, (lockS 7).nonce i = 0) :
    (lockS 7).unlocks = true ∧ (lockS 7).alive islAON = true ∧ (lockS 7).on aDBG_CTRL DBG_CTRL.locked_out = false ∧ (lockS 7).tokenGood tok = true := by
  refine ⟨by decide +kernel, by decide +kernel, by decide +kernel, ?_⟩
  simp only [State.tokenGood, h]
  decide +kernel
theorem test_Token_bad :
    let u := (lockS 7).set aMODE MODE.strap 2
    (lockS 7).get aMODE MODE.strap ≠ 2 ∧ (lockS 7).token 0x70000000 tok = [] ∧ (lockS 7).tokenGood [] = false ∧
      after (.debugUnlock 0x70000000 tok) (lockS 7) (fun t => t.get aDBG_CTRL DBG_CTRL.fails == 8 && t.on aDBG_CTRL DBG_CTRL.locked_out &&
        t.nvm.nonces == (lockS 7).nvm.nonces + 1 && (t.eng 256).pc == 0x40 && (t.eng 256).stack == []) = true ∧
      ((lockS 8).set aDBG_CTRL DBG_CTRL.locked_out 1).on aDBG_CTRL DBG_CTRL.locked_out = true ∧
      u.unlocks = true ∧ u.token 0x70000000 [1] = [1] ∧
      after (.debugUnlock 0x70000000 [1]) u (fun t => t.get aDBG_CTRL DBG_CTRL.fails == 8 && t.eng 256 == (lockS 7).eng 256) = true := by decide +kernel
theorem test_Relock :
    let s := { lockS 0 with nvm := { lock := .unlocked 3 } }
    s.romWrite q0 = false ∧ getBits 0x10#32 DBG_CTRL.relock = 1 ∧ s.provisioned = true ∧
      after (.relock q0 0x10) s (fun t => t.nvm.lock == .again && t.dbgLocked && acked q0 t) = true ∧
      after (.relock q0 3) s (fun t => t.nvm.lock == .unlocked 3 && acked q0 t) = true ∧
      (let u := s.set (aENG_S 0) ENG_S.ring 1
       u.ringOf q0 = 1 ∧ after (.relock q0 0x10) u (fun t => t.nvm.lock == .unlocked 3 && acked q0 t) = true) := by decide +kernel
/-! ### Availability -/

def ceSeen (t : State) : Bool := t.get aECC_DEV ECC_DEV.ce_total == 1 && fired 1894 t
def ueSeen (m : Nat) (w : Word) (t : State) : Bool :=
  t.get aECC_DEV ECC_DEV.ue_total == 1 && fired 1895 t && t.on aECC_UE_INFO ECC_UE_INFO.by_scrub && t.get aECC_UE_INFO ECC_UE_INFO.mem == m &&
    t.reg aECC_UE_ADDR == w
theorem test_Scrub_map :
    let c := sel 1894 up
    let u := sel 1895 up
    up.on aECC_CFG ECC_CFG.scrub_en = true ∧ up.scrubs 0x107FFFFC = true ∧ up.scrubs 0x21EF4000 = true ∧ up.ue = [] ∧
      after (.scrubVisit .map 0x107FFFFE .clean) { c with ce := [0x107FFFFC] } (fun t => ceSeen t && t.ce == []) = true ∧
      after (.scrubVisit .map 0x107FFFFE .single) c ceSeen = true ∧
      after (.scrubVisit .map 0x107FFFFE .double) u (fun t => ueSeen 0 0x107FFFFC t && t.ue == [0x107FFFFC]) = true ∧
      up.eccMem 0x21EF4000 = 3 ∧ after (.scrubVisit .map 0x21EF4000 .double) u (fun t => ueSeen 3 0x21EF4000 t && (t.rgClu 15).waiting == [{ k := 15, cause := 3, tick := 1000000, ran := false }]) = true := by
  decide +kernel
theorem test_Scrub_known :
    let s := { sel 1895 up with ue := [0x107FFFFC] }
    after (.scrubVisit .map 0x107FFFFC .clean) s (ueSeen 0 0x107FFFFC) = true ∧
      after (.scrubVisit .map 0x107FFFFC .clean) (s.set aECC_UE_INFO ECC_UE_INFO.valid 1)
        (fun t => t.get aECC_UE_INFO ECC_UE_INFO.later_cnt == 1 && t.reg aECC_UE_ADDR == 0) = true := by decide +kernel
theorem test_Scrub_staged :
    (pageOf 0x21F8FFFC).isSome = true ∧ up.scrubs 0x21F8FFFC = true ∧ after (.scrubVisit .staged 0x21F8FFFC .single) (sel 1894 up) ceSeen = true ∧
      after (.scrubVisit .staged 0x21F8FFFC .double) (sel 1895 up) (fun t => ueSeen 6 0x21F8FFFC t && t.ue == [stagedCopy 0x21F8FFFC]) = true ∧
      after (.scrubVisit .staged 0x21F8FFFC .clean) { sel 1895 up with ue := [stagedCopy 0x21F8FFFC] } (ueSeen 6 0x21F8FFFC) = true := by decide +kernel
/-- The context banks of SK1. -/
theorem test_Scrub_ctx :
    let w := engBase (256 + 1) + 0x4FC
    up.scrubs w = true ∧ up.ue = [] ∧ after (.scrubVisit (.ctx 1) 0x4FC .single) (sel 1894 up) ceSeen = true ∧
      after (.scrubVisit (.ctx 1) 0x4FC .double) (sel 1895 up) (fun t => ueSeen 9 (BitVec.ofNat 32 w) t && t.ue == [w]) = true := by decide +kernel
/-- A word of the active bank of a Newt that has failed already. -/
theorem test_Scrub_failed :
    let s := (sel 1895 up).set (aREGROW_FAILED 15) REGROW_FAILED.failed 0x8000
    s.newtFailed 255 = true ∧ s.eccMem 0x21EF4000 = 3 ∧
      after (.scrubVisit .map 0x21EF4000 .double) s (fun t => ueSeen 3 0x21EF4000 t && (t.rgClu 15).waiting == []) = true := by decide +kernel
/-- SK1 holds the line at 0x10000040 in both caches. -/
def ln (d : Bool) : Line := { addr := 0x10000040, words := [], dirty := d }
def cacheS (p : Nat) (d : Bool) : State := sel p (up.setEng 257 { icache := [ln false], dcache := [ln d] })
theorem test_Scrub_cache :
    lineOf ((cacheS 1894 false).eng 257).icache 0x1000007C = some (ln false) ∧ lineOf ((cacheS 1894 true).eng 257).dcache 0x1000007C = some (ln true) ∧
      after (.scrubVisit (.icache 1) 0x1000007C .single) (cacheS 1894 false) ceSeen = true ∧
      after (.scrubVisit (.dcache 1) 0x1000007C .single) (cacheS 1894 false) ceSeen = true ∧
      after (.scrubVisit (.icache 1) 0x1000007C .double) (cacheS 1895 false)
        (fun t => ueSeen 7 0x1000007C t && (t.eng 257).icache == [] && (t.eng 257).dcache == [ln false]) = true ∧
      after (.scrubVisit (.dcache 1) 0x1000007C .double) (cacheS 1895 false)
        (fun t => ueSeen 7 0x1000007C t && (t.eng 257).dcache == [] && (t.eng 257).icache == [ln false]) = true ∧
      (cacheS 1895 true).pairFailed 0 = false ∧ (cacheS 1895 true).pairFailed 1 = false := by decide +kernel
theorem test_Scrub_nvm :
    after (.nvmScrubVisit 0x1FFFFC .single) (sel 1894 up) (fun t => ceSeen t && t.on aECC_NVM_FIX ECC_NVM_FIX.valid && t.get aECC_NVM_FIX ECC_NVM_FIX.word == 0x3FFFF) = true ∧
      after (.nvmScrubVisit 0x1FFFFC .single) ((sel 1894 up).set aECC_NVM_FIX ECC_NVM_FIX.valid 1) (fun t => t.get aECC_NVM_FIX ECC_NVM_FIX.word == 0) = true ∧
      after (.nvmScrubVisit 0x1FFFFC .double) (sel 1895 up) (fun t => ueSeen 8 0x1FFFFC t && t.ue == [0x1FFFFC]) = true := by decide +kernel
theorem test_PairFailure :
    let s := (((sel 1892 up).set (aENG_STATUS 257) ENG_STATUS.halted 1).setReg (aROUTE_CFG 511) (putBits (putBits 0 ROUTE_CFG.en 1) ROUTE_CFG.engine 256))
    s.pairCause 0 1 = true ∧ s.pairFailed 0 = false ∧ s.pairFailed 1 = false ∧
      s.alive (islSUP 1) = true ∧ s.halted 257 = true ∧ s.get (aROUTE_CFG 511) ROUTE_CFG.engine = 256 ∧ s.mode ≠ .frost := by decide +kernel
theorem test_PairFailure_second :
    let s := up.set aLOCKSTEP LOCKSTEP.sk1_failed 1
    s.pairCause 0 1 = true ∧ s.pairFailed (1 - 0) = true ∧ s.rst.active = false ∧ s.nvm.pulse = none ∧ s.nvm.otp = none ∧
      after (.pairFailure 0 1) s (began false 5) = true := by decide +kernel
theorem test_Switch :
    let s := up.set (aENG_STATUS 257) ENG_STATUS.halted 0
    reqNum (.skink 0) = 256 + s.get aLOCKSTEP LOCKSTEP.primary ∧ s.ringOf (.skink 0) = 0 ∧ s.admits (.skink 0) islAON = true ∧
      getBits 1#32 LOCKSTEP.switch = 1 ∧ s.alive (islSUP 1) = true ∧ s.halted 257 = false ∧
      after (.lockstepSwitch (.skink 0) 1) s (fun t => t.get aLOCKSTEP LOCKSTEP.primary == 1 && acked (.skink 0) t) = true ∧
      reqNum q0 ≠ 256 ∧ after (.lockstepSwitch q0 1) s (fun t => t.get aLOCKSTEP LOCKSTEP.primary == 0 && acked q0 t) = true := by decide +kernel
/-- The system watchdog counts; `r` is left. -/
def sysWd (r : Nat) : State := (up.set aSYS_WDT_CTRL SYS_WDT_CTRL.en 1).set aSYS_WDT_STATUS SYS_WDT_STATUS.remaining r
theorem test_SysWdt :
    getBits 0x5C#32 SYS_WDT_KICK.key = 0x5C ∧
      after (.sysWdtKick (.skink 0) 0x5C) (sysWd 7) (fun t => t.get aSYS_WDT_STATUS SYS_WDT_STATUS.remaining == 1000000 && acked (.skink 0) t) = true ∧
      after (.sysWdtKick q0 0x5C) (sysWd 7) (fun t => t.get aSYS_WDT_STATUS SYS_WDT_STATUS.remaining == 7 && t.on aSYS_WDT_STATUS SYS_WDT_STATUS.bad_kick) = true ∧
      (sysWd 0).sysWdtCounts = true ∧ (sysWd 0).canTrip = true ∧
      after .sysWdtExpiry (sysWd 0) (fun t => t.on aSYS_WDT_STATUS SYS_WDT_STATUS.pre_expiry && t.get aSYS_WDT_STATUS SYS_WDT_STATUS.remaining == 1000000) = true ∧
      after .sysWdtExpiry ((sysWd 0).set aSYS_WDT_CTRL SYS_WDT_CTRL.trip_en 1) (fun t => t.mode == .tripped && t.get aMODE MODE.trip_cause == 3) = true ∧
      after .sysWdtExpiry ((sysWd 0).set aSYS_WDT_STATUS SYS_WDT_STATUS.pre_expiry 1) (began false 7) = true := by decide +kernel
/-- Clutch 15 regrows with the spares of the mask `m`; Newt 5 of it has failed with cause 3. -/
def rgS (m : Nat) (x : RgClu) : State := (((up.setReg (aREGROW_CFG 15) (BitVec.ofNat 32 m)).set (aREGROW_CFG 15) REGROW_CFG.en 1).set (aENG_STATUS 245)
  ENG_STATUS.halted 0).setRgClu 15 x
def x5 : Failed := { k := 5, cause := 3, tick := 999500, ran := true }
def w5 : RgClu := { waiting := [x5] }
theorem test_NewtFailure_regrows :
    let s := rgS 0xC000 w5
    s.clocked 245 = true ∧ (s.rgClu 15).cur = none ∧ s.rgNext 15 = some x5 ∧ s.spareOf 15 = some 14 ∧
      after (.newtFailure 245 3) s (fun t => (t.rgClu 15).waiting == [] && t.get (aREGROW_STATUS 15) REGROW_STATUS.spare_k == 14 &&
        (t.rgClu 15).cur == some { k := 5, spare := 14, phase := .drain, start := 999500, ran := true }) = true := by decide +kernel
theorem test_NewtFailure_noSpare :
    let s := rgS 0 w5
    s.spareOf 15 = none ∧ s.canTrip = true ∧ after (.newtFailure 245 3) s (fun t => (t.rgClu 15).waiting == [] && (t.rgClu 15).cur == none &&
        t.on (aREGROW_STATUS 15) REGROW_STATUS.no_spare && t.on aMODE MODE.degraded) = true ∧
      after (.newtFailure 245 3) (s.set (aREGROW_CFG 15) REGROW_CFG.ns_trip 1) (fun t => t.mode == .tripped && t.get aMODE MODE.trip_cause == 3) = true := by
  decide +kernel
/-- What the report of Newt 5 of clutch 15 marks at once. -/
def failedOut (t : State) : Bool :=
  t.newtFailed 245 && !t.newtReady 245 && t.get (aREGROW_STATUS 15) REGROW_STATUS.cause == 5 && t.get (aREGROW_STATUS 15) REGROW_STATUS.failed_k == 5
theorem test_Report_spare :
    let r : Regrow := { k := 4, spare := 5, phase := .copy, start := 0, ran := false }
    let s := rgS 0x8020 {}
    let u := rgS 0x8020 { cur := some r }
    s.isSpare 15 5 = true ∧ after (.regrowReportFailure q0 15 0x81000005) s (fun t => failedOut t && t.rgClu 15 == {} && acked q0 t) = true ∧
      u.isSpare 15 15 = true ∧ u.newtFailed 245 = false ∧ (List.range 15).all (fun i => i == 5 || !u.isSpare 15 i) = true ∧
      after (.regrowReportFailure q0 15 0x81000005) u (fun t => failedOut t && (t.rgClu 15).cur == some { r with spare := 15 } &&
        t.get (aREGROW_STATUS 15) REGROW_STATUS.spare_k == 15) = true := by
  decide +kernel
theorem test_Report :
    let s := rgS 0xC000 {}
    getBits 0x81000005#32 REGROW_CMD.newt = 5 ∧ s.newtFailed 245 = false ∧ s.isSpare 15 5 = false ∧
      after (.regrowReportFailure q0 15 0x81000005) s
        (fun t => failedOut t && (t.rgClu 15).waiting == [{ k := 5, cause := 5, tick := 1000000, ran := false }] && acked q0 t) = true ∧
      (let u := s.set (aREGROW_FAILED 15) REGROW_FAILED.failed 0x20
       u.newtFailed 245 = true ∧ after (.regrowReportFailure q0 15 0x81000005) u (fun t => (t.rgClu 15).waiting == [] && acked q0 t) = true) := by
  decide +kernel
theorem test_RegrowCmd :
    let s := up.set (aENG_STATUS 255) ENG_STATUS.halted 1
    up.admits q0 (islCLU 15) = true ∧ up.waits q0 (islCLU 15) = false ∧ getBits 0x8100000F#32 REGROW_CMD.go = 1 ∧ getBits 0x8100000F#32 REGROW_CMD.op = 1 ∧ getBits 0x8200000F#32 REGROW_CMD.op = 2 ∧
      after (.regrowReportFailure q0 15 0x8100000F) up (fun t => (t.rgClu 15).waiting == [{ k := 15, cause := 5, tick := 1000000, ran := false }] && acked q0 t) = true ∧ s.halted 255 = true ∧
      after (.selfTest q0 15 0x8200000F) s (fun t => (t.rgClu 15).test == some 15 && t.on (aREGROW_STATUS 15) REGROW_STATUS.busy && acked q0 t) = true ∧
      (let u := s.setRgClu 15 { test := some 3 }
       after (.selfTest q0 15 0x8200000F) u (fun t => (t.rgClu 15).test == some 3 && t.on (aREGROW_STATUS 15) REGROW_STATUS.bad_cmd) = true) := by decide +kernel
theorem test_SelfTestDone :
    let s := (up.setEng 255 { a := 5 }).setRgClu 15 { test := some 15 }
    s.clocked (16 * 15) = true ∧ s.newtFailed 255 = false ∧ s.isSpare 15 15 = false ∧ after (.selfTestDone 15 true) s (fun t => t.on (aREGROW_STATUS 15) REGROW_STATUS.st_pass && (t.eng 255).a == 0 && (t.rgClu 15).waiting == []) = true ∧
      after (.selfTestDone 15 false) s (fun t => !t.on (aREGROW_STATUS 15) REGROW_STATUS.st_pass && (t.rgClu 15).waiting == [{ k := 15, cause := 4, tick := 1000000, ran := false }] && t.newtFailed 255 && !t.newtReady 255) = true := by decide +kernel
def rg (p : RgPhase) : RgClu := { cur := some { k := 5, spare := 15, phase := p, start := 999000, ran := true } }
theorem test_RegrowDrain :
    let s := (rgS 0x8000 (rg .drain)).setEng 245 { buf := [(farX 0x10000000).st], acks := 2 }
    s.clocked 245 = true ∧ 999000 + 1000 ≤ s.tb ∧ after (.regrowDrainDone 15) s
      (fun t => (t.rgClu 15).cur == some { k := 5, spare := 15, phase := .copy, start := 999000, ran := true } && t.halted 245 && (t.eng 245).buf == []) = true := by
  decide +kernel
theorem test_RegrowCopy :
    let s := rgS 0x8000 (rg .copy)
    s.clocked (16 * 15) = true ∧ s.alive islSYS = true ∧ s.on (aREGROW_CFG 15) REGROW_CFG.img_src = false ∧ s.armedOf (s.get (aREGROW_CFG 15) REGROW_CFG.cg) = none ∧
      s.on (aREGROW_CFG 15) REGROW_CFG.slice_en = false ∧
      (let u := (s.set (aREGROW_CFG 15) REGROW_CFG.img_src 1).setReg (aREGROW_IMG 15) 0x107F8000
       u.on (aREGROW_CFG 15) REGROW_CFG.img_src = true ∧ inSram (u.reg (aREGROW_IMG 15)).toNat 0x8000 = true) := by decide +kernel
/-! ### Commands that a row does not name, one for each check -/

/-- Every command is refused by the check. -/
def ill (cs : List Instr) : Bool := cs.all (fun c => !c.wf)
def opW (n : Nat) : Word := putBits 0 SK_CACHE_OP.op n
theorem test_Ill_fabric : ill [.swTrig q0 2047 0, .moderationExpiry 255 32, .licSwpWrite q0 255 true 0] = true := by decide +kernel
theorem test_Ill_engines :
    ill [.newtRunStart q0 255 0, .newtRunStop q0 255 (putBits 0 ENG_CTRL.run 1), .cacheInvalidate 1 (opW 1), .cacheClean 1 (opW 2), .cacheCleanInvalidate 1 (opW 0)] = true := by
  decide +kernel
theorem test_Ill_pwm : ill [.swSync q0 63 0, .swStart q0 63 0, .trippedWrite q0 31 0, .safeRelease q0 0 0, .tripClr q0 0] = true := by decide +kernel
theorem test_Ill_commit : ill [.cgArm q0 31 0, .cgCancel q0 31 0, .stagedWrite q0 0x40000002 0] = true := by decide +kernel
theorem test_Ill_queues :
    ill [.queueEnable q0 16383 0, .queueDisable q0 16383 (cfgW 2), .dmaStart q0 63 0, .dmaAbort q0 63 0] = true := by decide +kernel
theorem test_Ill_links :
    ill [.frEnum q0 47 0, .frKick q0 47 0, .swlClaim q0 0, .swlYield q0 0, .swlHandoff q0 0] = true := by decide +kernel
theorem test_Ill_std :
    ill [.xspiCommand q0 1 0x7FFFFFFF, .i2cGo q0 11 0x7FFFFFFF, .csEnd q0 7 2, .canRxFrame 7 fr4 0 cerr, .canRxpop q0 7 2, .canRecover q0 7 0] = true := by decide +kernel
theorem test_Ill_reset : ill [.islRst q0 0x7FFFFFFF, .blkRst q0 0x7FFFFFFF, .sk1Run q0 0] = true := by decide +kernel
theorem test_Ill_modes :
    ill [.modeReqLull q0 8, .modeReqWatch q0 4, .modeReqRun q0 9, .modeReqFrost q0 11, .modeReqTripped q0 7] = true := by decide +kernel
theorem test_Ill_nvm : ill [.nvmWriteCmd q0 0xC300, .otpProgram q0 0x3C00, .relock q0 3] = true := by decide +kernel
theorem test_Ill_avail :
    ill [.scrubVisit .map 0x10000002 .clean, .nvmScrubVisit 0x100002 .clean, .lockstepSwitch q0 2, .regrowReportFailure q0 15 0x01000000,
      .selfTest q0 15 0x81000000, .registerWrite q0 0x10000002 0] = true := by decide +kernel

end Sys2Proof.Tests
end

section
/-!
SUPPORT. What every command keeps. `Laws/KeepsCore` to `Laws/KeepsExec` carry `Keeps` through the operations; here it is carried through
the meanings of the commands: each answers a next state, which keeps the queue, TB, and the canonical form of memory and of the register
file. The end of a reset and a join of the shared timebase are the two commands that move TB (R34, R49), and are left out.
-/

namespace Sys2Proof.Machine

open State

/-- The outcome is a next state, and it keeps what `Keeps` says of `s`. -/
def NextKeeps (s : State) (o : Host.Outcome State Fault Refusal) : Prop := ∃ t, o = .next t ∧ Keeps s t

theorem next_keeps {s t : State} (h : Keeps s t) : NextKeeps s (.next t) := ⟨t, rfl, h⟩

theorem fin_keeps {s t : State} (u : State) (h : Keeps s t) : NextKeeps s (fin u t) := next_keeps (settle_keeps u t h)

/-- An access keeps what its effect keeps. -/
theorem crossTo_next_keeps {q : Req} {write : Bool} {a : Nat} {w : Word} {eff : State → State} {s : State}
    (h : ∀ t, Keeps s t → Keeps s (eff t)) : NextKeeps s (.next (s.crossTo q write a w eff)) :=
  next_keeps (crossTo_keeps _ _ _ _ _ _ (.refl s) h)

theorem NextKeeps.tb_eq {s t : State} {o : Host.Outcome State Fault Refusal} (h : NextKeeps s o) (e : o = .next t) : t.tb = s.tb := by
  obtain ⟨u, rfl, hu⟩ := h
  cases e
  exact hu.tb

/-! ### An update of one field of the state -/

section
variable {s0 s : State}

theorem Keeps.updFab (h : Keeps s0 s) (x : FabSt) : Keeps s0 { s with fab := x } := h.upd rfl rfl rfl rfl
theorem Keeps.updTime (h : Keeps s0 s) (x : TimeSt) : Keeps s0 { s with time := x } := h.upd rfl rfl rfl rfl
theorem Keeps.updPwm (h : Keeps s0 s) (x : PwmSt) : Keeps s0 { s with pwm := x } := h.upd rfl rfl rfl rfl
theorem Keeps.updCc (h : Keeps s0 s) (x : CommitSt) : Keeps s0 { s with cc := x } := h.upd rfl rfl rfl rfl
theorem Keeps.updQm (h : Keeps s0 s) (x : QmSt) : Keeps s0 { s with qm := x } := h.upd rfl rfl rfl rfl
theorem Keeps.updStd (h : Keeps s0 s) (x : StdSt) : Keeps s0 { s with std := x } := h.upd rfl rfl rfl rfl
theorem Keeps.updSwl (h : Keeps s0 s) (x : SwlSt) : Keeps s0 { s with swl := x } := h.upd rfl rfl rfl rfl
theorem Keeps.updRst (h : Keeps s0 s) (x : RstSt) : Keeps s0 { s with rst := x } := h.upd rfl rfl rfl rfl
theorem Keeps.updNvm (h : Keeps s0 s) (x : NvmSt) : Keeps s0 { s with nvm := x } := h.upd rfl rfl rfl rfl
theorem Keeps.updAv (h : Keeps s0 s) (x : AvailSt) : Keeps s0 { s with av := x } := h.upd rfl rfl rfl rfl
theorem Keeps.updRsv (h : Keeps s0 s) (x : RsvSt) : Keeps s0 { s with rsv := x } := h.upd rfl rfl rfl rfl
theorem Keeps.updRouted (h : Keeps s0 s) (x : List Nat) : Keeps s0 { s with routed := x } := h.upd rfl rfl rfl rfl

theorem Keeps.filterRegs (h : Keeps s0 s) (p : Nat × Word → Bool) : Keeps s0 { s with regs := s.regs.filter p } :=
  ⟨h.pending, h.tb, h.mem, fun hr => swf_filter resetWord s.regs p (h.regs hr)⟩

end

/-! ### The event fabric and the timebase -/

theorem execFabricActivation_keeps (i : Fin 3072) (s : State) : NextKeeps s (execFabricActivation i s) := by
  unfold execFabricActivation
  split
  · exact next_keeps (.refl _)
  · exact next_keeps (ite_keeps (arrive_keeps _ _ _ ((Keeps.refl _).updFab _)) ((Keeps.refl _).updFab _))

theorem execPllLockedAll_keeps (s : State) : NextKeeps s (execPllLockedAll s) :=
  next_keeps (ite_keeps (setReady_keeps _ _ _ _ (setReady_keeps _ _ _ _ (ite_keeps (.refl _) (pllLock_keeps _ (.refl _))))) (.refl _))

theorem execTbmarkFire_keeps (m : Fin 14) (s : State) : NextKeeps s (execTbmarkFire m s) := by
  refine next_keeps (ite_keeps (.refl _) ?_)
  split
  · exact ite_keeps (.refl _) (fireAt_keeps _ _ _ (markFrom_keeps _ _ _ (.refl _)))
  · exact .refl _

/-! ### Conversion and window monitors -/

theorem execVrefSettled_keeps (g : Fin 4) (s : State) : NextKeeps s (execVrefSettled g s) :=
  next_keeps (ite_keeps (each_keeps _ _ _ (setReady_keeps _ _ _ _ (.refl _)) (fun _ _ h => setReady_keeps _ _ _ _ h)) (.refl _))

theorem execSgTriggerTick_keeps (g : Fin 16) (s : State) : NextKeeps s (execSgTriggerTick g s) := by
  unfold execSgTriggerTick
  split
  · exact next_keeps (.refl s)
  · rename_i a _
    have dropped := dropAct_keeps s a (.refl s)
    exact next_keeps (ite_keeps (.refl s) (ite_keeps (set_keeps _ _ _ _ dropped)
      (ite_keeps (overrun_keeps _ _ (set_keeps _ _ _ _ dropped)) (acceptTrigger_keeps _ _ _ dropped))))

theorem execSamplingInstant_keeps (g : Fin 16) (s : State) : NextKeeps s (execSamplingInstant g s) := by
  unfold execSamplingInstant
  split
  · exact next_keeps (.refl s)
  · split
    · exact next_keeps (.refl s)
    · extract_lets _ t u v
      have stamped : Keeps s t := setGroup_keeps _ _ _ (setReg_keeps _ _ _ (.refl s))
      have converting : Keeps s u := foldl_keeps stamped (fun _ _ h => setConv_keeps _ _ _ h)
      have sampled : Keeps s v := each_keeps _ _ _ converting (fun _ _ h => setSdm_keeps _ _ _ h)
      exact next_keeps (ite_keeps (fireAt_keeps _ _ _ sampled) sampled)

theorem execConversionDone_keeps (k : Fin 32) (raw : BitVec 16) (s : State) : NextKeeps s (execConversionDone k raw s) := by
  unfold execConversionDone
  split
  · exact next_keeps (.refl _)
  · exact next_keeps (ite_keeps (.refl _) (deliver_keeps _ _ _ _ _ (.refl _)))

theorem execFeedWrite_keeps (sd : Bool) (k : Fin 32) (s : State) : NextKeeps s (execFeedWrite sd k s) := by
  unfold execFeedWrite
  split
  · split
    · exact next_keeps (ite_keeps (sendFeed_keeps _ _ _ _ (setSdm_keeps _ _ _ (.refl _))) (.refl _))
    · exact next_keeps (.refl _)
  · split
    · exact next_keeps (ite_keeps (sendFeed_keeps _ _ _ _ (setConv_keeps _ _ _ (.refl _))) (.refl _))
    · exact next_keeps (.refl _)

theorem execLpBusyEnd_keeps (k : Fin 32) (s : State) : NextKeeps s (execLpBusyEnd k s) := by
  unfold execLpBusyEnd
  split
  · exact next_keeps (ite_keeps (set_keeps _ _ _ _ (setConv_keeps _ _ _ (.refl _))) (.refl _))
  · exact next_keeps (.refl _)

theorem execWmEnableSettled_keeps (nn : Fin 96) (low : Bool) (x : WmInput) (s : State) :
    NextKeeps s (execWmEnableSettled nn low x s) := by
  refine fin_keeps _ ?_
  split
  · exact ite_keeps (ite_keeps (setComparator_keeps _ _ _ (setComp_keeps _ _ _ (.refl _))) (setComp_keeps _ _ _ (.refl _))) (.refl _)
  · exact .refl _

theorem execBwMaxLenExpiry_keeps (w : Fin 32) (s : State) : NextKeeps s (execBwMaxLenExpiry w s) := by
  refine next_keeps (settleAt_keeps _ _ _ ?_)
  split
  · exact ite_keeps (setWin_keeps _ _ _ (set_keeps _ _ _ _ (closeWin_keeps _ _ _ (.refl _)))) (.refl _)
  · exact .refl _

/-! ### PWM slices, trips and captures -/

theorem execSliceRunStart_keeps (n : Fin 64) (s : State) : NextKeeps s (execSliceRunStart n s) := by
  refine next_keeps (settleAt_keeps _ _ _ ?_)
  split
  · exact ite_keeps (runFrom_keeps _ _ _ (.refl _)) (.refl _)
  · exact .refl _

theorem execSliceStop_keeps (n : Fin 64) (s : State) : NextKeeps s (execSliceStop n s) :=
  next_keeps (ite_keeps (settleAt_keeps _ _ _ (stopSlice_keeps _ _ _ (.refl _)))
    (ite_keeps (settle_keeps _ _ (stopSlice_keeps _ _ _ (.refl _))) (.refl _)))

theorem execSliceSync_keeps (n : Fin 64) (s : State) : NextKeeps s (execSliceSync n s) := by
  refine next_keeps ?_
  split
  · exact ite_keeps (.refl _) (settleAt_keeps _ _ _ (sync_keeps _ _ _ (dropAct_keeps _ _ (.refl _))))
  · exact .refl _

theorem execSliceStart_keeps (n : Fin 64) (s : State) : NextKeeps s (execSliceStart n s) := by
  refine next_keeps ?_
  split
  · exact ite_keeps (.refl _) (settleAt_keeps _ _ _ (startSlice_keeps _ _ _ (dropAct_keeps _ _ (.refl _))))
  · exact .refl _

theorem execSliceZero_keeps (n : Fin 64) (s : State) : NextKeeps s (execSliceZero n s) := by
  refine next_keeps (ite_keeps (.refl _) (ite_keeps (ite_keeps (settleAt_keeps _ _ _
    (zeroEvent_keeps _ _ _ (zeroLoad_keeps _ _ _ (.refl _)))) (.refl _))
    (ite_keeps (settleAt_keeps _ _ _ (newPeriod_keeps _ _ _ (.refl _))) ?_)))
  split
  · exact ite_keeps (settleAt_keeps _ _ _ (newPeriod_keeps _ _ _ (setSlice_keeps _ _ _ (.refl _)))) (.refl _)
  · exact .refl _

theorem execSlicePeriod_keeps (n : Fin 64) (s : State) : NextKeeps s (execSlicePeriod n s) := by
  unfold execSlicePeriod
  extract_lets x m t u v
  have reached : Keeps s u := reachPeriod_keeps _ _ _ (setSlice_keeps _ _ _ (.refl s))
  have matched : Keeps s v := each_keeps _ _ _ reached (fun _ _ h => matchDue_keeps _ _ _ h)
  exact next_keeps (ite_keeps (ite_keeps (settleAt_keeps _ _ _ (setSlice_keeps _ _ _ matched)) (settleAt_keeps _ _ _ reached)) (.refl s))

theorem execEdgeListEntry_keeps (n : Fin 64) (outB : Bool) (j : Fin 8) (s : State) : NextKeeps s (execEdgeListEntry n outB j s) := by
  refine next_keeps (ite_keeps ?_ (.refl s))
  split
  · extract_lets u v
    have acted : Keeps s v := act_keeps _ _ _ _ _ _ _ (setSlice_keeps _ _ _ (.refl s))
    exact ite_keeps (.refl s) (settleAt_keeps _ _ _ (ite_keeps (elEvent_keeps _ _ _ acted) acted))
  · exact .refl s

theorem execSafeRelease_keeps (q : Req) (w : Word) (safenHigh : Bool) (s : State) : NextKeeps s (execSafeRelease q w safenHigh s) :=
  fin_keeps _ (crossTo_keeps _ _ _ _ _ _ (senseSafen_keeps _ _ (.refl _))
    (fun _ h => write_keeps _ _ _ _ _ h (fun _ h' => safeWrite_keeps _ _ h')))

theorem execCapture_keeps (c : Fin 32) (s : State) : NextKeeps s (execCapture c s) := by
  unfold execCapture
  split
  · exact next_keeps (ite_keeps (captureAt_keeps _ _ _ (dropAct_keeps _ _ (.refl _))) (dropAct_keeps _ _ (.refl _)))
  · exact next_keeps (.refl _)

/-! ### Commits, snapshots and queues -/

theorem execSharedCommitAbsent_keeps (g : Fin 32) (s : State) : NextKeeps s (execSharedCommitAbsent g s) := by
  refine fin_keeps _ ?_
  split
  · split
    · exact ite_keeps (refuseCommit_keeps _ _ _ (.refl _)) (.refl _)
    · exact .refl _
  · exact .refl _

theorem execSnapshot_keeps (u : Fin 8) (s : State) : NextKeeps s (execSnapshot u s) := by
  refine next_keeps ?_
  split
  · exact ite_keeps (.refl _) (ite_keeps (snapshotAt_keeps _ _ _ (dropAct_keeps _ _ (.refl _)))
      (unhold_keeps _ _ (dropAct_keeps _ _ (.refl _))))
  · exact .refl _

theorem execSnapshotComplete_keeps (u : Fin 8) (s : State) : NextKeeps s (execSnapshotComplete u s) := by
  refine next_keeps ?_
  split
  · extract_lets d inside _ t v
    have freed : Keeps s v := unhold_keeps _ _ (set_keeps _ _ _ _ ((Keeps.refl s).updCc _))
    exact ite_keeps (set_keeps _ _ _ _ (memWords_keeps _ _ _ freed)) (set_keeps _ _ _ _ freed)
  · exact .refl s

theorem execQmInitDone_keeps (s : State) : NextKeeps s (execQmInitDone s) :=
  next_keeps (ite_keeps (setReady_keeps _ _ _ _ (set_keeps _ _ _ _
    ((keepErrs_keeps s (fun a => !(decide (0x50000000 ≤ a) && decide (a < 0x50040000))) (.refl s)).filterRegs _))) (.refl s))

theorem execPortPutTimeout_keeps (q : Req) (s : State) : NextKeeps s (execPortPutTimeout q s) := by
  refine next_keeps ?_
  split
  · exact endWait_keeps _ _ _ (countDrop_keeps _ _ ((Keeps.refl _).updQm _))
  · exact .refl _

/-! ### Standard interfaces and debug -/

theorem execMacTxFrame_keeps (m : Fin 2) (sfd : BitVec 64) (fine : BitVec 7) (s : State) : NextKeeps s (execMacTxFrame m sfd fine s) := by
  refine next_keeps (ite_keeps ?_ (.refl s))
  split
  · rename_i t ws e
    extract_lets a w len takes status u f f' _ v
    have fetched : Keeps s t := pair_keeps (qFetch_keeps s _ (.refl s)) e
    have noted : Keeps s u := ite_keeps (noteUe_keeps _ _ _ fetched) fetched
    exact macPut_keeps _ _ _ (ite_keeps (noted.updStd _) noted)
  · exact pair_keeps (qFetch_keeps s _ (.refl s)) ‹_›

theorem execMacRxFrame_keeps (m : Fin 2) (frame : List Byte) (fcsOk : Bool) (sfd : BitVec 64) (fine : BitVec 7) (s : State) :
    NextKeeps s (execMacRxFrame m frame fcsOk sfd fine s) :=
  next_keeps (ite_keeps (ite_keeps (macPause_keeps _ _ _ (.refl _)) (macRx_keeps _ _ _ _ _ _ (.refl _))) (.refl _))

theorem execXspiCommandDone_keeps (x : Fin 2) (data : List Byte) (s : State) : NextKeeps s (execXspiCommandDone x data s) := by
  refine next_keeps ?_
  split
  · exact ite_keeps (set_keeps _ _ _ _ (set_keeps _ _ _ _ (setXspi_keeps _ _ _ (ite_keeps (putBufs_keeps _ _ _ _ (.refl _)) (.refl _)))))
      (.refl _)
  · exact .refl _

theorem execI2cTransactionDone_keeps (i : Fin 12) (o : I2cEnd) (s : State) : NextKeeps s (execI2cTransactionDone i o s) := by
  refine next_keeps (ite_keeps (.refl _) ?_)
  split
  · exact i2cFree_keeps _ _ (i2cEnd_keeps _ _ _ (set_keeps _ _ _ _ (.refl _)))
  · exact i2cEnd_keeps _ _ _ (set_keeps _ _ _ _ (.refl _))
  · exact ite_keeps (ite_keeps (i2cFinish_keeps _ _ (.refl _)) (.refl _))
      (ite_keeps (i2cTake_keeps _ _ (setSerial_keeps _ _ _ (flagIf_keeps _ _ _ _ (.refl _)))) (.refl _))

theorem execI2cTimeout_keeps (i : Fin 12) (s : State) : NextKeeps s (execI2cTimeout i s) := by
  have freed := i2cFree_keeps _ i (set_keeps s (aI2C_STAT i) I2C_STAT.timeout 1 (.refl s))
  exact next_keeps (ite_keeps (ite_keeps (i2cEnd_keeps _ _ _ freed) (setSerial_keeps _ _ _ freed)) (.refl s))

theorem execI2cAddressed_keeps (i : Fin 12) (addr : BitVec 7) (read : Bool) (data : List Byte) (taken : BitVec 8) (s : State) :
    NextKeeps s (execI2cAddressed i addr read data taken s) :=
  next_keeps (ite_keeps (setSerial_keeps _ _ _ (set_keeps _ _ _ _
    (set_keeps _ _ _ _ (ite_keeps (i2cTarget_keeps _ _ _ _ _ (.refl _)) (.refl _))))) (.refl _))

theorem execI2cStopSeen_keeps (i : Fin 12) (data : List Byte) (taken : BitVec 8) (s : State) :
    NextKeeps s (execI2cStopSeen i data taken s) := by
  unfold execI2cStopSeen
  extract_lets t _ u
  have served : Keeps s t := ite_keeps (i2cTarget_keeps _ _ _ _ _ (.refl s)) (.refl s)
  have left : Keeps s u := ite_keeps (setSerial_keeps _ _ _ served) served
  exact next_keeps (ite_keeps (i2cFree_keeps _ _ (set_keeps _ _ _ _ left)) (.refl s))

theorem execSpiWordDone_keeps (i : Fin 8) (w : Word) (s : State) : NextKeeps s (execSpiWordDone i w s) :=
  next_keeps (ite_keeps (.refl _) (ite_keeps (spiReceive_keeps _ _ _
    (ite_keeps (set_keeps _ _ _ _ (.refl _)) (setTx_keeps _ _ _ (.refl _))))
    (ite_keeps (spiEnd_keeps _ _ (spiReceive_keeps _ _ _ (.refl _))) (.refl _))))

theorem execUartRxChar_keeps (i : Fin 8) (ch : BitVec 9) (fe pe : Bool) (s : State) : NextKeeps s (execUartRxChar i ch fe pe s) := by
  unfold execUartRxChar
  extract_lets a x pe' t c w
  have flagged : Keeps s t := flagIf_keeps _ _ _ _ (flagIf_keeps _ _ _ _ (.refl s))
  exact next_keeps (ite_keeps (.refl s) (ite_keeps (setRx_keeps _ _ _ flagged) (set_keeps _ _ _ _ flagged)))

theorem execUartTxChar_keeps (i : Fin 8) (s : State) : NextKeeps s (execUartTxChar i s) :=
  next_keeps (ite_keeps (uartKick_keeps _ _ (set_keeps _ _ _ _ (setSerial_keeps _ _ _ (.refl _)))) (.refl _))

theorem execCanTxFrame_keeps (c : Fin 8) (b : Fin 32) (sof : BitVec 64) (e : CanErr) (s : State) :
    NextKeeps s (execCanTxFrame c b sof e s) :=
  next_keeps (ite_keeps (ite_keeps (canErrs_keeps _ _ _ (set_keeps _ _ _ _
    (lowerBit_keeps _ _ _ (setReg_keeps _ _ _ (setReg_keeps _ _ _ (.refl _)))))) (set_keeps _ _ _ _ (lowerBit_keeps _ _ _ (.refl _))))
    (.refl _))

theorem execCanRxFrame_keeps (c : Fin 8) (f : List Word) (sof : BitVec 64) (e : CanErr) (s : State) :
    NextKeeps s (execCanRxFrame c f sof e s) :=
  next_keeps (ite_keeps (.refl _) (canErrs_keeps _ _ _ (ite_keeps (set_keeps _ _ _ _ (.refl _))
    (ite_keeps (set_keeps _ _ _ _ (setCanRx_keeps _ _ _ (.refl _))) (set_keeps _ _ _ _ (.refl _))))))

theorem execCanBusOff_keeps (c : Fin 8) (s : State) : NextKeeps s (execCanBusOff c s) :=
  next_keeps (ite_keeps (setCan_keeps _ _ _ (canErrs_keeps _ _ _ (set_keeps _ _ _ _ (set_keeps _ _ _ _ (.refl _))))) (.refl _))

theorem execBusOffRecoveryDone_keeps (c : Fin 8) (s : State) : NextKeeps s (execBusOffRecoveryDone c s) :=
  next_keeps (ite_keeps (setCan_keeps _ _ _ (set_keeps _ _ _ _ (set_keeps _ _ _ _
    (set_keeps _ _ _ _ (set_keeps _ _ _ _ (set_keeps _ _ _ _ (.refl _))))))) (.refl _))

theorem execGpioOutputAction_keeps (i : Fin 32) (s : State) : NextKeeps s (execGpioOutputAction i s) := by
  refine fin_keeps _ ?_
  split
  · exact ite_keeps (gpioDrive_keeps _ _ (gpioApply_keeps _ _ ((dropAct_keeps _ _ (.refl _)).updFab _))) (dropAct_keeps _ _ (.refl _))
  · exact .refl _

theorem execDebugResume_keeps (s : State) : NextKeeps s (execDebugResume s) := by
  unfold execDebugResume
  extract_lets t
  have released : Keeps s t := foldl_keeps (.refl s) (fun _ _ h => setEng_keeps _ _ _ h)
  exact fin_keeps _ (ite_keeps (.refl s) (ite_keeps released (ite_keeps (enter_keeps _ _ released)
    (leftWatch_keeps _ (enter_keeps _ _ released)))))

theorem execCrossTrigger_keeps (d : Fin 8) (s : State) : NextKeeps s (execCrossTrigger d s) := by
  refine fin_keeps _ ?_
  split
  · exact ite_keeps (debugHalt_keeps _ _ (dropAct_keeps _ _ (.refl _))) ((dropAct_keeps _ _ (.refl _)).updStd _)
  · exact .refl _

/-! ### Fieldring -/

theorem execFrLockGained_keeps (p : Fin 48) (s : State) : NextKeeps s (execFrLockGained p s) := by
  unfold execFrLockGained
  extract_lets _ t
  have locked : Keeps s t := setFrPort_keeps _ _ _ (.refl s)
  exact next_keeps (ite_keeps (.refl s) (ite_keeps (frSync_keeps _ _ locked) (ite_keeps (frEnum_keeps _ _ locked) locked)))

theorem execFrLockLost_keeps (p : Fin 48) (s : State) : NextKeeps s (execFrLockLost p s) :=
  next_keeps (ite_keeps (.refl _) (ite_keeps (frLeave_keeps _ _ _ (set_keeps _ _ _ _ (setFrPort_keeps _ _ _ (.refl _))))
    (setFrPort_keeps _ _ _ (.refl _))))

theorem execFrFaultReceived_keeps (p : Fin 48) (node : BitVec 7) (s : State) : NextKeeps s (execFrFaultReceived p node s) := by
  unfold execFrFaultReceived
  extract_lets a t
  have seen : Keeps s t := set_keeps _ _ _ _ (ite_keeps (frLeave_keeps _ _ _ (.refl s)) (.refl s))
  exact next_keeps (ite_keeps (.refl s) (ite_keeps (set_keeps _ _ _ _ seen) seen))

theorem execFrEnumReturn_keeps (p : Fin 48) (hop : BitVec 7) (dr : BitVec 20) (s : State) : NextKeeps s (execFrEnumReturn p hop dr s) := by
  unfold execFrEnumReturn
  extract_lets a n ex t _ u
  have told : Keeps s t := frClearSeq_keeps _ _ (set_keeps _ _ _ _ (set_keeps _ _ _ _ (.refl s)))
  have ended : Keeps s u := setFrPort_keeps _ _ _ told
  exact next_keeps (ite_keeps (ite_keeps (frLeave_keeps _ _ _ (set_keeps _ _ _ _ ended))
    (ite_keeps (frShow_keeps _ _ _ (setFrPort_keeps _ _ _ ended)) ended)) (.refl s))

theorem execFrEnumTimeout_keeps (p : Fin 48) (s : State) : NextKeeps s (execFrEnumTimeout p s) := by
  refine next_keeps ?_
  split
  · exact ite_keeps (frSync_keeps _ _ (setFrPort_keeps _ _ _ (set_keeps _ _ _ _ (.refl _)))) (.refl _)
  · exact .refl _

theorem execFrCycleStart_keeps (p : Fin 48) (s : State) : NextKeeps s (execFrCycleStart p s) :=
  next_keeps (ite_keeps (frEvent_keeps _ _ _ (setFrPort_keeps _ _ _ (flagIf_keeps _ _ _ _ (.refl _)))) (.refl _))

theorem execFrPollDue_keeps (p : Fin 48) (i : Fin 256) (s : State) : NextKeeps s (execFrPollDue p i s) := by
  refine next_keeps ?_
  split
  · exact ite_keeps (.refl s) (getD_keeps (frPolled_keeps _ _ _ _ (.refl s)) (.refl s))
  · exact .refl s

theorem execFrPollTrigger_keeps (p : Fin 48) (s : State) : NextKeeps s (execFrPollTrigger p s) := by
  refine next_keeps ?_
  split
  · rename_i a _
    have freed := unhold_keeps _ (2328 + p) (dropAct_keeps s a (.refl s))
    exact ite_keeps (frDrain_keeps _ _ _ (setFrPort_keeps _ _ _ freed)) freed
  · exact .refl s

theorem execFrCommandStart_keeps (p : Fin 48) (s : State) : NextKeeps s (execFrCommandStart p s) := by
  refine next_keeps (ite_keeps ?_ (.refl _))
  split
  · exact ite_keeps (frSend_keeps _ _ _ _ (setFrPort_keeps _ _ _ (.refl _))) (.refl _)
  · exact ite_keeps (.refl _) (frServe_keeps _ _ _ _ (.refl _))

theorem execFrFrameReceived_keeps (p : Fin 48) (f : FrFrame) (s : State) : NextKeeps s (execFrFrameReceived p f s) :=
  next_keeps (ite_keeps (.refl _) (ite_keeps (frInvalid_keeps _ _ _ (.refl _))
    (ite_keeps (frInvalid_keeps _ _ _ (.refl _)) (frValid_keeps _ _ _ (.refl _)))))

theorem execFrTimeout_keeps (p : Fin 48) (s : State) : NextKeeps s (execFrTimeout p s) := by
  refine next_keeps ?_
  split
  · exact frError_keeps _ _ _ _ (.refl _)
  · exact .refl _

/-! ### Swimlink and the shared timebase -/

theorem execSwlBlockLock_keeps (l : Fin 8) (lane : Fin 2) (skew : Option Nat) (s : State) :
    NextKeeps s (execSwlBlockLock l lane skew s) := by
  unfold execSwlBlockLock
  extract_lets x y both t
  have locked : Keeps s t := setSwlPort_keeps _ _ _ (.refl s)
  exact next_keeps (ite_keeps (.refl s) (ite_keeps (ite_keeps (swlAligned_keeps _ _ locked) (setSwlState_keeps _ _ _ locked)) locked))

theorem execSwlIdent_keeps (l : Fin 8) (p : SwlPkt) (m : SwlIdent) (s : State) : NextKeeps s (execSwlIdent l p m s) :=
  next_keeps (ite_keeps (.refl _) (takePkt_keeps _ _ _ _ _ (.refl _)
    (fun _ h => ite_keeps (flagIf_keeps _ _ _ _ (flagIf_keeps _ _ _ _ h))
    (setSwlState_keeps _ _ _ (set_keeps _ _ _ _ (set_keeps _ _ _ _ (set_keeps _ _ _ _ h)))))))

theorem execSwlCrd_keeps (l : Fin 8) (b : SwlBlk) (s : State) : NextKeeps s (execSwlCrd l b s) :=
  next_keeps (ite_keeps (takeBlk_keeps _ _ _ _ (.refl _) (fun _ h => ite_keeps (swlCrd_keeps _ _ _ h) h)) (.refl _))

theorem execSwlEvtBlock_keeps (l : Fin 8) (a b : SwlBlk) (joined : Bool) (s : State) : NextKeeps s (execSwlEvtBlock l a b joined s) := by
  have taken := takeBlk_keeps _ l b id (takeBlk_keeps s l a id (.refl s) (fun _ h => h)) (fun _ h => h)
  exact next_keeps (ite_keeps (.refl s) (ite_keeps (takeEvt_keeps _ _ _ _ taken)
    (ite_keeps (takeEvt_keeps _ _ _ _ taken) (set_keeps _ _ _ _ taken))))

theorem execSwlImportFire_keeps (l : Fin 8) (ev : Fin 64) (s : State) : NextKeeps s (execSwlImportFire l ev s) := by
  refine next_keeps ?_
  split
  · exact ite_keeps (fireAt_keeps _ _ _ (setSwlPort_keeps _ _ _ (.refl _))) (setSwlPort_keeps _ _ _ (.refl _))
  · exact .refl _

theorem execTsyncExchange_keeps (l : Fin 8) (x : SwlTsync) (s : State) : NextKeeps s (execTsyncExchange l x s) := by
  refine next_keeps (ite_keeps (.refl _) ?_)
  split
  · exact ite_keeps (tsyncAsk_keeps _ _ _ _ _ _ _ (.refl _)) (.refl _)
  · exact setSwlPort_keeps _ _ _ (.refl _)

theorem execHoldoverExpiry_keeps (s : State) : NextKeeps s (execHoldoverExpiry s) := by
  refine fin_keeps _ ?_
  split
  · exact ite_keeps (tandem_keeps _ _ (.refl _) ((set_keeps _ _ _ _ (set_keeps _ _ _ _ (.refl _))).updSwl _)) (.refl _)
  · exact .refl _

theorem execMasterLost_keeps (s : State) : NextKeeps s (execMasterLost s) :=
  fin_keeps _ (ite_keeps (ite_keeps (ite_keeps (tandem_keeps _ _ (.refl _) (newMaster_keeps _ _ (.refl _))) (.refl _))
    (newMaster_keeps _ _ (.refl _))) (.refl _))

theorem execHbSend_keeps (s : State) : NextKeeps s (execHbSend s) :=
  next_keeps (ite_keeps (foldl_keeps ((Keeps.refl _).updSwl _) (fun _ _ h => ite_keeps (sendOn_keeps _ _ _ h) h)) (.refl _))

theorem execSwlHb_keeps (l : Fin 8) (p : SwlPkt) (m : SwlHb) (s : State) : NextKeeps s (execSwlHb l p m s) :=
  fin_keeps _ (arrivePkt_keeps _ _ _ _ _ (.refl _) (fun _ h => ite_keeps
    (ownWatch_keeps _ (handHb_keeps _ _ ((set_keeps _ _ _ _ (h.updSwl _)).updSwl _))) (h.updSwl _)))

theorem execPartnerLost_keeps (s : State) : NextKeeps s (execPartnerLost s) :=
  fin_keeps _ (ite_keeps (takeOver_keeps _ (ownWatch_keeps _ (set_keeps _ _ _ _ (set_keeps _ _ _ _ (.refl _))))) (.refl _))

theorem execOwnerSense_keeps (level : Bool) (s : State) : NextKeeps s (execOwnerSense level s) :=
  fin_keeps _ (ite_keeps (ite_keeps (ite_keeps (setOwn_keeps _ _ (.refl _)) (.refl _))
    (ite_keeps (set_keeps _ _ _ _ (setOwn_keeps _ _ (.refl _))) (.refl _))) (.refl _))

theorem execNoOwnerTimeout_keeps (s : State) : NextKeeps s (execNoOwnerTimeout s) := by
  refine fin_keeps _ ?_
  split
  · exact ite_keeps (setOwn_keeps _ _ (.refl _)) (.refl _)
  · exact .refl _

theorem execHandoffTick_keeps (s : State) : NextKeeps s (execHandoffTick s) := by
  refine fin_keeps _ ?_
  split
  · exact ite_keeps (.refl _) (ite_keeps (setOwn_keeps _ _ ((Keeps.refl _).updSwl _)) (set_keeps _ _ _ _ ((Keeps.refl _).updSwl _)))
  · exact .refl _

theorem execQfwdResend_keeps (k : Fin 64) (s : State) : NextKeeps s (execQfwdResend k s) := by
  refine next_keeps ?_
  split
  · exact ite_keeps (fwdSend_keeps _ _ (setFwd_keeps _ _ _ (.refl _))) (.refl _)
  · exact .refl _

theorem execSwlQrec_keeps (l : Fin 8) (p : SwlPkt) (s : State) : NextKeeps s (execSwlQrec l p s) :=
  next_keeps (arrivePkt_keeps _ _ _ _ _ (.refl _) (fun _ h => answer_keeps _ _ _ _ _ (fwdPut_keeps _ _ _ _ h)))

theorem execSwlRequestTimeout_keeps (s : State) : NextKeeps s (execSwlRequestTimeout s) := by
  refine next_keeps ?_
  split
  · exact lose_keeps _ _ _ (.refl _)
  · exact .refl _

/-! ### Resets, modes and the release -/

theorem execWdtExpiry_keeps (n : Fin 256) (s : State) : NextKeeps s (execWdtExpiry n s) :=
  next_keeps (ite_keeps (ite_keeps (pendVec_keeps _ _ _ (set_keeps _ _ _ _ (set_keeps _ _ _ _ (.refl _))))
    (reportFail_keeps _ _ _ (.refl _))) (.refl _))

theorem execPowerOn_keeps (r : Rail) (ns : Nat) (dead : Bool) (s : State) : NextKeeps s (execPowerOn r ns dead s) :=
  next_keeps (ite_keeps (fallen_keeps _ _ _ (fallen_keeps _ _ _ (railLow_keeps _ _ _ (.refl _))))
    (fallen_keeps _ _ _ (railLow_keeps _ _ _ (.refl _))))

theorem execRailGood_keeps (r : Rail) (brown : Bool) (s : State) : NextKeeps s (execRailGood r brown s) := by
  unfold execRailGood
  extract_lets _ t u
  have risen : Keeps s u := ite_keeps (causeEnds_keeps _ _ ((Keeps.refl s).updRst _)) ((Keeps.refl s).updRst _)
  exact next_keeps (ite_keeps (causeEnds_keeps _ _ risen) risen)

theorem execResetnLow_keeps (ns : Nat) (goesOn : Bool) (s : State) : NextKeeps s (execResetnLow ns goesOn s) :=
  next_keeps (ite_keeps (lasting_keeps _ _ _ _ _ (.refl _) (fun _ h => resetCause_keeps _ _ _ h))
    (ite_keeps (causeEnds_keeps _ _ (.refl _)) (lasting_keeps _ _ _ _ _ (.refl _) (fun _ h => resetCause_keeps _ _ _ h))))

theorem execRefclkLoss_keeps (xtal : Bool) (s : State) : NextKeeps s (execRefclkLoss xtal s) :=
  next_keeps (ite_keeps (.refl s) (resetCause_keeps _ _ _ (Keeps.upd (.refl s) rfl rfl rfl rfl)))

theorem execIslandRelease_keeps (s : State) : NextKeeps s (execIslandRelease s) := by
  refine fin_keeps _ ?_
  split
  · exact ite_keeps (releaseReset_keeps _ _ (.refl _)) (ite_keeps (releaseNext_keeps _ (.refl _)) (.refl _))
  · exact ite_keeps (releaseNext_keeps _ (.refl _)) (.refl _)

theorem execMemoryInitDone_keeps (m : Mem) (s : State) : NextKeeps s (execMemoryInitDone m s) := by
  refine next_keeps (ite_keeps ?_ (.refl _))
  split
  · exact setReady_keeps _ _ _ _ ((Keeps.refl _).updRst _)
  · exact each_keeps _ _ _ ((Keeps.refl _).updRst _) (fun _ _ h => newtUp_keeps _ _ h)

theorem execBlockReady_keeps (w : Fin 64) (b : Fin 32) (s : State) : NextKeeps s (execBlockReady w b s) := by
  have ready := setReady_keeps s w b true (.refl s)
  exact fin_keeps _ (ite_keeps (ite_keeps (newtUp_keeps _ _ (.refl s))
    (ite_keeps (ite_keeps (setSlice_keeps _ _ _ ready) ready)
    (ite_keeps (zoneHit_keeps _ _ ready)
    (ite_keeps (frWake_keeps _ _ ready)
    (ite_keeps (setSwlPort_keeps _ _ _ ready) ready))))) (.refl s))

theorem execIslIdleDone_keeps (i : Fin 26) (s : State) : NextKeeps s (execIslIdleDone i s) := by
  refine fin_keeps _ ?_
  split
  · exact ite_keeps (holdIsl_keeps _ _ ((flagIf_keeps _ _ _ _ (.refl _)).updRst _)) (.refl _)
  · exact .refl _

theorem execFrostEntryComplete_keeps (s : State) : NextKeeps s (execFrostEntryComplete s) := by
  refine fin_keeps _ (ite_keeps ?_ (.refl _))
  split
  · exact startWake_keeps _ _ _ (darken_keeps _ (frostEntry_keeps _ (.refl _)))
  · exact darken_keeps _ (frostEntry_keeps _ (.refl _))

theorem execWake_keeps (w : Fin 16) (s : State) : NextKeeps s (execWake w s) := by
  refine fin_keeps _ ?_
  split
  · rename_i a _
    have dropped := dropAct_keeps s a (.refl s)
    exact ite_keeps (ite_keeps (ite_keeps dropped (set_keeps _ _ _ _ (dropped.updRst _))) (startWake_keeps _ _ _ dropped)) dropped
  · exact .refl s

theorem execThermReading_keeps (tj : Int) (s : State) : NextKeeps s (execThermReading tj s) := by
  refine fin_keeps _ (ite_keeps (.refl s) ?_)
  extract_lets t c u _ v
  have read : Keeps s t := set_keeps _ _ _ _ (.refl s)
  have warned : Keeps s u := set_keeps _ _ _ _ (fireIf_keeps _ _ _ read)
  have judged : Keeps s v := ite_keeps (warned.updAv _) (ite_keeps (read.updAv _) read)
  exact ite_keeps (tripMode_keeps _ _ judged) judged

/-! ### Non-volatile memory, boot and availability -/

theorem execSessionIncrement_keeps (s : State) : NextKeeps s (execSessionIncrement s) := by
  refine next_keeps (ite_keeps (.refl _) ?_)
  split
  · exact sessPulse_keeps _ _ _ (.refl _)
  · exact sessBegin_keeps _ (.refl _)

theorem execNvmPulseDone_keeps (s : State) : NextKeeps s (execNvmPulseDone s) := by
  refine next_keeps ?_
  split
  · exact ite_keeps (ite_keeps (pulseOver_keeps _ _ (endPulse_keeps _ (.refl _))) (endPulse_keeps _ (.refl _))) (.refl _)
  · exact .refl _

theorem execOtpProgramDone_keeps (s : State) : NextKeeps s (execOtpProgramDone s) := by
  refine next_keeps ?_
  split
  · exact set_keeps _ _ _ _ ((putWord_keeps _ _ _ (.refl _)).updNvm _)
  · exact .refl _

theorem execBoot_keeps (s : State) : NextKeeps s (execBoot s) := by
  refine fin_keeps _ (ite_keeps ?_ (.refl _))
  split
  · exact pair_keeps (bootAll_keeps _ _ (.refl _)) ‹_›
  · exact setEng_keeps _ _ _ (set_keeps _ _ _ _ (pair_keeps (bootAll_keeps _ _ (.refl _)) ‹_›))

theorem execDebugUnlock_keeps (a : Word) (uart : List Byte) (s : State) : NextKeeps s (execDebugUnlock a uart s) := by
  have failed := renewNonce_keeps _ (incSat_keeps s aDBG_CTRL DBG_CTRL.fails (.refl s))
  exact next_keeps (ite_keeps (.refl s) (unlockEnds_keeps _ (ite_keeps (.refl s)
    (ite_keeps ((set_keeps _ _ _ _ (.refl s)).updNvm _) (ite_keeps (set_keeps _ _ _ _ failed) failed)))))

theorem execScrubVisit_keeps (at_ : ScrubAt) (a : Word) (upset : Upset) (s : State) : NextKeeps s (execScrubVisit at_ a upset s) := by
  refine fin_keeps _ (ite_keeps (.refl _) ?_)
  split
  · exact ite_keeps (scrubLine_keeps _ _ _ _ _ (.refl _)) (.refl _)
  · exact ite_keeps (scrubLine_keeps _ _ _ _ _ (.refl _)) (.refl _)
  · exact ite_keeps (scrubStaged_keeps _ _ _ (.refl _)) (.refl _)
  · exact scrubWord_keeps _ _ _ (.refl _)
  · exact scrubWord_keeps _ _ _ (.refl _)

theorem execNvmScrubVisit_keeps (a : Word) (upset : Upset) (s : State) : NextKeeps s (execNvmScrubVisit a upset s) := by
  refine fin_keeps _ (ite_keeps (.refl _) (ite_keeps (eccUe_keeps _ _ _ _ (.refl _)) ?_))
  split
  · exact .refl _
  · exact ite_keeps (eccCe_keeps _ (markCe_keeps _ _ (.refl _))) (set_keeps _ _ _ _
      (set_keeps _ _ _ _ (eccCe_keeps _ (markCe_keeps _ _ (.refl _)))))
  · exact eccUe_keeps _ _ _ _ (markUe_keeps _ _ (.refl _))

theorem execSysWdtExpiry_keeps (s : State) : NextKeeps s (execSysWdtExpiry s) := by
  unfold execSysWdtExpiry
  extract_lets a t
  have warned : Keeps s t := set_keeps _ _ _ _ (set_keeps _ _ _ _ (.refl s))
  exact fin_keeps _ (ite_keeps (.refl s) (ite_keeps (resetCause_keeps _ _ _ (.refl s))
    (ite_keeps (tripMode_keeps _ _ warned) warned)))

theorem execNewtFailure_keeps (n : Fin 256) (cause : Fin 8) (s : State) : NextKeeps s (execNewtFailure n cause s) := by
  refine fin_keeps _ ?_
  split
  · exact ite_keeps (startRegrow_keeps _ _ _ (setRgClu_keeps _ _ _ (.refl _))) (.refl _)
  · exact .refl _

theorem execRegrowDrainDone_keeps (c : Fin 16) (s : State) : NextKeeps s (execRegrowDrainDone c s) := by
  refine next_keeps ?_
  split
  · exact ite_keeps (setRgClu_keeps _ _ _ (setEng_keeps _ _ _ (ite_keeps (.refl _) (haltNow_keeps _ _ (.refl _))))) (.refl _)
  · exact .refl _

theorem execRegrowCopyDone_keeps (c : Fin 16) (s : State) : NextKeeps s (execRegrowCopyDone c s) := by
  refine fin_keeps _ ?_
  split
  · exact ite_keeps (armRegrow_keeps _ _ _ (setRgClu_keeps _ _ _ (copySwap_keeps _ _ _
      (copyRegs_keeps _ _ _ (copyWords_keeps _ _ _ _ (copyWords_keeps _ _ _ _ (.refl _))))))) (.refl _)
  · exact .refl _

theorem execCommitApply_keeps (g : Fin 32) (s : State) : NextKeeps s (execCommitApply g s) := by
  unfold execCommitApply
  split
  · exact next_keeps (settleAt_keeps _ _ _ (zeroArrivals_keeps _ (completeRegrows_keeps _ _ _ _
      (pair_keeps (commitDue_keeps _ _ (.refl _)) ‹_›))))
  · exact fin_keeps _ (pair_keeps (commitDue_keeps _ _ (.refl _)) ‹_›)

theorem execSelfTestDone_keeps (c : Fin 16) (pass : Bool) (s : State) : NextKeeps s (execSelfTestDone c pass s) := by
  refine fin_keeps _ ?_
  split
  · extract_lets n t _ u
    have cleared : Keeps s t := clearEng_keeps _ _ ((Keeps.refl s).filterRegs _)
    have ended : Keeps s u := showMode_keeps _ (rgShow_keeps _ _ (setRgClu_keeps _ _ _ cleared))
    exact ite_keeps (.refl s) (ite_keeps (set_keeps _ _ _ _ ended) (reportFail_keeps _ _ _ ended))
  · exact .refl s

/-! ### Accesses, remote requests and DMA -/

theorem execClutchRelockDone_keeps (c : Fin 16) (s : State) : NextKeeps s (execClutchRelockDone c s) :=
  fin_keeps _ (ite_keeps (relocksOver_keeps _ (foldl_keeps (applyHeld_keeps _ _ (set_keeps _ _ _ _ (.refl _)))
    (fun _ _ h => stopHeld_keeps _ _ h))) (.refl _))

theorem execAccessErrorResponse_keeps (q : Req) (write : Bool) (a v : Word) (s : State) :
    NextKeeps s (execAccessErrorResponse q write a v s) :=
  next_keeps (ite_keeps (refuse_keeps _ _ (.refl _)) (ite_keeps (cmdWrite_keeps _ _ _ _ (.refl _)) (cmdRead_keeps _ _ _ (.refl _))))

theorem execSwlRrst_keeps (l : Fin 8) (p : SwlPkt) (s : State) : NextKeeps s (execSwlRrst l p s) :=
  fin_keeps _ (arrivePkt_keeps _ _ _ _ _ (.refl _) (fun _ h => ite_keeps (resetCause_keeps _ _ _ h) (errRsp_keeps _ _ h)))

theorem execDmaTdFetch_keeps (ch : Fin 64) (s : State) : NextKeeps s (execDmaTdFetch ch s) := by
  refine next_keeps (ite_keeps (ite_keeps (setDma_keeps _ _ _ (.refl _)) ?_) (.refl _))
  split
  · exact setDma_keeps _ _ _ (noteUe_keeps _ _ _ (.refl _))
  · exact setDma_keeps _ _ _ (noteUe_keeps _ _ _ (.refl _))

theorem execDmaReadResponse_keeps (ch : Fin 64) (s : State) : NextKeeps s (execDmaReadResponse ch s) := by
  refine fin_keeps _ ?_
  split
  · exact dmaMore_keeps _ (dmaTake_keeps _ _ (.refl _))
  · exact dmaMore_keeps _ (dmaFlush_keeps _ _ (.refl _))
  · exact .refl _

theorem execDmaCompletion_keeps (ch : Fin 64) (s : State) : NextKeeps s (execDmaCompletion ch s) := by
  have met := qMeet_keeps s (tdQueue (s.dmaCh ch).td) false (.refl s)
  refine next_keeps ?_
  split
  · rename_i st _
    have put := qPutFor_keeps _ (tdQueue (s.dmaCh ch).td) (s.dmaRecord ch st) (.dma ch) met
    refine ite_keeps (dmaEnd_keeps _ _ _ _ (.refl s)) (ite_keeps (.refl s) (ite_keeps (dmaEnd_keeps _ _ _ _ met) ?_))
    split
    · exact dmaEnd_keeps _ _ _ _ (pair_keeps put ‹_›)
    · exact dmaEnd_keeps _ _ _ _ (pair_keeps put ‹_›)
    · exact setDma_keeps _ _ _ (set_keeps _ _ _ _ (pair_keeps put ‹_›))
  · exact .refl s

theorem execDmaLateError_keeps (ch : Fin 64) (s : State) : NextKeeps s (execDmaLateError ch s) := by
  refine next_keeps ?_
  split
  · exact ite_keeps (set_keeps _ _ _ _ (setDma_keeps _ _ _ (.refl _)))
      (setReg_keeps _ _ _ (set_keeps _ _ _ _ (setDma_keeps _ _ _ (.refl _))))
  · exact .refl _

/-! ### Entries of engines, and what ends their waits -/

theorem execAsyncExceptionEntry_keeps (e : Eng) (s : State) : NextKeeps s (execAsyncExceptionEntry e s) := by
  refine next_keeps (ite_keeps ?_ (.refl _))
  split
  · exact takeVec_keeps _ _ _ _ _ _ (setEng_keeps _ _ _ (.refl _))
  · exact .refl _

theorem execInterruptEntry_keeps (e : Eng) (s : State) : NextKeeps s (execInterruptEntry e s) := by
  refine next_keeps (ite_keeps ?_ (.refl _))
  split
  · exact enterLic_keeps _ _ _ (.refl _)
  · exact .refl _

theorem execModerationExpiry_keeps (e : Eng) (i : Fin 64) (s : State) : NextKeeps s (execModerationExpiry e i s) := by
  refine next_keeps ?_
  split
  · exact ite_keeps (setEng_keeps _ _ _ (.refl _)) (.refl _)
  · exact .refl _

theorem execFarLoadResponse_keeps (e : Eng) (s : State) : NextKeeps s (execFarLoadResponse e s) := by
  refine fin_keeps _ (ite_keeps (.refl _) ?_)
  split
  · exact resume_keeps _ _ (setEng_keeps _ _ _ (.refl _))
  · exact codeBack_keeps _ _ (.refl _)
  · exact takeVec_keeps _ _ _ _ _ _ (.refl _)
  · exact enterSpillFault_keeps _ _ _ (.refl _)
  · exact resume_keeps _ _ (.refl _)
  · exact .refl _

theorem execQueueResponse_keeps (e : Eng) (s : State) : NextKeeps s (execQueueResponse e s) := by
  refine fin_keeps _ (ite_keeps (.refl _) ?_)
  split
  · exact resume_keeps _ _ (.refl _)
  · exact ite_keeps (.refl _) (resume_keeps _ _ (.refl _))
  · exact .refl _

theorem execCacheLineFill_keeps (p : Fin 2) (s : State) : NextKeeps s (execCacheLineFill p s) := by
  refine fin_keeps _ ?_
  split
  · refine ite_keeps (.refl _) (ite_keeps (fillRemote_keeps _ _ _ _ (.refl _)) ?_)
    split
    · exact fillDone_keeps _ _ _ _ _ (pair_keeps (engAsk_keeps _ _ _ _ _ (.refl _)) ‹_›)
    · exact fillFault_keeps _ _ _ _ _ (pair_keeps (engAsk_keeps _ _ _ _ _ (.refl _)) ‹_›)
    · exact pair_keeps (engAsk_keeps _ _ _ _ _ (.refl _)) ‹_›
  · exact .refl _

theorem execHandshakeFifoDelivery_keeps (src dst : Fin 26) (s : State) : NextKeeps s (execHandshakeFifoDelivery src dst s) := by
  refine fin_keeps _ ?_
  split
  · exact .refl s
  · exact ite_keeps (.refl s) (dmaMore_keeps _ (getD_keeps
      (omap_keeps (deliverXfer_keeps _ _ _ (setFifo_keeps _ _ _ _ (.refl s))) (fun _ h => xspiAfter_keeps _ _ _ h))
      (xspiWaits_keeps _ _ _ (.refl s))))

theorem execImpreciseStoreFault_keeps (e : Eng) (s : State) : NextKeeps s (execImpreciseStoreFault e s) := by
  refine next_keeps (ite_keeps (.refl _) ?_)
  split
  · exact .refl _
  · exact recordFault_keeps _ _ _ (setEng_keeps _ _ _ (.refl _))

theorem execSliceWriteCapture_keeps (n : Fin 64) (s : State) : NextKeeps s (execSliceWriteCapture n s) := by
  refine fin_keeps _ ?_
  split
  · exact ite_keeps (endXfer_keeps _ _ _ _ (captureWrite_keeps _ _ _ _ (setSlice_keeps _ _ _ (.refl _)))) (.refl _)
  · exact .refl _

/-! ### Every command -/

/-- Every command but the end of a reset and a join of the shared timebase. -/
theorem exec_keeps (c : Instr) (s : State) (hr : ∀ p d v r x, c ≠ .resetEnd p d v r x) (hj : ∀ b p, c ≠ .timebaseJoin b p) :
    NextKeeps s (exec c s) := by
  cases c with
  | clutchClkWrite _ _ _ => exact next_keeps (cross_keeps _ _ _ _ _ _ _ (.refl _) (fun _ h => wrClutchClk_keeps _ _ _ _ h))
  | clutchRelockDone _ => exact execClutchRelockDone_keeps _ s
  | handshakeFifoDelivery _ _ => exact execHandshakeFifoDelivery_keeps _ _ s
  | accessErrorResponse _ _ _ _ => exact execAccessErrorResponse_keeps _ _ _ _ s
  | pllLock => exact next_keeps (ite_keeps (pllLock_keeps _ (.refl _)) (.refl _))
  | lowWordRead _ _ | capLoRead _ _ => exact crossTo_next_keeps (rdLow_keeps _ _)
  | sessionIncrement => exact execSessionIncrement_keeps s
  | tbmarkFire _ => exact execTbmarkFire_keeps _ s
  | timebaseJoin _ _ => exact absurd rfl (hj _ _)
  | refCfgWrite _ _ => exact crossTo_next_keeps (wrRefCfg_keeps _ _)
  | vrefSettled _ => exact execVrefSettled_keeps _ s
  | sgTriggerTick _ => exact execSgTriggerTick_keeps _ s
  | samplingInstant _ => exact execSamplingInstant_keeps _ s
  | conversionDone _ _ => exact execConversionDone_keeps _ _ s
  | feedWrite _ _ => exact execFeedWrite_keeps _ _ s
  | lpBusyEnd _ => exact execLpBusyEnd_keeps _ s
  | convFifoPop _ _ => exact crossTo_next_keeps (rdConvFifo_keeps _ _)
  | sdDataResult _ _ | sdFastLevelChange _ _ | sdStuck _ _ => exact fin_keeps _ (sdClocks_keeps _ _ _ (.refl _))
  | wmOutputChange _ _ _ => exact fin_keeps _ (ite_keeps (setComparator_keeps _ _ _ (.refl _)) (.refl _))
  | wmThrWrite _ _ _ => exact crossTo_next_keeps (wrWmThr_keeps _ _ _)
  | wmEnableSettled _ _ _ => exact execWmEnableSettled_keeps _ _ _ s
  | bwMaxLenExpiry _ => exact execBwMaxLenExpiry_keeps _ s
  | fabricActivation _ => exact execFabricActivation_keeps _ s
  | swTrig _ _ _ => exact crossTo_next_keeps (wrFabCtl_keeps _ _ _)
  | ld _ | st _ | add _ | sub _ | cmp _ | and_ _ | or_ _ | xor _ | shl _ | shr _ | asr _ | mul _ | mulu _ | mac _ | macs _
  | div _ | divu _ | rem _ | abs _ | neg _ | sat _ | clamp _ | fadd _ | fsub _ | fmul _ | fmac _ | fdiv _ | fsqrt _ | fmin _
  | fmax _ | fcmp _ | fcvtI2f _ | fcvtU2f _ | fcvtF2i _ | fcvtF2u _ | ldrsv _ | stcnd _ | ldx _ | ldy _ | stx _ | sty _
  | addx _ | addy _ | modx _ | mody _ | mov _ | bmov _ | br _ | bz _ | bnz _ | bn _ | bp _ | bc _ | bv _ | call _ | ret _
  | loop _ | waitev _ | sigev _ | qput _ | qget _ | qpeek _ | qcount _ | commit _ | snap _ | fence _ | isync _ | gate _
  | gret _ | eret _ | tbrd _ | ctmode _ | trap _ | bkpt _ => exact fin_keeps _ (runOp_keeps _ _ _ (.refl s))
  | reservationExpiry _ => exact next_keeps ((Keeps.refl _).updRsv _)
  | waitevWake _ | fenceComplete _ => exact fin_keeps _ (ite_keeps (resume_keeps _ _ (.refl _)) (.refl _))
  | queueResponse _ => exact execQueueResponse_keeps _ s
  | interruptEntry _ => exact execInterruptEntry_keeps _ s
  | asyncExceptionEntry _ => exact execAsyncExceptionEntry_keeps _ s
  | moderationExpiry _ _ => exact execModerationExpiry_keeps _ _ s
  | licSwpWrite _ _ _ _ => exact next_keeps (ite_keeps (farCtl_keeps _ _ _ _ _ (.refl _)) (wrSkSwp_keeps _ _ _ _ _ (.refl _)))
  | routeCfgWrite _ _ _ => exact crossTo_next_keeps (wrRouteCfg_keeps _ _ _)
  | routerSourceChange _ => exact next_keeps (ite_keeps ((Keeps.refl _).updRouted _) (.refl _))
  | farLoadResponse _ => exact execFarLoadResponse_keeps _ s
  | farStoreDrain _ => exact fin_keeps _ (ite_keeps (opTurn_keeps _ _ (drain_keeps _ _ (.refl _))) (.refl _))
  | impreciseStoreFault _ => exact execImpreciseStoreFault_keeps _ s
  | wdtKick _ _ _ => exact next_keeps (wrOwnCtl_keeps _ _ _ _ _ (.refl _))
  | wdtExpiry _ => exact execWdtExpiry_keeps _ s
  | newtRunStart _ _ _ | newtRunStop _ _ _ => exact next_keeps (farCtl_keeps _ _ _ _ _ (.refl _))
  | cacheInvalidate _ _ | cacheClean _ _ | cacheCleanInvalidate _ _ => exact fin_keeps _ (cacheCmd_keeps _ _ _ (.refl _))
  | cacheLineFill _ => exact execCacheLineFill_keeps _ s
  | sliceWriteCapture _ => exact execSliceWriteCapture_keeps _ s
  | sliceZero _ => exact execSliceZero_keeps _ s
  | slicePeriod _ => exact execSlicePeriod_keeps _ s
  | compareMatch _ _ => exact next_keeps (settleAt_keeps _ _ _ (ite_keeps (matchDue_keeps _ _ _ (.refl _)) (.refl _)))
  | edgeListEntry _ _ _ => exact execEdgeListEntry_keeps _ _ _ s
  | swSync _ _ _ | swStart _ _ _ => exact crossTo_next_keeps (wrSlice_keeps _ _ _ _)
  | sliceSync _ => exact execSliceSync_keeps _ s
  | sliceStart _ => exact execSliceStart_keeps _ s
  | sliceRunStart _ => exact execSliceRunStart_keeps _ s
  | sliceStop _ => exact execSliceStop_keeps _ s
  | fineDelayRecal => exact next_keeps (ite_keeps ((Keeps.refl _).updPwm _) (.refl _))
  | tripStateSet _ => exact fin_keeps _ (zoneHit_keeps _ _ (.refl _))
  | trippedWrite _ _ _ => exact crossTo_next_keeps (wrTzStatus_keeps _ _ _)
  | tripinChange _ _ _ => exact fin_keeps _ (ite_keeps (tripinLevel_keeps _ _ _ (.refl _)) (.refl _))
  | safenLow => exact fin_keeps _ (safenFall_keeps _ (.refl _))
  | safeRelease _ _ _ => exact execSafeRelease_keeps _ _ _ s
  | tripClr _ _ => exact crossTo_next_keeps (wrSafeCtrl_keeps _ _)
  | capture _ => exact execCapture_keeps _ s
  | cgArm _ _ _ | cgCancel _ _ _ => exact crossTo_next_keeps (wrCgArm_keeps _ _ _)
  | armRequestArrival _ => exact fin_keeps _ (ite_keeps (arm_keeps _ _ ((Keeps.refl _).updCc _)) (.refl _))
  | stagedWrite _ _ _ | registerWrite _ _ _ => exact next_keeps (cmdWrite_keeps _ _ _ _ (.refl _))
  | ccRselWrite _ _ _ => exact crossTo_next_keeps (wrCcRsel_keeps _ _ _)
  | ccSrdRead _ => exact next_keeps (cmdRead_keeps _ _ _ (.refl _))
  | commitApply _ => exact execCommitApply_keeps _ s
  | pageRefreshDone _ _ => exact next_keeps (endRefill_keeps _ _ (.refl _))
  | sharedCommitMessage _ _ _ => exact fin_keeps _ (arrivePkt_keeps _ _ _ _ _ (.refl _) (fun _ h => takeCmt_keeps _ _ _ h))
  | sharedCommitAbsent _ => exact execSharedCommitAbsent_keeps _ s
  | snapshot _ => exact execSnapshot_keeps _ s
  | snapshotComplete _ => exact execSnapshotComplete_keeps _ s
  | portPutWord _ _ _ _ | portPutAppend _ _ _ => exact crossTo_next_keeps (wrPort_keeps _ _ _ _)
  | portGet _ _ | portPeek _ _ | portCount _ _ => exact crossTo_next_keeps (rdPort_keeps _ _ _)
  | portPutTimeout _ => exact execPortPutTimeout_keeps _ s
  | queueEnable _ _ _ | queueDisable _ _ _ => exact crossTo_next_keeps (wrDesc_keeps _ _ _ _)
  | qmInitDone => exact execQmInitDone_keeps s
  | dmaStart _ _ _ | dmaAbort _ _ _ => exact crossTo_next_keeps (wrDma_keeps _ _ _ _)
  | dmaTdFetch _ => exact execDmaTdFetch_keeps _ s
  | dmaBurstGrant => exact next_keeps (dmaMore_keeps _ (dmaArbitrate_keeps _ (dmaMore_keeps _ (.refl _))))
  | dmaReadResponse _ => exact execDmaReadResponse_keeps _ s
  | dmaCompletion _ => exact execDmaCompletion_keeps _ s
  | dmaLateError _ => exact execDmaLateError_keeps _ s
  | frLockGained _ => exact execFrLockGained_keeps _ s
  | frLockLost _ => exact execFrLockLost_keeps _ s
  | frFaultReceived _ _ => exact execFrFaultReceived_keeps _ _ s
  | frEnum _ _ _ | frKick _ _ _ => exact crossTo_next_keeps (wrFrCtrl_keeps _ _ _)
  | frEnumReturn _ _ _ => exact execFrEnumReturn_keeps _ _ _ s
  | frEnumTimeout _ => exact execFrEnumTimeout_keeps _ s
  | frCommandStart _ => exact execFrCommandStart_keeps _ s
  | frFrameReceived _ _ => exact execFrFrameReceived_keeps _ _ s
  | frTimeout _ => exact execFrTimeout_keeps _ s
  | frCycleStart _ => exact execFrCycleStart_keeps _ s
  | frPollDue _ _ => exact execFrPollDue_keeps _ _ s
  | frPollTrigger _ => exact execFrPollTrigger_keeps _ s
  | swlTrainStart _ => exact next_keeps (ite_keeps (setSwlState_keeps _ _ _ (.refl _)) (.refl _))
  | swlBlockLock _ _ _ => exact execSwlBlockLock_keeps _ _ _ s
  | swlLinkFail _ _ => exact next_keeps (ite_keeps (set_keeps _ _ _ _ (swlDown_keeps _ _ (.refl _))) (.refl _))
  | swlIdent _ _ _ => exact execSwlIdent_keeps _ _ _ s
  | swlRdreq _ _ | swlWrreq _ _ => exact next_keeps (arrivePkt_keeps _ _ _ _ _ (.refl _) (fun _ h => serveReq_keeps _ _ _ _ h))
  | swlRdrsp _ _ | swlWrack _ _ _ | swlErrrsp _ _ =>
    exact next_keeps (arrivePkt_keeps _ _ _ _ _ (.refl _) (fun _ h => endResponse_keeps _ _ _ _ _ h))
  | swlQrec _ _ => exact execSwlQrec_keeps _ _ s
  | swlHb _ _ _ => exact execSwlHb_keeps _ _ _ s
  | swlRrst _ _ => exact execSwlRrst_keeps _ _ s
  | swlCrd _ _ => exact execSwlCrd_keeps _ _ s
  | swlEvtBlock _ _ _ _ => exact execSwlEvtBlock_keeps _ _ _ _ s
  | swlImportFire _ _ => exact execSwlImportFire_keeps _ _ s
  | swlRequestTimeout => exact execSwlRequestTimeout_keeps s
  | tsyncExchange _ _ => exact execTsyncExchange_keeps _ _ s
  | hbSend => exact execHbSend_keeps s
  | partnerLost => exact execPartnerLost_keeps s
  | holdoverExpiry => exact execHoldoverExpiry_keeps s
  | tbsyncLost => exact next_keeps (ite_keeps ((set_keeps _ _ _ _ (.refl _)).updSwl _) (.refl _))
  | masterLost => exact execMasterLost_keeps s
  | ownerSense _ => exact execOwnerSense_keeps _ s
  | noOwnerTimeout => exact execNoOwnerTimeout_keeps s
  | swlClaim _ _ | swlYield _ _ | swlHandoff _ _ => exact crossTo_next_keeps (wrSwlOwn_keeps _ _)
  | handoffTick => exact execHandoffTick_keeps s
  | swlRrstSend _ _ => exact crossTo_next_keeps (wrSwlRrst_keeps _ _)
  | qfwdSend _ => exact next_keeps (ite_keeps (fwdSend_keeps _ _ (.refl _)) (.refl _))
  | qfwdResend _ => exact execQfwdResend_keeps _ s
  | macTxFrame _ _ _ => exact execMacTxFrame_keeps _ _ _ s
  | macRxFrame _ _ _ _ _ => exact execMacRxFrame_keeps _ _ _ _ _ s
  | xspiCommand _ _ _ => exact crossTo_next_keeps (wrXspiCctl_keeps _ _ _)
  | xspiCommandDone _ _ => exact execXspiCommandDone_keeps _ _ s
  | i2cGo _ _ _ => exact crossTo_next_keeps (wrI2cCmd_keeps _ _ _)
  | i2cTransactionDone _ _ => exact execI2cTransactionDone_keeps _ _ s
  | i2cTimeout _ => exact execI2cTimeout_keeps _ s
  | i2cAddressed _ _ _ _ _ => exact execI2cAddressed_keeps _ _ _ _ _ s
  | dataPush _ _ _ => exact crossTo_next_keeps (wrData_keeps _ _ _)
  | dataPop _ _ => exact crossTo_next_keeps (rdData_keeps _ _)
  | spiWordDone _ _ => exact execSpiWordDone_keeps _ _ s
  | csEnd _ _ _ => exact crossTo_next_keeps (wrSpiCtrl_keeps _ _ _)
  | uartRxChar _ _ _ _ => exact execUartRxChar_keeps _ _ _ _ s
  | uartTxChar _ => exact execUartTxChar_keeps _ s
  | canRxFrame _ _ _ _ => exact execCanRxFrame_keeps _ _ _ _ s
  | canTxFrame _ _ _ _ => exact execCanTxFrame_keeps _ _ _ _ s
  | canTxreq _ _ _ => exact crossTo_next_keeps (wrCanTxreq_keeps _ _ _)
  | canTxabort _ _ _ => exact crossTo_next_keeps (wrCanTxabort_keeps _ _ _)
  | canRxpop _ _ _ => exact crossTo_next_keeps (wrCanRxpop_keeps _ _ _)
  | canRecover _ _ _ => exact crossTo_next_keeps (wrCanCtrl_keeps _ _ _)
  | canBusOff _ => exact execCanBusOff_keeps _ s
  | gpioInputChange _ _ => exact fin_keeps _ (ite_keeps (gpioIn_keeps _ _ _ (.refl _)) (.refl _))
  | gpioOutputAction _ => exact execGpioOutputAction_keeps _ s
  | bypass | idcode | extest | highz | jtagClamp => exact fin_keeps _ (jtag_keeps _ _ (.refl _))
  | samplePreload _ => exact fin_keeps _ ((jtag_keeps _ _ (.refl _)).updStd _)
  | debugHalt _ => exact fin_keeps _ (debugHalt_keeps _ _ (.refl _))
  | debugResume => exact execDebugResume_keeps s
  | crossTrigger _ => exact execCrossTrigger_keeps _ s
  | powerOn _ _ _ => exact execPowerOn_keeps _ _ _ s
  | brownOut _ _ => exact next_keeps (fallen_keeps _ _ _ ((Keeps.refl _).updRst _))
  | thermalShutdown => exact next_keeps (resetCause_keeps _ _ _ (.refl _))
  | resetnLow _ _ => exact execResetnLow_keeps _ _ s
  | refclkLoss _ => exact execRefclkLoss_keeps _ s
  | swRst _ _ => exact crossTo_next_keeps (wrSwRst_keeps _ _)
  | debugReset => exact next_keeps (ite_keeps (resetCause_keeps _ _ _ (.refl _)) (.refl _))
  | resetEnd _ _ _ _ _ => exact absurd rfl (hr _ _ _ _ _)
  | trimLoadDone => exact next_keeps (ite_keeps (trimLoad_keeps _ (.refl _)) (.refl _))
  | calLoadDone => exact next_keeps (ite_keeps (calLoad_keeps _ (.refl _)) (.refl _))
  | pllLockedAll => exact execPllLockedAll_keeps s
  | islandRelease => exact execIslandRelease_keeps s
  | memoryInitDone _ => exact execMemoryInitDone_keeps _ s
  | blockReady _ _ => exact execBlockReady_keeps _ _ s
  | islRst _ _ => exact crossTo_next_keeps (wrIslRst_keeps _ _)
  | islIdleDone _ => exact execIslIdleDone_keeps _ s
  | blkRst _ _ => exact crossTo_next_keeps (wrBlkRst_keeps _ _)
  | modeReqLull _ _ | modeReqWatch _ _ | modeReqRun _ _ | modeReqFrost _ _ | modeReqTripped _ _ =>
    exact crossTo_next_keeps (wrModeReq_keeps _ _)
  | frostEntryComplete => exact execFrostEntryComplete_keeps s
  | wake _ => exact execWake_keeps _ s
  | sk1Run _ _ => exact crossTo_next_keeps (wrSkRun_keeps _ _)
  | thermReading _ => exact execThermReading_keeps _ s
  | boot => exact execBoot_keeps s
  | nvmWriteCmd _ _ => exact crossTo_next_keeps (wrNvmCmd_keeps _ _)
  | nvmPulseDone => exact execNvmPulseDone_keeps s
  | otpProgram _ _ => exact crossTo_next_keeps (wrOtpPcmd_keeps _ _)
  | otpProgramDone => exact execOtpProgramDone_keeps s
  | debugUnlock _ _ => exact execDebugUnlock_keeps _ _ s
  | relock _ _ => exact crossTo_next_keeps (wrDbgCtrl_keeps _ _)
  | scrubVisit _ _ _ => exact execScrubVisit_keeps _ _ _ s
  | nvmScrubVisit _ _ => exact execNvmScrubVisit_keeps _ _ s
  | pairFailure _ _ => exact fin_keeps _ (ite_keeps (pairFail_keeps _ _ _ (.refl _)) (.refl _))
  | lockstepSwitch _ _ => exact crossTo_next_keeps (wrLockstep_keeps _ _)
  | sysWdtKick _ _ => exact crossTo_next_keeps (wrSysWdtKick_keeps _ _)
  | sysWdtExpiry => exact execSysWdtExpiry_keeps s
  | newtFailure _ _ => exact execNewtFailure_keeps _ _ s
  | regrowReportFailure _ _ _ | selfTest _ _ _ =>
    exact next_keeps (cross_keeps _ _ _ _ _ _ _ (.refl _) (fun _ h => wrRegrowCmd_keeps _ _ _ _ h))
  | regrowDrainDone _ => exact execRegrowDrainDone_keeps _ s
  | regrowCopyDone _ => exact execRegrowCopyDone_keeps _ s
  | selfTestDone _ _ => exact execSelfTestDone_keeps _ _ s
  | blockLockLost _ _ => exact next_keeps (ite_keeps (.refl _) (dropTraffic_keeps _ _ (setSwlPort_keeps _ _ _ (.refl _))))
  | railGood _ _ => exact execRailGood_keeps _ _ s
  | refclkReturn _ => exact next_keeps (ite_keeps (.refl _) (causeEnds_keeps _ _ ((Keeps.refl _).updRst _)))
  | thermalShutdownRelease => exact next_keeps (causeEnds_keeps _ _ (.refl _))
  | frCfgEnWrite _ _ _ => exact crossTo_next_keeps (wrFrCfg_keeps _ _ _)
  | swlCfgEnWrite _ _ _ => exact crossTo_next_keeps (wrSwlCfg_keeps _ _ _)
  | ethernetLinkChange _ _ => exact next_keeps (ite_keeps (setB_keeps _ _ _ _ (.refl _)) (.refl _))
  | busOffRecoveryDone _ => exact execBusOffRecoveryDone_keeps _ s
  | i2cStopSeen _ _ _ => exact execI2cStopSeen_keeps _ _ _ s

end Sys2Proof.Machine
end

section
/-!
SUPPORT. TB_STATUS.pll_locked: the lock sets it, and what moves TB (the end of a reset, a join of the shared timebase) leaves it as it was.
-/

namespace Sys2Proof.Machine

/-! ### What leaves the lock of the timebase PLL as it was -/

theorem State.locked_of_reg {s t : State} (h : t.reg aTB_STATUS = s.reg aTB_STATUS) : t.locked = s.locked := by
  rw [State.locked, State.on, State.get, h]; rfl

theorem State.locked_of_regs {s t : State} (h : t.regs = s.regs) : t.locked = s.locked :=
  State.locked_of_reg (by rw [State.reg, State.reg, h])

theorem State.locked_setReg_ne (s : State) {a : Nat} (w : Word) (h : aTB_STATUS ≠ a) : (s.setReg a w).locked = s.locked :=
  State.locked_of_reg (s.reg_setReg_ne w h)

theorem State.locked_setBit_ne (s : State) {a : Nat} (i : Nat) (b : Bool) (h : aTB_STATUS ≠ a) : (s.setBit a i b).locked = s.locked :=
  s.locked_setReg_ne _ h

theorem State.locked_set_ne (s : State) {a : Nat} (f : Fld) (v : Nat) (h : aTB_STATUS ≠ a) : (s.set a f v).locked = s.locked :=
  State.locked_of_reg (s.reg_set_ne f v h)

theorem State.locked_updTime (s : State) (tb : Nat) (x : TimeSt) : ({ s with tb := tb, time := x } : State).locked = s.locked := rfl

theorem State.locked_updSwl (s : State) (x : SwlSt) : ({ s with swl := x } : State).locked = s.locked := rfl

theorem State.locked_updRst (s : State) (x : RstSt) : ({ s with rst := x } : State).locked = s.locked := rfl

theorem State.locked_renewNonce (s : State) : s.renewNonce.locked = s.locked := rfl

/-- A field of TB_STATUS beside pll_locked. -/
theorem State.locked_set_other (s : State) {f : Fld} (v : Nat) (hf : f.lo ≤ f.hi) (h32 : f.hi < 32) (h : f.hi < 5 ∨ 5 < f.lo) :
    (s.set aTB_STATUS f v).locked = s.locked := by
  rw [State.locked, State.on, State.get_set_other s v hf h32 (g := TB_STATUS.pll_locked) (by decide) h]; rfl

theorem State.locked_flagIf_other (s : State) (c : Bool) {f : Fld} (hf : f.lo ≤ f.hi) (h32 : f.hi < 32) (h : f.hi < 5 ∨ 5 < f.lo) :
    (s.flagIf c aTB_STATUS f).locked = s.locked := by
  unfold State.flagIf
  split
  · exact s.locked_set_other 1 hf h32 h
  · rfl

theorem State.locked_set_pll_locked (s : State) : (s.set aTB_STATUS TB_STATUS.pll_locked 1).locked = true := by
  rw [State.locked, State.on, State.get_set_self _ _ (by decide) (by decide)]; rfl

/-! ### The lock -/

theorem State.endIntervals_locked (s : State) : s.endIntervals.locked = s.locked := by
  have start := s.locked_flagIf_other s.time.startup (f := TB_STATUS.cause_startup) (by decide) (by decide) (by decide)
  unfold State.endIntervals
  refine (State.locked_flagIf_other _ _ (f := TB_STATUS.tb_lossy) (by decide) (by decide) (by decide)).trans ?_
  refine (State.locked_flagIf_other _ _ (f := TB_STATUS.cause_sys) (by decide) (by decide) (by decide)).trans ?_
  refine (State.locked_flagIf_other _ _ (f := TB_STATUS.cause_refclk) (by decide) (by decide) (by decide)).trans ?_
  exact (State.locked_flagIf_other _ _ (f := TB_STATUS.cause_frost) (by decide) (by decide) (by decide)).trans start

theorem State.setReady_locked (s : State) (w b : Nat) (v : Bool) (hw : aTB_STATUS ≠ aREADY w) : (s.setReady w b v).locked = s.locked := by
  have frame : SameBut s (s.setReady w b v) [aREADY w, aMODE] [] :=
    (SameButMem.refl s _ _ 0 0).setReady w b v (by simp) (by simp)
  exact State.locked_of_reg (frame.regs _ (by simp [hw]; decide))

theorem State.pllLock_locked (s : State) : s.pllLock.locked = true := by
  rw [State.pllLock, State.setReady_locked _ _ _ _ (by decide), State.endIntervals_locked, State.locked_set_pll_locked]

theorem State.pllLock_tb (s : State) : s.pllLock.tb = s.tb := (State.pllLock_keeps s (.refl s)).tb

/-! ### The end of a reset -/

theorem State.endReset_locked (s : State) (strap devaddr : Nat) (vio : BitVec 6) (refclk xtal : Bool) :
    (s.endReset strap devaddr vio refclk xtal).locked = s.locked := by
  unfold State.endReset
  extract_lets begun _ t u _
  have released : u.locked = s.locked :=
    calc u.locked = (t.setBit (aREADY 22) islAON true).locked := State.locked_set_ne _ _ _ (by decide)
      _ = t.locked := t.locked_setBit_ne _ _ (by decide)
      _ = s.locked := State.locked_of_regs rfl
  split
  · calc _ = (u.set aSWL_DEV SWL_DEV.devaddr devaddr).locked := (State.locked_renewNonce _).trans (State.locked_updRst _ _)
      _ = u.locked := u.locked_set_ne _ _ (by decide)
      _ = s.locked := released
  · exact released

/-! ### What a change of the shared timebase does to the slices -/

/-- The registers that a stop of slices or of windows, or a refused start of a slice, shows in: BW_STATUS and SL_STATUS. -/
def sliceStops : List Nat := (List.range 32).map aBW_STATUS ++ (List.range 64).map aSL_STATUS

theorem aBW_STATUS_mem_sliceStops {w : Nat} (h : w < 32) : aBW_STATUS w ∈ sliceStops :=
  List.mem_append_left _ (List.mem_map_of_mem (List.mem_range.2 h))

theorem aSL_STATUS_mem_sliceStops {n : Nat} (h : n < 64) : aSL_STATUS n ∈ sliceStops :=
  List.mem_append_right _ (List.mem_map_of_mem (List.mem_range.2 h))

theorem aTB_STATUS_notMem_sliceStops : aTB_STATUS ∉ sliceStops := by decide

theorem lt_of_mem_filter_range {k n : Nat} {p : Nat → Bool} (h : k ∈ (List.range n).filter p) : k < n :=
  List.mem_range.1 (List.mem_filter.1 h).1

section
variable {s t : State} {es : List Nat} {m n : Nat}

theorem SameButMem.ite {rs : List Nat} {a b : State} {c : Prop} [Decidable c] (ha : SameButMem s a rs es m n)
    (hb : SameButMem s b rs es m n) : SameButMem s (if c then a else b) rs es m n := by
  split
  · exact ha
  · exact hb

theorem SameButMem.setSlice {rs : List Nat} (h : SameButMem s t rs es m n) (k : Nat) (x : Slice) :
    SameButMem s (t.setSlice k x) rs es m n :=
  h.upd rfl rfl rfl rfl rfl rfl

theorem SameButMem.stageClose {rs : List Nat} (h : SameButMem s t rs es m n) (u i : Nat) : SameButMem s (t.stageClose u i) rs es m n := by
  have closed (x : Comp) : SameButMem s (t.setComp i x) rs es m n := h.upd rfl rfl rfl rfl rfl rfl
  unfold State.stageClose
  extract_lets x fires v
  split
  · exact (closed _).fireAt _ _
  · exact closed _

theorem SameButMem.closeWin (h : SameButMem s t sliceStops es m n) {w : Nat} (hw : w < 32) (u : Nat) :
    SameButMem s (t.closeWin w u) sliceStops es m n := by
  unfold State.closeWin
  split
  · exact h
  · have shut (x : Window) : SameButMem s (t.setWin w x) sliceStops es m n := h.upd rfl rfl rfl rfl rfl rfl
    exact SameButMem.each _ _ (fun _ i _ hv => hv.stageClose u i) ((shut _).set _ _ _ (aBW_STATUS_mem_sliceStops hw))

theorem SameButMem.stopSlice (h : SameButMem s t sliceStops es m n) (k u : Nat) :
    SameButMem s (t.stopSlice k u) sliceStops es m n := by
  have closed : SameButMem s ((t.setSlice k { t.slice k with
      counting := false, armed := false, started := false, zeroPend := false, perPend := false, startAt := none, runPend := none
      noFine := false, downFrom := none, passed := [], acted := [], wave := {}, acts := [] }).closeWinsOf k u) sliceStops es m n :=
    SameButMem.each _ _ (fun _ _ hw hv => hv.closeWin (lt_of_mem_filter_range hw) u) (h.setSlice _ _)
  unfold State.stopSlice
  dsimp only
  split
  · exact closed.setSlice _ _
  · exact closed

theorem SameButMem.sliceFlag (h : SameButMem s t sliceStops es m n) {k : Nat} (hk : k < 64) (f : Fld) (u : Int) :
    SameButMem s (t.sliceFlag k f u) sliceStops es m n :=
  (h.set _ f 1 (aSL_STATUS_mem_sliceStops hk)).setSlice _ _

theorem SameButMem.memberChanged (h : SameButMem s t sliceStops es m n) {k : Nat} (hk : k < 64) (tc : Nat) :
    SameButMem s (t.memberChanged k tc) sliceStops es m n := by
  have flagged := h.sliceFlag hk SL_STATUS.stg_err tc
  unfold State.memberChanged
  exact .ite (.ite (flagged.stopSlice _ _) (flagged.setSlice _ _)) (.ite (.ite (h.setSlice _ _) h)
    (.ite (.ite h (h.setSlice _ _)) (.ite (h.setSlice _ _) h)))

theorem SameButMem.sharedChanged (h : SameButMem s t sliceStops es m n) (tc : Nat) :
    SameButMem s (t.sharedChanged tc) sliceStops es m n :=
  SameButMem.each _ _ (fun _ _ _ hu => SameButMem.each _ _ (fun _ _ hk hv => hv.memberChanged (lt_of_mem_filter_range hk) tc) hu) h

end

theorem State.tandem_locked (s t : State) : (s.tandem t).locked = t.locked := by
  unfold State.tandem
  split
  · rfl
  · exact State.locked_of_reg (((SameButMem.refl t _ [] 0 0).sharedChanged _).regs _ aTB_STATUS_notMem_sliceStops)

/-! ### A join of the shared timebase -/

theorem State.stepSlice_locked (s : State) (d n : Nat) : (s.stepSlice d n).locked = s.locked := by
  unfold State.stepSlice
  dsimp only
  split
  · exact State.locked_of_reg rfl
  · exact State.locked_of_reg rfl

theorem State.foldl_stepSlice_locked (s : State) (d : Nat) (l : List Nat) :
    (l.foldl (fun u n => u.stepSlice d n) s).locked = s.locked := by
  induction l generalizing s with
  | nil => rfl
  | cons n l ih => rw [List.foldl_cons, ih, s.stepSlice_locked]

/-- TB_STATUS.tb_ahead and SWL_TMSTAT take what a join, or a stay outside, comes to. -/
theorem State.locked_joinFlags (s : State) (ahead joined holdover : Nat) :
    (((s.set aTB_STATUS TB_STATUS.tb_ahead ahead).set aSWL_TMSTAT SWL_TMSTAT.joined joined).set aSWL_TMSTAT
      SWL_TMSTAT.holdover holdover).locked = s.locked := by
  rw [State.locked_set_ne _ _ _ (by decide), State.locked_set_ne _ _ _ (by decide),
    State.locked_set_other _ _ (by decide) (by decide) (by decide)]

theorem State.stayOut_locked (s : State) : s.stayOut.locked = s.locked :=
  (State.locked_updSwl _ _).trans (s.locked_joinFlags 1 0 0)

theorem State.joinAt_locked (s : State) (tb : Nat) : (s.joinAt tb).locked = s.locked := by
  unfold State.joinAt
  extract_lets t _ u v _ w
  have joined : u.locked = s.locked := (State.locked_updSwl _ _).trans (s.locked_joinFlags 0 1 0)
  split
  · exact joined
  · calc _ = (w.set aTB_STATUS TB_STATUS.stepped 1).locked := State.locked_setReg_ne _ _ (by decide)
      _ = w.locked := w.locked_set_other 1 (by decide) (by decide) (by decide)
      _ = v.locked := v.locked_updTime _ _
      _ = u.locked := u.foldl_stepSlice_locked _ _
      _ = s.locked := joined

theorem execTimebaseJoin_locked {b : BitVec 64} {p : Bool} {s t : State} (h : execTimebaseJoin b p s = .next t) :
    t.locked = s.locked := by
  cases h
  refine (State.locked_of_reg (settle_reg_at _ _ _)).trans ?_
  split
  · rfl
  · rw [State.tandem_locked]
    split
    · exact State.stayOut_locked _
    · exact State.joinAt_locked _ _

theorem execResetEnd_locked {p : BitVec 2} {d : BitVec 3} {v : BitVec 6} {r x : Bool} {s t : State}
    (h : execResetEnd p d v r x s = .next t) : t.locked = s.locked := by
  cases h
  split
  · exact s.endReset_locked _ _ _ _ _
  · rfl

end Sys2Proof.Machine
end

section
/-! The statement of the time base's chapter: TB over the change from 40 ns steps to 1 ns ticks (R36). -/

namespace Sys2Proof.Machine

/-- No command both moves TB and raises the lock: the two that may move TB leave the lock alone. -/
theorem exec_tb_eq_of_locks {c : Instr} {s t : State} (h : exec c s = .next t) (hs : s.locked = false) (ht : t.locked = true) :
    t.tb = s.tb := by
  have changed : t.locked ≠ s.locked := by simp [hs, ht]
  by_cases hr : ∃ p d v r x, c = .resetEnd p d v r x
  · obtain ⟨p, d, v, r, x, rfl⟩ := hr
    exact absurd (execResetEnd_locked h) changed
  by_cases hj : ∃ b p, c = .timebaseJoin b p
  · obtain ⟨b, p, rfl⟩ := hj
    exact absurd (execTimebaseJoin_locked h) changed
  exact (exec_keeps c s (fun p d v r x e => hr ⟨p, d, v, r, x, e⟩) (fun b p e => hj ⟨b, p, e⟩)).tb_eq h

theorem exec_pllLock {s : State} (runs : s.pllRuns = true) (hs : s.locked = false) : exec .pllLock s = .next s.pllLock :=
  congrArg Host.Outcome.next (if_pos (by simp [runs, hs]))

theorem State.tickLen_of_locked {s : State} (h : s.locked = true) : s.tickLen = 1 := if_pos h

theorem State.tickLen_of_not_locked {s : State} (h : s.locked = false) : s.tickLen = 40 := if_neg (by simp [h])

/-- Settles O6: a command that raises the lock keeps TB, and PLL_LOCK, with the PLL running, is one. -/
theorem tbContinuesAtLock : Obligations.TbContinuesAtLock := by
  unfold Obligations.TbContinuesAtLock
  refine ⟨fun c s t h hs ht => exec_tb_eq_of_locks h hs ht, fun s runs hs => ⟨s.pllLock, exec_pllLock runs hs, ?_⟩⟩
  exact ⟨s.pllLock_locked, s.pllLock_tb, State.tickLen_of_locked s.pllLock_locked, State.tickLen_of_not_locked hs⟩

end Sys2Proof.Machine
end

section
/-!
SUPPORT. A transfer of control that a bundle takes: what the fetch of the bundle that it kills leaves (R143), and how the bundle
completes at its target.
-/

namespace Sys2Proof.Machine

/-- More may change. -/
theorem SameButMem.mono {s t : State} {rs rs' es es' : List Nat} {m n : Nat} (h : SameButMem s t rs es m n) (hr : rs ⊆ rs')
    (he : es ⊆ es') : SameButMem s t rs' es' m n :=
  { h with regs := fun a ha => h.regs a (fun hm => ha (hr hm)), engs := fun d hd => h.engs d (fun hm => hd (he hm)) }

theorem SameButMem.trans {s t u : State} {rs es : List Nat} {m n : Nat} (h : SameButMem s t rs es m n) (h' : SameButMem t u rs es m n) :
    SameButMem s u rs es m n :=
  ⟨fun a ha => (h'.regs a ha).trans (h.regs a ha), fun d hd => (h'.engs d hd).trans (h.engs d hd),
   fun a ha => (h'.mem a ha).trans (h.mem a ha), h'.tb.trans h.tb, h'.mode.trans h.mode, h'.pending.trans h.pending⟩

/-! ### The fetch of a killed bundle -/

/-- The registers that count and record the memory errors that engine `e` meets (R132, R503). -/
def eccRegs (e : Nat) : List Nat := [aECC_CNT e, aECC_DEV, aECC_UE_INFO, aECC_UE_ADDR]

theorem ctl_notMem_eccRegs {e k : Nat} (h : k < 0x1000) (hk : k ≠ 0x60) : engBase e + k ∉ eccRegs e := by
  simp only [eccRegs, aECC_CNT, aECC_DEV, aECC_UE_INFO, aECC_UE_ADDR, engBase, List.mem_cons, List.not_mem_nil, or_false, not_or]
  split <;> omega

section
variable {s t : State} {es : List Nat} {e m n : Nat}

theorem SameButMem.eccUe (h : SameButMem s t (eccRegs e) es m n) (a mem : Nat) (scrub : Bool) :
    SameButMem s (t.eccUe a mem scrub) (eccRegs e) es m n := by
  have counted : SameButMem s ((t.incSat aECC_DEV ECC_DEV.ue_total).fire 1895) (eccRegs e) es m n :=
    (h.set _ _ _ (by simp [eccRegs])).fireAt _ _
  unfold State.eccUe
  dsimp only
  split
  · exact counted.set _ _ _ (by simp [eccRegs])
  · exact (((counted.set _ _ _ (by simp [eccRegs])).setB _ _ _ (by simp [eccRegs])).set _ _ _ (by simp [eccRegs])).setReg _ _
      (by simp [eccRegs])

theorem SameButMem.eccFix (h : SameButMem s t (eccRegs e) es m n) (a : Nat) : SameButMem s (t.eccFix a) (eccRegs e) es m n := by
  have counted {u : State} (hu : SameButMem s u (eccRegs e) es m n) : SameButMem s u.eccCe (eccRegs e) es m n :=
    (hu.set _ _ _ (by simp [eccRegs])).fireAt _ _
  exact .ite (counted (h.upd rfl rfl rfl rfl rfl rfl)) (counted h)

theorem SameButMem.countUe (h : SameButMem s t (eccRegs e) es m n) (a : Nat) : SameButMem s (t.countUe e a) (eccRegs e) es m n :=
  (h.set _ _ _ (by simp [eccRegs])).eccUe _ _ _

theorem SameButMem.countCe (h : SameButMem s t (eccRegs e) es m n) (a : Nat) : SameButMem s (t.countCe e a) (eccRegs e) es m n :=
  .ite ((h.set _ _ _ (by simp [eccRegs])).eccFix _) h

theorem SameButMem.countCes (h : SameButMem s t (eccRegs e) es m n) (l : List Nat) :
    SameButMem s (t.countCes e l) (eccRegs e) es m n :=
  SameButMem.each l (fun u a => u.countCe e a) (fun _ a _ hu => hu.countCe a) h

/-- A killed bundle leaves at most the record of the errors in the words of its fetch, where a Skink's leaves nothing. -/
theorem State.killed_frame {pc : Nat} (quiet : isNewt e = false → s.killed e pc = s) : SameBut s (s.killed e pc) (eccRegs e) [] := by
  have fetched := (SameButMem.refl s (eccRegs e) [] 0 0).countCes (s.fetchReads e pc)
  cases hn : isNewt e with
  | false => exact (quiet hn).symm ▸ .refl ..
  | true =>
    unfold State.killed
    rw [if_pos hn]
    split
    · exact fetched.countUe _
    · exact fetched

end

/-! ### The end of a bundle -/

/-- The bank that executes is the one that bank_sel names, on a Newt: no swap is due (R152). -/
def State.BankStands (s : State) (e : Nat) : Prop :=
  isNewt e = true → s.on (aENG_STATUS e) ENG_STATUS.active_bank = s.on (aENG_CTRL e) ENG_CTRL.bank_sel

section
variable {s u : State} {rs : List Nat} {e pc next : Nat}

/-- The end of a bundle that began in `s` and has had its effects in `u`, where no bank swap and no stop is due. -/
structure State.EndsIn (s u : State) (e : Nat) (rs : List Nat) : Prop where
  kept : SameBut s u rs [e]
  status : aENG_STATUS e ∉ rs
  ctrl : aENG_CTRL e ∉ rs
  bank : s.BankStands e
  goes : (u.eng e).halting = false

theorem State.EndsIn.retire_eq (h : s.EndsIn u e rs) :
    u.retire e pc next = ((u.setEng e ((u.eng e).after next)).set (aENG_STATUS e) ENG_STATUS.waiting 0).set (aENG_STATUS e)
      ENG_STATUS.pc (pc % 65536) :=
  State.retire_eq (fun hn => by simpa [State.on, State.get, h.kept.regs _ h.status, h.kept.regs _ h.ctrl] using h.bank hn) h.goes

theorem State.EndsIn.eng_retire (h : s.EndsIn u e rs) : (u.retire e pc next).eng e = (u.eng e).after next := by
  rw [h.retire_eq, State.eng_set, State.eng_set, State.eng_setEng_self]

theorem State.EndsIn.frame (h : s.EndsIn u e rs) : SameBut s (u.retire e pc next) (aENG_STATUS e :: rs) [e] := by
  have kept : SameBut s u (aENG_STATUS e :: rs) [e] := h.kept.mono (List.subset_cons_self ..) (List.Subset.refl _)
  rw [h.retire_eq]
  exact ((kept.setEng e _ (by simp)).set _ _ _ (by simp)).set _ _ _ (by simp)

/-- The bundle has completed, and the engine goes on at `next`. -/
theorem State.EndsIn.completed (h : s.EndsIn u e rs) : Completed s (u.retire e (s.eng e).pc next) e next where
  pc := by rw [h.eng_retire]; rfl
  cur := by rw [h.eng_retire]; rfl
  got := by rw [h.eng_retire]; rfl
  wait := by rw [h.eng_retire]; rfl
  stack := by
    rw [h.retire_eq, State.get_set_other _ _ (by decide) (by decide) (by decide) (by decide),
      State.get_set_other _ _ (by decide) (by decide) (by decide) (by decide), State.get_setEng, State.get, h.kept.regs _ h.status]; rfl
  shown := by
    rw [h.retire_eq, State.get_set_self _ _ (by decide) (by decide)]
    simp [ENG_STATUS.pc, Fld.width]

theorem Completed.settle {t : State} (h : Completed s t e next) (s0 : State) : Completed s (Sys2Proof.Machine.settle s0 t) e next :=
  ⟨h.pc, h.cur, h.got, h.wait, h.stack, h.shown⟩

end

/-! ### A bundle that takes a transfer -/

/-- The call stack of engine `e` becomes what `f` makes of it: what `pushCall` and `popCall` have in common. -/
def State.onStack (u : State) (e : Nat) (f : List CallEntry → List CallEntry) : State :=
  u.setEng e { u.eng e with stack := f (u.eng e).stack }

theorem State.eng_onStack (u : State) (e : Nat) (f : List CallEntry → List CallEntry) :
    (u.onStack e f).eng e = { u.eng e with stack := f (u.eng e).stack } := u.eng_setEng_self e _

/-- What a bundle of `ws` that goes to `a`, and leaves the call stack `l`, has done. -/
structure Called (s t : State) (e : Nat) (ws : List Word) (a : Nat) (l : List CallEntry) : Prop where
  completed : Completed s t e a
  stack : (t.eng e).stack = l
  acc : (t.eng e).a = (s.eng e).a
  flags : SameFlags s t e
  frame : s.Quiet e ws → SameBut s t [aENG_STATUS e] [e]

section
variable {s : State} {e a : Nat} {ws h : List Word} {b : Bundle} {p : Put} {f : List CallEntry → List CallEntry}

/-- A bundle that evaluates to writes and a transfer to `a` kills the bundle behind it, makes its writes and goes on at `a`. -/
theorem State.Executes.transfers (he : s.Executes e ws b) (hv : s.evalBundle e b (s.eng e).got = .ok p h) (hc : p.cnd = none)
    (hm : p.more = false) (ht : p.eret = none) (hr : (s.eng e).buf.length + p.room ≤ bufCap e) (hn : p.next = some a) :
    State.go e b ws maxLoads s = (p.act (s.killed e (s.seqPc e b))).retire e (s.eng e).pc a := by
  have room : ¬ bufCap e < (s.eng e).buf.length + p.room := by omega
  simp [maxLoads, State.go, hv, State.complete, room, hc, State.commitBundle, hm, ht, he.resumePc, hn]

/-- A call or a return ends with what the killed bundle left in the registers `rs`, and with the new call stack. -/
theorem State.Executes.endsIn_onStack (he : s.Executes e ws b) {u : State} {rs : List Nat} (killed : SameBut s u rs [])
    (hs : aENG_STATUS e ∉ rs) (hc : aENG_CTRL e ∉ rs) : s.EndsIn (u.onStack e f) e rs where
  kept := (killed.mono (List.Subset.refl _) (List.nil_subset _)).setEng e _ (List.mem_singleton_self e)
  status := hs
  ctrl := hc
  bank := he.bank
  goes := by rw [State.eng_onStack, killed.engs e List.not_mem_nil]; exact he.goes

/-- A bundle that does nothing but go to `a` and change the call stack by `f`. -/
theorem State.Executes.called (he : s.Executes e ws b) (hl : b.len = ws.length)
    (hv : s.evalBundle e b (s.eng e).got = .ok { next := some a, act := fun u => u.onStack e f } h)
    (quiet : isNewt e = false → s.Quiet e ws) :
    Called s (settle s (State.go e b ws maxLoads s)) e ws a (f (s.eng e).stack) := by
  have seq : s.seqPc e b = ((s.eng e).pc + 4 * ws.length) % 2 ^ 32 := by rw [State.seqPc, hl]
  have killed := State.killed_frame quiet
  have ends := he.endsIn_onStack (f := f) killed (ctl_notMem_eccRegs (by decide) (by decide)) (ctl_notMem_eccRegs (by decide) (by decide))
  have after := (settle_eng_at s _ e).trans (ends.eng_retire (pc := (s.eng e).pc) (next := a))
  rw [State.eng_onStack, killed.engs e List.not_mem_nil] at after
  have other : aENG_S e ∉ aENG_STATUS e :: eccRegs e :=
    List.not_mem_cons_of_ne_of_not_mem (by simp [aENG_S, aENG_STATUS]) (ctl_notMem_eccRegs (by decide) (by decide))
  rw [he.transfers hv rfl rfl rfl he.buf rfl, seq]
  refine ⟨ends.completed.settle s, congrArg Engine.stack after, (congrArg Engine.a after :), ends.frame.regs _ other, fun hq => ?_⟩
  have silent : SameBut s (s.killed e (((s.eng e).pc + 4 * ws.length) % 2 ^ 32)) [] [] := Eq.symm hq ▸ .refl ..
  exact (he.endsIn_onStack silent List.not_mem_nil List.not_mem_nil).frame.settle s

end

end Sys2Proof.Machine
end

section
/-!
SUPPORT. The entry of a vector that a bundle's exception takes (R248 to R254), while a context bank is free and no bank swap is due:
the state in which the entry word is at hand, the stacked context, the record of the exception, and the handler's start.
-/

namespace Sys2Proof.Machine

/-! ### The state in which the entry word is at hand -/

/-- Two states of an engine agree in what a context holds, in the call stack, and in whether a stop is due. -/
structure Engine.Alike (p q : Engine) : Prop where
  a : p.a = q.a
  e : p.e = q.e
  x : p.x = q.x
  y : p.y = q.y
  pc : p.pc = q.pc
  ts : p.ts = q.ts
  td : p.td = q.td
  tc : p.tc = q.tc
  stack : p.stack = q.stack
  halting : p.halting = q.halting

/-- `t` differs from `s` in what engine `e` gives up and in what a read of a vector's entry word leaves. -/
structure AtEntry (s t : State) (e : Nat) : Prop where
  live : Engine.Alike (t.eng e) (s.eng e)
  status : ∀ f : Fld, f.lo ≤ f.hi → f.hi < 30 → t.get (aENG_STATUS e) f = s.get (aENG_STATUS e) f
  frame : SameBut s t [aENG_STATUS e] [e]

theorem ctl_notMem_status {e k : Nat} (h : k ≠ 4) : engBase e + k ∉ [aENG_STATUS e] := by
  simp only [aENG_STATUS, List.mem_singleton]; omega

section
variable {s t : State} {e v : Nat}

theorem AtEntry.refl (s : State) (e : Nat) : AtEntry s s e :=
  ⟨⟨rfl, rfl, rfl, rfl, rfl, rfl, rfl, rfl, rfl, rfl⟩, fun _ _ _ => rfl, .refl ..⟩

theorem State.eng_settleEng (s : State) (e : Nat) : (s.settleEng e).eng e =
    { s.eng e with wait := .none, cur := [], got := [], seen := [], resumePc := none, reply := .none, part := [] } :=
  State.eng_setEng_self _ e _

theorem State.settleEng_atEntry (s : State) (e : Nat) : AtEntry s (s.settleEng e) e where
  live := by rw [State.eng_settleEng]; exact ⟨rfl, rfl, rfl, rfl, rfl, rfl, rfl, rfl, rfl, rfl⟩
  status f hf h30 := State.get_set_other ((s.dropQput e).giveUp e) 0 (f := ENG_STATUS.waiting) (by decide) (by decide) hf (.inr h30)
  frame :=
    have gave : SameBut s ((s.dropQput e).giveUp e) [aENG_STATUS e] [e] := (SameButMem.refl s _ _ 0 0).upd rfl rfl rfl rfl rfl rfl
    (gave.set _ _ _ (by simp)).setEng e _ (by simp)

theorem State.giveWay_atEntry (s : State) (e : Nat) : AtEntry s (s.giveWay e) e := by
  unfold State.giveWay
  split
  · exact .refl s e
  · exact s.settleEng_atEntry e

theorem AtEntry.touch (h : AtEntry s t e) (a : Nat) : AtEntry s (t.touch e false a) e := by
  unfold State.touch
  dsimp only
  split
  · refine ⟨?_, fun f hf h30 => h.status f hf h30, h.frame.setEng e _ (by simp)⟩
    rw [State.eng_setEng_self]
    exact { h.live with }
  · exact h

theorem State.Enterable.atEntry (h : s.Enterable e v) : AtEntry s ((s.giveWay e).readVec e v).1 e := by
  rcases h.still with same | used
  · rw [same]
    exact s.giveWay_atEntry e
  · rw [used]
    exact (s.giveWay_atEntry e).touch _

theorem AtEntry.ring (h : AtEntry s t e) : t.ring e = s.ring e :=
  congrArg (getBits · ENG_S.ring) (h.frame.regs (aENG_S e) (ctl_notMem_status (by decide)))

theorem AtEntry.context (h : AtEntry s t e) : t.context e = s.context e := by
  have reg {k : Nat} (hk : k ≠ 4) : t.reg (engBase e + k) = s.reg (engBase e + k) := h.frame.regs _ (ctl_notMem_status hk)
  simp only [State.context, h.ring, h.live.a, h.live.e, h.live.x, h.live.y, h.live.pc, h.live.ts, h.live.td, h.live.tc, aENG_S, aLC0, aLC1,
    reg (show 8 ≠ 4 by decide), reg (show 0x30 ≠ 4 by decide), reg (show 0x34 ≠ 4 by decide)]

/-- With a free context bank the vector is entered at once. -/
theorem State.Enterable.takeVec_eq (h : s.Enterable e v) (iel : Option Nat) (x : Exc) :
    s.takeVec e v iel x none = ((s.giveWay e).readVec e v).1.enterVec e v iel x none (s.vecWord e v) := by
  have used : (s.giveWay e).get (aENG_STATUS e) ENG_STATUS.ctx_used < 4 :=
    ((s.giveWay_atEntry e).status _ (by decide) (by decide)).trans_lt h.level
  have room : (s.giveWay e).frameRoom e = true := by simp [State.frameRoom, used]
  have read : (s.giveWay e).readVec e v = (((s.giveWay e).readVec e v).1, .word (s.vecWord e v)) := Prod.ext rfl h.entry
  unfold State.takeVec
  simp only [room, Bool.not_true, Bool.false_eq_true, if_false]
  rw [read]; rfl

end

/-! ### The stacked context -/

section
variable {s t : State} {rs es : List Nat} {e b m n : Nat}

theorem SameButMem.putCtx (h : SameButMem s t rs es m n) (i : Nat) (ws : List Word) (hr : ∀ j, j < ws.length → aCTX e b (i + j) ∈ rs) :
    SameButMem s (t.putCtx e b i ws) rs es m n := by
  induction ws generalizing t i with
  | nil => exact h
  | cons w ws ih =>
    have put : SameButMem s ((t.keepErrs (fun x => x != aCTX e b i)).setReg (aCTX e b i) w) rs es m n :=
      (h.upd (u := t.keepErrs (fun x => x != aCTX e b i)) rfl rfl rfl rfl rfl rfl).setReg _ w (hr 0 (by simp))
    refine ih put (i + 1) (fun j hj => ?_)
    rw [show i + 1 + j = i + (j + 1) by omega]
    exact hr (j + 1) (by simpa using hj)

/-- Word `i + j` of a context bank holds word `j` of what goes there from word `i` on. -/
theorem State.reg_putCtx (t : State) (i : Nat) (ws : List Word) (j : Nat) (hj : j < ws.length) :
    (t.putCtx e b i ws).reg (aCTX e b (i + j)) = ws.getD j 0 := by
  induction ws generalizing t i j with
  | nil => simp at hj
  | cons w ws ih =>
    cases j with
    | zero =>
      have later := SameButMem.putCtx (SameButMem.refl ((t.keepErrs (fun x => x != aCTX e b i)).setReg (aCTX e b i) w)
        ((List.range ws.length).map (fun j => aCTX e b (i + 1 + j))) [] 0 0) (i + 1) ws
        (fun j hj => List.mem_map.2 ⟨j, List.mem_range.2 hj, rfl⟩)
      have other : aCTX e b (i + 0) ∉ (List.range ws.length).map (fun j => aCTX e b (i + 1 + j)) := by
        simp only [List.mem_map, aCTX, not_exists, not_and]; omega
      exact (later.regs _ other).trans (State.reg_setReg_self _ _ _)
    | succ j =>
      rw [show i + (j + 1) = i + 1 + j by omega]
      exact ih _ (i + 1) j (by simpa using hj)

end

/-- The registers of context bank `b`. -/
def ctxRegs (e b : Nat) : List Nat := (List.range 12).map (aCTX e b)

theorem aCTX_eq (e b i : Nat) : aCTX e b i = engBase e + (0x400 + b * 0x40 + i * 4) := by
  unfold aCTX; omega

theorem ctl_notMem_ctxRegs {e b k : Nat} (h : k < 0x400) : engBase e + k ∉ ctxRegs e b := by
  simp only [ctxRegs, aCTX, List.mem_map, not_exists, not_and]; omega

/-- How many context banks are in use: the number of the bank that the next context goes to. -/
abbrev State.ctxUsed (s : State) (e : Nat) : Nat := s.get (aENG_STATUS e) ENG_STATUS.ctx_used

/-- The context of engine `e` is in bank `b`, the newest. -/
def State.stacked (t : State) (e b : Nat) : State :=
  (t.putCtx e b 0 (t.context e)).set (aENG_STATUS e) ENG_STATUS.ctx_used (b + 1)

section
variable {s t : State} {rs es : List Nat} {e b m n : Nat}

theorem SameButMem.putContext (h : SameButMem s t rs es m n) (hr : ctxRegs e b ⊆ rs) :
    SameButMem s (t.putCtx e b 0 (t.context e)) rs es m n := by
  refine h.putCtx 0 _ (fun j hj => hr ?_)
  rw [Nat.zero_add]
  exact List.mem_map_of_mem (List.mem_range.2 hj)

theorem SameButMem.stacked (h : SameButMem s t rs es m n) (hs : aENG_STATUS e ∈ rs) (hr : ctxRegs e b ⊆ rs) :
    SameButMem s (t.stacked e b) rs es m n :=
  (h.putContext hr).set _ _ _ hs

theorem State.reg_stacked_ctx {i : Nat} (hi : i < 12) : (t.stacked e b).reg (aCTX e b i) = (t.context e).getD i 0 := by
  rw [State.stacked, State.reg_set_ne _ _ _ (by simp only [aCTX, aENG_STATUS]; omega)]
  simpa using State.reg_putCtx (e := e) (b := b) t 0 (t.context e) i hi

theorem State.ctxUsed_stacked (hb : b < 4) : (t.stacked e b).ctxUsed e = b + 1 :=
  (State.get_set_self _ _ (by decide) (by decide)).trans (Nat.mod_eq_of_lt (by simp only [ENG_STATUS.ctx_used, Fld.width]; omega))

theorem State.stackCtx_eq (hu : t.ctxUsed e = b) (hb : b < 4) : t.stackCtx e = some (t.stacked e b) := by
  subst hu
  exact if_pos hb

end

/-! ### The record of the exception -/

section
variable {s t : State} {rs es : List Nat} {e v ring k m n : Nat} {x : Exc}

/-- EXC_INFO names the exception `v` of slot `k`, raised in ring `ring`. -/
structure Recorded (t : State) (e v ring k : Nat) : Prop where
  valid : t.on (aEXC_INFO e) EXC_INFO.valid = true
  vector : t.get (aEXC_INFO e) EXC_INFO.vector = v
  from_ : t.get (aEXC_INFO e) EXC_INFO.from_ring = ring
  slot : t.on (aEXC_INFO e) EXC_INFO.slot_valid = true ∧ t.get (aEXC_INFO e) EXC_INFO.slot = k

theorem Recorded.of_reg {u : State} (h : Recorded t e v ring k) (same : u.reg (aEXC_INFO e) = t.reg (aEXC_INFO e)) :
    Recorded u e v ring k := by
  have get (f : Fld) : u.get (aEXC_INFO e) f = t.get (aEXC_INFO e) f := congrArg (getBits · f) same
  have on (f : Fld) : u.on (aEXC_INFO e) f = t.on (aEXC_INFO e) f := congrArg (· != 0) (get f)
  exact ⟨(on _).trans h.valid, (get _).trans h.vector, (get _).trans h.from_, (on _).trans h.slot.1, (get _).trans h.slot.2⟩

/-- EXC_INFO at the entry of a vector. -/
def State.excInfo (s : State) (e v ring : Nat) (x : Exc) : State :=
  (((((s.set (aEXC_INFO e) EXC_INFO.valid 1).setB (aEXC_INFO e) EXC_INFO.async (v == 10 || v == 13 || v == 17)).set (aEXC_INFO e)
    EXC_INFO.from_ring ring).setB (aEXC_INFO e) EXC_INFO.slot_valid x.slot.isSome).set (aEXC_INFO e) EXC_INFO.slot
    (x.slot.getD 0)).set (aEXC_INFO e) EXC_INFO.vector v

/-- The record of a vector is nothing, EXC_INFO, or EXC_INFO and EXC_ADDR. -/
theorem State.excRecord_cases (t : State) (e v ring : Nat) (x : Exc) :
    (v = 0 ∨ 18 < v) ∧ t.excRecord e v ring x = t ∨
      ∃ u : State, u = t.excInfo e v ring x ∧ (t.excRecord e v ring x = u ∨
        ∃ w, t.excRecord e v ring x = u.setReg (aEXC_ADDR e) w ∨
          t.excRecord e v ring x = { u with fresh := u.fresh + 1 }.setReg (aEXC_ADDR e) w) := by
  by_cases out : v = 0 ∨ 18 < v
  · exact .inl ⟨out, if_pos out⟩
  refine .inr ⟨_, rfl, ?_⟩
  have recorded : t.excRecord e v ring x = if !hasExcAddr v then t.excInfo e v ring x else match x.addr with
      | some w => (t.excInfo e v ring x).setReg (aEXC_ADDR e) (BitVec.ofNat 32 w)
      | none => (t.excInfo e v ring x).freeWord.2.setReg (aEXC_ADDR e) (t.excInfo e v ring x).freeWord.1 := if_neg out
  rw [recorded]
  split
  · exact .inl rfl
  · split
    · exact .inr ⟨_, .inl rfl⟩
    · exact .inr ⟨_, .inr rfl⟩

theorem SameButMem.excInfo (h : SameButMem s t rs es m n) (hi : aEXC_INFO e ∈ rs) :
    SameButMem s (t.excInfo e v ring x) rs es m n :=
  (((((h.set _ _ _ hi).setB _ _ _ hi).set _ _ _ hi).setB _ _ _ hi).set _ _ _ hi).set _ _ _ hi

theorem SameButMem.excRecord (h : SameButMem s t rs es m n) (hi : aEXC_INFO e ∈ rs) (ha : aEXC_ADDR e ∈ rs) :
    SameButMem s (t.excRecord e v ring x) rs es m n := by
  obtain ⟨-, none⟩ | ⟨u, hu, info | ⟨w, named | free⟩⟩ := t.excRecord_cases e v ring x
  · rw [none]
    exact h
  all_goals have recorded : SameButMem s u rs es m n := hu ▸ h.excInfo hi
  · rw [info]
    exact recorded
  · rw [named]
    exact recorded.setReg _ w ha
  · rw [free]
    exact (recorded.upd (u := { u with fresh := u.fresh + 1 }) rfl rfl rfl rfl rfl rfl).setReg _ w ha

theorem State.reg_updFresh (s : State) (n a : Nat) : ({ s with fresh := n } : State).reg a = s.reg a := rfl

theorem State.get_excInfo (t : State) (e v ring : Nat) (x : Exc) :
    (t.excInfo e v ring x).get (aEXC_INFO e) EXC_INFO.valid = 1 ∧
    (t.excInfo e v ring x).get (aEXC_INFO e) EXC_INFO.vector = v % 64 ∧
    (t.excInfo e v ring x).get (aEXC_INFO e) EXC_INFO.from_ring = ring % 4 ∧
    (t.excInfo e v ring x).get (aEXC_INFO e) EXC_INFO.slot_valid = x.slot.isSome.toNat ∧
    (t.excInfo e v ring x).get (aEXC_INFO e) EXC_INFO.slot = x.slot.getD 0 % 4 := by
  simp (disch := decide) only [State.excInfo, State.setB, State.get_set_other, State.get_set_self]
  exact ⟨rfl, rfl, rfl, Nat.mod_eq_of_lt (Bool.toNat_lt _), rfl⟩

theorem State.excInfo_recorded (t : State) (hv : v ≤ 18) (hr : ring < 4) (hx : x.slot = some k) (hk : k < 4) :
    Recorded (t.excInfo e v ring x) e v ring k := by
  obtain ⟨valid, vector, from_, slot_valid, slot⟩ := t.get_excInfo e v ring x
  rw [hx] at slot_valid slot
  exact ⟨by rw [State.on, valid]; rfl, vector.trans (Nat.mod_eq_of_lt (by omega)), from_.trans (Nat.mod_eq_of_lt hr),
    by rw [State.on, slot_valid]; rfl, slot.trans (Nat.mod_eq_of_lt hk)⟩

theorem State.excRecord_recorded (t : State) (hv : 1 ≤ v ∧ v ≤ 18) (hr : ring < 4) (hx : x.slot = some k) (hk : k < 4) :
    Recorded (t.excRecord e v ring x) e v ring k := by
  have info := t.excInfo_recorded (e := e) hv.2 hr hx hk
  have other : aEXC_INFO e ≠ aEXC_ADDR e := by simp [aEXC_INFO, aEXC_ADDR]
  obtain ⟨out, -⟩ | ⟨u, rfl, same | ⟨w, named | free⟩⟩ := t.excRecord_cases e v ring x
  · omega
  · exact info.of_reg (by rw [same])
  · exact info.of_reg (by rw [named, State.reg_setReg_ne _ _ other])
  · exact info.of_reg (by rw [free, State.reg_setReg_ne _ _ other, State.reg_updFresh])

end

/-! ### The handler's start -/

section
variable {s t : State} {e v ring pc : Nat} {iel : Option Nat}

/-- S as the handler begins with it: its ring, its level if it has one, and no block move to resume (R251). -/
def State.handlerS (t : State) (e ring : Nat) : Option Nat → State
  | some p => ((t.set (aENG_S e) ENG_S.ring ring).set (aENG_S e) ENG_S.iel p).set (aENG_S e) ENG_S.resume 0
  | none => (t.set (aENG_S e) ENG_S.ring ring).set (aENG_S e) ENG_S.resume 0

theorem State.get_handlerS_ring (hr : ring < 4) : (t.handlerS e ring iel).get (aENG_S e) ENG_S.ring = ring := by
  have fits : ring % 2 ^ ENG_S.ring.width = ring := Nat.mod_eq_of_lt hr
  cases iel <;> simp (disch := decide) only [State.handlerS, State.get_set_other, State.get_set_self, fits]

theorem State.get_handlerS_iel (hp : ∀ p, iel = some p → p < 16) :
    (t.handlerS e ring iel).get (aENG_S e) ENG_S.iel = iel.getD (t.get (aENG_S e) ENG_S.iel) := by
  cases iel with
  | none => simp (disch := decide) only [State.handlerS, State.get_set_other, Option.getD_none]
  | some p =>
    have fits : p % 2 ^ ENG_S.iel.width = p := Nat.mod_eq_of_lt (hp p rfl)
    simp (disch := decide) only [State.handlerS, State.get_set_other, State.get_set_self, fits, Option.getD_some]

theorem State.get_handlerS_resume : (t.handlerS e ring iel).get (aENG_S e) ENG_S.resume = 0 := by
  cases iel <;> exact State.get_set_self _ 0 (by decide) (by decide)

/-- The flags, ct, the rounding mode and the trap enables stay. -/
theorem State.get_handlerS_other {f : Fld} (hf : f.lo ≤ f.hi) (h : f.hi < 24 ∨ f.lo = 30 ∧ f.hi = 30) :
    (t.handlerS e ring iel).get (aENG_S e) f = t.get (aENG_S e) f := by
  have resume : ENG_S.resume.hi < f.lo ∨ f.hi < ENG_S.resume.lo := by simp only [ENG_S.resume]; omega
  have level : ENG_S.iel.hi < f.lo ∨ f.hi < ENG_S.iel.lo := by simp only [ENG_S.iel]; omega
  have ringed : ENG_S.ring.hi < f.lo ∨ f.hi < ENG_S.ring.lo := by simp only [ENG_S.ring]; omega
  cases iel with
  | none =>
    exact (State.get_set_other _ _ (by decide) (by decide) hf resume).trans (State.get_set_other _ _ (by decide) (by decide) hf ringed)
  | some p =>
    exact (State.get_set_other _ _ (by decide) (by decide) hf resume).trans
      ((State.get_set_other _ _ (by decide) (by decide) hf level).trans (State.get_set_other _ _ (by decide) (by decide) hf ringed))

theorem State.reg_handlerS_congr {u : State} (h : u.reg (aENG_S e) = t.reg (aENG_S e)) :
    (u.handlerS e ring iel).reg (aENG_S e) = (t.handlerS e ring iel).reg (aENG_S e) := by
  cases iel <;> simp only [State.handlerS, State.reg_set_self, h]

theorem SameButMem.handlerS {rs es : List Nat} {m n : Nat} (h : SameButMem s t rs es m n) (hs : aENG_S e ∈ rs) :
    SameButMem s (t.handlerS e ring iel) rs es m n := by
  cases iel with
  | none => exact (h.set _ _ _ hs).set _ _ _ hs
  | some p => exact ((h.set _ _ _ hs).set _ _ _ hs).set _ _ _ hs

/-- The registers of an engine that the start of a handler writes. -/
def startRegs (e : Nat) : List Nat := [aENG_S e, aENG_STATUS e, aLC0 e, aLC1 e]

theorem ctl_notMem_startRegs {e c : Nat} (hc : c ≠ 4 ∧ c ≠ 8 ∧ c ≠ 0x30 ∧ c ≠ 0x34) : engBase e + c ∉ startRegs e := by
  simp only [startRegs, aENG_S, aENG_STATUS, aLC0, aLC1, List.mem_cons, List.not_mem_nil, or_false, not_or]; omega

/-- The engine when the handler of vector `v` starts at `pc`. -/
def Engine.started (x : Engine) (v pc : Nat) : Engine :=
  { x with pc := pc, rsv := none, first := some v, skip := [], wait := .none, cur := [], got := [], seen := [], resumePc := none,
           reply := .none, part := [] }

/-- An engine starts the handler of vector `v` in ring `ring` at `pc`, where no bank swap is due (R251). -/
structure Starts (t u : State) (e v ring : Nat) (iel : Option Nat) (pc : Nat) : Prop where
  eng : u.eng e = (t.eng e).started v pc
  s : u.reg (aENG_S e) = (t.handlerS e ring iel).reg (aENG_S e)
  counts : u.reg (aLC0 e) = 0 ∧ u.reg (aLC1 e) = 0
  status : ∀ f : Fld, f.lo ≤ f.hi → f.hi < 30 → u.get (aENG_STATUS e) f = t.get (aENG_STATUS e) f
  rsv : ∀ r ∈ u.rsv.held, r.eng ≠ e
  frame : SameBut t u (startRegs e) [e]

/-- Everything of the start but the engine's own state. -/
def State.handlerRegs (t : State) (e ring : Nat) (iel : Option Nat) : State :=
  ((((t.settleEng e).releaseRsv e).handlerS e ring iel).setReg (aLC0 e) 0).setReg (aLC1 e) 0

theorem State.handlerRegs_frame (t : State) (e ring : Nat) (iel : Option Nat) :
    SameBut ((t.settleEng e).releaseRsv e) (t.handlerRegs e ring iel) [aENG_S e, aLC0 e, aLC1 e] [] :=
  (((SameButMem.refl _ _ _ _ _).handlerS (by simp)).setReg _ 0 (by simp)).setReg _ 0 (by simp)

/-- No register of the engine outside S and the loop counts changes after the engine has given its bundle up. -/
theorem State.reg_handlerRegs {k : Nat} (hk : k ≠ 8 ∧ k ≠ 0x30 ∧ k ≠ 0x34) :
    (t.handlerRegs e ring iel).reg (engBase e + k) = (t.settleEng e).reg (engBase e + k) :=
  (t.handlerRegs_frame e ring iel).regs _ (by simp only [aENG_S, aLC0, aLC1, List.mem_cons, List.not_mem_nil, or_false, not_or]; omega)

theorem State.get_handlerRegs_status {f : Fld} (hf : f.lo ≤ f.hi) (h30 : f.hi < 30) :
    (t.handlerRegs e ring iel).get (aENG_STATUS e) f = t.get (aENG_STATUS e) f :=
  (congrArg (getBits · f) (State.reg_handlerRegs (k := 4) (by decide))).trans ((t.settleEng_atEntry e).status f hf h30)

theorem State.enterAt_eq (bank : t.BankStands e) :
    t.enterAt e v ring iel pc = (t.handlerRegs e ring iel).setEng e ((t.eng e).started v pc) := by
  have run : t.enterAt e v ring iel pc = ((t.handlerRegs e ring iel).setEng e
      { (t.handlerRegs e ring iel).eng e with pc := pc, rsv := none, first := some v, skip := [] }).bankBoundary e := by
    cases iel <;> rfl
  have eng : (t.handlerRegs e ring iel).eng e = (t.settleEng e).eng e := (t.handlerRegs_frame e ring iel).engs e List.not_mem_nil
  have active : (t.handlerRegs e ring iel).on (aENG_STATUS e) ENG_STATUS.active_bank = t.on (aENG_STATUS e) ENG_STATUS.active_bank :=
    congrArg (· != 0) (State.get_handlerRegs_status (by decide) (by decide))
  have ctrl : (t.handlerRegs e ring iel).on (aENG_CTRL e) ENG_CTRL.bank_sel = t.on (aENG_CTRL e) ENG_CTRL.bank_sel :=
    congrArg (getBits · ENG_CTRL.bank_sel != 0) ((State.reg_handlerRegs (k := 0) (by decide)).trans
      ((t.settleEng_atEntry e).frame.regs _ (ctl_notMem_status (by decide))))
  rw [run, State.bankBoundary_eq _ (fun hn => by rw [State.on_setEng, State.on_setEng, active, ctrl]; exact bank hn), eng,
    State.eng_settleEng]
  rfl

theorem State.enterAt_starts (bank : t.BankStands e) : Starts t (t.enterAt e v ring iel pc) e v ring iel pc := by
  rw [State.enterAt_eq bank]
  have settled := (t.settleEng_atEntry e).frame
  have released : SameBut t ((t.settleEng e).releaseRsv e) (startRegs e) [e] :=
    (settled.upd (u := (t.settleEng e).releaseRsv e) rfl rfl rfl rfl rfl rfl).mono (by simp [startRegs]) (List.Subset.refl _)
  constructor
  case eng => exact State.eng_setEng_self _ e _
  case s =>
    have written : (t.handlerRegs e ring iel).reg (aENG_S e) = (((t.settleEng e).releaseRsv e).handlerS e ring iel).reg (aENG_S e) := by
      rw [State.handlerRegs, State.reg_setReg_ne _ _ (by simp [aENG_S, aLC1]), State.reg_setReg_ne _ _ (by simp [aENG_S, aLC0])]
    exact (State.reg_setEng _ _ _ _).trans (written.trans (State.reg_handlerS_congr (settled.regs (aENG_S e) (ctl_notMem_status (by decide)))))
  case counts =>
    exact ⟨(State.reg_setReg_ne _ _ (by simp [aLC0, aLC1])).trans (State.reg_setReg_self _ _ _), State.reg_setReg_self _ _ _⟩
  case status => exact fun f hf h30 => (State.get_setEng _ _ _ _ f).trans (State.get_handlerRegs_status hf h30)
  case rsv =>
    have kept : (t.handlerRegs e ring iel).rsv = ((t.settleEng e).releaseRsv e).rsv := by cases iel <;> rfl
    intro r hr
    rw [State.setEng_rsv, kept] at hr
    simpa using (List.mem_filter.1 hr).2
  case frame =>
    exact (((released.handlerS (by simp [startRegs])).setReg _ 0 (by simp [startRegs])).setReg _ 0 (by simp [startRegs])).setEng e _
      (by simp)

end

/-! ### The entry -/

section
variable {s t : State} {e v k : Nat} {iel : Option Nat} {x : Exc} {w : Word}

/-- The context of engine `e` is stacked in bank `b`, and the entry of vector `v` is recorded. -/
def State.entryRecorded (t : State) (e v b : Nat) (x : Exc) : State := (t.stacked e b).excRecord e v (t.ring e) x

theorem State.entryRecorded_frame (t : State) (e v b : Nat) (x : Exc) :
    SameBut t (t.entryRecorded e v b x) (aENG_STATUS e :: ctxRegs e b ++ excRegs e) [] :=
  SameButMem.excRecord ((SameButMem.refl t _ _ 0 0).stacked (by simp) (by simp)) (by simp [excRegs]) (by simp [excRegs])

theorem ctl_notMem_excRegs {c : Nat} (hc : c ≠ 0x314 ∧ c ≠ 0x318) : engBase e + c ∉ excRegs e := by
  simp only [excRegs, aEXC_INFO, aEXC_ADDR, List.mem_cons, List.not_mem_nil, or_false, not_or]; omega

theorem State.reg_entryRecorded {b c : Nat} (hc : c < 0x400 ∧ c ≠ 4 ∧ c ≠ 0x314 ∧ c ≠ 0x318) :
    (t.entryRecorded e v b x).reg (engBase e + c) = t.reg (engBase e + c) := by
  refine (t.entryRecorded_frame e v b x).regs _ (fun hm => ?_)
  rcases List.mem_append.1 hm with hm | hm
  · rcases List.mem_cons.1 hm with hm | hm
    · exact ctl_notMem_status hc.2.1 (List.mem_singleton.2 hm)
    · exact ctl_notMem_ctxRegs hc.1 hm
  · exact ctl_notMem_excRegs hc.2.2 hm

/-- What the record of an exception leaves of the stacked state. -/
theorem State.entryRecorded_stacked (t : State) (e v b : Nat) (x : Exc) :
    SameBut (t.stacked e b) (t.entryRecorded e v b x) (excRegs e) [] :=
  SameButMem.excRecord (.refl ..) (by simp [excRegs]) (by simp [excRegs])

theorem State.ctxUsed_entryRecorded {b : Nat} (hb : b < 4) :
    (t.entryRecorded e v b x).ctxUsed e = b + 1 :=
  (congrArg (getBits · ENG_STATUS.ctx_used) ((t.entryRecorded_stacked e v b x).regs _ (ctl_notMem_excRegs (c := 4) (by decide)))).trans
    (State.ctxUsed_stacked hb)

theorem State.get_entryRecorded_active_bank {b : Nat} :
    (t.entryRecorded e v b x).get (aENG_STATUS e) ENG_STATUS.active_bank = t.get (aENG_STATUS e) ENG_STATUS.active_bank := by
  have ctx : SameBut t (t.putCtx e b 0 (t.context e)) (ctxRegs e b) [] := (SameButMem.refl ..).putContext (List.Subset.refl _)
  calc (t.entryRecorded e v b x).get (aENG_STATUS e) ENG_STATUS.active_bank
      = (t.stacked e b).get (aENG_STATUS e) ENG_STATUS.active_bank :=
        congrArg (getBits · ENG_STATUS.active_bank)
          ((t.entryRecorded_stacked e v b x).regs _ (ctl_notMem_excRegs (c := 4) (by decide)))
    _ = (t.putCtx e b 0 (t.context e)).get (aENG_STATUS e) ENG_STATUS.active_bank :=
        State.get_set_other _ _ (by decide) (by decide) (by decide) (by decide)
    _ = t.get (aENG_STATUS e) ENG_STATUS.active_bank :=
        congrArg (getBits · ENG_STATUS.active_bank) (ctx.regs _ (ctl_notMem_ctxRegs (by decide)))

theorem AtEntry.bankStands (h : AtEntry s t e) (bank : s.BankStands e) (b : Nat) : (t.entryRecorded e v b x).BankStands e := by
  intro hn
  have active : (t.entryRecorded e v b x).on (aENG_STATUS e) ENG_STATUS.active_bank = s.on (aENG_STATUS e) ENG_STATUS.active_bank :=
    congrArg (· != 0) (State.get_entryRecorded_active_bank.trans (h.status _ (by decide) (by decide)))
  have sel : (t.entryRecorded e v b x).on (aENG_CTRL e) ENG_CTRL.bank_sel = s.on (aENG_CTRL e) ENG_CTRL.bank_sel :=
    congrArg (getBits · ENG_CTRL.bank_sel != 0)
      ((State.reg_entryRecorded (c := 0) (by decide)).trans (h.frame.regs _ (ctl_notMem_status (by decide))))
  rw [active, sel]
  exact bank hn

/-- Where nothing raises a flag, no interrupt is taken, and no stop is due, the entry is the start of the handler. -/
theorem AtEntry.enterVec_eq (h : AtEntry s t e) (bank : s.BankStands e) (goes : (s.eng e).halting = false)
    (level : s.ctxUsed e < 4) (hx : x.raised = none) :
    t.enterVec e v iel x none w =
      (t.entryRecorded e v (s.ctxUsed e) x).enterAt e v (vecRing v w) iel (vecPc w) := by
  have used : t.ctxUsed e = s.ctxUsed e :=
    h.status _ (by decide) (by decide)
  have starts := State.enterAt_starts (v := v) (ring := vecRing v w) (pc := vecPc w) (iel := iel)
    (h.bankStands (v := v) (x := x) bank (s.ctxUsed e))
  have go : (((t.entryRecorded e v (s.ctxUsed e) x).enterAt e v (vecRing v w) iel
      (vecPc w)).eng e).halting = false := by
    rw [starts.eng]
    exact (congrArg Engine.halting ((t.entryRecorded_frame e v _ x).engs e List.not_mem_nil)).trans (h.live.halting.trans goes)
  unfold State.enterVec
  rw [State.stackCtx_eq used level]
  simp only [hx]
  exact if_neg (by rw [Bool.not_eq_true]; exact go)

theorem Entered.settle {u : State} {rs : List Nat} (h : Entered s u e v iel rs) (s0 : State) :
    Entered s (Sys2Proof.Machine.settle s0 u) e v iel rs :=
  ⟨h.context, h.used, h.ring, h.iel, h.resume, h.rest, h.counts, h.rsv, h.pc, h.bank, h.goes, h.regs, h.stack, h.frame.settle s0⟩

theorem vecRing_lt (v : Nat) (w : Word) : vecRing v w < 4 := by
  unfold vecRing
  dsimp only
  split_ifs <;> omega

/-- The registers that an entry writes, with those of `rs`. -/
def State.entryRegs (s : State) (e : Nat) (rs : List Nat) : List Nat :=
  startRegs e ++ ctxRegs e (s.ctxUsed e) ++
    (if s.on (aENG_STATUS e) ENG_STATUS.active_bank = s.on (aENG_CTRL e) ENG_CTRL.bank_sel then [] else [aMODE]) ++ rs

theorem State.subset_entryRegs {l rs : List Nat}
    (hl : ∀ a ∈ l, a ∈ startRegs e ∨ a ∈ ctxRegs e (s.ctxUsed e) ∨ a ∈ rs) : l ⊆ s.entryRegs e rs := by
  intro a ha
  simp only [State.entryRegs, List.mem_append]
  rcases hl a ha with h | h | h
  · exact .inl (.inl (.inl h))
  · exact .inl (.inl (.inr h))
  · exact .inr h

/-- What an entry changes: the context bank, the registers of the start, and the record of the exception. -/
theorem AtEntry.entry_frame {u : State} {ring pc : Nat} (h : AtEntry s t e)
    (starts : Starts (t.entryRecorded e v (s.ctxUsed e) x) u e v ring iel pc) :
    SameBut s u (s.entryRegs e (excRegs e)) [e] := by
  have read := h.frame.mono (rs' := s.entryRegs e (excRegs e)) (State.subset_entryRegs (by simp [startRegs])) (List.Subset.refl _)
  have recorded := (t.entryRecorded_frame e v (s.ctxUsed e) x).mono (rs' := s.entryRegs e (excRegs e))
    (State.subset_entryRegs (fun a ha => by
      simp only [startRegs, List.mem_append, List.mem_cons] at ha ⊢
      tauto)) (List.nil_subset [e])
  exact (read.trans recorded).trans (starts.frame.mono (State.subset_entryRegs (fun a ha => .inl ha)) (List.Subset.refl _))

/-- The start of the handler of vector `v`, after the context is stacked and the entry is recorded, is an entry of that vector. -/
theorem AtEntry.entered {u : State} (h : AtEntry s t e) (level : s.ctxUsed e < 4) (bank : s.BankStands e)
    (hp : ∀ p, iel = some p → p < 16)
    (starts : Starts (t.entryRecorded e v (s.ctxUsed e) x) u e v (vecRing v (s.vecWord e v)) iel
      (vecPc (s.vecWord e v))) :
    Entered s u e v iel (excRegs e) := by
  have engine : u.eng e = (t.eng e).started v (vecPc (s.vecWord e v)) := by
    rw [starts.eng, (t.entryRecorded_frame e v _ x).engs e List.not_mem_nil]
  have flags (f : Fld) : (t.entryRecorded e v (s.ctxUsed e) x).get (aENG_S e) f = s.get (aENG_S e) f :=
    congrArg (getBits · f) ((State.reg_entryRecorded (c := 8) (by decide)).trans (h.frame.regs _ (ctl_notMem_status (by decide))))
  have start (f : Fld) : u.get (aENG_S e) f =
      ((t.entryRecorded e v (s.ctxUsed e) x).handlerS e (vecRing v (s.vecWord e v)) iel).get (aENG_S e) f :=
    congrArg (getBits · f) starts.s
  constructor
  case context =>
    intro i hi
    rw [← h.context, ← State.reg_stacked_ctx hi, aCTX_eq]
    exact (starts.frame.regs _ (ctl_notMem_startRegs (by omega))).trans
      ((t.entryRecorded_stacked e v _ x).regs _ (ctl_notMem_excRegs (by omega)))
  case used => exact (starts.status _ (by decide) (by decide)).trans (State.ctxUsed_entryRecorded level)
  case ring => exact (start _).trans (State.get_handlerS_ring (vecRing_lt v _))
  case iel => exact (start _).trans ((State.get_handlerS_iel hp).trans (by rw [flags]))
  case resume => rw [State.on, start, State.get_handlerS_resume]; rfl
  case rest =>
    have apart : ∀ f ∈ [ENG_S.z, ENG_S.n, ENG_S.c, ENG_S.v, ENG_S.ct, ENG_S.rm, ENG_S.te_iv, ENG_S.te_dz, ENG_S.te_of, ENG_S.te_uf,
        ENG_S.te_ix], f.lo ≤ f.hi ∧ (f.hi < 24 ∨ f.lo = 30 ∧ f.hi = 30) := by decide
    exact fun f hf => (start f).trans ((State.get_handlerS_other (apart f hf).1 (apart f hf).2).trans (flags f))
  case counts => exact starts.counts
  case rsv => exact ⟨by rw [engine]; rfl, starts.rsv⟩
  case pc => rw [engine]; rfl
  case bank =>
    intro hn
    have active : u.on (aENG_STATUS e) ENG_STATUS.active_bank = _ := congrArg (· != 0) (starts.status _ (by decide) (by decide))
    have sel : u.on (aENG_CTRL e) ENG_CTRL.bank_sel = _ := congrArg (getBits · ENG_CTRL.bank_sel != 0)
      (starts.frame.regs _ (ctl_notMem_startRegs (c := 0) (by decide)))
    rw [active, sel]
    exact h.bankStands bank _ hn
  case goes => rw [engine]; exact ⟨rfl, rfl⟩
  case regs => rw [engine]; exact ⟨h.live.a, h.live.e, h.live.x, h.live.y⟩
  case stack => rw [engine]; exact h.live.stack
  case frame => exact h.entry_frame starts

/-- A precise exception without a flag to raise enters its vector: the context goes to its bank, and the record names the slot (R248). -/
theorem State.raise_excepted {f : Flt} (h : s.Enterable e f.v) (bank : s.BankStands e) (hv : 1 ≤ f.v ∧ f.v ≤ 18) (early : f.early = false)
    (ue : f.ue = none) (raised : f.x.raised = none) (slot : f.x.slot = some k) (hk : k < 4) (s0 : State) :
    Excepted s (settle s0 (s.raise e f)) e f.v k := by
  have starts := State.enterAt_starts (v := f.v) (ring := vecRing f.v (s.vecWord e f.v)) (pc := vecPc (s.vecWord e f.v))
    (iel := if f.v = 18 then some 8 else none)
    (h.atEntry.bankStands (v := f.v) (x := f.x) bank (s.ctxUsed e))
  have fits (p : Nat) (hp : (if f.v = 18 then some 8 else none) = some p) : p < 16 := by
    have := Option.some.inj (Option.ite_none_right_eq_some.1 hp).2
    omega
  have entered := h.atEntry.entered h.level bank fits starts
  have taken : s.raise e f = s.takeVec e f.v (if f.v = 18 then some 8 else none) f.x none := by
    simp only [State.raise, ue, State.except, early]
  have recorded : Recorded (((s.giveWay e).readVec e f.v).1.entryRecorded e f.v (s.ctxUsed e) f.x) e f.v
      (s.ring e) k := by
    rw [← h.atEntry.ring]
    exact State.excRecord_recorded _ hv (Nat.mod_lt _ (by decide)) slot hk
  have later := recorded.of_reg (starts.frame.regs _ (ctl_notMem_startRegs (by decide)))
  rw [taken, h.takeVec_eq, h.atEntry.enterVec_eq bank h.goes h.level raised]
  exact { entered.settle s0 with valid := later.valid, vector := later.vector, from_ := later.from_, slot := later.slot }

end

end Sys2Proof.Machine
end

section
/-! The statement of the call stack's rules: calls and returns, and the gate fault that they raise (R218). -/

namespace Sys2Proof.Machine

section
variable {s : State} {e : Nat}

theorem State.slotCall_of_lt {b : Bundle} {t : Tgt} (h : (s.eng e).stack.length < 16) :
    s.slotCall e b t = .ret { next := some (s.targetOf e t), act := fun u => u.onStack e (List.cons
      { ret := s.seqPc e b, retRing := s.ring e, owner := s.ring e, gate := false }) } :=
  if_neg (by omega)

theorem State.slotCall_of_full {b : Bundle} {t : Tgt} (h : 16 ≤ (s.eng e).stack.length) : s.slotCall e b t = .badC 4 := if_pos h

theorem State.slotRet_of_call {x : CallEntry} {l : List CallEntry} (hs : (s.eng e).stack = x :: l) (hx : x.gate = false)
    (ho : x.owner = s.ring e) : s.slotRet e false = .ret { next := some x.ret, act := fun u => u.onStack e (List.drop 1) } := by
  simp only [State.slotRet, hs, hx, ho, and_self, if_true]
  rfl

theorem State.slotRet_of_other (h : ∀ x, (s.eng e).stack.head? = some x → x.gate = true ∨ x.owner ≠ s.ring e) :
    s.slotRet e false = .badC 4 := by
  unfold State.slotRet
  split
  · rename_i x l hs
    exact if_neg (fun hx => (h x (by rw [hs]; rfl)).elim (by simp [hx.1]) (fun ho => ho hx.2))
  · rfl

end

section
variable {s : State} {e : Eng} {ws : List Word} {g : Tgt}

/-- `CALL` goes through its bundle, whose value is that of its slot. -/
theorem exec_call (he : s.Executes e ws { c := some (.call g), len := ws.length }) :
    exec (.call e) s = .next (settle s (State.go e { c := some (.call g), len := ws.length } ws maxLoads s)) ∧
      s.evalBundle e { c := some (.call g), len := ws.length } (s.eng e).got =
        s.slotCall e { c := some (.call g), len := ws.length } g (s.eng e).got :=
  ⟨congrArg (fin s) (he.runOp rfl), State.evalBundle_c he.resume (.inr rfl)⟩

/-- `RET` goes through its bundle, whose value is that of its slot. -/
theorem exec_ret (he : s.Executes e ws { c := some .ret, len := ws.length }) :
    exec (.ret e) s = .next (settle s (State.go e { c := some .ret, len := ws.length } ws maxLoads s)) ∧
      s.evalBundle e { c := some .ret, len := ws.length } (s.eng e).got = s.slotRet e false (s.eng e).got :=
  ⟨congrArg (fin s) (he.runOp rfl), State.evalBundle_c he.resume (.inr rfl)⟩

/-- A fault of the C-slot raises its vector. -/
theorem State.Executes.faults {b : Bundle} {v : Nat} (he : s.Executes e ws b)
    (hv : s.evalBundle e b (s.eng e).got = Run.badC (α := Put) v (s.eng e).got) (h : s.Enterable e v) (h18 : 1 ≤ v ∧ v ≤ 18) :
    Excepted s (settle s (State.go e b ws maxLoads s)) e v 3 := by
  rw [State.Executes.raises hv]
  exact State.raise_excepted (f := { v := v, x := { slot := some 3 } }) h he.bank h18 rfl rfl rfl rfl (by decide) s

end

/-- Settles O18: the slot's value says what the bundle does to the call stack, or that it faults. -/
theorem callsAndReturns : Obligations.CallsAndReturns := by
  unfold Obligations.CallsAndReturns
  refine ⟨fun e s ws g he room quiet => ?_, fun e s ws x l he top gate owner quiet => ?_, fun e s ws g he full enter => ?_,
    fun e s ws he other enter => ?_⟩
  · obtain ⟨run, value⟩ := exec_call he
    rw [State.slotCall_of_lt room] at value
    have done := he.called rfl value quiet
    exact ⟨_, run, done.completed, done.stack, done.acc, done.flags, done.frame⟩
  · obtain ⟨run, value⟩ := exec_ret he
    rw [State.slotRet_of_call top gate owner] at value
    have done := he.called rfl value quiet
    exact ⟨_, run, done.completed, by rw [done.stack, top]; rfl, done.acc, done.flags, done.frame⟩
  · obtain ⟨run, value⟩ := exec_call he
    rw [State.slotCall_of_full full] at value
    exact ⟨_, run, he.faults value enter (by decide)⟩
  · obtain ⟨run, value⟩ := exec_ret he
    rw [State.slotRet_of_other other] at value
    exact ⟨_, run, he.faults value enter (by decide)⟩

end Sys2Proof.Machine
end

section
/-!
SUPPORT. What a write to a register leaves as it was (R7, R10): a field that no write reaches reads as before, and the access acts at
once when nothing holds it.
-/

namespace Sys2Proof.Machine

/-! ### The bits of a field -/

/-- A field's number is made of the field's bits alone. -/
theorem getBits_congr {w v : Word} {f : Fld} (h : ∀ i, f.lo ≤ i → i ≤ f.hi → w.getLsbD i = v.getLsbD i) : getBits w f = getBits v f := by
  refine Nat.eq_of_testBit_eq fun i => ?_
  simp only [getBits, Nat.testBit_mod_two_pow, Nat.testBit_div_two_pow]
  by_cases hi : i < f.width
  · have bit : w.getLsbD (i + f.lo) = v.getLsbD (i + f.lo) := h _ (by omega) (by unfold Fld.width at hi; omega)
    exact congrArg (decide (i < f.width) && ·) bit
  · simp [hi]

theorem Fld.mask_getLsbD (f : Fld) {i : Nat} (h : i < f.lo ∨ f.hi < i) : (BitVec.ofNat 32 f.mask).getLsbD i = false := by
  rw [BitVec.getLsbD_ofNat, Fld.mask, Nat.testBit_mul_two_pow, Nat.testBit_two_pow_sub_one]
  unfold Fld.width
  rcases h with h | h
  · simp [show ¬ f.lo ≤ i by omega]
  · simp [show ¬ i - f.lo < f.hi + 1 - f.lo by omega]

theorem putBits_getLsbD {w : Word} {f : Fld} {v i : Nat} (hf : f.lo ≤ f.hi) (h32 : f.hi < 32) (h : i < f.lo ∨ f.hi < i) :
    (putBits w f v).getLsbD i = w.getLsbD i := by
  have bit := getBits_putBits_ne (w := w) (v := v) (g := { f with hi := i, lo := i }) hf h32 le_rfl h.symm
  simp only [getBits, Fld.width, Nat.add_sub_cancel_left, pow_one] at bit
  simp only [BitVec.getLsbD, Nat.testBit_eq_decide_div_mod_eq, bit]

/-! ### A write of a word -/

/-- A write that reaches field `f` of a register leaves field `g` of it: `f` takes nothing of a written word, or shares no bit with `g`. -/
abbrev Fld.Spares (f g : Fld) : Prop :=
  f.acc ≠ .rw ∧ f.acc ≠ .w1c ∧ f.acc ≠ .w1s ∨ f.lo ≤ f.hi ∧ f.hi < 32 ∧ (f.hi < g.lo ∨ g.hi < f.lo)

theorem Fld.Spares.direct {f g : Fld} (h : f.Spares g) (w v : Word) {i : Nat} (hl : g.lo ≤ i) (hh : i ≤ g.hi) :
    (f.direct w v).getLsbD i = w.getLsbD i := by
  rcases h with ⟨rw, w1c, w1s⟩ | ⟨hf, h32, apart⟩
  · unfold Fld.direct
    split
    · contradiction
    · contradiction
    · contradiction
    · rfl
  · have out : i < f.lo ∨ f.hi < i := by omega
    unfold Fld.direct
    split
    · split
      · exact putBits_getLsbD hf h32 out
      · rfl
    · simpa [f.mask_getLsbD out] using BitVec.lt_of_getLsbD
    · simp [f.mask_getLsbD out]
    · rfl

theorem directWrite_getLsbD {fs : List Fld} {g : Fld} (h : ∀ f ∈ fs, f.Spares g) (w v : Word) {i : Nat} (hl : g.lo ≤ i) (hh : i ≤ g.hi) :
    (directWrite fs w v).getLsbD i = w.getLsbD i := by
  unfold directWrite
  induction fs generalizing w with
  | nil => rfl
  | cons f fs ih =>
    obtain ⟨hf, hfs⟩ := List.forall_mem_cons.1 h
    rw [List.foldl_cons, ih hfs, hf.direct w v hl hh]

section
variable (s : State) {a : Nat} {fs : List Fld} (v : Word)

theorem State.reg_storeDirect_ne {b : Nat} (h : b ≠ a) : (s.storeDirect a fs v).reg b = s.reg b := s.reg_setReg_ne _ h

/-- A field that the write spares reads as before: the bits that hardware has set in this tick stay, and are set already (R8). -/
theorem State.get_storeDirect {g : Fld} (h : ∀ f ∈ fs, f.Spares g) : (s.storeDirect a fs v).get a g = s.get a g := by
  have stored : (s.storeDirect a fs v).reg a = directWrite fs (s.reg a) v ||| (s.reg a &&& s.hwNow a) := s.reg_setReg_self a _
  refine getBits_congr fun i hl hh => ?_
  rw [stored, BitVec.getLsbD_or, BitVec.getLsbD_and, directWrite_getLsbD h _ _ hl hh]
  exact Bool.or_eq_left_iff_imp.2 fun set => (Bool.and_eq_true_iff.1 set).1

theorem State.on_storeDirect {g : Fld} (h : ∀ f ∈ fs, f.Spares g) : (s.storeDirect a fs v).on a g = s.on a g :=
  congrArg (· != 0) (s.get_storeDirect v h)

end

theorem SameButMem.storeDirect {s t : State} {rs es : List Nat} {m n a : Nat} (h : SameButMem s t rs es m n) (fs : List Fld) (v : Word)
    (ha : a ∈ rs) : SameButMem s (t.storeDirect a fs v) rs es m n :=
  (h.setReg a _ ha).upd rfl rfl rfl rfl rfl rfl

/-! ### The access -/

section
variable {s : State} {q : Req} {isl a : Nat} {w : Word} {eff : State → State}

/-- No memory is initialised under an address outside memory and the ports of queues. -/
theorem State.initAt_of_register (hm : isMem a = false) (hp : portOf a = none) : s.initAt a = false := by
  simp [State.initAt, hm, hp]

/-- A write that reaches its island, to an address that waits for no memory, acts at once. -/
theorem State.Reaches.cross_eq (h : s.Reaches q isl) (ha : s.initAt a = false) : s.cross q isl true a w eff = eff s := by
  obtain ⟨_, free⟩ := h
  simp [State.cross, free, ha]

theorem State.Reaches.write_eq {maxRing : Nat} (h : s.Reaches q isl) (hr : s.ringOf q ≤ maxRing) :
    s.write q isl maxRing eff = (eff s).reply q false 0 := by
  obtain ⟨admitted, _⟩ := h
  exact if_pos (by simp [admitted, hr])

end

end Sys2Proof.Machine
end

section
/-! The statement of the availability chapter about the primary pair: what a write to LOCKSTEP makes of it (R512). -/

namespace Sys2Proof.Machine

/-- Does a write of `w` to LOCKSTEP by requester `q`, in ring 0, switch the pairs: the conditions of R512. -/
def State.switches (s : State) (q : Req) (w : Word) : Bool :=
  let p := s.get aLOCKSTEP LOCKSTEP.primary
  getBits w LOCKSTEP.switch = 1 && reqNum q == 256 + p && !s.pairFailed 0 && !s.pairFailed 1 && s.alive (islSUP (1 - p)) &&
    !s.halted (256 + (1 - p))

/-- The state with `w` stored in the fields of LOCKSTEP that a write reaches directly, before switch acts. -/
def State.lockstepStored (s : State) (w : Word) : State := s.storeDirect aLOCKSTEP fLOCKSTEP w

section
variable (s : State) (w : Word)

theorem State.lockstepStored_primary : (s.lockstepStored w).get aLOCKSTEP LOCKSTEP.primary = s.get aLOCKSTEP LOCKSTEP.primary :=
  s.get_storeDirect w (by decide)

theorem State.lockstepStored_pairFailed (p : Nat) : (s.lockstepStored w).pairFailed p = s.pairFailed p := by
  unfold State.pairFailed
  split
  · exact s.on_storeDirect w (by decide)
  · exact s.on_storeDirect w (by decide)

theorem State.lockstepStored_alive (i : Nat) : (s.lockstepStored w).alive i = s.alive i :=
  congrArg (fun x : Word => x.getLsbD i) (s.reg_storeDirect_ne w (by decide))

theorem State.lockstepStored_halted (p : Nat) : (s.lockstepStored w).halted (256 + p) = s.halted (256 + p) := by
  have other : aENG_STATUS (256 + p) ≠ aLOCKSTEP := by simp [aENG_STATUS, engBase, aLOCKSTEP]; omega
  exact congrArg (fun x : Word => getBits x ENG_STATUS.halted != 0) (s.reg_storeDirect_ne w other)

/-- The stored word changes none of the conditions. -/
theorem State.lockstepStored_switches (q : Req) : (s.lockstepStored w).switches q w = s.switches q w := by
  simp only [State.switches, s.lockstepStored_primary, s.lockstepStored_pairFailed, s.lockstepStored_alive, s.lockstepStored_halted]

theorem State.lockstepStored_fab : (s.lockstepStored w).fab = s.fab := rfl

theorem State.lockstepStored_frame : SameBut s (s.lockstepStored w) [aLOCKSTEP] [] :=
  (SameButMem.refl s _ [] 0 0).storeDirect _ w (by simp)

end

/-- What a write to LOCKSTEP by ring 0 does: it stores its fields, and under R512's conditions makes the other pair primary. -/
theorem exec_lockstepSwitch {s : State} {q : Req} {w : Word} (reach : s.Reaches q islAON) (ring : s.ringOf q = 0) :
    exec (.lockstepSwitch q w) s = .next (State.reply (if s.switches q w then
      (s.lockstepStored w).set aLOCKSTEP LOCKSTEP.primary (1 - s.get aLOCKSTEP LOCKSTEP.primary) else s.lockstepStored w) q false 0) := by
  have crosses : s.crossTo q true aLOCKSTEP w (wrLockstep q w) = wrLockstep q w s :=
    reach.cross_eq (State.initAt_of_register (by decide) (by decide))
  have acts : wrLockstep q w s = State.reply (if (s.lockstepStored w).switches q w then
      (s.lockstepStored w).set aLOCKSTEP LOCKSTEP.primary (1 - (s.lockstepStored w).get aLOCKSTEP LOCKSTEP.primary)
      else s.lockstepStored w) q false 0 := reach.write_eq (by omega)
  calc exec (.lockstepSwitch q w) s = .next (s.crossTo q true aLOCKSTEP w (wrLockstep q w)) := rfl
    _ = _ := by rw [crosses, acts, s.lockstepStored_switches, s.lockstepStored_primary]

/-- Settles O58: where R512's conditions hold the field is set to the other pair, and where one fails it reads as before. -/
theorem switchMakesTheOtherPairPrimary : Obligations.SwitchMakesTheOtherPairPrimary := by
  unfold Obligations.SwitchMakesTheOtherPairPrimary
  refine fun q w s reach ring => ⟨fun asked primary sound0 sound1 alive runs => ?_, fun unmet => ?_⟩
  · have switches : s.switches q w = true := by simp [State.switches, asked, primary, sound0, sound1, alive, runs]
    refine ⟨_, exec_lockstepSwitch reach ring, ?_⟩
    rw [if_pos switches]
    have bit : 1 - s.get aLOCKSTEP LOCKSTEP.primary < 2 ^ LOCKSTEP.primary.width := Nat.lt_of_le_of_lt (Nat.sub_le ..) (by decide)
    refine ⟨?_, ?_, State.respOf_reply .., ((s.lockstepStored_frame w).set _ _ _ (by simp)).reply q false 0⟩
    · rw [State.get_reply, State.get_set_self _ _ (by decide) (by decide), Nat.mod_eq_of_lt bit]
    · rw [State.reply_fab, State.set_fab, State.lockstepStored_fab]
  · have stays : ¬ s.switches q w = true := by rcases unmet with h | h <;> simp [State.switches, h]
    refine ⟨_, exec_lockstepSwitch reach ring, ?_⟩
    rw [if_neg stays]
    exact ⟨s.lockstepStored_primary w, State.respOf_reply .., (s.lockstepStored_frame w).reply q false 0⟩

end Sys2Proof.Machine
end
